-- ==== Sys2Proof/Word.lean ====
section
/-! DEFINITION. The word types of the EZ4164 and their plainest arithmetic: bytes, axle time in ticks of 1.25 ns (R25),
and the exact numbers the rules compute in. -/

namespace Sys2Proof

/-- A byte of a frame, a memory or a network message. -/
abbrev Byte := BitVec 8

/-- `n` bytes of a number, least significant first (R3). -/
def bytesOf (n v : Nat) : List Byte := (List.range n).map fun i => BitVec.ofNat 8 (v / 256 ^ i)

/-- Axle time in ticks of 1.25 ns (R25). -/
abbrev Axt := BitVec 64

/-- Ticks of axle time in one microsecond (800 MHz, R25). -/
abbrev usTicks : Nat := 800

/-- Ticks of axle time in one millisecond. -/
abbrev msTicks : Nat := 800000

/-- Ticks of axle time in one second. -/
abbrev sTicks : Nat := 800000000

end Sys2Proof
end

