-- ==== Sys2Proof/Syntax.lean ====
section
/-! DEFINITION. The commands of the EZ4164: one constructor of `Instr` for every row of spec/opcode_table.json, with
the data that the outside world (a host's bus, a sensor line, a gate-link driver, a supply) brings with it. Rows that
run a mailbox command carry no operands: their frame comes from the slot that the dispatcher accepted (R66). -/

namespace Sys2Proof

/-- The seven islands of R20. -/
inductive Island where
  | se | sc | ct | cv | hf | nw | pl
  deriving DecidableEq, Repr

/-- The classes of operation that thermal throttling spaces by pauses (R438). -/
inductive PauseClass where
  | dispatch | network | activation | flash | burst
  deriving DecidableEq, Repr

/-- The frame formats a CAN channel can receive (R460): classic, CAN FD with and without the bit-rate switch,
CAN XL, and a remote frame. -/
inductive CanFormat where
  | classic | fd | fdBrs | xl | remote
  deriving DecidableEq, Repr

/-- What a TAP operation on the debug and trace port asks for (R555). -/
inductive TapRequest where
  | runControl | trace | boundaryScan
  deriving DecidableEq, Repr

/-- One frame of the upstream pair of a gate link as the receiver hands it over: its code, its bytes from the first
after the code to the last before the CRC, the CRC-8 byte, and whether a 10-bit code error was met in it (R101). -/
structure UpFrame where
  code : BitVec 8
  bytes : List Byte
  crc : Byte
  codeError : Bool
  deriving DecidableEq, Repr

/-- What one training step of a gate link (R115) brings back. -/
inductive TrainResult where
  /-- The step met a failure (no lock, no answer in time). -/
  | failed
  /-- The step ended with nothing to report (pattern lock). -/
  | passed
  /-- The equaliser sweep: eye width, in steps, at each of the 16 settings. -/
  | eyes (widths : List Nat)
  /-- The driver's identification registers as read. -/
  | ident (vendor part : BitVec 16) (glv : BitVec 8) (lDrv : BitVec 16) (caps : BitVec 16)
  /-- The read-back of the registers the device wrote. -/
  | readBack (same : Bool)
  /-- The ECHO replies: round-trip time and turn-round time of each, in 156.25 ps steps. -/
  | echoes (replies : List (Nat × Nat))
  deriving DecidableEq, Repr

/-- What the two SC copies find at their pins and timers at one checkpoint (R412): the level of HVIL_SNS that each copy samples, the
contactor read-backs, and whether a copy's own work differs by an upset (a fault inside one copy; R417). -/
structure CheckInputs where
  hvilA : Bool
  hvilB : Bool
  contactors : BitVec 3
  upsetA : BitVec 64
  upsetB : BitVec 64
  deriving DecidableEq, Repr

/-- The commands. -/
inductive Instr where
  /-- XTAL_LOSS (R46). -/
  | xtalLoss
  /-- CLOCK_RECOVERY_COMPLETE (R46). -/
  | clockRecoveryComplete
  /-- PLL_UNLOCK (R47). -/
  | pllUnlock (isl : Island)
  /-- REFERENCE_TRIM (R22). -/
  | referenceTrim (isl : Island)
  /-- CONTROL_WORD_TIMEOUT (R31). -/
  | controlWordTimeout (chan : Fin 10)
  /-- CARRIER_PERIOD_START (R126). -/
  | carrierPeriodStart (g : Fin 8)
  /-- PLAN_CUTOFF (R128). -/
  | planCutoff (g : Fin 8)
  /-- TORQUE_TICK (R139). -/
  | torqueTick
  /-- TRACTION_SAMPLE (R139). -/
  | tractionSample (m : Fin 4)
  /-- OBSERVER_RETURN (R169). -/
  | observerReturn (m : Fin 4)
  /-- SETPOINT_AGED (R162). -/
  | setpointAged (m : Fin 4)
  /-- FW_LIMIT_ENGAGE (R165). -/
  | fwLimitEngage (m : Fin 4)
  /-- FW_LIMIT_RELEASE (R165). -/
  | fwLimitRelease (m : Fin 4)
  /-- TIMED_REQUEST_AT_CT (R38). -/
  | timedRequestAtCt
  /-- PRESET_AT_CT (R150). -/
  | presetAtCt (m : Fin 4)
  /-- FIRST_PLANNED_PERIOD (R150). -/
  | firstPlannedPeriod (m : Fin 4)
  /-- MAGNETISING_END (R151). -/
  | magnetisingEnd (m : Fin 4)
  /-- TRX_ENABLE (R147). -/
  | trxEnable
  /-- TRX_DISABLE (R152). -/
  | trxDisable
  /-- TRX_SET_TORQUE_AT (R154). -/
  | trxSetTorqueAt
  /-- TRX_SET_RETURN (R283). -/
  | trxSetReturn
  /-- SET_AUTO_RETURN (R279). -/
  | setAutoReturn (m : Fin 4) (set : Fin 2)
  /-- RETURN_RAMP_END (R280). -/
  | returnRampEnd (m : Fin 4) (set : Fin 2)
  /-- CONTEXT_TRIGGER (R180). -/
  | contextTrigger (c : Fin 64)
  /-- CONTEXT_DISPATCH (R182). -/
  | contextDispatch
  /-- CONTEXT_COMMIT (R189). -/
  | contextCommit (c : Fin 64)
  /-- LOOP_DEADLINE_MISS (R34). -/
  | loopDeadlineMiss (c : Fin 64)
  /-- LPE_ENABLE (R199). -/
  | lpeEnable
  /-- LPE_DISABLE (R199). -/
  | lpeDisable
  /-- LPE_BANK_SWAP (R192). -/
  | lpeBankSwap
  /-- LPE_PRESET (R198). -/
  | lpePreset
  /-- LPE_TRACE_ARM (R203). -/
  | lpeTraceArm
  /-- LPE_TRACE_STOP (R203). -/
  | lpeTraceStop
  /-- LPE_TRACE_READ (R204). -/
  | lpeTraceRead
  /-- TRACE_READ_DONE (R204). -/
  | traceReadDone (b : Fin 4)
  /-- SAMPLING_TRIGGER (R32). -/
  | samplingTrigger (k : Fin 12)
  /-- ADC_CONVERSION_DONE (R226). -/
  | adcConversionDone (k : Fin 12) (uV : Int)
  /-- INJECT_ARRIVAL (R218). -/
  | injectArrival (k : Fin 12)
  /-- INJECTED_RESULT (R221). -/
  | injectedResult (k : Fin 12) (uV : Int)
  /-- CAL_ACQUISITION_DONE (R234). -/
  | calAcquisitionDone (p : Fin 6) (evenUV oddUV : List Int)
  /-- ADC_INJECT (R241). -/
  | adcInject
  /-- ADC_SEQ_START (R241). -/
  | adcSeqStart
  /-- ADC_CAL (R231). -/
  | adcCal
  /-- REF_MONITOR_CHECK (R445). -/
  | refMonitorCheck (p : Fin 6) (ref25 refMid : Nat)
  /-- QUADRATURE_CHANGE (R249). -/
  | quadratureChange (p : Fin 4) (a b : Bool)
  /-- INDEX_EDGE (R250). -/
  | indexEdge (p : Fin 4)
  /-- HALL_CHANGE (R251). -/
  | hallChange (p : Fin 4) (h : BitVec 3)
  /-- POSITION_SAMPLE (R246). -/
  | positionSample (p : Fin 4)
  /-- STANDSTILL_TIMEOUT (R252). -/
  | standstillTimeout (p : Fin 4)
  /-- RESOLVER_PERIOD (R254). -/
  | resolverPeriod (p : Fin 4) (sinQ cosQ : BitVec 16)
  /-- SSI_FRAME_DONE (R256). -/
  | ssiFrameDone (p : Fin 4) (bits : BitVec 33) (idleHigh : Bool)
  /-- SENT_FRAME_RECEIVED (R257). -/
  | sentFrameReceived (p : Fin 4) (pause : Bool) (sync : Nat) (status : BitVec 4) (nibbles : List (BitVec 4)) (crc : BitVec 4)
  /-- SENT_STALE (R257). -/
  | sentStale (p : Fin 4)
  /-- PORT_RECOVER (R259). -/
  | portRecover (p : Fin 4)
  /-- POS_CLEAR (R260). -/
  | posClear
  /-- POS_PROBE_ARM (R262). -/
  | posProbeArm
  /-- POS_PROBE_READ (R262). -/
  | posProbeRead
  /-- PROBE_EDGE (R261). -/
  | probeEdge (n : Fin 4) (rising : Bool)
  /-- TRAINING_START (R115). -/
  | trainingStart (l : Fin 40)
  /-- TRAINING_STEP_END (R115). -/
  | trainingStepEnd (l : Fin 40) (r : TrainResult)
  /-- LINK_RETRAIN_TIMER (R115). -/
  | linkRetrainTimer (l : Fin 40)
  /-- CTLE_ADAPT (R96). -/
  | ctleAdapt (l : Fin 40) (here below above : Nat)
  /-- ECHO_TICK (R116). -/
  | echoTick
  /-- ECHO_REPLY_RECEIVED (R117). -/
  | echoReplyReceived (l : Fin 40) (rt : Nat) (f : UpFrame)
  /-- EDGE_TEL_RECEIVED (R131). -/
  | edgeTelReceived (l : Fin 40) (f : UpFrame)
  /-- STAT_RECEIVED (R109). -/
  | statReceived (l : Fin 40) (f : UpFrame)
  /-- ALARM_RECEIVED (R111). -/
  | alarmReceived (l : Fin 40) (f : UpFrame)
  /-- REG_REPLY_RECEIVED (R112). -/
  | regReplyReceived (l : Fin 40) (f : UpFrame)
  /-- REG_REPLY_TIMEOUT (R112). -/
  | regReplyTimeout (l : Fin 40)
  /-- STAT_TIMEOUT (R121). -/
  | statTimeout (l : Fin 40)
  /-- EDGE_TEL_TIMEOUT (R121). -/
  | edgeTelTimeout (l : Fin 40)
  /-- UPSTREAM_SYMBOL_LOSS (R121). -/
  | upstreamSymbolLoss (l : Fin 40) (crit : Fin 4)
  /-- FORCE_RESEND (R123). -/
  | forceResend
  /-- GLK_TRAIN (R137). -/
  | glkTrain
  /-- GLK_CLEAR_DRIVER (R137). -/
  | glkClearDriver
  /-- DOORBELL_WRITE (R65). -/
  | doorbellWrite (h : Fin 3) (op : BitVec 8) (data : List (BitVec 8))
  /-- COMPL_WRITE (R65). -/
  | complWrite (h : Fin 3) (op : BitVec 8) (data : List (BitVec 8))
  /-- SLOT_WRITE (R65). -/
  | slotWrite (h : Fin 3) (op : BitVec 8) (slot : Fin 8) (off : Nat) (data : List (BitVec 8))
  /-- EVT_TAIL_WRITE (R70). -/
  | evtTailWrite (h : Fin 3) (op : BitVec 8) (data : List (BitVec 8))
  /-- EVT_LOST_WRITE (R55). -/
  | evtLostWrite (h : Fin 3) (op : BitVec 8) (data : List (BitVec 8))
  /-- HEARTBEAT_WRITE (R80). -/
  | heartbeatWrite (h : Fin 3) (op : BitVec 8) (data : List (BitVec 8))
  /-- HOST_RESET (R92). -/
  | hostReset (h : Fin 3) (op : BitVec 8) (data : List (BitVec 8))
  /-- AXT_LO_READ (R55). -/
  | axtLoRead (h : Fin 3) (op : BitVec 8)
  /-- REGISTER_WRITE (R54). -/
  | registerWrite (h : Fin 3) (op : BitVec 8) (off : Nat) (data : List (BitVec 8))
  /-- XMEM_ACCESS (R88). -/
  | xmemAccess (h : Fin 2) (wr : Bool) (word : Fin 32768) (data : BitVec 32) (clk : Nat)
  /-- COMMAND_ACCEPT (R66). -/
  | commandAccept
  /-- COMMAND_COMPLETE (R69). -/
  | commandComplete
  /-- GET_OBJ (R75). -/
  | getObj
  /-- SET_OBJ (R75). -/
  | setObj
  /-- SET_OBJ_BATCH (R76). -/
  | setObjBatch
  /-- GET_OBJ_BLOCK (R76). -/
  | getObjBlock
  /-- COMMIT (R76). -/
  | commit
  /-- COMMIT_DONE (R76). -/
  | commitDone
  /-- CLAIM_GROUP (R79). -/
  | claimGroup
  /-- RELEASE_GROUP (R80). -/
  | releaseGroup
  /-- WITHDRAW (R62). -/
  | withdraw
  /-- SAFETY_OVERRIDE (R83). -/
  | safetyOverride
  /-- LEASE_TIMEOUT (R80). -/
  | leaseTimeout (h : Fin 4)
  /-- SAFETY_HOST_LAPSE (R85). -/
  | safetyHostLapse
  /-- HPN_POST (R87). -/
  | hpnPost (rec : List (BitVec 8))
  /-- HPN_RELEASE (R86). -/
  | hpnRelease (rec : List (BitVec 8))
  /-- HPN_EVENT_ACK (R86). -/
  | hpnEventAck (rec : List (BitVec 8))
  /-- HPN_HEARTBEAT (R86). -/
  | hpnHeartbeat (rec : List (BitVec 8))
  /-- HPN_HELLO (R502). -/
  | hpnHello (rec : List (BitVec 8))
  /-- HPN_RESET (R502). -/
  | hpnReset (rec : List (BitVec 8))
  /-- HPN_EVENT_RESEND (R87). -/
  | hpnEventResend
  /-- HPN_CHANNEL_TIMEOUT (R502). -/
  | hpnChannelTimeout
  /-- DCL_CLOSE (R289). -/
  | dclClose
  /-- DCL_OPEN (R292). -/
  | dclOpen
  /-- DCL_CHOP_CLEAR (R300). -/
  | dclChopClear
  /-- DCL_HWOV_CLEAR (R305). -/
  | dclHwovClear
  /-- CLOSE_STEP_TIMER (R290). -/
  | closeStepTimer
  /-- PRECHARGE_TIMEOUT (R290). -/
  | prechargeTimeout
  /-- OPENING_STEP (R292). -/
  | openingStep
  /-- LINK_VOLTAGE_SAMPLE (R287). -/
  | linkVoltageSample
  /-- OVA_END (R303). -/
  | ovaEnd
  /-- LINK_SOURCE_TIMEOUT (R287). -/
  | linkSourceTimeout (n : Fin 2)
  /-- LINK_SOURCE_MISMATCH (R287). -/
  | linkSourceMismatch
  /-- HVIL_OPEN (R294). -/
  | hvilOpen
  /-- HVIL_CLOSED (R294). -/
  | hvilClosed
  /-- BMS_STALE (R296). -/
  | bmsStale
  /-- HW_OV_TRIP (R304). -/
  | hwOvTrip
  /-- HW_OV_ASC (R304). -/
  | hwOvAsc
  /-- CHG_START (R323). -/
  | chgStart
  /-- CHG_STOP (R341). -/
  | chgStop
  /-- CHG_RESEARCH (R341). -/
  | chgResearch
  /-- PILOT_EDGE (R317). -/
  | pilotEdge (rising : Bool) (t : Nat)
  /-- PILOT_RISE_HOLD (R320). -/
  | pilotRiseHold
  /-- PROXIMITY_TICK (R321). -/
  | proximityTick
  /-- LINE_CYCLE_MEASURE (R325). -/
  | lineCycleMeasure
  /-- QUALIFY_END (R325). -/
  | qualifyEnd
  /-- QUALIFY_NO_AC (R325). -/
  | qualifyNoAc
  /-- CHG_SEL_SETTLE (R314). -/
  | chgSelSettle
  /-- SEARCH_STEP_END (R327). -/
  | searchStepEnd
  /-- SOURCE_CUT (R328). -/
  | sourceCut
  /-- SOURCE_PROBE (R328). -/
  | sourceProbe
  /-- PV_PO_TICK (R330). -/
  | pvPoTick
  /-- PV_LIMIT_EXIT (R331). -/
  | pvLimitExit
  /-- PV_SWEEP_START (R332). -/
  | pvSweepStart
  /-- PV_SWEEP_END (R332). -/
  | pvSweepEnd
  /-- BAT_TEMP_STALE (R333). -/
  | batTempStale
  /-- CHG_STOP_COMPLETE (R337). -/
  | chgStopComplete
  /-- CHG_RESUME (R339). -/
  | chgResume
  /-- AUX_START (R350). -/
  | auxStart
  /-- AUX_STOP (R364). -/
  | auxStop
  /-- AUX_CLEAR (R364). -/
  | auxClear
  /-- SS_TIMEOUT (R352). -/
  | ssTimeout
  /-- HICCUP_END (R352). -/
  | hiccupEnd
  /-- RESTART_COUNT_CLEAR (R352). -/
  | restartCountClear
  /-- OVERLOAD_TIMEOUT (R353). -/
  | overloadTimeout
  /-- PHASE_PEAK_TRIP (R352). -/
  | phasePeakTrip (k : Fin 8)
  /-- OVERSHOOT_TRIP (R354). -/
  | overshootTrip
  /-- CHISEL_RELEASE (R354). -/
  | chiselRelease
  /-- UNDERSHOOT_TRIP (R355). -/
  | undershootTrip
  /-- BAND_HOLD_MET (R355). -/
  | bandHoldMet
  /-- SHED_WAIT_EXPIRY (R356). -/
  | shedWaitExpiry
  /-- BURST_ENTRY (R357). -/
  | burstEntry
  /-- AUX_SYNC_EDGE (R358). -/
  | auxSyncEdge (t : Nat)
  /-- SYNC_LOST (R359). -/
  | syncLost
  /-- SYNC_HOLD_END (R359). -/
  | syncHoldEnd
  /-- TRIM_ENGAGE (R360). -/
  | trimEngage
  /-- AUX_PHASE_REJOIN (R361). -/
  | auxPhaseRejoin (k : Fin 8)
  /-- AUX_INPUT_LOW (R362). -/
  | auxInputLow
  /-- AUX_AUTO_RESTART (R362). -/
  | auxAutoRestart
  /-- AMC_START (R371). -/
  | amcStart
  /-- AMC_STOP (R391). -/
  | amcStop
  /-- AMC_MOVE (R382). -/
  | amcMove
  /-- AMC_HOME (R383). -/
  | amcHome
  /-- PARK_ENGAGE (R386). -/
  | parkEngage
  /-- PARK_RELEASE (R385). -/
  | parkRelease
  /-- AMC_CLEAR (R391). -/
  | amcClear
  /-- BEMF_CROSSING (R368). -/
  | bemfCrossing (k : Fin 6) (phase : Fin 3) (rising : Bool)
  /-- COMMUTATION (R368). -/
  | commutation (k : Fin 6)
  /-- AMC_PEAK_TRIP (R370). -/
  | amcPeakTrip (k : Fin 6) (ns : Nat) (level : BitVec 8)
  /-- LISTEN_END (R372). -/
  | listenEnd (k : Fin 6)
  /-- BRAKE_PULSE_END (R373). -/
  | brakePulseEnd (k : Fin 6)
  /-- BRAKE_TIMEOUT (R373). -/
  | brakeTimeout (k : Fin 6)
  /-- REV_WAIT_END (R373). -/
  | revWaitEnd (k : Fin 6)
  /-- ALIGN_END (R374). -/
  | alignEnd (k : Fin 6)
  /-- START_RETRY_DELAY (R374). -/
  | startRetryDelay (k : Fin 6)
  /-- STALL_DETECT (R380). -/
  | stallDetect (k : Fin 6)
  /-- CURVE_EVAL (R378). -/
  | curveEval (k : Fin 6)
  /-- CURVE_INPUT_TIMEOUT (R379). -/
  | curveInputTimeout (k : Fin 6)
  /-- PARK_ENGAGE_CLEAR (R386). -/
  | parkEngageClear
  /-- PARK_RETRY (R385). -/
  | parkRetry
  /-- HANDOVER_TO_PACK (R397). -/
  | handoverToPack (kab : Nat) (held : Nat)
  /-- PATH_SWITCH_TIMER (R397). -/
  | pathSwitchTimer
  /-- SOURCE_DEBOUNCE_END (R398). -/
  | sourceDebounceEnd (kab : Nat) (held : Nat)
  /-- SOURCE_QUALIFIED (R398). -/
  | sourceQualified (kab : Nat) (held : Nat)
  /-- PACK_CUTOFF (R399). -/
  | packCutoff
  /-- PACK_SWITCH_OFF (R399). -/
  | packSwitchOff
  /-- PACK_SEEN (R402). -/
  | packSeen
  /-- PACK_QUALIFY_END (R402). -/
  | packQualifyEnd
  /-- RECHARGE_CHECK (R403). -/
  | rechargeCheck
  /-- RPK_RESUME (R404). -/
  | rpkResume
  /-- NDV_CHECK (R405). -/
  | ndvCheck
  /-- DTDT_CHECK (R405). -/
  | dtdtCheck
  /-- PACK_OVERVOLT_TRIP (R406). -/
  | packOvervoltTrip (mv : Nat)
  /-- CHARGE_CURRENT_LOST (R406). -/
  | chargeCurrentLost (ns ma : Nat)
  /-- RPK_CHARGE (R408). -/
  | rpkCharge
  /-- CHECKPOINT (R412). -/
  | checkpoint (inp : CheckInputs)
  /-- CHECKPOINT_MISS (R412). -/
  | checkpointMiss (copy : Fin 2)
  /-- WINDOW_COMPARE (R418). -/
  | windowCompare
  /-- PTG_SPLIT (R426). -/
  | ptgSplit
  /-- PTG_JOIN (R428). -/
  | ptgJoin
  /-- PTG_CLEAR (R423). -/
  | ptgClear
  /-- SPLIT_MAX_EXPIRY (R428). -/
  | splitMaxExpiry
  /-- THERMAL_SAMPLE (R434). -/
  | thermalSample (n : Fin 16) (tenths : Int)
  /-- SAMPLE_RATE_RELAX (R434). -/
  | sampleRateRelax (n : Fin 16)
  /-- PAUSE_END (R438). -/
  | pauseEnd (cls : PauseClass)
  /-- BST_CYCLE_START (R443). -/
  | bstCycleStart
  /-- BST_INSTANCE_DONE (R449). -/
  | bstInstanceDone (pass : Bool) (preempted : Bool)
  /-- BST_RUN (R457). -/
  | bstRun
  /-- PATINA_STEP (R452). -/
  | patinaStep (m : Fin 4) (ok : Bool) (hit : Bool)
  /-- MEM_CORRECTED_ERROR (R454). -/
  | memCorrectedError (m : Fin 4)
  /-- MEM_UNCORRECTABLE_ERROR (R454). -/
  | memUncorrectableError (m : Fin 4) (addr : BitVec 22)
  /-- MEM_PARITY_ERROR (R454). -/
  | memParityError (m : Fin 4) (addr : BitVec 22)
  /-- CAN_FRAME_RECEIVED (R473). -/
  | canFrameReceived (n : Fin 4) (ext : Bool) (fmt : CanFormat) (id : BitVec 29) (data : List (BitVec 8))
  /-- PG_DATAGRAM_RECEIVED (R465). -/
  | pgDatagramReceived (e : Fin 4) (node : BitVec 8) (mac : BitVec 48) (ip : BitVec 32) (data : List (BitVec 8))
  /-- CAN_ERROR_PASSIVE (R463). -/
  | canErrorPassive (n : Fin 4) (tec rxc : BitVec 8)
  /-- CAN_BUS_OFF (R463). -/
  | canBusOff (n : Fin 4)
  /-- CAN_BUS_OFF_RECOVERY (R463). -/
  | canBusOffRecovery (n : Fin 4)
  /-- CLAIM_WAIT_END (R467). -/
  | claimWaitEnd (n : Fin 4)
  /-- CANNOT_CLAIM_DELAY (R467). -/
  | cannotClaimDelay (n : Fin 4)
  /-- IL_ANNOUNCE (R468). -/
  | ilAnnounce (port : Fin 8)
  /-- ETH_LINK_CHANGE (R464). -/
  | ethLinkChange (e : Fin 4) (up : Bool)
  /-- PLCA_BEACON_LOSS (R464). -/
  | plcaBeaconLoss (e : Fin 2)
  /-- PLCA_BEACON_REGAINED (R464). -/
  | plcaBeaconRegained (e : Fin 2)
  /-- PARTNER_TIMEOUT (R472). -/
  | partnerTimeout (entry : Nat)
  /-- TP_TIMEOUT (R474). -/
  | tpTimeout (row : Nat)
  /-- MAP_TX_CYCLE (R477). -/
  | mapTxCycle (entry : Fin 256)
  /-- MAP_TX_EXPIRED (R477). -/
  | mapTxExpired (entry : Fin 256)
  /-- MAP_RX_TIMEOUT (R476). -/
  | mapRxTimeout (entry : Fin 256)
  /-- NET_TX_DONE (R479). -/
  | netTxDone (port : Fin 8) (ok : Bool)
  /-- NET_CAN_RESTART (R479). -/
  | netCanRestart
  /-- NET_CLAIM (R479). -/
  | netClaim
  /-- NET_PARTNER_READ (R479). -/
  | netPartnerRead
  /-- NET_PARTNER_PIN (R479). -/
  | netPartnerPin
  /-- NET_SEND (R479). -/
  | netSend
  /-- SESSION_OPEN (R483). -/
  | sessionOpen
  /-- SESSION_CLOSE (R485). -/
  | sessionClose
  /-- TOKEN_VERIFY_DONE (R483). -/
  | tokenVerifyDone (h : Fin 4)
  /-- SESSION_IDLE_TIMEOUT (R485). -/
  | sessionIdleTimeout (h : Fin 4)
  /-- SEC_LC_STEP (R490). -/
  | secLcStep
  /-- LC_STEP_DONE (R491). -/
  | lcStepDone
  /-- SEC_MAKER_KEY (R492). -/
  | secMakerKey
  /-- SEC_ATTEST (R499). -/
  | secAttest
  /-- ATTEST_DONE (R497). -/
  | attestDone
  /-- SEC_GET_CERT (R499). -/
  | secGetCert
  /-- KEY_DERIVATION_DONE (R496). -/
  | keyDerivationDone
  /-- TETAS_STAGE (R501). -/
  | tetasStage
  /-- TETAS_INSTALL (R501). -/
  | tetasInstall
  /-- TETAS_INSTALL_DONE (R501). -/
  | tetasInstallDone
  /-- LOG_READ (R505). -/
  | logRead
  /-- AUDIT_QUEUE_FLUSH (R504). -/
  | auditQueueFlush
  /-- TAMPER_DETECT (R493). -/
  | tamperDetect (sensor : Fin 6)
  /-- UPD_BEGIN (R513). -/
  | updBegin
  /-- UPD_WRITE (R513). -/
  | updWrite
  /-- UPD_VERIFY (R514). -/
  | updVerify
  /-- UPD_ACTIVATE (R518). -/
  | updActivate
  /-- UPD_COMMIT (R522). -/
  | updCommit
  /-- UPD_ROLLBACK (R523). -/
  | updRollback
  /-- UPD_ABORT (R513). -/
  | updAbort
  /-- UPD_FLASH_DONE (R513). -/
  | updFlashDone (isl : Fin 6)
  /-- ACTIVATION_DONE (R518). -/
  | activationDone (isl : Fin 6) (started : Bool)
  /-- COLD_RESET (R533). -/
  | coldReset
  /-- VSTBY_LOSS (R530). -/
  | vstbyLoss
  /-- BROWNOUT (R533). -/
  | brownout
  /-- KEEPALIVE_CTR_RELEASE (R563). -/
  | keepaliveCtrRelease (ctr : Fin 3)
  /-- VMAIN_RETURN (R532). -/
  | vmainReturn (thermalAgain : Bool)
  /-- PIN_RESET (R533). -/
  | pinReset
  /-- WATCHDOG_EXPIRY (R533). -/
  | watchdogExpiry (isl : Island) (retainedBad : Bool)
  /-- VIO_BANK_LOSS (R529). -/
  | vioBankLoss (b : Fin 3)
  /-- BOOT_COMPLETE (R531). -/
  | bootComplete (bad : List (Fin 6 × Bool))
  /-- POWER_STATE_CHOICE (R544). -/
  | powerStateChoice (vmain vstby : Nat)
  /-- DWELL_EXPIRY (R544). -/
  | dwellExpiry
  /-- DEEP_ENTRY_COMPLETE (R545). -/
  | deepEntryComplete
  /-- WAKE_EVENT (R546). -/
  | wakeEvent (src : Fin 16)
  /-- WAKE_TIMER (R546). -/
  | wakeTimer
  /-- WAKE_HOLD_END (R543). -/
  | wakeHoldEnd
  /-- PWR_END_HOLD (R548). -/
  | pwrEndHold
  /-- PLINTH_PACK_HANDOVER (R541). -/
  | plinthPackHandover (kab : Nat)
  /-- NAP_SPEED_SAMPLE (R539). -/
  | napSpeedSample (m : Fin 4)
  /-- XTAL_RETURN (R46). -/
  | xtalReturn
  /-- PLL_RELOCK (R47). -/
  | pllRelock (isl : Island)
  /-- SOURCE_ABSENT (R398). -/
  | sourceAbsent (kab : Nat)
  /-- RPK_LATE_PAUSE_END (R403). -/
  | rpkLatePauseEnd
  /-- VIO_BANK_RETURN (R529). -/
  | vioBankReturn (b : Fin 3)
  /-- DEBUG_TAP_ACCESS (R555). -/
  | debugTapAccess (req : TapRequest)
  /-- ARP_OR_ICMP_ECHO_REQUEST (R465). -/
  | arpOrIcmpEchoRequest (e : Fin 4) (icmp : Bool) (target : BitVec 32) (mac : BitVec 48) (ip : BitVec 32) (data : List (BitVec 8))
  deriving DecidableEq, Repr

end Sys2Proof
end

