-- ==== Sys2Proof/Config.lean ====
section
/-! DEFINITION. What an implementation fixes and what the spec leaves open: every value left open is an opaque constant, so no proof
can see a value of it, and a claim holds whatever the value is. -/

namespace Sys2Proof.Config

/-- A free value (a read that collides in the exchange memory, R89; log 20): the counter of State it is applied to
makes each use a fresh one. -/
opaque freeValue : Nat → BitVec 32

/-- A byte of the exchange memory that nothing has written since a reset or a stay in PARK or SEALED left its contents
undefined, by the count of those and the address (R91; log 20). -/
opaque undefByte : Nat → Nat → Byte

/-- The current on an axis one interval ahead by the RL_PHASE model, in amperes, from the machine's type, the axis, its
parameters (rs, ld, lq, psi, or rs, ld, lm, lr, rr), the interval in seconds, currents and applied voltages d and q, electrical
speed in radians per second, and rotor flux (R194; log 26). -/
opaque rlPredict : Nat → Nat → List Rat → Rat → List Rat → Rat → Rat → Rat

/-- The prediction that a model gives where its binary32 arithmetic ends in no number (a voltage whose square would be negative), by
context, channel and sample instant (R194; log 5). -/
opaque noNumber : Nat → Nat → Nat → Int

/-- The extended back-EMF on an axis of the observer's frame in volts, from the axis, the machine's parameters, the interval, the
voltages d and q and the currents d and q in that frame now and at the sample before, the observer's electrical speed and the last
estimates (R197; log 26). -/
opaque backEmf : Nat → List Rat → Rat → List Rat → Rat → List Rat → Rat

/-- What the tracking loop of bandwidth P0 and damping P1 adds to angle (2^−16 turn) and speed (rpm) in one step to drive a d
component that is not zero toward zero, from P0, P1, the interval, the back-EMF d and q, angle and speed (R197; log 26). -/
opaque trackLoop : Rat → Rat → Rat → List Rat → Nat → Rat → Int × Rat

/-- The rotor flux of a type 3 machine after an interval, from its parameters, the interval, the d current and the flux before
(R194, R197; log 26). -/
opaque rotorFlux : List Rat → Rat → Rat → Rat → Rat

/-- The slip of a type 3 machine in turns of electrical angle per second, from its parameters, the q current and the rotor flux
(R163; log 26). -/
opaque slipSpeed : List Rat → Rat → Rat → Rat

/-- How far an AXT follower stands from CT's count at an instant, the followers in the order of `State.follow` (R26); used
clamped to its bound (log 12). -/
opaque followerSkew : Nat → Nat → Int

/-- What production programs into OTP: the device identity, the Ethernet MAC addresses, the Kijorvo image key
(log 10). -/
opaque deviceId : BitVec 64
opaque macAddress : Nat → BitVec 48
opaque kijorvoBits : BitVec 544
def kijorvoKey : List Byte := bytesOf 68 kijorvoBits.toNat

/-- The identity public key, and the attestation public key of a life-cycle state and epoch (R496; log 7). -/
opaque idPub : BitVec 544
opaque attPub : Nat → Nat → BitVec 544

/-- SHAKE256 of a byte string, so many bytes of output (log 7). -/
opaque shakeBits : List Byte → Nat → Nat
def shake256 (m : List Byte) (n : Nat) : List Byte := bytesOf n (shakeBits m n)

/-- KMAC256 of key, message, output length in bytes and customisation string (R502; log 7). -/
opaque kmacBits : List Byte → List Byte → Nat → String → Nat
def kmac256 (k m : List Byte) (n : Nat) (custom : String) : List Byte := bytesOf n (kmacBits k m n custom)

/-- Whether an XMSS signature verifies: public key, message, signature (R494; log 7). -/
opaque xmssVerify : List Byte → List Byte → List Byte → Bool

/-- The signature of the identity (false) or attestation (true) key of a life-cycle state and epoch over a message
with a leaf index: 2,820 bytes (R497; log 7). -/
opaque xmssBits : Bool → Nat → Nat → Nat → List Byte → Nat
def xmssSign (att : Bool) (lc epoch leaf : Nat) (m : List Byte) : List Byte := bytesOf 2820 (xmssBits att lc epoch leaf m)

/-- Whether a word of the Mordant store still does not read back 0 after the third try of a wipe (R455; log 20). -/
opaque wipeFails : Nat → Bool

/-- The device's nonce in HELLO_ACK (R502; log 7). -/
opaque nonceBits : Nat → BitVec 256
def nonce (n : Nat) : List Byte := bytesOf 32 (nonceBits n).toNat

/-- The speed terms of the RL_PHASE model of a type 3 machine on an axis, from its parameters (rs, ld, lm, lr, rr), currents d and q
(A), rotor flux (V·s) and electrical speed (radians per second), in volts (R194, R585; log 26). -/
opaque speedTerms : Nat → List Rat → Rat → Rat → Rat → Rat → Rat

/-- The angle, in turns from 0 to below 1, whose sine and cosine stand in the ratio of two demodulated resolver samples (R254;
log 193). -/
opaque resolverAngle : Int → Int → Rat

/-- Proportional and integral gain, by bandwidth (Hz) and interval (ticks), of the type II tracking loop of a resolver port: turns and
turns per tick for each turn of error (R254; log 193). -/
opaque resolverGains : Nat → Nat → Rat × Rat

/-- The unit sine of the line of PFC leg `k` that the charger's line phase-locked loop gives at an instant (R316;
log 32). -/
opaque lineSine : Nat → Nat → Rat

/-- The common part of three phase voltages in volts that the planner adds, for phase voltages and link voltage (R188;
log 38). -/
opaque zeroSequence : Rat → Rat → Rat → Rat → Rat

/-- What a plan of the bridge with dropped pulses schedules, as the output of its shift context: context, output asked for, and the
duty that each of the four legs is left with (R195; log 41). -/
opaque scheduledShift : Nat → Int → List Rat → Int

/-- The proximity resistance in ohms for a reading of result 266 (R321; log 32). -/
opaque proximityOhms : Int → Nat

end Sys2Proof.Config
end

