-- ==== Sys2Proof/Machine/Operands.lean ====
section
/-! DEFINITION. Operand forms: little-endian fields (R3), the CRCs (R60, R101, R417), the number formats of objects
(R8) and the roundings the rules name. -/

namespace Sys2Proof.Machine

/-- The number a little-endian byte string spells (R3). -/
def leNat : List Byte → Nat
  | [] => 0
  | b :: bs => b.toNat + 256 * leNat bs

/-- `n` bytes of a number, least significant first (R3). -/
def toLe : Nat → Nat → List Byte
  | 0, _ => []
  | n + 1, v => BitVec.ofNat 8 (v % 256) :: toLe n (v / 256)

/-- The field of `n` bytes at byte `off` of a frame. -/
def fieldAt (bs : List Byte) (off n : Nat) : Nat := leNat ((bs.drop off).take n)

/-- Bits [hi:lo] of a number. -/
def bitsOf (v hi lo : Nat) : Nat := (v / 2 ^ lo) % 2 ^ (hi + 1 - lo)

/-- Bit `k` of a number. -/
def bitOf (v k : Nat) : Bool := v.testBit k

/-- `v` with bits [hi:lo] replaced by `x`. -/
def putBits (v hi lo x : Nat) : Nat :=
  v - bitsOf v hi lo * 2 ^ lo + (x % 2 ^ (hi + 1 - lo)) * 2 ^ lo

/-- One bit step of the reflected CRC-32C, polynomial 0x82F6_3B78 (R60). -/
def crc32cBit (c : BitVec 32) : BitVec 32 := if c.getLsbD 0 then (c >>> 1) ^^^ 0x82F63B78#32 else c >>> 1

/-- One byte of CRC-32C. -/
def crc32cByte (c : BitVec 32) (b : Byte) : BitVec 32 :=
  (List.range 8).foldl (fun c _ => crc32cBit c) (c ^^^ b.setWidth 32)

/-- CRC-32C of a byte string (R60). -/
def crc32c (bs : List Byte) : Nat := ((bs.foldl crc32cByte 0xFFFFFFFF#32) ^^^ 0xFFFFFFFF#32).toNat

/-- CRC-8 of a link frame: polynomial 0x2F, initial value 0xFF, no reflection, final XOR 0xFF (R101). -/
def crc8 (bs : List Byte) : Byte :=
  (bs.foldl (fun c b => (List.range 8).foldl (fun (c : Byte) _ =>
    if c.getLsbD 7 then (c <<< 1) ^^^ 0x2F#8 else c <<< 1) (c ^^^ b)) 0xFF#8) ^^^ 0xFF#8

/-- One byte of the CRC-64 of the checkpoint signature, polynomial 0x42F0_E1EB_A9EA_3693 (R417). -/
def crc64Byte (c : BitVec 64) (b : Byte) : BitVec 64 :=
  (List.range 8).foldl (fun (c : BitVec 64) _ =>
    if c.getLsbD 63 then (c <<< 1) ^^^ 0x42F0E1EBA9EA3693#64 else c <<< 1) (c ^^^ (b.setWidth 64 <<< 56))

/-- Round half away from zero. -/
def roundAway (q : Rat) : Int := if q < 0 then -((-q + 1 / 2).floor) else (q + 1 / 2).floor

/-- Truncate toward zero. -/
def truncZ (q : Rat) : Int := if q < 0 then -((-q).floor) else q.floor

/-- Clamp an integer between two bounds. -/
def clampI (x lo hi : Int) : Int := if x < lo then lo else if hi < x then hi else x

/-- Clamp a rational between two bounds. -/
def clampQ (x lo hi : Rat) : Rat := if x < lo then lo else if hi < x then hi else x

/-- Magnitude of a rational. -/
def absQ (x : Rat) : Rat := if x < 0 then -x else x

/-- Smaller and larger of two rationals. -/
def minQ (a b : Rat) : Rat := if b < a then b else a
def maxQ (a b : Rat) : Rat := if a < b then b else a

/-- The signed number of `w` bits that a bit pattern holds. -/
def toSigned (w v : Nat) : Int := if v % 2 ^ w < 2 ^ (w - 1) then (v % 2 ^ w : Nat) else (v % 2 ^ w : Nat) - (2 ^ w : Nat)

/-- The pattern of `w` bits of a signed number. -/
def ofSigned (w : Nat) (x : Int) : Nat := (x % (2 ^ w : Nat)).toNat

/-- The fraction an S20 object holds, in units of 2^−19 (R8). -/
def s20Int (v : Nat) : Int := toSigned 20 v

/-- The S20 pattern of a fraction in units of 2^−19, sign-extended through bits [31:20] (R8). -/
def s20Bits (x : Int) : Nat := ofSigned 32 x

/-- Saturate to the S20 range, and to Q1.30 (R186). -/
def sat20 (x : Int) : Int := clampI x (-524288) 524287
def satQ30 (x : Int) : Int := clampI x (-2147483648) 2147483647

/-- The exact number a binary32 pattern stands for; NaN and the infinities, which no object holds after a write
(R10), read as 0. -/
def f32Val (v : Nat) : Rat :=
  let e := bitsOf v 30 23
  let m := bitsOf v 22 0
  let mag : Rat :=
    if e = 255 then 0
    else if e = 0 then (m : Rat) / (2 ^ 149 : Nat)
    else if e < 150 then ((8388608 + m : Nat) : Rat) / (2 ^ (150 - e) : Nat)
    else (((8388608 + m) * 2 ^ (e - 150) : Nat) : Rat)
  if bitOf v 31 then -mag else mag

/-- A non-negative rational rounded to the nearest whole number, ties to the even one. -/
def roundEven (q : Rat) : Nat :=
  let n := q.floor.toNat
  let r := q - (n : Nat)
  if r < 1 / 2 then n else if 1 / 2 < r then n + 1 else n + n % 2

/-- The exponent of a positive rational: 2 to it is the largest power of 2 not above the number. -/
def exp2 (q : Rat) : Int :=
  let e : Int := (Nat.log2 q.num.toNat : Nat) - (Nat.log2 q.den : Nat)
  if q < (if 0 ≤ e then ((2 ^ e.toNat : Nat) : Rat) else 1 / (2 ^ (-e).toNat : Nat)) then e - 1 else e

/-- A rational times a power of 2. -/
def scale2 (q : Rat) (e : Int) : Rat := if 0 ≤ e then q * (2 ^ e.toNat : Nat) else q / (2 ^ (-e).toNat : Nat)

/-- The binary32 pattern nearest to a positive rational, ties to even; infinity beyond the range (R8; log 5). -/
def f32Mag (q : Rat) : Nat :=
  let e := max (exp2 q) (-126)
  let m := roundEven (scale2 q (23 - e))
  min (if m < 8388608 then m else ((e + 126) * 8388608).toNat + m) 0x7F800000

/-- The binary32 pattern of a result (R8; log 5). -/
def f32Of (q : Rat) : Nat := if q = 0 then 0 else if q < 0 then 0x80000000 + f32Mag (-q) else f32Mag q

/-- A value of binary32 arithmetic (R194): a number, an infinity with its sign (true negative), or no number. Zeros carry no sign. -/
inductive Flt where
  | num (q : Rat)
  | inf (neg : Bool)
  | nan
  deriving DecidableEq, Repr

/-- The value of a binary32 pattern, and of a result after rounding (log 5). -/
def Flt.ofBits (v : Nat) : Flt :=
  if bitsOf v 30 23 = 255 then (if bitsOf v 22 0 = 0 then .inf (bitOf v 31) else .nan) else .num (f32Val v)
def Flt.round (q : Rat) : Flt := if f32Of q % 2 ^ 31 = 0x7F800000 then .inf (decide (q < 0)) else .num (f32Val (f32Of q))

/-- Sum, negation, product, quotient and root in binary32 (R194). -/
def Flt.add : Flt → Flt → Flt
  | .num a, .num b => .round (a + b)
  | .inf x, .inf y => if x = y then .inf x else .nan
  | .inf x, .num _ => .inf x
  | .num _, .inf y => .inf y
  | _, _ => .nan
def Flt.neg : Flt → Flt
  | .num q => .num (-q)
  | .inf x => .inf (!x)
  | .nan => .nan
def Flt.sub (a b : Flt) : Flt := a.add b.neg
def Flt.mul : Flt → Flt → Flt
  | .num a, .num b => .round (a * b)
  | .inf x, .inf y => .inf (x != y)
  | .inf x, .num q | .num q, .inf x => if q = 0 then .nan else .inf (x != decide (q < 0))
  | _, _ => .nan
def Flt.div : Flt → Flt → Flt
  | .num a, .num b => if b = 0 then (if a = 0 then .nan else .inf (decide (a < 0))) else .round (a / b)
  | .num _, .inf _ => .num 0
  | .inf x, .num b => .inf (x != decide (b < 0))
  | _, _ => .nan

/-- NaN, an infinity or a subnormal number, which R10 refuses. -/
def f32Refused (v : Nat) : Bool := bitsOf v 30 23 == 255 || (bitsOf v 30 23 == 0 && bitsOf v 22 0 != 0)

/-! ### Irrational numbers

The rules use roots, π, sines and logarithms; the model computes them to 2^−64 or better (log 6). -/

/-- Newton's iteration for the whole square root, from above. -/
def isqrtGo : Nat → Nat → Nat → Nat
  | 0, _, x => x
  | k + 1, n, x => if (x + n / x) / 2 < x then isqrtGo k n ((x + n / x) / 2) else x

/-- The whole part of a square root. -/
def isqrt (n : Nat) : Nat := if n = 0 then 0 else isqrtGo (Nat.log2 n + 2) n (2 ^ (Nat.log2 n / 2 + 1))

/-- The square root: exact for the square of a rational, else down to a multiple of 2^−64 (log 6). -/
def sqrtQ (q : Rat) : Rat :=
  if q ≤ 0 then 0
  else
    let a := isqrt q.num.toNat
    let b := isqrt q.den
    if a * a = q.num.toNat ∧ b * b = q.den then (a : Rat) / b else (isqrt (q * (2 ^ 128 : Nat)).floor.toNat : Rat) / (2 ^ 64 : Nat)

/-- The root in binary32; that of a negative number is no number (R194). -/
def Flt.sqrt : Flt → Flt
  | .num q => if q < 0 then .nan else .round (sqrtQ q)
  | .inf x => if x then .nan else .inf false
  | .nan => .nan

/-- π and the natural logarithm of 2, in units of 2^−80 (log 6). -/
def piFx : Int := 3797952473636338580787994
def ln2Fx : Int := 837963523372001241319908
def piQ : Rat := (piFx : Rat) / (2 ^ 80 : Nat)

/-- A number in units of 2^−80, and a product of two. -/
def toFx (q : Rat) : Int := (q * (2 ^ 80 : Nat)).floor
def mulFx (a b : Int) : Int := (a * b).fdiv (2 ^ 80 : Nat)

/-- The power series of the cosine: `n` more terms after the term `t` of index `k`, for the square `x2` of the angle. -/
def cosGo : Nat → Nat → Int → Int → Int
  | 0, _, _, t => t
  | n + 1, k, x2, t => t + cosGo n (k + 1) x2 (-(mulFx t x2 / ((2 * k + 1) * (2 * k + 2) : Nat)))

/-- The cosine of a fraction of a turn (log 6). -/
def cosQ (t : Rat) : Rat :=
  let f := t - t.floor
  let h := if 1 / 2 < f then 1 - f else f
  if h = 0 then 1 else if h = 1 / 2 then -1 else if h = 1 / 4 then 0
  else
    let g := if 1 / 4 < h then 1 / 2 - h else h
    let x := toFx (2 * piQ * g)
    let c : Rat := (cosGo 20 0 (mulFx x x) (2 ^ 80 : Nat) : Rat) / (2 ^ 80 : Nat)
    if 1 / 4 < h then -c else c

/-- The sine of a fraction of a turn. -/
def sinQ (t : Rat) : Rat := cosQ (t - 1 / 4)

/-- The power series of the inverse hyperbolic tangent: `n` more terms of odd index from `k`, `p` the power of `z` there. -/
def atanhGo : Nat → Nat → Int → Int → Int
  | 0, _, _, _ => 0
  | n + 1, k, z2, p => p / (2 * k + 1 : Nat) + atanhGo n (k + 1) z2 (mulFx p z2)

/-- The natural logarithm of a positive number (log 6). -/
def lnQ (q : Rat) : Rat :=
  let e := exp2 q
  let m := scale2 q (-e)
  let z := toFx ((m - 1) / (m + 1))
  ((2 * atanhGo 30 0 (mulFx z z) z + ln2Fx * e : Int) : Rat) / (2 ^ 80 : Nat)

/-- The data lengths of an FD frame above 8 bytes. -/
def fdLengths : List Nat := [12, 16, 20, 24, 32, 48, 64]

/-- The data lengths that a frame of a format can carry (R460). -/
def canCarries (fmt : CanFormat) (len : Nat) : Bool :=
  match fmt with
  | .classic => len ≤ 8
  | .fd | .fdBrs => len ≤ 8 || fdLengths.contains len
  | .xl => 1 ≤ len && len ≤ 2048
  | .remote => len == 0

/-- A frame a CAN bus can carry: its length by its format, its identifier by its width (R460). -/
def canFrameFits (fmt : CanFormat) (ext : Bool) (id : BitVec 29) (len : Nat) : Bool :=
  canCarries fmt len && (ext || decide (id.toNat < 2048))

end Sys2Proof.Machine
end

