-- ==== Sys2Proof/Machine/Flags.lean ====
section
/-! DEFINITION. The status codes (R16), the sticky-flag bits of the status registers and the codes of the events. -/

namespace Sys2Proof.Machine

namespace St
def ok := 0x00
def pending := 0x01
def deferred := 0x02
def badCrc := 0x10
def badLen := 0x11
def badCmd := 0x12
def badObj := 0x13
def badCount := 0x14
def range := 0x15
def denied := 0x20
def notOwner := 0x21
def locked := 0x22
def state := 0x30
def busy := 0x31
def thermal := 0x32
def refused := 0x33
def late := 0x40
def fault := 0x41
end St

/-- The place of a status in the order of R19; a status R19 does not list comes last. -/
def statusRank (st : Nat) : Nat :=
  ([St.badCrc, St.badLen, St.badCmd, St.badObj, St.badCount, St.range, St.locked, St.denied, St.notOwner, St.state,
    St.thermal, St.busy, St.refused].findIdx? (· == st)).getD 13

/-- Whether a status ends a command without an effect: anything but ST_OK, ST_PENDING and ST_DEFERRED (R63). -/
def isError (st : Nat) : Bool := !(st == St.ok || st == St.pending || st == St.deferred)

end Sys2Proof.Machine
end

