-- ==== Sys2Proof/Machine/Ids.lean ====
section
/-! DEFINITION. The IDs of the objects (R7, R13), under the spec's dotted names written in camel case; an argument is
the instance (machine, link, context, converter, port, channel, ...). -/

namespace Sys2Proof.Machine.O

/-- sys.axt. -/
def sysAxt : Nat := 0x10
/-- sys.clk.spread_enable. -/
def sysClkSpreadEnable : Nat := 0x20
/-- sys.clk.spread_depth. -/
def sysClkSpreadDepth : Nat := 0x21
/-- sys.clk.spread_rate. -/
def sysClkSpreadRate : Nat := 0x22
/-- sys.clk.spread_islands. -/
def sysClkSpreadIslands : Nat := 0x23
/-- sys.clk.status. -/
def sysClkStatus : Nat := 0x24
/-- sys.xing.drop_flags. -/
def sysXingDropFlags : Nat := 0x30
/-- sys.late.flags. -/
def sysLateFlags : Nat := 0x31
/-- sys.host.present. -/
def sysHostPresent : Nat := 0x100
/-- sys.host.safety_host. -/
def sysHostSafetyHost : Nat := 0x101
/-- sys.host.claim_rank. -/
def sysHostClaimRank : Nat := 0x102
/-- sys.host.lease_owner. -/
def sysHostLeaseOwner : Nat := 0x103
/-- sys.host.override. -/
def sysHostOverride : Nat := 0x104
/-- sys.host.safety_watch. -/
def sysHostSafetyWatch : Nat := 0x105
/-- sys.host.hpn_port. -/
def sysHostHpnPort : Nat := 0x106
/-- sys.host.h0.evt_mask and its family. -/
def sysHostEvtMask (i : Nat) : Nat := 0x110 + i
/-- sys.host.h0.lease_timeout and its family. -/
def sysHostLeaseTimeout (i : Nat) : Nat := 0x118 + i
/-- pin.g0.filter and its family. -/
def pinFilter (i : Nat) : Nat := 0x300 + i
/-- pin.g0.slew and its family. -/
def pinSlew (i : Nat) : Nat := 0x320 + i
/-- pwr.state. -/
def pwrState : Nat := 0x1000
/-- pwr.target. -/
def pwrTarget : Nat := 0x1001
/-- pwr.limit. -/
def pwrLimit : Nat := 0x1002
/-- pwr.deepest. -/
def pwrDeepest : Nat := 0x1003
/-- pwr.dwell. -/
def pwrDwell : Nat := 0x1004
/-- pwr.wake_hold. -/
def pwrWakeHold : Nat := 0x1005
/-- pwr.wake_mask. -/
def pwrWakeMask : Nat := 0x1006
/-- pwr.wake_after. -/
def pwrWakeAfter : Nat := 0x1007
/-- pwr.reset_cause. -/
def pwrResetCause : Nat := 0x1008
/-- pwr.wake_cause. -/
def pwrWakeCause : Nat := 0x1009
/-- pwr.vmain. -/
def pwrVmain : Nat := 0x100a
/-- pwr.vstby. -/
def pwrVstby : Nat := 0x100b
/-- pwr.h0.tolerance and its family. -/
def pwrTolerance (i : Nat) : Nat := 0x1010 + i
/-- thm.state. -/
def thmState : Nat := 0x1400
/-- thm.flags. -/
def thmFlags : Nat := 0x1401
/-- thm.junction. -/
def thmJunction : Nat := 0x1402
/-- thm.trip_latch. -/
def thmTripLatch : Nat := 0x1403
/-- thm.factor. -/
def thmFactor : Nat := 0x1404
/-- thm.hyst. -/
def thmHyst : Nat := 0x1408
/-- thm.j_floor. -/
def thmJFloor : Nat := 0x1409
/-- thm.drv_start. -/
def thmDrvStart : Nat := 0x140a
/-- thm.drv_end. -/
def thmDrvEnd : Nat := 0x140b
/-- thm.wnd_start. -/
def thmWndStart : Nat := 0x140c
/-- thm.wnd_end. -/
def thmWndEnd : Nat := 0x140d
/-- thm.inlet_start. -/
def thmInletStart : Nat := 0x140e
/-- thm.inlet_end. -/
def thmInletEnd : Nat := 0x140f
/-- thm.pause_cmd. -/
def thmPauseCmd : Nat := 0x1410
/-- thm.pause_net. -/
def thmPauseNet : Nat := 0x1411
/-- thm.pause_act. -/
def thmPauseAct : Nat := 0x1412
/-- thm.pause_flash. -/
def thmPauseFlash : Nat := 0x1413
/-- thm.pause_burst. -/
def thmPauseBurst : Nat := 0x1414
/-- thm.t0 and its family. -/
def thmT (i : Nat) : Nat := 0x1440 + i
/-- thm.ntc0.src and its family. -/
def thmNtcSrc (i : Nat) : Nat := 0x1490 + i
/-- thm.ntc0.beta and its family. -/
def thmNtcBeta (i : Nat) : Nat := 0x14a0 + i
/-- thm.ntc0.r25 and its family. -/
def thmNtcR25 (i : Nat) : Nat := 0x14b0 + i
/-- thm.ntc0.rpull and its family. -/
def thmNtcRpull (i : Nat) : Nat := 0x14c0 + i
/-- sec.lc. -/
def secLc : Nat := 0x1800
/-- sec.device_id. -/
def secDeviceId : Nat := 0x1801
/-- sec.session. -/
def secSession : Nat := 0x1802
/-- sec.token_floor. -/
def secTokenFloor : Nat := 0x1803
/-- sec.tetas_serial. -/
def secTetasSerial : Nat := 0x1804
/-- sec.id_pub. -/
def secIdPub : Nat := 0x1805
/-- sec.att_pub. -/
def secAttPub : Nat := 0x1806
/-- sec.att_epoch. -/
def secAttEpoch : Nat := 0x1807
/-- sec.att_next. -/
def secAttNext : Nat := 0x1808
/-- sec.id_next. -/
def secIdNext : Nat := 0x1809
/-- sec.hpn_key. -/
def secHpnKey : Nat := 0x180a
/-- sec.tamper_enable. -/
def secTamperEnable : Nat := 0x180b
/-- sec.tamper_cause. -/
def secTamperCause : Nat := 0x180c
/-- sec.tamper_ack. -/
def secTamperAck : Nat := 0x180d
/-- sec.session_idle. -/
def secSessionIdle : Nat := 0x180e
/-- log.head. -/
def logHead : Nat := 0x1820
/-- log.chain. -/
def logChain : Nat := 0x1821
/-- log.count. -/
def logCount : Nat := 0x1822
/-- log.queued. -/
def logQueued : Nat := 0x1823
/-- upd.il. -/
def updIl : Nat := 0x1c00
/-- upd.busy. -/
def updBusy : Nat := 0x1c01
/-- upd.i0.running and its family. -/
def updRunning (i : Nat) : Nat := 0x1c10 + i
/-- upd.i0.spare and its family. -/
def updSpare (i : Nat) : Nat := 0x1c18 + i
/-- upd.i0.state and its family. -/
def updState (i : Nat) : Nat := 0x1c20 + i
/-- upd.i0.received and its family. -/
def updReceived (i : Nat) : Nat := 0x1c28 + i
/-- upd.i0.sec_floor and its family. -/
def updSecFloor (i : Nat) : Nat := 0x1c30 + i
/-- net.flags. -/
def netFlags : Nat := 0x2000
/-- net.name. -/
def netName : Nat := 0x2001
/-- net.addr_range. -/
def netAddrRange : Nat := 0x2002
/-- net.cmd_addr. -/
def netCmdAddr : Nat := 0x2003
/-- net.partner_timeout. -/
def netPartnerTimeout : Nat := 0x2004
/-- net.pg_port. -/
def netPgPort : Nat := 0x2005
/-- net.partners. -/
def netPartners : Nat := 0x2006
/-- net.entries. -/
def netEntries : Nat := 0x2007
/-- net.sessions. -/
def netSessions : Nat := 0x2008
/-- net.cyc_skipped. -/
def netCycSkipped : Nat := 0x2009
/-- net.rx_timeouts. -/
def netRxTimeouts : Nat := 0x200a
/-- net.rx_dropped. -/
def netRxDropped : Nat := 0x200b
/-- net.can0.mode and its family. -/
def netCanMode (i : Nat) : Nat := 0x2010 + 0x10 * i
/-- net.can0.nom_rate and its family. -/
def netCanNomRate (i : Nat) : Nat := 0x2011 + 0x10 * i
/-- net.can0.data_rate and its family. -/
def netCanDataRate (i : Nat) : Nat := 0x2012 + 0x10 * i
/-- net.can0.sample and its family. -/
def netCanSample (i : Nat) : Nat := 0x2013 + 0x10 * i
/-- net.can0.addr_pref and its family. -/
def netCanAddrPref (i : Nat) : Nat := 0x2014 + 0x10 * i
/-- net.can0.auto_recover and its family. -/
def netCanAutoRecover (i : Nat) : Nat := 0x2015 + 0x10 * i
/-- net.can0.addr and its family. -/
def netCanAddr (i : Nat) : Nat := 0x2016 + 0x10 * i
/-- net.can0.status and its family. -/
def netCanStatus (i : Nat) : Nat := 0x2017 + 0x10 * i
/-- net.eth0.cfg and its family. -/
def netEthCfg (i : Nat) : Nat := 0x2050 + 0x10 * i
/-- net.eth0.ipv4 and its family. -/
def netEthIpv4 (i : Nat) : Nat := 0x2051 + 0x10 * i
/-- net.eth0.mask and its family. -/
def netEthMask (i : Nat) : Nat := 0x2052 + 0x10 * i
/-- net.eth0.mac and its family. -/
def netEthMac (i : Nat) : Nat := 0x2053 + 0x10 * i
/-- net.eth0.status and its family. -/
def netEthStatus (i : Nat) : Nat := 0x2054 + 0x10 * i
/-- net.map0 and its family. -/
def netMap (i : Nat) : Nat := 0x2100 + i
/-- glk.enable. -/
def glkEnable : Nat := 0x3000
/-- glk.ready. -/
def glkReady : Nat := 0x3001
/-- glk.plane_spread. -/
def glkPlaneSpread : Nat := 0x3002
/-- glk.l0.status and its family. -/
def glkStatus (i : Nat) : Nat := 0x3040 + i
/-- glk.l0.latency and its family. -/
def glkLatency (i : Nat) : Nat := 0x3080 + i
/-- glk.l0.tx_deemph and its family. -/
def glkTxDeemph (i : Nat) : Nat := 0x30c0 + i
/-- glk.l0.rx_ctle and its family. -/
def glkRxCtle (i : Nat) : Nat := 0x3100 + i
/-- glk.l0.loss_act and its family. -/
def glkLossAct (i : Nat) : Nat := 0x3140 + i
/-- glk.l0.driver and its family. -/
def glkDriver (i : Nat) : Nat := 0x3180 + i
/-- glk.l0.l_drv and its family. -/
def glkLDrv (i : Nat) : Nat := 0x31c0 + i
/-- pwm.l0.deadtime and its family. -/
def pwmDeadtime (i : Nat) : Nat := 0x3200 + i
/-- pwm.l0.dt_trim_pos and its family. -/
def pwmDtTrimPos (i : Nat) : Nat := 0x3240 + i
/-- pwm.l0.dt_trim_neg and its family. -/
def pwmDtTrimNeg (i : Nat) : Nat := 0x3280 + i
/-- pwm.l0.dt_floor and its family. -/
def pwmDtFloor (i : Nat) : Nat := 0x32c0 + i
/-- pwm.l0.slew_target and its family. -/
def pwmSlewTarget (i : Nat) : Nat := 0x3300 + i
/-- pwm.l0.drive_range and its family. -/
def pwmDriveRange (i : Nat) : Nat := 0x3340 + i
/-- pwm.l0.adapt and its family. -/
def pwmAdapt (i : Nat) : Nat := 0x3380 + i
/-- pwm.l0.drive_table and its family. -/
def pwmDriveTable (i : Nat) : Nat := 0x33c0 + i
/-- pwm.cg0.freq and its family. -/
def pwmFreq (i : Nat) : Nat := 0x3400 + i
/-- pwm.cg0.dither and its family. -/
def pwmDither (i : Nat) : Nat := 0x3408 + i
/-- pwm.cg0.mode and its family. -/
def pwmMode (i : Nat) : Nat := 0x3410 + i
/-- pwm.cg0.min_pulse and its family. -/
def pwmMinPulse (i : Nat) : Nat := 0x3418 + i
/-- pwm.cg0.seed and its family. -/
def pwmSeed (i : Nat) : Nat := 0x3420 + i
/-- pwm.plan_lead. -/
def pwmPlanLead : Nat := 0x3428
/-- pwm.cg0.i_thr and its family. -/
def pwmIThr (i : Nat) : Nat := 0x3430 + i
/-- pwm.cg0.dt_margin and its family. -/
def pwmDtMargin (i : Nat) : Nat := 0x3438 + i
/-- trx.m0.type and its family. -/
def trxType (i : Nat) : Nat := 0x3800 + 0x100 * i
/-- trx.m0.sets and its family. -/
def trxSets (i : Nat) : Nat := 0x3801 + 0x100 * i
/-- trx.m0.set_angle and its family. -/
def trxSetAngle (i : Nat) : Nat := 0x3802 + 0x100 * i
/-- trx.m0.pole_pairs and its family. -/
def trxPolePairs (i : Nat) : Nat := 0x3803 + 0x100 * i
/-- trx.m0.pos_port and its family. -/
def trxPosPort (i : Nat) : Nat := 0x3804 + 0x100 * i
/-- trx.m0.angle_offset and its family. -/
def trxAngleOffset (i : Nat) : Nat := 0x3805 + 0x100 * i
/-- trx.m0.angle_invert and its family. -/
def trxAngleInvert (i : Nat) : Nat := 0x3806 + 0x100 * i
/-- trx.m0.start_single and its family. -/
def trxStartSingle (i : Nat) : Nat := 0x3807 + 0x100 * i
/-- trx.m0.rs and its family. -/
def trxRs (i : Nat) : Nat := 0x3808 + 0x100 * i
/-- trx.m0.ld and its family. -/
def trxLd (i : Nat) : Nat := 0x3809 + 0x100 * i
/-- trx.m0.lq and its family. -/
def trxLq (i : Nat) : Nat := 0x380a + 0x100 * i
/-- trx.m0.psi and its family. -/
def trxPsi (i : Nat) : Nat := 0x380b + 0x100 * i
/-- trx.m0.lm and its family. -/
def trxLm (i : Nat) : Nat := 0x380c + 0x100 * i
/-- trx.m0.lr and its family. -/
def trxLr (i : Nat) : Nat := 0x380d + 0x100 * i
/-- trx.m0.rr and its family. -/
def trxRr (i : Nat) : Nat := 0x380e + 0x100 * i
/-- trx.m0.id_mag and its family. -/
def trxIdMag (i : Nat) : Nat := 0x380f + 0x100 * i
/-- trx.m0.i_max and its family. -/
def trxIMax (i : Nat) : Nat := 0x3810 + 0x100 * i
/-- trx.m0.mode and its family. -/
def trxMode (i : Nat) : Nat := 0x3818 + 0x100 * i
/-- trx.m0.torque_req and its family. -/
def trxTorqueReq (i : Nat) : Nat := 0x3820 + 0x100 * i
/-- trx.m0.id_req and its family. -/
def trxIdReq (i : Nat) : Nat := 0x3821 + 0x100 * i
/-- trx.m0.iq_req and its family. -/
def trxIqReq (i : Nat) : Nat := 0x3822 + 0x100 * i
/-- trx.m0.speed_req and its family. -/
def trxSpeedReq (i : Nat) : Nat := 0x3823 + 0x100 * i
/-- trx.m0.accel and its family. -/
def trxAccel (i : Nat) : Nat := 0x3824 + 0x100 * i
/-- trx.m0.i_slew and its family. -/
def trxISlew (i : Nat) : Nat := 0x3825 + 0x100 * i
/-- trx.m0.torque_limit_pos and its family. -/
def trxTorqueLimitPos (i : Nat) : Nat := 0x3828 + 0x100 * i
/-- trx.m0.torque_limit_neg and its family. -/
def trxTorqueLimitNeg (i : Nat) : Nat := 0x3829 + 0x100 * i
/-- trx.m0.power_mot and its family. -/
def trxPowerMot (i : Nat) : Nat := 0x382a + 0x100 * i
/-- trx.m0.power_gen and its family. -/
def trxPowerGen (i : Nat) : Nat := 0x382b + 0x100 * i
/-- trx.m0.env_curve and its family. -/
def trxEnvCurve (i : Nat) : Nat := 0x382c + 0x100 * i
/-- trx.m0.slew_rate and its family. -/
def trxSlewRate (i : Nat) : Nat := 0x3830 + 0x100 * i
/-- trx.m0.zero_band and its family. -/
def trxZeroBand (i : Nat) : Nat := 0x3831 + 0x100 * i
/-- trx.m0.zero_rate and its family. -/
def trxZeroRate (i : Nat) : Nat := 0x3832 + 0x100 * i
/-- trx.m0.stop_rate and its family. -/
def trxStopRate (i : Nat) : Nat := 0x3833 + 0x100 * i
/-- trx.m0.sp_age and its family. -/
def trxSpAge (i : Nat) : Nat := 0x3834 + 0x100 * i
/-- trx.m0.speed_max_fwd and its family. -/
def trxSpeedMaxFwd (i : Nat) : Nat := 0x3838 + 0x100 * i
/-- trx.m0.speed_max_rev and its family. -/
def trxSpeedMaxRev (i : Nat) : Nat := 0x3839 + 0x100 * i
/-- trx.m0.speed_taper and its family. -/
def trxSpeedTaper (i : Nat) : Nat := 0x383a + 0x100 * i
/-- trx.m0.speed_trip and its family. -/
def trxSpeedTrip (i : Nat) : Nat := 0x383b + 0x100 * i
/-- trx.m0.dir_allow and its family. -/
def trxDirAllow (i : Nat) : Nat := 0x383c + 0x100 * i
/-- trx.m0.dir_creep and its family. -/
def trxDirCreep (i : Nat) : Nat := 0x383d + 0x100 * i
/-- trx.m0.asc_speed and its family. -/
def trxAscSpeed (i : Nat) : Nat := 0x3840 + 0x100 * i
/-- trx.m0.asc_hyst and its family. -/
def trxAscHyst (i : Nat) : Nat := 0x3841 + 0x100 * i
/-- trx.m0.asc_side and its family. -/
def trxAscSide (i : Nat) : Nat := 0x3842 + 0x100 * i
/-- trx.m0.fw_mod_target and its family. -/
def trxFwModTarget (i : Nat) : Nat := 0x3848 + 0x100 * i
/-- trx.m0.fw_id_min and its family. -/
def trxFwIdMin (i : Nat) : Nat := 0x3849 + 0x100 * i
/-- trx.m0.obs_enable and its family. -/
def trxObsEnable (i : Nat) : Nat := 0x3850 + 0x100 * i
/-- trx.m0.obs_speed and its family. -/
def trxObsSpeed (i : Nat) : Nat := 0x3851 + 0x100 * i
/-- trx.m0.obs_hyst and its family. -/
def trxObsHyst (i : Nat) : Nat := 0x3852 + 0x100 * i
/-- trx.m0.obs_torque and its family. -/
def trxObsTorque (i : Nat) : Nat := 0x3853 + 0x100 * i
/-- trx.mM.hN.limit. -/
def trxHostLimit (m h : Nat) : Nat := 0x3858 + 0x100 * m + h
/-- trx.m0.state and its family. -/
def trxState (i : Nat) : Nat := 0x3860 + 0x100 * i
/-- trx.m0.env_pos and its family. -/
def trxEnvPos (i : Nat) : Nat := 0x3861 + 0x100 * i
/-- trx.m0.env_neg and its family. -/
def trxEnvNeg (i : Nat) : Nat := 0x3862 + 0x100 * i
/-- trx.m0.env_src and its family. -/
def trxEnvSrc (i : Nat) : Nat := 0x3863 + 0x100 * i
/-- trx.m0.torque_out and its family. -/
def trxTorqueOut (i : Nat) : Nat := 0x3864 + 0x100 * i
/-- trx.m0.torque_est and its family. -/
def trxTorqueEst (i : Nat) : Nat := 0x3865 + 0x100 * i
/-- trx.m0.speed and its family. -/
def trxSpeed (i : Nat) : Nat := 0x3866 + 0x100 * i
/-- trx.m0.rule and its family. -/
def trxRule (i : Nat) : Nat := 0x3867 + 0x100 * i
/-- trx.m0.flags and its family. -/
def trxFlags (i : Nat) : Nat := 0x3868 + 0x100 * i
/-- trx.m0.fault and its family. -/
def trxFault (i : Nat) : Nat := 0x3869 + 0x100 * i
/-- trx.m0.angle_src and its family. -/
def trxAngleSrc (i : Nat) : Nat := 0x386a + 0x100 * i
/-- trx.m0.ss_torque and its family. -/
def trxSsTorque (i : Nat) : Nat := 0x3870 + 0x100 * i
/-- trx.m0.ss_sources and its family. -/
def trxSsSources (i : Nat) : Nat := 0x3871 + 0x100 * i
/-- trx.m0.ss_late_cnt and its family. -/
def trxSsLateCnt (i : Nat) : Nat := 0x3872 + 0x100 * i
/-- trx.m0.ss_auto_return and its family. -/
def trxSsAutoReturn (i : Nat) : Nat := 0x3873 + 0x100 * i
/-- trx.m0.ss_return_hold and its family. -/
def trxSsReturnHold (i : Nat) : Nat := 0x3874 + 0x100 * i
/-- trx.m0.ss_return_ramp and its family. -/
def trxSsReturnRamp (i : Nat) : Nat := 0x3875 + 0x100 * i
/-- trx.m0.ss_state and its family. -/
def trxSsState (i : Nat) : Nat := 0x3876 + 0x100 * i
/-- trx.m0.ss_losses and its family. -/
def trxSsLosses (i : Nat) : Nat := 0x3877 + 0x100 * i
/-- dcl.state. -/
def dclState : Nat := 0x3c00
/-- dcl.flags. -/
def dclFlags : Nat := 0x3c01
/-- dcl.v_link. -/
def dclVLink : Nat := 0x3c02
/-- dcl.v_bat. -/
def dclVBat : Nat := 0x3c03
/-- dcl.v_src. -/
def dclVSrc : Nat := 0x3c04
/-- dcl.v_src2. -/
def dclVSrc2 : Nat := 0x3c05
/-- dcl.vbat_src. -/
def dclVbatSrc : Nat := 0x3c06
/-- dcl.v_fs. -/
def dclVFs : Nat := 0x3c07
/-- dcl.v_tol. -/
def dclVTol : Nat := 0x3c08
/-- dcl.battery. -/
def dclBattery : Nat := 0x3c09
/-- dcl.pre_dv. -/
def dclPreDv : Nat := 0x3c10
/-- dcl.pre_timeout. -/
def dclPreTimeout : Nat := 0x3c11
/-- dcl.close_time. -/
def dclCloseTime : Nat := 0x3c12
/-- dcl.weld_dv. -/
def dclWeldDv : Nat := 0x3c13
/-- dcl.open_wait. -/
def dclOpenWait : Nat := 0x3c14
/-- dcl.hvil_enable. -/
def dclHvilEnable : Nat := 0x3c18
/-- dcl.hvil_debounce. -/
def dclHvilDebounce : Nat := 0x3c19
/-- dcl.hvil_act. -/
def dclHvilAct : Nat := 0x3c1a
/-- dcl.taper_start. -/
def dclTaperStart : Nat := 0x3c20
/-- dcl.taper_end. -/
def dclTaperEnd : Nat := 0x3c21
/-- dcl.chop_enable. -/
def dclChopEnable : Nat := 0x3c22
/-- dcl.chop_on. -/
def dclChopOn : Nat := 0x3c23
/-- dcl.chop_off. -/
def dclChopOff : Nat := 0x3c24
/-- dcl.chop_full. -/
def dclChopFull : Nat := 0x3c25
/-- dcl.chop_i_src. -/
def dclChopISrc : Nat := 0x3c26
/-- dcl.chop_i_min. -/
def dclChopIMin : Nat := 0x3c27
/-- dcl.chop_r. -/
def dclChopR : Nat := 0x3c28
/-- dcl.chop_e_max. -/
def dclChopEMax : Nat := 0x3c29
/-- dcl.chop_tau. -/
def dclChopTau : Nat := 0x3c2a
/-- dcl.chop_energy. -/
def dclChopEnergy : Nat := 0x3c2b
/-- dcl.ova_on. -/
def dclOvaOn : Nat := 0x3c30
/-- dcl.ova_release. -/
def dclOvaRelease : Nat := 0x3c31
/-- dcl.hw_ov. -/
def dclHwOv : Nat := 0x3c32
/-- dcl.hw_ov_rel. -/
def dclHwOvRel : Nat := 0x3c33
/-- dcl.hw_off_time. -/
def dclHwOffTime : Nat := 0x3c34
/-- dcl.bms_i_chg. -/
def dclBmsIChg : Nat := 0x3c38
/-- dcl.bms_i_dis. -/
def dclBmsIDis : Nat := 0x3c39
/-- dcl.bms_open. -/
def dclBmsOpen : Nat := 0x3c3a
/-- dcl.bms_age. -/
def dclBmsAge : Nat := 0x3c3b
/-- lpe.c0.cfg and its family. -/
def lpeCfg (i : Nat) : Nat := 0x4000 + 0x10 * i
/-- lpe.c0.trigger and its family. -/
def lpeTrigger (i : Nat) : Nat := 0x4001 + 0x10 * i
/-- lpe.c0.deadline and its family. -/
def lpeDeadline (i : Nat) : Nat := 0x4002 + 0x10 * i
/-- lpe.c0.inputs and its family. -/
def lpeInputs (i : Nat) : Nat := 0x4003 + 0x10 * i
/-- lpe.c0.units and its family. -/
def lpeUnits (i : Nat) : Nat := 0x4004 + 0x10 * i
/-- lpe.c0.bank_a and its family. -/
def lpeBankA (i : Nat) : Nat := 0x4005 + 0x10 * i
/-- lpe.c0.bank_b and its family. -/
def lpeBankB (i : Nat) : Nat := 0x4006 + 0x10 * i
/-- lpe.c0.sp and its family. -/
def lpeSp (i : Nat) : Nat := 0x4007 + 0x10 * i
/-- lpe.c0.out and its family. -/
def lpeOut (i : Nat) : Nat := 0x4008 + 0x10 * i
/-- lpe.c0.integ and its family. -/
def lpeInteg (i : Nat) : Nat := 0x4009 + 0x10 * i
/-- lpe.c0.status and its family. -/
def lpeStatus (i : Nat) : Nat := 0x400a + 0x10 * i
/-- lpe.c0.residual and its family. -/
def lpeResidual (i : Nat) : Nat := 0x400b + 0x10 * i
/-- lpe.c0.run_max and its family. -/
def lpeRunMax (i : Nat) : Nat := 0x400c + 0x10 * i
/-- lpe.c0.late_count and its family. -/
def lpeLateCount (i : Nat) : Nat := 0x400d + 0x10 * i
/-- lpe.on. -/
def lpeOn : Nat := 0x4400
/-- lpe.load. -/
def lpeLoad : Nat := 0x4401
/-- lpe.load_max. -/
def lpeLoadMax : Nat := 0x4402
/-- lpe.tr0.context and its family. -/
def lpeTrContext (i : Nat) : Nat := 0x4480 + 0x10 * i
/-- lpe.tr0.nodes and its family. -/
def lpeTrNodes (i : Nat) : Nat := 0x4481 + 0x10 * i
/-- lpe.tr0.length and its family. -/
def lpeTrLength (i : Nat) : Nat := 0x4482 + 0x10 * i
/-- lpe.tr0.pretrig and its family. -/
def lpeTrPretrig (i : Nat) : Nat := 0x4483 + 0x10 * i
/-- lpe.tr0.decim and its family. -/
def lpeTrDecim (i : Nat) : Nat := 0x4484 + 0x10 * i
/-- lpe.tr0.trig and its family. -/
def lpeTrTrig (i : Nat) : Nat := 0x4485 + 0x10 * i
/-- lpe.tr0.state and its family. -/
def lpeTrState (i : Nat) : Nat := 0x4486 + 0x10 * i
/-- lpe.tr0.trig_axt and its family. -/
def lpeTrTrigAxt (i : Nat) : Nat := 0x4487 + 0x10 * i
/-- lpe.tr0.count and its family. -/
def lpeTrCount (i : Nat) : Nat := 0x4488 + 0x10 * i
/-- lpe.tr0.trig_index and its family. -/
def lpeTrTrigIndex (i : Nat) : Nat := 0x4489 + 0x10 * i
/-- adc.a0.seq_len and its family. -/
def adcSeqLen (i : Nat) : Nat := 0x4800 + 0x10 * i
/-- adc.a0.trigger and its family. -/
def adcTrigger (i : Nat) : Nat := 0x4801 + 0x10 * i
/-- adc.a0.status and its family. -/
def adcStatus (i : Nat) : Nat := 0x4802 + 0x10 * i
/-- adc.a0.passes and its family. -/
def adcPasses (i : Nat) : Nat := 0x4803 + 0x10 * i
/-- adc.a0.abandons and its family. -/
def adcAbandons (i : Nat) : Nat := 0x4804 + 0x10 * i
/-- adc.a0.inj_free and its family. -/
def adcInjFree (i : Nat) : Nat := 0x4805 + 0x10 * i
/-- adc.p0.group and its family. -/
def adcPGroup (i : Nat) : Nat := 0x48c0 + i
/-- adc.cal_result. -/
def adcCalResult : Nat := 0x48c8
/-- adc.res0.entry and its family. -/
def adcResEntry (i : Nat) : Nat := 0x4900 + i
/-- adc.res0.cal and its family. -/
def adcResCal (i : Nat) : Nat := 0x4a80 + i
/-- adc.res0.filter and its family. -/
def adcResFilter (i : Nat) : Nat := 0x4c00 + i
/-- adc.res0.value and its family. -/
def adcResValue (i : Nat) : Nat := 0x4d80 + i
/-- adc.ain0.gain and its family. -/
def adcAinGain (i : Nat) : Nat := 0x4f00 + i
/-- adc.p0.cover and its family. -/
def adcPCover (i : Nat) : Nat := 0x4f60 + i
/-- pos.p0.mode and its family. -/
def posMode (i : Nat) : Nat := 0x5000 + 0x40 * i
/-- pos.p0.group and its family. -/
def posGroup (i : Nat) : Nat := 0x5001 + 0x40 * i
/-- pos.p0.trigger and its family. -/
def posTrigger (i : Nat) : Nat := 0x5002 + 0x40 * i
/-- pos.p0.res and its family. -/
def posRes (i : Nat) : Nat := 0x5003 + 0x40 * i
/-- pos.p0.min_edge and its family. -/
def posMinEdge (i : Nat) : Nat := 0x5004 + 0x40 * i
/-- pos.p0.standstill and its family. -/
def posStandstill (i : Nat) : Nat := 0x5005 + 0x40 * i
/-- pos.p0.speed_fs and its family. -/
def posSpeedFs (i : Nat) : Nat := 0x5006 + 0x40 * i
/-- pos.p0.zcfg and its family. -/
def posZcfg (i : Nat) : Nat := 0x5007 + 0x40 * i
/-- pos.p0.exc_freq and its family. -/
def posExcFreq (i : Nat) : Nat := 0x5008 + 0x40 * i
/-- pos.p0.exc_amp and its family. -/
def posExcAmp (i : Nat) : Nat := 0x5009 + 0x40 * i
/-- pos.p0.rdc_bw and its family. -/
def posRdcBw (i : Nat) : Nat := 0x500a + 0x40 * i
/-- pos.p0.ssi_cfg and its family. -/
def posSsiCfg (i : Nat) : Nat := 0x500b + 0x40 * i
/-- pos.p0.sent_cfg and its family. -/
def posSentCfg (i : Nat) : Nat := 0x500c + 0x40 * i
/-- pos.p0.fault_cnt and its family. -/
def posFaultCnt (i : Nat) : Nat := 0x500d + 0x40 * i
/-- pos.p0.recover and its family. -/
def posRecover (i : Nat) : Nat := 0x500e + 0x40 * i
/-- pos.p0.angle and its family. -/
def posAngle (i : Nat) : Nat := 0x5010 + 0x40 * i
/-- pos.p0.count and its family. -/
def posCount (i : Nat) : Nat := 0x5011 + 0x40 * i
/-- pos.p0.speed and its family. -/
def posSpeed (i : Nat) : Nat := 0x5012 + 0x40 * i
/-- pos.p0.status and its family. -/
def posStatus (i : Nat) : Nat := 0x5013 + 0x40 * i
/-- pos.p0.qerr and its family. -/
def posQerr (i : Nat) : Nat := 0x5014 + 0x40 * i
/-- pos.p0.slow and its family. -/
def posSlow (i : Nat) : Nat := 0x5015 + 0x40 * i
/-- pos.prb0.cfg and its family. -/
def posPrbCfg (i : Nat) : Nat := 0x5100 + 0x10 * i
/-- pos.prb0.status and its family. -/
def posPrbStatus (i : Nat) : Nat := 0x5101 + 0x10 * i
/-- chg.state. -/
def chgState : Nat := 0x5800
/-- chg.input. -/
def chgInput : Nat := 0x5801
/-- chg.flags. -/
def chgFlags : Nat := 0x5802
/-- chg.cause. -/
def chgCause : Nat := 0x5803
/-- chg.i_bat. -/
def chgIBat : Nat := 0x5804
/-- chg.i_ramp. -/
def chgIRamp : Nat := 0x5805
/-- chg.i_in_max. -/
def chgIInMax : Nat := 0x5806
/-- chg.p_max. -/
def chgPMax : Nat := 0x5807
/-- chg.qual_time. -/
def chgQualTime : Nat := 0x5808
/-- chg.pto_mask. -/
def chgPtoMask : Nat := 0x5809
/-- chg.src_cable. -/
def chgSrcCable : Nat := 0x580a
/-- chg.bus_v. -/
def chgBusV : Nat := 0x5810
/-- chg.bus_ov. -/
def chgBusOv : Nat := 0x5811
/-- chg.i_leg_trip. -/
def chgILegTrip : Nat := 0x5812
/-- chg.dab_n. -/
def chgDabN : Nat := 0x5813
/-- chg.src_i_start. -/
def chgSrcIStart : Nat := 0x5818
/-- chg.src_i_step. -/
def chgSrcIStep : Nat := 0x5819
/-- chg.src_t_step. -/
def chgSrcTStep : Nat := 0x581a
/-- chg.src_sag. -/
def chgSrcSag : Nat := 0x581b
/-- chg.src_droop. -/
def chgSrcDroop : Nat := 0x581c
/-- chg.src_rocof. -/
def chgSrcRocof : Nat := 0x581d
/-- chg.src_backoff. -/
def chgSrcBackoff : Nat := 0x581e
/-- chg.src_research. -/
def chgSrcResearch : Nat := 0x581f
/-- chg.pv_v_min. -/
def chgPvVMin : Nat := 0x5820
/-- chg.pv_p_max. -/
def chgPvPMax : Nat := 0x5821
/-- chg.pv_i_max. -/
def chgPvIMax : Nat := 0x5822
/-- chg.pv_step. -/
def chgPvStep : Nat := 0x5823
/-- chg.pv_interval. -/
def chgPvInterval : Nat := 0x5824
/-- chg.pv_sweep. -/
def chgPvSweep : Nat := 0x5825
/-- chg.bat_temp. -/
def chgBatTemp : Nat := 0x5828
/-- chg.bat_t_min. -/
def chgBatTMin : Nat := 0x5829
/-- chg.bat_t_max. -/
def chgBatTMax : Nat := 0x582a
/-- chg.bat_t_age. -/
def chgBatTAge : Nat := 0x582b
/-- chg.cp_state. -/
def chgCpState : Nat := 0x5830
/-- chg.cp_duty. -/
def chgCpDuty : Nat := 0x5831
/-- chg.i_pilot. -/
def chgIPilot : Nat := 0x5832
/-- chg.i_cable. -/
def chgICable : Nat := 0x5833
/-- chg.i_in_lim. -/
def chgIInLim : Nat := 0x5834
/-- chg.v0. -/
def chgV0 : Nat := 0x5835
/-- chg.f0. -/
def chgF0 : Nat := 0x5836
/-- chg.p_in. -/
def chgPIn : Nat := 0x5837
/-- chg.v_pv_ref. -/
def chgVPvRef : Nat := 0x5838
/-- chg.v_oc. -/
def chgVOc : Nat := 0x5839
/-- aux.state. -/
def auxState : Nat := 0x6000
/-- aux.flags. -/
def auxFlags : Nat := 0x6001
/-- aux.cause. -/
def auxCause : Nat := 0x6002
/-- aux.v_target. -/
def auxVTarget : Nat := 0x6003
/-- aux.v_slew. -/
def auxVSlew : Nat := 0x6004
/-- aux.phases. -/
def auxPhases : Nat := 0x6005
/-- aux.ratio. -/
def auxRatio : Nat := 0x6006
/-- aux.d_max. -/
def auxDMax : Nat := 0x6007
/-- aux.vin_min. -/
def auxVinMin : Nat := 0x6008
/-- aux.v_fs. -/
def auxVFs : Nat := 0x6009
/-- aux.i_fs. -/
def auxIFs : Nat := 0x600a
/-- aux.iph_fs. -/
def auxIphFs : Nat := 0x600b
/-- aux.i_sense. -/
def auxISense : Nat := 0x600c
/-- aux.i_peak. -/
def auxIPeak : Nat := 0x600d
/-- aux.i_phase. -/
def auxIPhase : Nat := 0x600e
/-- aux.us_thr. -/
def auxUsThr : Nat := 0x6010
/-- aux.os_thr. -/
def auxOsThr : Nat := 0x6011
/-- aux.os_rel. -/
def auxOsRel : Nat := 0x6012
/-- aux.band. -/
def auxBand : Nat := 0x6013
/-- aux.shed_hold. -/
def auxShedHold : Nat := 0x6014
/-- aux.shed_frac. -/
def auxShedFrac : Nat := 0x6015
/-- aux.add_frac. -/
def auxAddFrac : Nat := 0x6016
/-- aux.shed_wait. -/
def auxShedWait : Nat := 0x6017
/-- aux.shed_ramp. -/
def auxShedRamp : Nat := 0x6018
/-- aux.burst_on. -/
def auxBurstOn : Nat := 0x6019
/-- aux.burst_lo. -/
def auxBurstLo : Nat := 0x601a
/-- aux.burst_hi. -/
def auxBurstHi : Nat := 0x601b
/-- aux.burst_min. -/
def auxBurstMin : Nat := 0x601c
/-- aux.ss_time. -/
def auxSsTime : Nat := 0x6020
/-- aux.ss_timeout. -/
def auxSsTimeout : Nat := 0x6021
/-- aux.ol_time. -/
def auxOlTime : Nat := 0x6022
/-- aux.auto_restart. -/
def auxAutoRestart : Nat := 0x6023
/-- aux.sync_mode. -/
def auxSyncMode : Nat := 0x6028
/-- aux.sync_phase. -/
def auxSyncPhase : Nat := 0x6029
/-- aux.sync_hold. -/
def auxSyncHold : Nat := 0x602a
/-- aux.bal_thr. -/
def auxBalThr : Nat := 0x602b
/-- aux.bal_time. -/
def auxBalTime : Nat := 0x602c
/-- aux.v_out. -/
def auxVOut : Nat := 0x6030
/-- aux.i_out. -/
def auxIOut : Nat := 0x6031
/-- aux.p_out. -/
def auxPOut : Nat := 0x6032
/-- aux.v_ref. -/
def auxVRef : Nat := 0x6033
/-- aux.phase_state. -/
def auxPhaseState : Nat := 0x6034
/-- aux.restarts. -/
def auxRestarts : Nat := 0x6035
/-- aux.sync_freq. -/
def auxSyncFreq : Nat := 0x6036
/-- amc.a0.role and its family. -/
def amcRole (i : Nat) : Nat := 0x6800 + 0x40 * i
/-- amc.a0.pole_pairs and its family. -/
def amcPolePairs (i : Nat) : Nat := 0x6801 + 0x40 * i
/-- amc.a0.pwm_freq and its family. -/
def amcPwmFreq (i : Nat) : Nat := 0x6802 + 0x40 * i
/-- amc.a0.deadtime and its family. -/
def amcDeadtime (i : Nat) : Nat := 0x6803 + 0x40 * i
/-- amc.a0.d_max and its family. -/
def amcDMax (i : Nat) : Nat := 0x6804 + 0x40 * i
/-- amc.a0.i_limit and its family. -/
def amcILimit (i : Nat) : Nat := 0x6805 + 0x40 * i
/-- amc.a0.i_start and its family. -/
def amcIStart (i : Nat) : Nat := 0x6806 + 0x40 * i
/-- amc.a0.advance and its family. -/
def amcAdvance (i : Nat) : Nat := 0x6807 + 0x40 * i
/-- amc.a0.blank and its family. -/
def amcBlank (i : Nat) : Nat := 0x6808 + 0x40 * i
/-- amc.a0.speed_fs and its family. -/
def amcSpeedFs (i : Nat) : Nat := 0x6809 + 0x40 * i
/-- amc.a0.speed_max and its family. -/
def amcSpeedMax (i : Nat) : Nat := 0x680a + 0x40 * i
/-- amc.a0.speed_min and its family. -/
def amcSpeedMin (i : Nat) : Nat := 0x680b + 0x40 * i
/-- amc.a0.accel and its family. -/
def amcAccel (i : Nat) : Nat := 0x680c + 0x40 * i
/-- amc.a0.align_time and its family. -/
def amcAlignTime (i : Nat) : Nat := 0x6810 + 0x40 * i
/-- amc.a0.align_duty and its family. -/
def amcAlignDuty (i : Nat) : Nat := 0x6811 + 0x40 * i
/-- amc.a0.ramp_time and its family. -/
def amcRampTime (i : Nat) : Nat := 0x6812 + 0x40 * i
/-- amc.a0.ramp_start and its family. -/
def amcRampStart (i : Nat) : Nat := 0x6813 + 0x40 * i
/-- amc.a0.handover and its family. -/
def amcHandover (i : Nat) : Nat := 0x6814 + 0x40 * i
/-- amc.a0.ramp_duty and its family. -/
def amcRampDuty (i : Nat) : Nat := 0x6815 + 0x40 * i
/-- amc.a0.start_retries and its family. -/
def amcStartRetries (i : Nat) : Nat := 0x6816 + 0x40 * i
/-- amc.a0.listen and its family. -/
def amcListen (i : Nat) : Nat := 0x6818 + 0x40 * i
/-- amc.a0.catch_speed and its family. -/
def amcCatchSpeed (i : Nat) : Nat := 0x6819 + 0x40 * i
/-- amc.a0.rev_brake and its family. -/
def amcRevBrake (i : Nat) : Nat := 0x681a + 0x40 * i
/-- amc.a0.rev_delay and its family. -/
def amcRevDelay (i : Nat) : Nat := 0x681b + 0x40 * i
/-- amc.a0.rev_retries and its family. -/
def amcRevRetries (i : Nat) : Nat := 0x681c + 0x40 * i
/-- amc.a0.rev_thr and its family. -/
def amcRevThr (i : Nat) : Nat := 0x681d + 0x40 * i
/-- amc.a0.brake_max and its family. -/
def amcBrakeMax (i : Nat) : Nat := 0x681e + 0x40 * i
/-- amc.a0.stall_time and its family. -/
def amcStallTime (i : Nat) : Nat := 0x681f + 0x40 * i
/-- amc.a0.speed_req and its family. -/
def amcSpeedReq (i : Nat) : Nat := 0x6820 + 0x40 * i
/-- amc.a0.curve_src and its family. -/
def amcCurveSrc (i : Nat) : Nat := 0x6821 + 0x40 * i
/-- amc.a0.curve_n and its family. -/
def amcCurveN (i : Nat) : Nat := 0x6822 + 0x40 * i
/-- amc.a0.curve and its family. -/
def amcCurve (i : Nat) : Nat := 0x6823 + 0x40 * i
/-- amc.a0.curve_hyst and its family. -/
def amcCurveHyst (i : Nat) : Nat := 0x6824 + 0x40 * i
/-- amc.a0.curve_fail and its family. -/
def amcCurveFail (i : Nat) : Nat := 0x6825 + 0x40 * i
/-- amc.a0.pos_speed and its family. -/
def amcPosSpeed (i : Nat) : Nat := 0x6828 + 0x40 * i
/-- amc.a0.pos_decel and its family. -/
def amcPosDecel (i : Nat) : Nat := 0x6829 + 0x40 * i
/-- amc.a0.brake_lead and its family. -/
def amcBrakeLead (i : Nat) : Nat := 0x682a + 0x40 * i
/-- amc.a0.pos_min and its family. -/
def amcPosMin (i : Nat) : Nat := 0x682b + 0x40 * i
/-- amc.a0.pos_max and its family. -/
def amcPosMax (i : Nat) : Nat := 0x682c + 0x40 * i
/-- amc.a0.home_speed and its family. -/
def amcHomeSpeed (i : Nat) : Nat := 0x682d + 0x40 * i
/-- amc.a0.home_pos and its family. -/
def amcHomePos (i : Nat) : Nat := 0x682e + 0x40 * i
/-- amc.a0.home_max and its family. -/
def amcHomeMax (i : Nat) : Nat := 0x682f + 0x40 * i
/-- amc.a0.state and its family. -/
def amcState (i : Nat) : Nat := 0x6830 + 0x40 * i
/-- amc.a0.speed and its family. -/
def amcSpeed (i : Nat) : Nat := 0x6831 + 0x40 * i
/-- amc.a0.position and its family. -/
def amcPosition (i : Nat) : Nat := 0x6832 + 0x40 * i
/-- amc.a0.flags and its family. -/
def amcFlags (i : Nat) : Nat := 0x6833 + 0x40 * i
/-- amc.a0.fault and its family. -/
def amcFault (i : Nat) : Nat := 0x6834 + 0x40 * i
/-- amc.park.state. -/
def amcParkState : Nat := 0x6980
/-- amc.park.speed. -/
def amcParkSpeed : Nat := 0x6981
/-- amc.park.tol. -/
def amcParkTol : Nat := 0x6982
/-- amc.park.auto. -/
def amcParkAuto : Nat := 0x6983
/-- rpk.state. -/
def rpkState : Nat := 0x7000
/-- rpk.path. -/
def rpkPath : Nat := 0x7001
/-- rpk.flags. -/
def rpkFlags : Nat := 0x7002
/-- rpk.end. -/
def rpkEnd : Nat := 0x7003
/-- rpk.enable. -/
def rpkEnable : Nat := 0x7004
/-- rpk.cells. -/
def rpkCells : Nat := 0x7005
/-- rpk.i_chg. -/
def rpkIChg : Nat := 0x7006
/-- rpk.ndv. -/
def rpkNdv : Nat := 0x7007
/-- rpk.ndv_blank. -/
def rpkNdvBlank : Nat := 0x7008
/-- rpk.dtdt. -/
def rpkDtdt : Nat := 0x7009
/-- rpk.t_end. -/
def rpkTEnd : Nat := 0x700a
/-- rpk.timeout. -/
def rpkTimeout : Nat := 0x700b
/-- rpk.t_low. -/
def rpkTLow : Nat := 0x700c
/-- rpk.t_high. -/
def rpkTHigh : Nat := 0x700d
/-- rpk.v_cell_max. -/
def rpkVCellMax : Nat := 0x700e
/-- rpk.v_rechg. -/
def rpkVRechg : Nat := 0x700f
/-- rpk.v_cutoff. -/
def rpkVCutoff : Nat := 0x7010
/-- rpk.pwm_freq. -/
def rpkPwmFreq : Nat := 0x7011
/-- rpk.v_fs. -/
def rpkVFs : Nat := 0x7012
/-- rpk.i_fs. -/
def rpkIFs : Nat := 0x7013
/-- rpk.src_v_low. -/
def rpkSrcVLow : Nat := 0x7018
/-- rpk.src_v_min. -/
def rpkSrcVMin : Nat := 0x7019
/-- rpk.src_v_max. -/
def rpkSrcVMax : Nat := 0x701a
/-- rpk.src_debounce. -/
def rpkSrcDebounce : Nat := 0x701b
/-- rpk.src_qual. -/
def rpkSrcQual : Nat := 0x701c
/-- rpk.v_pack. -/
def rpkVPack : Nat := 0x7020
/-- rpk.i_pack. -/
def rpkIPack : Nat := 0x7021
/-- rpk.t_pack. -/
def rpkTPack : Nat := 0x7022
/-- rpk.chg_time. -/
def rpkChgTime : Nat := 0x7023
/-- ptg.state. -/
def ptgState : Nat := 0x7400
/-- ptg.flags. -/
def ptgFlags : Nat := 0x7401
/-- ptg.fault_cause. -/
def ptgFaultCause : Nat := 0x7402
/-- ptg.soft_count. -/
def ptgSoftCount : Nat := 0x7403
/-- ptg.windows. -/
def ptgWindows : Nat := 0x7404
/-- ptg.misses. -/
def ptgMisses : Nat := 0x7405
/-- ptg.last_sig. -/
def ptgLastSig : Nat := 0x7406
/-- ptg.guard. -/
def ptgGuard : Nat := 0x7408
/-- ptg.split_max. -/
def ptgSplitMax : Nat := 0x7409
/-- ptg.split_live. -/
def ptgSplitLive : Nat := 0x740a
/-- ptg.tq_tol. -/
def ptgTqTol : Nat := 0x740b
/-- ptg.tq_time. -/
def ptgTqTime : Nat := 0x740c
/-- ptg.split_copy. -/
def ptgSplitCopy : Nat := 0x740d
/-- bst.enable. -/
def bstEnable : Nat := 0x7800
/-- bst.period. -/
def bstPeriod : Nat := 0x7801
/-- bst.state. -/
def bstState : Nat := 0x7802
/-- bst.cycles. -/
def bstCycles : Nat := 0x7803
/-- bst.failed. -/
def bstFailed : Nat := 0x7804
/-- bst.last. -/
def bstLast : Nat := 0x7805
/-- mem.patina_enable. -/
def memPatinaEnable : Nat := 0x7840
/-- mem.m0.status and its family. -/
def memStatus (i : Nat) : Nat := 0x7841 + i
/-- mem.m0.passes and its family. -/
def memPasses (i : Nat) : Nat := 0x7848 + i
/-- mem.spares_free. -/
def memSparesFree : Nat := 0x7850
/-- mem.last_ue. -/
def memLastUe : Nat := 0x7851
/-- mem.wipe_cause. -/
def memWipeCause : Nat := 0x7852

end Sys2Proof.Machine.O
end

