-- ==== Sys2Proof/Machine/DefaultMaps.lean ====
section
/-! DEFINITION. The default maps of the loop engine (R207, R316, R348, R375, R403, R585), the converters (R243, R316,
R346, R395, R435), the thermistors (R435) and the pin filters (R561): the values after cold reset that differ from one
instance to the next. -/

namespace Sys2Proof.Machine

/-- A configuration word of R176 with CI 1. -/
def cfgWord (dest model chans vcirc : Nat) : Nat :=
  dest * 0x1000000 + model * 0x100000 + (chans - 1) * 0x40000 + vcirc * 0x20000 + 0x8000 + vcirc * 0x1000

/-- `lpe.cN.cfg` (R207). -/
def mapLpeCfg (c : Nat) : Nat :=
  if c < 8 then cfgWord 1 2 2 1
  else if c < 12 then cfgWord 0 0 1 0
  else if c < 16 then cfgWord 0 1 1 0
  else if c < 19 then cfgWord 2 1 1 0
  else if c = 19 then cfgWord 0 3 1 0
  else if c < 22 then cfgWord 3 1 1 0
  else if c = 22 then cfgWord 4 1 1 0
  else if c < 31 then cfgWord 4 0 1 0
  else if c < 37 then cfgWord 5 1 1 0
  else if c = 37 then cfgWord 6 0 1 0
  else 0

/-- A trigger word of R177 for the valleys of a carrier group. -/
def valleyWord (g div : Nat) : Nat := 0x41000000 + g * 0x4000000 + div * 0x10000

/-- `lpe.cN.trigger` (R207). -/
def mapLpeTrigger (c : Nat) : Nat :=
  if c < 8 then valleyWord (c / 2) 1
  else if c < 12 then valleyWord (c - 8) 1
  else if c < 16 then valleyWord (c - 12) 4
  else if c < 19 then valleyWord 4 1
  else if c = 19 then valleyWord 4 8
  else if c < 22 then valleyWord 5 2
  else if c = 22 then valleyWord 7 4
  else if c < 31 then valleyWord 7 64
  else if c < 37 then 0x80002710
  else if c = 37 then 0x80989680
  else 0

/-- `lpe.cN.deadline` (R174, R207). -/
def mapLpeDeadline (c : Nat) : Nat :=
  if c < 12 then 32000
  else if c < 16 then 80000
  else if c < 19 then 16000
  else if c = 19 then 80000
  else if c < 23 then 12000
  else if c < 31 then 80000
  else if c < 37 then 64000
  else if c = 37 then 8000000
  else 32000

/-- The source codes of one channel (R179). -/
def srcWord (sp fb ff aux : Nat) : Nat := sp + fb * 0x10000 + ff * 0x100000000 + aux * 0x1000000000000

/-- `lpe.cN.inputs` (R316, R348, R375, R403, R585). -/
def mapLpeInputs (c : Nat) : Nat :=
  if c < 8 then
    srcWord (0x3000 + 8 * (c / 2) + 2 * (c % 2)) (0x6000 + 4 * (c % 2)) (0x6008 + 4 * (c % 2)) 0 +
      srcWord (0x3001 + 8 * (c / 2) + 2 * (c % 2)) (0x6001 + 4 * (c % 2)) (0x6009 + 4 * (c % 2)) 0 * 2 ^ 64
  else if c < 12 then srcWord 0x6010 0x6011 0 0
  else if c < 16 then srcWord 0x6012 0x6013 0 0
  else if c < 19 then srcWord (0x6000 + (c - 16)) (0x1000 + 256 + (c - 16)) 0 0
  else if c = 19 then srcWord 0x6003 (0x1000 + 259) 0 0
  else if c = 20 then srcWord 0x6004 (0x1000 + 289) 0 0
  else if c = 21 then srcWord 0x6006 0x6007 0 0
  else if c = 22 then srcWord 0x6000 0x1140 0x6001 0x1141
  else if c < 31 then srcWord 0x6002 (0x1142 + (c - 23)) 0 0
  else if c < 37 then srcWord 0x6000 0x6001 0 0
  else if c = 37 then srcWord 0x6000 0x1169 0 0
  else 0

/-- `lpe.cN.units` (R207, R348, R375, R403, R585): IN_FS and OUT_FS as binary32. Where a value follows an object, its
value after cold reset; where the spec states none or the object is 0, the value of log 29. -/
def mapLpeUnits (c : Nat) : Nat :=
  let u (i o : Nat) : Nat := i + o * 0x100000000
  if c < 8 then u 0x44480000 0x43FA0000
  else if c < 12 then u 0x3F800000 0x3F800000
  else if c < 16 then u 0x461C4000 0x3F800000
  else if c < 19 then u 0x43480000 0x3F800000
  else if c = 19 then u 0x44960000 0x43480000
  else if c = 20 then u 0x43480000 0x3F800000
  else if c = 21 then u 0x3F800000 0x3F800000
  else if c = 22 then u 0x42200000 0x3F800000
  else if c < 31 then u 0x42C80000 0x3F800000
  else if c < 37 then u 0x461C4000 0x3F800000
  else if c = 37 then u 0x40800000 0x3F800000
  else u 0x3F800000 0x3F800000

/-- A word at a byte offset of a bank (R190). -/
def bankAt (off v : Nat) : Nat := v * 2 ^ (8 * off)

/-- Channel 0 of a bank: KP, KI, IMIN, IMAX, OMIN, OMAX. -/
def bankCh (kp ki imin imax omin omax : Nat) : Nat :=
  bankAt 0 kp + bankAt 4 ki + bankAt 16 imin + bankAt 20 imax + bankAt 24 omin + bankAt 28 omax

/-- The model section of a bank: P0, P1, P2, P6, P7 (R190, R194). -/
def bankMdl (p0 p1 p2 p6 p7 : Nat) : Nat :=
  bankAt 128 p0 + bankAt 132 p1 + bankAt 136 p2 + bankAt 152 p6 + bankAt 156 p7

/-- `lpe.cN.bank_a` and `bank_b` (R348, R375, R403, R585; 0 for the charger's contexts, log 29). -/
def mapLpeBank (c : Nat) : Nat :=
  if c < 8 then bankMdl 0x43480000 0x3F333333 0 0x3DCCCCCD 0x42800000
  else if c < 12 then 0
  else if c < 16 then bankMdl 0x3F800000 0 0x3DCCCCCD 0x3E4CCCCD 0x43480000
  else if c < 22 then 0
  else if c = 22 then bankCh 0x00400000 0x00028F5C 0 0x0003999A 0 0x0003999A +
    bankMdl 0x3F800000 0 0x3A83126F 0x3DCCCCCD 0x42800000
  else if c < 31 then bankCh 0 0x000147AE 0xFFFFD70A 0x000028F6 0xFFFFD70A 0x000028F6
  else if c < 37 then bankCh 0x00200000 0x0000A3D7 0 0x0007999A 0 0x0007999A +
    bankMdl 0x3F800000 0 0x3E4CCCCD 0x3E4CCCCD 0x43480000
  else if c = 37 then bankCh 0x000CCCCD 0x00066666 0 0x00073333 0 0x00073333
  else 0

/-- `adc.aK.seq_len` (R243, R316, R346, R395). -/
def mapAdcSeqLen (k : Nat) : Nat := [3, 4, 3, 4, 3, 4, 3, 4, 9, 4, 10, 11].getD k 0

/-- `adc.aK.trigger` (R243, R316, R346, R395). -/
def mapAdcTrigger (k : Nat) : Nat :=
  if k < 8 then valleyWord (k / 2) 1
  else if k = 8 then valleyWord 4 1
  else if k = 9 then valleyWord 5 1
  else if k = 10 then valleyWord 7 4
  else 0x80002710

/-- An entry word (R212). -/
def entryWord (hold avg acq input : Nat) : Nat :=
  hold * 0x80000000 + avg * 0x8000000 + avg * 0x800000 + acq * 0x10000 + input

/-- The default entries of a converter of P0 to P3: even and odd (R243). -/
def mapEntryEven (e : Nat) : Nat :=
  if e = 0 then entryWord 1 0 8 0 else if e = 1 then entryWord 1 0 8 4 else if e = 2 then entryWord 1 0 8 2 else 0x00080000
def mapEntryOdd (e : Nat) : Nat :=
  if e = 0 then entryWord 1 0 8 1 else if e = 1 then entryWord 1 0 8 3 else if e = 2 then entryWord 0 4 40 5
  else if e = 3 then entryWord 0 4 40 6 else 0x00080000

/-- `adc.resJ.entry` (R243, R316, R346, R395, R435). -/
def mapAdcEntry (j : Nat) : Nat :=
  let e := j % 32
  if j < 256 then (if j / 32 % 2 = 0 then mapEntryEven e else mapEntryOdd e)
  else if j < 288 then
    (if e < 4 then entryWord 1 0 8 e else if e < 8 then entryWord 0 0 8 e else if e = 8 then entryWord 0 4 40 14
     else if e = 9 then entryWord 0 0 20 12 else if e = 10 then entryWord 0 0 40 13 else 0x00080000)
  else if j < 320 then
    (if e = 0 then entryWord 1 0 8 8 else if e = 1 then entryWord 1 0 8 9 else if e = 2 then entryWord 1 0 8 3
     else if e = 3 then entryWord 1 0 8 10 else 0x00080000)
  else if j < 352 then
    (if e < 2 then entryWord 1 0 8 e else if e < 10 then entryWord 0 0 8 e else 0x00080000)
  else
    (if e < 3 then entryWord 0 4 40 (13 + e) else if e = 8 then entryWord 0 4 40 10 else if e = 9 then entryWord 0 4 40 11
     else if e = 10 then entryWord 0 6 40 12 else 0x00080000)

/-- `adc.pP.cover` (R240, R243). -/
def mapAdcCover (p : Nat) : Nat :=
  if p < 4 then
    (0x8000 + 64 * p) + (0x8000 + 64 * p + 32) * 2 ^ 16 + (0x8000 + 64 * p + 2) * 2 ^ 32 + (0x8000 + 64 * p + 33) * 2 ^ 48 +
      (64 * p + 1) * 2 ^ 64 + 0xFFFFFFFFFFFF * 2 ^ 80
  else 2 ^ 128 - 1

/-- Logical result of NTC channel `i` (R435). -/
def mapNtcSrc (i : Nat) : Nat :=
  if i < 8 then 64 * (i / 2) + 34 + i % 2 else [264, 362, 352, 353, 354].getD (i - 8) 0xFFFF

/-- `pin.gN.filter` (R561). -/
def mapPinFilter (g : Nat) : Nat :=
  if 7 ≤ g ∧ g ≤ 10 then 2 else if g = 23 ∨ 26 ≤ g then 200 else if g = 24 then 4 else 0

end Sys2Proof.Machine
end

