-- ==== Sys2Proof/Machine/ObjType.lean ====
section
/-! DEFINITION. The vocabulary of the object tables: types (R8), access kinds (R12), retention classes (R14), legal
ranges, function groups (R77) and the row that describes one family of objects. -/

namespace Sys2Proof.Machine

/-- Object types (R8). -/
inductive ObjTy where
  | u8 | u16 | u32 | u64 | s20 | s32 | f32
  | blob (bytes : Nat)
  deriving DecidableEq, Repr

/-- Access kinds (R12). -/
inductive ObjAcc where
  | ro | rw | wo | rc
  deriving DecidableEq, Repr

/-- Retention classes (R14). -/
inductive ObjRet where
  | v | w | k | n
  deriving DecidableEq, Repr

/-- Legal ranges. `cnt` is `rng` whose 0 is ST_BAD_COUNT (R18); `fr` bounds an F32 in thousandths; `sq` bounds the
signed 20-bit fraction of an S20. -/
inductive ObjRng where
  | any
  | rng (lo hi : Nat)
  | rngOr (lo hi other : Nat)
  | cnt (lo hi : Nat)
  | mask (m : Nat)
  | oneOf (l : List Nat)
  | fr (lo hi : Int)
  | sq (lo hi : Int)
  deriving DecidableEq, Repr

/-- How an object gets its function group (R77): none, a fixed one, or by the instance. -/
inductive ObjGrp where
  | none
  | fixed (g : Nat)
  | link | cg | trx | ctx | tr | adcConv | adcPair | adcRes | adcAin | posPort | prb | amc
  deriving DecidableEq, Repr

/-- One row of an object table. -/
structure ObjRow where
  base : Nat
  num : Nat
  stride : Nat
  ty : ObjTy
  acc : ObjAcc
  roles : Nat
  ret : ObjRet
  rng : ObjRng
  grp : ObjGrp
  rc : Nat := 0
  dflt : Nat → Nat

/-- The size of a type in bytes (R8). -/
def ObjTy.size : ObjTy → Nat
  | .u8 => 1
  | .u16 => 2
  | .u32 | .s20 | .s32 | .f32 => 4
  | .u64 => 8
  | .blob n => n

/-- The instance of the row's family that an ID names. -/
def ObjRow.instance? (r : ObjRow) (id : Nat) : Option Nat :=
  if r.base ≤ id ∧ (id - r.base) % r.stride = 0 ∧ (id - r.base) / r.stride < r.num then
    some ((id - r.base) / r.stride)
  else none

end Sys2Proof.Machine
end

