-- ==== Sys2Proof/Machine/ObjTable.lean ====
section
/-! DEFINITION. The object tables of the spec (R7), row for row: base ID, number of instances and their stride, type
(R8), access (R12), write roles (bit 0 OPERATOR, 1 INSTALLER, 2 MAKER), retention class (R14), value after cold reset,
legal range where a constant range is stated, function group (R77) and, for RC objects, the sticky bits. Ranges that
depend on other objects are checked in Machine/ObjCheck.lean. -/

namespace Sys2Proof.Machine

/-- The SYS objects. -/
def rowsSys : List ObjRow := [
  { base := 0x10, num := 1, stride := 0x1, ty := .u64, acc := .ro, roles := 0, ret := .k, rng := .any, grp := .none, dflt := fun _ => 0 },
  { base := 0x20, num := 1, stride := 0x1, ty := .u8, acc := .rw, roles := 4, ret := .n, rng := .rng 0 1, grp := .none, dflt := fun _ => 1 },
  { base := 0x21, num := 1, stride := 0x1, ty := .u16, acc := .rw, roles := 4, ret := .n, rng := .rng 0 20, grp := .none, dflt := fun _ => 12 },
  { base := 0x22, num := 1, stride := 0x1, ty := .u16, acc := .rw, roles := 4, ret := .n, rng := .rng 30 60, grp := .none, dflt := fun _ => 40 },
  { base := 0x23, num := 1, stride := 0x1, ty := .u8, acc := .rw, roles := 4, ret := .n, rng := .mask 0x0F, grp := .none, dflt := fun _ => 15 },
  { base := 0x24, num := 1, stride := 0x1, ty := .u32, acc := .rc, roles := 7, ret := .v, rng := .any, grp := .none, rc := 0x300, dflt := fun _ => 191 },
  { base := 0x30, num := 1, stride := 0x1, ty := .u32, acc := .rc, roles := 7, ret := .v, rng := .any, grp := .none, rc := 0x3ff, dflt := fun _ => 0 },
  { base := 0x31, num := 1, stride := 0x1, ty := .u32, acc := .rc, roles := 7, ret := .v, rng := .any, grp := .none, rc := 0x3f, dflt := fun _ => 0 },
  { base := 0x100, num := 1, stride := 0x1, ty := .u8, acc := .ro, roles := 0, ret := .v, rng := .any, grp := .none, dflt := fun _ => 0 },
  { base := 0x101, num := 1, stride := 0x1, ty := .u8, acc := .rw, roles := 4, ret := .n, rng := .rngOr 0 3 0xFF, grp := .none, dflt := fun _ => 2 },
  { base := 0x102, num := 1, stride := 0x1, ty := (.blob 64), acc := .rw, roles := 4, ret := .n, rng := .any, grp := .none, dflt := fun _ => 0x10203000102030001020300010203000102030001020300010203000102030001020300010203000102030001020300010203000102030001020300010203 },
  { base := 0x103, num := 1, stride := 0x1, ty := .u64, acc := .ro, roles := 0, ret := .w, rng := .any, grp := .none, dflt := fun _ => 0xffffffffffffffff },
  { base := 0x104, num := 1, stride := 0x1, ty := .u32, acc := .ro, roles := 0, ret := .w, rng := .any, grp := .none, dflt := fun _ => 0 },
  { base := 0x105, num := 1, stride := 0x1, ty := .u8, acc := .rw, roles := 4, ret := .n, rng := .rng 0 2, grp := .none, dflt := fun _ => 1 },
  { base := 0x106, num := 1, stride := 0x1, ty := .u16, acc := .rw, roles := 4, ret := .n, rng := .rng 1024 65535, grp := .none, dflt := fun _ => 47114 },
  { base := 0x110, num := 4, stride := 0x1, ty := .u32, acc := .rw, roles := 7, ret := .w, rng := .mask 0x001F3FFF, grp := .none, dflt := fun _ => 0x1f3fff },
  { base := 0x118, num := 4, stride := 0x1, ty := .u16, acc := .rw, roles := 6, ret := .n, rng := .cnt 10 10000, grp := .none, dflt := fun _ => 100 }
]

/-- The PIN objects. -/
def rowsPin : List ObjRow := [
  { base := 0x300, num := 29, stride := 0x1, ty := .u8, acc := .rw, roles := 6, ret := .n, rng := .any, grp := .none, dflt := fun i => mapPinFilter i },
  { base := 0x320, num := 29, stride := 0x1, ty := .u8, acc := .rw, roles := 6, ret := .n, rng := .rng 0 3, grp := .none, dflt := fun _ => 0 }
]

/-- The PWR objects. -/
def rowsPwr : List ObjRow := [
  { base := 0x1000, num := 1, stride := 0x1, ty := .u8, acc := .ro, roles := 0, ret := .v, rng := .any, grp := .none, dflt := fun _ => 0 },
  { base := 0x1001, num := 1, stride := 0x1, ty := .u8, acc := .ro, roles := 0, ret := .v, rng := .any, grp := .none, dflt := fun _ => 0 },
  { base := 0x1002, num := 1, stride := 0x1, ty := .u32, acc := .ro, roles := 0, ret := .v, rng := .any, grp := .none, dflt := fun _ => 0 },
  { base := 0x1003, num := 1, stride := 0x1, ty := .u8, acc := .rw, roles := 4, ret := .n, rng := .rng 0 5, grp := .none, dflt := fun _ => 4 },
  { base := 0x1004, num := 1, stride := 0x1, ty := .u16, acc := .rw, roles := 6, ret := .n, rng := .cnt 10 60000, grp := .none, dflt := fun _ => 500 },
  { base := 0x1005, num := 1, stride := 0x1, ty := .u16, acc := .rw, roles := 6, ret := .n, rng := .cnt 100 60000, grp := .none, dflt := fun _ => 2000 },
  { base := 0x1006, num := 1, stride := 0x1, ty := .u16, acc := .rw, roles := 6, ret := .n, rng := .mask 0x1FFB, grp := .none, dflt := fun _ => 6427 },
  { base := 0x1007, num := 1, stride := 0x1, ty := .u32, acc := .rw, roles := 7, ret := .k, rng := .cnt 1 2592000, grp := .none, dflt := fun _ => 3600 },
  { base := 0x1008, num := 1, stride := 0x1, ty := .u32, acc := .ro, roles := 0, ret := .k, rng := .any, grp := .none, dflt := fun _ => 0x17f0000 },
  { base := 0x1009, num := 1, stride := 0x1, ty := .u16, acc := .ro, roles := 0, ret := .k, rng := .any, grp := .none, dflt := fun _ => 0 },
  { base := 0x100a, num := 1, stride := 0x1, ty := .f32, acc := .ro, roles := 0, ret := .v, rng := .any, grp := .none, dflt := fun _ => 0 },
  { base := 0x100b, num := 1, stride := 0x1, ty := .f32, acc := .ro, roles := 0, ret := .v, rng := .any, grp := .none, dflt := fun _ => 0 },
  { base := 0x1010, num := 4, stride := 0x1, ty := .u32, acc := .rw, roles := 7, ret := .w, rng := .any, grp := .none, dflt := fun _ => 0 }
]

/-- The THM objects. -/
def rowsThm : List ObjRow := [
  { base := 0x1400, num := 1, stride := 0x1, ty := .u8, acc := .ro, roles := 0, ret := .v, rng := .any, grp := .none, dflt := fun _ => 0 },
  { base := 0x1401, num := 1, stride := 0x1, ty := .u32, acc := .rc, roles := 7, ret := .v, rng := .any, grp := .none, rc := 0x3e, dflt := fun _ => 0 },
  { base := 0x1402, num := 1, stride := 0x1, ty := .f32, acc := .ro, roles := 0, ret := .v, rng := .any, grp := .none, dflt := fun _ => 0 },
  { base := 0x1403, num := 1, stride := 0x1, ty := .u32, acc := .ro, roles := 0, ret := .k, rng := .any, grp := .none, dflt := fun _ => 0 },
  { base := 0x1404, num := 1, stride := 0x1, ty := (.blob 20), acc := .ro, roles := 0, ret := .v, rng := .any, grp := .none, dflt := fun _ => 0 },
  { base := 0x1408, num := 1, stride := 0x1, ty := .u8, acc := .rw, roles := 4, ret := .n, rng := .rng 2 20, grp := .none, dflt := fun _ => 5 },
  { base := 0x1409, num := 1, stride := 0x1, ty := .u16, acc := .rw, roles := 4, ret := .n, rng := .rng 0 1000, grp := .none, dflt := fun _ => 250 },
  { base := 0x140a, num := 1, stride := 0x1, ty := .f32, acc := .rw, roles := 4, ret := .n, rng := .fr 60000 150000, grp := .none, dflt := fun _ => 0x42dc0000 },
  { base := 0x140b, num := 1, stride := 0x1, ty := .f32, acc := .rw, roles := 4, ret := .n, rng := .any, grp := .none, dflt := fun _ => 0x43020000 },
  { base := 0x140c, num := 1, stride := 0x1, ty := .f32, acc := .rw, roles := 4, ret := .n, rng := .fr 60000 220000, grp := .none, dflt := fun _ => 0x43160000 },
  { base := 0x140d, num := 1, stride := 0x1, ty := .f32, acc := .rw, roles := 4, ret := .n, rng := .any, grp := .none, dflt := fun _ => 0x43340000 },
  { base := 0x140e, num := 1, stride := 0x1, ty := .f32, acc := .rw, roles := 4, ret := .n, rng := .fr 40000 120000, grp := .none, dflt := fun _ => 0x428c0000 },
  { base := 0x140f, num := 1, stride := 0x1, ty := .f32, acc := .rw, roles := 4, ret := .n, rng := .any, grp := .none, dflt := fun _ => 0x42b40000 },
  { base := 0x1410, num := 1, stride := 0x1, ty := .u16, acc := .rw, roles := 4, ret := .n, rng := .cnt 10 10000, grp := .none, dflt := fun _ => 200 },
  { base := 0x1411, num := 1, stride := 0x1, ty := .u16, acc := .rw, roles := 4, ret := .n, rng := .cnt 10 60000, grp := .none, dflt := fun _ => 1000 },
  { base := 0x1412, num := 1, stride := 0x1, ty := .u16, acc := .rw, roles := 4, ret := .n, rng := .cnt 10 10000, grp := .none, dflt := fun _ => 200 },
  { base := 0x1413, num := 1, stride := 0x1, ty := .u16, acc := .rw, roles := 4, ret := .n, rng := .cnt 1 1000, grp := .none, dflt := fun _ => 10 },
  { base := 0x1414, num := 1, stride := 0x1, ty := .u16, acc := .rw, roles := 4, ret := .n, rng := .cnt 10 10000, grp := .none, dflt := fun _ => 100 },
  { base := 0x1440, num := 72, stride := 0x1, ty := .f32, acc := .ro, roles := 0, ret := .v, rng := .any, grp := .none, dflt := fun _ => 0x7fc00000 },
  { base := 0x1490, num := 16, stride := 0x1, ty := .u16, acc := .rw, roles := 4, ret := .n, rng := .rngOr 0 383 0xFFFF, grp := .none, dflt := fun i => mapNtcSrc i },
  { base := 0x14a0, num := 16, stride := 0x1, ty := .f32, acc := .rw, roles := 4, ret := .n, rng := .fr 1000000 10000000, grp := .none, dflt := fun _ => 0x4556b000 },
  { base := 0x14b0, num := 16, stride := 0x1, ty := .f32, acc := .rw, roles := 4, ret := .n, rng := .fr 100000 1000000000, grp := .none, dflt := fun _ => 0x461c4000 },
  { base := 0x14c0, num := 16, stride := 0x1, ty := .f32, acc := .rw, roles := 4, ret := .n, rng := .fr 100000 1000000000, grp := .none, dflt := fun _ => 0x461c4000 }
]

/-- The SEC objects. -/
def rowsSec : List ObjRow := [
  { base := 0x1800, num := 1, stride := 0x1, ty := .u8, acc := .ro, roles := 0, ret := .n, rng := .any, grp := .none, dflt := fun _ => 0 },
  { base := 0x1801, num := 1, stride := 0x1, ty := .u64, acc := .ro, roles := 0, ret := .n, rng := .any, grp := .none, dflt := fun _ => Config.deviceId.toNat },
  { base := 0x1802, num := 1, stride := 0x1, ty := .u8, acc := .ro, roles := 0, ret := .w, rng := .any, grp := .none, dflt := fun _ => 0 },
  { base := 0x1803, num := 1, stride := 0x1, ty := .u32, acc := .rw, roles := 4, ret := .n, rng := .any, grp := .none, dflt := fun _ => 0 },
  { base := 0x1804, num := 1, stride := 0x1, ty := .u32, acc := .ro, roles := 0, ret := .n, rng := .any, grp := .none, dflt := fun _ => 0 },
  { base := 0x1805, num := 1, stride := 0x1, ty := (.blob 68), acc := .ro, roles := 0, ret := .n, rng := .any, grp := .none, dflt := fun _ => Config.idPub.toNat },
  { base := 0x1806, num := 1, stride := 0x1, ty := (.blob 68), acc := .ro, roles := 0, ret := .n, rng := .any, grp := .none, dflt := fun _ => (Config.attPub 0 0).toNat },
  { base := 0x1807, num := 1, stride := 0x1, ty := .u32, acc := .ro, roles := 0, ret := .n, rng := .any, grp := .none, dflt := fun _ => 0 },
  { base := 0x1808, num := 1, stride := 0x1, ty := .u32, acc := .ro, roles := 0, ret := .k, rng := .any, grp := .none, dflt := fun _ => 0 },
  { base := 0x1809, num := 1, stride := 0x1, ty := .u32, acc := .ro, roles := 0, ret := .k, rng := .any, grp := .none, dflt := fun _ => 0 },
  { base := 0x180a, num := 1, stride := 0x1, ty := (.blob 32), acc := .wo, roles := 6, ret := .k, rng := .any, grp := .none, dflt := fun _ => 0 },
  { base := 0x180b, num := 1, stride := 0x1, ty := .u8, acc := .rw, roles := 4, ret := .n, rng := .any, grp := .none, dflt := fun _ => 63 },
  { base := 0x180c, num := 1, stride := 0x1, ty := .u32, acc := .ro, roles := 0, ret := .n, rng := .any, grp := .none, dflt := fun _ => 0 },
  { base := 0x180d, num := 1, stride := 0x1, ty := .u8, acc := .wo, roles := 4, ret := .v, rng := .any, grp := .none, dflt := fun _ => 0 },
  { base := 0x180e, num := 1, stride := 0x1, ty := .u16, acc := .rw, roles := 4, ret := .n, rng := .cnt 1 1440, grp := .none, dflt := fun _ => 30 },
  { base := 0x1820, num := 1, stride := 0x1, ty := .u32, acc := .ro, roles := 0, ret := .n, rng := .any, grp := .none, dflt := fun _ => 0 },
  { base := 0x1821, num := 1, stride := 0x1, ty := (.blob 16), acc := .ro, roles := 0, ret := .n, rng := .any, grp := .none, dflt := fun _ => 0 },
  { base := 0x1822, num := 1, stride := 0x1, ty := .u16, acc := .ro, roles := 0, ret := .n, rng := .any, grp := .none, dflt := fun _ => 0 },
  { base := 0x1823, num := 1, stride := 0x1, ty := .u8, acc := .ro, roles := 0, ret := .k, rng := .any, grp := .none, dflt := fun _ => 0 }
]

/-- The UPD objects. -/
def rowsUpd : List ObjRow := [
  { base := 0x1c00, num := 1, stride := 0x1, ty := .u8, acc := .ro, roles := 0, ret := .v, rng := .any, grp := .none, dflt := fun _ => 9 },
  { base := 0x1c01, num := 1, stride := 0x1, ty := .u8, acc := .ro, roles := 0, ret := .k, rng := .any, grp := .none, dflt := fun _ => 255 },
  { base := 0x1c10, num := 6, stride := 0x1, ty := (.blob 8), acc := .ro, roles := 0, ret := .v, rng := .any, grp := .none, dflt := fun _ => 0x01040909 },
  { base := 0x1c18, num := 6, stride := 0x1, ty := (.blob 8), acc := .ro, roles := 0, ret := .k, rng := .any, grp := .none, dflt := fun _ => 0xFF0000000000 },
  { base := 0x1c20, num := 6, stride := 0x1, ty := .u8, acc := .ro, roles := 0, ret := .k, rng := .any, grp := .none, dflt := fun _ => 0 },
  { base := 0x1c28, num := 6, stride := 0x1, ty := .u32, acc := .ro, roles := 0, ret := .k, rng := .any, grp := .none, dflt := fun _ => 0 },
  { base := 0x1c30, num := 6, stride := 0x1, ty := .u16, acc := .ro, roles := 0, ret := .n, rng := .any, grp := .none, dflt := fun _ => 0 }
]

/-- The NET objects. -/
def rowsNet : List ObjRow := [
  { base := 0x2000, num := 1, stride := 0x1, ty := .u32, acc := .rc, roles := 7, ret := .v, rng := .any, grp := .none, rc := 0x7, dflt := fun _ => 0 },
  { base := 0x2001, num := 1, stride := 0x1, ty := .u64, acc := .rw, roles := 4, ret := .n, rng := .any, grp := (.fixed 10), dflt := fun _ => 0 },
  { base := 0x2002, num := 1, stride := 0x1, ty := .u16, acc := .rw, roles := 6, ret := .n, rng := .any, grp := (.fixed 10), dflt := fun _ => 63360 },
  { base := 0x2003, num := 1, stride := 0x1, ty := .u8, acc := .rw, roles := 6, ret := .n, rng := .rng 0 1, grp := (.fixed 10), dflt := fun _ => 0 },
  { base := 0x2004, num := 1, stride := 0x1, ty := .u16, acc := .rw, roles := 6, ret := .n, rng := .cnt 100 60000, grp := (.fixed 10), dflt := fun _ => 3000 },
  { base := 0x2005, num := 1, stride := 0x1, ty := .u16, acc := .rw, roles := 4, ret := .n, rng := .rng 1024 65535, grp := (.fixed 10), dflt := fun _ => 47115 },
  { base := 0x2006, num := 1, stride := 0x1, ty := .u16, acc := .ro, roles := 0, ret := .v, rng := .any, grp := .none, dflt := fun _ => 0 },
  { base := 0x2007, num := 1, stride := 0x1, ty := .u16, acc := .ro, roles := 0, ret := .v, rng := .any, grp := .none, dflt := fun _ => 0 },
  { base := 0x2008, num := 1, stride := 0x1, ty := .u8, acc := .ro, roles := 0, ret := .v, rng := .any, grp := .none, dflt := fun _ => 0 },
  { base := 0x2009, num := 1, stride := 0x1, ty := .u32, acc := .ro, roles := 0, ret := .v, rng := .any, grp := .none, dflt := fun _ => 0 },
  { base := 0x200a, num := 1, stride := 0x1, ty := .u32, acc := .ro, roles := 0, ret := .v, rng := .any, grp := .none, dflt := fun _ => 0 },
  { base := 0x200b, num := 1, stride := 0x1, ty := .u32, acc := .ro, roles := 0, ret := .v, rng := .any, grp := .none, dflt := fun _ => 0 },
  { base := 0x2010, num := 4, stride := 0x10, ty := .u8, acc := .rw, roles := 6, ret := .n, rng := .rng 0 3, grp := (.fixed 10), dflt := fun i => if i = 0 then 1 else 0 },
  { base := 0x2011, num := 4, stride := 0x10, ty := .u32, acc := .rw, roles := 6, ret := .n, rng := .any, grp := (.fixed 10), dflt := fun _ => 0x3d090 },
  { base := 0x2012, num := 4, stride := 0x10, ty := .u32, acc := .rw, roles := 6, ret := .n, rng := .any, grp := (.fixed 10), dflt := fun _ => 0x1e8480 },
  { base := 0x2013, num := 4, stride := 0x10, ty := .u16, acc := .rw, roles := 6, ret := .n, rng := .any, grp := (.fixed 10), dflt := fun _ => 20550 },
  { base := 0x2014, num := 4, stride := 0x10, ty := .u8, acc := .rw, roles := 6, ret := .n, rng := .rng 0 253, grp := (.fixed 10), dflt := fun _ => 128 },
  { base := 0x2015, num := 4, stride := 0x10, ty := .u8, acc := .rw, roles := 6, ret := .n, rng := .rng 0 1, grp := (.fixed 10), dflt := fun _ => 1 },
  { base := 0x2016, num := 4, stride := 0x10, ty := .u8, acc := .ro, roles := 0, ret := .v, rng := .any, grp := .none, dflt := fun _ => 254 },
  { base := 0x2017, num := 4, stride := 0x10, ty := .u32, acc := .rc, roles := 7, ret := .v, rng := .any, grp := .none, rc := 0x6, dflt := fun _ => 0 },
  { base := 0x2050, num := 4, stride := 0x10, ty := .u32, acc := .rw, roles := 6, ret := .n, rng := .any, grp := (.fixed 10), dflt := fun i => if i ≤ 1 then 1 else 0 },
  { base := 0x2051, num := 4, stride := 0x10, ty := .u32, acc := .rw, roles := 6, ret := .n, rng := .any, grp := (.fixed 10), dflt := fun i => 0xC0A80A40 + i },
  { base := 0x2052, num := 4, stride := 0x10, ty := .u32, acc := .rw, roles := 6, ret := .n, rng := .any, grp := (.fixed 10), dflt := fun _ => 0xffffff00 },
  { base := 0x2053, num := 4, stride := 0x10, ty := .u64, acc := .ro, roles := 0, ret := .n, rng := .any, grp := .none, dflt := fun i => (Config.macAddress i).toNat },
  { base := 0x2054, num := 4, stride := 0x10, ty := .u32, acc := .rc, roles := 7, ret := .v, rng := .any, grp := .none, rc := 0x6, dflt := fun _ => 0 },
  { base := 0x2100, num := 256, stride := 0x1, ty := (.blob 24), acc := .rw, roles := 4, ret := .n, rng := .any, grp := (.fixed 10), dflt := fun _ => 0 }
]

/-- The GLK objects. -/
def rowsGlk : List ObjRow := [
  { base := 0x3000, num := 1, stride := 0x1, ty := .u64, acc := .rw, roles := 4, ret := .n, rng := .mask 0xFFFFFFFFFF, grp := .none, dflt := fun _ => 0 },
  { base := 0x3001, num := 1, stride := 0x1, ty := .u64, acc := .ro, roles := 0, ret := .v, rng := .any, grp := .none, dflt := fun _ => 0 },
  { base := 0x3002, num := 1, stride := 0x1, ty := .u16, acc := .ro, roles := 0, ret := .v, rng := .any, grp := .none, dflt := fun _ => 0 },
  { base := 0x3040, num := 40, stride := 0x1, ty := .u32, acc := .rc, roles := 7, ret := .v, rng := .any, grp := .link, rc := 0xff00, dflt := fun _ => 0 },
  { base := 0x3080, num := 40, stride := 0x1, ty := .u32, acc := .ro, roles := 0, ret := .w, rng := .any, grp := .link, dflt := fun _ => 0 },
  { base := 0x30c0, num := 40, stride := 0x1, ty := .u8, acc := .rw, roles := 6, ret := .n, rng := .rng 0 3, grp := .link, dflt := fun _ => 1 },
  { base := 0x3100, num := 40, stride := 0x1, ty := .u8, acc := .ro, roles := 0, ret := .w, rng := .any, grp := .link, dflt := fun _ => 0 },
  { base := 0x3140, num := 40, stride := 0x1, ty := .u8, acc := .rw, roles := 4, ret := .n, rng := .rng 0 3, grp := .link, dflt := fun i => if i ≤ 23 then 2 else 0 },
  { base := 0x3180, num := 40, stride := 0x1, ty := .u32, acc := .ro, roles := 0, ret := .v, rng := .any, grp := .link, dflt := fun _ => 0 },
  { base := 0x31c0, num := 40, stride := 0x1, ty := .u16, acc := .ro, roles := 0, ret := .v, rng := .any, grp := .link, dflt := fun _ => 0 },
  { base := 0x3200, num := 40, stride := 0x1, ty := .u16, acc := .rw, roles := 4, ret := .n, rng := .rng 16 4000, grp := .link, dflt := fun _ => 400 },
  { base := 0x3240, num := 40, stride := 0x1, ty := .s32, acc := .ro, roles := 0, ret := .w, rng := .any, grp := .link, dflt := fun _ => 0 },
  { base := 0x3280, num := 40, stride := 0x1, ty := .s32, acc := .ro, roles := 0, ret := .w, rng := .any, grp := .link, dflt := fun _ => 0 },
  { base := 0x32c0, num := 40, stride := 0x1, ty := .u16, acc := .rw, roles := 4, ret := .n, rng := .rng 16 4000, grp := .link, dflt := fun _ => 16 },
  { base := 0x3300, num := 40, stride := 0x1, ty := .u16, acc := .rw, roles := 6, ret := .n, rng := .rng 20 500, grp := .link, dflt := fun _ => 100 },
  { base := 0x3340, num := 40, stride := 0x1, ty := .u8, acc := .rw, roles := 6, ret := .n, rng := .any, grp := .link, dflt := fun _ => 240 },
  { base := 0x3380, num := 40, stride := 0x1, ty := .u8, acc := .rw, roles := 6, ret := .n, rng := .mask 0x03, grp := .link, dflt := fun _ => 3 },
  { base := 0x33c0, num := 40, stride := 0x1, ty := (.blob 16), acc := .ro, roles := 0, ret := .w, rng := .any, grp := .link, dflt := fun _ => 0x7070707070707070707070707070707 },
  { base := 0x3400, num := 8, stride := 0x1, ty := .u32, acc := .rw, roles := 6, ret := .n, rng := .any, grp := .cg, dflt := fun i => if i ≤ 3 then 10000 else if i = 4 then 40000 else if i = 5 then 100000 else if i = 6 then 5000 else 200000 },
  { base := 0x3408, num := 8, stride := 0x1, ty := .u8, acc := .rw, roles := 6, ret := .n, rng := .rng 0 80, grp := .cg, dflt := fun _ => 40 },
  { base := 0x3410, num := 8, stride := 0x1, ty := .u8, acc := .rw, roles := 6, ret := .n, rng := .mask 0x07, grp := .cg, dflt := fun _ => 1 },
  { base := 0x3418, num := 8, stride := 0x1, ty := .u16, acc := .rw, roles := 4, ret := .n, rng := .rng 16 4000, grp := .cg, dflt := fun _ => 160 },
  { base := 0x3420, num := 8, stride := 0x1, ty := .u16, acc := .rw, roles := 4, ret := .n, rng := .rng 1 0xFFFF, grp := .cg, dflt := fun i => 0xACE1 + i },
  { base := 0x3428, num := 1, stride := 0x1, ty := .u16, acc := .rw, roles := 4, ret := .n, rng := .rng 400 4000, grp := .none, dflt := fun _ => 800 },
  { base := 0x3430, num := 8, stride := 0x1, ty := .s20, acc := .rw, roles := 6, ret := .n, rng := .sq 0 0x7FFFF, grp := .cg, dflt := fun _ => 13107 },
  { base := 0x3438, num := 8, stride := 0x1, ty := .u16, acc := .rw, roles := 4, ret := .n, rng := .rng 0 640, grp := .cg, dflt := fun _ => 64 }
]

/-- The TRX objects (part 1). -/
def rowsTrx0 : List ObjRow := [
  { base := 0x3800, num := 4, stride := 0x100, ty := .u8, acc := .rw, roles := 4, ret := .n, rng := .rng 0 3, grp := .trx, dflt := fun _ => 0 },
  { base := 0x3801, num := 4, stride := 0x100, ty := .u8, acc := .rw, roles := 4, ret := .n, rng := .oneOf [1, 3], grp := .trx, dflt := fun _ => 1 },
  { base := 0x3802, num := 4, stride := 0x100, ty := .u8, acc := .rw, roles := 4, ret := .n, rng := .rng 0 1, grp := .trx, dflt := fun _ => 0 },
  { base := 0x3803, num := 4, stride := 0x100, ty := .u8, acc := .rw, roles := 4, ret := .n, rng := .cnt 1 32, grp := .trx, dflt := fun _ => 4 },
  { base := 0x3804, num := 4, stride := 0x100, ty := .u8, acc := .rw, roles := 4, ret := .n, rng := .rng 0 3, grp := .trx, dflt := fun i => i },
  { base := 0x3805, num := 4, stride := 0x100, ty := .u16, acc := .rw, roles := 4, ret := .n, rng := .any, grp := .trx, dflt := fun _ => 0 },
  { base := 0x3806, num := 4, stride := 0x100, ty := .u8, acc := .rw, roles := 4, ret := .n, rng := .rng 0 1, grp := .trx, dflt := fun _ => 0 },
  { base := 0x3807, num := 4, stride := 0x100, ty := .u8, acc := .rw, roles := 4, ret := .n, rng := .rng 0 1, grp := .trx, dflt := fun _ => 1 },
  { base := 0x3808, num := 4, stride := 0x100, ty := .f32, acc := .rw, roles := 4, ret := .n, rng := .any, grp := .trx, dflt := fun _ => 0 },
  { base := 0x3809, num := 4, stride := 0x100, ty := .f32, acc := .rw, roles := 4, ret := .n, rng := .any, grp := .trx, dflt := fun _ => 0 },
  { base := 0x380a, num := 4, stride := 0x100, ty := .f32, acc := .rw, roles := 4, ret := .n, rng := .any, grp := .trx, dflt := fun _ => 0 },
  { base := 0x380b, num := 4, stride := 0x100, ty := .f32, acc := .rw, roles := 4, ret := .n, rng := .any, grp := .trx, dflt := fun _ => 0 },
  { base := 0x380c, num := 4, stride := 0x100, ty := .f32, acc := .rw, roles := 4, ret := .n, rng := .any, grp := .trx, dflt := fun _ => 0 },
  { base := 0x380d, num := 4, stride := 0x100, ty := .f32, acc := .rw, roles := 4, ret := .n, rng := .any, grp := .trx, dflt := fun _ => 0 },
  { base := 0x380e, num := 4, stride := 0x100, ty := .f32, acc := .rw, roles := 4, ret := .n, rng := .any, grp := .trx, dflt := fun _ => 0 },
  { base := 0x380f, num := 4, stride := 0x100, ty := .f32, acc := .rw, roles := 4, ret := .n, rng := .any, grp := .trx, dflt := fun _ => 0 },
  { base := 0x3810, num := 4, stride := 0x100, ty := .f32, acc := .rw, roles := 4, ret := .n, rng := .any, grp := .trx, dflt := fun _ => 0 },
  { base := 0x3818, num := 4, stride := 0x100, ty := .u8, acc := .rw, roles := 6, ret := .n, rng := .rng 0 2, grp := .trx, dflt := fun _ => 0 },
  { base := 0x3820, num := 4, stride := 0x100, ty := .f32, acc := .rw, roles := 7, ret := .v, rng := .any, grp := .trx, dflt := fun _ => 0 },
  { base := 0x3821, num := 4, stride := 0x100, ty := .f32, acc := .rw, roles := 7, ret := .v, rng := .any, grp := .trx, dflt := fun _ => 0 },
  { base := 0x3822, num := 4, stride := 0x100, ty := .f32, acc := .rw, roles := 7, ret := .v, rng := .any, grp := .trx, dflt := fun _ => 0 },
  { base := 0x3823, num := 4, stride := 0x100, ty := .f32, acc := .rw, roles := 7, ret := .v, rng := .any, grp := .trx, dflt := fun _ => 0 },
  { base := 0x3824, num := 4, stride := 0x100, ty := .f32, acc := .rw, roles := 6, ret := .n, rng := .fr 1000 100000000, grp := .trx, dflt := fun _ => 0x43fa0000 },
  { base := 0x3825, num := 4, stride := 0x100, ty := .f32, acc := .rw, roles := 6, ret := .n, rng := .fr 1000 10000000, grp := .trx, dflt := fun _ => 0x42c80000 },
  { base := 0x3828, num := 4, stride := 0x100, ty := .f32, acc := .rw, roles := 6, ret := .n, rng := .fr 0 100000000, grp := .trx, dflt := fun _ => 0 },
  { base := 0x3829, num := 4, stride := 0x100, ty := .f32, acc := .rw, roles := 6, ret := .n, rng := .fr 0 100000000, grp := .trx, dflt := fun _ => 0 },
  { base := 0x382a, num := 4, stride := 0x100, ty := .f32, acc := .rw, roles := 6, ret := .n, rng := .fr 0 1000000, grp := .trx, dflt := fun _ => 0 },
  { base := 0x382b, num := 4, stride := 0x100, ty := .f32, acc := .rw, roles := 6, ret := .n, rng := .fr 0 1000000, grp := .trx, dflt := fun _ => 0 },
  { base := 0x382c, num := 4, stride := 0x100, ty := (.blob 192), acc := .rw, roles := 4, ret := .n, rng := .any, grp := .trx, dflt := fun _ => 0 },
  { base := 0x3830, num := 4, stride := 0x100, ty := .f32, acc := .rw, roles := 6, ret := .n, rng := .fr 10000 100000000, grp := .trx, dflt := fun _ => 0x44fa0000 },
  { base := 0x3831, num := 4, stride := 0x100, ty := .f32, acc := .rw, roles := 6, ret := .n, rng := .fr 0 1000000, grp := .trx, dflt := fun _ => 0x41a00000 },
  { base := 0x3832, num := 4, stride := 0x100, ty := .f32, acc := .rw, roles := 6, ret := .n, rng := .fr 10000 100000000, grp := .trx, dflt := fun _ => 0x43fa0000 },
  { base := 0x3833, num := 4, stride := 0x100, ty := .f32, acc := .rw, roles := 6, ret := .n, rng := .fr 10000 100000000, grp := .trx, dflt := fun _ => 0x459c4000 },
  { base := 0x3834, num := 4, stride := 0x100, ty := .u16, acc := .rw, roles := 6, ret := .n, rng := .cnt 10 5000, grp := .trx, dflt := fun _ => 200 },
  { base := 0x3838, num := 4, stride := 0x100, ty := .f32, acc := .rw, roles := 4, ret := .n, rng := .any, grp := .trx, dflt := fun _ => 0 },
  { base := 0x3839, num := 4, stride := 0x100, ty := .f32, acc := .rw, roles := 4, ret := .n, rng := .any, grp := .trx, dflt := fun _ => 0 },
  { base := 0x383a, num := 4, stride := 0x100, ty := .f32, acc := .rw, roles := 4, ret := .n, rng := .fr 10000 2000000, grp := .trx, dflt := fun _ => 0x43480000 },
  { base := 0x383b, num := 4, stride := 0x100, ty := .f32, acc := .rw, roles := 4, ret := .n, rng := .any, grp := .trx, dflt := fun _ => 0 },
  { base := 0x383c, num := 4, stride := 0x100, ty := .u8, acc := .rw, roles := 6, ret := .n, rng := .mask 0x03, grp := .trx, dflt := fun _ => 3 },
  { base := 0x383d, num := 4, stride := 0x100, ty := .f32, acc := .rw, roles := 6, ret := .n, rng := .fr 0 500000, grp := .trx, dflt := fun _ => 0x41f00000 }
]

/-- The TRX objects (part 2). -/
def rowsTrx1 : List ObjRow := [
  { base := 0x3840, num := 4, stride := 0x100, ty := .f32, acc := .rw, roles := 4, ret := .n, rng := .any, grp := .trx, dflt := fun _ => 0 },
  { base := 0x3841, num := 4, stride := 0x100, ty := .f32, acc := .rw, roles := 4, ret := .n, rng := .any, grp := .trx, dflt := fun _ => 0x42c80000 },
  { base := 0x3842, num := 4, stride := 0x100, ty := .u8, acc := .rw, roles := 4, ret := .n, rng := .rng 0 1, grp := .trx, dflt := fun _ => 0 },
  { base := 0x3848, num := 4, stride := 0x100, ty := .u16, acc := .rw, roles := 6, ret := .n, rng := .rng 800 1000, grp := .trx, dflt := fun _ => 950 },
  { base := 0x3849, num := 4, stride := 0x100, ty := .f32, acc := .rw, roles := 4, ret := .n, rng := .any, grp := .trx, dflt := fun _ => 0 },
  { base := 0x3850, num := 4, stride := 0x100, ty := .u8, acc := .rw, roles := 4, ret := .n, rng := .rng 0 1, grp := .trx, dflt := fun _ => 1 },
  { base := 0x3851, num := 4, stride := 0x100, ty := .f32, acc := .rw, roles := 4, ret := .n, rng := .any, grp := .trx, dflt := fun _ => 0x43fa0000 },
  { base := 0x3852, num := 4, stride := 0x100, ty := .f32, acc := .rw, roles := 4, ret := .n, rng := .any, grp := .trx, dflt := fun _ => 0x42c80000 },
  { base := 0x3853, num := 4, stride := 0x100, ty := .u16, acc := .rw, roles := 4, ret := .n, rng := .rng 100 1000, grp := .trx, dflt := fun _ => 800 },
  { base := 0x3858, num := 4, stride := 0x100, ty := .u16, acc := .rw, roles := 7, ret := .w, rng := .rng 0 1000, grp := .none, dflt := fun _ => 1000 },
  { base := 0x3859, num := 4, stride := 0x100, ty := .u16, acc := .rw, roles := 7, ret := .w, rng := .rng 0 1000, grp := .none, dflt := fun _ => 1000 },
  { base := 0x385a, num := 4, stride := 0x100, ty := .u16, acc := .rw, roles := 7, ret := .w, rng := .rng 0 1000, grp := .none, dflt := fun _ => 1000 },
  { base := 0x385b, num := 4, stride := 0x100, ty := .u16, acc := .rw, roles := 7, ret := .w, rng := .rng 0 1000, grp := .none, dflt := fun _ => 1000 },
  { base := 0x3860, num := 4, stride := 0x100, ty := .u8, acc := .ro, roles := 0, ret := .v, rng := .any, grp := .none, dflt := fun _ => 0 },
  { base := 0x3861, num := 4, stride := 0x100, ty := .f32, acc := .ro, roles := 0, ret := .v, rng := .any, grp := .none, dflt := fun _ => 0 },
  { base := 0x3862, num := 4, stride := 0x100, ty := .f32, acc := .ro, roles := 0, ret := .v, rng := .any, grp := .none, dflt := fun _ => 0 },
  { base := 0x3863, num := 4, stride := 0x100, ty := .u32, acc := .ro, roles := 0, ret := .v, rng := .any, grp := .none, dflt := fun _ => 0 },
  { base := 0x3864, num := 4, stride := 0x100, ty := .f32, acc := .ro, roles := 0, ret := .v, rng := .any, grp := .none, dflt := fun _ => 0 },
  { base := 0x3865, num := 4, stride := 0x100, ty := .f32, acc := .ro, roles := 0, ret := .v, rng := .any, grp := .none, dflt := fun _ => 0 },
  { base := 0x3866, num := 4, stride := 0x100, ty := .f32, acc := .ro, roles := 0, ret := .v, rng := .any, grp := .none, dflt := fun _ => 0 },
  { base := 0x3867, num := 4, stride := 0x100, ty := .u8, acc := .ro, roles := 0, ret := .w, rng := .any, grp := .none, dflt := fun _ => 0 },
  { base := 0x3868, num := 4, stride := 0x100, ty := .u32, acc := .rc, roles := 7, ret := .v, rng := .any, grp := .trx, rc := 0x3f, dflt := fun _ => 0 },
  { base := 0x3869, num := 4, stride := 0x100, ty := .u16, acc := .ro, roles := 0, ret := .v, rng := .any, grp := .none, dflt := fun _ => 0 },
  { base := 0x386a, num := 4, stride := 0x100, ty := .u8, acc := .ro, roles := 0, ret := .v, rng := .any, grp := .none, dflt := fun _ => 0 },
  { base := 0x3870, num := 4, stride := 0x100, ty := .u16, acc := .rw, roles := 4, ret := .n, rng := .rng 100 1000, grp := .trx, dflt := fun _ => 500 },
  { base := 0x3871, num := 4, stride := 0x100, ty := .u8, acc := .rw, roles := 4, ret := .n, rng := .mask 0x03, grp := .trx, dflt := fun _ => 3 },
  { base := 0x3872, num := 4, stride := 0x100, ty := .u8, acc := .rw, roles := 4, ret := .n, rng := .cnt 1 64, grp := .trx, dflt := fun _ => 4 },
  { base := 0x3873, num := 4, stride := 0x100, ty := .u8, acc := .rw, roles := 6, ret := .n, rng := .rng 0 1, grp := .trx, dflt := fun _ => 1 },
  { base := 0x3874, num := 4, stride := 0x100, ty := .u16, acc := .rw, roles := 6, ret := .n, rng := .cnt 100 60000, grp := .trx, dflt := fun _ => 1000 },
  { base := 0x3875, num := 4, stride := 0x100, ty := .u16, acc := .rw, roles := 6, ret := .n, rng := .cnt 5 5000, grp := .trx, dflt := fun _ => 50 },
  { base := 0x3876, num := 4, stride := 0x100, ty := .u32, acc := .ro, roles := 0, ret := .v, rng := .any, grp := .trx, dflt := fun _ => 48 },
  { base := 0x3877, num := 4, stride := 0x100, ty := .u32, acc := .ro, roles := 0, ret := .v, rng := .any, grp := .trx, dflt := fun _ => 0 }
]

/-- The TRX objects. -/
def rowsTrx : List ObjRow := rowsTrx0 ++ rowsTrx1

/-- The DCL objects. -/
def rowsDcl : List ObjRow := [
  { base := 0x3c00, num := 1, stride := 0x1, ty := .u8, acc := .ro, roles := 0, ret := .v, rng := .any, grp := .none, dflt := fun _ => 0 },
  { base := 0x3c01, num := 1, stride := 0x1, ty := .u32, acc := .rc, roles := 7, ret := .v, rng := .any, grp := .none, rc := 0x7ff, dflt := fun _ => 0 },
  { base := 0x3c02, num := 1, stride := 0x1, ty := .f32, acc := .ro, roles := 0, ret := .v, rng := .any, grp := .none, dflt := fun _ => 0 },
  { base := 0x3c03, num := 1, stride := 0x1, ty := .f32, acc := .ro, roles := 0, ret := .v, rng := .any, grp := .none, dflt := fun _ => 0 },
  { base := 0x3c04, num := 1, stride := 0x1, ty := .u16, acc := .rw, roles := 4, ret := .n, rng := .rng 0 383, grp := (.fixed 4), dflt := fun _ => 1 },
  { base := 0x3c05, num := 1, stride := 0x1, ty := .u16, acc := .rw, roles := 4, ret := .n, rng := .rngOr 0 383 0xFFFF, grp := (.fixed 4), dflt := fun _ => 65535 },
  { base := 0x3c06, num := 1, stride := 0x1, ty := .u16, acc := .rw, roles := 4, ret := .n, rng := .rngOr 0 383 0xFFFF, grp := (.fixed 4), dflt := fun _ => 65535 },
  { base := 0x3c07, num := 1, stride := 0x1, ty := .f32, acc := .rw, roles := 4, ret := .n, rng := .fr 200000 2000000, grp := (.fixed 4), dflt := fun _ => 0x44960000 },
  { base := 0x3c08, num := 1, stride := 0x1, ty := .f32, acc := .rw, roles := 4, ret := .n, rng := .fr 5000 200000, grp := (.fixed 4), dflt := fun _ => 0x41f00000 },
  { base := 0x3c09, num := 1, stride := 0x1, ty := .u8, acc := .rw, roles := 4, ret := .n, rng := .rng 0 1, grp := (.fixed 4), dflt := fun _ => 1 },
  { base := 0x3c10, num := 1, stride := 0x1, ty := .f32, acc := .rw, roles := 4, ret := .n, rng := .fr 5000 100000, grp := (.fixed 4), dflt := fun _ => 0x41a00000 },
  { base := 0x3c11, num := 1, stride := 0x1, ty := .u16, acc := .rw, roles := 4, ret := .n, rng := .cnt 100 10000, grp := (.fixed 4), dflt := fun _ => 2000 },
  { base := 0x3c12, num := 1, stride := 0x1, ty := .u16, acc := .rw, roles := 4, ret := .n, rng := .cnt 5 500, grp := (.fixed 4), dflt := fun _ => 30 },
  { base := 0x3c13, num := 1, stride := 0x1, ty := .f32, acc := .rw, roles := 4, ret := .n, rng := .fr 10000 200000, grp := (.fixed 4), dflt := fun _ => 0x42480000 },
  { base := 0x3c14, num := 1, stride := 0x1, ty := .u16, acc := .rw, roles := 4, ret := .n, rng := .cnt 10 2000, grp := (.fixed 4), dflt := fun _ => 100 },
  { base := 0x3c18, num := 1, stride := 0x1, ty := .u8, acc := .rw, roles := 4, ret := .n, rng := .rng 0 1, grp := (.fixed 4), dflt := fun _ => 1 },
  { base := 0x3c19, num := 1, stride := 0x1, ty := .u16, acc := .rw, roles := 4, ret := .n, rng := .cnt 1 1000, grp := (.fixed 4), dflt := fun _ => 10 },
  { base := 0x3c1a, num := 1, stride := 0x1, ty := .u8, acc := .rw, roles := 4, ret := .n, rng := .rng 0 1, grp := (.fixed 4), dflt := fun _ => 1 },
  { base := 0x3c20, num := 1, stride := 0x1, ty := .f32, acc := .rw, roles := 4, ret := .n, rng := .any, grp := (.fixed 4), dflt := fun _ => 0x443e0000 },
  { base := 0x3c21, num := 1, stride := 0x1, ty := .f32, acc := .rw, roles := 4, ret := .n, rng := .any, grp := (.fixed 4), dflt := fun _ => 0x44480000 },
  { base := 0x3c22, num := 1, stride := 0x1, ty := .u8, acc := .rw, roles := 4, ret := .n, rng := .rng 0 1, grp := (.fixed 4), dflt := fun _ => 0 },
  { base := 0x3c23, num := 1, stride := 0x1, ty := .f32, acc := .rw, roles := 4, ret := .n, rng := .any, grp := (.fixed 4), dflt := fun _ => 0x44430000 },
  { base := 0x3c24, num := 1, stride := 0x1, ty := .f32, acc := .rw, roles := 4, ret := .n, rng := .any, grp := (.fixed 4), dflt := fun _ => 0x44408000 },
  { base := 0x3c25, num := 1, stride := 0x1, ty := .f32, acc := .rw, roles := 4, ret := .n, rng := .any, grp := (.fixed 4), dflt := fun _ => 0x44480000 },
  { base := 0x3c26, num := 1, stride := 0x1, ty := .u16, acc := .rw, roles := 4, ret := .n, rng := .rngOr 0 383 0xFFFF, grp := (.fixed 4), dflt := fun _ => 65535 },
  { base := 0x3c27, num := 1, stride := 0x1, ty := .s20, acc := .rw, roles := 4, ret := .n, rng := .sq 0 0x7FFFF, grp := (.fixed 4), dflt := fun _ => 26214 },
  { base := 0x3c28, num := 1, stride := 0x1, ty := .f32, acc := .rw, roles := 4, ret := .n, rng := .fr 500 500000, grp := (.fixed 4), dflt := fun _ => 0 },
  { base := 0x3c29, num := 1, stride := 0x1, ty := .f32, acc := .rw, roles := 4, ret := .n, rng := .fr 100 10000000, grp := (.fixed 4), dflt := fun _ => 0 },
  { base := 0x3c2a, num := 1, stride := 0x1, ty := .f32, acc := .rw, roles := 4, ret := .n, rng := .fr 1000 3600000, grp := (.fixed 4), dflt := fun _ => 0x42700000 },
  { base := 0x3c2b, num := 1, stride := 0x1, ty := .f32, acc := .ro, roles := 0, ret := .w, rng := .any, grp := .none, dflt := fun _ => 0 },
  { base := 0x3c30, num := 1, stride := 0x1, ty := .f32, acc := .rw, roles := 4, ret := .n, rng := .any, grp := (.fixed 4), dflt := fun _ => 0x444d0000 },
  { base := 0x3c31, num := 1, stride := 0x1, ty := .f32, acc := .rw, roles := 4, ret := .n, rng := .any, grp := (.fixed 4), dflt := fun _ => 0x44430000 },
  { base := 0x3c32, num := 1, stride := 0x1, ty := .f32, acc := .rw, roles := 4, ret := .n, rng := .any, grp := (.fixed 4), dflt := fun _ => 0x446d8000 },
  { base := 0x3c33, num := 1, stride := 0x1, ty := .f32, acc := .rw, roles := 4, ret := .n, rng := .any, grp := (.fixed 4), dflt := fun _ => 0x44610000 },
  { base := 0x3c34, num := 1, stride := 0x1, ty := .u16, acc := .rw, roles := 4, ret := .n, rng := .cnt 10 200, grp := (.fixed 4), dflt := fun _ => 20 },
  { base := 0x3c38, num := 1, stride := 0x1, ty := .f32, acc := .rw, roles := 7, ret := .v, rng := .fr 0 2000000, grp := (.fixed 4), dflt := fun _ => 0 },
  { base := 0x3c39, num := 1, stride := 0x1, ty := .f32, acc := .rw, roles := 7, ret := .v, rng := .fr 0 2000000, grp := (.fixed 4), dflt := fun _ => 0 },
  { base := 0x3c3a, num := 1, stride := 0x1, ty := .u8, acc := .rw, roles := 7, ret := .v, rng := .oneOf [1, 2], grp := (.fixed 4), dflt := fun _ => 0 },
  { base := 0x3c3b, num := 1, stride := 0x1, ty := .u16, acc := .rw, roles := 4, ret := .n, rng := .cnt 10 5000, grp := (.fixed 4), dflt := fun _ => 500 }
]

/-- The LPE objects. -/
def rowsLpe : List ObjRow := [
  { base := 0x4000, num := 64, stride := 0x10, ty := .u32, acc := .rw, roles := 6, ret := .n, rng := .any, grp := .ctx, dflt := fun i => mapLpeCfg i },
  { base := 0x4001, num := 64, stride := 0x10, ty := .u32, acc := .rw, roles := 6, ret := .n, rng := .any, grp := .ctx, dflt := fun i => mapLpeTrigger i },
  { base := 0x4002, num := 64, stride := 0x10, ty := .u32, acc := .rw, roles := 4, ret := .n, rng := .rng 400 0xFFFFFFFF, grp := .ctx, dflt := fun i => mapLpeDeadline i },
  { base := 0x4003, num := 64, stride := 0x10, ty := (.blob 32), acc := .rw, roles := 4, ret := .n, rng := .any, grp := .ctx, dflt := fun i => mapLpeInputs i },
  { base := 0x4004, num := 64, stride := 0x10, ty := (.blob 8), acc := .rw, roles := 4, ret := .n, rng := .any, grp := .ctx, dflt := fun i => mapLpeUnits i },
  { base := 0x4005, num := 64, stride := 0x10, ty := (.blob 160), acc := .rw, roles := 6, ret := .n, rng := .any, grp := .ctx, dflt := fun i => mapLpeBank i },
  { base := 0x4006, num := 64, stride := 0x10, ty := (.blob 160), acc := .rw, roles := 6, ret := .n, rng := .any, grp := .ctx, dflt := fun i => mapLpeBank i },
  { base := 0x4007, num := 64, stride := 0x10, ty := (.blob 16), acc := .rw, roles := 7, ret := .v, rng := .any, grp := .ctx, dflt := fun _ => 0 },
  { base := 0x4008, num := 64, stride := 0x10, ty := (.blob 24), acc := .ro, roles := 0, ret := .v, rng := .any, grp := .ctx, dflt := fun _ => 0 },
  { base := 0x4009, num := 64, stride := 0x10, ty := (.blob 16), acc := .ro, roles := 0, ret := .v, rng := .any, grp := .ctx, dflt := fun _ => 0 },
  { base := 0x400a, num := 64, stride := 0x10, ty := .u32, acc := .rc, roles := 7, ret := .v, rng := .any, grp := .ctx, rc := 0xfe, dflt := fun _ => 0 },
  { base := 0x400b, num := 64, stride := 0x10, ty := (.blob 8), acc := .ro, roles := 0, ret := .v, rng := .any, grp := .ctx, dflt := fun _ => 0 },
  { base := 0x400c, num := 64, stride := 0x10, ty := .u32, acc := .rc, roles := 7, ret := .v, rng := .any, grp := .ctx, rc := 0x0, dflt := fun _ => 0 },
  { base := 0x400d, num := 64, stride := 0x10, ty := .u32, acc := .ro, roles := 0, ret := .v, rng := .any, grp := .ctx, dflt := fun _ => 0 },
  { base := 0x4400, num := 1, stride := 0x1, ty := .u64, acc := .ro, roles := 0, ret := .v, rng := .any, grp := (.fixed 12), dflt := fun _ => 0 },
  { base := 0x4401, num := 1, stride := 0x1, ty := .u16, acc := .ro, roles := 0, ret := .v, rng := .any, grp := (.fixed 12), dflt := fun _ => 0 },
  { base := 0x4402, num := 1, stride := 0x1, ty := .u16, acc := .rw, roles := 4, ret := .n, rng := .rng 500 1000, grp := (.fixed 12), dflt := fun _ => 850 },
  { base := 0x4480, num := 4, stride := 0x10, ty := .u8, acc := .rw, roles := 6, ret := .v, rng := .rng 0 63, grp := .tr, dflt := fun _ => 0 },
  { base := 0x4481, num := 4, stride := 0x10, ty := (.blob 8), acc := .rw, roles := 6, ret := .v, rng := .any, grp := .tr, dflt := fun _ => 0xffffffffffffffff },
  { base := 0x4482, num := 4, stride := 0x10, ty := .u16, acc := .rw, roles := 6, ret := .v, rng := .cnt 1 32768, grp := .tr, dflt := fun _ => 256 },
  { base := 0x4483, num := 4, stride := 0x10, ty := .u16, acc := .rw, roles := 6, ret := .v, rng := .any, grp := .tr, dflt := fun _ => 0 },
  { base := 0x4484, num := 4, stride := 0x10, ty := .u8, acc := .rw, roles := 6, ret := .v, rng := .cnt 1 255, grp := .tr, dflt := fun _ => 1 },
  { base := 0x4485, num := 4, stride := 0x10, ty := .u32, acc := .rw, roles := 6, ret := .v, rng := .any, grp := .tr, dflt := fun _ => 0 },
  { base := 0x4486, num := 4, stride := 0x10, ty := .u8, acc := .ro, roles := 0, ret := .v, rng := .any, grp := .tr, dflt := fun _ => 0 },
  { base := 0x4487, num := 4, stride := 0x10, ty := .u64, acc := .ro, roles := 0, ret := .v, rng := .any, grp := .tr, dflt := fun _ => 0 },
  { base := 0x4488, num := 4, stride := 0x10, ty := .u16, acc := .ro, roles := 0, ret := .v, rng := .any, grp := .tr, dflt := fun _ => 0 },
  { base := 0x4489, num := 4, stride := 0x10, ty := .u16, acc := .ro, roles := 0, ret := .v, rng := .any, grp := .tr, dflt := fun _ => 0 }
]

/-- The ADC objects. -/
def rowsAdc : List ObjRow := [
  { base := 0x4800, num := 12, stride := 0x10, ty := .u8, acc := .rw, roles := 6, ret := .n, rng := .rng 0 32, grp := .adcConv, dflt := fun i => mapAdcSeqLen i },
  { base := 0x4801, num := 12, stride := 0x10, ty := .u32, acc := .rw, roles := 6, ret := .n, rng := .any, grp := .adcConv, dflt := fun i => mapAdcTrigger i },
  { base := 0x4802, num := 12, stride := 0x10, ty := .u32, acc := .rc, roles := 7, ret := .v, rng := .any, grp := .adcConv, rc := 0x1f, dflt := fun i => if mapAdcSeqLen i = 0 then 0 else 0x100 },
  { base := 0x4803, num := 12, stride := 0x10, ty := .u32, acc := .ro, roles := 0, ret := .v, rng := .any, grp := .adcConv, dflt := fun _ => 0 },
  { base := 0x4804, num := 12, stride := 0x10, ty := .u32, acc := .ro, roles := 0, ret := .v, rng := .any, grp := .adcConv, dflt := fun _ => 0 },
  { base := 0x4805, num := 12, stride := 0x10, ty := .u8, acc := .ro, roles := 0, ret := .v, rng := .any, grp := .adcConv, dflt := fun _ => 4 },
  { base := 0x48c0, num := 6, stride := 0x1, ty := .u8, acc := .rw, roles := 4, ret := .n, rng := .rngOr 0 13 0xFF, grp := .adcPair, dflt := fun i => if i ≤ 3 then i else if i = 4 then 5 else 0xFF },
  { base := 0x48c8, num := 1, stride := 0x1, ty := .u32, acc := .ro, roles := 0, ret := .v, rng := .any, grp := .none, dflt := fun _ => 0 },
  { base := 0x4900, num := 384, stride := 0x1, ty := .u32, acc := .rw, roles := 6, ret := .n, rng := .any, grp := .adcRes, dflt := fun i => mapAdcEntry i },
  { base := 0x4a80, num := 384, stride := 0x1, ty := (.blob 16), acc := .rw, roles := 4, ret := .n, rng := .any, grp := .adcRes, dflt := fun _ => 0x460000004280000046000000 },
  { base := 0x4c00, num := 384, stride := 0x1, ty := .u8, acc := .rw, roles := 6, ret := .n, rng := .any, grp := .adcRes, dflt := fun _ => 0 },
  { base := 0x4d80, num := 384, stride := 0x1, ty := (.blob 12), acc := .ro, roles := 0, ret := .v, rng := .any, grp := .adcRes, dflt := fun _ => 0 },
  { base := 0x4f00, num := 96, stride := 0x1, ty := .u8, acc := .rw, roles := 6, ret := .n, rng := .rng 0 3, grp := .adcAin, dflt := fun _ => 0 },
  { base := 0x4f60, num := 6, stride := 0x1, ty := (.blob 16), acc := .rw, roles := 4, ret := .n, rng := .any, grp := .adcPair, dflt := fun i => mapAdcCover i }
]

/-- The POS objects. -/
def rowsPos : List ObjRow := [
  { base := 0x5000, num := 4, stride := 0x40, ty := .u8, acc := .rw, roles := 4, ret := .n, rng := .rng 0 5, grp := .posPort, dflt := fun _ => 0 },
  { base := 0x5001, num := 4, stride := 0x40, ty := .u8, acc := .rw, roles := 4, ret := .n, rng := .rngOr 0 13 0xFF, grp := .posPort, dflt := fun i => i },
  { base := 0x5002, num := 4, stride := 0x40, ty := .u32, acc := .rw, roles := 6, ret := .n, rng := .any, grp := .posPort, dflt := fun i => 0x41010000 + i * 0x04000000 },
  { base := 0x5003, num := 4, stride := 0x40, ty := .u32, acc := .rw, roles := 4, ret := .n, rng := .any, grp := .posPort, dflt := fun _ => 1024 },
  { base := 0x5004, num := 4, stride := 0x40, ty := .u16, acc := .rw, roles := 4, ret := .n, rng := .rng 2 13000, grp := .posPort, dflt := fun _ => 4 },
  { base := 0x5005, num := 4, stride := 0x40, ty := .u32, acc := .rw, roles := 6, ret := .n, rng := .cnt 10 1000000, grp := .posPort, dflt := fun _ => 5000 },
  { base := 0x5006, num := 4, stride := 0x40, ty := .f32, acc := .rw, roles := 4, ret := .n, rng := .fr 100000 100000000, grp := .posPort, dflt := fun _ => 0x461c4000 },
  { base := 0x5007, num := 4, stride := 0x40, ty := .u8, acc := .rw, roles := 4, ret := .n, rng := .mask 0x0F, grp := .posPort, dflt := fun _ => 0 },
  { base := 0x5008, num := 4, stride := 0x40, ty := .u16, acc := .rw, roles := 4, ret := .n, rng := .rng 4000 20000, grp := .posPort, dflt := fun _ => 10000 },
  { base := 0x5009, num := 4, stride := 0x40, ty := .u8, acc := .rw, roles := 4, ret := .n, rng := .rng 5 20, grp := .posPort, dflt := fun _ => 10 },
  { base := 0x500a, num := 4, stride := 0x40, ty := .u16, acc := .rw, roles := 4, ret := .n, rng := .rng 200 4000, grp := .posPort, dflt := fun _ => 1000 },
  { base := 0x500b, num := 4, stride := 0x40, ty := .u32, acc := .rw, roles := 4, ret := .n, rng := .any, grp := .posPort, dflt := fun _ => 0x14191994 },
  { base := 0x500c, num := 4, stride := 0x40, ty := .u32, acc := .rw, roles := 4, ret := .n, rng := .any, grp := .posPort, dflt := fun _ => 0x6630000 },
  { base := 0x500d, num := 4, stride := 0x40, ty := .u16, acc := .rw, roles := 4, ret := .n, rng := .cnt 1 1000, grp := .posPort, dflt := fun _ => 3 },
  { base := 0x500e, num := 4, stride := 0x40, ty := .u16, acc := .rw, roles := 4, ret := .n, rng := .cnt 10 10000, grp := .posPort, dflt := fun _ => 100 },
  { base := 0x5010, num := 4, stride := 0x40, ty := .u16, acc := .ro, roles := 0, ret := .v, rng := .any, grp := .posPort, dflt := fun _ => 0 },
  { base := 0x5011, num := 4, stride := 0x40, ty := .u32, acc := .ro, roles := 0, ret := .v, rng := .any, grp := .posPort, dflt := fun _ => 0 },
  { base := 0x5012, num := 4, stride := 0x40, ty := .f32, acc := .ro, roles := 0, ret := .v, rng := .any, grp := .posPort, dflt := fun _ => 0 },
  { base := 0x5013, num := 4, stride := 0x40, ty := .u32, acc := .rc, roles := 7, ret := .v, rng := .any, grp := .posPort, rc := 0xfe, dflt := fun _ => 0 },
  { base := 0x5014, num := 4, stride := 0x40, ty := .u32, acc := .ro, roles := 0, ret := .v, rng := .any, grp := .posPort, dflt := fun _ => 0 },
  { base := 0x5015, num := 4, stride := 0x40, ty := (.blob 8), acc := .ro, roles := 0, ret := .v, rng := .any, grp := .posPort, dflt := fun _ => 0 },
  { base := 0x5100, num := 4, stride := 0x10, ty := .u8, acc := .rw, roles := 6, ret := .n, rng := .mask 0xEC, grp := .prb, dflt := fun _ => 0 },
  { base := 0x5101, num := 4, stride := 0x10, ty := .u8, acc := .rc, roles := 7, ret := .v, rng := .any, grp := .prb, rc := 0x2, dflt := fun _ => 0 }
]

/-- The CHG objects (part 1). -/
def rowsChg0 : List ObjRow := [
  { base := 0x5800, num := 1, stride := 0x1, ty := .u8, acc := .ro, roles := 0, ret := .v, rng := .any, grp := .none, dflt := fun _ => 0 },
  { base := 0x5801, num := 1, stride := 0x1, ty := .u8, acc := .ro, roles := 0, ret := .v, rng := .any, grp := .none, dflt := fun _ => 0 },
  { base := 0x5802, num := 1, stride := 0x1, ty := .u32, acc := .rc, roles := 7, ret := .v, rng := .any, grp := .none, rc := 0xffff, dflt := fun _ => 0 },
  { base := 0x5803, num := 1, stride := 0x1, ty := .u16, acc := .ro, roles := 0, ret := .v, rng := .any, grp := .none, dflt := fun _ => 0 },
  { base := 0x5804, num := 1, stride := 0x1, ty := .f32, acc := .rw, roles := 7, ret := .v, rng := .fr 0 2000000, grp := (.fixed 5), dflt := fun _ => 0 },
  { base := 0x5805, num := 1, stride := 0x1, ty := .f32, acc := .rw, roles := 6, ret := .n, rng := .fr 100 100000, grp := (.fixed 5), dflt := fun _ => 0x40a00000 },
  { base := 0x5806, num := 1, stride := 0x1, ty := .f32, acc := .rw, roles := 6, ret := .n, rng := .fr 1000 63000, grp := (.fixed 5), dflt := fun _ => 0x42000000 },
  { base := 0x5807, num := 1, stride := 0x1, ty := .f32, acc := .rw, roles := 6, ret := .n, rng := .fr 500 22000, grp := (.fixed 5), dflt := fun _ => 0x41b00000 },
  { base := 0x5808, num := 1, stride := 0x1, ty := .u16, acc := .rw, roles := 6, ret := .n, rng := .cnt 200 10000, grp := (.fixed 5), dflt := fun _ => 1000 },
  { base := 0x5809, num := 1, stride := 0x1, ty := .u8, acc := .rw, roles := 4, ret := .n, rng := .mask 0x0F, grp := (.fixed 5), dflt := fun _ => 0 },
  { base := 0x580a, num := 1, stride := 0x1, ty := .f32, acc := .rw, roles := 6, ret := .n, rng := .fr 1000 63000, grp := (.fixed 5), dflt := fun _ => 0x41800000 },
  { base := 0x5810, num := 1, stride := 0x1, ty := .f32, acc := .rw, roles := 4, ret := .n, rng := .fr 700000 950000, grp := (.fixed 5), dflt := fun _ => 0x44480000 },
  { base := 0x5811, num := 1, stride := 0x1, ty := .f32, acc := .rw, roles := 4, ret := .n, rng := .fr 960000 1000000, grp := (.fixed 5), dflt := fun _ => 0x44750000 },
  { base := 0x5812, num := 1, stride := 0x1, ty := .f32, acc := .rw, roles := 4, ret := .n, rng := .fr 1000 200000, grp := (.fixed 5), dflt := fun _ => 0 },
  { base := 0x5813, num := 1, stride := 0x1, ty := .f32, acc := .rw, roles := 4, ret := .n, rng := .fr 200 5000, grp := (.fixed 5), dflt := fun _ => 0x3f800000 },
  { base := 0x5818, num := 1, stride := 0x1, ty := .f32, acc := .rw, roles := 6, ret := .n, rng := .fr 500 16000, grp := (.fixed 5), dflt := fun _ => 0x40000000 },
  { base := 0x5819, num := 1, stride := 0x1, ty := .f32, acc := .rw, roles := 6, ret := .n, rng := .fr 100 8000, grp := (.fixed 5), dflt := fun _ => 0x3f800000 },
  { base := 0x581a, num := 1, stride := 0x1, ty := .u16, acc := .rw, roles := 6, ret := .n, rng := .cnt 200 30000, grp := (.fixed 5), dflt := fun _ => 2000 },
  { base := 0x581b, num := 1, stride := 0x1, ty := .u16, acc := .rw, roles := 6, ret := .n, rng := .rng 10 300, grp := (.fixed 5), dflt := fun _ => 80 },
  { base := 0x581c, num := 1, stride := 0x1, ty := .u16, acc := .rw, roles := 6, ret := .n, rng := .rng 1 50, grp := (.fixed 5), dflt := fun _ => 5 },
  { base := 0x581d, num := 1, stride := 0x1, ty := .u16, acc := .rw, roles := 6, ret := .n, rng := .rng 1 100, grp := (.fixed 5), dflt := fun _ => 10 },
  { base := 0x581e, num := 1, stride := 0x1, ty := .u16, acc := .rw, roles := 6, ret := .n, rng := .rng 500 1000, grp := (.fixed 5), dflt := fun _ => 850 },
  { base := 0x581f, num := 1, stride := 0x1, ty := .u16, acc := .rw, roles := 6, ret := .n, rng := .cnt 1 1440, grp := (.fixed 5), dflt := fun _ => 15 },
  { base := 0x5820, num := 1, stride := 0x1, ty := .f32, acc := .rw, roles := 6, ret := .n, rng := .fr 150000 900000, grp := (.fixed 5), dflt := fun _ => 0x43480000 },
  { base := 0x5821, num := 1, stride := 0x1, ty := .f32, acc := .rw, roles := 6, ret := .n, rng := .fr 500 30000, grp := (.fixed 5), dflt := fun _ => 0x41f00000 },
  { base := 0x5822, num := 1, stride := 0x1, ty := .f32, acc := .rw, roles := 6, ret := .n, rng := .fr 1000 100000, grp := (.fixed 5), dflt := fun _ => 0x42700000 },
  { base := 0x5823, num := 1, stride := 0x1, ty := .f32, acc := .rw, roles := 6, ret := .n, rng := .fr 500 50000, grp := (.fixed 5), dflt := fun _ => 0x40800000 },
  { base := 0x5824, num := 1, stride := 0x1, ty := .u16, acc := .rw, roles := 6, ret := .n, rng := .cnt 10 10000, grp := (.fixed 5), dflt := fun _ => 100 },
  { base := 0x5825, num := 1, stride := 0x1, ty := .u16, acc := .rw, roles := 6, ret := .n, rng := .cnt 10 65535, grp := (.fixed 5), dflt := fun _ => 600 },
  { base := 0x5828, num := 1, stride := 0x1, ty := .f32, acc := .rw, roles := 7, ret := .v, rng := .fr (-60000) 150000, grp := (.fixed 5), dflt := fun _ => 0 },
  { base := 0x5829, num := 1, stride := 0x1, ty := .f32, acc := .rw, roles := 6, ret := .n, rng := .fr (-40000) 80000, grp := (.fixed 5), dflt := fun _ => 0 },
  { base := 0x582a, num := 1, stride := 0x1, ty := .f32, acc := .rw, roles := 6, ret := .n, rng := .fr (-40000) 80000, grp := (.fixed 5), dflt := fun _ => 0x42480000 },
  { base := 0x582b, num := 1, stride := 0x1, ty := .u16, acc := .rw, roles := 6, ret := .n, rng := .cnt 100 60000, grp := (.fixed 5), dflt := fun _ => 5000 },
  { base := 0x5830, num := 1, stride := 0x1, ty := .u8, acc := .ro, roles := 0, ret := .v, rng := .any, grp := .none, dflt := fun _ => 0 },
  { base := 0x5831, num := 1, stride := 0x1, ty := .u16, acc := .ro, roles := 0, ret := .v, rng := .any, grp := .none, dflt := fun _ => 0 },
  { base := 0x5832, num := 1, stride := 0x1, ty := .f32, acc := .ro, roles := 0, ret := .v, rng := .any, grp := .none, dflt := fun _ => 0 },
  { base := 0x5833, num := 1, stride := 0x1, ty := .f32, acc := .ro, roles := 0, ret := .v, rng := .any, grp := .none, dflt := fun _ => 0 },
  { base := 0x5834, num := 1, stride := 0x1, ty := .f32, acc := .ro, roles := 0, ret := .v, rng := .any, grp := .none, dflt := fun _ => 0 },
  { base := 0x5835, num := 1, stride := 0x1, ty := .f32, acc := .ro, roles := 0, ret := .v, rng := .any, grp := .none, dflt := fun _ => 0 },
  { base := 0x5836, num := 1, stride := 0x1, ty := .f32, acc := .ro, roles := 0, ret := .v, rng := .any, grp := .none, dflt := fun _ => 0 }
]

/-- The CHG objects (part 2). -/
def rowsChg1 : List ObjRow := [
  { base := 0x5837, num := 1, stride := 0x1, ty := .f32, acc := .ro, roles := 0, ret := .v, rng := .any, grp := .none, dflt := fun _ => 0 },
  { base := 0x5838, num := 1, stride := 0x1, ty := .f32, acc := .ro, roles := 0, ret := .v, rng := .any, grp := .none, dflt := fun _ => 0 },
  { base := 0x5839, num := 1, stride := 0x1, ty := .f32, acc := .ro, roles := 0, ret := .v, rng := .any, grp := .none, dflt := fun _ => 0 }
]

/-- The CHG objects. -/
def rowsChg : List ObjRow := rowsChg0 ++ rowsChg1

/-- The AUX objects (part 1). -/
def rowsAux0 : List ObjRow := [
  { base := 0x6000, num := 1, stride := 0x1, ty := .u8, acc := .ro, roles := 0, ret := .v, rng := .any, grp := .none, dflt := fun _ => 0 },
  { base := 0x6001, num := 1, stride := 0x1, ty := .u32, acc := .rc, roles := 7, ret := .v, rng := .any, grp := .none, rc := 0xff, dflt := fun _ => 0 },
  { base := 0x6002, num := 1, stride := 0x1, ty := .u16, acc := .ro, roles := 0, ret := .v, rng := .any, grp := .none, dflt := fun _ => 0 },
  { base := 0x6003, num := 1, stride := 0x1, ty := .f32, acc := .rw, roles := 6, ret := .n, rng := .fr 12000 28000, grp := (.fixed 7), dflt := fun _ => 0x41c00000 },
  { base := 0x6004, num := 1, stride := 0x1, ty := .f32, acc := .rw, roles := 6, ret := .n, rng := .fr 10 100000, grp := (.fixed 7), dflt := fun _ => 0x3f800000 },
  { base := 0x6005, num := 1, stride := 0x1, ty := .u8, acc := .rw, roles := 4, ret := .n, rng := .cnt 1 8, grp := (.fixed 7), dflt := fun _ => 8 },
  { base := 0x6006, num := 1, stride := 0x1, ty := .f32, acc := .rw, roles := 4, ret := .n, rng := .fr 1000 200000, grp := (.fixed 7), dflt := fun _ => 0 },
  { base := 0x6007, num := 1, stride := 0x1, ty := .f32, acc := .rw, roles := 4, ret := .n, rng := .fr 50 950, grp := (.fixed 7), dflt := fun _ => 0x3ee66666 },
  { base := 0x6008, num := 1, stride := 0x1, ty := .f32, acc := .rw, roles := 4, ret := .n, rng := .fr 100000 1000000, grp := (.fixed 7), dflt := fun _ => 0x437a0000 },
  { base := 0x6009, num := 1, stride := 0x1, ty := .f32, acc := .rw, roles := 4, ret := .n, rng := .fr 20000 100000, grp := (.fixed 7), dflt := fun _ => 0x42200000 },
  { base := 0x600a, num := 1, stride := 0x1, ty := .f32, acc := .rw, roles := 4, ret := .n, rng := .fr 10000 1000000, grp := (.fixed 7), dflt := fun _ => 0x43c80000 },
  { base := 0x600b, num := 1, stride := 0x1, ty := .f32, acc := .rw, roles := 4, ret := .n, rng := .fr 5000 500000, grp := (.fixed 7), dflt := fun _ => 0x42c80000 },
  { base := 0x600c, num := 1, stride := 0x1, ty := .u8, acc := .rw, roles := 4, ret := .n, rng := .any, grp := (.fixed 7), dflt := fun _ => 255 },
  { base := 0x600d, num := 1, stride := 0x1, ty := .f32, acc := .rw, roles := 6, ret := .n, rng := .any, grp := (.fixed 7), dflt := fun _ => 0x42700000 },
  { base := 0x600e, num := 1, stride := 0x1, ty := .f32, acc := .rw, roles := 4, ret := .n, rng := .fr 1000 200000, grp := (.fixed 7), dflt := fun _ => 0x41f00000 },
  { base := 0x6010, num := 1, stride := 0x1, ty := .u16, acc := .rw, roles := 6, ret := .n, rng := .rng 10 300, grp := (.fixed 7), dflt := fun _ => 50 },
  { base := 0x6011, num := 1, stride := 0x1, ty := .u16, acc := .rw, roles := 6, ret := .n, rng := .rng 10 300, grp := (.fixed 7), dflt := fun _ => 50 },
  { base := 0x6012, num := 1, stride := 0x1, ty := .u16, acc := .rw, roles := 6, ret := .n, rng := .rng 0 299, grp := (.fixed 7), dflt := fun _ => 20 },
  { base := 0x6013, num := 1, stride := 0x1, ty := .u16, acc := .rw, roles := 6, ret := .n, rng := .rng 5 300, grp := (.fixed 7), dflt := fun _ => 30 },
  { base := 0x6014, num := 1, stride := 0x1, ty := .u16, acc := .rw, roles := 6, ret := .n, rng := .cnt 1 10000, grp := (.fixed 7), dflt := fun _ => 5 },
  { base := 0x6015, num := 1, stride := 0x1, ty := .u16, acc := .rw, roles := 6, ret := .n, rng := .rng 100 999, grp := (.fixed 7), dflt := fun _ => 700 },
  { base := 0x6016, num := 1, stride := 0x1, ty := .u16, acc := .rw, roles := 6, ret := .n, rng := .rng 101 1000, grp := (.fixed 7), dflt := fun _ => 900 },
  { base := 0x6017, num := 1, stride := 0x1, ty := .u16, acc := .rw, roles := 6, ret := .n, rng := .cnt 1 60000, grp := (.fixed 7), dflt := fun _ => 20 },
  { base := 0x6018, num := 1, stride := 0x1, ty := .u16, acc := .rw, roles := 6, ret := .n, rng := .cnt 8 4096, grp := (.fixed 7), dflt := fun _ => 64 },
  { base := 0x6019, num := 1, stride := 0x1, ty := .u16, acc := .rw, roles := 6, ret := .n, rng := .rng 0 200, grp := (.fixed 7), dflt := fun _ => 30 },
  { base := 0x601a, num := 1, stride := 0x1, ty := .u16, acc := .rw, roles := 6, ret := .n, rng := .rng 2 100, grp := (.fixed 7), dflt := fun _ => 10 },
  { base := 0x601b, num := 1, stride := 0x1, ty := .u16, acc := .rw, roles := 6, ret := .n, rng := .rng 2 100, grp := (.fixed 7), dflt := fun _ => 10 },
  { base := 0x601c, num := 1, stride := 0x1, ty := .u16, acc := .rw, roles := 6, ret := .n, rng := .cnt 1 1024, grp := (.fixed 7), dflt := fun _ => 8 },
  { base := 0x6020, num := 1, stride := 0x1, ty := .u16, acc := .rw, roles := 6, ret := .n, rng := .rng 5 500, grp := (.fixed 7), dflt := fun _ => 50 },
  { base := 0x6021, num := 1, stride := 0x1, ty := .u16, acc := .rw, roles := 6, ret := .n, rng := .cnt 1 1000, grp := (.fixed 7), dflt := fun _ => 20 },
  { base := 0x6022, num := 1, stride := 0x1, ty := .u16, acc := .rw, roles := 6, ret := .n, rng := .cnt 10 10000, grp := (.fixed 7), dflt := fun _ => 100 },
  { base := 0x6023, num := 1, stride := 0x1, ty := .u8, acc := .rw, roles := 6, ret := .n, rng := .rng 0 1, grp := (.fixed 7), dflt := fun _ => 1 },
  { base := 0x6028, num := 1, stride := 0x1, ty := .u8, acc := .rw, roles := 6, ret := .n, rng := .rng 0 1, grp := (.fixed 7), dflt := fun _ => 0 },
  { base := 0x6029, num := 1, stride := 0x1, ty := .u16, acc := .rw, roles := 6, ret := .n, rng := .rng 0 3599, grp := (.fixed 7), dflt := fun _ => 0 },
  { base := 0x602a, num := 1, stride := 0x1, ty := .u16, acc := .rw, roles := 6, ret := .n, rng := .cnt 1 1000, grp := (.fixed 7), dflt := fun _ => 10 },
  { base := 0x602b, num := 1, stride := 0x1, ty := .u16, acc := .rw, roles := 4, ret := .n, rng := .rng 50 500, grp := (.fixed 7), dflt := fun _ => 150 },
  { base := 0x602c, num := 1, stride := 0x1, ty := .u16, acc := .rw, roles := 4, ret := .n, rng := .cnt 1 1000, grp := (.fixed 7), dflt := fun _ => 10 },
  { base := 0x6030, num := 1, stride := 0x1, ty := .f32, acc := .ro, roles := 0, ret := .v, rng := .any, grp := .none, dflt := fun _ => 0 },
  { base := 0x6031, num := 1, stride := 0x1, ty := .f32, acc := .ro, roles := 0, ret := .v, rng := .any, grp := .none, dflt := fun _ => 0 },
  { base := 0x6032, num := 1, stride := 0x1, ty := .f32, acc := .ro, roles := 0, ret := .v, rng := .any, grp := .none, dflt := fun _ => 0 }
]

/-- The AUX objects (part 2). -/
def rowsAux1 : List ObjRow := [
  { base := 0x6033, num := 1, stride := 0x1, ty := .f32, acc := .ro, roles := 0, ret := .v, rng := .any, grp := .none, dflt := fun _ => 0 },
  { base := 0x6034, num := 1, stride := 0x1, ty := .u32, acc := .ro, roles := 0, ret := .v, rng := .any, grp := .none, dflt := fun _ => 0 },
  { base := 0x6035, num := 1, stride := 0x1, ty := .u8, acc := .ro, roles := 0, ret := .v, rng := .any, grp := .none, dflt := fun _ => 0 },
  { base := 0x6036, num := 1, stride := 0x1, ty := .f32, acc := .ro, roles := 0, ret := .v, rng := .any, grp := .none, dflt := fun _ => 0 }
]

/-- The AUX objects. -/
def rowsAux : List ObjRow := rowsAux0 ++ rowsAux1

/-- The AMC objects (part 1). -/
def rowsAmc0 : List ObjRow := [
  { base := 0x6800, num := 6, stride := 0x40, ty := .u8, acc := .rw, roles := 4, ret := .n, rng := .rng 0 3, grp := .amc, dflt := fun i => if i = 5 then 3 else 0 },
  { base := 0x6801, num := 6, stride := 0x40, ty := .u8, acc := .rw, roles := 4, ret := .n, rng := .cnt 1 16, grp := .amc, dflt := fun _ => 2 },
  { base := 0x6802, num := 6, stride := 0x40, ty := .u32, acc := .rw, roles := 4, ret := .n, rng := .rng 10000 100000, grp := .amc, dflt := fun _ => 20000 },
  { base := 0x6803, num := 6, stride := 0x40, ty := .u16, acc := .rw, roles := 4, ret := .n, rng := .rng 4 400, grp := .amc, dflt := fun _ => 40 },
  { base := 0x6804, num := 6, stride := 0x40, ty := .f32, acc := .rw, roles := 4, ret := .n, rng := .fr 100 1000, grp := .amc, dflt := fun _ => 0x3f733333 },
  { base := 0x6805, num := 6, stride := 0x40, ty := .u8, acc := .rw, roles := 6, ret := .n, rng := .rng 1 255, grp := .amc, dflt := fun _ => 128 },
  { base := 0x6806, num := 6, stride := 0x40, ty := .u8, acc := .rw, roles := 6, ret := .n, rng := .rng 1 255, grp := .amc, dflt := fun _ => 96 },
  { base := 0x6807, num := 6, stride := 0x40, ty := .u16, acc := .rw, roles := 4, ret := .n, rng := .rng 0 300, grp := .amc, dflt := fun _ => 0 },
  { base := 0x6808, num := 6, stride := 0x40, ty := .u16, acc := .rw, roles := 4, ret := .n, rng := .rng 20 300, grp := .amc, dflt := fun _ => 100 },
  { base := 0x6809, num := 6, stride := 0x40, ty := .f32, acc := .rw, roles := 4, ret := .n, rng := .fr 100000 120000000, grp := .amc, dflt := fun _ => 0x461c4000 },
  { base := 0x680a, num := 6, stride := 0x40, ty := .f32, acc := .rw, roles := 4, ret := .n, rng := .any, grp := .amc, dflt := fun _ => 0x45bb8000 },
  { base := 0x680b, num := 6, stride := 0x40, ty := .f32, acc := .rw, roles := 4, ret := .n, rng := .any, grp := .amc, dflt := fun _ => 0x44160000 },
  { base := 0x680c, num := 6, stride := 0x40, ty := .f32, acc := .rw, roles := 6, ret := .n, rng := .fr 1000 1000000000, grp := .amc, dflt := fun _ => 0x44fa0000 },
  { base := 0x6810, num := 6, stride := 0x40, ty := .u16, acc := .rw, roles := 4, ret := .n, rng := .cnt 10 2000, grp := .amc, dflt := fun _ => 100 },
  { base := 0x6811, num := 6, stride := 0x40, ty := .f32, acc := .rw, roles := 4, ret := .n, rng := .fr 10 500, grp := .amc, dflt := fun _ => 0x3dcccccd },
  { base := 0x6812, num := 6, stride := 0x40, ty := .u16, acc := .rw, roles := 4, ret := .n, rng := .cnt 10 10000, grp := .amc, dflt := fun _ => 500 },
  { base := 0x6813, num := 6, stride := 0x40, ty := .f32, acc := .rw, roles := 4, ret := .n, rng := .any, grp := .amc, dflt := fun _ => 0x42700000 },
  { base := 0x6814, num := 6, stride := 0x40, ty := .f32, acc := .rw, roles := 4, ret := .n, rng := .any, grp := .amc, dflt := fun _ => 0x44160000 },
  { base := 0x6815, num := 6, stride := 0x40, ty := .f32, acc := .rw, roles := 4, ret := .n, rng := .any, grp := .amc, dflt := fun _ => 0x3e4ccccd },
  { base := 0x6816, num := 6, stride := 0x40, ty := .u8, acc := .rw, roles := 6, ret := .n, rng := .cnt 1 16, grp := .amc, dflt := fun _ => 3 },
  { base := 0x6818, num := 6, stride := 0x40, ty := .u8, acc := .rw, roles := 4, ret := .n, rng := .cnt 1 20, grp := .amc, dflt := fun _ => 20 },
  { base := 0x6819, num := 6, stride := 0x40, ty := .f32, acc := .rw, roles := 4, ret := .n, rng := .any, grp := .amc, dflt := fun _ => 0x44160000 },
  { base := 0x681a, num := 6, stride := 0x40, ty := .f32, acc := .rw, roles := 4, ret := .n, rng := .any, grp := .amc, dflt := fun _ => 0x43960000 },
  { base := 0x681b, num := 6, stride := 0x40, ty := .u16, acc := .rw, roles := 6, ret := .n, rng := .cnt 100 60000, grp := .amc, dflt := fun _ => 2000 },
  { base := 0x681c, num := 6, stride := 0x40, ty := .u8, acc := .rw, roles := 6, ret := .n, rng := .cnt 1 255, grp := .amc, dflt := fun _ => 5 },
  { base := 0x681d, num := 6, stride := 0x40, ty := .f32, acc := .rw, roles := 4, ret := .n, rng := .any, grp := .amc, dflt := fun _ => 0x42c80000 },
  { base := 0x681e, num := 6, stride := 0x40, ty := .u16, acc := .rw, roles := 4, ret := .n, rng := .cnt 100 60000, grp := .amc, dflt := fun _ => 5000 },
  { base := 0x681f, num := 6, stride := 0x40, ty := .u16, acc := .rw, roles := 4, ret := .n, rng := .cnt 1 1000, grp := .amc, dflt := fun _ => 50 },
  { base := 0x6820, num := 6, stride := 0x40, ty := .f32, acc := .rw, roles := 7, ret := .v, rng := .any, grp := .amc, dflt := fun _ => 0 },
  { base := 0x6821, num := 6, stride := 0x40, ty := .u16, acc := .rw, roles := 6, ret := .n, rng := .any, grp := .amc, dflt := fun _ => 0 },
  { base := 0x6822, num := 6, stride := 0x40, ty := .u8, acc := .rw, roles := 6, ret := .n, rng := .cnt 2 16, grp := .amc, dflt := fun _ => 2 },
  { base := 0x6823, num := 6, stride := 0x40, ty := (.blob 128), acc := .rw, roles := 6, ret := .n, rng := .any, grp := .amc, dflt := fun _ => 0 },
  { base := 0x6824, num := 6, stride := 0x40, ty := .f32, acc := .rw, roles := 6, ret := .n, rng := .any, grp := .amc, dflt := fun _ => 0 },
  { base := 0x6825, num := 6, stride := 0x40, ty := .f32, acc := .rw, roles := 6, ret := .n, rng := .any, grp := .amc, dflt := fun _ => 0 },
  { base := 0x6828, num := 6, stride := 0x40, ty := .f32, acc := .rw, roles := 6, ret := .n, rng := .any, grp := .amc, dflt := fun _ => 0x453b8000 },
  { base := 0x6829, num := 6, stride := 0x40, ty := .f32, acc := .rw, roles := 6, ret := .n, rng := .fr 1000 1000000000, grp := .amc, dflt := fun _ => 0x469c4000 },
  { base := 0x682a, num := 6, stride := 0x40, ty := .u16, acc := .rw, roles := 4, ret := .n, rng := .rng 0 1000, grp := .amc, dflt := fun _ => 6 },
  { base := 0x682b, num := 6, stride := 0x40, ty := .s32, acc := .rw, roles := 4, ret := .n, rng := .any, grp := .amc, dflt := fun _ => 0 },
  { base := 0x682c, num := 6, stride := 0x40, ty := .s32, acc := .rw, roles := 4, ret := .n, rng := .any, grp := .amc, dflt := fun _ => 600 },
  { base := 0x682d, num := 6, stride := 0x40, ty := .f32, acc := .rw, roles := 4, ret := .n, rng := .any, grp := .amc, dflt := fun _ => 0xc4160000 }
]

/-- The AMC objects (part 2). -/
def rowsAmc1 : List ObjRow := [
  { base := 0x682e, num := 6, stride := 0x40, ty := .s32, acc := .rw, roles := 4, ret := .n, rng := .any, grp := .amc, dflt := fun _ => 0 },
  { base := 0x682f, num := 6, stride := 0x40, ty := .u32, acc := .rw, roles := 4, ret := .n, rng := .cnt 1 0xFFFFFFFF, grp := .amc, dflt := fun _ => 2000 },
  { base := 0x6830, num := 6, stride := 0x40, ty := .u8, acc := .ro, roles := 0, ret := .v, rng := .any, grp := .none, dflt := fun _ => 0 },
  { base := 0x6831, num := 6, stride := 0x40, ty := .f32, acc := .ro, roles := 0, ret := .v, rng := .any, grp := .none, dflt := fun _ => 0 },
  { base := 0x6832, num := 5, stride := 0x40, ty := .s32, acc := .ro, roles := 0, ret := .w, rng := .any, grp := .none, dflt := fun _ => 0 },
  { base := 0x6972, num := 1, stride := 0x40, ty := .s32, acc := .ro, roles := 0, ret := .k, rng := .any, grp := .none, dflt := fun _ => 0 },
  { base := 0x6833, num := 6, stride := 0x40, ty := .u32, acc := .rc, roles := 7, ret := .v, rng := .any, grp := .none, rc := 0xff, dflt := fun _ => 0 },
  { base := 0x6834, num := 6, stride := 0x40, ty := .u16, acc := .ro, roles := 0, ret := .v, rng := .any, grp := .none, dflt := fun _ => 0 },
  { base := 0x6980, num := 1, stride := 0x1, ty := .u8, acc := .ro, roles := 0, ret := .k, rng := .any, grp := .none, dflt := fun _ => 0 },
  { base := 0x6981, num := 1, stride := 0x1, ty := .f32, acc := .rw, roles := 4, ret := .n, rng := .fr 0 1000000, grp := (.fixed 9), dflt := fun _ => 0x41f00000 },
  { base := 0x6982, num := 1, stride := 0x1, ty := .u16, acc := .rw, roles := 4, ret := .n, rng := .cnt 1 1000, grp := (.fixed 9), dflt := fun _ => 12 },
  { base := 0x6983, num := 1, stride := 0x1, ty := .u8, acc := .rw, roles := 4, ret := .n, rng := .rng 0 1, grp := (.fixed 9), dflt := fun _ => 0 }
]

/-- The AMC objects. -/
def rowsAmc : List ObjRow := rowsAmc0 ++ rowsAmc1

/-- The RPK objects. -/
def rowsRpk : List ObjRow := [
  { base := 0x7000, num := 1, stride := 0x1, ty := .u8, acc := .ro, roles := 0, ret := .v, rng := .any, grp := .none, dflt := fun _ => 0 },
  { base := 0x7001, num := 1, stride := 0x1, ty := .u8, acc := .ro, roles := 0, ret := .k, rng := .any, grp := .none, dflt := fun _ => 0 },
  { base := 0x7002, num := 1, stride := 0x1, ty := .u32, acc := .rc, roles := 7, ret := .v, rng := .any, grp := .none, rc := 0x3ff, dflt := fun _ => 0 },
  { base := 0x7003, num := 1, stride := 0x1, ty := .u8, acc := .ro, roles := 0, ret := .v, rng := .any, grp := .none, dflt := fun _ => 0 },
  { base := 0x7004, num := 1, stride := 0x1, ty := .u8, acc := .rw, roles := 6, ret := .n, rng := .rng 0 1, grp := (.fixed 6), dflt := fun _ => 0 },
  { base := 0x7005, num := 1, stride := 0x1, ty := .u8, acc := .rw, roles := 4, ret := .n, rng := .cnt 6 12, grp := (.fixed 6), dflt := fun _ => 10 },
  { base := 0x7006, num := 1, stride := 0x1, ty := .f32, acc := .rw, roles := 6, ret := .n, rng := .fr 100 2000, grp := (.fixed 6), dflt := fun _ => 0x3f000000 },
  { base := 0x7007, num := 1, stride := 0x1, ty := .u8, acc := .rw, roles := 4, ret := .n, rng := .rng 2 10, grp := (.fixed 6), dflt := fun _ => 4 },
  { base := 0x7008, num := 1, stride := 0x1, ty := .u16, acc := .rw, roles := 4, ret := .n, rng := .cnt 1 30, grp := (.fixed 6), dflt := fun _ => 5 },
  { base := 0x7009, num := 1, stride := 0x1, ty := .u8, acc := .rw, roles := 4, ret := .n, rng := .rng 5 20, grp := (.fixed 6), dflt := fun _ => 10 },
  { base := 0x700a, num := 1, stride := 0x1, ty := .f32, acc := .rw, roles := 4, ret := .n, rng := .fr 30000 45000, grp := (.fixed 6), dflt := fun _ => 0x422c0000 },
  { base := 0x700b, num := 1, stride := 0x1, ty := .u16, acc := .rw, roles := 4, ret := .n, rng := .cnt 10 1440, grp := (.fixed 6), dflt := fun _ => 180 },
  { base := 0x700c, num := 1, stride := 0x1, ty := .f32, acc := .rw, roles := 6, ret := .n, rng := .fr 0 45000, grp := (.fixed 6), dflt := fun _ => 0 },
  { base := 0x700d, num := 1, stride := 0x1, ty := .f32, acc := .rw, roles := 6, ret := .n, rng := .fr 0 45000, grp := (.fixed 6), dflt := fun _ => 0x42340000 },
  { base := 0x700e, num := 1, stride := 0x1, ty := .u16, acc := .rw, roles := 4, ret := .n, rng := .rng 1500 2000, grp := (.fixed 6), dflt := fun _ => 1800 },
  { base := 0x700f, num := 1, stride := 0x1, ty := .u16, acc := .rw, roles := 4, ret := .n, rng := .rng 1200 1400, grp := (.fixed 6), dflt := fun _ => 1300 },
  { base := 0x7010, num := 1, stride := 0x1, ty := .u16, acc := .rw, roles := 4, ret := .n, rng := .rng 900 1200, grp := (.fixed 6), dflt := fun _ => 1000 },
  { base := 0x7011, num := 1, stride := 0x1, ty := .u32, acc := .rw, roles := 4, ret := .n, rng := .rng 50000 500000, grp := (.fixed 6), dflt := fun _ => 0x186a0 },
  { base := 0x7012, num := 1, stride := 0x1, ty := .f32, acc := .rw, roles := 4, ret := .n, rng := .fr 10000 40000, grp := (.fixed 6), dflt := fun _ => 0x41c00000 },
  { base := 0x7013, num := 1, stride := 0x1, ty := .f32, acc := .rw, roles := 4, ret := .n, rng := .fr 2500 10000, grp := (.fixed 6), dflt := fun _ => 0x40800000 },
  { base := 0x7018, num := 1, stride := 0x1, ty := .u16, acc := .rw, roles := 4, ret := .n, rng := .rng 60 300, grp := (.fixed 6), dflt := fun _ => 90 },
  { base := 0x7019, num := 1, stride := 0x1, ty := .u16, acc := .rw, roles := 4, ret := .n, rng := .rng 0 300, grp := (.fixed 6), dflt := fun _ => 100 },
  { base := 0x701a, num := 1, stride := 0x1, ty := .u16, acc := .rw, roles := 4, ret := .n, rng := .rng 0 360, grp := (.fixed 6), dflt := fun _ => 320 },
  { base := 0x701b, num := 1, stride := 0x1, ty := .u16, acc := .rw, roles := 6, ret := .n, rng := .cnt 10 1000, grp := (.fixed 6), dflt := fun _ => 50 },
  { base := 0x701c, num := 1, stride := 0x1, ty := .u16, acc := .rw, roles := 6, ret := .n, rng := .cnt 50 5000, grp := (.fixed 6), dflt := fun _ => 200 },
  { base := 0x7020, num := 1, stride := 0x1, ty := .f32, acc := .ro, roles := 0, ret := .v, rng := .any, grp := .none, dflt := fun _ => 0 },
  { base := 0x7021, num := 1, stride := 0x1, ty := .f32, acc := .ro, roles := 0, ret := .v, rng := .any, grp := .none, dflt := fun _ => 0 },
  { base := 0x7022, num := 1, stride := 0x1, ty := .f32, acc := .ro, roles := 0, ret := .v, rng := .any, grp := .none, dflt := fun _ => 0 },
  { base := 0x7023, num := 1, stride := 0x1, ty := .u32, acc := .ro, roles := 0, ret := .v, rng := .any, grp := .none, dflt := fun _ => 0 }
]

/-- The PTG objects. -/
def rowsPtg : List ObjRow := [
  { base := 0x7400, num := 1, stride := 0x1, ty := .u8, acc := .ro, roles := 0, ret := .v, rng := .any, grp := .none, dflt := fun _ => 0 },
  { base := 0x7401, num := 1, stride := 0x1, ty := .u32, acc := .rc, roles := 7, ret := .v, rng := .any, grp := .none, rc := 0xf, dflt := fun _ => 0 },
  { base := 0x7402, num := 1, stride := 0x1, ty := .u8, acc := .ro, roles := 0, ret := .k, rng := .any, grp := .none, dflt := fun _ => 0 },
  { base := 0x7403, num := 1, stride := 0x1, ty := .u32, acc := .ro, roles := 0, ret := .v, rng := .any, grp := .none, dflt := fun _ => 0 },
  { base := 0x7404, num := 1, stride := 0x1, ty := .u32, acc := .ro, roles := 0, ret := .v, rng := .any, grp := .none, dflt := fun _ => 0 },
  { base := 0x7405, num := 1, stride := 0x1, ty := .u32, acc := .ro, roles := 0, ret := .v, rng := .any, grp := .none, dflt := fun _ => 0 },
  { base := 0x7406, num := 1, stride := 0x1, ty := (.blob 16), acc := .ro, roles := 0, ret := .v, rng := .any, grp := .none, dflt := fun _ => 0 },
  { base := 0x7408, num := 1, stride := 0x1, ty := .u16, acc := .rw, roles := 4, ret := .n, rng := .rng 80 1200, grp := (.fixed 13), dflt := fun _ => 800 },
  { base := 0x7409, num := 1, stride := 0x1, ty := .u16, acc := .rw, roles := 4, ret := .n, rng := .cnt 100 60000, grp := (.fixed 13), dflt := fun _ => 2000 },
  { base := 0x740a, num := 1, stride := 0x1, ty := .u8, acc := .rw, roles := 4, ret := .n, rng := .rng 0 1, grp := (.fixed 13), dflt := fun _ => 0 },
  { base := 0x740b, num := 1, stride := 0x1, ty := .u16, acc := .rw, roles := 4, ret := .n, rng := .rng 50 1000, grp := (.fixed 13), dflt := fun _ => 200 },
  { base := 0x740c, num := 1, stride := 0x1, ty := .u16, acc := .rw, roles := 4, ret := .n, rng := .cnt 1 1000, grp := (.fixed 13), dflt := fun _ => 10 },
  { base := 0x740d, num := 1, stride := 0x1, ty := .u8, acc := .ro, roles := 0, ret := .v, rng := .any, grp := .none, dflt := fun _ => 255 }
]

/-- The MEM objects. -/
def rowsMem : List ObjRow := [
  { base := 0x7800, num := 1, stride := 0x1, ty := .u32, acc := .rw, roles := 4, ret := .n, rng := .mask 0x1F, grp := (.fixed 13), dflt := fun _ => 15 },
  { base := 0x7801, num := 1, stride := 0x1, ty := .u16, acc := .rw, roles := 4, ret := .n, rng := .cnt 1 3600, grp := (.fixed 13), dflt := fun _ => 10 },
  { base := 0x7802, num := 1, stride := 0x1, ty := .u8, acc := .ro, roles := 0, ret := .v, rng := .any, grp := (.fixed 13), dflt := fun _ => 0 },
  { base := 0x7803, num := 1, stride := 0x1, ty := .u32, acc := .ro, roles := 0, ret := .v, rng := .any, grp := (.fixed 13), dflt := fun _ => 0 },
  { base := 0x7804, num := 1, stride := 0x1, ty := .u64, acc := .ro, roles := 0, ret := .w, rng := .any, grp := (.fixed 13), dflt := fun _ => 0 },
  { base := 0x7805, num := 1, stride := 0x1, ty := .u32, acc := .ro, roles := 0, ret := .v, rng := .any, grp := (.fixed 13), dflt := fun _ => 0 },
  { base := 0x7840, num := 1, stride := 0x1, ty := .u8, acc := .rw, roles := 4, ret := .n, rng := .mask 0x0F, grp := .none, dflt := fun _ => 15 },
  { base := 0x7841, num := 4, stride := 0x1, ty := .u32, acc := .rc, roles := 7, ret := .v, rng := .any, grp := .none, rc := 0xf, dflt := fun _ => 0 },
  { base := 0x7848, num := 4, stride := 0x1, ty := .u32, acc := .ro, roles := 0, ret := .v, rng := .any, grp := .none, dflt := fun _ => 0 },
  { base := 0x7850, num := 1, stride := 0x1, ty := .u8, acc := .ro, roles := 0, ret := .w, rng := .any, grp := .none, dflt := fun _ => 16 },
  { base := 0x7851, num := 1, stride := 0x1, ty := .u32, acc := .ro, roles := 0, ret := .k, rng := .any, grp := .none, dflt := fun _ => 0 },
  { base := 0x7852, num := 1, stride := 0x1, ty := .u32, acc := .ro, roles := 0, ret := .k, rng := .any, grp := .none, dflt := fun _ => 0 }
]

/-- The rows of the group that R13 gives an ID to. -/
def rowsOf (id : Nat) : List ObjRow :=
  if id ≤ 0x2ff then rowsSys else
  if id ≤ 0xfff then rowsPin else
  if id ≤ 0x13ff then rowsPwr else
  if id ≤ 0x17ff then rowsThm else
  if id ≤ 0x1bff then rowsSec else
  if id ≤ 0x1fff then rowsUpd else
  if id ≤ 0x2fff then rowsNet else
  if id ≤ 0x37ff then rowsGlk else
  if id ≤ 0x3bff then rowsTrx else
  if id ≤ 0x3fff then rowsDcl else
  if id ≤ 0x47ff then rowsLpe else
  if id ≤ 0x4fff then rowsAdc else
  if id ≤ 0x57ff then rowsPos else
  if id ≤ 0x5fff then rowsChg else
  if id ≤ 0x67ff then rowsAux else
  if id ≤ 0x6fff then rowsAmc else
  if id ≤ 0x73ff then rowsRpk else
  if id ≤ 0x77ff then rowsPtg else
  if id ≤ 0x7fff then rowsMem else
  []

/-- The row of an assigned ID and the instance it names; none for an ID not assigned to an object (R13). -/
def findRow (id : Nat) : Option (ObjRow × Nat) :=
  (rowsOf id).findSome? fun r => (r.instance? id).map fun i => (r, i)

end Sys2Proof.Machine
end

