-- ==== Sys2Proof/Machine/TypesHost.lean ====
section
/-! DEFINITION. The state of the host ports, the mailbox dispatcher, the clocks and the outputs: what chapters
"Architecture and the axle cycle" and "Host ports, mailboxes and shared hosts" give the machine beside its objects. -/

namespace Sys2Proof.Machine

/-- A byte memory: address and byte, addresses strictly rising, no entry equal to 0, which is what an unlisted
address reads as. -/
abbrev Mem := List Host.Cell

/-- Slot states (R65). -/
inductive SlotSt where
  | free | posted | accepted | done
  deriving DecidableEq, Repr

/-- One entry of an event ring (R70). -/
structure Evt where
  code : Nat
  source : Nat
  stamp : Axt
  data : Nat
  deriving DecidableEq, Repr

/-- One command slot (R59). `cmd` keeps the command frame as posted, which R87 compares; `lost` marks the groups whose
lease its host lost while the slot was POSTED (R82). -/
structure Slot where
  st : SlotSt
  mem : Mem
  cmd : List Byte
  lost : Nat
  acceptAxt : Axt
  doneAxt : Axt
  deriving DecidableEq, Repr

/-- The sticky bits of HP_STATUS (R56). -/
structure Sticky where
  ringErr : Bool
  coll : Bool
  wrIgn : Bool
  dbErr : Bool
  leaseLost : Bool
  hbLapsed : Bool
  evtOvf : Bool
  deriving DecidableEq, Repr

/-- One host port: its slots, its ring and its register block (R55 to R58). -/
structure HostPort where
  slots : Vector Slot 8
  /-- POSTED slots in the order of their doorbells (R66). -/
  bells : List (Fin 8)
  ring : Vector Evt 64
  head : Nat
  tail : Nat
  /-- EVT_LOST. -/
  lost : Nat
  /-- Events dropped since the last EV_EVT_OVERFLOW (R71). -/
  dropped : Nat
  sticky : Sticky
  /-- IRQ_EN_COMPL, IRQ_EN_EVT, IRQ_EN_ERR in bits 0, 1, 2. -/
  irqEn : BitVec 3
  quad : Bool
  scratch : BitVec 32
  xcollAddr : BitVec 32
  axtHi : BitVec 32
  /-- The port has been active since its last HOST reset (R72). -/
  active : Bool
  /-- The instant of the last renewal (R80), and whether EV_HOST_LOST was raised since (R85). -/
  renewedAt : Nat
  lostSent : Bool
  deriving DecidableEq, Repr

/-- A command the dispatcher has accepted (R66): its frame and its stamp. `kept`: groups whose lease its host lost after
the acceptance, `lost`: groups whose lease it lost while the slot was POSTED (R82). `orphan`: a HOST reset passed since,
so nothing is written for it; `role` is then the role its host's session had, under which it runs to completion (R92). -/
structure Cmd where
  host : Fin 4
  slot : Fin 8
  code : Nat
  tag : Nat
  flags : Nat
  payload : List Byte
  stamp : Axt
  kept : Nat
  lost : Nat
  orphan : Bool
  role : Option Nat
  deriving DecidableEq, Repr

/-- A request held pending: a command that returned ST_PENDING or ST_DEFERRED (R69), of a group and, for a mask of contexts, of
`others` beside it. `arg` is what its function notes about it; `waiting`: it waits for its condition and can be withdrawn (R62, R82, R92), where the others are under way. -/
structure Held where
  host : Fin 4
  code : Nat
  tag : Nat
  group : Option Nat
  others : List Nat
  arg : List Nat
  waiting : Bool
  orphan : Bool
  deriving DecidableEq, Repr

/-- A pending command that has ended, with its final status and REASON (R69, R584). -/
structure Ended where
  host : Fin 4
  code : Nat
  tag : Nat
  status : Nat
  reason : Option (Nat × Nat)
  deriving DecidableEq, Repr

/-- The dispatcher (R66). -/
structure Disp where
  ready : Bool
  booting : Bool
  last : Fin 4
  accepted : List Cmd
  held : List Held
  ended : List Ended
  /-- The limit of a LIMIT override per machine (R83), S20 bits. -/
  limits : Vector Nat 4
  /-- The start of the safety host's timeout and whether its lapse has acted (R85). -/
  safetyAt : Nat
  safetyActed : Bool
  deriving DecidableEq, Repr

/-- The last access of a port to the exchange memory: word, direction, HF clock at which its window opened (R88). -/
structure XAccess where
  word : Nat
  wr : Bool
  clk : Nat
  deriving DecidableEq, Repr

/-- The exchange memory (R88 to R91). `busy` holds the HF clock until which BUSY_A and BUSY_B stay asserted. `epoch` counts the
resets and stays that left its contents undefined: what an unlisted address reads as since. -/
structure XMem where
  mem : Mem
  epoch : Nat
  last : Vector (Option XAccess) 2
  busy : Vector Nat 2
  deriving DecidableEq, Repr

/-- The forced action of a gate link (R42). -/
inductive Force where
  | hold | off | ascLow | ascHigh
  deriving DecidableEq, Repr

/-- The clocks (R22, R46, R47). -/
structure Clk where
  /-- Crystal edges are seen, and a loss under R46 or R47 stands declared, so that XTAL_OK reads 0 (log 101). -/
  xtal : Bool
  declared : Bool
  /-- The crystal loss has been declared and its recovery is not complete (R46). -/
  lossActive : Bool
  /-- The instant from which the crystal runs again. -/
  xtalAt : Nat
  /-- The instant of the last trim of SC, HF, NW, SE (R22). -/
  trimAt : Vector Nat 4
  trimmed : Vector Bool 4
  /-- The islands held in ISLAND reset (R47), by their LOCK bit. -/
  heldIslands : BitVec 6
  deriving DecidableEq, Repr

/-- What leaves the device: frames, records and messages, newest first. -/
inductive Sent where
  | spi (h : Nat) (bytes : List Byte)
  | link (l : Nat) (code : Nat) (bytes : List Byte) (at_ : Nat)
  | train (l : Nat) (bytes : List Byte) (at_ n : Nat)
  | hpn (port : Nat) (kind : Nat) (bytes : List Byte)
  | can (n : Nat) (fmt : CanFormat) (id : Nat) (bytes : List Byte)
  | canError (n : Nat)
  | pg (e : Nat) (mac : Nat) (ip : Nat) (bytes : List Byte)
  | eth (e : Nat) (kind : Nat) (mac : Nat) (ip : Nat) (bytes : List Byte)
  | tap (answer : Nat)
  deriving DecidableEq, Repr

end Sys2Proof.Machine
end

