-- ==== Sys2Proof/Machine/TypesDrive.lean ====
section
/-! DEFINITION. The state of the traction machines, the loop engine, the DC link and the Pointing pair beside their
objects (chapters "Traction field control", "Six-phase continuity", "Loop engine", "DC link, contactors and braking"
and "Pointing: redundant execution"). -/

namespace Sys2Proof.Machine

/-- One three-phase set of a machine; its state and cause stand in `trx.mM.ss_state` (R282). -/
structure TrxSet where
  /-- Instants of its last losses, newest first (R279). -/
  lossAt : List Nat
  /-- Since when it has been eligible to return without a break (R279). -/
  eligible : Option Nat
  /-- First planned period of its return, once chosen, and the preset on its way to CT (R280). -/
  period : Option Nat
  preset : Bool
  /-- Start of the share ramp (R280). -/
  rampAt : Option Nat
  /-- Current references id, iq in amperes (R163). -/
  id : Rat
  iq : Rat
  /-- The references as delivered to the current loop: one sample later, but for the hand-over (R139, R273). -/
  idIn : Rat
  iqIn : Rat
  deriving DecidableEq, Repr

/-- One traction machine. -/
structure Trx where
  /-- Target and envelope as HF last sent them, with the binding sources of each bound (R139, R155). -/
  target : Rat
  /-- The d-current request of mode CURRENT, whose q-current request is `target`. -/
  targetD : Rat
  sentPos : Rat
  sentNeg : Rat
  srcPos : Nat
  srcNeg : Nat
  /-- The envelope after the fast clamp. -/
  envPos : Rat
  envNeg : Rat
  /-- Slew-limiter output (N·m). -/
  out : Rat
  /-- Speed-request limiter (rpm) and current-request limiters (A) of modes SPEED and CURRENT (R161, R585). -/
  speedRef : Rat
  idRef : Rat
  iqRef : Rat
  /-- Instant of the last accepted write to the request object, and whether its age has expired (R162). -/
  reqAt : Nat
  aged : Bool
  /-- Instant of the previous current-loop sample. -/
  sampledAt : Nat
  /-- Presets on their way to CT: 1 enable (R150), 2 resumption after OVA (R303); 0 none. -/
  preset : Nat
  /-- The first planned period chosen, if it has not begun (R150, R303). -/
  period : Option Nat
  magAt : Nat
  /-- The sets that the enable found ready, bit by bit (R149). -/
  starts : Nat
  /-- MODE 2 of TRX_DISABLE: SC holds ASC until the rule selects OFF (R153). -/
  ascHold : Bool
  /-- OVA has stopped this machine's switching (R302). -/
  ova : Bool
  /-- A set was declared LOST and the hand-over sample has not passed (R273). -/
  handover : Bool
  /-- Type 3: the rotor's electrical angle, and that of the slip, in turns (R163, R169). -/
  rotor : Rat
  slip : Rat
  /-- Speed of the active angle source (rpm) and whether it is valid. -/
  speed : Rat
  speedOk : Bool
  /-- The speed rule as copies A and B of SC evaluate it: true for ASC (R166). -/
  ruleA : Bool
  ruleB : Bool
  /-- Since when the field-weakening output has stood at its clamp with the voltage above target, and since when it has
  been off the clamp while R165 applies; the motoring bound then in force. -/
  fwAt : Option Nat
  fwOff : Option Nat
  fwBound : Option Rat
  /-- Since when the observer's residual has stayed below its threshold (R168), and since when the port angle has been
  valid and near the observer's (R169). -/
  obsOk : Option Nat
  agree : Option Nat
  /-- SAFE was entered by an override of the safety host (R83, R152). -/
  overSafe : Bool
  /-- Observer angle and speed come from S1's context (R274). -/
  obsS1 : Bool
  sets : Vector TrxSet 2
  deriving DecidableEq, Repr

/-- One run of a context: its sample instant, effective deadline and latched inputs in units of 2^−19 (R180, R184). -/
structure Run where
  at_ : Nat
  deadline : Nat
  sp : Vector Int 4
  fb : Vector Int 4
  ff : Vector Int 4
  aux : Vector Int 4
  /-- The source codes whose words have not arrived (R181), and the instant at which a lane took the run (R182). -/
  missing : List Nat
  laneAt : Option Nat
  /-- A bank swap took effect at this sample. -/
  swapped : Bool
  deriving DecidableEq, Repr

/-- One context of the loop engine; ON, BANK, SWAP_PENDING and IMPLAUS_NOW stand in `lpe.cN.status` (R178). -/
structure Ctx where
  /-- Scheduled enable: the first sample instant at or after it (R199). -/
  startAt : Option Nat
  stopping : Bool
  /-- Apply instant of a scheduled swap (R192). -/
  swapAt : Option Nat
  run : Option Run
  /-- Sample instants before this one have been dealt with, or fell before the trigger was written or the context enabled
  (R177). -/
  trigNext : Nat
  /-- Integrators in units of 2^−30, errors, derivative states and clamp directions of the last committed run (R186). -/
  integ : Vector Int 4
  ePrev : Vector Int 4
  deriv : Vector Int 4
  satDir : Vector Int 4
  fbPrev : Vector Int 4
  outc : Vector Int 4
  /-- The bound that the context's function sets on its output at each sample, beside those of the bank (R326, R329). -/
  cap : Option Int
  first : Bool
  lastAt : Nat
  /-- The instant of the last commit whose words crossed on channel 3: their stamp (R28). -/
  sentAt : Nat
  /-- Output as the consumer applied it in the interval that ends at the next sample (R195). -/
  applied : Vector Int 4
  /-- What the present plan window schedules, and its sum over the windows since the last sample with their length in
  ticks (R195). -/
  planned : Vector Int 4
  volts : Vector Int 4
  span : Nat
  excess : Nat
  /-- Consecutive late runs (R268, R339, R353, R403). -/
  lateRuns : Nat
  /-- Committed runs since the last one that set SAT_OUT (R268). -/
  clean : Nat
  /-- Node values of the last committed run, kind by kind and channel by channel (R201). -/
  nodes : List Int
  /-- Feedback of the last committed run in the observer's frame, and the extended back-EMF in volts, d and q (R197). -/
  obsPrev : Vector Int 2
  emf : Vector Rat 2
  /-- Observer angle (2^−16 turn), observer speed (rpm) and rotor flux (V·s) (R194, R197). -/
  obsAngle : Nat
  obsRpm : Rat
  psiR : Rat
  deriving DecidableEq, Repr

/-- One trace buffer (R200 to R204). -/
structure Trace where
  /-- Runs since the last recorded one, and the trigger node's value at the previous committed run. -/
  runs : Nat
  prev : Option Int
  /-- The records held, oldest first, in their ring order. -/
  recs : List (List Byte)
  /-- Records in the ring before the trigger record. -/
  trigAt : Option Nat
  deriving DecidableEq, Repr

/-- A trace read on its way to the exchange memory (R204). -/
structure TraceRead where
  buf : Nat
  first : Nat
  count : Nat
  xoff : Nat
  deriving DecidableEq, Repr

/-- The DC link (R285 to R306). -/
structure Dcl where
  /-- Last values and instants of the two link sources and of the battery source. -/
  v1 : Rat
  v1At : Option Nat
  v2 : Rat
  v2At : Option Nat
  vLink : Rat
  vBat : Rat
  noSrc : Bool
  diffAt : Option Nat
  /-- Step of the closing sequence, its start, the link voltage then, and the last starts of sequences (R290). -/
  step : Nat
  stepAt : Nat
  stepV : Rat
  starts : List Nat
  /-- Contactor outputs. -/
  ctrPos : Bool
  ctrNeg : Bool
  ctrPre : Bool
  /-- Opening in progress: MODE, cause, start, and the instant CTR_POS was released (R292). -/
  openMode : Nat
  openCause : Nat
  openAt : Nat
  posAt : Option Nat
  /-- HVIL: the bit of the pattern being sent, from 0, and the level of HVIL_DRV (R293). -/
  hvilPos : Nat
  hvilDrv : Bool
  /-- HVIL per SC copy: milliseconds for which the loop has counted as open, run of matching bits, and the debounced state, open when
  true (R294; log 195). -/
  hvilOpenRun : Vector Nat 2
  hvilOkRun : Vector Nat 2
  hvilOpen : Vector Bool 2
  /-- The loop as the device last reported it. -/
  hvil : Bool
  bmsAt : Nat
  bmsStale : Bool
  /-- Chopper: switched in, the duty of its last plan, resistor energy (kJ), CHOP_HOT in force, start of f_chop's fall
  (R298 to R301). -/
  chopIn : Bool
  chopDuty : Rat
  energy : Rat
  hot : Bool
  fallAt : Option Nat
  /-- An override has stopped the chopper, and its owner has not enabled it since (R84; log 191). -/
  chopHeld : Bool
  /-- Since when the link has stayed below `ova_release` (R303). -/
  belowAt : Option Nat
  /-- Comparator: the threshold's code; trip: instant, and whether ASC has followed OFF (R304). -/
  hwCode : Nat
  hwAt : Nat
  hwAsc : Bool
  deriving DecidableEq, Repr

/-- A checkpoint word: what CT sends to both copies of SC for functions 0 to 3, machine by machine, with its stamp (R411,
R413). -/
structure SafeWord where
  stamp : Nat
  speed : Vector Rat 4
  speedOk : Vector Bool 4
  out : Vector Rat 4
  est : Vector Rat 4
  envPos : Vector Rat 4
  envNeg : Vector Rat 4
  st : Vector Nat 4
  /-- OVA (R302), and the STATE fields of the sets (R270, R282). -/
  ova : Vector Bool 4
  sets : Vector Nat 4
  deriving DecidableEq, Repr

/-- One copy of SC in the Pointing pair. -/
structure PtgCopy where
  /-- Checkpoint words in its channel, newest first: the one last selected and those that wait (R411). -/
  words : List SafeWord
  /-- Running signature register (R417). -/
  sig : BitVec 64
  /-- Consecutive checkpoint misses (R421). -/
  missRun : Nat
  /-- The checkpoint at hand is missed (R412). -/
  missed : Bool
  /-- Its SAFE pin is at the safe level, and permission for closing steps (R416, R425). -/
  safe : Bool
  close : Bool
  /-- Checkpoints in a row over the torque tolerance, per machine (R415). -/
  tq : Vector Nat 4
  /-- Trip decision per machine: 0 none, else the fault value it forces (R159, R414). -/
  trip : Vector Nat 4
  deriving DecidableEq, Repr

/-- The Pointing pair (R410 to R428). -/
structure Ptg where
  a : PtgCopy
  b : PtgCopy
  /-- Signatures of the window that has just ended, until compared. -/
  ended : Option (BitVec 64 × BitVec 64)
  /-- The last compared window mismatched; matching windows in a row. -/
  lastBad : Bool
  matches_ : Nat
  /-- Index of the last checkpoint in its window. -/
  index : Nat
  /-- Split asked for, join asked for, start of the split, windows since the join's boundary (R426 to R428). -/
  splitReq : Option Nat
  /-- The split is for loading an image (R521). -/
  image : Bool
  joinReq : Bool
  /-- The join is asked for by a host's PTG_JOIN alone, which can be withdrawn (R62). -/
  joinCmd : Bool
  splitAt : Nat
  joinWin : Nat
  /-- The leaving copy can join again: its slice passed and its image verified. -/
  joinOk : Bool
  /-- guard, split_max, split_live, tq_tol and tq_time as in force since the last window boundary (R430). -/
  cfg : Vector Nat 5
  deriving DecidableEq, Repr

end Sys2Proof.Machine
end

