-- ==== Sys2Proof/Machine/TypesLink.lean ====
section
/-! DEFINITION. The state of the gate links and of the planner (chapter "Gate links and edge-timed PWM"). -/

namespace Sys2Proof.Machine

/-- The states a link can be in by itself; FORCED is a view (R586). -/
inductive LinkSt where
  | off | training | ready | lost | degraded
  deriving DecidableEq, Repr

/-- One edge sent to a driver (R103): target and length in fine steps of 156.25 ps, the frame's place on the line, and
what its telemetry will be judged by (R131, R132). -/
structure Edge where
  /-- Target instant in fine steps (8 × tick + fine). -/
  target : Nat
  sw : Nat
  drive : Nat
  seq : Nat
  meas : Bool
  /-- The frame ends at this tick; it occupies the 50 ticks before it. -/
  frameEnd : Nat
  delay : Nat
  fine : Nat
  /-- Polarity of a natural transition at or above the threshold (false positive); none for the others. -/
  natural : Option Bool
  /-- Dead time applied, fine steps. -/
  dt : Nat
  /-- Entry of the drive table (8 × direction + bin). -/
  entry : Nat
  deriving DecidableEq, Repr

/-- A REG request waiting for its reply (R112). -/
structure RegReq where
  addr : Nat
  data : Nat
  sentAt : Nat
  tries : Nat
  deriving DecidableEq, Repr

/-- One gate link. -/
structure Link where
  st : LinkSt
  /-- Training step 1 to 6 and the instant it began (R115). -/
  step : Nat
  stepAt : Nat
  /-- One-way wire delay in fine steps (R116). -/
  wireD : Int
  caps : Nat
  /-- LOSS_ACT as the driver's replies confirm it (R122). -/
  lossAct : Nat
  /-- Driver status of the last STAT (R109). -/
  mode : Nat
  fault : Nat
  sw : Nat
  temp : Nat
  statAt : Nat
  /-- ECHO_ID outstanding, if any, and the run of outliers (R117). -/
  echo : Option Nat
  echoId : Nat
  echoAt : Nat
  outliers : Nat
  /-- The last echo's residual against the estimate (R119). -/
  resid : Int
  seq : Nat
  /-- Edges whose target or telemetry has not passed, oldest first. -/
  edges : List Edge
  /-- Consecutive missing EDGE_TEL (R121). -/
  telMiss : Nat
  reg : Option RegReq
  regQueue : List (Nat × Nat)
  /-- The link's function plans edges on it. -/
  planning : Bool
  /-- FORCE carries the loss action while SC's action is HOLD (R121, R270, R302). -/
  forceLoss : Bool
  /-- RELEASE frames still to send and the instant of the last FORCE or RELEASE. -/
  release : Nat
  /-- The instant from which they are due. -/
  relAt : Nat
  forceAt : Nat
  /-- The instant of the loss declaration (R121). -/
  lostAt : Nat
  /-- Starts of periods from the first planned period on, up to 17 (R131). -/
  periods : Nat
  /-- Per drive-table entry: consecutive updates above 1.5 × target at the minimum, and whether the entry has changed
  in this carrier period (R132, R133). -/
  slewRun : Vector Nat 16
  slewDone : BitVec 16
  ctleAt : Nat
  /-- The end of the last frame on the downstream line that is no EDGE (R582), and the de-emphasis in use (R96, R134). -/
  lineEnd : Nat
  deemph : Nat
  /-- R114 has left the link OFF: no training but one asked for anew. -/
  barred : Bool
  /-- The last telemetry word as HF has it, with the instant measured (R28). -/
  telHf : Option (Nat × Nat)
  /-- Leg state last commanded (SW of R103) and the instant of the edge that reached it, in fine steps (R129). -/
  legSw : Nat
  legAt : Nat
  deriving DecidableEq, Repr

/-- The settings with which the running block of a group was built (R126). -/
structure BlockCfg where
  nominal : Nat
  dither : Nat
  mode : Nat
  deriving DecidableEq, Repr

/-- What a leg's function asks of the planner: the duty, and the shift of the pattern as a fraction of the period
(R128). -/
structure LegCmd where
  duty : Rat
  shift : Rat
  deriving DecidableEq, Repr

/-- One carrier group (R125 to R129). -/
structure Carrier where
  running : Bool
  lfsr : Nat
  seed : Nat
  off : List Int
  cum : Rat
  prev : Int
  /-- Index of the last drawn period in its block. -/
  drawn : Nat
  cfg : BlockCfg
  /-- Mode of the current and of the next period: the settings of a block hold for all its periods (R126). -/
  mode : Nat
  nextMode : Nat
  /-- Undithered length of the current and of the next period, likewise. -/
  nominal : Nat
  nextNominal : Nat
  /-- The end of the last window planned (R128). -/
  planned : Nat
  start : Nat
  cur : Nat
  next : Nat
  /-- Number of the valley that began the current period (R177). -/
  valley : Nat
  /-- Under double update the second half of the current period has been planned (R128). -/
  half : Bool
  /-- Updates by link for the coming plan, the commands of the last plan, and the contexts whose update for the coming
  plan is still to be committed (R36). -/
  fresh : List (Nat × LegCmd)
  last : List (Nat × LegCmd)
  due : List Nat
  deriving DecidableEq, Repr

end Sys2Proof.Machine
end

