-- ==== Sys2Proof/Machine/TypesFn.lean ====
section
/-! DEFINITION. The state of the power functions beside their objects: charger, auxiliary converter, auxiliary motors and
park lock, reserve pack (their chapters). -/

namespace Sys2Proof.Machine

/-- A current search or an upward probe under way (R327, R328). -/
structure Search where
  i : Rat
  good : Rat
  cap : Rat
  steps : Nat
  /-- The instant at which the input limit reached `i`. -/
  reachedAt : Option Nat
  /-- The output target has kept the input below 90 % of `i` for the whole hold. -/
  outLim : Bool
  /-- The old limit, for a probe. -/
  probe : Option Rat
  deriving DecidableEq, Repr

/-- The pilot decoder (R317 to R320); times in ticks. -/
structure Pilot where
  rise : Option Nat
  fall : Option Nat
  /-- High time and period of the periods of the running mean, and the previous mean duty. -/
  periods : List (Nat × Nat)
  prev : Option Rat
  duty : Option Rat
  freqOk : Bool
  /-- Level of the last high plateau in millivolts. -/
  high : Option Int
  /-- Candidate state and periods in a row that agree on it. -/
  cand : Nat
  run : Nat
  /-- `i_pilot` as the input limit uses it, and since when a higher one has been accepted. -/
  eff : Rat
  riseAt : Option Nat
  deriving DecidableEq, Repr

/-- A line as CT measures it (R325): the last sample and the start of the running cycle, whether a zero crossing began it, its
sums (squares of line to neutral, of line to the next line and of the current, products of voltage and current, in units of
2^−38); then what the last cycle gave: RMS to neutral and to the next line (V), RMS current (A), power (W), frequency (Hz). -/
structure Line where
  prev : Int
  start : Nat
  whole : Bool
  n : Nat
  sq : Int
  sqNext : Int
  sqI : Int
  prod : Int
  rms : Rat
  rmsNext : Rat
  amps : Rat
  watts : Rat
  freq : Rat
  deriving DecidableEq, Repr

/-- The charger. -/
structure Chg where
  /-- A stop in progress: the state it ends in and its cause; an immediate stop whose S2 has yet to open. -/
  ends : Nat
  stopCause : Nat
  stopBusy : Bool
  /-- Entry to STOPPING, and FORCE OFF sent since (R337). -/
  stopAt : Nat
  stopCut : Bool
  /-- CHG_SEL, the level wanted, and whether 50 ms have passed since its last change (R314). -/
  sel : Bool
  selWant : Bool
  selAt : Nat
  selSettled : Bool
  pilot : Pilot
  /-- Proximity: plugged readings in a row, error readings in a row, no cable (R321). -/
  ppRun : Nat
  ppBad : Nat
  ppNone : Bool
  /-- L1 to L3 as measured, and whether a cycle of L1 has ended that HF has not judged yet (R325). -/
  lines : Vector Line 3
  lineEnd : Bool
  /-- Line measurements of the last 500 ms: instant, v (V), frequency (Hz); live phases; input current (A). -/
  hist : List (Nat × Rat × Rat)
  live : Nat
  inA : Rat
  lineAt : Nat
  /-- Entry to QUALIFY, and the start of its present uninterrupted qualification. -/
  qualIn : Nat
  qualAt : Nat
  /-- Sum and number of samples of result 263 in QUALIFY. -/
  pvSum : Int
  pvN : Nat
  /-- Since when: input lost, sag, droop, PV low. -/
  lossAt : Option Nat
  sagAt : Option Nat
  droopAt : Option Nat
  pvLowAt : Option Nat
  rocof : Bool
  /-- Power into the auxiliary converter and the machines of `pto_mask` at the last torque tick, in watts (R326). -/
  load : Rat
  search : Option Search
  /-- Result of the last search, cuts of the last 10 minutes, last cut or probe, how the last search ended. -/
  limit : Option Rat
  cuts : List Nat
  cutAt : Nat
  searchEnd : Nat
  searchOut : Rat
  /-- PV: sum and number of the input powers (W) sampled in this interval; P&O direction up, power of the last interval (W),
  pv_limit, last instant anything bound, sweep. -/
  wSum : Rat
  wN : Nat
  dirUp : Bool
  pPrev : Rat
  poAt : Nat
  pvLimit : Bool
  bindAt : Nat
  sweeping : Bool
  sweepAt : Nat
  sweepAsk : Bool
  /-- The sweep rises; last instant of its ramp, of a power recorded; the largest one recorded and its voltage (R332). -/
  sweepUp : Bool
  rampAt : Nat
  recAt : Nat
  bestW : Rat
  bestV : Rat
  /-- Last write of `chg.bat_temp`; what the charger is PAUSED for, and since when its resume condition holds (R339); instants of
  cause LATE. -/
  batAt : Option Nat
  pauseFor : Nat
  okAt : Option Nat
  lateAt : List Nat
  deriving DecidableEq, Repr

/-- The auxiliary converter; its state, phase states and restarts stand in its objects (R363). Times in ticks. -/
structure Aux where
  /-- Entry to the present state, and the start of the present soft start. -/
  at_ : Nat
  startAt : Nat
  /-- Output target behind its limiter (R363) and the instant of the last reference step. -/
  target : Rat
  rampAt : Nat
  /-- The soft start has passed `ss_timeout` at 20 % or more (R352). -/
  slow : Bool
  /-- Phases in limit in this carrier period and in the last one; since when in every period with the output below 80 %
  (R352, R353). -/
  limit : Nat
  lastLimit : Nat
  /-- Ticks of whole periods without a limit that the soft-start ramp has not taken yet (R351, R352). -/
  rampTicks : Nat
  olAt : Option Nat
  /-- Start of the present stay in RUN or BURST (R352). -/
  cleanAt : Nat
  chisel : Bool
  /-- Edges that Chisel keeps back, per phase, and the end of what was planned as it acted (R354). -/
  held : Vector (List Edge) 8
  heldPlan : Nat
  /-- Thresholds of the window comparator (undershoot, overshoot) and of the peak comparators, as codes (R347). -/
  usCode : Nat
  osCode : Nat
  pkCode : Vector Nat 8
  /-- End of the fire pulses (R355); since when the output is inside the band, and the hold met. -/
  fireEnd : Nat
  bandAt : Option Nat
  bandMet : Bool
  /-- Since when the load is light; periods of the shed ramp done (R356). -/
  lightAt : Option Nat
  ramp : Nat
  /-- Per phase: since when at 00, and the end of its refresh pulse while JOINING (R355). -/
  offAt : Vector Nat 8
  joinAt : Vector Nat 8
  /-- Output power (kW) of the last millisecond, and since when the load fraction is below `burst_on` (R357). -/
  hist : List (Nat × Rat)
  lowAt : Option Nat
  /-- A packet runs; its periods so far; the instant before which no further one starts. -/
  packet : Bool
  packetN : Nat
  /-- AUX_SYNC: last edge, periods measured in a row (newest first), locked, free-run hold since (R358, R359). -/
  edge : Option Nat
  periods : List Nat
  hold : Option Nat
  /-- The mean of the last four measured periods in ticks, kept through the free run (R358, R359). -/
  mean : Rat
  /-- Since when the current spread exceeds its threshold, and the spread in 0.1 % (R360). -/
  spreadAt : Option Nat
  spread : Nat
  /-- Per phase: the last instant at which its link was not READY or reported a fault (R361). -/
  badAt : Vector Nat 8
  /-- The cause, INPUT or DCL, that a restart would follow (R362). -/
  restartFor : Nat
  /-- Since when the link voltage is too low, or high enough to restart (R362). -/
  lowInAt : Option Nat
  okInAt : Option Nat
  deriving DecidableEq, Repr

/-- The auxiliary converter after reset. -/
def Aux.reset : Aux :=
  { at_ := 0, startAt := 0, target := 0, rampAt := 0, slow := false, limit := 0, lastLimit := 0, rampTicks := 0, olAt := none, cleanAt := 0,
    held := Vector.replicate 8 [], heldPlan := 0, usCode := 0, osCode := 0, pkCode := Vector.replicate 8 0, mean := 0, restartFor := 0,
    chisel := false, fireEnd := 0, bandAt := none, bandMet := false, lightAt := none, ramp := 0, offAt := Vector.replicate 8 0,
    joinAt := Vector.replicate 8 0, hist := [], lowAt := none, packet := false, packetN := 0, edge := none, periods := [],
    hold := none, spreadAt := none, spread := 0, badAt := Vector.replicate 8 0, lowInAt := none, okInAt := none }

/-- How the pair of outputs of a motor phase is driven: both off, the low side on, or high and low side complementary at a duty
(R367, R368). -/
inductive PhaseDrive where
  | off
  | low
  | switched (duty : Rat)
  deriving DecidableEq, Repr

/-- One auxiliary-motor channel; its state and position stand in its objects (R389). Times in ticks, directions +1 and
−1, speeds signed in rpm. -/
structure Amc where
  /-- Entry to the present state, or to the listening part of BRAKE. -/
  at_ : Nat
  /-- Direction of the present run, and what it is for: 0 speed, 1 move, 2 homing, 3 park run. -/
  dir : Int
  job : Nat
  /-- Target speed (R376), a held reversal (R377), the limiter's output and its last step. -/
  target : Rat
  held : Option Rat
  lim : Rat
  limAt : Nat
  /-- Target position, a held one (R384), position at the start of homing, a move that waits out a pause (R382). -/
  goal : Int
  heldGoal : Option Int
  startPos : Int
  waiting : Bool
  /-- A STOP override has ended the channel's run, and its owner has not enabled it since (R84; log 191). -/
  barred : Bool
  /-- Commutation: step 0 to 5, last commutation, last step intervals (newest first), next commutation if known. -/
  step : Nat
  commAt : Nat
  taus : List Nat
  nextAt : Option Nat
  /-- Crossing seen while listening: phase, rising, instant; last accepted crossing in RAMP and RUN. -/
  seen : Option (Nat × Bool × Nat)
  crossAt : Nat
  /-- Crossings in a row that fit, and steps at the hand-over rate (R374). -/
  fits : Nat
  extra : Nat
  /-- BRAKE: its first entry, whether it listens now, and what follows: 0 ALIGN, 1 end of a move, 2 OFF (R373). -/
  brakeAt : Nat
  listening : Bool
  after : Nat
  waits : Nat
  fails : Nat
  retryAt : Option Nat
  /-- The duty in force before the last commit of the channel's context, and the instant of that commit (R375). -/
  dutyWas : Rat
  dutyAt : Nat
  /-- The last trip that ended an on-interval, or a low-side short (R370). -/
  cutAt : Option Nat
  /-- PWM periods in a row with a trip in the first 500 ns, and the last of them (R370). -/
  shorts : Nat
  shortAt : Nat
  /-- Curve: on, input at the last value at or above `speed_min`, last valid input, its loss acted on (R378, R379). -/
  curveOn : Bool
  xOn : Rat
  validAt : Nat
  failed : Bool
  /-- Park lock: runs made, direction sought, the retry that waits, a held engage (R385, R386). -/
  tries : Nat
  parkRetry : Option Nat
  parkHeld : Option Nat
  deriving DecidableEq, Repr

/-- A channel after reset. -/
def Amc.reset : Amc :=
  { at_ := 0, dir := 1, job := 0, target := 0, held := none, lim := 0, limAt := 0, goal := 0, heldGoal := none, startPos := 0,
    waiting := false, barred := false, step := 0, commAt := 0, taus := [], nextAt := none, seen := none, crossAt := 0, fits := 0, extra := 0,
    brakeAt := 0, listening := false, after := 0, waits := 0, fails := 0, retryAt := none, dutyWas := 0, dutyAt := 0, cutAt := none, shorts := 0, shortAt := 0,
    curveOn := false, xOn := 0, validAt := 0, failed := false, tries := 0, parkRetry := none, parkHeld := none }

/-- The reserve pack and the power path; states, flags and measurements stand in its objects (R407). Times in ticks. -/
structure Rpk where
  /-- Entry to the present path state; in TO_PACK the source switch has opened (R397). -/
  pathAt : Nat
  opened : Bool
  /-- End of the last hand-over, since when the pack voltage is below cutoff in PACK, the cutoff under way, and the pack
  switch it has opened (R399). -/
  packAt : Nat
  lowAt : Option Nat
  cutAt : Option Nat
  cut : Bool
  /-- Entry to the present charging state, and since when the pack is SEEN (R402). -/
  at_ : Nat
  seenAt : Option Nat
  /-- Last check of the rest voltage (R403). -/
  restAt : Nat
  /-- Why the charge is paused: temperature window, late runs; since when the temperature is 2 K inside (R403, R404). -/
  window : Bool
  lateAt : Option Nat
  insideAt : Option Nat
  /-- The search for an end of charge (R405): peak and run time, sum and number of samples of the last second, its start,
  temperatures every 10 s (newest first) and the last of their checks. -/
  vPeak : Rat
  tRun : Nat
  vSum : Rat
  vN : Nat
  secAt : Nat
  temps : List Rat
  tenAt : Nat
  /-- RPK_PWM after the charge: the duty of its last on-interval, and that interval was ended at once (R397, R406). -/
  dutyWas : Rat
  ended : Bool
  deriving DecidableEq, Repr

/-- The reserve pack after reset. -/
def Rpk.reset : Rpk :=
  { pathAt := 0, opened := false, packAt := 0, lowAt := none, cutAt := none, cut := false, at_ := 0, seenAt := none, restAt := 0,
    window := false, lateAt := none, insideAt := none, vPeak := 0, tRun := 0, vSum := 0, vN := 0, secAt := 0, temps := [], tenAt := 0,
    dutyWas := 0, ended := true }

/-- The pilot decoder after reset. -/
def Pilot.reset : Pilot :=
  { rise := none, fall := none, periods := [], prev := none, duty := none, freqOk := true, high := none, cand := 0, run := 0,
    eff := 0, riseAt := none }

/-- A line of which nothing has been measured. -/
def Line.reset : Line :=
  { prev := 0, start := 0, whole := false, n := 0, sq := 0, sqNext := 0, sqI := 0, prod := 0, rms := 0, rmsNext := 0, amps := 0, watts := 0,
    freq := 0 }

/-- The charger after reset. -/
def Chg.reset : Chg :=
  { ends := 0, stopCause := 0, stopBusy := false, stopAt := 0, stopCut := false, sel := false, selWant := false, selAt := 0, selSettled := true,
    lines := Vector.replicate 3 Line.reset, lineEnd := false, load := 0, wSum := 0, wN := 0, sweepUp := false, rampAt := 0, recAt := 0, bestW := 0,
    bestV := 0, pilot := Pilot.reset,
    ppRun := 0, ppBad := 0, ppNone := true, hist := [], live := 0, inA := 0, lineAt := 0, qualIn := 0, qualAt := 0,
    pvSum := 0, pvN := 0, lossAt := none, sagAt := none, droopAt := none, pvLowAt := none, rocof := false, search := none,
    limit := none, cuts := [], cutAt := 0, searchEnd := 0, searchOut := 0, dirUp := true, pPrev := 0, poAt := 0,
    pvLimit := false, bindAt := 0, sweeping := false, sweepAt := 0, sweepAsk := false, batAt := none, pauseFor := 0, okAt := none,
    lateAt := [] }

end Sys2Proof.Machine
end

