-- ==== Sys2Proof/Machine/TypesNet.lean ====
section
/-! DEFINITION. The state of the vehicle and implement networks beside their objects (chapter "Vehicle and implement
networks"): address claims, the partner table, transport sessions, and the messages that wait to leave. -/

namespace Sys2Proof.Machine

/-- One entry of the partner table as R470 lays it out; its SESSIONS field counts the open sessions of the table below. -/
structure Partner where
  kind : Nat
  flags : Nat
  port : Nat
  addr : Nat
  id : Nat
  link : Nat
  il : Nat
  last : Nat
  count : Nat
  errors : Nat
  ipv4 : Nat
  deriving DecidableEq, Repr

/-- How far the address claim of a CAN channel stands (R467): not on the bus, waiting 250 ms, claimed, Cannot Claim waiting
its delay, silent after Cannot Claim. -/
inductive Claim where
  | off | waiting | claimed | delay | silent
  deriving DecidableEq, Repr

/-- One CAN channel beside its objects (R463, R467): the claim, the address claimed and since when, instants of the bus-offs
of the last 10 s, bus-off now, and held off until NET_CAN_RESTART. -/
structure CanPort where
  claim : Claim
  addr : Nat
  at_ : Nat
  offs : List Nat
  busOff : Bool
  heldOff : Bool
  deriving DecidableEq, Repr

/-- What a message that leaves belongs to: the device itself, a NET_SEND by its host and tag, a map entry, a transport
session by its number. -/
inductive TxWho where
  | own
  | cmd (host : Fin 4) (tag : Nat)
  | map (i : Nat)
  | tp (key : Nat)
  deriving DecidableEq, Repr

/-- The frame format a message leaves in (R461, R465). -/
inductive TxFmt where
  | classic | fd | xl | datagram
  deriving DecidableEq, Repr

/-- One frame in a controller's queue, or one message that waits for a transport session (R474). -/
structure TxMsg where
  port : Fin 8
  fmt : TxFmt
  prio : Nat
  pgn : Nat
  sa : Nat
  da : Nat
  data : List Byte
  who : TxWho
  critical : Bool
  /-- The data stamp of a cyclic message, its build instant and its PERIOD in ms (R477). -/
  stamp : Nat
  built : Nat
  period : Nat
  deriving DecidableEq, Repr

/-- What a transport session waits for (R474). -/
inductive TpWait where
  | sending | cts | ack | packets | dpo
  deriving DecidableEq, Repr

/-- One transport session: one message in one direction between a source and a destination on a port (R474). -/
structure Session where
  key : Nat
  port : Fin 8
  src : Nat
  dst : Nat
  out : Bool
  bam : Bool
  ext : Bool
  pgn : Nat
  prio : Nat
  size : Nat
  /-- The whole message when it leaves, the bytes received so far when it comes. -/
  data : List Byte
  /-- Number of the next packet, and of the last one cleared to send. -/
  next : Nat
  upTo : Nat
  /-- Packet offset of the present window of the extended protocol. -/
  base : Nat
  /-- Packets that the sender takes per clearance. -/
  limit : Nat
  wait : TpWait
  due : Nat
  who : TxWho
  critical : Bool
  /-- Data stamp, build instant and period of the message, and whether a frame of it has left (R39, R477). -/
  stamp : Nat
  built : Nat
  period : Nat
  begun : Bool
  deriving DecidableEq, Repr

/-- The networks. -/
structure Net where
  can : Vector CanPort 4
  /-- Instant of the last interface-level announcement per port (R468). -/
  annAt : Vector Nat 8
  /-- A PLCA follower has fallen back to CSMA/CD (R464). -/
  csma : Vector Bool 2
  /-- The partner table: listed entries by index, sorted; an unlisted one is free (R470). -/
  table : List (Nat × Partner)
  /-- The frames in the controllers' queues, oldest first, and the messages that wait for a session. -/
  tx : List TxMsg
  wait : List TxMsg
  sess : List Session
  nextKey : Nat
  /-- Per map entry the last cycle (TX) or reception (RX), and the RX entries whose timeout has been declared (R476, R477). -/
  mapAt : List (Nat × Nat)
  rxDead : List Nat
  /-- Start of the present second of R473 and the frames processed in it. -/
  loadAt : Nat
  loadN : Nat
  /-- NW's start, from which an entry that nothing has fed yet counts (R476). -/
  startAt : Nat
  deriving DecidableEq, Repr

/-- The networks after reset. -/
def Net.reset : Net :=
  { can := Vector.replicate 4 { claim := .off, addr := 0xFE, at_ := 0, offs := [], busOff := false, heldOff := false },
    annAt := Vector.replicate 8 0, csma := Vector.replicate 2 false, table := [], tx := [], wait := [], sess := [],
    nextKey := 0, mapAt := [], rxDead := [], loadAt := 0, loadN := 0, startAt := 0 }

end Sys2Proof.Machine
end

