-- ==== Sys2Proof/Machine/TypesSec.lean ====
section
/-! DEFINITION. The state of the HPN channel, of security and the audit log, of firmware update, and of supplies, resets
and power states, beside their objects. -/

namespace Sys2Proof.Machine

/-- The HPN channel (R502): its key, the highest accepted SEQ, the last SEQ sent, the last valid record and, per
place of the ring, when its EVENT record last left (R87). -/
structure Hpn where
  up : Bool
  key : List Byte
  rxSeq : Nat
  txSeq : Nat
  lastAt : Nat
  resendAt : Vector Nat 64
  deriving DecidableEq, Repr

/-- One audit record (R503). -/
structure AuditRec where
  seq : Nat
  boot : Nat
  stamp : Axt
  kind : Nat
  host : Nat
  role : Nat
  lc : Nat
  obj : Nat
  status : Nat
  old : Nat
  new : Nat
  ref : Nat
  chain : List Byte
  deriving DecidableEq, Repr

/-- One definition of a maker object in a Tetas bundle (R500). -/
structure MakerDef where
  id : Nat
  ty : ObjTy
  acc : ObjAcc
  roles : Nat
  ret : ObjRet
  dflt : Nat
  deriving DecidableEq, Repr

/-- A life-cycle step in progress (R491). -/
structure LcStep where
  target : Nat
  key : List Byte
  deriving DecidableEq, Repr

/-- Security and the audit log. -/
structure Sec where
  /-- Maker keys in OTP, the newest last (R492). -/
  makerKeys : List (List Byte)
  /-- The maker has programmed the device secret block: key derivation is blocked after RETIRED (R490). -/
  deriveBlocked : Bool
  /-- Instants of the last ST_DENIED results of SESSION_OPEN per host (R483). -/
  failAt : Vector (List Nat) 4
  /-- The token under verification per host: ROLE and token bytes. -/
  verify : Vector (Option (Nat × List Byte)) 4
  /-- Instant of the last accepted command per host (R485). -/
  cmdAt : Vector Nat 4
  lcStep : Option LcStep
  /-- Reservation counters in the Plinth and their flash mirrors (R497). -/
  idRes : Nat
  attRes : Nat
  idMirror : Nat
  attMirror : Nat
  /-- The identity and attestation seeds are in the Mordant store (R496). -/
  keysReady : Bool
  /-- The attestation key to be derived is new (R498). -/
  keyNew : Bool
  /-- Leaf of the identity key under which the attestation key is certified (R498). -/
  certLeaf : Nat
  /-- NONCE of the report being signed (R499). -/
  attest : Option (List Byte)
  /-- TETAS staging buffer, bundle being installed, installed bundle, maker objects (R500, R501). -/
  staging : Mem
  install : Option (List Byte)
  bundle : List Byte
  makerDefs : List MakerDef
  /-- FLAGS bit 0 of the report (R499). -/
  tamperUnack : Bool
  /-- The tamper record of the Plinth: sensors, and whether a boot has yet to copy it (R493). -/
  tamperRec : BitVec 6
  tamperNew : Bool
  /-- hpn_key in the Mordant store (R502). -/
  hpnKey : Option (List Byte)
  /-- Cold boots since VENDOR. -/
  boots : Nat
  /-- The ring of records in flash, newest first, and the queue of R504, oldest first. -/
  log : List AuditRec
  queue : List AuditRec
  /-- Records lost with VSTBY, still to be logged (R504). -/
  lostRecs : Nat
  deriving DecidableEq, Repr

/-- The manifest of an image (R511). -/
structure Img where
  il : Nat
  minIl : Nat
  major : Nat
  minor : Nat
  patch : Nat
  secVer : Nat
  digest : List Byte
  deriving DecidableEq, Repr

/-- A flash operation of an update (R513). -/
inductive UpdOp where
  | erase
  | write (bytes : List Byte)
  | verify
  deriving DecidableEq, Repr

/-- The slots of one island (R509 to R512). -/
structure UpdIsl where
  bank : Nat
  committed : Img
  running : Img
  spare : Mem
  /-- The spare holds the committed slot's predecessor, a verified image (R512, R522). -/
  prev : Option Img
  op : Option UpdOp
  /-- The restart in progress is a rollback (R523). -/
  rollback : Bool
  deriving DecidableEq, Repr

/-- A restart of islands in progress (R531, R533). `classes`: bit 0 V, 1 W, 2 K, 3 uncommitted N. -/
structure Boot where
  cause : Nat
  islands : Nat
  classes : Nat
  deriving DecidableEq, Repr

/-- One on-die sensor (R434): sampled at 20 kHz, its last sample, whether it lay in the range of a reading and counts as valid, and
since when it has been more than 10 K from every limit. -/
structure Sensor where
  fast : Bool
  sampledAt : Nat
  tenths : Int
  read : Bool
  valid : Bool
  farAt : Option Nat
  /-- Its consecutive samples at 160 °C or above (R436; log 63). -/
  hot : Nat
  deriving DecidableEq, Repr

/-- Temperature (R433 to R440). `pause` holds the instants until which the classes dispatch, activation, flash and
burst wait (R438); `pauseNet` those of the eight network ports. -/
structure Thm where
  sensors : Vector Sensor 16
  pause : Vector Nat 4
  pauseNet : Vector Nat 8
  deriving DecidableEq, Repr

/-- The self-test scheduler (R443 to R450): the start of the present cycle, the instances it has yet to run, the instance
that runs and whether it repeats after a failure or runs for a BST_RUN. -/
structure Bst where
  cycleAt : Option Nat
  todo : List (Nat × Nat)
  run : Option (Nat × Nat)
  second : Bool
  byCmd : Bool
  /-- The sensors outside the median band of a failed TSENS (R449). -/
  suspect : BitVec 16
  deriving DecidableEq, Repr

/-- Patina (R451 to R454): per memory the region of the next step, whether it repeats after a failure, the last step, and the
last EV_MEM_CE. -/
structure Patina where
  region : Nat
  again : Bool
  at_ : Nat
  ceAt : Option Nat
  deriving DecidableEq, Repr

/-- Supplies, resets and power states. -/
structure Pwr where
  /-- VMAIN and VSTBY above their levels; the banks VIO1 to VIO3. -/
  vmain : Bool
  vstby : Bool
  vio : Vector Bool 3
  /-- VMAIN is lost and KAB holds (R532). -/
  keepAlive : Bool
  keepAliveAt : Nat
  /-- Restarts whose islands have yet to start (R531). -/
  boot : List Boot
  /-- Entry to PARK or SEALED in progress, and the state being entered. -/
  entering : Option Nat
  /-- In PARK or SEALED (CT stopped); Plinth cycles counted since (R27). -/
  asleep : Bool
  cycles : Nat
  /-- The wake timer's base, in Plinth cycles counted since entry. -/
  wake : Option Nat
  /-- Since when the target has been 4 or more (R544). -/
  dwellAt : Option Nat
  /-- Instant at which the wake hold ends; none when no hold runs. -/
  holdUntil : Option Nat
  /-- HF job wake in DOZE and NAP. -/
  jobWake : Bool
  /-- The latched-shutdown record of the Plinth: the chapter that wrote it (0x13 pack, 0x14 Pointing, 0x15 thermal) and its
  cause (R399, R423, R439). -/
  record : Option (Nat × Nat)
  /-- Islands by index of R509 none of whose images verified at the last boot: held in ISLAND reset (R495). -/
  failed : BitVec 6
  /-- A wake event has arrived during entry to PARK or SEALED, with its bit of R546 (R545). -/
  wakePend : Option Nat
  deriving DecidableEq, Repr

end Sys2Proof.Machine
end

