-- ==== Sys2Proof/Machine/TypesSense.lean ====
section
/-! DEFINITION. The state of the converters and of the position ports beside their objects (chapters "Analogue
conversion" and "Position and speed feedback"). -/

namespace Sys2Proof.Machine

/-- Who asked for an injected conversion: a host's ADC_INJECT, the chopper (R300), the pilot's high and low plateau
(R317), the proximity tick (R321). -/
inductive InjWho where
  | host | chopper | pilotHigh | pilotLow | proximity
  deriving DecidableEq, Repr

/-- An injected request (R220): the logical result, its target time, and the command of a host. -/
structure InjReq where
  res : Nat
  who : InjWho
  at_ : Nat
  cmd : Option Cmd
  deriving DecidableEq, Repr

/-- One entry of a running pass with the settings in force since the pass began (R226). -/
structure Conv where
  res : Nat
  hold : Bool
  /-- The entry runs in a cover sequence (R237, R238). -/
  cover : Bool
  entry : Nat
  filter : Nat
  cal : Nat
  deriving DecidableEq, Repr

/-- One converter; its STATE and COVER stand in `adc.aK.status` (R239). -/
structure Adc where
  /-- Entries of the regular pass not yet converted. -/
  todo : List Conv
  /-- The instant at which the hold stages froze, and the one at which the converter reached the entry at the front (R214). -/
  trigAt : Nat
  entryAt : Nat
  /-- A trigger fired in INJECT: the new pass starts once the queue is empty (R219). -/
  startPend : Bool
  /-- INJECT was entered from RUN, so that the regular pass is unfinished (R219). -/
  injRun : Bool
  queue : List InjReq
  /-- The instant at which the acquisition of the front request begins (R218, R220). -/
  injAt : Nat
  /-- Targets of the regular trigger before this instant have been dealt with, or fell before it was written or enabled
  (R32, R177). -/
  trigNext : Nat
  /-- Values that entries and coefficients of the pair had as the unfinished pass began, where a write has changed them since
  (R226). -/
  old : List (Nat × Nat)
  /-- Requests on their way from CT or HF (R220). -/
  coming : List InjReq
  /-- Self-test asks for the converter, or gives it back (R237). -/
  offReq : Bool
  backReq : Bool
  deriving DecidableEq, Repr

/-- One logical result: its sum (R224), its filter (R225) and what a write left to take effect (R226, R227): bit 0
INPUT, bit 1 AVG or SHIFT, bit 2 filter. -/
structure ResSt where
  sum : Int
  n : Nat
  sat : Bool
  /-- Filter state: y in 2^−8 steps, or the last two values. -/
  filt : Option (Int × Int)
  settle : Nat
  /-- A change of the input's gain discards the sum at the first conversion sampled from this instant on (R229). -/
  gainCut : Option Nat
  chan : Bool
  mark : Nat
  deriving DecidableEq, Repr

/-- POINT 0 as a host acquired it (R234): sums of 64 codes of the even and the odd converter, VALUE. -/
structure CalZero where
  host : Fin 4
  res : Nat
  even : Nat
  odd : Nat
  value : Int
  deriving DecidableEq, Repr

/-- The calibration of a pair (R231 to R234): the host and the point under acquisition, the POINT 0 that a POINT 1 found as it was
accepted, its restarts. -/
structure CalRun where
  host : Fin 4
  role : Nat
  res : Nat
  point : Nat
  value : Int
  zero : Option CalZero
  restarts : Nat
  deriving DecidableEq, Repr

/-- One pair: calibration with the start of its acquisition (R232), and the reference monitor (R445). -/
structure AdcPair where
  cal : Option CalRun
  calAt : Nat
  refBad : Bool
  refOkAt : Option Nat
  deriving DecidableEq, Repr

/-- A change of an input's gain: the CV clock at which it takes effect, the gain before, and how many of its invalid conversions
are still to come (R226, R227). -/
structure GainChg where
  at_ : Nat
  before : Nat
  left : Nat
  deriving DecidableEq, Repr

/-- The converters. -/
structure AdcAll where
  conv : Vector Adc 12
  pair : Vector AdcPair 6
  /-- Logical results by number; an unlisted one is idle. -/
  res : List (Nat × ResSt)
  /-- Result word and stamp as CT holds them, by number. -/
  ct : List (Nat × Nat)
  /-- By input, the changes of its gain that a conversion still to come can meet, oldest first (R226, R227). -/
  gain : List (Nat × List GainChg)
  zero : List CalZero
  deriving DecidableEq, Repr

/-- One position port beside its objects. -/
structure Pos where
  /-- State as in bits [12:10] of `pos.pP.status`. -/
  st : Nat
  /-- Accepted A/B state (R249) and last valid Hall sector (R251). -/
  a : Bool
  b : Bool
  sector : Option Nat
  /-- Unwrapped count, and whether it is referenced. -/
  count : Int
  refd : Bool
  /-- Consecutive indices with IDX_ERR. -/
  idxErr : Nat
  /-- Speed state of R252 (0 STILL, 1 FIRST, 2 RUN) and its variables; times in ticks. -/
  spd : Nat
  dir : Int
  tRef : Nat
  cRef : Int
  tLast : Nat
  cLast : Int
  tEdge : Nat
  /-- Counts per tick in modes 2 and 3, rpm otherwise. -/
  speed : Rat
  spdOk : Bool
  reason : Nat
  /-- Instants of QERR increments within the last millisecond (R258). -/
  qerrs : List Nat
  /-- Cause of a declaration that waits for the next sample; when a criterion was last met (R258, R259). -/
  fault : Option Nat
  metAt : Nat
  /-- Resolver: excitation on EXC (Hz, peak in 0.1 V) and its last peak; periods passed and failed in a row; the loop's angle within a
  cycle and the whole cycles since the start, its velocity in turns per tick (R244, R254). -/
  exc : Nat × Nat
  excAt : Nat
  okRun : Nat
  badRun : Nat
  rdc : Rat
  cycles : Int
  vel : Rat
  /-- Sampling instants before this one have been dealt with, or fell before the trigger was written or the port started (R32, R177). -/
  trigNext : Nat
  /-- SSI sampling instant under way (R256). -/
  ssiAt : Option Nat
  /-- Last valid frame: angle and instant, its speed known; invalid frames in a row; sync of the last frame; frames of a
  slow-channel message, newest first (R255 to R257). -/
  frame : Option (Nat × Nat)
  frameBad : Nat
  noFrameMs : Nat
  sync : Option Nat
  slow : List (Bool × Bool)
  /-- Sticky bits for the next update of `pos.pP.status` (R248). -/
  sticky : Nat
  /-- Angle word and speed word as CT holds them, and the stamp of each (R246). -/
  wordA : Nat
  wordS : Nat
  wordAt : Nat
  speedAt : Nat
  deriving DecidableEq, Repr

/-- One latch of a probe (R262). -/
structure Latch where
  stamp : Axt
  count : Nat
  angle : Nat
  rising : Bool
  deriving DecidableEq, Repr

/-- An idle logical result. -/
def ResSt.idle : ResSt := { sum := 0, n := 0, sat := false, filt := none, settle := 0, gainCut := none, chan := false, mark := 0 }

/-- A converter after reset. -/
def Adc.reset : Adc :=
  { todo := [], trigAt := 0, entryAt := 0, startPend := false, injRun := false, queue := [], injAt := 0, trigNext := 0, old := [],
    coming := [], offReq := false, backReq := false }

/-- The converters after reset. -/
def AdcAll.reset : AdcAll :=
  { conv := Vector.replicate 12 Adc.reset, pair := Vector.replicate 6 { cal := none, calAt := 0, refBad := false, refOkAt := none },
    res := [], ct := [], gain := [], zero := [] }

/-- A port at the start of a mode: STILL, nothing established (R252, R245). A port in mode 0 or 1 to 5 differs by `st`
and `refd` alone. -/
def Pos.start (st : Nat) (refd : Bool) : Pos :=
  { st, a := false, b := false, sector := none, count := 0, refd, idxErr := 0, spd := 0, dir := 1, tRef := 0, cRef := 0,
    tLast := 0, cLast := 0, tEdge := 0, speed := 0, spdOk := false, reason := 1, qerrs := [], fault := none, metAt := 0,
    exc := (0, 0), excAt := 0, okRun := 0, badRun := 0, rdc := 0, cycles := 0, vel := 0, trigNext := 0, ssiAt := none, frame := none, frameBad := 0, noFrameMs := 0,
    sync := none, slow := [], sticky := 0, wordA := 0, wordS := 0, wordAt := 0, speedAt := 0 }

end Sys2Proof.Machine
end

