-- ==== Sys2Proof/Machine/State.lean ====
section
/-! DEFINITION. The state of the EZ4164 as plain data, the faults and refusals of a step, and the state after reset. -/

namespace Sys2Proof.Machine

/-- Why a step stops with a fault. -/
inductive Fault where
  /-- Raised by a meaning whose operands no line of the hardware can carry (Sys2Proof/WellFormed.lean names the
  checks). Safe: nothing is proved about such a step. -/
  | illFormed (row : String)
  deriving DecidableEq, Repr

/-- Why a step is refused. -/
inductive Refusal where
  /-- The arm of a command that has no meaning yet. Safe: no claim about the command can be proved. -/
  | notModelled (mnemonic : String)
  deriving DecidableEq, Repr

/-- The state of the device. -/
structure State where
  /-- Axle time (R25). -/
  axt : Axt
  /-- The commands that wait, first in, first out. -/
  pending : List Instr
  /-- Object values, sorted by ID; an unlisted ID holds its value after cold reset. -/
  objs : List (Nat × Nat)
  /-- Class N values committed to flash; an unlisted ID holds its value after cold reset (R14). -/
  flash : List (Nat × Nat)
  /-- Class N objects set since the last COMMIT (R76). -/
  dirty : List Nat
  /-- Counter of the free values taken (log 20). -/
  free : Nat
  /-- Instant at which each limited event was last raised, by (code, source, part). -/
  evLast : List ((Nat × Nat × Nat) × Nat)
  /-- What has left the device, newest first. -/
  sent : List Sent
  /-- The AXT followers of SC, HF, NW, SE and CV (R26). -/
  follow : Vector Axt 5
  /-- Per channel of the crossing table, the instants at which the words now in it were written (R29). -/
  xing : Vector (List Nat) 10
  clk : Clk
  hosts : Vector HostPort 4
  disp : Disp
  /-- Events that other islands raised while HF restarts on another image (R520), oldest first. -/
  later : List Evt
  xmem : XMem
  /-- Force vectors of the SC copies A and B (R43). -/
  forceA : Vector Force 40
  forceB : Vector Force 40
  links : Vector Link 40
  cgs : Vector Carrier 8
  trx : Vector Trx 4
  ctx : Vector Ctx 64
  tb : Vector Trace 4
  traceReads : List TraceRead
  dcl : Dcl
  ptg : Ptg
  adc : AdcAll
  pos : Vector Pos 4
  /-- The queues of the probes (R262), oldest first. -/
  prb : Vector (List Latch) 4
  chg : Chg
  aux : Aux
  amc : Vector Amc 6
  rpk : Rpk
  hpn : Hpn
  sec : Sec
  upd : Vector UpdIsl 6
  thm : Thm
  bst : Bst
  patina : Vector Patina 4
  pwr : Pwr
  net : Net
  deriving DecidableEq, Repr

/-- A free slot. -/
def Slot.reset : Slot := { st := .free, mem := [], cmd := [], lost := 0, acceptAxt := 0, doneAxt := 0 }

/-- No sticky bit set. -/
def Sticky.reset : Sticky :=
  { ringErr := false, coll := false, wrIgn := false, dbErr := false, leaseLost := false, hbLapsed := false,
    evtOvf := false }

/-- A host port after cold reset (R55 to R57). -/
def HostPort.reset : HostPort :=
  { slots := Vector.replicate 8 Slot.reset, bells := [],
    ring := Vector.replicate 64 { code := 0, source := 0, stamp := 0, data := 0 }, head := 0, tail := 0, lost := 0,
    dropped := 0, sticky := Sticky.reset, irqEn := 0, quad := false, scratch := 0, xcollAddr := 0, axtHi := 0,
    active := false, renewedAt := 0, lostSent := false }

/-- The dispatcher after cold reset: BOOTING 1, READY 0 (R56). Host 3 counts as served last, so that host 0 is served
first (log 21). -/
def Disp.reset : Disp :=
  { ready := false, booting := true, last := 3, accepted := [], held := [], ended := [],
    limits := Vector.replicate 4 0, safetyAt := 0, safetyActed := false }

/-- A gate link after cold reset. -/
def Link.reset : Link :=
  { st := .off, step := 0, stepAt := 0, wireD := 0, caps := 0, lossAct := 0, mode := 0, fault := 0, sw := 0, temp := 0,
    statAt := 0, echo := none, echoId := 0, echoAt := 0, outliers := 0, resid := 0, seq := 0, edges := [], telMiss := 0,
    reg := none, regQueue := [], planning := false, forceLoss := false, release := 0, relAt := 0, forceAt := 0, lostAt := 0,
    periods := 0, slewRun := Vector.replicate 16 0, slewDone := 0, ctleAt := 0,
    lineEnd := 0, deemph := 0, barred := false, telHf := none, legSw := 0, legAt := 0 }

/-- A carrier group after cold reset. -/
def Carrier.reset : Carrier :=
  { running := false, lfsr := 0, seed := 0, off := [], cum := 0, prev := 0, drawn := 0,
    cfg := { nominal := 0, dither := 0, mode := 0 },
    mode := 0, nextMode := 0, nominal := 0, nextNominal := 0, planned := 0, start := 0, cur := 0, next := 0, valley := 0, half := false, fresh := [],
    last := [], due := [] }

/-- A set after reset: no reference, no loss. -/
def TrxSet.reset : TrxSet :=
  { lossAt := [], eligible := none, period := none, preset := false, rampAt := none, id := 0, iq := 0, idIn := 0,
    iqIn := 0 }

/-- A machine after reset. The SC copies hold ASC until the speed is valid, which acts on a machine of type 1 or 2 alone
(R166). -/
def Trx.reset : Trx :=
  { target := 0, targetD := 0, sentPos := 0, sentNeg := 0, srcPos := 0, srcNeg := 0, envPos := 0, envNeg := 0, out := 0, speedRef := 0,
    idRef := 0, iqRef := 0, reqAt := 0, aged := false, sampledAt := 0, preset := 0, period := none, starts := 0, magAt := 0,
    ascHold := false, ova := false, handover := false, rotor := 0, slip := 0, speed := 0, speedOk := false, ruleA := true, ruleB := true,
    fwAt := none, fwOff := none, fwBound := none, obsOk := none, agree := none, overSafe := false, obsS1 := false,
    sets := Vector.replicate 2 TrxSet.reset }

/-- A context after reset. -/
def Ctx.reset : Ctx :=
  { startAt := none, stopping := false, swapAt := none, run := none, trigNext := 0, integ := Vector.replicate 4 0,
    ePrev := Vector.replicate 4 0, deriv := Vector.replicate 4 0, satDir := Vector.replicate 4 0,
    fbPrev := Vector.replicate 4 0, outc := Vector.replicate 4 0, cap := none, first := true, lastAt := 0, sentAt := 0,
    applied := Vector.replicate 4 0, planned := Vector.replicate 4 0, volts := Vector.replicate 4 0, span := 0, excess := 0, lateRuns := 0, clean := 0, nodes := [], obsPrev := Vector.replicate 2 0, emf := Vector.replicate 2 0, obsAngle := 0, obsRpm := 0, psiR := 0 }

/-- A trace buffer after reset. -/
def Trace.reset : Trace := { runs := 0, prev := none, recs := [], trigAt := none }

/-- The DC link after reset: contactors released, the HVIL loop not yet seen open. -/
def Dcl.reset : Dcl :=
  { v1 := 0, v1At := none, v2 := 0, v2At := none, vLink := 0, vBat := 0, noSrc := false, diffAt := none, step := 0,
    stepAt := 0, stepV := 0, starts := [], ctrPos := false, ctrNeg := false, ctrPre := false, openMode := 0,
    openCause := 0, openAt := 0, posAt := none, hvilPos := 7, hvilDrv := false, hvilOpenRun := Vector.replicate 2 0, hvilOkRun := Vector.replicate 2 0,
    hvilOpen := Vector.replicate 2 false, hvil := false, bmsAt := 0, bmsStale := false, chopIn := false, chopDuty := 0,
    energy := 0, hot := false, fallAt := none, chopHeld := false, belowAt := none, hwCode := 0, hwAt := 0, hwAsc := false }

/-- A copy of SC in BOOT: its pin at the safe level (R424, R425). -/
def PtgCopy.reset : PtgCopy :=
  { words := [], sig := BitVec.allOnes 64, missRun := 0, missed := false, safe := true, close := false, tq := Vector.replicate 4 0,
    trip := Vector.replicate 4 0 }

/-- The Pointing pair after a reset that stops SC (R424), with the settings of R430 after cold reset. -/
def Ptg.reset : Ptg :=
  { a := PtgCopy.reset, b := PtgCopy.reset, ended := none, lastBad := false, matches_ := 0, index := 63,
    splitReq := none, image := false, joinReq := false, joinCmd := false, splitAt := 0, joinWin := 0, joinOk := true,
    cfg := #v[800, 2000, 0, 200, 10] }

/-- Security as the device leaves production, after a cold reset: no maker key, no session, an empty log (log 10). -/
def Sec.reset : Sec :=
  { makerKeys := [], deriveBlocked := false, failAt := Vector.replicate 4 [], verify := Vector.replicate 4 none,
    cmdAt := Vector.replicate 4 0, lcStep := none, idRes := 0, attRes := 0, idMirror := 0, attMirror := 0,
    keysReady := false, keyNew := true, certLeaf := 0, attest := none, staging := [], install := none, bundle := [], makerDefs := [],
    tamperUnack := false, tamperRec := 0, tamperNew := false, hpnKey := none, boots := 0, log := [], queue := [],
    lostRecs := 0 }

/-- The image every island runs after reset (log 11). -/
def Img.reset : Img := { il := 9, minIl := 9, major := 4, minor := 1, patch := 0, secVer := 0, digest := [] }

/-- The slots of an island after reset: bank 0 committed, the spare empty. -/
def UpdIsl.reset : UpdIsl :=
  { bank := 0, committed := Img.reset, running := Img.reset, spare := [], prev := none, op := none, rollback := false }

/-- Temperature after reset. -/
def Thm.reset : Thm :=
  { sensors := Vector.replicate 16 { fast := false, sampledAt := 0, tenths := 0, read := true, valid := true, farAt := none, hot := 0 },
    pause := Vector.replicate 4 0, pauseNet := Vector.replicate 8 0 }

/-- The scheduler and Patina after reset. -/
def Bst.reset : Bst :=
  { cycleAt := none, todo := [], run := none, second := false, byCmd := false, suspect := 0 }
def Patina.reset : Patina := { region := 0, again := false, at_ := 0, ceAt := none }

/-- Supplies after a cold reset: all present, every island starting (R531, R533). -/
def Pwr.reset : Pwr :=
  { vmain := true, vstby := true, vio := Vector.replicate 3 true, keepAlive := false, keepAliveAt := 0,
    boot := [{ cause := 1, islands := 0x7F, classes := 0xF }], entering := none, asleep := false, cycles := 0,
    wake := none, dwellAt := none, holdUntil := none, jobWake := false, record := none, failed := 0, wakePend := none }

/-- The state right after a cold reset. -/
def State.reset : State :=
  { axt := 0, pending := [], objs := [], flash := [], dirty := [], free := 0, evLast := [], sent := [],
    follow := Vector.replicate 5 0, xing := Vector.replicate 10 [],
    clk := { xtal := true, declared := false, lossActive := false, xtalAt := 0, trimAt := Vector.replicate 4 0, trimmed := Vector.replicate 4 true,
             heldIslands := 0 },
    hosts := Vector.replicate 4 HostPort.reset, disp := Disp.reset, later := [],
    xmem := { mem := [], epoch := 0, last := Vector.replicate 2 none, busy := Vector.replicate 2 0 },
    forceA := Vector.replicate 40 .hold, forceB := Vector.replicate 40 .hold,
    links := Vector.replicate 40 Link.reset, cgs := Vector.replicate 8 Carrier.reset,
    trx := Vector.replicate 4 Trx.reset, ctx := Vector.replicate 64 Ctx.reset, tb := Vector.replicate 4 Trace.reset,
    traceReads := [], dcl := Dcl.reset, ptg := Ptg.reset, adc := AdcAll.reset,
    pos := Vector.replicate 4 (Pos.start 0 false), prb := Vector.replicate 4 [], chg := Chg.reset, aux := Aux.reset, amc := Vector.replicate 6 Amc.reset, rpk := Rpk.reset,
    hpn := { up := false, key := [], rxSeq := 0, txSeq := 0, lastAt := 0, resendAt := Vector.replicate 64 0 }, sec := Sec.reset,
    upd := Vector.replicate 6 UpdIsl.reset, thm := Thm.reset, bst := Bst.reset,
    patina := Vector.replicate 4 Patina.reset, pwr := Pwr.reset, net := Net.reset }

end Sys2Proof.Machine
end

