-- ==== Sys2Proof/Machine/Ops.lean ====
section
/-! DEFINITION. The shared operations: the keyed store, byte memory, objects, events, leases, late work and crossings. -/

namespace Sys2Proof.Machine

/-! ### The keyed store: a list sorted by key -/

/-- The value listed for a key. -/
def kGet {β : Type} (l : List (Nat × β)) (k : Nat) : Option β := (l.find? fun p => p.1 == k).map Prod.snd

/-- The list without key `k`. -/
def kDel {β : Type} (l : List (Nat × β)) (k : Nat) : List (Nat × β) := l.filter fun p => p.1 != k

/-- The list with `v` stored for key `k`: between the keys below `k` and the rest. -/
def kPut {β : Type} (l : List (Nat × β)) (k : Nat) (v : β) : List (Nat × β) :=
  (l.takeWhile fun p => p.1 < k) ++ (k, v) :: kDel (l.dropWhile fun p => p.1 < k) k

/-- `v` stored for `k`, where `d` is what an unlisted key reads as: the entry goes when `v` is `d`. -/
def kSet {β : Type} [DecidableEq β] (l : List (Nat × β)) (d : β) (k : Nat) (v : β) : List (Nat × β) :=
  if v = d then kDel l k else kPut l k v

/-! ### Byte memory -/

/-- The byte at an address. -/
def Mem.read (m : Mem) (a : Nat) : Byte := (kGet m a).getD 0

/-- The memory with one byte written. -/
def Mem.write (m : Mem) (a : Nat) (b : Byte) : Mem := kSet m 0 a b

/-- `n` bytes from an address. -/
def Mem.readN (m : Mem) (a n : Nat) : List Byte := (List.range n).map fun i => m.read (a + i)

/-- A byte string written from an address on. -/
def Mem.writeL (m : Mem) (a : Nat) : List Byte → Mem
  | [] => m
  | b :: bs => Mem.writeL (m.write a b) (a + 1) bs

/-- The canonical form: addresses strictly rising, no entry equal to what an unlisted address reads as. -/
abbrev Mem.wf (m : Mem) : Prop := m.Pairwise (fun p q => p.1 < q.1) ∧ ∀ p ∈ m, p.2 ≠ 0

/-- What an unlisted byte of the exchange memory reads as: 0 until its contents have been undefined once (R91; log 8). -/
def XMem.dflt (x : XMem) (a : Nat) : Byte := if x.epoch = 0 then 0 else Config.undefByte x.epoch a

/-- Bytes of the exchange memory read, and a byte string written. -/
def XMem.readN (x : XMem) (a n : Nat) : List Byte := (List.range n).map fun i => (kGet x.mem (a + i)).getD (x.dflt (a + i))
def XMem.writeL (x : XMem) (a : Nat) : List Byte → XMem
  | [] => x
  | b :: bs => XMem.writeL { x with mem := kSet x.mem (x.dflt a) a b } (a + 1) bs

/-- The canonical form of the exchange memory. -/
abbrev XMem.wf (x : XMem) : Prop := x.mem.Pairwise (fun p q => p.1 < q.1) ∧ ∀ p ∈ x.mem, p.2 ≠ x.dflt p.1

/-! ### Objects -/

/-- The value of an object after cold reset; 0 for an ID not assigned. -/
def objDefault (id : Nat) : Nat := match findRow id with
  | some (r, i) => r.dflt i
  | none => 0

namespace State

/-- The value an object holds. -/
def getO (s : State) (id : Nat) : Nat := (kGet s.objs id).getD (objDefault id)

/-- The state with an object's value set. -/
def setO (s : State) (id v : Nat) : State := { s with objs := kSet s.objs (objDefault id) id v }

/-- The value an F32 object holds. -/
def getQ (s : State) (id : Nat) : Rat := f32Val (s.getO id)

/-- The state with an F32 object set to a result. -/
def setQ (s : State) (id : Nat) (q : Rat) : State := s.setO id (f32Of q)

/-- The state with bits of an object set. -/
def orO (s : State) (id m : Nat) : State := s.setO id (s.getO id ||| m)

/-- The state with bits of an object cleared. -/
def clrO (s : State) (id m : Nat) : State := s.setO id (s.getO id - (s.getO id &&& m))

/-- Bit `k` of an object. -/
def bitO (s : State) (id k : Nat) : Bool := (s.getO id).testBit k

/-- A counter object raised by one, saturating at `top`. -/
def incSat (s : State) (id top : Nat) : State := s.setO id (min (s.getO id + 1) top)

/-- A counter object raised by one, modulo `m`. -/
def incMod (s : State) (id m : Nat) : State := s.setO id ((s.getO id + 1) % m)

/-- Axle time as a number. -/
def now (s : State) : Nat := s.axt.toNat

/-- A function applied when a condition holds. -/
def when (s : State) (c : Bool) (f : State → State) : State := if c then f s else s

/-- A follower one tick later: CT's count at each multiple of 1,024 ticks, else its own clock's count within the bound of
R26; it never steps back (R25; log 12). -/
def followNext (i : Fin 5) (old at_ : Axt) : Axt :=
  let b : Int := if i = 4 then 4 else 16
  let new := if at_.toNat % 1024 = 0 then at_ else at_ + BitVec.ofInt 64 (clampI (Config.followerSkew i at_.toNat) (-b) b)
  if old.toNat ≤ new.toNat then new else old

/-- What passes on an idle step: one tick of axle time, or, while CT is stopped in PARK or SEALED, one cycle of the
Plinth oscillator; nothing counts while VSTBY is lost (R26, R27; log 1). -/
def tick (s : State) : State :=
  if s.pwr.asleep then { s with pwr := { s.pwr with cycles := s.pwr.cycles + 1 } }
  else if s.pwr.vstby = false then s
  else { s with axt := s.axt + 1, follow := Vector.ofFn fun i : Fin 5 => followNext i s.follow[i] (s.axt + 1) }

/-- Axle time set anew, as a stopped CT starts again: every follower takes the count (R27). -/
def setAxt (s : State) (t : Axt) : State := { s with axt := t, follow := Vector.replicate 5 t }

/-- A fresh free value (log 20). -/
def takeFree (s : State) : State := { s with free := s.free + 1 }

end State

/-! ### Pauses (R438) -/

/-- The thermal state throttles (R436, R438). -/
def State.throttled (s : State) : Bool := s.getO O.thmState == 2

/-- An operation of a paused class has ended: the next one starts no earlier than its pause later (R438). -/
def State.pauseFrom (s : State) (i : Fin 4) (ticks : Nat) : State :=
  if s.throttled then { s with thm := { s.thm with pause := s.thm.pause.set i (s.now + ticks) } } else s

/-! ### Function groups (R77) -/

/-- The group of a gate link (R94). -/
def linkGroup (l : Nat) : Nat := if l < 24 then l / 6 else if l < 31 then 5 else if l = 31 then 4 else 7

/-- The group of a carrier group (R125). -/
def cgGroup (g : Nat) : Nat := if g < 4 then g else if g < 6 then 5 else if g = 6 then 4 else 7

/-- The carrier group of a gate link (R125). -/
def linkCg (l : Nat) : Nat := if l < 24 then l / 6 else if l < 27 then 4 else if l < 31 then 5 else if l = 31 then 6 else 7

/-- The group of a loop context (R174, R207). -/
def ctxGroup (c : Nat) : Nat :=
  if c < 8 then c / 2 else if c < 12 then c - 8 else if c < 16 then c - 12 else if c < 22 then 5
  else if c < 31 then 7 else if c < 36 then 8 else if c = 36 then 9 else if c = 37 then 6 else 12

/-- The group an object names in a U8 object: none for 0xFF. -/
def groupObj (v : Nat) : Option Nat := if v = 0xFF then none else some v

namespace State

/-- The group of a converter pair (R210). -/
def pairGroup (s : State) (p : Nat) : Option Nat := groupObj (s.getO (O.adcPGroup p))

/-- The group of a position port (R245). -/
def portGroup (s : State) (p : Nat) : Option Nat := groupObj (s.getO (O.posGroup p))

/-- The port a probe is bound to (R264). -/
def probePort (s : State) (n : Nat) : Nat := bitsOf (s.getO (O.posPrbCfg n)) 3 2

/-- The function group of an object: its row and the instance (R77). -/
def objGroup (s : State) (r : ObjRow) (i : Nat) : Option Nat :=
  match r.grp with
  | .none => none
  | .fixed g => some g
  | .link => some (linkGroup i)
  | .cg => some (cgGroup i)
  | .trx => some i
  | .ctx => some (ctxGroup i)
  | .tr => some (ctxGroup (s.getO (O.lpeTrContext i)))
  | .adcConv => s.pairGroup (i / 2)
  | .adcPair => s.pairGroup i
  | .adcRes => s.pairGroup (i / 64)
  | .adcAin => s.pairGroup (i / 16)
  | .posPort => s.portGroup i
  | .prb => s.portGroup (s.probePort i)
  | .amc => some (if i = 5 then 9 else 8)

/-! ### Events -/

/-- The class bit of an event's mask (R73). -/
def classBit (s : State) (code source : Nat) : Nat :=
  if code < 0x0200 then 16
  else if code < 0x0260 then 17
  else if code < 0x0300 then 18
  else if code < 0x0380 then linkGroup (source - 0x3040)
  else if code < 0x0390 then (source - 0x3800) / 0x100
  else if code < 0x0400 then 4
  else if code < 0x0500 then
    if source < 0x4400 then ctxGroup ((source - 0x4000) / 0x10)
    else ctxGroup (s.getO (O.lpeTrContext ((source - 0x4480) / 0x10)))
  else if code < 0x0510 then (s.pairGroup ((source - 0x4800) / 0x20)).getD 16
  else if code < 0x0600 then
    if source < 0x5100 then (s.portGroup ((source - 0x5000) / 0x40)).getD 16
    else (s.portGroup (s.probePort ((source - 0x5100) / 0x10))).getD 16
  else if code < 0x0610 then 5
  else if code < 0x0700 then 6
  else if code < 0x0710 then 7
  else if code < 0x0712 then (if source = 0x6940 then 9 else 8)
  else if code < 0x0800 then 9
  else if code < 0x0820 then 13
  else if code < 0x0900 then 16
  else if code < 0x0A00 then 10
  else if code < 0x0A10 then 19
  else 20

end State

/-- The ring is full (R70). -/
def HostPort.full (p : HostPort) : Bool := (p.head + 128 - p.tail) % 128 == 64

/-- Entries free in the ring. -/
def HostPort.room (p : HostPort) : Nat := 64 - (p.head + 128 - p.tail) % 128

/-- One entry written at EVT_HEAD (R70). -/
def HostPort.write (p : HostPort) (e : Evt) : HostPort :=
  { p with ring := p.ring.set (p.head % 64) e (Nat.mod_lt _ (by decide)), head := (p.head + 1) % 128 }

/-- `n` entries dropped on a full ring (R71). -/
def HostPort.drop (p : HostPort) (n : Nat) : HostPort :=
  { p with lost := min (p.lost + n) 0xFFFF, dropped := p.dropped + n, sticky := { p.sticky with evtOvf := true } }

/-- One event posted to a ring, or dropped when it is full (R71). -/
def HostPort.post (p : HostPort) (e : Evt) : HostPort := if p.full then p.drop 1 else p.write e

/-- EV_EVT_OVERFLOW, written as soon as an entry is free (R71). -/
def HostPort.settle (p : HostPort) (stamp : Axt) : HostPort :=
  if p.dropped ≠ 0 ∧ p.full = false then { p.write { code := 0x0056, source := 0, stamp, data := p.dropped } with dropped := 0 }
  else p

/-- Two entries posted only together (R71, R584). -/
def HostPort.post2 (p : HostPort) (e f : Evt) : HostPort :=
  if p.room < 2 then (p.drop 2).settle e.stamp else (p.write e).write f

/-- An event lost before it reached the ring counts in EVT_LOST (R520). -/
def HostPort.miss (p : HostPort) : HostPort := { p with lost := min (p.lost + 1) 0xFFFF }

/-- The island that raises the events of a source, by its index of R509: the one that runs the chapter's work (R20). -/
def evIsland (source : Nat) : Nat :=
  if source < 0x1400 then 4 else if source < 0x1800 then 1 else if source < 0x2000 then 0 else if source < 0x3000 then 5
  else if source < 0x4800 then 2 else if source < 0x5800 then 3 else if source < 0x6800 then 2 else if source < 0x7000 then 3
  else if source < 0x7800 then 1 else 4

/-- The bytes of a ring entry (R70). -/
def Evt.bytes (e : Evt) : List Byte := toLe 2 e.code ++ toLe 2 e.source ++ toLe 8 e.stamp.toNat ++ toLe 4 e.data

namespace State

/-- What leaves the device. -/
def send (s : State) (x : Sent) : State := { s with sent := x :: s.sent }

/-- A record of the HPN channel to its UDP port: TYPE, SLOT, LEN, SEQ, body and TAG (R86, R502); nothing while no channel is
set up. -/
def sendHpn (s : State) (kind slot : Nat) (body : List Byte) : State :=
  if s.hpn.up then
    let hd := toLe 1 kind ++ toLe 1 slot ++ toLe 2 body.length ++ toLe 4 (s.hpn.txSeq + 1) ++ body
    { s with hpn := { s.hpn with txSeq := s.hpn.txSeq + 1 } }.send
      (.hpn (s.getO O.sysHostHpnPort) kind (hd ++ Config.kmac256 s.hpn.key hd 32 "EZ HPN REC"))
  else s

/-- The stamp an island gives now: its AXT follower's count, CT's own count in CT; the Plinth has no follower and gives no
stamp while CT runs (R26). -/
def followerStamp (s : State) : Island → Axt
  | .sc => s.follow[0]
  | .hf => s.follow[1]
  | .nw => s.follow[2]
  | .se => s.follow[3]
  | .cv => s.follow[4]
  | .ct => s.axt
  | .pl => s.axt

/-- An EVENT record of the entry at place `i` of HPN's ring, whose repetition counts from now (R86, R87). -/
def hpnEvent (s : State) (i : Nat) : State :=
  if h : i < 64 then
    ({ s with hpn := { s.hpn with resendAt := s.hpn.resendAt.set i s.now } } : State).sendHpn 4 0 (s.hosts[3].ring[i]).bytes
  else s

/-- An EVENT record for every entry written to HPN's ring since its head stood at `old`; a dropped event has none (R86). -/
def hpnNew (s : State) (old : Nat) : State :=
  (List.range ((s.hosts[3].head + 128 - old) % 128)).foldl (fun (s : State) i => s.hpnEvent ((old + i) % 64)) s

/-- What each host's port makes of an event, with the EVENT records that HPN gets for it. -/
def onPorts (s : State) (f : Fin 4 → HostPort → HostPort) : State :=
  ({ s with hosts := Vector.ofFn fun h : Fin 4 => f h s.hosts[h] } : State).hpnNew s.hosts[3].head

/-- An entry stamped by HF. -/
def evt (s : State) (code source data : Nat) : Evt := { code, source, stamp := s.followerStamp .hf, data }

/-- The state with host `h` changed. -/
def modHost (s : State) (h : Fin 4) (f : HostPort → HostPort) : State :=
  { s with hosts := s.hosts.set h (f s.hosts[h]) }

/-- The state with the dispatcher changed. -/
def modDisp (s : State) (f : Disp → Disp) : State := { s with disp := f s.disp }

/-- The state with slot `k` of host `h` changed. -/
def modSlot (s : State) (h : Fin 4) (k : Fin 8) (f : Slot → Slot) : State :=
  s.modHost h fun p => { p with slots := p.slots.set k (f p.slots[k]) }

/-- An event to one host's ring, whatever its mask. -/
def postTo (s : State) (h : Fin 4) (code data : Nat) : State :=
  s.onPorts fun j p => if j = h then p.post (s.evt code 0 data) else p

/-- HF restarts on another image (R520). -/
def hfAway (s : State) : Bool := s.getO (O.updState 4) == 3

/-- What each ring whose mask bit is set makes of an event (R72). -/
def onMasked (s : State) (e : Evt) (f : HostPort → HostPort) : State :=
  s.onPorts fun h p => if (s.getO (O.sysHostEvtMask h)).testBit (s.classBit e.code e.source) then f p else p

/-- An event posted to every ring whose mask bit is set (R72). -/
def postEvt (s : State) (e : Evt) : State := s.onMasked e fun p => p.post e

/-- An event while HF restarts: held, up to 16 per island, and counted as lost beyond (R520). -/
def postLater (s : State) (e : Evt) : State :=
  if (s.later.filter fun (x : Evt) => evIsland x.source == evIsland e.source).length < 16 then { s with later := s.later ++ [e] }
  else s.onMasked e HostPort.miss

/-- An event to every ring whose mask bit is set (R72), at once or after HF's restart (R520). -/
def postMasked (s : State) (code source data : Nat) : State :=
  if s.hfAway then s.postLater (s.evt code source data) else s.postEvt (s.evt code source data)

/-- An event that ignores the mask, to every host whose port has been active since its last HOST reset (R72). -/
def postActive (s : State) (code data : Nat) : State :=
  s.onPorts fun _ p => if p.active then p.post (s.evt code 0 data) else p

/-- An event placed in every ring (R537). -/
def postAll (s : State) (code source data : Nat) : State := s.onPorts fun _ p => p.post (s.evt code source data)

/-- Whether an event of this key may be raised: none of the key in the last millisecond of axle time (log 9). -/
def evFresh (s : State) (key : Nat × Nat × Nat) : Bool :=
  match s.evLast.find? fun p => p.1 == key with
  | some p => p.2 + msTicks ≤ s.now
  | none => true

/-- An event raised at most once per key and millisecond of axle time; `part` splits a source (a set, a bit). -/
def raise (s : State) (code source data : Nat) (part : Nat := 0) : State :=
  if s.evFresh (code, source, part) then
    { s with evLast := ((code, source, part), s.now) :: s.evLast.filter fun p => p.1 != (code, source, part) }
      |>.postMasked code source data
  else s

/-! ### Late work and crossings -/

/-- A late piece of work: its bit of sys.late.flags, and EV_LATE at most once per consumer and millisecond (R34 to R40,
R49, R50). `who` tells the consumers of one class and source apart. The model's choice of what counts as one consumer: each
context, each machine's timed request, each converter and each carrier group (log 102). -/
def raiseLate (s : State) (bit source deadline : Nat) (who : Nat := 0) : State :=
  (s.orO O.sysLateFlags (2 ^ bit)).raise 0x0043 source (bit + (deadline % 2 ^ 24) * 256) (bit + 8 * who)

/-- A word dropped on crossing `n` (R30, R31). -/
def xingDrop (s : State) (n : Nat) : State := (s.orO O.sysXingDropFlags (2 ^ n)).postMasked 0x0042 0 n

/-- Depth in words and latency bound in ticks of a data channel of the crossing table; a depth of 0 for the others (R29). -/
def xingDepth (n : Fin 10) : Nat := #v[128, 0, 256, 1024, 64, 64, 0, 512, 128, 0][n]
def xingBound (n : Fin 10) : Nat := #v[32, 16, 48, 64, 40, 40, 12, 64, 80, 0][n]

/-- The words a channel holds now: each stays until its latency bound (R29; log 103). -/
def xingHeld (s : State) (n : Fin 10) : List Nat := (s.xing[n]).filter fun t => decide (s.now < t + xingBound n)

/-- A data channel is full (R30). -/
def xingFull (s : State) (n : Fin 10) : Bool := decide (xingDepth n ≤ (s.xingHeld n).length)

/-- A word that CT or CV writes to a data channel: it crosses and `f` takes it, or it is dropped (R30). -/
def xingSend (s : State) (n : Fin 10) (f : State → State) : State :=
  if s.xingFull n then s.xingDrop n else f { s with xing := s.xing.set n (s.now :: s.xingHeld n) }

/-! ### Leases (R77 to R82) -/

/-- The owner of a group; none for 0xF. -/
def owner (s : State) (g : Nat) : Option (Fin 4) :=
  let v := bitsOf (s.getO O.sysHostLeaseOwner) (4 * g + 3) (4 * g)
  if h : v < 4 then some ⟨v, h⟩ else none

/-- The owner field of a group written. -/
def setOwner (s : State) (g v : Nat) : State :=
  s.setO O.sysHostLeaseOwner (putBits (s.getO O.sysHostLeaseOwner) (4 * g + 3) (4 * g) v)

/-- The override of a group: 0 none, 1 LIMIT, 2 STOP, 3 SAFE (R84). -/
def override (s : State) (g : Nat) : Nat := bitsOf (s.getO O.sysHostOverride) (2 * g + 1) (2 * g)

/-- A pending request ends with a final status; its EV_CMD_DONE follows with the row COMMAND_COMPLETE (R69). -/
def endHeld (s : State) (p : Held) (status : Nat) (reason : Option (Nat × Nat)) : State :=
  if p.orphan then s
  else { s with disp := { s.disp with
    ended := s.disp.ended ++ [{ host := p.host, code := p.code, tag := p.tag, status, reason }] } }

/-- Every held request of a kind ends with a status. -/
def endAll (s : State) (sel : Held → Bool) (status : Nat) (reason : Option (Nat × Nat) := none) : State :=
  (s.disp.held.filter sel).foldl (fun s p => s.endHeld p status reason)
    { s with disp := { s.disp with held := s.disp.held.filter fun p => !sel p } }

/-- A lease ends with a cause: LEASE_LOST and EV_LEASE_LOST (R80), the former owner's held requests of the group are
withdrawn and its POSTED slots marked (R82). `post` is false at a HOST reset, which posts nothing for them (R92). -/
def endLease (s : State) (g : Nat) (cause : Nat) (post : Bool := true) : State :=
  match s.owner g with
  | none => s
  | some h =>
    let s := s.setOwner g 0xF
    let s := s.modHost h fun p => { p with
      sticky := { p.sticky with leaseLost := true },
      slots := p.slots.map fun sl => if sl.st = .posted then { sl with lost := sl.lost ||| 2 ^ g } else sl }
    let s := s.postActive 0x0052 (cause * 65536 + h.val * 256 + g)
    let s := { s with disp := { s.disp with accepted := s.disp.accepted.map fun c =>
      if c.host = h then { c with kept := c.kept ||| 2 ^ g } else c } }
    if post then s.endAll (fun p => p.waiting && p.host == h && (p.group == some g || p.others.contains g)) St.notOwner else s

/-- A renewal of a host's leases and presence (R80, R85). -/
def renew (s : State) (h : Fin 4) : State :=
  let s := (s.modHost h fun p => { p with renewedAt := s.now, lostSent := false }).orO O.sysHostPresent (2 ^ h.val)
  if s.getO O.sysHostSafetyHost = h.val then
    { s with disp := { s.disp with safetyAt := s.now, safetyActed := false } }
  else s

end State

end Sys2Proof.Machine
end

