-- ==== Sys2Proof/Machine/SecOps.lean ====
section
/-! DEFINITION. Roles and sessions (R481 to R485), the audit log (R503, R504) and the flash-writing window (R440) as
operations that every chapter uses. -/

namespace Sys2Proof.Machine

/-- The bytes of an audit record that its CHAIN covers: bytes 0 to 47 (R503). -/
def AuditRec.bytes (r : AuditRec) : List Byte :=
  toLe 4 r.seq ++ toLe 4 r.boot ++ toLe 8 r.stamp.toNat ++ toLe 1 r.kind ++ toLe 1 r.host ++ toLe 1 r.role ++
  toLe 1 r.lc ++ toLe 2 r.obj ++ toLe 1 r.status ++ toLe 1 0 ++ toLe 8 r.old ++ toLe 8 r.new ++ toLe 4 r.ref ++ toLe 4 0

/-- OLD or NEW of a record: the value, or for a larger object the first 8 bytes of its SHAKE256 (R503). -/
def auditValue (size v : Nat) : Nat := if size ≤ 8 then v else leNat ((Config.shake256 (toLe size v) 8).take 8)

namespace State

/-- The junction is inside the flash-writing window (R440). -/
def flashOk (s : State) : Bool := !(s.bitO O.thmFlags 14)

/-- A flash write refused by the window: FLASH_REFUSED and EV_THM_FLASH (R440). -/
def flashRefuse (s : State) : State :=
  (s.orO O.thmFlags 8).raise 0x0263 0x1400 (ofSigned 16 (truncZ (s.getQ O.thmJunction * 10)) * 65536)

/-- A flash operation waits out the pause of its class, which counts from the end of the one before it (R438). -/
def flashPaused (s : State) : Bool := s.throttled && decide (s.now < s.thm.pause[2])
def flashPause (s : State) : State := s.pauseFrom 2 (s.getO O.thmPauseFlash * msTicks)

/-- SE restarts: its work returns ST_BUSY (R519), and audit records queue. -/
def seBusy (s : State) : Bool := s.getO (O.updState 0) == 3

/-- The life-cycle state (R488). -/
def lc (s : State) : Nat := s.getO O.secLc

/-- The role field of a host's session, 0 none. -/
def session (s : State) (h : Nat) : Nat := bitsOf (s.getO O.secSession) (2 * h + 1) (2 * h)

/-- The role a host's commands run under: OPERATOR without a session (R482). -/
def roleOf (s : State) (h : Nat) : Nat := max (s.session h) 1

/-- One record written to the ring in flash and chained (R503). -/
def logWrite (s : State) (r : AuditRec) : State :=
  let r := { r with seq := s.getO O.logHead + 1 }
  let chain := Config.shake256 (toLe 16 (s.getO O.logChain) ++ r.bytes) 16
  let r := { r with chain := chain.take 16 }
  let s := (s.setO O.logHead r.seq).setO O.logChain (leNat r.chain)
  let s := s.setO O.logCount (min (s.getO O.logCount + 1) 4096)
  { s with sec := { s.sec with log := (r :: s.sec.log).take 4096 } }

/-- A record can be written now: inside the window, outside a pause, with SE running (R438, R440, R519). -/
def recordNow (s : State) : Bool := s.flashOk && !s.flashPaused && !s.seBusy

/-- A further record finds the queue of R504 full. -/
def auditFull (s : State) : Bool := !s.recordNow && s.sec.queue.length ≥ 32

/-- A record of a change or security event: written, or queued while it cannot be; a record that finds the queue full counts as lost
(R438, R503, R504). -/
def audit (s : State) (kind host role obj status old new ref : Nat) : State :=
  let r : AuditRec := { seq := 0, boot := s.sec.boots, stamp := s.axt, kind, host, role, lc := s.lc, obj, status, old,
                        new, ref, chain := [] }
  if s.recordNow then (s.logWrite r).flashPause
  else if s.sec.queue.length < 32 then
    ({ s with sec := { s.sec with queue := s.sec.queue ++ [r] } }.setO O.logQueued (s.sec.queue.length + 1)).raise
      0x0A05 0x1800 1
  else s.raise 0x0A05 0x1800 2

/-- The change of a class N or K object recorded (R503); an unchanged value is no change. -/
def auditObj (s : State) (host role id size old new : Nat) : State :=
  if old = new then s else s.audit 1 host role id 0 (auditValue size old) (auditValue size new) 0

/-- The session field of a host set. -/
def setSession (s : State) (h role : Nat) : State :=
  s.setO O.secSession (putBits (s.getO O.secSession) (2 * h + 1) (2 * h) role)

/-- A session ends with a cause: the host is OPERATOR again, EV_SEC_SESSION and an audit record follow (R485, R503);
nothing where the host has no session. -/
def endSession (s : State) (h cause : Nat) : State :=
  if s.session h = 0 then s
  else ((s.setSession h 0).raise 0x0A00 0x1800 (cause * 65536 + s.session h * 256 + h)).audit
    4 h (s.session h) 0 cause 0 0 0

/-- A key event: EV_SEC_KEY with its cause, and the audit record every key event leaves (R495, R498, R503, R508). -/
def keyEvent (s : State) (what cause : Nat) : State :=
  (s.raise 0x0A03 0x1800 (what * 256 + cause)).audit 10 0xFF 0 0 cause 0 0 what

/-- The identity key has no leaf left (R498). -/
def idExhausted (s : State) : Bool := 2 ^ 20 ≤ s.getO O.secIdNext

/-- The Mordant store is FAILED (R455). -/
def mordantFailed (s : State) : Bool := s.bitO (O.memStatus 3) 4

/-- The Mordant store wiped for a cause: seeds and hpn_key gone, FAILED where a word does not read back, the cause
counted, EV_MORDANT_WIPE and an audit record (R455, R503). -/
def mordantWipe (s : State) (cause : Nat) : State :=
  let fails := Config.wipeFails s.free
  let s := { s.takeFree with sec := { s.sec with hpnKey := none, keysReady := false } }
  let s := s.when fails fun s => s.orO (O.memStatus 3) 0x10
  let s := s.setO O.memWipeCause (cause * 2 ^ 24 + min (bitsOf (s.getO O.memWipeCause) 15 0 + 1) 0xFFFF)
  (s.raise 0x0822 0x7844 (s.getO O.memWipeCause)).audit 7 0xFF 0 0 cause 0 0 cause

/-- The attestation key is to be renewed: epoch advanced, its leaves start anew, its seed is to be derived (R498). -/
def attRenew (s : State) : State :=
  { s with sec := { s.sec with attRes := 0, attMirror := 0, keysReady := false, keyNew := true } }
    |>.setO O.secAttNext 0 |>.setO O.secAttEpoch (s.getO O.secAttEpoch + 1)

/-- The row of an assigned ID: an object of this manual, or a maker object of the installed bundle (R13, R500). -/
def rowOf (s : State) (id : Nat) : Option (ObjRow × Nat) :=
  if id < 0x8000 then findRow id
  else if id < 0x9000 then
    (s.sec.makerDefs.find? fun d => d.id == id).map fun d =>
      ({ base := id, num := 1, stride := 1, ty := d.ty, acc := d.acc, roles := d.roles, ret := d.ret, rng := .any,
         grp := .none, dflt := fun _ => d.dflt }, 0)
  else none

/-- The interface level an island runs (R511, R526). -/
def ilOf (s : State) (i : Nat) : Nat := bitsOf (s.getO (O.updRunning i)) 7 0

/-- The islands that a group uses (R517), by index of R509, ascending; SE joins for 0x18xx objects and 0x0Axx
commands. -/
def groupIslands (g : Option Nat) (se : Bool) : List Nat :=
  match g with
  | some g => if g ≤ 4 then [1, 2, 3, 4] else if g = 5 ∨ g = 7 then [2, 3, 4]
    else if g = 6 ∨ g = 8 ∨ g = 9 ∨ g = 13 then [1, 3, 4] else if g = 10 then [4, 5] else if g = 11 then [0, 4]
    else [2, 4]
  | none => if se then [0, 4] else [4]

/-- The island of the group that runs below the interface level needed, IL 9 for everything of this manual (R1, R517;
log 23). -/
def ilShort (s : State) (g : Option Nat) (se : Bool) : Option Nat := (groupIslands g se).find? fun i => s.ilOf i < 9

end State

end Sys2Proof.Machine
end

