-- ==== Sys2Proof/Machine/Mailbox.lean ====
section
/-! DEFINITION. How a mailbox command runs: checks in the order of R19, the response frame (R60, R63), completion at
once or pending (R69), the events that report it (R62, R584). -/

namespace Sys2Proof.Machine

/-- What a command answers. -/
structure Reply where
  status : Nat
  payload : List Byte
  reason : Option (Nat × Nat)

/-- ST_OK with a payload. -/
def Reply.ok (payload : List Byte := []) : Reply := { status := St.ok, payload, reason := none }

/-- ST_PENDING (R69). -/
def Reply.pending : Reply := { status := St.pending, payload := [], reason := none }

/-- A status without REASON. -/
def Reply.bare (status : Nat) : Reply := { status, payload := [], reason := none }

/-- A status with REASON and ARG (R63). -/
def Reply.err (status reason : Nat) (arg : Nat := 0) : Reply :=
  { status, payload := [], reason := some (reason, arg) }

/-- One check of a command: the condition under which it fails, and what it then answers. -/
structure Chk where
  bad : Bool
  reply : Reply

/-- The answer of the first check that fails, in the order of the list (R19). -/
def firstBad (l : List Chk) : Option Reply := (l.find? fun c => c.bad).map (·.reply)

/-- Checks put into the order of R19 by the status they answer. -/
def byRank (l : List Chk) : List Chk := (List.range 14).flatMap fun r => l.filter fun c => statusRank c.reply.status == r

/-- The payload's length differs from the one required. -/
def chkLen (c : Cmd) (n : Nat) : Chk := ⟨c.payload.length != n, .bare St.badLen⟩

/-- A check that answers a bare status. -/
def chk (bad : Bool) (status : Nat) : Chk := ⟨bad, .bare status⟩

/-- A check that answers a status with REASON and ARG. -/
def chkR (bad : Bool) (status reason : Nat) (arg : Nat := 0) : Chk := ⟨bad, .err status reason arg⟩

/-- The reserved bytes from `off` on are not all 0 (R583). -/
def chkZero (c : Cmd) (off n : Nat) : Chk := ⟨fieldAt c.payload off n != 0, .bare St.range⟩

/-- Whether a command runs as the owner of a group: its host owns it, or owned it at acceptance, and has not lost it
while the slot was POSTED (R78, R82). -/
def State.owns (s : State) (c : Cmd) (g : Nat) : Bool :=
  (bitsOf (s.getO O.sysHostLeaseOwner) (4 * g + 3) (4 * g) == c.host.val || c.kept.testBit g) && !c.lost.testBit g

/-- The host does not own the group: ST_NOT_OWNER, REASON 0x0001, ARG group and present owner (R63, R78). -/
def chkOwn (s : State) (c : Cmd) (g : Nat) : Chk :=
  ⟨!s.owns c g, .err St.notOwner 0x0001 (g + 256 * bitsOf (s.getO O.sysHostLeaseOwner) (4 * g + 3) (4 * g))⟩

/-- As `chkOwn` for an optional group. -/
def chkOwn? (s : State) (c : Cmd) (g : Option Nat) : Chk :=
  match g with
  | some g => chkOwn s c g
  | none => ⟨false, .bare St.ok⟩

/-- The role a command runs under: its host's session, or the session its host had before a HOST reset (R92, R482). -/
def State.roleFor (s : State) (c : Cmd) : Nat := c.role.getD (s.roleOf c.host)

/-- The host's role is below the least role (R486). -/
def chkRole (s : State) (c : Cmd) (least : Nat) : Chk := chk (s.roleFor c < least) St.denied

/-- The life-cycle state refuses the command (R489): `power` and `tetas` commands in VENDOR and RETIRED, in RETIRED
every command not excepted. -/
def chkLc (s : State) (power tetas : Bool) (always : Bool := false) : Chk :=
  chkR ((s.lc == 4 && !always) || (s.lc == 0 && (power || tetas))) St.locked 0x01A8 s.lc

/-- An island of the command's group runs below the interface level needed (R517). -/
def chkIl (s : State) (g : Option Nat) (se : Bool := false) : Chk :=
  match s.ilShort g se with
  | some i => chkR true St.state 0x01BC (i * 256 + 9)
  | none => chk false St.ok

/-- A group's override forbids what exceeds it (R84): REASON 0x0003, ARG the group. -/
def chkOverride (s : State) (g : Nat) (least : Nat := 1) : Chk :=
  chkR (least ≤ s.override g) St.refused 0x0003 g

/-- The host is not the safety host (R83, R423, R426). -/
def chkSafety (s : State) (c : Cmd) (named : Bool) : Chk :=
  let h := s.getO O.sysHostSafetyHost
  chkR (h != c.host.val && !(named && h == 0xFF)) St.denied 0x0004 h

/-- The bytes of a response frame (R60, R63). -/
def respFrame (code tag : Nat) (r : Reply) : List Byte :=
  let pl := if isError r.status then
      (match r.reason with | some (a, b) => toLe 2 a ++ toLe 2 b | none => [])
    else r.payload
  let b := toLe 2 code ++ toLe 1 tag ++ toLe 1 r.status ++ toLe 2 pl.length ++ toLe 2 0 ++ pl
  b ++ toLe 4 (crc32c b)

namespace State

/-- EV_CMD_DONE, with EV_CMD_REASON directly after it where there is a REASON (R69, R93, R584). -/
def postDone (s : State) (h : Fin 4) (code tag status : Nat) (reason : Option (Nat × Nat)) : State :=
  let e := s.evt 0x0050 0 (status * 2 ^ 24 + tag * 65536 + code)
  match reason with
  | none => s.postTo h 0x0050 e.data
  | some (r, a) => s.onPorts fun j p => if j = h then p.post2 e (s.evt 0x0057 0 (r % 65536 * 65536 + a % 65536)) else p

/-- The response written over the slot: DONE_AXT, DONE, and with it the slot's bit of COMPL (R65); HPN gets a RESPONSE
record (R86). -/
def writeResponse (s : State) (h : Fin 4) (k : Fin 8) (frame : List Byte) : State :=
  let s := s.modSlot h k fun x => { x with st := .done, mem := x.mem.writeL 0 frame, doneAxt := s.followerStamp .hf }
  s.when (h == 3) fun s =>
    s.sendHpn 2 k ((toLe 8 s.hosts[h].slots[k].acceptAxt.toNat) ++ toLe 8 s.hosts[h].slots[k].doneAxt.toNat ++ frame)

/-- The end of a command starts the pause of R438; HPC's commands and SAFETY_OVERRIDE are exempt. -/
def cmdPause (s : State) (c : Cmd) : State :=
  s.when (!(c.host == 2 || c.code == 0x0130)) fun t => t.pauseFrom 0 (t.getO O.thmPauseCmd * usTicks)

/-- A command ends in its slot: the response, and EV_CMD_DONE where EVT_DONE asks for it and the command is complete
(R62, R65, R69). After a HOST reset nothing is written for it (R92). -/
def respond (s : State) (c : Cmd) (r : Reply) : State :=
  (if c.orphan then s
   else
    let s := s.writeResponse c.host c.slot (respFrame c.code c.tag r)
    s.when (c.flags.testBit 0 && !(r.status == St.pending || r.status == St.deferred)) fun s =>
      s.postDone c.host c.code c.tag r.status (if isError r.status then r.reason else none)).cmdPause c

/-- A request noted as held pending under its command (R69); `waiting` where it waits for its condition. -/
def hold (s : State) (c : Cmd) (group : Option Nat) (arg : List Nat) (waiting : Bool := false) (others : List Nat := []) : State :=
  { s with disp := { s.disp with held := s.disp.held ++
    [{ host := c.host, code := c.code, tag := c.tag, group, others, arg, waiting, orphan := c.orphan }] } }

/-- Held requests that no longer wait: they are under way. -/
def underWay (s : State) (sel : Held → Bool) : State :=
  s.modDisp fun d => { d with held := d.held.map fun (p : Held) => if sel p then { p with waiting := false } else p }

/-! ### The order of commands (R66) -/

/-- The groups whose lease a write of a value to an object needs (R77, R134, R210, R245). -/
def objGroups (s : State) (r : ObjRow) (i id v : Nat) : List Nat :=
  let old := s.getO id
  if r.base = 0x48C0 ∨ r.base = 0x5001 then [old, v].filter (· != 0xFF)
  else if r.base = 0x3000 then (((List.range 40).filter fun l => old.testBit l != v.testBit l).map linkGroup).eraseDups
  else (s.objGroup r i).toList

/-- As `objGroups` for an ID. -/
def idGroups (s : State) (id v : Nat) : List Nat := match s.rowOf id with
  | some (r, i) => s.objGroups r i id v
  | none => []

/-- The groups of the writes in a batch. -/
def batchGroups (s : State) : Nat → List Byte → List Nat
  | 0, _ => []
  | n + 1, b =>
    let size := fieldAt b 2 2
    s.idGroups (fieldAt b 0 2) (leNat ((b.drop 4).take size)) ++ s.batchGroups n (b.drop (4 + (size + 3) / 4 * 4))

/-- The function groups that a command addresses: those whose lease it needs (R77; log 106). -/
def cmdGroups (s : State) (c : Cmd) : List Nat :=
  let b := fieldAt c.payload 0 1
  let w := fieldAt c.payload 0 2
  let m := fieldAt c.payload 0 8
  let bits (n : Nat) : List Nat := (List.range n).filter m.testBit
  if c.code = 0x0102 then s.idGroups w (leNat (c.payload.drop 4))
  else if c.code = 0x0103 then s.batchGroups w (c.payload.drop 4)
  else if c.code = 0x0110 ∨ c.code = 0x0111 then [b]
  else if c.code = 0x0130 then [fieldAt c.payload 1 1]
  else if c.code < 0x0300 then []
  else if c.code < 0x0310 then (bits 40).map linkGroup
  else if c.code < 0x0320 then [b]
  else if c.code < 0x0400 then [4]
  else if c.code < 0x0404 then (bits 64).map ctxGroup
  else if c.code = 0x0404 then [ctxGroup b]
  else if c.code < 0x0412 then [ctxGroup (s.getO (O.lpeTrContext b))]
  else if c.code < 0x0501 then []
  else if c.code = 0x0502 then (bits 12).flatMap fun k => (s.pairGroup (k / 2)).toList
  else if c.code < 0x0510 then (s.pairGroup (w / 64)).toList
  else if c.code = 0x0510 then (s.portGroup b).toList
  else if c.code < 0x0600 then (s.portGroup (s.probePort b)).toList
  else if c.code < 0x0610 then [5]
  else if c.code < 0x0700 then [6]
  else if c.code < 0x0710 then [7]
  else if c.code = 0x0714 ∨ c.code = 0x0715 then [9]
  else if c.code < 0x0800 then [if b = 5 then 9 else 8]
  else if c.code < 0x0900 then [13]
  else if c.code < 0x0A00 then [10]
  else if c.code < 0x0A10 then []
  else [11]

/-- Commands started and not yet complete in their slot: the ADC_INJECT commands whose conversion is still to come (R241). -/
def started (s : State) : List Cmd := s.adc.conv.toList.flatMap fun (a : Adc) => (a.queue ++ a.coming).filterMap (·.cmd)

/-- A command has to wait for an earlier one: same host, same side of a HOST reset, a group in common (R66, R92). -/
def waitsFor (s : State) (c d : Cmd) : Bool :=
  d.host == c.host && d.orphan == c.orphan && (s.cmdGroups d).any fun g => (s.cmdGroups c).contains g

/-- The oldest accepted command that waits for none before it. -/
def nextOf (s : State) : List Cmd → List Cmd → Option Cmd
  | _, [] => none
  | before, c :: t => if before.any (s.waitsFor c) then s.nextOf (c :: before) t else some c

/-- The command that the dispatcher runs next: the oldest accepted one, unless it has to wait (R66). -/
def nextCmd (s : State) : Option Cmd := s.nextOf s.started s.disp.accepted

/-- The command to run next, if it is of this kind (R66; log 3). -/
def frontCmd (s : State) (code : Nat) : Option Cmd :=
  match s.nextCmd with
  | some c => if c.code = code ∧ c.flags.testBit 1 = false then some c else none
  | none => none

/-- The accepted list without the command to run next. -/
def popCmd (s : State) : State :=
  { s with disp := { s.disp with accepted := s.nextCmd.elim s.disp.accepted s.disp.accepted.erase } }

/-- The run of one mailbox command: its body answers a state and a reply; the reply goes into the slot. Where the command to
run next is of another kind, the row cannot occur and changes nothing (log 2). -/
def runCmd (s : State) (code : Nat) (body : Cmd → State → State × Reply) : State :=
  match s.frontCmd code with
  | none => s
  | some c =>
    let r := body c s.popCmd
    r.1.respond c r.2

/-- A body made of checks and an effect: the first check that fails answers, else the effect runs. -/
def guarded (s : State) (l : List Chk) (eff : State → State × Reply) : State × Reply :=
  match firstBad l with
  | some r => (s, r)
  | none => eff s

end State

end Sys2Proof.Machine
end

