-- ==== Sys2Proof/Machine/Links.lean ====
section
/-! DEFINITION. The operations of the gate links that every function uses: the force vector (R42, R43), the frames of
R100, FORCE and RELEASE (R123), the loss action (R122), the states a link reports (R586), and which output stages are
enabled. -/

namespace Sys2Proof.Machine

/-- The action the transceivers apply for the two copies' requests (R43). -/
def mergeForce : Force → Force → Force
  | .hold, b => b
  | a, .hold => a
  | .off, b => b
  | a, _ => a

/-- The ACTION byte of a FORCE frame (R100). -/
def Force.byte : Force → Nat
  | .hold => 0
  | .off => 1
  | .ascLow => 2
  | .ascHigh => 3

/-- Start code groups of R99 by the usual numbering of code groups (log 24): IDLE and TRAIN of both directions, and the frames that the
device sends. -/
def kIdle := 0xBC
def kTrain := 0xFD
def kEdge := 0x3C
def kEcho := 0x1C
def kForce := 0xDC
def kReg := 0xFB

/-- Start code groups of the upstream frames (R99; log 24). -/
def kTel := 0x5C
def kStat := 0x7C
def kAlarm := 0x9C

/-- The special code groups that have a meaning upstream (R99). -/
def upCodes : List Nat := [kIdle, kEcho, kTel, kStat, kAlarm, kReg, kTrain]

/-- Data bytes of an upstream frame (R100). -/
def upLen (code : Nat) : Nat := if code = kAlarm then 1 else if code = kTel ∨ code = kStat then 4 else 3

/-- Bits of the PRBS-7 sequence x^7 + x^6 + 1 from a register (R100), and eight of them as a byte, the first in bit 0 (log 121). -/
def prbsBits : Nat → Nat → List Bool
  | 0, _ => []
  | n + 1, r => r.testBit 6 :: prbsBits n ((2 * r + (if r.testBit 6 != r.testBit 5 then 1 else 0)) % 128)
def packBits : Nat → List Bool → List Byte
  | 0, _ => []
  | n + 1, b => BitVec.ofNat 8 ((b.take 8).zipIdx.foldl (fun a p => if p.1 then a + 2 ^ p.2 else a) 0) :: packBits n (b.drop 8)

/-- The data bytes of a TRAIN block (R100). -/
def trainBlock : List Byte := packBits 31 (prbsBits 248 0x7F)

namespace State

/-- The state with a link, a machine, a set, a context or a carrier group changed. -/
def modLink (s : State) (l : Fin 40) (f : Link → Link) : State := { s with links := s.links.set l (f s.links[l]) }
def modTrx (s : State) (m : Fin 4) (f : Trx → Trx) : State := { s with trx := s.trx.set m (f s.trx[m]) }
def modSet (s : State) (m : Fin 4) (k : Fin 2) (f : TrxSet → TrxSet) : State :=
  s.modTrx m fun t => { t with sets := t.sets.set k (f t.sets[k]) }
def modCtx (s : State) (c : Fin 64) (f : Ctx → Ctx) : State := { s with ctx := s.ctx.set c (f s.ctx[c]) }
def modCg (s : State) (g : Fin 8) (f : Carrier → Carrier) : State := { s with cgs := s.cgs.set g (f s.cgs[g]) }
def modDcl (s : State) (f : Dcl → Dcl) : State := { s with dcl := f s.dcl }
def modPtg (s : State) (f : Ptg → Ptg) : State := { s with ptg := f s.ptg }
def modClk (s : State) (f : Clk → Clk) : State := { s with clk := f s.clk }
def modPwr (s : State) (f : Pwr → Pwr) : State := { s with pwr := f s.pwr }
def modAux (s : State) (f : Aux → Aux) : State := { s with aux := f s.aux }
def modThm (s : State) (f : Thm → Thm) : State := { s with thm := f s.thm }

/-- The SC action in force on a link (R42, R43). -/
def scAct (s : State) (l : Fin 40) : Force := mergeForce s.forceA[l] s.forceB[l]

/-- The machine, the set and the phase of a traction link (R94). -/
def linkMachine (l : Fin 40) : Option (Fin 4) := if h : l.val < 24 then some ⟨l.val / 6, by omega⟩ else none
def linkSet (l : Fin 40) : Fin 2 := ⟨l.val / 3 % 2, by omega⟩

/-- The links of a machine and of a set (R94). -/
def machineLinks (m : Fin 4) : List (Fin 40) := (List.finRange 40).filter fun l => l.val / 6 == m.val && l.val < 24
def setLinks (m : Fin 4) (k : Fin 2) : List (Fin 40) := (machineLinks m).filter fun l => linkSet l == k

/-- The state of a set (R282): 0 WORKING, 1 LOST, 2 RETURNING, 3 NOT_CONFIGURED. -/
def setSt (s : State) (m : Fin 4) (k : Fin 2) : Nat := bitsOf (s.getO (O.trxSsState m)) (3 + 2 * k) (2 + 2 * k)

/-- A set counts as working while WORKING or RETURNING (R267). -/
def setWorks (s : State) (m : Fin 4) (k : Fin 2) : Bool := s.setSt m k == 0 || s.setSt m k == 2

/-- The state of a machine (R144). -/
def trxSt (s : State) (m : Fin 4) : Nat := s.getO (O.trxState m)

/-- The legs of a machine are switching: MAGNETISING, ENABLED or STOPPING (R144). -/
def switching (s : State) (m : Fin 4) : Bool := s.trxSt m == 2 || s.trxSt m == 3 || s.trxSt m == 4

/-- The output stage of a function group is enabled. The spec does not say in which states that is: the model takes ENABLING to
STOPPING of a machine, states 2, 3 and 5 of the charger, 1 to 3 of the auxiliary converter, and the chopper while it is switched in
(log 126). -/
def stageOn (s : State) (g : Nat) : Bool :=
  if g < 4 then 1 ≤ s.getO (O.trxState g) && s.getO (O.trxState g) ≤ 4
  else if g = 4 then s.dcl.chopIn
  else if g = 5 then s.getO O.chgState == 2 || s.getO O.chgState == 3 || s.getO O.chgState == 5
  else if g = 6 then s.getO O.rpkState == 4
  else if g = 7 then 1 ≤ s.getO O.auxState && s.getO O.auxState ≤ 3
  else if g = 8 then (List.range 5).any fun k => ([3, 5, 6, 7] : List Nat).contains (s.getO (O.amcState k))
  else if g = 9 then ([3, 5, 6, 7] : List Nat).contains (s.getO (O.amcState 5))
  else false

/-- The output stage of a link: that of its group, and for a lost set none (R279). -/
def stageOnLink (s : State) (l : Fin 40) : Bool :=
  match linkMachine l with
  | some m => s.stageOn m && s.setSt m (linkSet l) != 1
  | none => s.stageOn (linkGroup l)

/-- A SAFE override is in force on a group (R84). -/
def safeOn (s : State) (g : Nat) : Bool := s.override g == 3

/-- The Pointing fault is latched, the thermal trip is latched (R423, R439). -/
def ptgLatched (s : State) : Bool := s.getO O.ptgFaultCause != 0
def tripLatched (s : State) : Bool := s.bitO O.thmTripLatch 31

/-- SC forces a traction link for a reason other than the speed-rule state of R145 or R271 (R519, R586). -/
def scOther (s : State) (m : Fin 4) : Bool :=
  s.bitO O.dclFlags 16 || s.ptgLatched || s.tripLatched || s.clk.lossActive || s.safeOn m || s.trx[m].ova ||
    s.getO (O.updState 2) == 3 || s.getO (O.updState 3) == 3

/-- The action of a machine's speed rule, ASC on its side or OFF (R145). -/
def ruleAct (s : State) (m : Fin 4) (asc : Bool) : Force :=
  if asc then (if s.getO (O.trxAscSide m) = 1 then .ascHigh else .ascLow) else .off

/-- The driver of a link reports MODE 2 or 3. -/
def drvHeld (s : State) (l : Fin 40) : Bool := s.links[l].mode == 2 || s.links[l].mode == 3

/-- FORCED under R586. -/
def forced (s : State) (l : Fin 40) : Bool := s.scAct l != .hold || s.links[l].mode == 3

/-- The STATE a link reports (R135, R586). -/
def linkState (s : State) (l : Fin 40) : Nat :=
  match s.links[l].st with
  | .off => 0
  | .training => 1
  | .lost => 3
  | .ready => if s.forced l then 5 else 2
  | .degraded => if s.forced l then 5 else 4

/-- `glk.ready` (R134). -/
def glkReady (s : State) : Nat :=
  (List.finRange 40).foldl (fun a l => if s.linkState l = 2 ∨ s.linkState l = 4 ∨ s.linkState l = 5 then a + 2 ^ l.val else a) 0

/-- A link counts as READY for the rules that require it (R586). -/
def countsReady (s : State) (l : Fin 40) : Bool :=
  s.linkState l == 2 ||
    (s.linkState l == 5 &&
      (match linkMachine l with
       | some m => !s.scOther m && !s.drvHeld l && (!s.switching m || s.setSt m (linkSet l) == 1 ||
           s.setSt m (linkSet l) == 2 && !(s.links[l].planning && decide (s.links[l].relAt ≤ s.now)))
       | none => false))

/-- The next symbol boundary of the links: axle time at multiples of 10 ticks (R98). -/
def symAt (s : State) : Nat := (s.now + 9) / 10 * 10

/-- The transceivers run: the crystal is there and CT is locked (R45). -/
def lineClock (s : State) : Bool := s.clk.xtal && !s.clk.heldIslands.getLsbD 0

/-- A frame on the downstream pair of a link from a boundary: its start code, and its bytes with the CRC-8 (R98, R100). Without a
clock no symbol leaves (R45). -/
def putFrame (s : State) (l : Fin 40) (code : Nat) (data : List Byte) (at_ : Nat) : State :=
  if s.lineClock then
    (s.send (.link l code (data ++ [crc8 data]) at_)).modLink l fun k => { k with lineEnd := max k.lineEnd (at_ + 10 * (data.length + 2)) }
  else s

/-- The first boundary that finds the line free, with no EDGE frame due within 200 ns (R112, R116, R582; log 128). -/
def slotAt (s : State) (l : Fin 40) : Nat :=
  s.links[l].edges.foldl (fun t e => if t < e.frameEnd ∧ e.frameEnd ≤ t + 210 then e.frameEnd else t) (max s.symAt s.links[l].lineEnd)

/-- A frame in a free slot. -/
def sendLink (s : State) (l : Fin 40) (code : Nat) (data : List Byte) : State := s.putFrame l code data (s.slotAt l)

/-- Frames of a kind sent one after another, so many ticks apart (R115; log 122). -/
def sendRun (s : State) (l : Fin 40) (code gap : Nat) (frames : List (List Byte)) : State :=
  let t := s.slotAt l
  frames.zipIdx.foldl (fun s p => s.putFrame l code p.1 (t + gap * p.2)) s

/-- The line of a link is alive: the device sends on it. -/
def lineUp (s : State) (l : Fin 40) : Bool :=
  s.links[l].st == .ready || s.links[l].st == .degraded || s.links[l].st == .lost

/-- The ACTION a FORCE frame carries (R123). -/
def forceAction (s : State) (l : Fin 40) : Nat :=
  match s.scAct l with
  | .hold => if s.links[l].forceLoss then s.links[l].lossAct + 1 else 1
  | f => f.byte

/-- The leg state that an ACTION byte gives (R42, R100). -/
def actionSw (a : Nat) : Nat := if a = 2 then 1 else if a = 3 then 2 else 0

/-- A frame is an EDGE of the link that has not ended at an instant. -/
def Sent.unsent (l t : Nat) : Sent → Bool
  | .link m code _ at_ => m == l && code == kEdge && decide (t < at_ + 50)
  | _ => false

/-- What an instant leaves of a frame of the link: nothing of one that has not ended, and the blocks of a training that have (R102). -/
def Sent.cut (l t : Nat) : Sent → List Sent
  | .link m code b at_ => if m = l ∧ t < at_ + 10 * (b.length + 1) then [] else [.link m code b at_]
  | .train m b at_ n => if m = l then (if t < at_ + 320 then [] else [.train m b at_ (min n ((t - at_) / 320))]) else [.train m b at_ n]
  | x => [x]

/-- The state of a leg before the first of its edges: each change passes through 00, but for GL31, which has one switch (R128, R298). -/
def swBefore (l : Fin 40) : List Edge → Nat → Nat
  | [], sw => sw
  | e :: t, _ =>
    if e.sw ≠ 0 then 0
    else if l.val = 31 then 1
    else match t with
      | x :: _ => if x.sw = 1 then 2 else 1
      | [] => 1

/-- The state a leg is commanded to now: that of its last edge whose target has come. -/
def legNow (s : State) (l : Fin 40) : Nat :=
  let k := s.links[l]
  match (k.edges.filter fun (e : Edge) => decide (e.target ≤ 8 * s.now)).getLast? with
  | some e => e.sw
  | none => swBefore l k.edges k.legSw

/-- The pending EDGE frames of a link cancelled: those that have not ended stay unsent and their SEQ is taken back (R103), and the leg
keeps the state of the last edge that was sent. -/
def cancelEdges (s : State) (l : Fin 40) : State :=
  { s with sent := s.sent.filter fun x => !Sent.unsent l s.symAt x }.modLink l fun k =>
    let kept := k.edges.filter fun (e : Edge) => decide (e.frameEnd ≤ s.symAt)
    let seq := (k.seq + 15 * (k.edges.length - kept.length)) % 16
    match kept.getLast? with
    | some e => { k with edges := kept, seq, legSw := e.sw, legAt := e.target }
    | none => { k with edges := kept, seq, legSw := swBefore l k.edges k.legSw }

/-- Every frame of a link that has not ended at the next symbol boundary is discarded and not sent again (R102, R115). -/
def clearLine (s : State) (l : Fin 40) : State :=
  let s := s.cancelEdges l
  { s with sent := s.sent.flatMap fun x => Sent.cut l s.symAt x }.modLink l fun k => { k with lineEnd := min k.lineEnd s.symAt }

/-- A FORCE frame from a boundary, and the leg state it gives: 00 where the driver has latched its leg (R111, R123). -/
def forceAtB (s : State) (l : Fin 40) (t : Nat) : State :=
  (s.putFrame l kForce (toLe 1 (s.forceAction l)) t).modLink l fun k =>
    let sw := if k.mode = 3 then 0 else actionSw (s.forceAction l)
    { k with forceAt := t, legAt := if k.legSw = sw then k.legAt else 8 * t, legSw := sw }

/-- A FORCE frame at the next symbol boundary, whatever the line carries (R42, R102, R123). -/
def sendForce (s : State) (l : Fin 40) : State := if s.lineUp l then (s.clearLine l).forceAtB l s.symAt else s

/-- The legs of links are forced from the next symbol boundary, with the loss action while SC holds HOLD (R270, R302). -/
def forceLegs (s : State) (ls : List (Fin 40)) (loss : Bool) : State :=
  ls.foldl (fun s (l : Fin 40) => ((s.cancelEdges l).modLink l fun k =>
    { k with planning := false, forceLoss := loss, release := 0 }).sendForce l) s

/-- RELEASE asked for on links, three times and 1 µs apart, from 5 µs before a period begins (R123; log 25). A LOST link keeps its
loss action (R121). -/
def releaseLegs (s : State) (ls : List (Fin 40)) (period : Nat) : State :=
  ls.foldl (fun s (l : Fin 40) => if s.links[l].st = .lost then s else s.modLink l fun k =>
    { k with planning := true, forceLoss := false, release := 3, relAt := period - 4000, periods := 0 }) s

/-- The bytes of a REG request (R100). -/
def regBytes (addr data : Nat) : List Byte := toLe 1 addr ++ toLe 2 data

/-- One REG request sent, or queued behind the one outstanding; its reply is awaited from the frame's end (R112). -/
def regSend (s : State) (l : Fin 40) (addr data : Nat) : State :=
  if s.links[l].reg.isSome then s.modLink l fun k => { k with regQueue := k.regQueue ++ [(addr, data)] }
  else (s.modLink l fun k => { k with reg := some { addr, data, sentAt := s.slotAt l + 50, tries := 1 } }).sendLink l kReg
    (regBytes addr data)

/-- The LOSS_ACT value that a link's driver shall hold (R122): 0 OFF, 1 ASC_LOW, 2 ASC_HIGH. -/
def lossWanted (s : State) (l : Fin 40) : Nat :=
  let a := s.getO (O.glkLossAct l)
  if a = 2 then
    (match linkMachine l with
     | some m => if s.getO (O.trxRule m) = 1 then (if s.getO (O.trxAscSide m) = 1 then 2 else 1) else 0
     | none => 0)
  else if a = 3 then 2 else a

/-- The value a driver's LOSS_ACT shall hold may be written: never 2 without CAPS bit 2 (R122). -/
def mayWrite (s : State) (l : Fin 40) : Bool := s.lossWanted l != 2 || s.links[l].caps.testBit 2

/-- The BY_SPEED drivers of a machine get the action of the rule (R122, R166). -/
def bySpeed (s : State) (m : Fin 4) : State :=
  (machineLinks m).foldl (fun s (l : Fin 40) =>
    if s.getO (O.glkLossAct l) = 2 ∧ (s.links[l].st = .ready ∨ s.links[l].st = .degraded) ∧ s.mayWrite l = true then
      s.regSend l 0x88 (s.lossWanted l)
    else s) s

/-- The device declares a link LOST (R121): edges cancelled, FORCE with the loss action, bit cleared, EV_GLK_LOSS; the leg counts as in
that action from 500 ns later. What the link's function does of it follows in its chapter. -/
def linkLossBase (s : State) (l : Fin 40) (cause : Nat) : State :=
  let s := (s.cancelEdges l).modLink l fun k =>
    { k with st := .lost, planning := false, forceLoss := true, release := 0, lostAt := s.now, reg := none,
             regQueue := [], telMiss := 0, echo := none, edges := [] }
  let s := ((s.orO (O.glkStatus l) 0x100).sendForce l).modLink l fun k => { k with legAt := 8 * (s.now + 400) }
  s.raise 0x0300 (0x3040 + l) ((s.forceAction l - 1) * 65536 + cause * 256 + l)

/-- A context is ON (R178). -/
def ctxOn (s : State) (c : Nat) : Bool := s.bitO (O.lpeStatus c) 15

/-- The checkpoint word that CT would send now (R411, R413). -/
def safeWord (s : State) : SafeWord :=
  { stamp := s.now, speed := s.trx.map (·.speed), speedOk := s.trx.map (·.speedOk), out := s.trx.map (·.out),
    est := Vector.ofFn fun m : Fin 4 => s.getQ (O.trxTorqueEst m), envPos := s.trx.map (·.envPos), envNeg := s.trx.map (·.envNeg),
    st := Vector.ofFn fun m : Fin 4 => s.trxSt m, ova := s.trx.map (·.ova),
    sets := Vector.ofFn fun m : Fin 4 => bitsOf (s.getO (O.trxSsState m)) 5 2 }

/-- A word put in a copy's channel, which holds 64 beside the one in use (R29, R411). -/
def PtgCopy.full (c : PtgCopy) : Bool := decide (64 < c.words.length)
def PtgCopy.put (c : PtgCopy) (w : SafeWord) : PtgCopy := if PtgCopy.full c then c else { c with words := w :: c.words }

/-- A checkpoint word on channels 4 and 5, each of which drops it when it is full (R29, R30, R411; log 59). -/
def sendSafe (s : State) : State :=
  let w := s.safeWord
  ((s.modPtg fun p => { p with a := PtgCopy.put p.a w, b := PtgCopy.put p.b w }).when (PtgCopy.full s.ptg.a) fun t => t.xingDrop 4).when
    (PtgCopy.full s.ptg.b) fun t => t.xingDrop 5

/-- A machine's command, the named machine in the payload's first byte (R170). -/
def trxArg (c : Cmd) : Nat := fieldAt c.payload 0 1

/-- MACHINE above 3 or unused (R170). -/
def trxBad (s : State) (m : Nat) : Bool := 3 < m || s.getO (O.trxType m) == 0

end State

end Sys2Proof.Machine
end

