-- ==== Sys2Proof/Machine/LpeOps.lean ====
section
/-! DEFINITION. The loop engine's shared operations (chapter "Loop engine"): triggers and intervals (R177, R178), run
estimates and admission (R183 to R185), the arithmetic of a run (R186 to R188), banks (R190 to R193), the model and its
residual (R194 to R197), traces (R201, R202). -/

namespace Sys2Proof.Machine

/-- One channel of a run: the values its trace nodes show and the flags it raises (R186, R201). -/
structure ChanOut where
  sp : Int
  fb : Int
  err : Int
  p : Int
  i : Int
  d : Int
  ff : Int
  u : Int
  out : Int
  satP : Bool
  satI : Bool
  satO : Bool
  dir : Int
  deriving DecidableEq, Repr

/-- A field of 32 bits of a bank, as a signed number (R190). -/
def bankI (b off : Nat) : Int := toSigned 32 (bitsOf b (8 * off + 31) (8 * off))

/-- A model parameter P0 to P7 (R190). -/
def bankP (b k : Nat) : Rat := f32Val (bitsOf b (8 * (128 + 4 * k) + 31) (8 * (128 + 4 * k)))

/-- An S20 bound of a bank. -/
def bankS (b off : Nat) : Int := s20Int (bitsOf b (8 * off + 31) (8 * off))

/-- A product of a Q8.23 gain and an S20 value, rounded to S20 (R186). -/
def gainMul (g x : Int) : Int := roundAway ((g * x : Int) / (8388608 : Rat))

/-- The proportional, integral and derivative terms of a channel, and its unclamped output; the sum of the output is rounded
once (R186; log 112). `i0`, `d0`, `e0` and `dir0` are the integrator in 2^−30, the derivative state, the error and the clamp
direction of the last commit. -/
def chanRun (b ch : Nat) (ci first : Bool) (scale : Rat) (i0 d0 e0 dir0 sp fb ff : Int) : ChanOut :=
  let o := 32 * ch
  let e := sat20 (sp - fb)
  let p := gainMul (bankI b o) e
  let prod : Rat := clampQ (((bankI b (o + 4) * e : Int) : Rat) / 4096) (-(2 ^ 30 : Nat)) ((2 ^ 30 : Nat) - 1)
  let inc0 := satQ30 (roundAway (prod * scale))
  let inc := if ci && inc0 != 0 && dir0 != 0 && (decide (0 < inc0) == decide (0 < dir0)) then 0 else inc0
  let i1 := satQ30 (i0 + inc)
  let i := clampI i1 (bankS b (o + 16) * 2048) (bankS b (o + 20) * 2048)
  let dr := if first then 0 else sat20 (roundAway ((sat20 (gainMul (bankI b (o + 8)) (sat20 (e - e0))) : Rat) / scale))
  let d := sat20 (d0 + sat20 (gainMul (bankI b (o + 12)) (sat20 (dr - d0))))
  let u := sat20 (roundAway (((2048 * (sat20 p + d + ff) + i : Int) : Rat) / 2048))
  let out := clampI u (bankS b (o + 24)) (bankS b (o + 28))
  { sp, fb, err := e, p := sat20 p, i, d, ff, u, out, satP := e != sp - fb || sat20 p != p, satI := i != i1,
    satO := out != u, dir := if u < out then -1 else if out < u then 1 else 0 }

/-- A channel's output clamped to a radius (R188). -/
def ChanOut.within (c : ChanOut) (r : Rat) : ChanOut :=
  let out := if r < (c.u : Rat) then sat20 (roundAway r) else if (c.u : Rat) < -r then sat20 (roundAway (-r)) else c.u
  { c with out, satO := out != c.u, dir := if c.u < out then -1 else if out < c.u then 1 else 0 }

/-- A channel's output held at or below a bound (R326, R329). -/
def ChanOut.atMost (c : ChanOut) (r : Int) : ChanOut := if r < c.out then { c with out := r, satO := true, dir := 1 } else c

namespace State

/-- The port of a machine, and whether its angle and speed are valid (R263). -/
def port (s : State) (m : Fin 4) : Nat := s.getO (O.trxPosPort m)
def portFaulty (s : State) (m : Fin 4) : Bool := bitsOf (s.getO (O.posStatus (s.port m))) 12 10 == 2
def portAngleOk (s : State) (m : Fin 4) : Bool := s.bitO (O.posStatus (s.port m)) 14 && !s.portFaulty m
def portSpeedOk (s : State) (m : Fin 4) : Bool := s.bitO (O.posStatus (s.port m)) 15 && !s.portFaulty m

/-- The current context of a set, and those of a machine. -/
def setCtx (m : Fin 4) (k : Fin 2) : Fin 64 := ⟨2 * m.val + k.val, by omega⟩
def fwCtx (m : Fin 4) : Fin 64 := ⟨8 + m.val, by omega⟩
def spdCtx (m : Fin 4) : Fin 64 := ⟨12 + m.val, by omega⟩

/-- The context whose observer supplies angle and speed: that of S0, and from the hand-over sample that of S1 while S0 is lost (R274). -/
def obsCtx (s : State) (m : Fin 4) : Fin 64 := if s.trx[m].obsS1 then setCtx m 1 else setCtx m 0

/-- The machine runs on observer angle (R168). -/
def onObserver (s : State) (m : Fin 4) : Bool := s.getO (O.trxAngleSrc m) == 1

/-- The electrical angle that the port gives, in turns (R143). -/
def portElec (s : State) (m : Fin 4) : Rat :=
  let p : Rat := (s.getO (O.posAngle (s.port m)) : Nat)
  ((if s.getO (O.trxAngleInvert m) = 1 then -p else p) * (s.getO (O.trxPolePairs m) : Nat) + (s.getO (O.trxAngleOffset m) : Nat)) /
    65536

/-- The electrical angle of a set, in turns; that of type 3 follows from the rotor's angle and the slip (R143, R163, R169). -/
def elecAngle (s : State) (m : Fin 4) (k : Fin 2) : Rat :=
  let a : Rat :=
    if s.getO (O.trxType m) = 3 then (if s.onObserver m then s.trx[m].rotor else s.portElec m) + s.trx[m].slip
    else if s.onObserver m then (s.ctx[s.obsCtx m].obsAngle : Rat) / 65536
    else s.portElec m
  if k = 1 ∧ s.getO (O.trxSetAngle m) = 1 then a - 1 / 12 else a

/-- The electrical speed of a machine in radians per second. -/
def elecOmega (s : State) (m : Fin 4) : Rat :=
  if s.trx[m].speed = 0 then 0 else s.trx[m].speed * 2 * piQ / 60 * (s.getO (O.trxPolePairs m) : Nat)

/-- The parameters that the RL_PHASE model of a machine takes (R194). -/
def rlParams (s : State) (m : Fin 4) : List Rat :=
  if s.getO (O.trxType m) = 3 then
    [s.getQ (O.trxRs m), s.getQ (O.trxLd m), s.getQ (O.trxLm m), s.getQ (O.trxLr m), s.getQ (O.trxRr m)]
  else [s.getQ (O.trxRs m), s.getQ (O.trxLd m), s.getQ (O.trxLq m), s.getQ (O.trxPsi m)]

/-- `lpe.cN.trigger` as in force: C0 to C11 follow valley and peak under double update (R207). -/
def ctxTrigger (s : State) (c : Nat) : Nat :=
  let t := s.getO (O.lpeTrigger c)
  if c < 12 then putBits t 25 24 (if s.bitO (O.pwmMode (ctxGroup c)) 1 then 3 else 1) else t

/-- The undithered and the shortest dithered interval between the sampling instants of a trigger word, in ticks
(R177, R178). -/
def trigNominal (s : State) (t : Nat) : Rat :=
  if bitsOf t 31 30 = 2 then ((8 * bitsOf t 29 0 : Nat) : Rat)
  else
    let n := roundAway (800000000 / (s.getO (O.pwmFreq (bitsOf t 28 26)) : Rat))
    (if bitsOf t 25 24 = 3 then (n : Rat) / 2 else n) * (bitsOf t 23 16 : Nat)
/-- The undithered interval by the carrier setting in force: that of the running period (R126, R186). -/
def trigInForce (s : State) (t : Nat) : Rat :=
  let g := s.cgs[(⟨bitsOf t 28 26 % 8, Nat.mod_lt _ (by decide)⟩ : Fin 8)]
  if bitsOf t 31 30 = 2 ∨ g.running = false then s.trigNominal t
  else (if bitsOf t 25 24 = 3 then (g.nominal : Rat) / 2 else g.nominal) * (bitsOf t 23 16 : Nat)
def trigShortest (s : State) (t : Nat) : Rat :=
  if bitsOf t 31 30 = 2 then s.trigNominal t
  else s.trigNominal t * ((1000 - s.getO (O.pwmDither (bitsOf t 28 26)) : Nat) : Rat) / 1000

/-- The trigger of a context as its group runs it: C0 to C11 follow the mode of the running period (R126, R207). -/
def ctxGrid (s : State) (c : Fin 64) : Nat :=
  let t := s.getO (O.lpeTrigger c)
  let g := s.cgs[(⟨bitsOf t 28 26 % 8, Nat.mod_lt _ (by decide)⟩ : Fin 8)]
  if c.val < 12 ∧ g.running then putBits t 25 24 (if g.mode.testBit 1 then 3 else 1) else s.ctxTrigger c

/-- Fields of `lpe.cN.cfg` (R176). -/
def ctxDest (s : State) (c : Nat) : Nat := bitsOf (s.getO (O.lpeCfg c)) 27 24
def ctxModel (s : State) (c : Nat) : Nat := bitsOf (s.getO (O.lpeCfg c)) 23 20
def ctxChans (s : State) (c : Nat) : Nat := bitsOf (s.getO (O.lpeCfg c)) 19 18 + 1

/-- The active bank of a context (R190). -/
def ctxBank (s : State) (c : Nat) : Nat :=
  if s.bitO (O.lpeStatus c) 14 then s.getO (O.lpeBankB c) else s.getO (O.lpeBankA c)

/-- The run estimate in lane cycles of 2 ticks (R183). -/
def runEst (s : State) (c : Nat) : Nat :=
  let n := s.ctxChans c
  let kd := ((List.range n).filter fun k => bankI (s.ctxBank c) (32 * k + 8) != 0).length
  let model := match s.ctxModel c with
    | 1 => 30 * n
    | 2 => if s.getO (O.trxType (c / 2)) = 3 then 420 else 360
    | 3 => 80
    | _ => 0
  120 + 60 * n + 20 * kd + model + 40

/-- The density of a context (R185). -/
def density (s : State) (c : Nat) : Rat :=
  (2 * s.runEst c : Nat) / minQ (s.getO (O.lpeDeadline c) : Nat) (s.trigShortest (s.ctxTrigger c))

/-- The contexts that are ON. -/
def onList (s : State) : List Nat := (List.range 64).filter s.ctxOn

/-- The sum of densities of a list of contexts, in 0.1 % of one lane (R178). -/
def loadOf (s : State) (l : List Nat) : Nat := (roundAway (l.foldl (fun a c => a + s.density c) 0 * 1000)).toNat

/-- The admission test of R185 for the contexts that would then be ON. -/
def admits (s : State) (l : List Nat) : Bool :=
  decide (l.foldl (fun a c => a + s.density c) 0 ≤
    (4 - 3 * l.foldl (fun a c => maxQ a (s.density c)) 0) * (s.getO O.lpeLoadMax : Nat) / 1000)

/-- The contexts that an accepted enable of a traction machine turns ON at its first planned period (R149, R150, R585). -/
def enablingCtx (s : State) (c : Nat) : Bool :=
  (List.finRange 4).any fun m => s.trxSt m == 1 &&
    (((c == 2 * m.val || c == 2 * m.val + 1) && s.trx[m].starts.testBit (c % 2)) || c == 8 + m.val ||
      (c == 12 + m.val && s.getO (O.trxMode m) == 2))

/-- The contexts that a function admitted at its start turns ON later by itself: those of the charger from CHG_START to IDLE or FAULT,
of the auxiliary converter from AUX_START on with its trims, of a motor channel from AMC_START on, and of a charge of the reserve
pack (R185; log 183). -/
def promisedCtx (s : State) (c : Nat) : Bool :=
  let among (id : Nat) (l : List Nat) : Bool := l.contains (s.getO id)
  if c < 16 then false
  else if c < 22 then among O.chgState [1, 2, 3, 4, 5]
  else if c = 22 then among O.auxState [1, 2, 3, 4]
  else if c < 31 then among O.auxState [1, 2, 3, 4] && (s.getO O.auxPhases).testBit (c - 23)
  else if c < 37 then !among (O.amcState (c - 31)) [0, 8]
  else c == 37 && among O.rpkState [4, 5]

/-- The contexts that are ON, whose accepted enable is still to take effect, or that would be ON (R185). -/
def wouldOn (s : State) (add : List Nat) : List Nat := (List.range 64).filter fun c =>
  s.ctxOn c || (s.ctx[c % 64]'(Nat.mod_lt _ (by decide))).startAt.isSome || s.enablingCtx c || s.promisedCtx c || add.contains c

/-- The checks that every function enable makes of its contexts (R184, R185). -/
def chkAdmit (s : State) (add : List Nat) : List Chk :=
  match add.find? fun c => decide (s.trigShortest (s.ctxTrigger c) < (2 * s.runEst c + 160 : Nat)) with
  | some _ => [chkR true St.range 0x0102]
  | none =>
    [match add.find? fun c => s.getO (O.lpeDeadline c) < 2 * s.runEst c + 160 with
     | some c => chkR true St.state 0x0102 c
     | none => chk false St.ok,
     chkR (!s.admits (s.wouldOn add)) St.refused 0x0101 (s.loadOf (s.wouldOn add))]

/-- The outputs and integrators of a context as its objects show them (R174). -/
def showOut (s : State) (c : Fin 64) : State :=
  let x := s.ctx[c]
  let w (v : Vector Int 4) : List Byte := v.toList.flatMap fun i => toLe 4 (s20Bits i)
  (s.setO (O.lpeOut c) (leNat (w x.outc ++ toLe 8 x.lastAt))).setO (O.lpeInteg c)
    (leNat (w (x.integ.map fun (i : Int) => sat20 (roundAway ((i : Rat) / 2048)))))

/-- A context turned ON. Its state starts anew; the integrators keep what a preset loaded (R186, R199). -/
def ctxStart (s : State) (c : Fin 64) : State :=
  (s.modCtx c fun x => { x with
    startAt := none, stopping := false, run := none, trigNext := s.now, ePrev := Vector.replicate 4 0, deriv := Vector.replicate 4 0, satDir := Vector.replicate 4 0, first := true, lateRuns := 0 }).orO (O.lpeStatus c) 0x8000

/-- A capture ends: DONE and EV_LPE_TRACE, bit 8 where the context was disabled (R202, R203). -/
def traceEnd (s : State) (b : Fin 4) (disabled : Bool) : State :=
  let n := s.tb[b].recs.length
  ((s.setO (O.lpeTrState b) 3).setO (O.lpeTrCount b) n).raise 0x0402 (0x4480 + 0x10 * b)
    ((if disabled then 256 else 0) + b)

/-- A context turned OFF: it keeps its last committed output (R199); captures of it end (R203). -/
def ctxStop (s : State) (c : Fin 64) : State :=
  let was := s.ctxOn c
  let s := (s.modCtx c fun x => { x with startAt := none, stopping := false, run := none, integ := Vector.replicate 4 0 }).clrO
    (O.lpeStatus c) 0x8000
  s.when was fun s => (List.finRange 4).foldl (fun s (b : Fin 4) =>
    if s.getO (O.lpeTrContext b) = c.val ∧ (s.getO (O.lpeTrState b) = 1 ∨ s.getO (O.lpeTrState b) = 2) then
      s.traceEnd b true else s) s

/-- Several contexts turned OFF. -/
def ctxStops (s : State) (l : List (Fin 64)) : State := l.foldl (fun s c => s.ctxStop c) s

/-- A bank swap takes effect (R192, R193). -/
def doSwap (s : State) (c : Fin 64) : State :=
  let s := s.setO (O.lpeStatus c) (s.getO (O.lpeStatus c) ^^^ 0x4000)
  let s := (s.clrO (O.lpeStatus c) 0x2000).orO (O.lpeStatus c) 0x10
  let b := s.ctxBank c
  let x := s.ctx[c]
  let i' : Vector Int 4 := if s.bitO (O.lpeCfg c) 16 then Vector.replicate 4 0 else Vector.ofFn fun k : Fin 4 =>
    if k.val < s.ctxChans c then clampI x.integ[k] (bankS b (32 * k + 16) * 2048) (bankS b (32 * k + 20) * 2048)
    else x.integ[k]
  let s := (s.modCtx c fun x => { x with integ := i', swapAt := none }).when
    (!s.bitO (O.lpeCfg c) 16 && i' != x.integ) fun s => s.orO (O.lpeStatus c) 4
  let s := (s.showOut c).raise 0x0401 (0x4000 + 0x10 * c) ((if s.bitO (O.lpeStatus c) 14 then 256 else 0) + c)
  let s := s.modDisp fun d => { d with held := d.held.map fun p =>
    if p.code = 0x0403 then { p with arg := p.arg.filter (· != c.val) } else p }
  s.endAll (fun p => p.code == 0x0403 && p.arg == []) St.ok

/-- t_nominal of a context and the scale of a run (R186). -/
def runScale (s : State) (c : Fin 64) (at_ : Nat) : Rat :=
  if s.ctx[c].first then 1
  else clampQ (((at_ - s.ctx[c].lastAt : Nat) : Rat) / s.trigInForce (s.ctxGrid c)) (1 / 2) 2

/-- IN_FS and OUT_FS (R174). -/
def inFs (s : State) (c : Nat) : Rat := f32Val (bitsOf (s.getO (O.lpeUnits c)) 31 0)
def outFs (s : State) (c : Nat) : Rat := f32Val (bitsOf (s.getO (O.lpeUnits c)) 63 32)

/-- The linear limit of the DC link over OUT_FS, at most 1.0, in units of 2^−19 (R188). -/
def linLimit (s : State) (c : Nat) : Rat :=
  minQ 1 (if s.outFs c = 0 then 1 else s.dcl.vLink / sqrtQ 3 / s.outFs c) * 524288

/-- The clamp to the voltage circle: channel 0 to the radius, channel 1 to what is left of it (R188). -/
def inCircle (s : State) (c : Fin 64) (b : Nat) (l : List ChanOut) : List ChanOut :=
  let rho := if bitsOf (s.getO (O.lpeCfg c)) 14 12 = 1 then s.linLimit c else (bankS b 28 : Rat)
  match l with
  | c0 :: t =>
    let c0 := c0.within rho
    c0 :: (match t with
      | c1 :: t => c1.within (sqrtQ (rho * rho - (c0.out * c0.out : Int))) :: t
      | [] => [])
  | [] => []

/-- C22's integrator takes no positive increment: a phase is in limit, or Chisel holds (R352, R354). -/
def auxBarred (s : State) (c : Fin 64) : Bool := c == 22 && (s.aux.limit != 0 || s.aux.lastLimit != 0 || s.aux.chisel)

/-- The channels of a run with their clamps (R186, R188, R326, R329, R352). -/
def runChans (s : State) (c : Fin 64) (r : Run) : List ChanOut :=
  let b := s.ctxBank c
  let x := s.ctx[c]
  let l := ((List.finRange 4).take (s.ctxChans c)).map fun (k : Fin 4) =>
    chanRun b k.val (s.bitO (O.lpeCfg c) 15 || s.auxBarred c) x.first (s.runScale c r.at_) x.integ[k] x.deriv[k] x.ePrev[k]
      (if s.auxBarred c then 1 else x.satDir[k])
      r.sp[k] r.fb[k] r.ff[k]
  let l := if s.bitO (O.lpeCfg c) 17 then s.inCircle c b l else l
  match x.cap, l with
  | some r, c0 :: t => c0.atMost r :: t
  | _, l => l

/-- The scale and t_nominal of a run's prediction in seconds, in binary32 (R186, R194). -/
def runScaleF (s : State) (c : Fin 64) (at_ : Nat) : Flt := .round (s.runScale c at_)
def runNominalF (s : State) (c : Fin 64) : Flt := .round (s.trigInForce (s.ctxGrid c) / 800000000)

/-- The interval of a run's prediction in seconds (R186, R194). -/
def runTime (s : State) (c : Fin 64) (at_ : Nat) : Rat := s.runScale c at_ * s.trigInForce (s.ctxGrid c) / 800000000

/-- A fraction as S20 (R186). -/
def s20Of (q : Rat) : Int := sat20 (roundAway (q * 524288))

/-- The machine of a current context (R174). -/
def ctxMachine (c : Fin 64) : Fin 4 := ⟨c.val / 2 % 4, Nat.mod_lt _ (by decide)⟩

/-- The RL_PHASE model of a current context one interval ahead, from currents and voltages in units of 2^−19 of the full scales
(R194). -/
def rlNext (s : State) (c : Fin 64) (k : Fin 4) (i u : List Int) (t : Rat) : Int :=
  let m := ctxMachine c
  let x := (i.map fun (v : Int) => (v : Rat) / 524288 * s.inFs c) ++ (u.map fun (v : Int) => (v : Rat) / 524288 * s.outFs c)
  if s.inFs c = 0 then 0
  else s20Of (Config.rlPredict (s.getO (O.trxType m)) k (s.rlParams m) t x (s.elecOmega m) s.ctx[c].psiR / s.inFs c)

/-- A prediction as S20: one beyond the range saturates, and the spec states none for what is no number (R186, R194; log 5). -/
def s20Flt (c : Fin 64) (k : Fin 4) (at_ : Nat) : Flt → Int
  | .num q => s20Of q
  | .inf neg => if neg then -524288 else 524287
  | .nan => sat20 (Config.noNumber c k at_)

/-- A model parameter as binary32 (R190, R194). -/
def bankF (b k : Nat) : Flt := .ofBits (bitsOf b (8 * (128 + 4 * k) + 31) (8 * (128 + 4 * k)))

/-- FIRST_ORDER, in the order of its formula (R194). -/
def firstOrder (b : Nat) (y u a scale nominal : Flt) : Flt :=
  let g := ((bankF b 0).mul (u.sub ((bankF b 1).mul a))).sub y
  y.add (((g.mul scale).mul nominal).div (bankF b 2))

/-- DC_LINK as a voltage, in the order of its formula (R194). -/
def dcLink (b : Nat) (v u a t : Flt) : Flt :=
  let w := ((bankF b 0).mul u).sub ((bankF b 1).mul a)
  ((v.mul v).add ((((Flt.num 2).mul t).mul w).div (bankF b 2))).sqrt

/-- The prediction of a channel as S20, in binary32 arithmetic (R194). -/
def predict (s : State) (c : Fin 64) (k : Fin 4) (r : Run) : Int :=
  let b := s.ctxBank c
  let x := s.ctx[c]
  let fr (v : Int) : Flt := .num ((v : Rat) / 524288)
  let fs : Flt := .num (s.inFs c)
  match s.ctxModel c with
  | 1 => s20Flt c k r.at_ (firstOrder b (fr x.fbPrev[k]) (fr x.applied[k]) (fr r.aux[k]) (s.runScaleF c r.at_) (s.runNominalF c))
  | 2 => s.rlNext c k [x.fbPrev[0], x.fbPrev[1]] [x.applied[0], x.applied[1]] (s.runTime c r.at_)
  | 3 =>
    let t := (s.runScaleF c r.at_).mul (s.runNominalF c)
    s20Flt c k r.at_ ((dcLink b ((fr x.fbPrev[k]).mul fs) (fr x.applied[k]) (fr r.aux[k]) t).div fs)
  | _ => x.fbPrev[k]

/-- The residual of a run: the largest distance of feedback and prediction (R196); 0 without a model and on a first
run. -/
def residual (s : State) (c : Fin 64) (r : Run) : Int :=
  if s.ctxModel c = 0 ∨ s.ctx[c].first then 0
  else ((List.finRange 4).take (s.ctxChans c)).foldl (fun a k =>
    max a (sat20 (Int.natAbs (r.fb[k] - s.predict c k r)))) 0

/-- Two components turned from the frame of the active angle source into the observer's (R197). -/
def toObs (s : State) (c : Fin 64) (v : Int × Int) : Int × Int :=
  let t := s.elecAngle (ctxMachine c) ⟨c.val % 2, Nat.mod_lt _ (by decide)⟩ - (s.ctx[c].obsAngle : Rat) / 65536
  (sat20 (roundAway (v.1 * cosQ t - v.2 * sinQ t)), sat20 (roundAway (v.1 * sinQ t + v.2 * cosQ t)))

/-- One step of the observer of a current context with MODEL 2: its residual, and its state after the run. The loop goes on at its
speed, and corrects angle and speed while the d component of the back-EMF is not zero (R194, R197; log 26). -/
def obsStep (s : State) (c : Fin 64) (r : Run) : Int × Ctx :=
  let x := s.ctx[c]
  let b := s.ctxBank c
  let m := ctxMachine c
  let t := s.runTime c r.at_
  let i := s.toObs c (r.fb[0], r.fb[1])
  let u := s.toObs c (x.applied[0], x.applied[1])
  let res := if x.first then 0 else
    max (sat20 (Int.natAbs (i.1 - s.rlNext c 0 x.obsPrev.toList [u.1, u.2] t)))
      (sat20 (Int.natAbs (i.2 - s.rlNext c 1 x.obsPrev.toList [u.1, u.2] t)))
  let amps (v : Int) : Rat := (v : Rat) / 524288 * s.inFs c
  let volts (v : Int) : Rat := (v : Rat) / 524288 * s.outFs c
  let e (k : Nat) : Rat := Config.backEmf k (s.rlParams m) t
    [volts u.1, volts u.2, amps i.1, amps i.2, amps x.obsPrev[0], amps x.obsPrev[1]] x.obsRpm x.emf.toList
  let d := if e 0 = 0 then (0, 0) else Config.trackLoop (bankP b 0) (bankP b 1) t [e 0, e 1] x.obsAngle x.obsRpm
  let on := roundAway (x.obsRpm / 60 * (s.getO (O.trxPolePairs m) : Nat) * t * 65536)
  let a : Nat × Rat := (((x.obsAngle : Int) + on + d.1) % 65536 |>.toNat, x.obsRpm + d.2)
  (res, { x with obsPrev := #v[i.1, i.2], emf := #v[e 0, e 1], obsAngle := a.1, obsRpm := a.2,
                 psiR := if s.getO (O.trxType m) = 3 then Config.rotorFlux (s.rlParams m) t (amps r.fb[0]) x.psiR else x.psiR })

/-- The value of a trace node of a context's last committed run (R201). -/
def nodeVal (s : State) (c : Fin 64) (code : Nat) : Int := (s.ctx[c].nodes[code]?).getD 0

/-- A trace record (R201). -/
def traceRec (s : State) (b : Fin 4) (c : Fin 64) (at_ : Nat) (late sat trig : Bool) : List Byte :=
  toLe 4 (bitsOf at_ 31 3 * 8 + (if late then 4 else 0) + (if sat then 2 else 0) + (if trig then 1 else 0)) ++
    (toLe 8 (s.getO (O.lpeTrNodes b))).flatMap fun n =>
      if n.toNat = 0xFF then [] else toLe 4 (s20Bits (s.nodeVal c n.toNat))

/-- Whether a run meets the trigger of a buffer (R202). -/
def traceMeets (s : State) (b : Fin 4) (c : Fin 64) (late swapped implaus : Bool) : Bool :=
  let t := s.getO (O.lpeTrTrig b)
  let lvl := s20Int (bitsOf t 19 0)
  let v := s.nodeVal c (bitsOf t 27 20)
  let prev := s.tb[b].prev
  match bitsOf t 31 28 with
  | 0 => !late
  | 1 => !late && (match prev with | some p => decide (p < lvl ∧ lvl ≤ v) | none => false)
  | 2 => !late && (match prev with | some p => decide (lvl < p ∧ v ≤ lvl) | none => false)
  | 3 => !late && decide (lvl < v)
  | 4 => !late && decide (v < lvl)
  | 5 => !late && swapped
  | 6 => late
  | 7 => !late && implaus
  | _ => false

/-- One run shown to one trace buffer (R201, R202). -/
def traceOne (s : State) (b : Fin 4) (c : Fin 64) (at_ : Nat) (late sat swapped implaus : Bool) : State :=
  let st := s.getO (O.lpeTrState b)
  if s.getO (O.lpeTrContext b) ≠ c.val ∨ (st ≠ 1 ∧ st ≠ 2) then s
  else
    let hit := st == 1 && s.traceMeets b c late swapped implaus
    let x := s.tb[b]
    let due := x.runs + 1 ≥ s.getO (O.lpeTrDecim b)
    let r := s.traceRec b c at_ late sat hit
    let prev := if late then x.prev else some (s.nodeVal c (bitsOf (s.getO (O.lpeTrTrig b)) 27 20))
    let x' : Trace :=
      if hit then { runs := 0, prev, recs := x.recs ++ [r], trigAt := some at_ }
      else if due then
        { runs := 0, prev, trigAt := x.trigAt,
          recs := if st = 1 then (x.recs ++ [r]).drop (x.recs.length + 1 - s.getO (O.lpeTrPretrig b)) else x.recs ++ [r] }
      else { x with runs := x.runs + 1, prev }
    let s : State := { s with tb := s.tb.set b x' }.setO (O.lpeTrCount b) x'.recs.length
    let s : State := s.when hit fun s => ((s.setO (O.lpeTrState b) 2).setO (O.lpeTrTrigAxt b) at_).setO (O.lpeTrTrigIndex b)
      (x'.recs.length - 1)
    if s.getO (O.lpeTrState b) = 2 ∧ s.getO (O.lpeTrLength b) ≤ x'.recs.length then s.traceEnd b false else s

/-- One run shown to every trace buffer (R202). -/
def traceRun (s : State) (c : Fin 64) (at_ : Nat) (late sat swapped implaus : Bool) : State :=
  (List.finRange 4).foldl (fun s b => s.traceOne b c at_ late sat swapped implaus) s

/-- The commit of a run: outputs, integrators, filter and model states, residual counter and clamp directions together
(R189, R196, R197); HF gets the objects on channel 3, and keeps those it had where it is full (R30). The second value tells whether an implausibility was declared. -/
def commitRun (s : State) (c : Fin 64) (r : Run) : State × Bool :=
  let l := s.runChans c r
  let res := s.residual c r
  let b := s.ctxBank c
  let x := s.ctx[c]
  let put (v : Vector Int 4) (f : ChanOut → Int) : Vector Int 4 := Vector.ofFn fun k : Fin 4 =>
    match l[k.val]? with
    | some o => f o
    | none => v[k]
  let satP := l.any (·.satP)
  let satI := l.any (·.satI)
  let satO := l.any (·.satO)
  let beyond := s.ctxModel c != 0 && !x.first && decide (bankP b 6 * 524288 < res)
  let ex := if s.ctxModel c = 0 then 0 else if beyond then x.excess + 1 else x.excess - 1
  let sustain := (bankP b 7).floor.toNat
  let declared := beyond && (ex == sustain || (decide (sustain < ex) && !s.bitO (O.lpeStatus c) 12))
  let isObs := s.ctxModel c == 2
  let obs := s.obsStep c r
  let y := if isObs then obs.2 else x
  let ores := if isObs then obs.1 else 0
  let pred : List Int := (List.finRange 4).map fun k => if s.ctxModel c = 0 then 0 else s.predict c k r
  let pad (f : ChanOut → Int) : List Int := (List.range 4).map fun k => match l[k]? with | some o => f o | none => 0
  let nodes := pad (·.sp) ++ pad (·.fb) ++ pad (·.err) ++ pad (·.p) ++
    pad (fun o => sat20 (roundAway ((o.i : Rat) / 2048))) ++ pad (·.d) ++ pad (·.ff) ++ pad (·.out) ++ pred ++
    [res, ores, 0, 0]
  let s := s.modCtx c fun x => { x with
    run := none, integ := put x.integ (·.i), ePrev := put x.ePrev (·.err), deriv := put x.deriv (·.d),
    satDir := put x.satDir (·.dir), fbPrev := put x.fbPrev (·.fb), outc := put x.outc (·.out), first := false,
    lastAt := r.at_, excess := ex, lateRuns := 0, clean := if satO then 0 else x.clean + 1, nodes,
    applied := if s.ctxDest c ≥ 1 ∧ s.ctxDest c ≤ 4 then x.applied else put x.outc (·.out),
    obsPrev := y.obsPrev, emf := y.emf, obsAngle := y.obsAngle, obsRpm := y.obsRpm, psiR := y.psiR }
  let s := s.orO (O.lpeStatus c) ((if satP then 2 else 0) + (if satI then 4 else 0) + (if satO then 8 else 0) +
    (if declared then 0x1040 else 0))
  let s := s.when (ex == 0) fun s => s.clrO (O.lpeStatus c) 0x1000
  let s := s.xingSend 3 fun s => ((s.modCtx c fun x => { x with sentAt := s.now }).showOut c).setO (O.lpeResidual c)
    (s20Bits res + (if c.val < 8 then s20Bits ores * 2 ^ 32 else 0))
  let s := s.when declared fun s => s.raise 0x0400 (0x4000 + 0x10 * c) (bitsOf (s20Bits res) 19 0 * 4096 + c)
  (s.traceRun c r.at_ false (satP || satI || satO) r.swapped declared, declared)

/-- A late run: LATE and bit 1 of the late flags, EV_LATE, the count, NO_INPUT where an input has not arrived; nothing of the run is
committed (R34, R181). -/
def lateRun (s : State) (c : Fin 64) (r : Run) : State :=
  let s := s.modCtx c fun x => { x with run := none, lateRuns := x.lateRuns + 1 }
  let s := s.orO (O.lpeStatus c) (0x20 + (if r.missing.isEmpty then 0 else 0x80))
  let s := (s.incSat (O.lpeLateCount c) 0xFFFFFFFF).orO O.sysLateFlags 2
  let s := s.raise 0x0043 (O.lpeCfg c) (1 + (r.deadline % 2 ^ 24) * 256) 1
  s.traceRun c r.at_ true false r.swapped false

end State

end Sys2Proof.Machine
end

