-- ==== Sys2Proof/Machine/Planner.lean ====
section
/-! DEFINITION. The dithered carrier (R125, R126): the block table, the drawing of period lengths, the prediction of
coming periods. -/

namespace Sys2Proof.Machine

/-- One step of the 16-bit Galois register (R126). -/
def lfsrNext (s : Nat) : Nat := if s % 2 = 1 then (s / 2) ^^^ 0xB400 else s / 2

/-- The unshuffled offsets of a block: 128 drawn depths, each with its opposite (R126). -/
def blockDraw (depth : Nat) : Nat → Nat → List Int → Nat × List Int
  | 0, st, acc => (st, acc.reverse)
  | n + 1, st, acc =>
    let st := lfsrNext st
    let u : Int := (st % (depth + 1) : Nat)
    blockDraw depth n st (-u :: u :: acc)

/-- Two entries of a list exchanged. -/
def swapAt (l : List Int) (i j : Nat) : List Int := (l.set i (l[j]?.getD 0)).set j (l[i]?.getD 0)

/-- The shuffle of a block, from entry `k` down to 1 (R126). -/
def blockShuffle : Nat → Nat → List Int → Nat × List Int
  | 0, st, l => (st, l)
  | k + 1, st, l =>
    let st := lfsrNext st
    blockShuffle k st (swapAt l (k + 1) (st % (k + 2)))

/-- The table of a block from an LFSR state (R126). -/
def blockTable (depth st : Nat) : Nat × List Int :=
  let d := blockDraw depth 128 st []
  blockShuffle 255 d.1 d.2

namespace Carrier

/-- The table of the next block built with the settings then in force (R126). -/
def build (c : Carrier) (nominal dither mode seed : Nat) : Carrier :=
  let st := if c.seed = seed then c.lfsr else seed
  let t := blockTable dither st
  { c with lfsr := t.1, seed, off := t.2, cum := 0, prev := 0, drawn := 0, cfg := { nominal, dither, mode } }

/-- Period `drawn` of the block drawn into `next` (R126). -/
def draw (c : Carrier) : Carrier :=
  let cum := c.cum + (c.cfg.nominal : Rat) * (c.off[c.drawn]?.getD 0 : Int) / 1000
  let r := roundAway cum
  { c with cum, prev := r, next := ((c.cfg.nominal : Int) + r - c.prev).toNat, drawn := c.drawn + 1 }

/-- The start of a period: the period drawn before begins, and the one after it is drawn; at period 255 the table of the
next block is built first (R126). -/
def advance (c : Carrier) (nominal dither mode seed : Nat) : Carrier :=
  let c := { c with start := c.start + c.cur, cur := c.next, valley := c.valley + 1, half := false, mode := c.nextMode, nominal := c.nextNominal }
  let c := (if c.drawn = 256 then c.build nominal dither mode seed else c).draw
  { c with nextMode := c.cfg.mode, nextNominal := c.cfg.nominal }

/-- The start of a group at an instant: its first table is built, period 0 drawn and begun, period 1 drawn. The LFSR is seeded anew at
each start; a write of the seed it already has changes nothing (R126; log 113). -/
def begin_ (c : Carrier) (nominal dither mode seed at_ : Nat) : Carrier :=
  let c := (({ c with seed := 0 }.build nominal dither mode seed).draw)
  { { c with
      running := true, start := at_, cur := c.next, valley := 0, half := false, mode, nextMode := mode, nominal,
      nextNominal := nominal, planned := at_ }.draw with
    fresh := [], last := [], due := [] }

end Carrier

namespace State

/-- The settings of a group: nominal period, depth, mode and seed (R125, R136). CG7 ignores its dither while it follows
AUX_SYNC (R125). -/
def cgNominal (s : State) (g : Nat) : Nat := (roundAway (800000000 / (s.getO (O.pwmFreq g) : Rat))).toNat
def cgDither (s : State) (g : Nat) : Nat :=
  if g = 7 ∧ s.bitO O.auxFlags 10 then 0 else s.getO (O.pwmDither g)

/-- A group's carrier advanced by one period with the settings in force. -/
def cgNext (s : State) (g : Fin 8) (c : Carrier) : Carrier :=
  c.advance (s.cgNominal g) (s.cgDither g) (s.getO (O.pwmMode g)) (s.getO (O.pwmSeed g))

/-- The start of the first period of a group at or after an instant, by the lengths known in advance (R150). -/
def periodFrom (s : State) (g : Fin 8) (t : Nat) : Nat → Carrier → Nat
  | 0, c => c.start + c.cur
  | n + 1, c => if t ≤ c.start + c.cur then c.start + c.cur else s.periodFrom g t n (s.cgNext g c)

/-- The first period of a group that begins at least 200 µs from now (R150, R280, R303). -/
def firstPeriod (s : State) (g : Fin 8) : Nat := s.periodFrom g (s.now + 160000) 256 s.cgs[g]

/-- The end of the current period of a group, and the plan cutoff before it (R33); under double update the half that
is running counts. -/
def cgPeriodEnd (s : State) (g : Fin 8) : Nat := s.cgs[g].start + s.cgs[g].cur
def cgHalfEnd (s : State) (g : Fin 8) : Nat :=
  if s.cgs[g].mode.testBit 1 ∧ s.cgs[g].half = false then s.cgs[g].start + s.cgs[g].cur / 2 else s.cgPeriodEnd g

/-- The last sampling instant of a trigger word's grid that the current period, or for KIND 2 axle time, has reached; none where
it has none (R33, R177). The peak lies at half the period, an odd length rounded down (log 104). -/
def gridLast (s : State) (t : Nat) : Option Nat :=
  let div := bitsOf t 23 16
  match bitsOf t 31 30 with
  | 1 =>
    let c := s.cgs[(⟨bitsOf t 28 26 % 8, Nat.mod_lt _ (by decide)⟩ : Fin 8)]
    let peak := c.start + c.cur / 2
    let past := decide (peak ≤ s.now)
    if c.running = false ∨ div = 0 ∨ s.now < c.start then none
    else match bitsOf t 25 24 with
      | 1 => if c.valley % div = 0 then some c.start else none
      | 2 => if past ∧ c.valley % div = 0 then some peak else none
      | 3 => if past ∧ (2 * c.valley + 1) % div = 0 then some peak else if 2 * c.valley % div = 0 then some c.start else none
      | _ => none
  | 2 => if bitsOf t 29 0 = 0 then none else some (s.now / (8 * bitsOf t 29 0) * (8 * bitsOf t 29 0))
  | _ => none

/-- The effective deadline of a run that starts now; only KIND 1 has a carrier period that consumes the output (R184). -/
def runDeadline (s : State) (c : Fin 64) : Nat :=
  let t := s.ctxGrid c
  let d := s.now + min (s.getO (O.lpeDeadline c)) (s.trigShortest t).floor.toNat
  if 1 ≤ s.ctxDest c ∧ s.ctxDest c ≤ 6 ∧ bitsOf t 31 30 = 1 then
    let g : Fin 8 := ⟨bitsOf t 28 26 % 8, Nat.mod_lt _ (by decide)⟩
    min d (s.cgHalfEnd g - s.getO O.pwmPlanLead)
  else d

end State

end Sys2Proof.Machine
end

