-- ==== Sys2Proof/Machine/TrxOps.lean ====
section
/-! DEFINITION. The shared operations of traction (chapters "Traction field control" and "Six-phase continuity"):
measured quantities, the envelope of R155, the slew limiter of R160, the current references of R163, the machine states
of R144 and the loss of a set (R268 to R277). -/

namespace Sys2Proof.Machine

/-- One pass of the limiter of R160: the step toward `goal` within `budget` seconds, split at the band edge. -/
def limiterStep (band zeroRate slewRate goal t budget : Rat) : Rat × Rat :=
  let up := decide (t < goal)
  let inside := decide (absQ t < band) || (decide (t ≠ 0) && decide (absQ t = band) && decide (0 < t) != up)
  let rate := if inside then zeroRate else slewRate
  let edge := if inside then (if up then band else -band) else goal
  let toward := decide (t < edge) == up && decide (t ≠ edge)
  let stop := if toward && decide (absQ (edge - t) < absQ (goal - t)) then edge else goal
  let step := minQ (absQ (stop - t)) (rate * budget)
  (if up then t + step else t - step, if rate = 0 then 0 else budget - step / rate)

/-- The limiter of R160: from `t` toward `goal` for `dt` seconds. A sample crosses at most two band edges, so four
passes end it. -/
def limiter (band zeroRate slewRate goal : Rat) : Nat → Rat → Rat → Rat
  | 0, t, _ => t
  | n + 1, t, budget =>
    if t = goal ∨ budget ≤ 0 then t
    else
      let r := limiterStep band zeroRate slewRate goal t budget
      limiter band zeroRate slewRate goal n r.1 r.2

/-- A value moved toward a goal by at most `d`. -/
def toward (goal t d : Rat) : Rat := if absQ (goal - t) ≤ d then goal else if t < goal then t + d else t - d

/-- The iteration of R163: id and iq, and whether it converged. -/
def mtpa (surface : Bool) (psi dl k ts : Rat) : Nat → Rat → Rat × Rat × Bool
  | 0, iq => (0, iq, false)
  | n + 1, iq =>
    let id := if surface then 0 else psi / (2 * dl) - sqrtQ (psi * psi / (4 * dl * dl) + iq * iq)
    let q := (iq + ts / (k * (psi - dl * id))) / 2
    if absQ (q - iq) < 1 / 20 then (id, q, true)
    else if n = 0 then (id, q, false)
    else mtpa surface psi dl k ts n q

/-- Linear interpolation over points (speed, motoring, generating) of R142; above the last point its values hold. -/
def curveAt (gen : Bool) (n : Rat) : List (Rat × Rat × Rat) → Rat
  | [] => 0
  | [(_, a, b)] => if gen then b else a
  | (x0, a0, b0) :: (x1, a1, b1) :: t =>
    let y0 := if gen then b0 else a0
    let y1 := if gen then b1 else a1
    if n < x1 then (if x1 = x0 then y0 else y0 + (y1 - y0) * (n - x0) / (x1 - x0))
    else curveAt gen n ((x1, a1, b1) :: t)

/-- The used points of a curve: the first, and those after it up to the first whose speed is 0 (R142). -/
def curvePoints (v : Nat) : List (Rat × Rat × Rat) :=
  let p (k : Nat) : Rat × Rat × Rat :=
    (f32Val (bitsOf v (96 * k + 31) (96 * k)), f32Val (bitsOf v (96 * k + 63) (96 * k + 32)),
     f32Val (bitsOf v (96 * k + 95) (96 * k + 64)))
  p 0 :: (((List.range 15).map fun k => p (k + 1)).takeWhile fun x => decide (x.1 ≠ 0))

/-- A bound with the bits of the sources that fix it. -/
structure Bound where
  v : Rat
  src : Nat
  deriving DecidableEq, Repr

/-- A further source by its value: the smaller bound governs, an equal one joins (R155). -/
def Bound.cap (b : Bound) (bit : Nat) (x : Rat) : Bound :=
  if x < b.v then { v := x, src := 2 ^ bit } else if x = b.v then { b with src := b.src ||| 2 ^ bit } else b

/-- A further source by a factor, which fixes the bound where it lowers it (R155). -/
def Bound.scale (b : Bound) (bit : Nat) (f : Rat) : Bound :=
  if b.v * f < b.v then { v := b.v * f, src := 2 ^ bit } else b

namespace State

/-- What a condition that must hold for a time has held since. -/
def heldSince (now : Nat) (on : Bool) (old : Option Nat) : Option Nat := if on then some (old.getD now) else none

/-! ### Measured quantities -/

/-- The result word of a logical result as CT holds it, its validity, its VALUE and its stamp (R222, R240). -/
def resWord (s : State) (j : Nat) : Nat := bitsOf ((kGet s.adc.ct j).getD 0) 31 0
def resOk (s : State) (j : Nat) : Bool := (s.resWord j).testBit 31
def resVal (s : State) (j : Nat) : Int := toSigned 20 (bitsOf (s.resWord j) 19 0)
def resFrac (s : State) (j : Nat) : Rat := (s.resVal j : Rat) / 524288
def resAt (s : State) (j : Nat) : Nat := bitsOf ((kGet s.adc.ct j).getD 0) 95 32

/-- Phase currents U and V of a set as fractions (R243), and the d and q currents in amperes (R585; log 27). -/
def phaseU (m : Fin 4) (k : Fin 2) : Nat := 64 * m + 2 * k
def phaseV (m : Fin 4) (k : Fin 2) : Nat := 64 * m + 32 + k
def measDq (s : State) (m : Fin 4) (k : Fin 2) : Rat × Rat :=
  let fs := s.inFs (setCtx m k)
  let a := s.resFrac (phaseU m k)
  let b := (a + 2 * s.resFrac (phaseV m k)) / sqrtQ 3
  let t := s.elecAngle m k
  ((a * cosQ t + b * sinQ t) * fs, (b * cosQ t - a * sinQ t) * fs)

/-- Torque of a pair of currents per set: 1.5 × pole pairs × flux (R163, R165). -/
def setTorque (s : State) (m : Fin 4) (k : Fin 2) (id iq : Rat) : Rat :=
  let c : Rat := 3 / 2 * (s.getO (O.trxPolePairs m) : Nat)
  if s.getO (O.trxType m) = 3 then
    c * s.getQ (O.trxLm m) / s.getQ (O.trxLr m) * s.ctx[setCtx m k].psiR * iq
  else c * (s.getQ (O.trxPsi m) * iq + (s.getQ (O.trxLd m) - s.getQ (O.trxLq m)) * id * iq)

/-- The working sets of a machine, and their number (R267). -/
def workSets (s : State) (m : Fin 4) : List (Fin 2) := [0, 1].filter fun k => s.setWorks m k
def nSets (s : State) (m : Fin 4) : Nat := (s.workSets m).length

/-- The sets that bits 3 and 5 of the envelope count: the WORKING ones, a RETURNING one only where it carries the torque
alone (R275, R276). -/
def carrySets (s : State) (m : Fin 4) : List (Fin 2) :=
  let l := ([0, 1] : List (Fin 2)).filter fun k => s.setSt m k == 0
  if l.isEmpty then s.workSets m else l

/-- Torque estimated from measured currents (R165). -/
def torqueEst (s : State) (m : Fin 4) : Rat :=
  (s.workSets m).foldl (fun a k => a + s.setTorque m k (s.measDq m k).1 (s.measDq m k).2) 0

/-- A set's share of the torque: equal shares, or the ramp of a return (R163, R280). -/
def share (s : State) (m : Fin 4) (k : Fin 2) : Rat :=
  let w (j : Fin 2) : Rat := match s.trx[m].sets[j].rampAt with
    | some t => minQ (1 / 2) (((s.now - t : Nat) : Rat) / 2 / (s.getO (O.trxSsReturnRamp m) * msTicks : Nat))
    | none => 0
  if s.setSt m k = 2 then (if s.setSt m (1 - k) = 1 then 1 else w k)
  else if s.setSt m k ≠ 0 then 0
  else if s.setSt m (1 - k) = 2 then 1 - w (1 - k)
  else if s.setSt m (1 - k) = 0 then 1 / 2 else 1

/-! ### The envelope -/

/-- Whether torque in a direction is motoring at a speed (R141). -/
def motoring (n : Rat) (pos : Bool) : Bool := decide (absQ n < 5) || (decide (0 < n) == pos)

/-- Torque at `i_max` on the current-reference law, over the sets counted (R155 bit 3). -/
def currentTorque (s : State) (m : Fin 4) : Rat :=
  let i := s.getQ (O.trxIMax m)
  let ty := s.getO (O.trxType m)
  let psi := s.getQ (O.trxPsi m)
  let dl := s.getQ (O.trxLq m) - s.getQ (O.trxLd m)
  let id := if ty = 3 then s.getQ (O.trxIdMag m) else if ty = 1 ∨ dl = 0 then 0
    else (psi / (2 * dl) - sqrtQ (psi * psi / (4 * dl * dl) + 2 * i * i)) / 2
  (s.carrySets m).foldl (fun a k => a + s.setTorque m k id (sqrtQ (i * i - id * id))) 0

/-- The speed term that turns watts into newton metres (R155 bit 2). -/
def perWatt (n : Rat) : Rat := 60 / (2 * piQ * maxQ (absQ n) 100)

/-- The smallest host limit (R155 bit 4). -/
def hostLimit (s : State) (m : Fin 4) : Rat :=
  ((List.range 4).foldl (fun a h => min a (s.getO (O.trxHostLimit m h))) 1000 : Nat) / 1000

/-- The bound of bits 0 to 8 for a side (R155). `bms` is the source of bit 8, `therm` the factor of bit 5. -/
def slowBound (s : State) (m : Fin 4) (pos : Bool) (bms : Option Rat) (therm : Rat) : Bound :=
  let n := s.trx[m].speed
  let mot := motoring n pos
  let curve := curveAt (!mot) (absQ n) (curvePoints (s.getO (O.trxEnvCurve m)))
  let b : Bound := { v := curve, src := 1 }
  let b := b.cap 1 (s.getQ (if pos then O.trxTorqueLimitPos m else O.trxTorqueLimitNeg m))
  let b := b.cap 2 (s.getQ (if mot then O.trxPowerMot m else O.trxPowerGen m) * 1000 * perWatt n)
  let b := b.cap 3 (s.currentTorque m)
  let b := b.cap 4 (s.hostLimit m * curve)
  let barred := if pos then !s.bitO (O.trxDirAllow m) 0 && decide (-(s.getQ (O.trxDirCreep m)) < n)
    else !s.bitO (O.trxDirAllow m) 1 && decide (n < s.getQ (O.trxDirCreep m))
  let b := if barred then b.cap 7 0 else b
  let b := match bms with
    | some x => b.cap 8 x
    | none => b
  let b := b.scale 5 therm
  if s.onObserver m then b.scale 6 ((s.getO (O.trxObsTorque m) : Nat) / 1000) else b

/-- The bound that HF sends: bit 9, a LIMIT override, caps the bound of bits 0 to 8 (R83, R155). -/
def sentBound (s : State) (m : Fin 4) (b : Bound) : Bound :=
  if s.override m = 1 then b.cap 9 (b.v * (s20Int s.disp.limits[m] : Rat) / 524288) else b

/-- f_chop of R300: 1, or falling to 0 over 1 ms. -/
def fChop (s : State) : Rat :=
  match s.dcl.fallAt with
  | none => 1
  | some t => clampQ (1 - ((s.now - t : Nat) : Rat) / msTicks) 0 1

/-- The factor of the regenerative taper (R297), 0 without a valid link source (R287). -/
def regenFactor (s : State) : Rat :=
  if s.dcl.noSrc then 0
  else
    let a := s.getQ O.dclTaperStart
    let b := s.getQ O.dclTaperEnd
    minQ (if b = a then 0 else clampQ ((b - s.dcl.vLink) / (b - a)) 0 1) s.fChop

/-- The bound that CT uses for a side: bits 10 to 13 on what HF sent (R155, R157, R165, R275, R297). -/
def fastBound (s : State) (m : Fin 4) (pos : Bool) : Bound :=
  let t := s.trx[m]
  let n := t.speed
  let sent := if pos then t.sentPos else t.sentNeg
  let b : Bound := { v := sent, src := if pos then t.srcPos else t.srcNeg }
  let mot := motoring n pos
  let b := match t.fwBound with
    | some x => if mot then b.cap 10 x else b
    | none => b
  let max := s.getQ (if pos then O.trxSpeedMaxFwd m else O.trxSpeedMaxRev m)
  let along := decide (n ≠ 0) && decide (0 < n) == pos
  let b := if along then b.scale 11 (clampQ ((max - absQ n) / s.getQ (O.trxSpeedTaper m)) 0 1) else b
  let b := if mot then b else b.scale 12 s.regenFactor
  if s.setSt m 0 = 1 ∨ s.setSt m 0 = 2 ∨ s.setSt m 1 = 1 ∨ s.setSt m 1 = 2 then
    b.cap 13 ((s.getO (O.trxSsTorque m) : Nat) * sent / 1000)
  else b

/-- The envelope written where the hosts see it. -/
def showEnv (s : State) (m : Fin 4) (p n : Bound) : State :=
  (((s.modTrx m fun t => { t with envPos := p.v, envNeg := n.v }).setQ (O.trxEnvPos m) p.v).setQ (O.trxEnvNeg m) n.v).setO
    (O.trxEnvSrc m) (p.src + n.src * 65536)

/-! ### Machine states -/

/-- The contexts of a machine. -/
def trxCtxs (m : Fin 4) : List (Fin 64) := [setCtx m 0, setCtx m 1, fwCtx m, spdCtx m]

/-- A machine's state changed, with EV_TRX_STATE (R172); SC learns it with a checkpoint word (R413). -/
def trxSet (s : State) (m : Fin 4) (st : Nat) : State :=
  let old := s.trxSt m
  let s := s.setO (O.trxState m) st
  if old = st then s
  else (s.raise 0x0380 (0x3800 + 0x100 * m) (s.getO (O.trxFault m) * 65536 + st * 256 + old)).sendSafe

/-- A pending TRX_ENABLE or TRX_SET_RETURN of a machine ends. -/
def endTrx (s : State) (m : Fin 4) (code status : Nat) : State :=
  s.endAll (fun p => p.code == code && p.group == some m.val) status

/-- Entry to ENABLED: the four requests and the output are 0 (R146). The model's choice, where R162 counts the age from the last accepted
write only: before the first write it counts from this entry (log 189). -/
def enterEnabled (s : State) (m : Fin 4) : State :=
  let s := s.modTrx m fun t => { t with
    target := 0, out := 0, speedRef := 0, idRef := 0, iqRef := 0, reqAt := s.now, aged := false }
  let s := [O.trxTorqueReq m, O.trxIdReq m, O.trxIqReq m, O.trxSpeedReq m, O.trxTorqueOut m].foldl (fun s o => s.setO o 0) s
  s.trxSet m 3

/-- The FORCE frames of legs that carried a loss action and whose links are not LOST: the rule decides them from now on (R123,
R145). -/
def endLossAct (s : State) (l : Fin 40) : State :=
  if s.links[l].forceLoss ∧ s.links[l].st ≠ .lost then (s.modLink l fun k => { k with forceLoss := false }).sendForce l else s

/-- Switching ends: contexts OFF, chosen periods and returns dropped; the planner stops at the next period (R144). The spec does not
say what `angle_src` becomes then: it goes back to 0, without an event (log 119). -/
def trxStop (s : State) (m : Fin 4) : State :=
  let s := (machineLinks m).foldl (fun (s : State) l => s.endLossAct l) s
  let s := s.ctxStops (trxCtxs m)
  let s := s.modTrx m fun t => { t with
    preset := 0, period := none, ova := false, handover := false, fwAt := none, fwOff := none, fwBound := none,
    sets := t.sets.map fun x => { x with period := none, preset := false, rampAt := none } }
  let s := s.setO (O.trxAngleSrc m) 0
  s.endTrx m 0x0313 St.fault

/-- The end of switching into DISABLED (R152); a pending enable ends with ST_STATE (log 28). -/
def trxDisable (s : State) (m : Fin 4) : State := ((s.trxStop m).endTrx m 0x0310 St.state).trxSet m 0

/-- Entry to FAULT or SAFE with its cause; a pending enable ends with ST_FAULT (R16; log 28). -/
def trxFail (s : State) (m : Fin 4) (st fault : Nat) : State :=
  ((((s.trxStop m).endTrx m 0x0310 St.fault).modTrx m fun t => { t with overSafe := false }).setO (O.trxFault m) fault).trxSet m st

/-- Every machine whose legs are switching enters SAFE with a cause. -/
def safeSwitching (s : State) (fault : Nat) : State :=
  (List.finRange 4).foldl (fun s m => if s.switching m then s.trxFail m 5 fault else s) s

/-- TRX_DISABLE with MODE 0: STOPPING while the legs switch, else DISABLED (R152). -/
def trxStopReq (s : State) (m : Fin 4) : State :=
  if s.trxSt m = 2 ∨ s.trxSt m = 3 then s.trxSet m 4 else if s.trxSt m = 1 then s.trxDisable m else s

/-! ### Sets -/

/-- The state and cause of a set written (R282). -/
def putSet (s : State) (m : Fin 4) (k : Fin 2) (st cause fault : Nat) : State :=
  let v := s.getO (O.trxSsState m)
  let v := putBits v (3 + 2 * k) (2 + 2 * k) st
  let v := putBits v (11 + 4 * k) (8 + 4 * k) cause
  s.setO (O.trxSsState m) (putBits v (23 + 8 * k) (16 + 8 * k) fault)

/-- A set's STATE field alone. -/
def putSetSt (s : State) (m : Fin 4) (k : Fin 2) (st : Nat) : State :=
  s.setO (O.trxSsState m) (putBits (s.getO (O.trxSsState m)) (3 + 2 * k) (2 + 2 * k) st)

/-- The return of a set aborted: EV_TRX_SET_RETURN 3, and its command ends with ST_FAULT (R280, R283). -/
def returnAbort (s : State) (m : Fin 4) (k : Fin 2) : State :=
  let s := s.raise 0x0387 (0x3800 + 0x100 * m) (3 * 256 + k) k
  s.endAll (fun p => p.code == 0x0313 && p.arg == [m.val, k.val]) St.fault

/-- The record of a loss: state, cause, FAULT byte, count, SINGLE_SET and EV_TRX_SET_LOST (R268, R281, R284). -/
def recordLoss (s : State) (m : Fin 4) (k : Fin 2) (cause fault link : Nat) : State :=
  let s := s.putSet m k 1 cause fault
  let s := (s.incSat (O.trxSsLosses m) 0xFFFFFFFF).orO (O.trxFlags m) 1
  let s := s.modSet m k fun x => { x with
    lossAt := (s.now :: x.lossAt).take 3, eligible := none, period := none, preset := false, rampAt := none }
  s.raise 0x0386 (0x3800 + 0x100 * m) (fault * 2 ^ 24 + link * 65536 + cause * 256 + k) k

/-- A set of a switching machine is declared LOST (R268, R270, R276, R277). -/
def setLost (s : State) (m : Fin 4) (k : Fin 2) (cause fault link : Nat) : State :=
  if !s.switching m || !s.setWorks m k then s
  else
    let other := 1 - k
    let back := s.setSt m k == 2
    let s := (s.recordLoss m k cause fault link).when back fun s => s.returnAbort m k
    let s := ((s.forceLegs (setLinks m k) true).ctxStop (setCtx m k)).sendSafe
    if s.getO (O.trxSets m) ≠ 3 then s.trxFail m 6 5
    else if s.setSt m other = 1 then s.trxFail m 6 4
    else s.modTrx m fun t => { t with handover := !t.ova }

/-- The declaration of a link's loss carried to its set (R268 cause 2). -/
def setLostByLink (s : State) (l : Fin 40) (cause fault : Nat) : State :=
  match linkMachine l with
  | some m => s.setLost m (linkSet l) cause fault l
  | none => s

/-- A LOST set meets the conditions of R279; else the first failing link or 0xFF. -/
def returnBar (s : State) (m : Fin 4) (k : Fin 2) : Option Nat :=
  match (setLinks m k).find? fun l => !s.countsReady l || s.links[l].st == .degraded || s.links[l].mode == 3 ||
      s.links[l].fault / 4 != 0 with
  | some l => some l
  | none => if s.trxSt m = 3 && s.trx[m].speedOk && !s.trx[m].ova then none else some 0xFF

/-- Since when a LOST set has been eligible to return without a break, judged by what holds now (R279). -/
def eligStep (s : State) (m : Fin 4) : State :=
  ([0, 1] : List (Fin 2)).foldl (fun (s : State) k =>
    let ok := s.setSt m k == 1 && (s.returnBar m k).isNone
    s.modSet m k fun x => { x with eligible := heldSince s.now ok x.eligible }) s

/-- The same for the machine of a link whose report or state has changed (R279). -/
def eligLink (s : State) (l : Fin 40) : State := match linkMachine l with
  | some m => s.eligStep m
  | none => s

/-- A return begins: RETURNING, the preset goes to CT, EV_TRX_SET_RETURN 1 (R280). -/
def returnStart (s : State) (m : Fin 4) (k : Fin 2) : State :=
  let s := (s.putSetSt m k 2).modSet m k fun x => { x with preset := true, eligible := none }
  s.raise 0x0387 (0x3800 + 0x100 * m) (256 + k) k

/-- The preset of a current context: the steady state of the RL_PHASE model at the measured currents; the integrators take it less
the proportional terms of the references the loop has (R198). -/
def presetCtx (s : State) (m : Fin 4) (k : Fin 2) : State :=
  let c := setCtx m k
  let w := s.elecOmega m
  let i := s.measDq m k
  let t := s.trx[m].sets[k]
  let rs := s.getQ (O.trxRs m)
  let o := s.outFs c
  let vd := if i.1 = 0 ∧ (s.trx[m].speed = 0 ∨ i.2 = 0) then 0 else rs * i.1 - (if s.trx[m].speed = 0 then 0 else w * s.getQ (O.trxLq m) * i.2)
  let vq := if i.2 = 0 ∧ s.trx[m].speed = 0 then 0
    else rs * i.2 + (if s.trx[m].speed = 0 then 0 else w * (s.getQ (O.trxLd m) * i.1 + s.getQ (O.trxPsi m)))
  let u (v : Rat) : Int := if o = 0 then 0 else sat20 (roundAway (v / o * 524288))
  let b := s.ctxBank c
  let fs := s.inFs c
  let fb (x : Rat) : Int := if fs = 0 then 0 else sat20 (roundAway (x / fs * 524288))
  let p (ch : Nat) (sp x : Rat) : Int := sat20 (gainMul (bankI b (32 * ch)) (sat20 (fb sp - fb x)))
  let s := s.modCtx c fun x => { x with
    outc := (x.outc.set 0 (u vd)).set 1 (u vq), lastAt := s.now,
    applied := (x.applied.set 0 (u vd)).set 1 (u vq),
    integ := (x.integ.set 0 ((u vd - p 0 t.idIn i.1) * 2048)).set 1 ((u vq - p 1 t.iqIn i.2) * 2048) }
  s.showOut c

end State

end Sys2Proof.Machine
end

