-- ==== Sys2Proof/Machine/EdgeOps.lean ====
section
/-! DEFINITION. Edges (chapter "Gate links and edge-timed PWM"): dead time (R130), strength codes (R132), the pattern of a
leg (R128), dropped pulses (R129), the placement of frames (R118, R582) and edges commanded at once. Instants are in fine
steps of 156.25 ps (8 per tick). -/

namespace Sys2Proof.Machine

/-- An edge to be placed. -/
structure PlanEdge where
  target : Nat
  sw : Nat
  drive : Nat
  meas : Bool
  natural : Option Bool
  dt : Nat
  entry : Nat
  deriving DecidableEq, Repr

/-- One transition of a leg: its instant, the state it leads to, the dead time, the polarity where it is natural, the
entry of its strength code; `old` for the one committed before. -/
structure Tr where
  at_ : Nat
  sw : Nat
  dt : Nat
  natural : Option Bool
  entry : Nat
  old : Bool
  deriving DecidableEq, Repr

/-- The latest boundary of an edge no later than `lim`, and DELAY × 8 + FINE (R118, R582 step 1). -/
def placeOne (e lim target : Nat) : Option (Nat × Nat) :=
  if target < e then none
  else
    let b := min ((target - e) / 80 * 10) lim
    if target - e - 8 * b < 2048 then some (b, target - e - 8 * b) else none

/-- Step 1 of R582: the edges in descending order of target, each frame ending before the next later one starts; answers
the placed edges in ascending order, or the target of the first edge that has no boundary. -/
def placeDesc (e : Nat) : Nat → List PlanEdge → List (PlanEdge × Nat × Nat) → (List (PlanEdge × Nat × Nat)) ⊕ Nat
  | _, [], acc => .inl acc
  | lim, x :: t, acc =>
    match placeOne e lim x.target with
    | some (b, r) => placeDesc e (b - 50) t ((x, b, r) :: acc)
    | none => .inr x.target

/-- Earlier EDGE commands still pending at the driver when a frame ends at `b` (R582; log 36). -/
def pendingAt (e b : Nat) (targets : List Nat) : Nat := (targets.filter fun t => decide (8 * b + e < t)).length

/-- Step 2 of R582: no frame starts before `free`, none ends while four earlier commands are pending. -/
def placeCheck (e free : Nat) : List Nat → List (PlanEdge × Nat × Nat) → Option Nat
  | _, [] => none
  | old, (x, b, _) :: t =>
    if b < free + 50 ∨ 4 ≤ pendingAt e b old then some x.target else placeCheck e free (x.target :: old) t

/-- The placement of a plan's edges on a link (R582). -/
def placeAll (e free : Nat) (old : List Nat) (l : List PlanEdge) : (List (PlanEdge × Nat × Nat)) ⊕ Nat :=
  match placeDesc e (2 ^ 64) l.reverse [] with
  | .inr t => .inr t
  | .inl p =>
    match placeCheck e free old p with
    | some t => .inr t
    | none => .inl p

/-- The EDGE word (R103). -/
def edgeWord (sw drive delay fine seq : Nat) (meas : Bool) : Nat :=
  sw * 2 ^ 22 + drive * 2 ^ 18 + delay * 2 ^ 10 + fine * 2 ^ 7 + seq * 2 ^ 3 + (if meas then 4 else 0)

/-- The states of a leg over a window for an on-interval that begins at fraction `a` and lasts `d`, 2 for on (R128). -/
def pattern (a d : Rat) : List (Rat × Bool) :=
  let a := a - a.floor
  if d ≤ 0 then [(0, false)]
  else if 1 ≤ d then [(0, true)]
  else if a + d ≤ 1 then [(0, a == 0)] ++ (if a = 0 then [] else [(a, true)]) ++ (if a + d = 1 then [] else [(a + d, false)])
  else [(0, true), (a + d - 1, false), (a, true)]

/-- The transitions of one plan as fractions of its window: `half` is none under single update, else whether the second
half is planned (R128). -/
def legPattern (centre : Bool) (half : Option Bool) (c : LegCmd) : List (Rat × Bool) :=
  match half with
  | none => pattern ((if centre then 1 / 2 - c.duty / 2 else 0) + c.shift) c.duty
  | some h =>
    if centre then
      let sw := decide (1 / 2 ≤ c.shift)
      let r := 2 * (if sw then c.shift - 1 / 2 else c.shift)
      if h == sw then (if c.duty ≤ 0 then [] else [(1 - minQ c.duty 1 + r, true)])
      else (if 1 ≤ c.duty then [] else [(maxQ c.duty 0 + r, false)])
    else pattern (2 * c.shift) c.duty

/-- Transitions that lead to the state a leg already has are left out (R128). -/
def dedupe : Nat → List Tr → List Tr
  | _, [] => []
  | sw, x :: t => if x.sw = sw && !x.old then dedupe sw t else x :: dedupe x.sw t

/-- The instant from which a transition's new switch is on: after the dead time where the other switch was on; GL31 has none (R129, R298). -/
def Tr.onAt (x : Tr) (prev : Nat) : Nat := if x.old || prev == 0 || x.sw == 0 then x.at_ else x.at_ + x.dt

/-- The intervals of a leg: index of the transition that begins each, and its length after dead time (R129). -/
def intervals : Nat → Nat → List Tr → List (Nat × Nat)
  | i, prev, x :: y :: t => (i, y.at_ - x.onAt prev) :: intervals (i + 1) x.sw (y :: t)
  | _, _, _ => []

/-- The pulse that begins with transition `i` dropped: its transitions of this update go (R129). -/
def dropPulse (l : List Tr) (i : Nat) : List Tr :=
  dedupe 3 ((l.zipIdx.filter fun p => p.1.old || (p.2 != i && p.2 != i + 1)).map Prod.fst)

/-- The shortest of a list of intervals. -/
def shortest (l : List (Nat × Nat)) : Option (Nat × Nat) :=
  l.foldl (fun (a : Option (Nat × Nat)) x => match a with
    | none => some x
    | some y => if x.2 < y.2 then some x else some y) none

/-- The edges of a leg's transitions; GL31 switches its low side only (R128, R298). -/
def trEdges (l : Nat) : Nat → List Tr → List PlanEdge
  | _, [] => []
  | prev, x :: t =>
    let mk (target sw : Nat) (off : Bool) : PlanEdge :=
      { target, sw, drive := 0, meas := if l = 31 then !off else off && decide (l < 27), natural := if off then x.natural else none,
        dt := x.dt, entry := x.entry }
    (if x.old then [] else if prev = 0 ∨ x.sw = 0 then [mk x.at_ x.sw (x.sw == 0)]
     else [mk x.at_ 0 true, mk (x.at_ + x.dt) x.sw false]) ++ trEdges l x.sw t

/-- The drops of R129: short pulses first, then the shortest pulse of a span of 300 ticks with more than four edges.
`old` holds the targets of committed edges. -/
def dropShort (l minF : Nat) (old : List Nat) : Nat → List Tr → List Tr
  | 0, x => x
  | n + 1, x =>
    match (intervals 0 0 x).find? fun p => p.2 < minF with
    | some p => dropShort l minF old n (dropPulse x p.1)
    | none =>
      let ts := old ++ (trEdges l 0 x).map (·.target)
      match ts.find? fun t => decide (4 < (ts.filter fun u => decide (t ≤ u) && decide (u < t + 2400)).length) with
      | some t =>
        (match shortest ((intervals 0 0 x).filter fun p => match x[p.1 + 1]? with
            | some y => decide (t ≤ y.at_) && decide (y.at_ < t + 2400)
            | none => false) with
         | some p => dropShort l minF old n (dropPulse x p.1)
         | none => x)
      | none => x

namespace State

/-- The current of a leg as a fraction, positive out of the leg; none without a bound channel (R130). -/
def legCurrent (s : State) (l : Fin 40) : Option Rat :=
  if h : l.val < 24 then
    let m : Fin 4 := ⟨l.val / 6, by omega⟩
    let k := linkSet l
    let u := s.resFrac (phaseU m k)
    let v := s.resFrac (phaseV m k)
    some (if l.val % 3 = 0 then u else if l.val % 3 = 1 then v else -u - v)
  else if l.val < 27 then some (s.resFrac (256 + (l.val - 24)))
  else if l.val < 29 then some (s.resFrac 288)
  else if l.val < 31 then some (-(s.resFrac 288))
  else if l.val = 31 then none
  else if (s.getO O.auxISense).testBit (l.val - 32) then some (s.resFrac (322 + (l.val - 32)))
  else none

/-- P and F of R130 in fine steps. -/
def dtProg (s : State) (l : Fin 40) : Nat := 8 * s.getO (O.pwmDeadtime l)
def dtLow (s : State) (l : Fin 40) : Nat := 8 * max (s.getO (O.pwmDtFloor l)) (s.links[l].caps / 256)

/-- The dead time of a transition, and its polarity (true negative) where it is natural at or above the threshold (R130). A plan takes
the trim as it stands; the model's choice, where R131 says 'from the next planned period': under edge-aligned double update a new trim
enters the plan of the second half of the same period (log 188). -/
def deadTime (s : State) (l : Fin 40) (toHigh : Bool) : Nat × Option Bool :=
  let p := s.dtProg l
  match s.legCurrent l with
  | none => (p, none)
  | some i =>
    if !s.bitO (O.pwmAdapt l) 0 || decide (absQ i * 524288 < (s20Int (s.getO (O.pwmIThr (linkCg l))) : Rat)) then (p, none)
    else
      let neg := decide (i < 0)
      if neg == toHigh then
        let trim := toSigned 32 (s.getO ((if neg then O.pwmDtTrimNeg else O.pwmDtTrimPos) l))
        ((max (s.dtLow l : Int) ((p : Int) + trim)).toNat, some neg)
      else ((max (s.dtLow l : Int) ((p : Int) - 1280)).toNat, none)

/-- The entry of the drive table for a transition (R132). -/
def driveEntry (s : State) (l : Fin 40) (toHigh : Bool) : Nat :=
  (if toHigh then 8 else 0) + min 7 (8 * absQ ((s.legCurrent l).getD 0)).floor.toNat

/-- The strength code an entry holds. -/
def driveCode (s : State) (l : Fin 40) (entry : Nat) : Nat := bitsOf (s.getO (O.pwmDriveTable l)) (8 * entry + 7) (8 * entry)

/-- A planned transition of a leg; the node of GL31 rises as its low side turns off (R132, R298). -/
def mkTr (s : State) (l : Fin 40) (at_ sw : Nat) : Tr :=
  let up := if l.val = 31 then sw == 0 else sw == 2
  let d := s.deadTime l up
  { at_, sw, dt := d.1, natural := d.2, entry := s.driveEntry l up, old := false }

/-- The edge latency E of a link, and the end of the last frame committed to its line. -/
def edgeLat (s : State) (l : Fin 40) : Nat := s.getO (O.glkLatency l)
def lineFree (s : State) (l : Fin 40) : Nat := s.links[l].edges.foldl (fun a e => max a e.frameEnd) (max s.now s.links[l].lineEnd)

/-- Placed edges committed: frames on the line, SEQ counted, the leg's state noted (R103, R582). -/
def commitEdges (s : State) (l : Fin 40) (p : List (PlanEdge × Nat × Nat)) : State :=
  p.foldl (fun s x =>
    let e := x.1
    let seq := (s.links[l].seq + 1) % 16
    let drive := s.driveCode l e.entry
    let w := edgeWord e.sw drive (x.2.2 / 8) (x.2.2 % 8) seq e.meas
    (s.send (.link l kEdge (toLe 3 w ++ [crc8 (toLe 3 w)]) (x.2.1 - 50))).modLink l fun k => { k with
      seq, legSw := e.sw, legAt := e.target,
      edges := k.edges ++ [{ target := e.target, sw := e.sw, drive, seq, meas := e.meas, frameEnd := x.2.1, delay := x.2.2 / 8,
                             fine := x.2.2 % 8, natural := e.natural, dt := e.dt, entry := e.entry }] }) s

/-- Edges that telemetry no longer concerns and that lie more than 300 ticks back leave the list, but for the last. -/
def pruneEdges (s : State) (l : Fin 40) : State :=
  s.modLink l fun k =>
    let keep (e : Edge) : Bool := e.meas || decide (8 * s.now < e.target + 2400)
    { k with edges := (k.edges.filter fun e => !keep e).getLast?.toList ++ k.edges.filter keep }

/-- Transitions placed on a link, dropping what R582 step 3 cannot place. -/
def placeTrs (s : State) (l : Fin 40) : Nat → List Tr → State
  | 0, _ => s
  | n + 1, x =>
    let old := s.links[l].edges.map (·.target)
    match placeAll (s.edgeLat l) (s.lineFree l) old (trEdges l 0 x) with
    | .inl p => s.commitEdges l p
    | .inr t =>
      match shortest ((intervals 0 0 x).filter fun p => match x[p.1]?, x[p.1 + 1]? with
          | some a, some b => (decide (a.at_ ≤ t) && decide (t ≤ a.at_ + a.dt) && !a.old) || (decide (b.at_ ≤ t) && decide (t ≤ b.at_ + b.dt))
          | _, _ => false) with
      | some p => s.placeTrs l n (dropPulse x p.1)
      | none => s

/-- The mode of the period that a window belongs to (R126). -/
def windowMode (s : State) (g start : Nat) : Nat :=
  let c := s.cgs[g % 8]'(Nat.mod_lt _ (by decide))
  if start < c.start + c.cur then c.mode else c.nextMode

/-- The shift of S1's carrier, a part of the period (R128, R136). -/
def setShift (l : Fin 40) (mode : Nat) : Rat := if l.val < 24 ∧ linkSet l = 1 ∧ mode.testBit 2 then 1 / 2 else 0

/-- The transitions of a leg over a window of the carrier, after the one that led to its present state; start and length
in ticks. An instant that is no whole number of fine steps is rounded to nearest, half away from zero (R128; log 114). -/
def legTrs (s : State) (g : Nat) (l : Fin 40) (c : LegCmd) (start len : Nat) (half : Option Bool) : List Tr :=
  let mode := s.windowMode g start
  let on := if l.val = 31 then 1 else 2
  let off := if l.val = 31 then 0 else 1
  let head : Tr := { at_ := s.links[l].legAt, sw := s.links[l].legSw, dt := 0, natural := none, entry := 0, old := true }
  let ts := (legPattern (mode.testBit 0) half { c with shift := c.shift + setShift l mode }).map fun p =>
    s.mkTr l (8 * start + (roundAway (p.1 * (8 * len : Nat))).toNat) (if p.2 then on else off)
  dedupe 3 (head :: ts)

/-- One leg planned over a window of the carrier (R128, R129, R582). -/
def planLeg (s : State) (g : Nat) (l : Fin 40) (c : LegCmd) (start len : Nat) (half : Option Bool) : State :=
  let s := s.pruneEdges l
  s.placeTrs l 8 (dropShort l (8 * s.getO (O.pwmMinPulse g)) (s.links[l].edges.map (·.target)) 12 (s.legTrs g l c start len half))

/-- The edges that planning a leg would place with no pulse dropped (R195). -/
def legWanted (s : State) (g : Nat) (l : Fin 40) (c : LegCmd) (start len : Nat) (half : Option Bool) : Nat :=
  (trEdges l 0 (s.legTrs g l c start len half)).length

/-- Fine steps for which the high side is commanded on, from `t` to `e`: the edges ahead as target and state, `sw` the state before
them. A dead time counts as the state it leads to (R195). -/
def highSteps : Nat → Nat → Nat → List (Nat × Nat) → Nat
  | sw, t, e, [] => if sw = 2 then e - t else 0
  | sw, t, e, (t', sw') :: rest =>
    (if sw = 2 then min t' e - t else 0) +
      highSteps (if sw' = 0 then (match rest with | (_, n) :: _ => n | [] => sw) else sw') (max t t') e rest

/-- Whether each of a run of edges belongs to a transition that turns the high side on: its own, or the 00 before it (R132). -/
def turnsHigh : List (Nat × Nat) → List Bool
  | [] => []
  | p :: t => (p.2 == 2 || p.2 == 0 && t.head?.any fun q => q.2 == 2) :: turnsHigh t

/-- The earliest instant in fine steps from which edges at offsets can be commanded, every frame in turn (R118). -/
def edgeBase (s : State) (l : Fin 40) (seq : List (Nat × Nat)) : Nat :=
  let b0 := (s.lineFree l + 9) / 10 * 10 + 50
  seq.zipIdx.foldl (fun a p => max a (8 * (b0 + 50 * p.2) + s.edgeLat l - p.1.1)) 0

/-- Edges commanded at offsets in fine steps from an instant; the two edges of a transition carry one entry's code (R118, R132, R347). -/
def edgesAt (s : State) (l : Fin 40) (base : Nat) (seq : List (Nat × Nat)) : State :=
  let es : List PlanEdge := (seq.zip (turnsHigh seq)).map fun p =>
    { target := base + p.1.1, sw := p.1.2, drive := 0, meas := false, natural := none, dt := 0, entry := s.driveEntry l p.2 }
  match placeAll (s.edgeLat l) (s.lineFree l) (s.links[l].edges.map (·.target)) es with
  | .inl p => s.commitEdges l p
  | .inr _ => s

/-- Edges commanded at once, with the instant of offset 0 (R118, R347). -/
def edgesNow (s : State) (l : Fin 40) (seq : List (Nat × Nat)) : State × Nat :=
  let s := s.pruneEdges l
  (s.edgesAt l (s.edgeBase l seq) seq, s.edgeBase l seq)

/-- Edges that were withdrawn, sent again from the first high-side pulse on that can still be placed; `whole` takes a pulse only with
both its ends (R352, R354). -/
def replay (s : State) (l : Fin 40) (whole : Bool) : List Edge → State
  | [] => s
  | e :: t =>
    let starts := e.sw == 0 && (t.head?.any fun (x : Edge) => x.sw == 2) && (!whole || decide (3 ≤ t.length))
    if !starts then s.replay l whole t
    else
      match placeAll (s.edgeLat l) (s.lineFree l) (s.links[l].edges.map (·.target)) ((e :: t).map fun (x : Edge) =>
          { target := x.target, sw := x.sw, drive := 0, meas := x.meas, natural := x.natural, dt := x.dt, entry := x.entry }) with
      | .inl p => s.commitEdges l p
      | .inr _ => s.replay l whole t

/-- The edges of a link whose frames can still be withdrawn (R103). -/
def pendingEdges (s : State) (l : Fin 40) : List Edge := s.links[l].edges.filter fun (e : Edge) => decide (s.symAt < e.frameEnd)

/-- Fine steps for which a leg is commanded on from now to an instant in fine steps. -/
def highAhead (s : State) (l : Fin 40) (until_ : Nat) : Nat :=
  let ahead := s.links[l].edges.filter fun (e : Edge) => decide (8 * s.now < e.target)
  highSteps (s.legNow l) (8 * s.now) until_ (ahead.map fun (e : Edge) => (e.target, e.sw))

/-- The three phase voltages of a set as fractions of the link voltage about the mid-point, from the d and q outputs in
volts at the set's angle; the common part is free, 0 where all three are 0 (R188, R207; log 38). -/
def phaseDuties (s : State) (m : Fin 4) (k : Fin 2) (vd vq : Rat) : Vector Rat 3 :=
  let v := s.dcl.vLink
  let duty (z x : Rat) : Rat := if v = 0 then 1 / 2 else clampQ (1 / 2 + (x + z) / v) 0 1
  if vd = 0 ∧ vq = 0 then Vector.replicate 3 (1 / 2)
  else
    let t := s.elecAngle m k
    let al := vd * cosQ t - vq * sinQ t
    let be := vd * sinQ t + vq * cosQ t
    let a := al
    let b := -al / 2 + be * sqrtQ 3 / 2
    let c := -al / 2 - be * sqrtQ 3 / 2
    let z := Config.zeroSequence a b c v
    #v[duty z a, duty z b, duty z c]

/-- The update of a group: commands by link for the coming plan. -/
def putCmds (s : State) (g : Fin 8) (l : List (Nat × LegCmd)) : State :=
  s.modCg g fun c => { c with fresh := l.foldl (fun a p => kPut a p.1 p.2) c.fresh }

/-- The update of a traction set from its current context's outputs (R188). -/
def trxUpdate (s : State) (m : Fin 4) (k : Fin 2) : State :=
  let c := setCtx m k
  let o := s.outFs c
  let x := s.ctx[c].outc
  let d := s.phaseDuties m k ((x[0] : Rat) / 524288 * o) ((x[1] : Rat) / 524288 * o)
  s.putCmds ⟨m.val, by omega⟩ ((setLinks m k).zipIdx.map fun p => (p.1.val, { duty := d.toList.getD p.2 (1 / 2), shift := 0 }))

/-- The update of a PFC leg from C(16 + k) (R313), and of the bridge from C20 and C21 (R315; log 39). -/
def pfcUpdate (s : State) (k : Fin 3) : State :=
  let c : Fin 64 := ⟨16 + k.val, by omega⟩
  let d := clampQ ((s.ctx[c].outc[0] : Rat) / 524288 * s.outFs c) 0 1
  let pv := bitsOf (s.getO O.chgInput) 3 0 == 3
  let single := s.chg.live == 1
  let d := if !pv && single && k.val == 2 then (if Config.lineSine 0 s.now < 0 then 1 else 0) else d
  let sh : Rat := if pv then (k.val : Rat) / 3 else if single && k.val == 1 then 1 / 2 else 0
  s.putCmds 4 [(24 + k.val, { duty := d, shift := sh })]
def dabUpdate (s : State) : State :=
  let o (c : Fin 64) : Rat := clampQ ((s.ctx[c].outc[0] : Rat) / 524288 * s.outFs c) 0 (1 / 2)
  let a := o 20 / 2
  s.putCmds 5 [(27, { duty := 1 / 2, shift := 0 }), (28, { duty := 1 / 2, shift := 1 / 2 }), (29, { duty := 1 / 2, shift := a }),
    (30, { duty := 1 / 2, shift := a + o 21 / 2 })]

end State

end Sys2Proof.Machine
end

