-- ==== Sys2Proof/Machine/AdcOps.lean ====
section
/-! DEFINITION. The shared operations of the converters (chapter "Analogue conversion"): passes (R214 to R219), the result
word and its arithmetic (R222 to R229), injected requests (R218 to R221), calibration (R231 to R234), cover (R235 to R238). -/

namespace Sys2Proof.Machine

/-- OFF in 1/64 code and GAIN in 2^−16 of a coefficient set, own or the partner's (R223). -/
def calOff (cal : Nat) (partner : Bool) : Int := roundAway (f32Val (bitsOf cal (if partner then 95 else 31) (if partner then 64 else 0)) * 64)
def calGain (cal : Nat) (partner : Bool) : Int :=
  roundAway (f32Val (bitsOf cal (if partner then 127 else 63) (if partner then 96 else 32)) * 65536)

/-- A calibrated sample before sat20 (R223). -/
def calSample (cal : Nat) (partner : Bool) (code : Nat) : Int :=
  roundAway (((64 * (code : Int) - calOff cal partner) * calGain cal partner : Int) / (4194304 : Rat))

/-- The 10-bit code of a comparator threshold: what the own-converter coefficients make of a value in units of 2^−19 (R223, R304,
R347; log 186). -/
def thresholdCode (cal : Nat) (v : Rat) : Nat :=
  let g := calGain cal false
  if g = 0 then 1023 else (clampI (roundAway ((v * 4194304 / g + calOff cal false) / 1024)) 0 1023).toNat

/-- A result word (R222). -/
def resultWord (reason : Nat) (sat : Bool) (kind entry : Nat) (v : Int) : Nat :=
  (if reason = 0 then 2 ^ 31 else 0) + reason * 2 ^ 28 + (if sat then 2 ^ 27 else 0) + kind * 2 ^ 25 + entry * 2 ^ 20 +
    ofSigned 20 v

/-- The settling count of a filter setting (R225). -/
def settleCount (f : Nat) : Nat :=
  if bitsOf f 7 4 = 1 then 10 * 2 ^ bitsOf f 3 0 else if bitsOf f 7 4 = 2 then 2 else 0

/-- The middle of three values. -/
def median3 (a b c : Int) : Int := max (min a b) (min (max a b) c)

/-- One value through a filter: its new state and its output before sat20 (R225). -/
def filterStep (f : Nat) (st : Option (Int × Int)) (x : Int) : Option (Int × Int) × Int :=
  if bitsOf f 7 4 = 1 then
    let y := match st with
      | some p => roundAway (((p.1 * 2 ^ bitsOf f 3 0 + (x * 256 - p.1) : Int) : Rat) / (2 ^ bitsOf f 3 0 : Nat))
      | none => x * 256
    (some (y, 0), roundAway ((y : Rat) / 256))
  else if bitsOf f 7 4 = 2 then
    let p := st.getD (x, x)
    (some (p.2, x), median3 p.1 p.2 x)
  else (none, x)

/-- Clocks of a conversion entry (R214). -/
def entryClocks (w : Nat) : Nat := if bitOf w 31 then 40 else bitsOf w 22 16 + 32

/-- The raw code of an input voltage in microvolts at a gain exponent, to the nearest code and clipped (R209; log 105). -/
def rawCode (gain : Nat) (uV : Int) : Nat :=
  (clampI (8192 + roundAway (((2 ^ gain * (uV - 1250000) * 16384 : Int) : Rat) / 2500000)) 0 16383).toNat

/-- The first CV clock at or after an instant (R32; log 104). -/
def cvAt (t : Nat) : Nat := (t + 3) / 4 * 4

/-- The sampling instant and the end of the entry at the front of a pass: 40 clocks of conversion for a held entry, else the
acquisition and 32 clocks (R214). -/
def Adc.sampledAt (a : Adc) (c : Conv) : Nat := if c.hold then a.trigAt else a.entryAt + 4 * bitsOf c.entry 22 16
def Adc.convEnds (a : Adc) (c : Conv) : Nat := a.entryAt + (if c.hold then 160 else 4 * bitsOf c.entry 22 16 + 128)

namespace State

/-- The link comparator's threshold loaded from `hw_ov` through the own-converter coefficients of the link result (R304; log 186). -/
def hwThreshold (s : State) : State :=
  let v := s.getQ O.dclHwOv / s.getQ O.dclVFs * 524288
  { s with dcl := { s.dcl with hwCode := thresholdCode (s.getO (O.adcResCal (s.getO O.dclVSrc))) v } }

/-- The converters, one converter, one pair, one logical result changed. -/
def modAdc (s : State) (f : AdcAll → AdcAll) : State := { s with adc := f s.adc }
def modConv (s : State) (k : Fin 12) (f : Adc → Adc) : State :=
  s.modAdc fun a => { a with conv := a.conv.set k (f a.conv[k]) }
def modPair (s : State) (p : Fin 6) (f : AdcPair → AdcPair) : State :=
  s.modAdc fun a => { a with pair := a.pair.set p (f a.pair[p]) }
def resSt (s : State) (j : Nat) : ResSt := (kGet s.adc.res j).getD ResSt.idle
def putRes (s : State) (j : Nat) (r : ResSt) : State := s.modAdc fun a => { a with res := kSet a.res ResSt.idle j r }

/-- The pair of a converter and its partner (R208). -/
def pairOf (k : Fin 12) : Fin 6 := ⟨k.val / 2, by omega⟩
def partner (k : Fin 12) : Fin 12 := ⟨2 * (k.val / 2) + (1 - k.val % 2), by omega⟩
def convOf (p : Fin 6) (odd : Bool) : Fin 12 := ⟨2 * p.val + (if odd then 1 else 0), by split <;> omega⟩

/-- STATE of a converter (R217), and its change. -/
def adcSt (s : State) (k : Fin 12) : Nat := bitsOf (s.getO (O.adcStatus k)) 10 8
def setAdcSt (s : State) (k : Fin 12) (st : Nat) : State :=
  s.setO (O.adcStatus k) (putBits (s.getO (O.adcStatus k)) 10 8 st)

/-- The idle state of a converter: OFF without a sequence, else WAIT (R217). -/
def adcIdle (s : State) (k : Fin 12) : State := s.setAdcSt k (if s.getO (O.adcSeqLen k) = 0 then 0 else 1)

/-- The converter that runs the entries of converter `k`'s commands: the partner while `k` is OFFLINE (R221). -/
def runsOn (s : State) (k : Fin 12) : Fin 12 := if s.adcSt k = 5 then partner k else k

/-- The entries that a pass of a converter runs: its sequence, or the cover sequence (R211, R236, R237). -/
def passItems (s : State) (k : Fin 12) : List Conv :=
  let item (j : Nat) (hold cover : Bool) : Conv :=
    { res := j, hold, cover, entry := s.getO (O.adcResEntry j), filter := s.getO (O.adcResFilter j), cal := s.getO (O.adcResCal j) }
  if s.bitO (O.adcStatus k) 11 then
    (List.range 8).filterMap fun i =>
      let w := bitsOf (s.getO (O.adcPCover (k.val / 2))) (16 * i + 15) (16 * i)
      if w = 0xFFFF then none else some (item (bitsOf w 8 0) (bitOf w 15) true)
  else (List.range (s.getO (O.adcSeqLen k))).map fun e => item (32 * k.val + e) (bitOf (s.getO (O.adcResEntry (32 * k.val + e))) 31) false

/-- What the writes since the last pass change as a pass begins (R226, R227, R229). -/
def applyMarks (s : State) (c : Conv) : State :=
  let r := s.resSt c.res
  if r.mark = 0 then s
  else
    let r := if r.mark.testBit 0 then { r with chan := true, sum := 0, n := 0, sat := false } else r
    let r := if r.mark.testBit 1 then { r with sum := 0, n := 0, sat := false } else r
    let r := if r.mark.testBit 2 then { r with filt := none, settle := settleCount c.filter } else r
    s.putRes c.res { r with mark := 0 }

/-- The next CV clock. -/
def cvNext (s : State) : Nat := (s.now / 4 + 1) * 4

/-- The regular pass of a converter is unfinished: in RUN, and in INJECT entered from RUN (R219). -/
def unfinished (s : State) (k : Fin 12) : Bool := s.adcSt k == 2 || (s.adcSt k == 3 && s.adc.conv[k].injRun)

/-- An entry or coefficient as an injected conversion uses it: inside an unfinished pass the value with which the pass began
(R226; log 109). -/
def setting (s : State) (k : Fin 12) (id : Nat) : Nat := (kGet s.adc.conv[k].old id).getD (s.getO id)

/-- The value before a write is kept for the unfinished pass of a converter (R226). -/
def keepOld (s : State) (k : Fin 12) (id v : Nat) : State :=
  if s.unfinished k && (kGet s.adc.conv[k].old id).isNone then s.modConv k fun a => { a with old := kPut a.old id v } else s

/-- A pass begins at an instant (R214, R226). -/
def startPass (s : State) (k : Fin 12) (t : Nat) : State :=
  let l := s.passItems k
  let s := (l.foldl applyMarks s).modConv k fun a => { a with todo := l, entryAt := t, startPend := false, injRun := false, old := [] }
  if l.isEmpty then s.adcIdle k else s.setAdcSt k 2

/-- Late work of a converter: bit 3 and EV_LATE of the class, whose source is 0 (R37, R49). -/
def adcLate (s : State) (k : Fin 12) (t : Nat) : State := s.raiseLate 3 0 t k

/-- The calibration acquisition of a pair begins as soon as both converters are idle (R232, R233; log 30). -/
def calBegin (s : State) (p : Fin 6) (t : Nat) : State :=
  let idle (k : Fin 12) : Bool := s.adcSt k ≤ 1 && s.adc.conv[k].queue.isEmpty
  if s.adc.pair[p].cal.isSome && idle (convOf p false) && idle (convOf p true) then
    (((s.underWay fun h => h.code == 0x0503 && h.arg == [p.val]).modPair p fun x => { x with calAt := t }).setAdcSt (convOf p false) 4).setAdcSt
      (convOf p true) 4
  else s

/-- What a converter goes on with from an instant: its injected queue, then a pass that waits for it, then the entry that was
interrupted, else it is idle (R218, R219, R233). -/
def adcRest (s : State) (k : Fin 12) (t : Nat) : State :=
  let a := s.adc.conv[k]
  if !a.queue.isEmpty then (s.modConv k fun a => { a with injAt := t }).setAdcSt k 3
  else if a.startPend then s.startPass k t
  else if !a.todo.isEmpty then (s.modConv k fun a => { a with entryAt := t, injRun := false }).setAdcSt k 2
  else ((s.modConv k fun a => { a with injRun := false, old := [] }).adcIdle k).calBegin (pairOf k) t

/-- A trigger meets an unfinished pass: it is abandoned (R37, R219). -/
def adcAbandon (s : State) (k : Fin 12) (t : Nat) : State :=
  if s.unfinished k then
    (((s.orO (O.adcStatus k) 8).incSat (O.adcAbandons k) 0xFFFFFFFF).adcLate k t).modConv k fun a => { a with todo := [], old := [] }
  else s

/-- A regular trigger fires at a converter, the hold stages freezing at the instant `t` (R214, R219, R232). -/
def adcFire (s : State) (k : Fin 12) (t : Nat) : State :=
  let st := s.adcSt k
  if st = 4 ∨ st = 5 ∨ (s.passItems k).isEmpty then s
  else
    let s := (s.adcAbandon k t).modConv k fun a => { a with trigAt := t }
    if st = 3 then s.modConv k fun a => { a with startPend := true }
    else if !s.adc.conv[k].queue.isEmpty then
      (s.modConv k fun a => { a with startPend := true, injRun := st == 2 }).adcRest k t
    else s.startPass k t

/-- A raw code at an end of the range: OVERRANGE and EV_ADC_OVERRANGE, the first in a millisecond (R230). -/
def overrange (s : State) (k : Fin 12) (j code : Nat) : State :=
  if (code = 0 ∨ code = 16383) ∧ s.evFresh (0x0501, 0x4800 + 0x10 * k, 0) then
    (s.orO (O.adcStatus k) 4).raise 0x0501 (0x4800 + 0x10 * k) (j + (if code = 0 then 0 else 0x10000))
  else s

/-- The gain exponent of an input in force at a sampling instant (R226). -/
def gainChgs (s : State) (input : Nat) : List GainChg := (kGet s.adc.gain input).getD []
def gainAt (s : State) (input at_ : Nat) : Nat :=
  match (s.gainChgs input).find? fun (g : GainChg) => decide (at_ < g.at_) with
  | some g => g.before
  | none => s.getO (O.adcAinGain input)

/-- Whether a conversion sampled at an instant counts against a gain change, and the counts after it (R226, R227). A change that no
conversion to come can meet is forgotten. -/
def gainBad (s : State) (input at_ : Nat) : Bool := (s.gainChgs input).any fun (g : GainChg) => decide (0 < g.left) && decide (g.at_ ≤ at_)
def gainUse (s : State) (input at_ : Nat) : State :=
  let p : Fin 6 := ⟨input / 16 % 6, by omega⟩
  let seen := min s.adc.conv[convOf p false].trigAt s.adc.conv[convOf p true].trigAt
  let l := ((s.gainChgs input).map fun (g : GainChg) => if g.at_ ≤ at_ then { g with left := g.left - 1 } else g).filter fun (g : GainChg) =>
    g.left != 0 || decide (seen < g.at_)
  s.modAdc fun a => { a with gain := kSet a.gain [] input l }

/-- A write of an input's gain: in force from the next CV clock, three conversions invalid, the partial sums of its entries discarded
(R226, R227, R229). -/
def gainWrite (s : State) (input before : Nat) : State :=
  let cut := s.cvNext
  ((List.range 64).foldl (fun (s : State) n =>
    let j := 64 * (input / 16) + n
    if bitsOf (s.getO (O.adcResEntry j)) 3 0 = input % 16 then s.putRes j { s.resSt j with gainCut := some cut } else s) s).modAdc fun a =>
      { a with gain := kSet a.gain [] input (s.gainChgs input ++ [{ at_ := s.cvNext, before, left := 3 }]) }

/-- A regular result delivered: `adc.resJ.value`, and CT's copy unless the channel is full (R226, R30). -/
def deliver (s : State) (j word at_ : Nat) : State :=
  let s := if j < 384 then s.setO (O.adcResValue j) (word + at_ * 2 ^ 32) else s
  s.xingSend 0 fun s => s.modAdc fun a => { a with ct := kPut a.ct j (word + at_ * 2 ^ 32) }

/-- One regular conversion through calibration, averaging, shift and filter (R222 to R229). -/
def convert (s : State) (k : Fin 12) (c : Conv) (code at_ : Nat) : State :=
  let j := c.res
  let input := 16 * (k.val / 2) + bitsOf c.entry 3 0
  let away := decide (j / 32 ≠ k.val)
  let kind := if c.cover then 2 else 0
  let r := s.resSt j
  let r := if r.gainCut.any fun t => decide (t ≤ at_) then { r with sum := 0, n := 0, sat := false, gainCut := none } else r
  let s0 := calSample c.cal away code
  let v0 := sat20 s0
  let clip := decide (code = 0 ∨ code = 16383)
  let reason :=
    if s.adc.pair[pairOf k].refBad then 5 else if r.chan then 1 else if s.gainBad input at_ then 2
    else if away && calGain c.cal true == 0 then 4 else 0
  let r := if reason = 1 ∨ reason = 2 then { r with sum := 0, n := 0, sat := false } else r
  let r := { r with chan := false }
  let s := (s.gainUse input at_).overrange k j code
  let a := bitsOf c.entry 30 27
  if reason ≠ 0 then
    (s.putRes j r).deliver j (resultWord (if reason = 4 ∧ 0 < r.settle then 3 else reason) (clip || v0 != s0) kind (j % 32) v0)
      at_
  else
    let sum := r.sum + v0
    let n := r.n + 1
    let sat := r.sat || clip || v0 != s0
    if n < 2 ^ a then s.putRes j { r with sum, n, sat }
    else
      let x := roundAway ((sum : Rat) / (2 ^ bitsOf c.entry 26 23 : Nat))
      let f := filterStep c.filter r.filt (sat20 x)
      let v := sat20 f.2
      (s.putRes j { r with sum := 0, n := 0, sat := false, filt := f.1, settle := r.settle - 1 }).deliver j
        (resultWord (if 0 < r.settle then 3 else 0) (sat || sat20 x != x || v != f.2) kind (j % 32) v) at_

/-- A converter's free places shown (R239). -/
def showFree (s : State) (k : Fin 12) : State := s.setO (O.adcInjFree k) (4 - s.adc.conv[k].queue.length)

/-- The outcome of a calibration point: `adc.cal_result`, CAL_FAIL, EV_ADC_CAL, and the command ends (R231, R240). -/
def calEnd (s : State) (p : Fin 6) (c : CalRun) (outcome : Nat) : State :=
  let v := outcome * 2 ^ 24 + c.restarts * 2 ^ 16 + c.res
  let s := (s.modPair p fun x => { x with cal := none }).setO O.adcCalResult v
  let s := s.when (outcome != 0) fun s => (s.orO (O.adcStatus (2 * p.val)) 2).orO (O.adcStatus (2 * p.val + 1)) 2
  let s := s.raise 0x0502 (0x4800 + 0x10 * (c.res / 32)) v
  s.endAll (fun h => h.code == 0x0503 && h.arg == [c.res / 64]) (if outcome = 0 then St.ok else St.fault)

/-- An injected request reaches a converter in CALIBRATE: the acquisition is discarded at the end of the conversion in progress;
at the eighth restart the point fails (R233). -/
def calPreempt (s : State) (k : Fin 12) (t : Nat) : State :=
  let p := pairOf k
  match s.adc.pair[p].cal with
  | some c =>
    let acq := bitsOf (s.getO (O.adcResEntry c.res)) 22 16
    let ph := (t - s.adc.pair[p].calAt) % (4 * (acq + 32))
    let s := (s.adcIdle k).adcIdle (partner k)
    let c := { c with restarts := c.restarts + 1 }
    (if c.restarts = 8 then s.calEnd p c 1 else s.modPair p fun x => { x with cal := some c }).adcRest k
      (if ph < 4 * acq then t else t - ph + 4 * (acq + 32))
  | none => s.adcRest k t

/-- The CV clock at which the acquisition of a request can begin: the one on which a timed target falls, else the next (R218,
R220). -/
def injStart (s : State) (r : InjReq) : Nat := if r.who = .host ∨ cvAt r.at_ < s.now then s.cvNext else cvAt r.at_

/-- An injected request is queued or dropped; a converter in RUN finishes the conversion in progress first (R218, R220). -/
def injArrive (s : State) (k : Fin 12) (r : InjReq) : State :=
  let k := s.runsOn k
  if 4 ≤ s.adc.conv[k].queue.length then
    match r.cmd with
    | some c => s.respond c (.bare St.busy)
    | none => (s.orO (O.adcStatus k) 0x10).raise 0x0500 (0x4800 + 0x10 * k) r.res
  else
    let t := s.injStart r
    let s := (s.modConv k fun a => { a with queue := a.queue ++ [r] }).showFree k
    let a := s.adc.conv[k]
    match s.adcSt k with
    | 0 | 1 => (s.modConv k fun a => { a with injRun := false }).adcRest k t
    | 2 =>
      if a.todo.head?.any fun c => decide (a.sampledAt c ≤ t) then s
      else (s.modConv k fun a => { a with injRun := true }).adcRest k t
    | 4 => s.calPreempt k t
    | _ => s

/-- A timed request sent from CT toward a converter (R220). -/
def injAsk (s : State) (res : Nat) (who : InjWho) (at_ : Nat) : State :=
  if h : res < 384 then
    s.modConv ⟨res / 32, by omega⟩ fun a => { a with coming := a.coming ++ [{ res, who, at_, cmd := none }] }
  else s

/-- The request on its way to a converter that reaches it next: of those whose time has come, the one of the earliest target (R220). -/
def injDue (s : State) (k : Fin 12) : Option InjReq :=
  (s.adc.conv[k].coming.filter fun r => decide (r.at_ ≤ s.now)).foldl (fun (a : Option InjReq) r => match a with
    | some b => if r.at_ < b.at_ then some r else some b
    | none => some r) none

/-- The queue of a converter that goes OFFLINE runs on its partner (R221). -/
def moveQueue (s : State) (k : Fin 12) : State :=
  if s.adcSt (partner k) = 5 then s
  else
    let q := s.adc.conv[k].queue
    q.foldl (fun (s : State) r => s.injArrive k r) ((s.modConv k fun a => { a with queue := [] }).showFree k)

/-- A converter is OFFLINE: no pass of its own goes on, its queue runs on its partner (R221, R237; log 110). -/
def adcOffline (s : State) (k : Fin 12) : State :=
  ((s.modConv k fun a => { a with todo := [], startPend := false, injRun := false, old := [] }).setAdcSt k 5).moveQueue k

/-- The shortest dithered interval between a trigger's instants; none for KIND 0 (R215). -/
def trigInterval (s : State) (t : Nat) : Option Rat := if bitsOf t 31 30 = 0 then none else some (s.trigShortest t)

/-- Clocks of a list of entry words, and whether it fits a trigger (R214, R215). -/
def fitsTrigger (s : State) (t clocks : Nat) : Bool :=
  match s.trigInterval t with
  | some i => decide (((4 * clocks : Nat) : Rat) ≤ i)
  | none => true

/-- The bar to a converter's going OFFLINE (R235). -/
def offlineRefused (s : State) (k : Fin 12) : Bool :=
  let q := partner k
  s.getO (O.adcTrigger k) != s.getO (O.adcTrigger q) || s.adcSt q == 4 || s.adcSt q == 5 ||
    !s.fitsTrigger (s.getO (O.adcTrigger k)) ((List.range 8).foldl (fun a i =>
      let w := bitsOf (s.getO (O.adcPCover (k.val / 2))) (16 * i + 15) (16 * i)
      if w = 0xFFFF then a else a + (if bitOf w 15 then 40 else bitsOf (s.getO (O.adcResEntry (bitsOf w 8 0))) 22 16 + 32)) 0)

/-- A converter that self-test asks for may go OFFLINE now (R232, R235; log 194). -/
def coverMay (s : State) (k : Fin 12) : Bool :=
  s.adc.conv[k].offReq && s.adcSt k != 4 && s.adcSt k != 5 && !s.offlineRefused k

/-- The partner runs the cover sequence from its next trigger on (R237). -/
def coverShow (s : State) (k : Fin 12) : State :=
  if s.adc.conv[k].offReq = true ∧ s.adcSt k = 5 then
    ((s.modConv k fun a => { a with offReq := false }).orO (O.adcStatus (partner k)) 0x800).raise 0x0503 (0x4800 + 0x10 * k) (256 + k)
  else s

/-- The hand-over of a pair where no pass goes on: the converter is OFFLINE after its own, and the partner's ends before the cover
(R237). -/
def coverTry (s : State) (k : Fin 12) : State :=
  let s := s.when (s.coverMay k && !s.unfinished k) fun s => s.adcOffline k
  s.when (!s.unfinished (partner k)) fun s => s.coverShow k

/-- The hand-over of a pair at a trigger, which ends what passes go on, and the return at the first one after the test (R237). -/
def coverStep (s : State) (k : Fin 12) (t : Nat) : State :=
  let s := (s.when (s.coverMay k) fun s => (s.adcAbandon k t).adcOffline k).coverShow k
  s.when (s.adc.conv[k].backReq && s.adcSt k == 5) fun s =>
    ((((s.modConv k fun a => { a with backReq := false }).setAdcSt k 0).adcRest k t).clrO (O.adcStatus (partner k)) 0x800).raise 0x0503
      (0x4800 + 0x10 * k) k

/-- The input of a request, its sampling instant and its end (R221). -/
def injEntry (s : State) (k : Fin 12) (r : InjReq) : Nat := s.setting k (O.adcResEntry r.res)
def injSampled (s : State) (k : Fin 12) (r : InjReq) : Nat := s.adc.conv[k].injAt + 4 * bitsOf (s.injEntry k r) 22 16
def injInput (s : State) (k : Fin 12) (r : InjReq) : Nat := 16 * (k.val / 2) + bitsOf (s.injEntry k r) 3 0

/-- The word of an injected result; an invalid one holds its own sample before the shift (R221, R226, R227, R229). -/
def injWord (s : State) (k : Fin 12) (r : InjReq) (code at_ : Nat) : Nat :=
  let w := s.injEntry k r
  let away := decide (r.res / 32 ≠ k.val)
  let cal := s.setting k (O.adcResCal r.res)
  let s0 := calSample cal away code
  let v0 := sat20 s0
  let x := roundAway ((v0 : Rat) * (2 ^ bitsOf w 30 27 : Nat) / (2 ^ bitsOf w 26 23 : Nat))
  let reason := if s.adc.pair[pairOf k].refBad then 5 else if s.gainBad (s.injInput k r) at_ then 2
    else if away && calGain cal true == 0 then 4 else 0
  let sat := decide (code = 0 ∨ code = 16383) || v0 != s0
  if reason = 0 then resultWord 0 (sat || sat20 x != x) 1 (r.res % 32) (sat20 x) else resultWord reason sat 1 (r.res % 32) v0

/-- Mean codes of two points turned into coefficients: GAIN and OFF, or the outcome of a failure (R234). Codes are sums of
64. -/
def calCompute (c0 c1 : Nat) (z f : Int) : (Rat × Rat) ⊕ Nat :=
  let d : Rat := ((c1 : Int) - c0 : Int) / (64 : Rat)
  if absQ d < 1024 then .inr 2
  else
    let g : Rat := (f - z : Int) / d
    if absQ g < 16 ∨ 256 < absQ g then .inr 3
    else
      let off : Rat := (c0 : Rat) / 64 - z / g
      if off < -16384 ∨ 32768 < off then .inr 3 else .inl (g, off)

end State

end Sys2Proof.Machine
end

