-- ==== Sys2Proof/Machine/PosOps.lean ====
section
/-! DEFINITION. The shared operations of the position ports (chapter "Position and speed feedback"): counting and the speed
of R252, frames (R255 to R257), faults (R258, R259), the position words (R247) and the probes (R261, R262). -/

namespace Sys2Proof.Machine

/-- An accepted edge (R252): direction `d` at instant `t`. -/
def Pos.edge (x : Pos) (t : Nat) (d : Int) : Pos :=
  let x := { x with count := x.count + d }
  if x.spd = 0 ∨ d ≠ x.dir then
    { x with reason := if x.spd = 0 then 1 else 2, spd := 1, dir := d, tRef := t, cRef := x.count, speed := 0, spdOk := false,
             tEdge := t }
  else { x with spd := 2, tLast := t, cLast := x.count, tEdge := t }

/-- The count set to a value: the references of the speed move by the same step (R252). -/
def Pos.load (x : Pos) (c : Int) : Pos :=
  { x with count := c, cRef := x.cRef + (c - x.count), cLast := x.cLast + (c - x.count) }

/-- The speed at a sampling instant (R252); `still` in ticks. -/
def Pos.atSample (x : Pos) (ts still : Nat) : Pos :=
  let x :=
    if x.spd = 2 ∧ x.tRef < x.tLast then
      { x with speed := ((x.cLast - x.cRef : Int) : Rat) / ((x.tLast - x.tRef : Nat) : Rat), tRef := x.tLast, cRef := x.cLast,
               spdOk := true, reason := 0 }
    else if x.spd = 2 ∧ x.tEdge < ts ∧ 1 / ((ts - x.tEdge : Nat) : Rat) < absQ x.speed then
      { x with speed := (x.dir : Rat) / ((ts - x.tEdge : Nat) : Rat) }
    else x
  if x.tEdge + still ≤ ts then { x with spd := 0, speed := 0, spdOk := true, reason := 0 } else x

/-- The count that the last valid Hall sector stands for: the one nearest the count, which a rejected change has not moved (R251;
log 193). -/
def Pos.hallCount (x : Pos) : Int := match x.sector with
  | some n => x.count + ((n - x.count + 2) % 6 - 2)
  | none => x.count

/-- The tracking error of a loop at an instant: the shorter way from its angle to a measured one, in turns (R254). -/
def Pos.trackError (x : Pos) (angle : Rat) (t : Nat) : Rat :=
  let d := angle - (x.rdc + x.vel * (t - x.excAt : Nat))
  d - (d + 1 / 2).floor

/-- A step of the type II tracking loop of a resolver: the velocity integrates the error, the angle the velocity; whole cycles are
counted (R244, R254; log 193). -/
def Pos.track (x : Pos) (bw t : Nat) (e : Rat) : Pos :=
  let dt := t - x.excAt
  let g := Config.resolverGains bw dt
  let turn := (x.cycles : Rat) + x.rdc + x.vel * (dt : Nat) + g.1 * e
  { x with rdc := turn - turn.floor, cycles := turn.floor, vel := x.vel + g.2 * e, excAt := t }

/-- Sector of a Hall state, H1 in bit 2 and H3 in bit 0 (R251). -/
def hallSector (h : BitVec 3) : Option Nat :=
  match h.toNat with
  | 1 => some 0
  | 3 => some 1
  | 2 => some 2
  | 6 => some 3
  | 4 => some 4
  | 5 => some 5
  | _ => none

/-- The integer that a Gray code of `n` bits stands for (R256). -/
def fromGray (n v : Nat) : Nat := (List.range n).foldl (fun a i => a ^^^ (v >>> i)) 0

/-- A field of `n` bits scaled to 16 bits by shifting (R256, R257). -/
def to16 (n v : Nat) : Nat := if n ≤ 16 then v * 2 ^ (16 - n) else v / 2 ^ (n - 16)

/-- The 4-bit CRC of SENT over data nibbles: polynomial x⁴ + x³ + x² + 1, seed 0101, with the augmenting zero nibble unless
legacy (R257). -/
def sentCrc (legacy : Bool) (l : List (BitVec 4)) : BitVec 4 :=
  let step (c d : BitVec 4) : BitVec 4 :=
    let c := (List.range 4).foldl (fun (c : BitVec 4) _ => if c.getLsbD 3 then (c <<< 1) ^^^ 0xD#4 else c <<< 1) c
    c ^^^ d
  let c := l.foldl step 0x5#4
  if legacy then c else step c 0x0#4

/-- The 6-bit CRC of an enhanced slow-channel message: polynomial x⁶ + x⁴ + x³ + 1, seed 010101, six augmenting zeros
(R257; log 31). -/
def slowCrc6 (bits : List Bool) : Nat :=
  ((bits ++ List.replicate 6 false).foldl (fun (c : Nat) b =>
    let t := 2 * c + (if b then 1 else 0)
    if t ≥ 64 then (t - 64) ^^^ 0x19 else t) 0x15)

/-- The number that bits spell, first bit most significant. -/
def bitsNat (l : List Bool) : Nat := l.foldl (fun a b => 2 * a + (if b then 1 else 0)) 0

/-- A slow-channel message that ends with the newest frame: ID and DATA (R257; log 31). Frames are newest first, bit 3 and
bit 2 of each status nibble. -/
def slowMessage (kind : Nat) (l : List (Bool × Bool)) : Option (Nat × Nat) :=
  if kind = 1 then
    let f := (l.take 16).reverse
    let d := f.map Prod.snd
    let nib (i : Nat) : BitVec 4 := BitVec.ofNat 4 (bitsNat ((d.drop (4 * i)).take 4))
    if f.length = 16 ∧ (f.map Prod.fst) = true :: List.replicate 15 false ∧ sentCrc false [nib 0, nib 1, nib 2] = nib 3 then
      some (bitsNat (d.take 4), bitsNat ((d.drop 4).take 8))
    else none
  else if kind = 2 then
    let f := (l.take 18).reverse
    let h := f.map Prod.fst
    let d := f.map Prod.snd
    let at_ (i : Nat) : Bool := h.getD i false
    if f.length = 18 ∧ h.take 7 = [true, true, true, true, true, true, false] ∧ at_ 12 = false ∧ at_ 17 = false ∧
        bitsNat (d.take 6) = slowCrc6 ((f.drop 6).flatMap fun p => [p.2, p.1]) then
      let lo := bitsNat (d.drop 6)
      if at_ 7 then some (bitsNat ((h.drop 8).take 4), bitsNat ((h.drop 13).take 4) * 4096 + lo)
      else some (bitsNat ((h.drop 8).take 4) * 16 + bitsNat ((h.drop 13).take 4), lo)
    else none
  else none

/-- A position word (R247). -/
def posWord (reason : Nat) (sat fwd : Bool) (src value : Nat) : Nat :=
  (if reason = 0 then 2 ^ 31 else 0) + reason * 2 ^ 28 + (if sat then 2 ^ 27 else 0) + (if fwd then 2 ^ 26 else 0) +
    src * 2 ^ 20 + value

namespace State

/-- The state with a port changed. -/
def modPos (s : State) (p : Fin 4) (f : Pos → Pos) : State := { s with pos := s.pos.set p (f s.pos[p]) }

/-- Counts per revolution of a port (R252). -/
def posCpr (s : State) (p : Nat) : Nat := (if s.getO (O.posMode p) = 3 then 6 else 4) * s.getO (O.posRes p)

/-- The excitation of a port in mode 1 (R254). -/
def excDrive (s : State) (p : Fin 4) : State :=
  s.modPos p fun x => { x with
    exc := if s.getO (O.posMode p) = 1 then (s.getO (O.posExcFreq p), s.getO (O.posExcAmp p)) else (0, 0) }

/-- A port in the start state of its mode; its objects hold their values after cold reset until its trigger fires (R245, R248, R250,
R252). -/
def portStart (s : State) (p : Fin 4) : State :=
  let m := s.getO (O.posMode p)
  let z := s.bitO (O.posZcfg p) 0
  let s := ((((s.setO (O.posAngle p) 0).setO (O.posCount p) 0).setO (O.posSpeed p) 0).setO (O.posStatus p) 0)
  excDrive (s.modPos p fun x => { Pos.start (if m = 0 then 0 else if m = 2 ∧ z then 3 else 1) (m == 2 && !z) with
    a := x.a, b := x.b, tEdge := s.now, metAt := s.now, excAt := s.now, trigNext := s.now + 1, wordA := x.wordA, wordS := x.wordS,
    wordAt := x.wordAt, speedAt := x.speedAt }) p

/-- A fault criterion is met (R258): declared at the next sample, and the quiet time of R259 starts anew. -/
def portCrit (s : State) (p : Fin 4) (cause : Nat) : State :=
  s.modPos p fun x => { x with metAt := s.now, fault := if x.st = 2 then none else some (x.fault.getD cause) }

/-- A QERR increment; eight within a millisecond declare the port (R249, R258). -/
def qerr (s : State) (p : Fin 4) : State :=
  let l := s.now :: (s.pos[p].qerrs.filter fun t => s.now < t + msTicks)
  let s := (s.incSat (O.posQerr p) 0xFFFFFFFF).modPos p fun x => { x with qerrs := l.take 8, sticky := x.sticky ||| 0x40 }
  if 8 ≤ l.length then s.portCrit p 1 else s

/-- A change of the accepted lines by one place, or a rejected one (R249, R251). -/
def countEdge (s : State) (p : Fin 4) (d : Int) (bad : Bool) : State :=
  if bad ∨ s.now < s.pos[p].tEdge + 4 * s.getO (O.posMinEdge p) then s.qerr p else s.modPos p fun x => x.edge s.now d

/-- A change of A and B (R249). -/
def quadChange (s : State) (p : Fin 4) (a b : Bool) : State :=
  let x := s.pos[p]
  if x.a = a ∧ x.b = b then s
  else
    let both := x.a != a && x.b != b
    let fwd := if x.a != a then a != x.b else b == x.a
    (s.countEdge p (if fwd then 1 else -1) both).modPos p fun x => { x with a, b }

/-- A change of the Hall lines (R251). -/
def hallChange (s : State) (p : Fin 4) (h : BitVec 3) : State :=
  match hallSector h with
  | none => s.qerr p
  | some n =>
    match s.pos[p].sector with
    | none => s.modPos p fun x => { x with sector := some n, count := n, refd := true }
    | some o =>
      if n = o then s
      else
        let d := (n + 6 - o) % 6
        (s.countEdge p (if d = 1 then 1 else -1) (d != 1 && d != 5)).modPos p fun x => { x with sector := some n }

/-- An index (R250). -/
def indexEdge (s : State) (p : Fin 4) : State :=
  let z := s.getO (O.posZcfg p)
  let x := s.pos[p]
  if !(z.testBit 0 && x.a == z.testBit 3 && x.b == z.testBit 2) then s
  else if !x.refd then
    s.modPos p fun x => { x.load 0 with refd := true, idxErr := 0, st := if x.st = 3 then 1 else x.st }
  else
    let cpr := s.posCpr p
    let c := (x.count % (cpr : Int)).toNat
    if min c (cpr - c) ≤ 2 then s.modPos p fun x => { x with idxErr := 0 }
    else
      let s := s.modPos p fun x =>
        { (if z.testBit 1 then x.load 0 else x) with idxErr := x.idxErr + 1, sticky := x.sticky ||| 0x20 }
      if 4 ≤ x.idxErr + 1 then s.portCrit p 2 else s

/-- An invalid frame; angle and speed stay those of the valid frames before it (R255 to R257). -/
def frameBad (s : State) (p : Fin 4) : State :=
  let n := s.pos[p].frameBad + 1
  let s := s.modPos p fun x => { x with frameBad := n, sticky := x.sticky ||| 4 }
  if s.getO (O.posFaultCnt p) ≤ n then s.portCrit p 5 else s

/-- A valid frame: speed from the frame before it (R255). -/
def frameGood (s : State) (p : Fin 4) (angle at_ : Nat) : State :=
  s.modPos p fun x =>
    let d := toSigned 16 (angle + 65536 - (match x.frame with | some f => f.1 | none => 0))
    let x := match x.frame with
      | some f =>
        if x.frameBad = 0 ∧ f.2 < at_ then
          { x with speed := (d : Rat) / 65536 / ((at_ - f.2 : Nat) : Rat) * 48000000000, spdOk := true, reason := 0,
                   dir := if d < 0 then -1 else if 0 < d then 1 else x.dir }
        else { x with speed := 0, spdOk := false, reason := 1 }
      | none => { x with speed := 0, spdOk := false, reason := 1 }
    { x with frame := some (angle, at_), frameBad := 0, noFrameMs := 0, refd := true }

/-- The angle of a port at an instant, in 2^−16 turn (R249, R251, R254, R256, R257, R260). -/
def posAngleAt (s : State) (p : Fin 4) (t : Nat) : Nat :=
  let x := s.pos[p]
  let cpr : Rat := (s.posCpr p : Nat)
  match s.getO (O.posMode p) with
  | 1 =>
    let turn := (x.cycles : Rat) + x.rdc + x.vel * ((t : Int) - x.excAt : Int)
    (roundAway (turn * 65536 / (max 1 (s.getO (O.posRes p)) : Nat)) % 65536).toNat
  | 2 => (roundAway ((x.count % (s.posCpr p : Int) : Int) * 65536 / cpr) % 65536).toNat
  | 3 =>
    let run := clampQ (absQ x.speed * (t - x.tEdge : Nat)) 0 1
    let part : Rat := if x.spd = 0 then 1 / 2 else if 0 < x.dir then run else 1 - run
    (roundAway (((x.hallCount : Rat) + part) * 65536 / cpr) % 65536).toNat
  | 4 => match x.frame with
    | some f => (roundAway ((f.1 : Rat) + x.speed / 48000000000 * 65536 * ((t : Int) - f.2 : Int)) % 65536).toNat
    | none => 0
  | 5 => match x.frame with
    | some f =>
      let dt : Rat := (((t : Int) - f.2 : Int) : Rat) + (bitsOf (s.getO (O.posSentCfg p)) 11 0 * 800 : Nat)
      (roundAway ((f.1 : Rat) + x.speed / 48000000000 * 65536 * dt) % 65536).toNat
    | none => 0
  | _ => 0

/-- The count object (R263). -/
def posCountNow (s : State) (p : Fin 4) : Nat :=
  if s.getO (O.posMode p) = 2 ∨ s.getO (O.posMode p) = 3 then (s.pos[p].count % (s.posCpr p : Int)).toNat else 0

/-- REASON of the angle word (R247). -/
def angleReason (s : State) (p : Fin 4) : Nat :=
  let x := s.pos[p]
  let m := s.getO (O.posMode p)
  if x.st = 2 then 3 else if x.st = 3 ∨ x.st = 4 then 4
  else if m = 1 then (if x.refd then 0 else 1)
  else if m = 3 then (if x.sector.isNone then 1 else 0)
  else if m = 4 then (if x.frame.isNone then 1 else if x.frameBad ≠ 0 then 5 else 0)
  else if m = 5 then
    (match x.frame with
     | none => 1
     | some f => if f.2 + msTicks < s.now then 5 else 0)
  else 0

/-- The words of a port sent on channel 0 and its objects updated, at the stamp of the sampling instant (R30, R246 to R248). The speed
word of a stale frame is as invalid as its angle word (log 193). -/
def sendPos (s : State) (p : Fin 4) (at_ : Nat) : State :=
  let x := s.pos[p]
  let m := s.getO (O.posMode p)
  let ar := s.angleReason p
  let sr := if x.st = 2 then 3 else if m = 1 ∨ ar = 5 then ar else if x.spdOk then 0 else x.reason
  let rpm : Rat := if m = 2 ∨ m = 3 then x.speed * 48000000000 / (s.posCpr p : Nat) else x.speed
  let fs := s.getQ (O.posSpeedFs p)
  let sat := decide (fs ≤ absQ rpm)
  let sv : Int := if sat then (if 0 < rpm then 524287 else -524288) else roundAway (rpm / fs * 524288)
  let ang := s.posAngleAt p at_
  let fwd := decide (0 < x.dir)
  let wa := posWord ar false fwd (2 * p) (ang * 16)
  let ws := posWord sr sat fwd (2 * p + 1) (ofSigned 20 (sat20 sv))
  let st := (s.getO (O.posStatus p) &&& 0xFE) ||| x.sticky ||| (if sat then 2 else 0)
  let s := ((s.setO (O.posAngle p) ang).setO (O.posCount p) (s.posCountNow p)).setQ (O.posSpeed p) (if sr = 0 then rpm else 0)
  let s := s.setO (O.posStatus p) ((if sr = 0 then 0x8000 else 0) + (if ar = 0 then 0x4000 else 0) + (if fwd then 0x2000 else 0) +
    x.st * 0x400 + x.spd * 0x100 + st)
  let s := s.modPos p fun x => { x with sticky := 0 }
  (s.xingSend 0 fun s => s.modPos p fun x => { x with wordA := wa, wordAt := at_ }).xingSend 0 fun s => s.modPos p fun x =>
    { x with wordS := ws, speedAt := at_ }

/-- A declared port becomes FAULTY at the sampling instant that follows (R258). -/
def portFault (s : State) (p : Fin 4) : State :=
  match s.pos[p].fault with
  | some c =>
    (s.modPos p fun x => { x with fault := none, st := 2, sticky := x.sticky ||| 0x80 }).raise 0x0510 (0x5000 + 0x40 * p)
      (c * 256 + p)
  | none => s

/-- A latch entered in a probe's queue, or dropped (R262). -/
def probeLatch (s : State) (n : Fin 4) (l : Latch) : State :=
  let q := s.prb[n]
  let room := decide (q.length < 4)
  let q := if room then q ++ [l] else q
  let s := { s with prb := s.prb.set n q }
  let st := s.getO (O.posPrbStatus n)
  let st := putBits st 4 2 q.length
  let st := if room then st else st ||| 2
  let st := if s.bitO (O.posPrbCfg n) 5 then st else st - (st &&& 0x80)
  (s.setO (O.posPrbStatus n) st).raise 0x0512 (0x5100 + 0x10 * n) ((if room then 0 else 256) + q.length)

/-- The bytes of a probe entry (R262). -/
def latchBytes (l : Latch) : List Byte := toLe 8 l.stamp.toNat ++ toLe 4 l.count ++ toLe 2 l.angle ++ toLe 1 (if l.rising then 1 else 0) ++ [0]

end State

end Sys2Proof.Machine
end

