-- ==== Sys2Proof/Machine/ChgOps.lean ====
section
/-! DEFINITION. The shared operations of the charger (chapter "Charger and input sources"): pilot and proximity, limits and
targets (R313, R326, R327), stop causes (R337 to R339), the resume conditions and the hooks that other chapters call. -/

namespace Sys2Proof.Machine

/-- A stop cause: its code, whether the stop is immediate, the state it ends in (R339). -/
structure StopCause where
  code : Nat
  imm : Bool
  ends : Nat
  deriving DecidableEq, Repr

namespace Cause
/-! The stop causes of R339. -/
def link : StopCause := ⟨7, true, 6⟩
def clock : StopCause := ⟨17, true, 6⟩
def legOc : StopCause := ⟨6, true, 6⟩
def busOv : StopCause := ⟨5, true, 6⟩
def implaus : StopCause := ⟨13, true, 6⟩
def dcl : StopCause := ⟨15, true, 0⟩
def overStop : StopCause := ⟨16, false, 0⟩
def overSafe : StopCause := ⟨16, true, 6⟩
def pp : StopCause := ⟨4, true, 0⟩
def inputLoss : StopCause := ⟨2, true, 4⟩
def pvOver : StopCause := ⟨9, true, 4⟩
def late : StopCause := ⟨12, true, 4⟩
def lateFault : StopCause := ⟨12, true, 6⟩
def pilot : StopCause := ⟨3, false, 4⟩
def pilotA : StopCause := ⟨3, false, 0⟩
def drive : StopCause := ⟨14, false, 0⟩
def batTemp : StopCause := ⟨10, false, 4⟩
def bms : StopCause := ⟨11, false, 4⟩
def srcWeak : StopCause := ⟨8, false, 0⟩
end Cause

/-- The flag bit of a cause in `chg.flags` (R340); none for the causes without one. -/
def chgFlag (code : Nat) : Nat :=
  match code with
  | 17 => 0x8000
  | 13 => 0x4000
  | 12 => 0x2000
  | 9 => 0x200
  | 7 => 0x100
  | 6 => 0x80
  | 5 => 0x40
  | 2 => 0x20
  | 4 => 0x10
  | 8 => 2
  | _ => 0

/-- The current that a pilot duty allows, and whether the duty lies in 3 % to 7 % (R319). -/
def pilotAmps (d : Rat) : Rat × Bool :=
  if d < 3 then (0, false) else if d < 7 then (0, true) else if d < 8 then (0, false) else if d < 10 then (6, false)
  else if d < 85 then (d * (3 / 5), false) else if d < 96 then ((d - 64) * (5 / 2), false)
  else if d ≤ 97 then (80, false) else (0, false)

/-- The pilot state of the plateau levels in millivolts (R318): high plateau, low plateau while the pilot oscillates, and
whether its frequency is valid. -/
def pilotState (high : Int) (low : Option Int) (freqOk : Bool) : Nat :=
  if low.isSome && (!freqOk || decide (-10500 < low.getD 0)) then 7
  else if 10500 ≤ high ∧ high ≤ 13500 then 1
  else if 7500 ≤ high ∧ high < 10500 then 2
  else if 4500 ≤ high ∧ high < 7500 then 3
  else if 1500 ≤ high ∧ high < 4500 then 4
  else if low.isNone ∧ -1500 ≤ high ∧ high < 1500 then 5
  else if low.isNone ∧ high < -10500 then 6
  else 7

/-- The cable current of a proximity resistance; none for no cable, `some none` outside every window (R321). -/
def cableAmps (r : Nat) : Option (Option Nat) :=
  if r > 4500 then none
  else if 75 ≤ r ∧ r < 150 then some (some 63)
  else if 150 ≤ r ∧ r < 400 then some (some 32)
  else if 400 ≤ r ∧ r < 1000 then some (some 20)
  else if 1000 ≤ r ∧ r ≤ 2200 then some (some 13)
  else some none

/-- Mean of a list. -/
def meanQ (l : List Rat) : Rat := if l.isEmpty then 0 else l.foldl (· + ·) 0 / (l.length : Nat)

/-- A line's sample goes into its sums; `w` is the voltage to the next line (R325). -/
def Line.add (l : Line) (v w i : Int) : Line :=
  { l with prev := v, n := l.n + 1, sq := l.sq + v * v, sqNext := l.sqNext + w * w, sqI := l.sqI + i * i, prod := l.prod + v * i }

/-- A line's cycle ends: what its sums give, by the full scales of voltage and current, and its frequency (R325). -/
def Line.ended (l : Line) (at_ : Nat) (freq fsV fsI : Rat) : Line :=
  let mean (x : Int) : Rat := (x : Rat) / (l.n : Nat) / 274877906944
  let d := if l.n = 0 then l else { l with
    rms := sqrtQ (mean l.sq) * fsV, rmsNext := sqrtQ (mean l.sqNext) * fsV, amps := sqrtQ (mean l.sqI) * fsI, watts := mean l.prod * fsV * fsI,
    freq }
  { d with start := at_, n := 0, sq := 0, sqNext := 0, sqI := 0, prod := 0 }

/-- A sample of a line; whether it ends a cycle. A cycle runs from one rising zero crossing to the next; a line without one
for 25 ms counts as 0 Hz (R325; log 34). -/
def Line.sample (l : Line) (at_ : Nat) (v w i : Int) (fsV fsI : Rat) : Line × Bool :=
  if l.prev < 0 ∧ 0 ≤ v ∧ l.start < at_ then
    let done := if l.whole then l.ended at_ ((sTicks : Rat) / ((at_ - l.start : Nat) : Rat)) fsV fsI
      else { l.ended at_ l.freq fsV fsI with rms := l.rms, rmsNext := l.rmsNext, amps := l.amps, watts := l.watts }
    ({ done with whole := true }.add v w i, l.whole)
  else if l.start + 25 * msTicks ≤ at_ then ({ l.ended at_ 0 fsV fsI with whole := false }.add v w i, true)
  else (l.add v w i, false)

namespace State

/-- The state with the charger or its pilot decoder changed. -/
def modChg (s : State) (f : Chg → Chg) : State := { s with chg := f s.chg }
def modPilot (s : State) (f : Pilot → Pilot) : State := s.modChg fun c => { c with pilot := f c.pilot }

/-- STATE and MODE of the charger (R322, R340). -/
def chgSt (s : State) : Nat := s.getO O.chgState
def chgMode (s : State) : Nat := bitsOf (s.getO O.chgInput) 3 0

/-- The charger's links and contexts. -/
def chgLinks : List (Fin 40) := (List.finRange 40).filter fun l => 24 ≤ l.val && l.val ≤ 30
def chgCtxs : List (Fin 64) := [16, 17, 18, 19, 20, 21]

/-- The charger's legs switch (R322). -/
def chgOn (s : State) : Bool := s.chgSt == 2 || s.chgSt == 3 || s.chgSt == 5

/-- Quantities of the charger's results: bus voltage, array voltage, output current and voltage (R316; full scales of
log 29). -/
def chgBus (s : State) : Rat := s.resFrac 259 * s.inFs 19
def chgArray (s : State) : Rat := s.resFrac 263 * s.inFs 19
def chgOutPower (s : State) : Rat := s.resFrac 289 * s.inFs 16 * (s.resFrac 291 * s.inFs 19)

/-- The largest leg current, and the array current: the sum of the legs (R313, R314, R329). -/
def chgLeg (s : State) (k : Nat) : Rat := s.resFrac (256 + k) * s.inFs 16
def chgLegAmps (s : State) : Rat := maxQ (absQ (s.chgLeg 0)) (maxQ (absQ (s.chgLeg 1)) (absQ (s.chgLeg 2)))
def pvAmps (s : State) : Rat := s.chgLeg 0 + s.chgLeg 1 + s.chgLeg 2

/-- A change of STATE with EV_CHG_STATE (R342); `cause` is 0 for normal progression. -/
def chgTo (s : State) (st cause : Nat) : State :=
  let old := s.chgSt
  let s := s.setO O.chgState st
  let s := if st = 6 then s.orO O.chgFlags 0x40000 else s.clrO O.chgFlags 0x40000
  s.raise 0x0600 0x5800 (cause * 65536 + st * 256 + old)

/-- The end of a charge's switching: IDLE, PAUSED or FAULT with its cause; the commands that wait end (R323, R341). -/
def chgEnter (s : State) (st cause : Nat) : State :=
  let s := (s.setO O.chgCause cause).chgTo st cause
  let s := s.modChg fun c => { c with
    search := none, sweeping := false, sweepAsk := false, pvLimit := false, stopCut := false, pauseFor := if st = 4 then cause else 0,
    okAt := none, limit := if cause = 2 then none else c.limit }
  let s := (s.setO O.chgIInLim 0).setO O.chgPIn 0
  let s := s.when (st != 4) fun s => s.setO O.chgInput 0
  let s := s.endAll (fun p => p.code == 0x0601) St.fault (some (0x0600 + cause, 0))
  let s := s.endAll (fun p => p.code == 0x0603) St.fault
  if st = 0 then s.endAll (fun p => p.code == 0x0602) St.ok else if st = 6 then s.endAll (fun p => p.code == 0x0602) St.fault else s

/-- GL24 to GL30 receive FORCE OFF and C16 to C21 go OFF (R337, R338). -/
def chgLegsOff (s : State) : State := (s.forceLegs chgLinks false).ctxStops chgCtxs

/-- The rank of an end state: FAULT above PAUSED above IDLE (R339). -/
def endRank (st : Nat) : Nat := if st = 6 then 2 else if st = 4 then 1 else 0

/-- What a stop that is under way becomes by a further cause: it ends in FAULT if that one does, and in IDLE rather than in PAUSED; a
stop toward IDLE is not turned into a pause (R335, R339; log 184). -/
def stopMerge (s : State) (c : StopCause) : Nat × Nat :=
  if s.chgSt = 5 ∧ c.ends ≠ 6 ∧ !(c.ends == 0 && s.chg.ends == 4) then (s.chg.ends, s.chg.stopCause) else (c.ends, c.code)

/-- Stop causes that arise in the same sample, in table order (R339). -/
def chgStopFor (s : State) (l : List StopCause) : State :=
  let st := s.chgSt
  if st = 0 ∨ st = 6 ∨ l.isEmpty then s
  else
    let s := s.orO O.chgFlags (l.foldl (fun a c => a ||| chgFlag c.code) 0)
    let top := l.foldl (fun a c => max a (endRank c.ends)) 0
    match l.find? fun c => endRank c.ends == top with
    | none => s
    | some c =>
      if st = 4 then (if c.ends = 4 then s else s.chgEnter c.ends c.code)
      else if l.any (·.imm) || st == 1 then
        let s := s.chgLegsOff.modChg fun x => { x with stopBusy := true }
        s.chgEnter (s.stopMerge c).1 (s.stopMerge c).2
      else if st = 5 then s.modChg fun x => { x with ends := (s.stopMerge c).1, stopCause := (s.stopMerge c).2 }
      else (s.modChg fun x => { x with
        ends := c.ends, stopCause := c.code, stopAt := s.now, stopCut := false, search := none, sweeping := false }).chgTo 5 c.code

/-- GL24 to GL30 receive FORCE OFF once an orderly stop has brought the input current to 0, or 30 ms after it began (R337; log 184). -/
def chgStopCut (s : State) : State :=
  let zero := if s.chgMode = 3 then s.pvAmps == 0 else s.chg.inA == 0
  if s.chg.stopCut = false ∧ (zero = true ∨ s.chg.stopAt + 30 * msTicks ≤ s.now) then
    s.chgLegsOff.modChg fun x => { x with stopCut := true }
  else s

/-- A stop completes: S2 opens, on an orderly stop once the input current has fallen below 1 A (R320, R337, R338). -/
def chgStopDone (s : State) : State :=
  if s.chgSt = 5 then
    let s := s.chgStopCut
    if s.chg.stopCut = true ∧ s.chgLegAmps < 1 then (s.clrO O.chgFlags 0x20000).chgEnter s.chg.ends s.chg.stopCause else s
  else if s.chg.stopBusy then (s.clrO O.chgFlags 0x20000).modChg fun x => { x with stopBusy := false }
  else s

/-! ### Limits and targets -/

/-- The input voltage v of R325: the last measured one. -/
def chgV (s : State) : Rat := match s.chg.hist with
  | (_, v, _) :: _ => v
  | [] => 0

/-- The power of a per-phase current at a voltage, in watts (R326). -/
def chgAcPower (s : State) (i v : Rat) : Rat := if s.chg.live = 3 then sqrtQ 3 * v * i else v * i

/-- The charger's thermal factor (R437). -/
def chgFactor (s : State) : Rat := f32Val (bitsOf (s.getO O.thmFactor) 159 128)

/-- The input limit of R326 without a search result. -/
def chgCap (s : State) : Rat :=
  let v := s.chgV
  let p := s.getQ O.chgPMax * 1000 * s.chgFactor
  let byPower := if v ≤ 0 then 0 else if s.chg.live = 3 then p / (sqrtQ 3 * v) else p / v
  let m := minQ (minQ (s.getQ O.chgIInMax) (s.getQ O.chgICable)) byPower
  if s.chgMode = 1 then minQ m s.chg.pilot.eff else m

/-- The input limit of R326, with the search's step or result in SOURCE. -/
def chgTarget (s : State) : Rat :=
  if s.chgMode = 2 then
    match s.chg.search, s.chg.limit with
    | some x, _ => minQ s.chgCap x.i
    | none, some l => minQ s.chgCap l
    | none, none => 0
  else s.chgCap

/-- The electrical power into a machine: its sets' voltages times their currents, in watts (R326; log 185). -/
def machinePower (s : State) (m : Fin 4) : Rat :=
  (s.workSets m).foldl (fun a k =>
    let c := setCtx m k
    let x := s.trx[m].sets[k]
    a + 3 / 2 * ((s.ctx[c].outc[0] : Rat) * x.idIn + (s.ctx[c].outc[1] : Rat) * x.iqIn) / 524288 * s.outFs c) 0

/-- The power into the auxiliary converter and the machines of `pto_mask`, as a torque tick measures it (R326; log 185). -/
def chgLoadPower (s : State) : Rat :=
  (List.finRange 4).foldl (fun a m => if (s.getO O.chgPtoMask).testBit m.val then a + s.machinePower m else a) (s.getQ O.auxPOut * 1000)

/-- What the battery and the load ask for, in amperes (R326). -/
def chgWant (s : State) : Rat :=
  let bms := if s.dcl.bmsStale then 0 else s.getQ O.dclBmsIChg
  let v := s.dcl.vLink
  (minQ (s.getQ O.chgIBat) bms + (if v = 0 then 0 else s.chg.load / v)) * s.chgFactor

/-- The output current target of R326, lowered as far as the input limit requires; 0 while the charger stops (R337). -/
def chgOutTarget (s : State) : Rat :=
  let v := s.dcl.vLink
  if s.chgSt = 5 then 0
  else if s.chgMode = 3 ∨ v = 0 then s.chgWant
  else minQ s.chgWant (s.chgAcPower (s.getQ O.chgIInLim) s.chgV / v)

/-- The input current per phase that the output target would take if nothing lowered it (R328). -/
def chgWantIn (s : State) : Rat :=
  let p := s.chgAcPower 1 s.chgV
  if p = 0 then 0 else s.chgWant * s.dcl.vLink / p

/-- The bus target (R313). -/
def chgBusTarget (s : State) : Rat :=
  let peak := if s.chgMode = 3 then s.chgArray + 50
    else 11 / 10 * s.chgV * sqrtQ 2
  minQ (maxQ (s.getQ O.chgBusV) peak) 950

/-! ### Presence and checks -/

/-- The pilot oscillates: an edge within the last 10 ms (log 33). -/
def pilotLive (s : State) : Bool :=
  match s.chg.pilot.rise with
  | some t => s.now < t + 10 * msTicks
  | none => false

/-- The input of a mode is present (R324). -/
def chgFound (s : State) (mode : Nat) : Bool :=
  match mode with
  | 1 => (s.getO O.chgCpState == 2 || s.getO O.chgCpState == 3) && s.chg.pilot.duty.isSome && s.pilotLive
  | 2 => decide (1 ≤ s.chg.live) && !s.pilotLive
  | 3 => decide (s.getQ O.chgPvVMin ≤ s.chgArray) && decide (s.chgArray ≤ 900)
  | _ => false

/-- The mode that MODE selects; 0 where none is found (R324). -/
def chgSelect (s : State) (mode : Nat) : Nat :=
  if mode = 0 then (([1, 2, 3] : List Nat).find? s.chgFound).getD 0 else if s.chgFound mode then mode else 0

/-- The battery temperature is fresh (R333). -/
def batFresh (s : State) : Bool :=
  match s.chg.batAt with
  | some t => s.now ≤ t + s.getO O.chgBatTAge * msTicks
  | none => false

/-- The battery temperature lies inside its window by a margin (R333). -/
def batInside (s : State) (k : Rat) : Bool :=
  decide (s.getQ O.chgBatTMin + k ≤ s.getQ O.chgBatTemp) && decide (s.getQ O.chgBatTemp + k ≤ s.getQ O.chgBatTMax)

/-- ARG of check 7 of R323. -/
def batArg (s : State) : Nat := if s.batFresh then (truncZ (s.getQ O.chgBatTemp) + 50).toNat else 0xFF

/-- The battery's charge limit is above 0 and not stale (R296, R323). -/
def bmsOk (s : State) : Bool := !s.dcl.bmsStale && decide (0 < s.getQ O.dclBmsIChg)

/-- Checks 2 to 9 of R323. -/
def chgChecks (s : State) : List Chk :=
  [chkR (decide (s.getQ O.chgILegTrip ≤ 0)) St.state 0x0130 O.chgILegTrip,
   (match chgLinks.find? fun (l : Fin 40) => s.getO (O.glkLossAct l.val) != 0 with
    | some l => chkR true St.state 0x0130 (O.glkLossAct l)
    | none => chk false St.ok),
   chkR s.tripLatched St.state 0x0131,
   chkR (s.getO O.dclBattery != 1 || s.getO O.dclState != 4) St.state 0x0132 (s.getO O.dclState),
   (match (List.finRange 4).find? fun (m : Fin 4) => !(s.getO O.chgPtoMask).testBit m.val && s.trxSt m != 0 with
    | some m => chkR true St.state 0x0133 m
    | none => chk false St.ok),
   (match chgLinks.find? fun l => !s.countsReady l with
    | some l => chkR true St.state 0x0134 l
    | none => chk false St.ok),
   chkR (!(s.batFresh && s.batInside 0)) St.thermal 0x0135 s.batArg,
   chkR (2 ≤ s.override 5) St.refused 0x0003 5,
   chkR (!s.bmsOk) St.refused 0x0136]

/-! ### Progress -/

/-- CHG_SEL follows the level wanted once GL24 to GL26 are OFF and the input current is below 1 A (R314). -/
def chgSelTry (s : State) : State :=
  if s.chg.sel = s.chg.selWant ∨ s.chgOn = true ∨ 1 ≤ s.chgLegAmps then s
  else s.modChg fun c => { c with sel := c.selWant, selAt := s.now, selSettled := false }
def chgSelSet (s : State) (pv : Bool) : State := (s.modChg fun c => { c with selWant := pv }).chgSelTry

/-- S2 closes where R320 lets it. -/
def s2Close (s : State) : State :=
  if s.getO O.chgCpState = 2 ∧ 6 ≤ s.getQ O.chgIPilot then s.orO O.chgFlags 0x20000 else s

/-- `chg.input`: live phases, of which two are shown as none, and the mode (R340; log 184). -/
def chgShowInput (s : State) (mode : Nat) : State := s.setO O.chgInput ((if s.chg.live = 2 then 0 else s.chg.live) * 16 + mode)

/-- QUALIFY begins for a mode (R325, R339); an S2 that an immediate stop left to open opens now (R338). -/
def chgQualify (s : State) (mode : Nat) : State :=
  let s := (s.when s.chg.stopBusy fun s => (s.clrO O.chgFlags 0x20000).modChg fun c => { c with stopBusy := false }).chgShowInput mode
  let s := (s.chgSelSet (mode == 3)).modChg fun c => { c with
    qualIn := s.now, qualAt := s.now, pvSum := 0, pvN := 0, lossAt := none, sagAt := none, droopAt := none, pvLowAt := none,
    rocof := false, search := none, pvLimit := false, sweeping := false, dirUp := true, pPrev := 0, wSum := 0, wN := 0, hist := [] }
  (s.when (mode == 1) fun s => s.s2Close).chgTo 1 0

/-- The sources and the bank of C16 to C21 loaded for a mode while they are OFF (R316). -/
def chgLoad (s : State) (pv : Bool) : State :=
  let s := chgCtxs.foldl (fun s (c : Fin 64) => if s.bitO (O.lpeStatus c) 14 = pv then s else s.doSwap c) s
  let w (sp fb : Nat) : Nat := sp + fb * 65536
  let s := (s.setO (O.lpeInputs 19) (if pv then w 0x6005 (0x1000 + 263) else w 0x6003 (0x1000 + 259))).setO (O.lpeInputs 20)
    (if pv then w 0x6003 (0x1000 + 290) else w 0x6004 (0x1000 + 289))
  s.setO (O.lpeUnits 20) (if pv then 0x44960000 + 0x3F800000 * 2 ^ 32 else 0x43480000 + 0x3F800000 * 2 ^ 32)

/-- The start of a search or a probe (R327, R328). -/
def searchStart (s : State) (probe : Option Rat) : State :=
  let cap := s.chgCap
  let i := match probe with
    | some l => minQ (l + s.getQ O.chgSrcIStep) cap
    | none => minQ (s.getQ O.chgSrcIStart) cap
  s.modChg fun c => { c with search := some { i, good := 0, cap, steps := 0, reachedAt := none, outLim := true, probe }, rocof := false }

/-- The charger enters CHARGING: CHG_START ends with ST_OK (R323). -/
def chgCharging (s : State) : State :=
  ((s.chgTo 3 0).modChg fun c => { c with cutAt := s.now, poAt := s.now, sweepAt := s.now }).endAll (fun p => p.code == 0x0601) St.ok

/-- The battery's conditions judged for a charger that switches (R333, R339). -/
def chgJudge (s : State) : State :=
  let stale := !s.batFresh
  let out := !s.batInside 0
  if s.chgOn = false then s
  else
    let s := (s.when stale fun s => s.orO O.chgFlags 0x1000).when out fun s => s.orO O.chgFlags 0x800
    s.chgStopFor ((if stale || out then [Cause.batTemp] else []) ++ (if s.bmsOk then [] else [Cause.bms]))

/-- Switching begins: legs released, C16 to C21 ON, SEARCH or CHARGING (R322, R325). -/
def chgBegin (s : State) : State :=
  let s := s.chgLoad (s.chgMode == 3)
  let s := chgCtxs.foldl (fun s (c : Fin 64) => s.ctxStart c) s
  let s := (s.releaseLegs (chgLinks.take 3) (s.firstPeriod 4)).releaseLegs (chgLinks.drop 3) (s.firstPeriod 5)
  let s := if s.chgMode = 2 ∧ s.chg.limit.isNone then (s.searchStart none).chgTo 2 0 else s.chgCharging
  s.chgJudge

/-- A full re-search: the input current goes to 0 and QUALIFY runs again (R328). -/
def chgReSearch (s : State) : State :=
  (s.chgLegsOff.modChg fun c => { c with limit := none, cuts := [] }).chgQualify 2

/-- A search or probe ends (R327, R328): 1 sag, 2 droop, 3 rocof, 4 output, 5 cap. -/
def searchFinish (s : State) (x : Search) (why : Nat) : State :=
  let bad := decide (why ≤ 3)
  let found := x.good * (if bad then ((s.getO O.chgSrcBackoff : Nat) : Rat) / 1000 else 1)
  let weak := x.good = 0 ∧ x.probe.isNone
  let res := match x.probe with
    | some l => maxQ l found
    | none => found
  let ev := (roundAway (res * 10)).toNat * 65536 + (if weak then 6 else why) * 256 + x.steps
  let s := (s.modChg fun c => { c with
    search := none, limit := some res, searchEnd := why, searchOut := s.chgWantIn, cutAt := s.now, rocof := false }).raise
      0x0602 0x5800 ev
  if weak then (s.modChg fun c => { c with limit := none }).chgStopFor [Cause.srcWeak]
  else
    let s := s.endAll (fun p => p.code == 0x0603) St.ok
    let s := s.setQ O.chgIInLim (minQ (s.getQ O.chgIInLim) res)
    if s.chgSt = 2 then s.chgCharging else s

/-! ### Hooks of other chapters -/

/-- The resume condition of the cause of a pause, as it stands now, and how long it must have held, in ms (R333, R339). -/
def chgOkNow (s : State) : Bool × Nat :=
  match s.chg.pauseFor with
  | 2 => (s.chgFound s.chgMode, 50)
  | 9 => (decide (s.chgArray < 880), 10000)
  | 12 => (true, 1000)
  | 3 => (s.getO O.chgCpState == 2 && decide (6 ≤ s.getQ O.chgIPilot), 1000)
  | 10 => (s.batFresh && s.batInside 2, 10000)
  | 11 => (s.bmsOk, 1000)
  | _ => (false, 0)

/-- Since when the resume condition of a PAUSED charger has held (R339; log 35). -/
def chgOkStep (s : State) : State :=
  if s.chgSt = 4 then s.modChg fun c => { c with okAt := if s.chgOkNow.1 then some (c.okAt.getD s.now) else none } else s

/-- The battery's temperature, its window, its freshness or its charge limit has been written (R333, R339). -/
def batJudge (s : State) : State := s.chgJudge.chgOkStep

/-- The three lines sampled: results 260 to 262 with the leg currents; legs 0 and 1 share a single phase (R313, R325). -/
def linesSample (s : State) (at_ : Nat) : State :=
  let v (k : Nat) : Int := s.resVal (260 + k % 3)
  let i (k : Nat) : Int := if s.chg.live = 1 ∧ k = 0 then s.resVal 256 + s.resVal 257 else s.resVal (256 + k)
  let l := Vector.ofFn fun k : Fin 3 => s.chg.lines[k].sample at_ (v k) (v k - v (k + 1)) (i k) (s.inFs 19) (s.inFs 16)
  s.modChg fun c => { c with lines := l.map (·.1), lineEnd := c.lineEnd || l[0].2 }

/-- The array's power (R330, R332). -/
def pvPower (s : State) : Rat := s.chgArray * s.pvAmps

/-- A sample of the array while a sweep runs: up at 100 V/s until the current is below 2 % of `pv_i_max`, then down to the largest of
`pv_v_min` and half of `v_oc` with the power recorded every 10 ms (R332). -/
def sweepStep (s : State) : State :=
  let dv : Rat := 100 * ((s.now - s.chg.rampAt : Nat) : Rat) / sTicks
  let v := s.getQ O.chgVPvRef
  let s := s.modChg fun c => { c with rampAt := s.now }
  if s.chg.sweepUp then
    if s.pvAmps < s.getQ O.chgPvIMax / 50 then (s.setQ O.chgVOc v).modChg fun c => { c with sweepUp := false, recAt := s.now }
    else s.setQ O.chgVPvRef (v + dv)
  else
    let s := s.setQ O.chgVPvRef (maxQ (maxQ (s.getQ O.chgPvVMin) (s.getQ O.chgVOc / 2)) (v - dv))
    if s.now < s.chg.recAt + 10 * msTicks then s
    else s.modChg fun c => { c with
      recAt := c.recAt + 10 * msTicks, bestW := maxQ c.bestW s.pvPower, bestV := if c.bestW < s.pvPower then v else c.bestV }

/-- A sample of the array while the charger runs from it: power summed, sweep, input lost (R330, R332, R339). -/
def arraySample (s : State) : State :=
  if 900 < s.chgArray then s.chgStopFor [Cause.pvOver]
  else
    let s := s.modChg fun c => { c with wSum := c.wSum + s.pvPower, wN := c.wN + 1 }
    let s := s.when (s.chgSt == 3 && s.chg.sweeping) fun s => s.sweepStep
    if s.getQ O.chgPvVMin ≤ s.chgArray then s.modChg fun c => { c with pvLowAt := none }
    else match s.chg.pvLowAt with
      | none => s.modChg fun c => { c with pvLowAt := some s.now }
      | some t => if t + 100 * msTicks ≤ s.now then s.chgStopFor [Cause.inputLoss] else s

/-- The bound of C19's output, in amperes: the array's in PV; in the AC modes the peak of the input limit, which two legs share in a
single phase (R313, R326, R329). -/
def chgInBound (s : State) : Rat :=
  if s.chgMode = 3 then
    (if s.chgArray ≤ 0 then s.getQ O.chgPvIMax else minQ (s.getQ O.chgPvIMax) (s.getQ O.chgPvPMax * 1000 / s.chgArray))
  else sqrtQ 2 * s.getQ O.chgIInLim / (if s.chg.live = 1 then 2 else 1)

/-- A fraction of a full scale rounded down to S20, as a bound. -/
def capOf (x fs : Rat) : Option Int := if fs = 0 then none else some (sat20 (x / fs * 524288).floor)

/-- The clamp of R329 or a bus more than 20 V above its target binds (R331). -/
def pvBinds (s : State) : Bool :=
  (match s.ctx[(19 : Fin 64)].cap with
   | some r => decide (r ≤ s.ctx[(19 : Fin 64)].outc[0])
   | none => false) || decide (s.chgBusTarget + 20 < s.chgBus)

/-- What binds keeps pv_limit, and enters it: PV_LIMIT, EV_CHG_PV, a sweep given up (R331, R332). -/
def pvBindStep (s : State) : State :=
  if s.chgSt ≠ 3 ∨ s.chgMode ≠ 3 ∨ s.pvBinds = false then s
  else
    let s := s.modChg fun c => { c with bindAt := s.now }
    if s.chg.pvLimit then s
    else ((s.modChg fun c => { c with pvLimit := true, sweepAt := if c.sweeping then s.now else c.sweepAt, sweeping := false }).orO
      O.chgFlags 0x400).raise 0x0604 0x5800 ((s.getQ O.chgVPvRef).floor.toNat * 65536 + 2)

/-- What the charger does at a sample of C19 or C20: the bounds of their outputs (R326, R329, R331; log 185). -/
def chgCtxSample (s : State) (c : Fin 64) : State :=
  if c = 19 then s.pvBindStep.modCtx 19 fun x => { x with cap := capOf s.chgInBound (s.outFs 19) }
  else s.modCtx c fun x => { x with cap := if s.chgMode = 3 then capOf s.chgOutTarget (s.inFs 16) else none }

/-- A result of P4 has been delivered (R325, R331, R339): leg currents, lines, bus and array voltage are judged. -/
def chgSample (s : State) (j : Nat) : State :=
  if s.resOk j = false then s
  else if 256 ≤ j ∧ j ≤ 258 then
    let s := s.when (s.chgOn && decide (s.getQ O.chgILegTrip < absQ (s.resFrac j * s.inFs 16))) fun s => s.chgStopFor [Cause.legOc]
    s.chgSelTry
  else if j = 262 then s.linesSample (s.resAt 262)
  else if j = 259 ∨ j = 290 then
    if s.chgOn && decide (s.getQ O.chgBusOv < s.resFrac j * s.inFs 19) then s.chgStopFor [Cause.busOv] else s
  else if j = 263 then
    let s := s.when (s.chgSt == 1 && s.chgMode == 3) fun s =>
      s.modChg fun c => { c with pvSum := c.pvSum + s.resVal 263, pvN := c.pvN + 1 }
    if s.chgMode ≠ 3 ∨ s.chgOn = false then s.chgOkStep else s.arraySample
  else s

/-- A late run of one of C16 to C21 (R339). -/
def chgLate (s : State) (c : Fin 64) : State :=
  if 16 ≤ c.val ∧ c.val ≤ 21 ∧ s.ctx[c].lateRuns = 4 then
    let l := s.now :: (s.chg.lateAt.filter fun t => s.now ≤ t + 60 * sTicks)
    (s.modChg fun x => { x with lateAt := l.take 3 }).chgStopFor [if 3 ≤ l.length then Cause.lateFault else Cause.late]
  else s

/-- A machine enters ENABLING (R335). -/
def chgDrive (s : State) (m : Fin 4) : State :=
  if (s.getO O.chgPtoMask).testBit m then s else s.chgStopFor [Cause.drive]

/-- A torque tick measures the load and looks at a pause (R326, R339). -/
def chgTorqueTick (s : State) : State := (s.modChg fun c => { c with load := s.chgLoadPower }).chgOkStep

/-- `chg.bat_temp` has been written (R333). -/
def batWritten (s : State) : State :=
  (s.modChg fun c => { c with batAt := some s.now }).batJudge

/-- The pilot's state or current has changed: EV_CHG_PILOT, CP_ERR, and cause PILOT while the charger switches (R318, R320,
R339). -/
def pilotChanged (s : State) : State :=
  let st := s.getO O.chgCpState
  let s := s.raise 0x0601 0x5800 (st * 65536 + (roundAway (s.getQ O.chgIPilot * 10)).toNat)
  let s := s.when (5 ≤ st && s.bitO O.chgFlags 16) fun s => s.orO O.chgFlags 8
  let s := s.when (s.chgMode == 1 && s.chgSt == 1) fun s => s.s2Close
  if s.chgMode = 1 ∧ s.chgOn = true ∧ (st ≠ 3 ∨ s.getQ O.chgIPilot = 0) then
    s.chgStopFor [if st = 1 then Cause.pilotA else Cause.pilot]
  else s.chgOkStep

/-- A duty is accepted (R317, R319, R320). -/
def dutyAccept (s : State) (d : Rat) : State :=
  let a := pilotAmps d
  let old := s.getQ O.chgIPilot
  let s := (s.setO O.chgCpDuty (roundAway (d * 10)).toNat).when a.2 fun s => s.orO O.chgFlags 4
  let s := s.modPilot fun p => { p with
    duty := some d, eff := if a.1 ≤ p.eff then a.1 else p.eff, riseAt := if a.1 ≤ p.eff then none else if a.1 = old then p.riseAt else some s.now }
  if a.1 = old then s else (s.setQ O.chgIPilot a.1).pilotChanged

/-- One period's pilot state; four in a row that agree change `chg.cp_state` (R317). -/
def pilotPeriod (s : State) (st : Nat) : State :=
  let n := if s.chg.pilot.cand = st then s.chg.pilot.run + 1 else 1
  let s := s.modPilot fun p => { p with cand := st, run := n }
  if 4 ≤ n ∧ s.getO O.chgCpState ≠ st then (s.setO O.chgCpState st).pilotChanged else s

/-- A pilot edge, timed to 5 ns (R317): on a rising edge the period just ended is taken, and two conversions of result 265 are asked for at
the centres of the coming plateaus. -/
def pilotEdge (s : State) (rising : Bool) (time : Nat) : State :=
  let t := time / 4 * 4
  if !rising then s.modPilot fun p => { p with fall := some t }
  else
    let p := s.chg.pilot
    let s := s.modPilot fun p => { p with rise := some t, high := none }
    match p.rise, p.fall with
    | some r, some f =>
      if r < f ∧ f < t then
        let s := (s.injAsk 265 .pilotHigh (t + (f - r) / 2)).injAsk 265 .pilotLow (t + (f - r) + (t - f) / 2)
        let l := (f - r, t - r) :: p.periods
        if l.length < 8 then s.modPilot fun p => { p with periods := l }
        else
          let high := l.foldl (fun a x => a + x.1) 0
          let all := l.foldl (fun a x => a + x.2) 0
          let d : Rat := (100 * high : Nat) / (all : Nat)
          let ok := decide (980 * all ≤ 8 * sTicks) && decide (8 * sTicks ≤ 1020 * all)
          let s := s.modPilot fun p => { p with periods := [], prev := some d, freqOk := ok }
          match p.prev with
          | some e => if ok && decide (absQ (d - e) ≤ 1 / 2) then s.dutyAccept d else s
          | none => s
      else s
    | _, _ => s

/-- The level of a pilot plateau has been converted; 15 V at 1.0 (R316 to R318). -/
def pilotLevel (s : State) (low : Bool) (word : Nat) : State :=
  if bitOf word 31 = false then s
  else
    let mv := roundAway ((toSigned 20 (bitsOf word 19 0) : Rat) * 15000 / 524288)
    if low then
      match s.chg.pilot.high with
      | some h => (s.modPilot fun p => { p with high := none }).pilotPeriod (pilotState h (some mv) s.chg.pilot.freqOk)
      | none => s
    else if s.pilotLive then s.modPilot fun p => { p with high := some mv }
    else (s.dutyAccept (if 1500 ≤ mv then 100 else 0)).pilotPeriod (pilotState mv none true)

/-- The proximity voltage has been converted (R321). -/
def proximityLevel (s : State) (word : Nat) : State :=
  if bitOf word 31 = false then s
  else
    let r := Config.proximityOhms (toSigned 20 (bitsOf word 19 0))
    let a := cableAmps r
    let plug := decide (75 ≤ r) && decide (r ≤ 2200)
    let none_ := a.isNone
    let bad := a == some none
    let s := s.modChg fun c => { c with
      ppRun := if plug then c.ppRun + 1 else 0, ppNone := none_, ppBad := if bad || (none_ && s.chgMode == 1) then c.ppBad + 1 else 0 }
    let s := if 3 ≤ s.chg.ppRun then s.orO O.chgFlags 0x10000 else s.clrO O.chgFlags 0x10000
    let s := s.when bad fun s => s.orO O.chgFlags 0x10
    let s := s.setQ O.chgICable (match a with
      | some (some n) => (n : Rat)
      | some none => 0
      | none => if s.chgMode = 2 then s.getQ O.chgSrcCable else 0)
    if 3 ≤ s.chg.ppBad then s.chgStopFor [Cause.pp] else s

end State

end Sys2Proof.Machine
end

