-- ==== Sys2Proof/Machine/AuxOps.lean ====
section
/-! DEFINITION. The shared operations of the auxiliary converter (chapter "Auxiliary converter"): states (R349, R351, R352),
the reflexes of its comparators (R352 to R355), phases (R356, R361), burst (R357) and the hooks that other chapters call. -/

namespace Sys2Proof.Machine

namespace AuxCause
/-! The causes of R362. -/
def command := 1
def link := 2
def override := 3
def short := 4
def overload := 5
def input := 6
def dcl := 7
def late := 8
def clock := 9
end AuxCause

/-- The links of the phases and the converter's contexts (R343). -/
def auxLink (k : Fin 8) : Fin 40 := ⟨32 + k.val, by omega⟩
def auxLinks : List (Fin 40) := (List.finRange 8).map auxLink
def trimCtx (k : Fin 8) : Fin 64 := ⟨23 + k.val, by omega⟩
def trimCtxs : List (Fin 64) := (List.finRange 8).map trimCtx

/-- A mask of phases. -/
def phMask (l : List (Fin 8)) : Nat := l.foldl (fun a k => a + 2 ^ k.val) 0

namespace State

/-- The state of the converter (R349) and of a phase (R361). -/
def auxSt (s : State) : Nat := s.getO O.auxState
def phSt (s : State) (k : Fin 8) : Nat := bitsOf (s.getO O.auxPhaseState) (4 * k + 3) (4 * k)
def putPh (s : State) (k : Fin 8) (st : Nat) : State :=
  s.setO O.auxPhaseState (putBits (s.getO O.auxPhaseState) (4 * k + 3) (4 * k) st)

/-- Configured phases, those not LOST, and the active ones in ascending order (R345, R361). -/
def auxConf (s : State) : List (Fin 8) := (List.finRange 8).filter fun k => k.val < s.getO O.auxPhases
def auxLive (s : State) : List (Fin 8) := s.auxConf.filter fun k => s.phSt k != 5
def phActive (s : State) (k : Fin 8) : Bool := s.phSt k == 1 || s.phSt k == 2 || s.phSt k == 4
def auxActive (s : State) : List (Fin 8) := s.auxConf.filter s.phActive

/-- The legs switch: SOFT_START, RUN, BURST (R349). -/
def auxOn (s : State) : Bool := s.auxSt == 1 || s.auxSt == 2 || s.auxSt == 3

/-- A change of STATE with EV_AUX_STATE (R365); `cause` is 0 for normal progression. -/
def auxTo (s : State) (st cause : Nat) : State :=
  let old := s.auxSt
  let s := (s.setO O.auxState st).modAux fun a => { a with at_ := s.now }
  let s := if st = 5 then s.orO O.auxFlags 0x200 else s.clrO O.auxFlags 0x200
  s.raise 0x0700 0x6000 (cause * 65536 + st * 256 + old)

/-- Every leg at 00, C22 to C30 OFF, trims no longer applied (R349, R360, R362). -/
def auxLegsOff (s : State) : State :=
  ((((s.forceLegs auxLinks false).ctxStop 22).ctxStops trimCtxs).clrO O.auxFlags 0x100).modAux fun a => { a with
    chisel := false, held := Vector.replicate 8 [], limit := 0, lastLimit := 0, olAt := none, lightAt := none, lowAt := none, bandAt := none, bandMet := false,
    packet := false, spreadAt := none, offAt := Vector.replicate 8 s.now }

/-- The converter ends in OFF, LATCHED or FAULT: a pending AUX_START ends with its cause (R350, R362). -/
def auxEnd (s : State) (st cause : Nat) : State :=
  if s.auxSt = 0 ∨ s.auxSt = 5 ∨ s.auxSt = 6 then s
  else
    let s := ((s.auxLegsOff.setO O.auxCause cause).setO O.auxPhaseState 0).auxTo st cause
    (s.modAux fun a => { a with
      okInAt := none, restartFor := if cause = AuxCause.input ∨ cause = AuxCause.dcl then cause else 0 }).endAll
        (fun p => p.code == 0x0701) St.fault (some (0x0700 + cause, 0))

/-- HICCUP, or LATCHED with cause SHORT at the eighth restart (R352, R353, R362). -/
def auxHiccup (s : State) (cause : Nat) : State :=
  let n := s.getO O.auxRestarts + 1
  let s := s.setO O.auxRestarts n
  if 8 ≤ n then s.auxEnd 5 AuxCause.short
  else
    let s := (s.auxLegsOff.orO O.auxFlags 0x10).setO O.auxCause cause
    (s.auxLive.foldl (fun s k => s.putPh k 0) s).auxTo 4 cause

/-- The feed-forward duty of a voltage (R344, R348). -/
def auxFf (s : State) (v : Rat) : Rat := if s.dcl.vLink = 0 then 0 else v * s.getQ O.auxRatio / s.dcl.vLink

/-- C22 preset at a starting voltage and turned ON (R351, R357). -/
def auxPreset (s : State) (v : Rat) : State :=
  let u := sat20 (roundAway (s.auxFf v * 524288))
  let fs := s.getQ O.auxVFs
  let fr (x : Rat) : Int := if fs = 0 then 0 else sat20 (roundAway (x / fs * 524288))
  let p := sat20 (gainMul (bankI (s.ctxBank 22) 0) (sat20 (fr v - fr (s.getQ O.auxVOut))))
  let s := s.modCtx 22 fun x => { x with
    outc := x.outc.set 0 u, applied := x.applied.set 0 u, integ := x.integ.set 0 ((u - p) * 2048), lastAt := s.now }
  (s.showOut 22).ctxStart 22

/-- SOFT_START (R350, R351). -/
def auxSoft (s : State) : State :=
  let v := s.getQ O.auxVOut
  let s := s.auxLive.foldl (fun s k => s.putPh k 1) s
  let s := ((s.setQ O.auxVRef v).modAux fun a => { a with
    startAt := s.now, target := v, rampAt := s.now, rampTicks := 0, slow := false, hist := [], okInAt := none, restartFor := 0 }).auxPreset v
  (s.releaseLegs (s.auxLive.map auxLink) (s.firstPeriod 7)).auxTo 1 0

/-- RUN (R351, R355, R357). -/
def auxRun (s : State) : State :=
  let s := s.when (s.auxSt != 3) fun s => s.modAux fun a => { a with cleanAt := s.now }
  ((s.modAux fun a => { a with packet := false, lowAt := none, lightAt := none }).auxTo 2 0).endAll (fun p => p.code == 0x0701) St.ok

/-- The converter leaves BURST for RUN; C22 is preset at the present reference (R357). -/
def auxBurstLeave (s : State) : State := (s.auxPreset (s.getQ O.auxVRef)).auxRun

/-- Dead time in force on a phase for its low side's turn-on, fine steps. -/
def auxDt (s : State) (k : Fin 8) (toHigh : Bool) : Nat := (s.deadTime (auxLink k) toHigh).1

/-- `t`, with what the change of a phase's edges since `s` does to the volt-seconds that C22's plan scheduled (R195, R348). -/
def auxCredit (t : State) (k : Fin 8) (s : State) : State :=
  let e := 8 * s.cgs[(7 : Fin 8)].planned
  let d : Int := (t.highAhead (auxLink k) e : Int) - s.highAhead (auxLink k) e
  let n := s.auxActive.length
  let fs := s.outFs 22
  if n = 0 ∨ fs = 0 then t
  else t.modCtx 22 fun x => { x with volts := x.volts.set 0 (x.volts[0] + roundAway ((d : Rat) * 65536 / (n : Nat) / fs)) }

/-- A high-side interval in progress ended at once: 00, then the low side after the dead time (R352, R354). -/
def auxCutShort (s : State) (k : Fin 8) (high : Bool) : State :=
  if high then (s.edgesNow (auxLink k) [(0, 0), (s.auxDt k false, 1)]).1 else s

/-- A phase's high-side interval ended at once: the new off edge stands in for the planned one, later pulses stay (R352, R354). -/
def auxTruncate (s : State) (k : Fin 8) : State :=
  let l := auxLink k
  (((s.cancelEdges l).auxCutShort k (s.legNow l == 2)).replay l false (s.pendingEdges l)).auxCredit k s

/-- A phase under Chisel: its high-side interval ends, and the pulses planned are kept back (R354). -/
def auxKeepBack (s : State) (k : Fin 8) : State :=
  let l := auxLink k
  (((s.cancelEdges l).auxCutShort k (s.legNow l == 2)).auxCredit k s).modAux fun a => { a with
    held := a.held.set k (a.held[k] ++ s.pendingEdges l), heldPlan := if a.chisel then a.heldPlan else s.cgs[(7 : Fin 8)].planned }

/-- A phase after Chisel: the pulses kept back that are still to come run (R354; log 187). -/
def auxGiveBack (s : State) (k : Fin 8) : State :=
  let l := auxLink k
  let late := decide (s.aux.heldPlan ≠ s.cgs[(7 : Fin 8)].planned)
  (((s.pruneEdges l).replay l late (s.aux.held[k].filter fun (e : Edge) => decide (8 * s.now < e.target))).auxCredit k s).modAux fun a =>
    { a with held := a.held.set k [] }

/-- The window comparator's thresholds about the reference; while Chisel holds, its upper one is the release level (R347, R354, R355). -/
def auxWindow (s : State) : State :=
  let v (q : Rat) : Rat := s.getQ O.auxVRef * q / s.getQ O.auxVFs * 524288
  let code (q : Rat) : Nat := thresholdCode (s.getO (O.adcResCal 320)) (v q)
  let us := code (1 - (s.getO O.auxUsThr : Nat) / 1000)
  let os := code (1 + ((if s.aux.chisel then s.getO O.auxOsRel else s.getO O.auxOsThr) : Nat) / 1000)
  s.modAux fun a => { a with usCode := us, osCode := os }

/-- The peak comparators' thresholds loaded (R347). -/
def auxPeakLoad (s : State) : State :=
  let v := s.getQ O.auxIPeak / s.getQ O.auxIphFs * 524288
  let l := Vector.ofFn fun k : Fin 8 => thresholdCode (s.getO (O.adcResCal (322 + k.val))) v
  s.modAux fun a => { a with pkCode := l }

/-- IN_FS of C22, or of the trims, follows the full scale written (R348). -/
def auxFollowV (s : State) : State := s.setO (O.lpeUnits 22) (putBits (s.getO (O.lpeUnits 22)) 31 0 (s.getO O.auxVFs))
def auxFollowI (s : State) : State :=
  (trimCtxs.foldl (fun (s : State) (c : Fin 64) => s.setO (O.lpeUnits c) (putBits (s.getO (O.lpeUnits c)) 31 0 (s.getO O.auxIphFs))) s).auxPeakLoad

/-- A phase's leg commanded 00 at once. -/
def auxPhaseOff (s : State) (k : Fin 8) : State :=
  ((s.cancelEdges (auxLink k)).edgesNow (auxLink k) [(0, 0)]).1.modAux fun a => { a with offAt := a.offAt.set k s.now }

/-- EV_AUX_SHED with the new active count (R356). -/
def auxShedEvent (s : State) (k : Fin 8) : State := s.raise 0x0701 0x6000 (s.auxActive.length * 256 + k)

/-- A SHED phase that joins while the trims are engaged is trimmed (R360). -/
def auxTrimJoin (s : State) (k : Fin 8) : State :=
  s.when (s.phSt k == 3 && s.bitO O.auxFlags 8 && (s.getO O.auxISense).testBit k) fun s => s.ctxStart (trimCtx k)

/-- A SHED phase joins: after a refresh pulse where it has been at 00 for more than 200 µs (R355, R356). -/
def auxJoin (s : State) (k : Fin 8) : State :=
  let s := s.auxTrimJoin k
  if s.aux.offAt[k] + 160000 < s.now then
    let r := s.edgesNow (auxLink k) [(0, 1), (960, 0)]
    (r.1.putPh k 4).modAux fun a => { a with joinAt := a.joinAt.set k ((r.2 + 960) / 8) }
  else s.putPh k 1

/-- A phase fires (R355): where its high side is on it stays on, else it goes through 00; the pulse ends `d_max` of the nominal period
after the fire instant, and slots that were planned after its end stay. -/
def auxFirePhase (s : State) (k : Fin 8) : State :=
  let l := auxLink k
  let t := (((s.auxTrimJoin k).cancelEdges l).pruneEdges l)
  let len := (roundAway (s.getQ O.auxDMax * (8 * s.cgNominal 7 : Nat))).toNat
  let on := s.legNow l == 2
  let tail := [(len, 0), (len + s.auxDt k false, 1)]
  let seq := if on then tail else (0, 0) :: (s.auxDt k true, 2) :: tail
  let base := t.edgeBase l (if on then [(0, 0)] else seq)
  let t := (t.edgesAt l base seq).replay l false ((s.pendingEdges l).filter fun (e : Edge) => decide (base + len + s.auxDt k false < e.target))
  ((t.auxCredit k s).putPh k 1).modAux fun a => { a with fireEnd := max a.fireEnd ((base + len) / 8) }

/-- The undershoot comparator trips: shedding and BURST end, every phase fires or refreshes; under Chisel no high side turns on
(R354, R355; log 187). -/
def auxFire (s : State) : State :=
  if (s.auxSt ≠ 2 ∧ s.auxSt ≠ 3) ∨ s.now < s.aux.fireEnd then s
  else
    let s := s.when (s.auxSt == 3) auxBurstLeave
    let n := s.auxActive.length
    let new := s.auxLive.filter fun k => s.phSt k == 3
    let refresh := s.auxLive.filter fun k => s.phSt k == 3 && decide (s.aux.offAt[k] + 160000 < s.now)
    let rest := s.auxLive.filter fun k => !refresh.contains k
    let fire := if s.aux.chisel then [] else rest
    let s := refresh.foldl (fun s k => s.auxJoin k) s
    let s := if s.aux.chisel then rest.foldl (fun s k => (s.auxTrimJoin k).putPh k 1) s else rest.foldl (fun s k => s.auxFirePhase k) s
    let s := s.modAux fun a => { a with bandAt := none, bandMet := false, lightAt := none, ramp := 0 }
    let s := (s.orO O.auxFlags 1).raise 0x0702 0x6000 (phMask refresh * 256 + phMask fire)
    if s.auxActive.length = n then s else new.foldl (fun s k => s.auxShedEvent k) s

/-- A phase becomes LOST (R361). -/
def auxLost (s : State) (k : Fin 8) : State :=
  let s := s.modAux fun a => { a with badAt := a.badAt.set k s.now }
  if !(s.auxOn || s.auxSt == 4) || s.phSt k == 5 || !(s.auxConf.contains k) then s
  else
    let was := s.phActive k
    let s := (((s.putPh k 5).forceLegs [auxLink k] false).ctxStop (trimCtx k)).orO O.auxFlags 0x40
    let s := (s.raise 0x0706 0x6000 (256 + k)).when was fun s => s.auxShedEvent k
    if s.auxLive.isEmpty then s.auxEnd 6 AuxCause.link else s

/-- The mean of a phase's trim as it is applied (R344, R360). -/
def auxTrim (s : State) (k : Fin 8) : Rat :=
  if s.bitO O.auxFlags 8 then (s.ctx[trimCtx k].outc[0] : Rat) / 524288 * s.outFs (trimCtx k).val else 0

/-- The duty of a phase (R344, R354, R356, R357). -/
def auxDuty (s : State) (k : Fin 8) : Rat :=
  let u := if s.auxSt = 3 then s.auxFf (s.getQ O.auxVRef)
    else (s.ctx[(22 : Fin 64)].outc[0] : Rat) / 524288 * s.outFs 22 + s.auxTrim k
  let d := if s.aux.chisel then 0 else clampQ u 0 (s.getQ O.auxDMax)
  if s.phSt k = 2 then d * (s.getO O.auxShedRamp - s.aux.ramp : Nat) / (s.getO O.auxShedRamp : Nat) else d

/-- The instant at which a phase's slot in a window begins: one that reaches into the next period has begun before (R128, R345). -/
def auxSlot (centre : Bool) (start len : Nat) (shift d : Rat) : Rat :=
  let a := (if centre then 1 / 2 - d / 2 else 0) + shift
  let a := a - a.floor
  (start : Rat) + (if 1 < a + d then 0 else a * (len : Nat))

/-- The commands of the phases for a window of CG7: a phase switches from its first slot after a fire pulse, or one nominal period
after its refresh pulse (R344, R345, R355 to R357). -/
def auxCmds (s : State) (start len : Nat) : List (Fin 40 × LegCmd) :=
  let act := s.auxActive
  let n := act.length
  if !s.auxOn || (s.auxSt == 3 && !s.aux.packet) then []
  else act.zipIdx.filterMap fun p =>
    let k := p.1
    let d := s.auxDuty k
    let sh := (p.2 : Rat) / (n : Nat)
    let from_ := if s.phSt k = 4 then s.aux.joinAt[k] + s.cgNominal 7 else s.aux.fireEnd
    if auxSlot ((s.getO (O.pwmMode 7)).testBit 0) start len sh d < (from_ : Rat) then none
    else some (auxLink k, { duty := d, shift := sh })

/-- The reference brought on (R351, R363): the target through its limiter, the soft-start ramp over the periods without a limit. -/
def auxRef (s : State) : State :=
  let goal := s.getQ O.auxVTarget
  let dt := s.now - s.aux.rampAt
  let t := if s.auxSt = 1 then goal else toward goal s.aux.target (s.getQ O.auxVSlew * dt / msTicks)
  let v := s.getQ O.auxVRef
  let free := s.aux.rampTicks
  let s := s.modAux fun a => { a with rampAt := s.now, rampTicks := 0 }
  if s.auxSt = 1 then
    let v' := minQ goal (v + goal * free / (s.getO O.auxSsTime * 80000 : Nat))
    let s := s.setQ O.auxVRef v'
    if goal ≤ v' then (s.modAux fun a => { a with target := goal }).auxRun else s
  else (s.modAux fun a => { a with target := t }).setQ O.auxVRef t

/-- Phases whose current is read, and the spread of their currents (R360). -/
def auxSensed (s : State) : List (Fin 8) := s.auxActive.filter fun k => (s.getO O.auxISense).testBit k
def auxSpread (s : State) : Option Rat :=
  let l := s.auxSensed.map fun k => s.resFrac (322 + k.val) * s.getQ O.auxIphFs
  let mean := meanQ l
  match l with
  | a :: b :: t =>
    if s.getQ O.auxIPhase / 5 < mean then
      let hi := (b :: t).foldl maxQ a
      let lo := (b :: t).foldl minQ a
      some ((hi - lo) / mean)
    else none
  | _ => none

/-- A sample instant of C22: reference and window comparator (R347, R363); band, load and spread outside BURST (R355, R356, R360). -/
def auxSample (s : State) : State :=
  if s.auxOn = false then s
  else if s.auxSt = 3 then s.auxRef.auxWindow
  else
    let s := s.auxRef.auxWindow
    let v := s.getQ O.auxVOut
    let r := s.getQ O.auxVRef
    let inside := decide (absQ (v - r) ≤ (s.getO O.auxBand : Nat) * r / 1000)
    let s := s.modAux fun a => { a with bandAt := heldSince s.now inside a.bandAt, bandMet := a.bandMet && inside }
    if s.auxSt ≠ 2 then s
    else
      let n := s.auxActive.length
      let i := s.getQ O.auxIOut
      let iph := s.getQ O.auxIPhase
      let light := decide (i < ((n - 1 : Nat) : Rat) * iph * (s.getO O.auxShedFrac : Nat) / 1000)
      let s := s.modAux fun a => { a with lightAt := heldSince s.now light a.lightAt }
      let s := if s.cgs[7].valley % 64 = 0 then
          let sp := s.auxSpread
          let beyond := decide ((s.getO O.auxBalThr : Rat) < sp.getD 0 * 1000)
          s.modAux fun a => { a with spread := (roundAway (sp.getD 0 * 1000)).toNat, spreadAt := heldSince s.now beyond a.spreadAt }
        else s
      if (n : Rat) * iph * (s.getO O.auxAddFrac : Nat) / 1000 < i then
        match s.auxConf.find? fun k => s.phSt k == 3 with
        | some k => (s.auxJoin k).auxShedEvent k
        | none => s
      else s

/-- The load fraction over the last millisecond (R357). -/
def auxLoad (s : State) : Rat := meanQ (s.aux.hist.map Prod.snd) / 6

/-- Packets of BURST on a new value of result 320 (R357). -/
def auxPackets (s : State) : State :=
  if s.auxSt ≠ 3 then s
  else if (3 * (s.getO O.auxBurstOn : Nat) : Rat) / 2000 < s.auxLoad then s.auxBurstLeave
  else
    let v := s.getQ O.auxVOut
    let r := s.getQ O.auxVRef
    if s.aux.packet then
      if s.getO O.auxBurstMin < s.aux.packetN ∧ r * (1 + (s.getO O.auxBurstHi : Nat) / 1000) ≤ v then
        ((s.auxActive.foldl (fun s k => s.auxPhaseOff k) s).modAux fun a => { a with packet := false }).pauseFrom 3
          (s.getO O.thmPauseBurst * usTicks)
      else s
    else if v ≤ r * (1 - (s.getO O.auxBurstLo : Nat) / 1000) ∧ s.thm.pause[3] ≤ s.now then
      s.modAux fun a => { a with packet := true, packetN := 0 }
    else s

/-- Results 320 and 321 delivered: output voltage, current, power (R346, R357, R363). -/
def auxMeasure (s : State) (j : Nat) : State :=
  if s.resOk j = false then s
  else if j = 320 then (s.setQ O.auxVOut (s.resFrac 320 * s.getQ O.auxVFs)).auxPackets
  else if j = 321 then
    let i := s.resFrac 321 * s.getQ O.auxIFs
    let p := s.resFrac 320 * s.getQ O.auxVFs * i / 1000
    let s := (s.setQ O.auxIOut i).setQ O.auxPOut p
    let s := s.modAux fun a => { a with hist := (s.now, p) :: a.hist.filter fun x => s.now < x.1 + msTicks }
    let low := s.auxSt == 2 && s.auxActive.length == 1 && decide (s.auxLoad < (s.getO O.auxBurstOn : Nat) / 1000)
    s.modAux fun a => { a with lowAt := heldSince s.now low a.lowAt }
  else s

/-- A phase that has ramped to 0 is SHED (R356). -/
def auxShedDone (s : State) (k : Fin 8) : State :=
  (((s.auxPhaseOff k).putPh k 3).modAux fun a => { a with ramp := 0 }).auxShedEvent k

/-- The start of a period of CG7 after one that lasted `ended` ticks (R345, R352, R353, R355 to R357). A packet counts the periods that
it has begun. -/
def auxPeriod (s : State) (ended : Nat) : State :=
  if s.auxOn = false then s
  else
    let cmds := s.cgs[(7 : Fin 8)].last
    let beyond := s.auxSt == 2 && s.aux.limit != 0 && decide (s.getQ O.auxVOut < 4 / 5 * s.getQ O.auxVTarget) ||
      s.auxSt == 1 && s.aux.slow && s.aux.limit != 0 && decide (s.getQ O.auxVOut < 4 / 5 * s.getQ O.auxVTarget)
    let s := s.modAux fun a => { a with
      lastLimit := a.limit, limit := 0, rampTicks := if a.limit = 0 then a.rampTicks + ended else a.rampTicks,
      olAt := heldSince s.now beyond a.olAt, packetN := if a.packet && !cmds.isEmpty then a.packetN + 1 else 0 }
    let s := match s.auxConf.find? fun k => s.phSt k == 2 with
      | some k => if s.getO O.auxShedRamp ≤ s.aux.ramp + 1 then s.auxShedDone k else s.modAux fun a => { a with ramp := a.ramp + 1 }
      | none => s
    s.auxConf.foldl (fun s k =>
      if s.phSt k = 4 ∧ (kGet cmds (auxLink k).val).isSome then s.putPh k 1 else s) s

/-- A late run of C22: four in a row end in HICCUP (R362). -/
def auxLate (s : State) : State := if s.ctx[(22 : Fin 64)].lateRuns = 4 ∧ s.auxOn then s.auxHiccup AuxCause.late else s

/-- A new link voltage (R362). -/
def auxLinkVolt (s : State) : State :=
  let v := s.dcl.vLink
  let m := s.getQ O.auxVinMin
  s.modAux fun a => { a with
    lowInAt := heldSince s.now (decide (v < m - 20)) a.lowInAt, okInAt := heldSince s.now (decide (m ≤ v)) a.okInAt }

/-- The link of a phase was not READY, or reported a FAULT bit, until now (R361). -/
def auxMark (s : State) (l : Fin 40) : State :=
  if 32 ≤ l.val then s.modAux fun a => { a with badAt := a.badAt.set (l.val % 8) s.now (Nat.mod_lt _ (by decide)) } else s

/-- The lock to AUX_SYNC is lost (R359). -/
def auxSyncLost (s : State) : State :=
  if s.bitO O.auxFlags 10 then
    ((((s.clrO O.auxFlags 0x400).orO O.auxFlags 0x80).setO O.auxSyncFreq 0).modAux fun a => { a with hold := some s.now, edge := none, periods := [] }).raise
      0x0704 0x6000 0
  else s

end State

end Sys2Proof.Machine
end

