-- ==== Sys2Proof/Machine/Auxiliary.lean ====
section
/-! DEFINITION. The rows of chapter "Auxiliary converter". -/

namespace Sys2Proof.Machine

namespace State

/-- The checks that the converter's commands share (R364, R486, R489, R517). -/
def auxCommon (s : State) (c : Cmd) (role : Nat) (power : Bool) : List Chk :=
  [chkLen c 0, chkLc s power false, chkRole s c role, chkOwn s c 7, chkIl s (some 7)]

/-- Checks 2 to 6 of R350. -/
def auxChecks (s : State) : List Chk :=
  [chkR (decide (s.getQ O.auxRatio ≤ 0)) St.state 0x0140 O.auxRatio,
   chkR (10 * s.getO O.auxSsTimeout ≤ s.getO O.auxSsTime) St.state 0x0140 O.auxSsTimeout,
   chkR (s.getO O.auxAddFrac ≤ s.getO O.auxShedFrac) St.state 0x0140 O.auxShedFrac,
   chkR (s.getO O.auxOsThr ≤ s.getO O.auxOsRel) St.state 0x0140 O.auxOsRel,
   chkR s.tripLatched St.state 0x0141,
   chkR (s.auxConf.all fun k => !s.countsReady (auxLink k)) St.state 0x0142 32,
   chkR (2 ≤ s.override 7) St.refused 0x0003 7,
   chkR (decide (s.dcl.vLink < s.getQ O.auxVinMin)) St.refused 0x0143 s.dcl.vLink.floor.toNat]

/-- SOFT_START with the phases whose links are not READY as LOST (R350). -/
def auxBegin (s : State) : State :=
  let s := s.auxConf.foldl (fun s k =>
    if s.countsReady (auxLink k) then s else (s.putPh k 5).modAux fun a => { a with badAt := a.badAt.set k s.now }) (s.setO O.auxPhaseState 0)
  s.auxSoft

/-- AUX_START (R350). -/
def auxStart (c : Cmd) (s : State) : State × Reply :=
  s.guarded (byRank (s.auxCommon c 1 true ++ [chkR (s.auxSt != 0) St.state 0x0100 s.auxSt] ++ s.auxChecks ++ s.chkAdmit [22])) fun s =>
    ((s.hold c (some 7) []).auxBegin, .pending)

/-- AUX_STOP (R364). -/
def auxStop (c : Cmd) (s : State) : State × Reply :=
  s.guarded (s.auxCommon c 1 false) fun s =>
    (if s.auxSt = 0 then s.setO O.auxCause AuxCause.command else s.auxEnd 0 AuxCause.command, .ok)

/-- AUX_CLEAR (R364). -/
def auxClear (c : Cmd) (s : State) : State × Reply :=
  s.guarded (s.auxCommon c 2 false ++ [chkR (s.auxSt != 5 && s.auxSt != 6) St.state 0x0100 s.auxSt]) fun s =>
    ((s.setO O.auxRestarts 0).auxTo 0 0, .ok)

/-- `ss_timeout` in SOFT_START (R352). -/
def ssTimeout (s : State) : State :=
  if s.auxSt ≠ 1 ∨ s.now < s.aux.startAt + s.getO O.auxSsTimeout * msTicks ∨ s.aux.slow then s
  else if s.getQ O.auxVOut < s.getQ O.auxVTarget / 5 then s.auxHiccup AuxCause.short
  else (s.modAux fun a => { a with slow := true }).orO O.auxFlags 8

/-- The peak comparator of a phase trips during its high-side interval (R352). -/
def peakTrip (s : State) (k : Fin 8) : State :=
  if s.auxOn && s.phActive k && s.legNow (auxLink k) == 2 then
    ((s.auxTruncate k).modAux fun a => { a with limit := a.limit ||| 2 ^ k.val }).orO O.auxFlags 4
  else s

/-- The overshoot comparator trips (R354). -/
def overshoot (s : State) : State :=
  if s.auxOn then
    let s := s.auxActive.foldl (fun s k => s.auxKeepBack k) s
    (((s.modAux fun a => { a with chisel := true, fireEnd := s.now }).orO O.auxFlags 2).auxWindow).raise 0x0703 0x6000
      (roundAway (s.getQ O.auxVOut * 1000)).toNat
  else s

/-- The output has fallen below the release level that the comparator holds under Chisel (R354). -/
def chiselEnd (s : State) : State :=
  if s.aux.chisel then
    (s.auxActive.foldl (fun s k => s.auxGiveBack k) (s.modAux fun a => { a with chisel := false })).auxWindow
  else s

/-- A shed (R356). -/
def shedExpiry (s : State) : State :=
  match s.aux.lightAt, s.auxActive.reverse with
  | some t, k :: _ :: _ =>
    if s.auxSt = 2 ∧ s.aux.bandMet ∧ t + s.getO O.auxShedWait * msTicks ≤ s.now ∧ (s.auxConf.all fun k => s.phSt k != 2) then
      (s.putPh k 2).modAux fun a => { a with ramp := 0, lightAt := none }
    else s
  | _, _ => s

/-- BURST entered: C22 OFF, one phase active, the others SHED (R357). -/
def burstEntry (s : State) : State :=
  match s.aux.lowAt with
  | some t =>
    if s.auxSt = 2 ∧ s.getO O.auxBurstOn ≠ 0 ∧ s.auxActive.length = 1 ∧ t + 10 * msTicks ≤ s.now then
      let lead := (s.auxLive.head?).getD 0
      let s := (s.ctxStop 22).ctxStops trimCtxs
      let s := s.auxLive.foldl (fun s k => (if s.phSt k = 3 then s else s.auxPhaseOff k).putPh k (if k = lead then 1 else 3))
        (s.clrO O.auxFlags 0x100)
      (((s.modAux fun a => { a with packet := false, lowAt := none, spreadAt := none }).orO O.auxFlags 0x20).auxTo 3 0).endAll
        (fun p => p.code == 0x0701) St.ok
    else s
  | none => s

/-- Whether measured periods may lock: within R358's window and within 1 % of each other. -/
def syncFits (s : State) (l : List Nat) : Bool :=
  let f := s.getO (O.pwmFreq 7)
  l.all (fun p => decide (2000 ≤ p) && decide (p ≤ 16000) && decide (9 * f * p ≤ 8000000000) && decide (8000000000 ≤ 11 * f * p)) &&
    decide (100 * l.foldl max 0 ≤ 101 * l.foldl min (l.headD 0))

/-- The last measured periods while locked: their mean, and the frequency shown (R358). -/
def syncTake (s : State) (l : List Nat) : State :=
  let mean : Rat := meanQ ((l.take 4).map fun (n : Nat) => (n : Rat))
  (s.modAux fun a => { a with periods := l.take 4, mean }).setQ O.auxSyncFreq (if mean = 0 then 0 else 800000000 / mean)

/-- A rising edge of AUX_SYNC, stamped to 5 ns (R358, R359). -/
def syncEdge (s : State) (time : Nat) : State :=
  let t := time / 4 * 4
  if s.getO O.auxSyncMode ≠ 1 then s
  else
    let old := s.aux.edge
    let s := s.modAux fun a => { a with edge := some t }
    match old with
    | none => s
    | some e =>
      let p := t - e
      if s.bitO O.auxFlags 10 then
        if s.syncFits ((p :: s.aux.periods).take 4) then s.syncTake (p :: s.aux.periods) else s.auxSyncLost
      else
        let l := if s.syncFits (p :: s.aux.periods) then p :: s.aux.periods else if s.syncFits [p] then [p] else []
        if 8 ≤ l.length then
          (((s.modAux fun a => { a with hold := none }).orO O.auxFlags 0x400).syncTake l).raise 0x0704 0x6000 1
        else s.modAux fun a => { a with periods := l }

/-- Half as much again as the mean of the measured periods has passed without an edge (R359). -/
def syncTimeout (s : State) : State :=
  match s.aux.edge with
  | some e =>
    if s.bitO O.auxFlags 10 ∧ 8 * e + 3 * s.aux.periods.foldl (· + ·) 0 < 8 * s.now then
      s.auxSyncLost.modAux fun a => { a with edge := none }
    else s
  | none => s

/-- CG7 goes back to its own settings: the next period, where no plan has frozen it, begins a new block (R126, R359). -/
def ownCarrier (s : State) : State :=
  let n := s.cgNominal 7
  let d := s.cgDither 7
  let m := s.getO (O.pwmMode 7)
  s.modCg 7 fun c =>
    if c.start + c.cur < c.planned then { c with drawn := 256 }
    else
      let c := (c.build n d m (s.getO (O.pwmSeed 7))).draw
      { c with nextMode := c.cfg.mode, nextNominal := c.cfg.nominal }

/-- The free-run hold ends (R359). -/
def syncHoldEnd (s : State) : State :=
  match s.aux.hold with
  | some t =>
    if t + s.getO O.auxSyncHold * msTicks ≤ s.now then
      (s.modAux fun a => { a with hold := none, periods := [] }).ownCarrier
    else s
  | none => s

/-- The trims engage (R360). -/
def trimEngage (s : State) : State :=
  match s.aux.spreadAt with
  | some t =>
    if s.auxSt = 2 ∧ s.bitO O.auxFlags 8 = false ∧ t + s.getO O.auxBalTime * msTicks ≤ s.now then
      let s := s.auxSensed.foldl (fun s k =>
        ((s.modCtx (trimCtx k) fun x => { x with integ := Vector.replicate 4 0 }).ctxStart (trimCtx k))) s
      (s.orO O.auxFlags 0x100).raise 0x0705 0x6000 s.aux.spread
    else s
  | none => s

/-- A LOST phase rejoins as SHED (R361). -/
def phaseRejoin (s : State) (k : Fin 8) : State :=
  let l := auxLink k
  if s.phSt k = 5 ∧ s.countsReady l ∧ s.links[l].fault = 0 ∧ s.aux.badAt[k] + sTicks ≤ s.now then
    (((s.putPh k 3).releaseLegs [l] (s.firstPeriod 7)).modAux fun a => { a with offAt := a.offAt.set k 0 }).raise 0x0706 0x6000
      (512 + k)
  else s

/-- A restart after INPUT or DCL (R362). -/
def autoRestart (s : State) : State :=
  match s.aux.okInAt with
  | some t =>
    if s.auxSt = 0 ∧ s.aux.restartFor ≠ 0 ∧ s.getO O.auxAutoRestart = 1 ∧
        t + 100 * msTicks ≤ s.now ∧ (firstBad (s.auxChecks ++ s.chkAdmit [22])).isNone then s.auxBegin
    else s
  | none => s

/-- What has lasted for a time. -/
def lasted (s : State) (o : Option Nat) (ticks : Nat) : Bool := match o with
  | some t => decide (t + ticks ≤ s.now)
  | none => false

end State

/-! ### The rows -/

def execAuxStart (s : State) : Host.Outcome State Fault Refusal := .next (s.runCmd 0x0701 State.auxStart)

def execAuxStop (s : State) : Host.Outcome State Fault Refusal := .next (s.runCmd 0x0702 State.auxStop)

def execAuxClear (s : State) : Host.Outcome State Fault Refusal := .next (s.runCmd 0x0703 State.auxClear)

def execSsTimeout (s : State) : Host.Outcome State Fault Refusal := .next s.ssTimeout

def execHiccupEnd (s : State) : Host.Outcome State Fault Refusal :=
  .next (if s.auxSt = 4 ∧ s.aux.at_ + 64 * msTicks ≤ s.now then s.auxSoft else s)

def execRestartCountClear (s : State) : Host.Outcome State Fault Refusal :=
  .next (if (s.auxSt = 2 ∨ s.auxSt = 3) ∧ s.aux.cleanAt + sTicks ≤ s.now then s.setO O.auxRestarts 0 else s)

def execOverloadTimeout (s : State) : Host.Outcome State Fault Refusal :=
  .next (if s.lasted s.aux.olAt (s.getO O.auxOlTime * msTicks) then s.auxHiccup AuxCause.overload else s)

def execPhasePeakTrip (k : Fin 8) (s : State) : Host.Outcome State Fault Refusal := .next (s.peakTrip k)

def execOvershootTrip (s : State) : Host.Outcome State Fault Refusal := .next s.overshoot

def execChiselRelease (s : State) : Host.Outcome State Fault Refusal :=
  .next s.chiselEnd

def execUndershootTrip (s : State) : Host.Outcome State Fault Refusal := .next s.auxFire

def execBandHoldMet (s : State) : Host.Outcome State Fault Refusal :=
  .next (if s.lasted s.aux.bandAt (s.getO O.auxShedHold * msTicks) then s.modAux fun a => { a with bandMet := true } else s)

def execShedWaitExpiry (s : State) : Host.Outcome State Fault Refusal := .next s.shedExpiry

def execBurstEntry (s : State) : Host.Outcome State Fault Refusal := .next s.burstEntry

def execAuxSyncEdge (t : Nat) (s : State) : Host.Outcome State Fault Refusal := .next (s.syncEdge t)

def execSyncLost (s : State) : Host.Outcome State Fault Refusal := .next s.syncTimeout

def execSyncHoldEnd (s : State) : Host.Outcome State Fault Refusal := .next s.syncHoldEnd

def execTrimEngage (s : State) : Host.Outcome State Fault Refusal := .next s.trimEngage

def execAuxPhaseRejoin (k : Fin 8) (s : State) : Host.Outcome State Fault Refusal := .next (s.phaseRejoin k)

def execAuxInputLow (s : State) : Host.Outcome State Fault Refusal :=
  .next (if s.auxOn && s.lasted s.aux.lowInAt msTicks then s.auxEnd 0 AuxCause.input else s)

def execAuxAutoRestart (s : State) : Host.Outcome State Fault Refusal := .next s.autoRestart

end Sys2Proof.Machine
end

