-- ==== Sys2Proof/Machine/Charger.lean ====
section
/-! DEFINITION. The rows of chapter "Charger and input sources". -/

namespace Sys2Proof.Machine

namespace State

/-- The checks that the charger's commands share (R341, R486, R489, R517). -/
def chgCommon (s : State) (c : Cmd) (power : Bool) : List Chk :=
  [chkLc s power false, chkRole s c 1, chkOwn s c 5, chkIl s (some 5)]

/-- CHG_START (R323, R324). -/
def chgStart (c : Cmd) (s : State) : State × Reply :=
  let mode := fieldAt c.payload 0 1
  let found := s.chgSelect mode
  s.guarded (byRank ([chkLen c 4, chk (3 < mode) St.range, chkZero c 1 3] ++ s.chgCommon c true ++
    [chkR (s.chgSt != 0) St.state 0x0100 s.chgSt] ++ s.chgChecks ++
    [chkR (found == 0) St.refused 0x0137 (s.chgSelect 0)] ++ s.chkAdmit [16, 17, 18, 19, 20, 21])) fun s =>
    (((s.modChg fun x => { x with limit := none }).hold c (some 5) []).chgQualify found, .pending)

/-- CHG_STOP (R341). -/
def chgStop (c : Cmd) (s : State) : State × Reply :=
  s.guarded ([chkLen c 0] ++ s.chgCommon c false) fun s =>
    match s.chgSt with
    | 0 => (s, .ok)
    | 6 => (s.chgEnter 0 1, .ok)
    | 4 => ((s.hold c (some 5) []).chgEnter 0 1, .pending)
    | 5 => ((s.hold c (some 5) []).modChg fun x => if x.ends = 4 then { x with ends := 0, stopCause := 1 } else x, .pending)
    | _ => ((s.hold c (some 5) []).chgStopFor [⟨1, false, 0⟩], .pending)

/-- CHG_RESEARCH (R328, R332, R341). -/
def chgResearch (c : Cmd) (s : State) : State × Reply :=
  s.guarded ([chkLen c 0] ++ s.chgCommon c false ++ [chkR (s.chgSt != 3 || s.chgMode == 1) St.state 0x0100]) fun s =>
    let s := s.hold c (some 5) []
    if s.chgMode = 2 then (s.chgReSearch, .pending) else (s.modChg fun x => { x with sweepAsk := true }, .pending)

/-- A measured line: v, frequency, and what QUALIFY, CHARGING and PAUSED make of them (R325 to R328, R339). -/
def lineQualify (s : State) (okRange : Bool) (live : Nat) : State :=
  if live = 2 then s.chgStopFor [Cause.inputLoss]
  else if okRange then s else s.modChg fun c => { c with qualAt := s.now }

/-- The input limit brought to its target: a rise at `i_ramp`, a fall at once (R326); a search's hold starts when its step
is reached (R327). -/
def inLimStep (s : State) (dt : Nat) : State :=
  let cur := s.getQ O.chgIInLim
  let t := s.chgTarget
  let new := if t ≤ cur then t else minQ t (cur + s.getQ O.chgIRamp * dt / sTicks)
  let s := s.setQ O.chgIInLim new
  match s.chg.search with
  | some x =>
    if x.reachedAt.isNone ∧ x.i ≤ new then
      s.modChg fun c => { c with search := some { x with reachedAt := some s.now, outLim := true }, rocof := false }
    else if 9 / 10 * x.i ≤ s.chg.inA then s.modChg fun c => { c with search := some { x with outLim := false } }
    else s
  | none => s

/-- The live lines: those above 40 V RMS (R325). -/
def liveLines (s : State) : List Line := s.chg.lines.toList.filter fun l => decide (40 < l.rms)

/-- The input voltage that the lines give: the smallest line-to-line RMS of three, else that of L1 (R325). -/
def linesV (s : State) : Rat :=
  let l := s.chg.lines
  if s.liveLines.length = 3 then minQ l[0].rmsNext (minQ l[1].rmsNext l[2].rmsNext) else l[0].rms

/-- A live line keeps the ranges of R312 and its frequency stays by the mean (R312, R325). -/
def lineOk (mean : Rat) (three : Bool) (l : Line) : Bool :=
  (if three then decide (150 ≤ l.rmsNext) && decide (l.rmsNext ≤ 480) else decide (85 ≤ l.rms) && decide (l.rms ≤ 277)) &&
    decide (45 ≤ l.freq) && decide (l.freq ≤ 65) && decide (absQ (l.freq - mean) ≤ 1 / 5)

/-- The frequency has changed faster than `src_rocof` over the last ten line cycles; newest measurement first (R327). -/
def rocofSeen (lim : Rat) (hist : List (Nat × Rat × Rat)) : Bool :=
  match hist, hist[10]? with
  | (t1, _, f1) :: _, some (t0, _, f0) => decide (lim * ((t1 - t0 : Nat) : Rat) < absQ (f1 - f0) * sTicks)
  | _, _ => false

/-- The present measurement of the lines taken in (R325 to R327; log 34). -/
def lineTake (s : State) : State :=
  let l := s.chg.lines
  let hist := (s.now, s.linesV, l[0].freq) :: s.chg.hist.filter fun x => s.now < x.1 + 500 * msTicks
  let live := s.liveLines.length
  let three := live == 3
  s.modChg fun c => { c with
    hist, live, lineEnd := false, lineAt := s.now, rocof := c.rocof || rocofSeen ((s.getO O.chgSrcRocof : Nat) / 10) hist,
    inA := if three then maxQ l[0].amps (maxQ l[1].amps l[2].amps) else l[0].amps }

/-- The input power that the lines' sums give, in watts (R325, R340). -/
def linesPower (s : State) : Rat :=
  let l := s.chg.lines
  if s.chg.live = 3 then l[0].watts + l[1].watts + l[2].watts else l[0].watts

/-- A line cycle has been measured: what QUALIFY, SEARCH, CHARGING and PAUSED make of it (R325 to R328, R339; log 34). -/
def lineCycle (s : State) : State :=
  let t0 := s.chg.lineAt
  let dt := s.now - t0
  let s := s.lineTake
  let v := s.chgV
  let f := s.chg.lines[0].freq
  let mean := meanQ (s.chg.hist.map fun x => x.2.2)
  let inRange := (s.chg.live == 1 || s.chg.live == 3) && s.liveLines.all (lineOk mean (s.chg.live == 3))
  let s := s.chgOkStep
  if s.chgMode = 0 ∨ s.chgMode = 3 then s
  else
    let s := (s.chgShowInput s.chgMode).setQ O.chgPIn (s.linesPower / 1000)
    if s.chgSt = 1 then s.lineQualify inRange s.chg.live
    else if s.chgSt = 2 ∨ s.chgSt = 3 then
      let v0 := s.getQ O.chgV0
      let f0 := s.getQ O.chgF0
      let lost := decide (v < v0 / 2) || decide (f < 45) || decide (65 < f)
      let s := s.modChg fun c => { c with
        lossAt := heldSince t0 lost c.lossAt,
        sagAt := heldSince t0 (decide (v < v0 * (1 - (s.getO O.chgSrcSag : Nat) / 1000))) c.sagAt,
        droopAt := heldSince t0 (decide (f < f0 - (s.getO O.chgSrcDroop : Nat) / 10)) c.droopAt }
      match s.chg.lossAt with
      | some t => if t + 20 * msTicks ≤ s.now then s.chgStopFor [Cause.inputLoss] else s.inLimStep dt
      | none => s.inLimStep dt
    else s

/-- The pilot lets the charger draw current: GRID needs state C with a current above 0 (R318, R320; log 184). -/
def pilotDraws (s : State) : Bool := s.chgMode != 1 || s.getO O.chgCpState == 3 && decide (0 < s.getQ O.chgIPilot)

/-- The end of qualification (R313, R318, R325, R329). -/
def qualifyEnd (s : State) : State :=
  if s.chgSt ≠ 1 ∨ s.chg.selSettled = false ∨ s.chg.sel ≠ s.chg.selWant then s
  else if s.chgMode = 3 then
    if s.now < s.chg.qualAt + 200 * msTicks then s
    else
      let voc : Rat := if s.chg.pvN = 0 then s.chgArray else (s.chg.pvSum : Rat) / (s.chg.pvN : Nat) / 524288 * s.inFs 19
      let s := (s.setQ O.chgVOc voc).setQ O.chgVPvRef (maxQ (s.getQ O.chgPvVMin) (4 / 5 * voc))
      if 900 < voc then s.chgStopFor [Cause.pvOver]
      else if s.chgBus < 9 / 10 * voc then s.chgStopFor [Cause.inputLoss]
      else s.chgBegin
  else if s.now < s.chg.qualAt + s.getO O.chgQualTime * msTicks ∨ (s.chg.live ≠ 1 ∧ s.chg.live ≠ 3) ∨ s.pilotDraws = false then s
  else
    let s := (s.setQ O.chgV0 (meanQ (s.chg.hist.map fun x => x.2.1))).setQ O.chgF0 (meanQ (s.chg.hist.map fun x => x.2.2))
    if s.chgBus * s.chgBus < 81 / 50 * (s.chgV * s.chgV) then s.chgStopFor [Cause.inputLoss] else s.chgBegin

/-- The end of a search step's hold (R327). -/
def searchStepEnd (s : State) : State :=
  match s.chg.search with
  | none => s
  | some x =>
    match x.reachedAt with
    | none => s
    | some t =>
      if s.now < t + s.getO O.chgSrcTStep * msTicks then s
      else
        let v := meanQ (s.chg.hist.map fun y => y.2.1)
        let f := meanQ (s.chg.hist.map fun y => y.2.2)
        let x := { x with steps := x.steps + 1 }
        if v < s.getQ O.chgV0 * (1 - (s.getO O.chgSrcSag : Nat) / 1000) then s.searchFinish x 1
        else if f < s.getQ O.chgF0 - (s.getO O.chgSrcDroop : Nat) / 10 then s.searchFinish x 2
        else if s.chg.rocof then s.searchFinish x 3
        else if x.outLim then s.searchFinish x 4
        else
          let x := { x with good := x.i }
          if x.cap ≤ x.i then s.searchFinish x 5
          else
            let next := { x with i := minQ (x.i + s.getQ O.chgSrcIStep) x.cap, reachedAt := none }
            s.modChg fun c => { c with search := some next }

/-- A cut of the limit in SOURCE (R328). -/
def sourceCut (s : State) : State :=
  let held (o : Option Nat) : Bool := match o with
    | some t => decide (t + 500 * msTicks ≤ s.now)
    | none => false
  let why := if held s.chg.sagAt then 1 else if held s.chg.droopAt then 2 else if s.chg.rocof then 3 else 0
  if s.chgSt ≠ 3 ∨ s.chgMode ≠ 2 ∨ s.chg.search.isSome ∨ why = 0 then s
  else
    let new := s.chgTarget * (s.getO O.chgSrcBackoff : Nat) / 1000
    let cuts := s.now :: s.chg.cuts.filter fun t => s.now ≤ t + 600 * sTicks
    let s := s.modChg fun c => { c with
      limit := some new, cuts, cutAt := s.now, sagAt := none, droopAt := none, rocof := false }
    let s := ((s.setQ O.chgIInLim (minQ new (s.getQ O.chgIInLim))).orO O.chgFlags 1).raise 0x0603 0x5800
      ((roundAway (new * 10)).toNat * 65536 + why)
    if 3 ≤ cuts.length then s.chgReSearch else s

/-- The upward probe (R328). -/
def sourceProbe (s : State) : State :=
  let due := decide (s.chg.cutAt + s.getO O.chgSrcResearch * 60 * sTicks ≤ s.now) ||
    (s.chg.searchEnd == 4 && decide (s.chg.searchOut + s.getQ O.chgSrcIStep ≤ s.chgWantIn))
  if s.chgSt = 3 ∧ s.chgMode = 2 ∧ s.chg.search.isNone ∧ due = true then s.searchStart (some s.chgTarget) else s

/-- One interval of perturb and observe, from the mean of the powers sampled in it; a sweep leaves `v_pv_ref` alone (R330 to R332). -/
def pvTick (s : State) : State :=
  if s.chgSt ≠ 3 ∨ s.chgMode ≠ 3 ∨ s.now < s.chg.poAt + s.getO O.chgPvInterval * msTicks then s
  else
    let p : Rat := if s.chg.wN = 0 then 0 else s.chg.wSum / (s.chg.wN : Nat)
    let s := (s.setQ O.chgPIn (p / 1000)).modChg fun c => { c with poAt := s.now, wSum := 0, wN := 0 }
    if s.chg.sweeping then s
    else
      let step := s.getQ O.chgPvStep
      let up := if p < s.chg.pPrev then !s.chg.dirUp else s.chg.dirUp
      let v := s.getQ O.chgVPvRef
      let v := if s.chg.pvLimit || up then v + step else v - step
      let s := s.modChg fun c => { c with dirUp := if c.pvLimit then c.dirUp else up, pPrev := p }
      s.setQ O.chgVPvRef (clampQ v (s.getQ O.chgPvVMin) (minQ 900 (49 / 50 * s.getQ O.chgVOc)))

/-- pv_limit ends (R331). -/
def pvLimitExit (s : State) : State :=
  if s.chg.pvLimit ∧ s.chg.bindAt + sTicks ≤ s.now then
    (s.modChg fun c => { c with pvLimit := false, dirUp := false }).raise 0x0604 0x5800
      ((s.getQ O.chgVPvRef).floor.toNat * 65536 + 3)
  else s

/-- A sweep starts (R332). -/
def pvSweepStart (s : State) : State :=
  if s.chgSt = 3 ∧ s.chgMode = 3 ∧ s.chg.pvLimit = false ∧ s.chg.sweeping = false ∧
      (s.chg.sweepAsk = true ∨ s.chg.sweepAt + s.getO O.chgPvSweep * sTicks ≤ s.now) then
    s.modChg fun c => { c with
      sweeping := true, sweepAsk := false, sweepUp := true, rampAt := s.now, recAt := s.now, bestW := 0, bestV := s.getQ O.chgVPvRef }
  else s

/-- A sweep that has come down completes: `v_pv_ref` goes to the voltage of the largest power (R332). -/
def pvSweepEnd (s : State) : State :=
  if s.chg.sweeping ∧ s.chg.sweepUp = false ∧ s.getQ O.chgVPvRef ≤ maxQ (s.getQ O.chgPvVMin) (s.getQ O.chgVOc / 2) then
    let s := (s.setQ O.chgVPvRef s.chg.bestV).modChg fun c => { c with sweeping := false, sweepAt := s.now, dirUp := true, pPrev := 0 }
    (s.raise 0x0604 0x5800 ((s.getQ O.chgVPvRef).floor.toNat * 65536 + 1)).endAll (fun p => p.code == 0x0603) St.ok
  else s

/-- The resume condition of a pause's cause has held for its time (R333, R339; log 35). -/
def chgResumeOk (s : State) : Bool :=
  match s.chg.okAt with
  | some t => s.chgOkNow.1 && decide (t + s.chgOkNow.2 * msTicks ≤ s.now)
  | none => false

/-- A PAUSED charger resumes through QUALIFY (R339). -/
def chgResume (s : State) : State :=
  if s.chgSt = 4 ∧ s.chg.stopBusy = false ∧ s.chgResumeOk = true ∧ (firstBad s.chgChecks).isNone then
    s.chgQualify s.chgMode
  else s

end State

/-! ### The rows -/

def execChgStart (s : State) : Host.Outcome State Fault Refusal := .next (s.runCmd 0x0601 State.chgStart)

def execChgStop (s : State) : Host.Outcome State Fault Refusal := .next (s.runCmd 0x0602 State.chgStop)

def execChgResearch (s : State) : Host.Outcome State Fault Refusal := .next (s.runCmd 0x0603 State.chgResearch)

def execPilotEdge (rising : Bool) (t : Nat) (s : State) : Host.Outcome State Fault Refusal := .next (s.pilotEdge rising t)

def execPilotRiseHold (s : State) : Host.Outcome State Fault Refusal :=
  .next (match s.chg.pilot.riseAt with
    | some t => if t + sTicks ≤ s.now then s.modPilot fun p => { p with eff := s.getQ O.chgIPilot, riseAt := none } else s
    | none => s)

def execProximityTick (s : State) : Host.Outcome State Fault Refusal :=
  .next (let s := s.injAsk 266 .proximity s.now
    if s.pilotLive then s else s.injAsk 265 .pilotHigh s.now)

/-- HF looks at the lines once CT has ended a cycle of L1 (R325). -/
def execLineCycleMeasure (s : State) : Host.Outcome State Fault Refusal := .next (if s.chg.lineEnd then s.lineCycle else s)

def execQualifyEnd (s : State) : Host.Outcome State Fault Refusal := .next s.qualifyEnd

def execQualifyNoAc (s : State) : Host.Outcome State Fault Refusal :=
  .next (if s.chgSt = 1 ∧ s.chgMode = 1 ∧ s.chg.live = 0 ∧ s.chg.qualIn + 10 * sTicks ≤ s.now then
    s.chgStopFor [Cause.inputLoss] else s)

def execChgSelSettle (s : State) : Host.Outcome State Fault Refusal :=
  .next (if s.chg.selAt + 50 * msTicks ≤ s.now then s.modChg fun c => { c with selSettled := true } else s)

def execSearchStepEnd (s : State) : Host.Outcome State Fault Refusal := .next s.searchStepEnd

def execSourceCut (s : State) : Host.Outcome State Fault Refusal := .next s.sourceCut

def execSourceProbe (s : State) : Host.Outcome State Fault Refusal := .next s.sourceProbe

def execPvPoTick (s : State) : Host.Outcome State Fault Refusal := .next s.pvTick

def execPvLimitExit (s : State) : Host.Outcome State Fault Refusal := .next s.pvLimitExit

def execPvSweepStart (s : State) : Host.Outcome State Fault Refusal := .next s.pvSweepStart

def execPvSweepEnd (s : State) : Host.Outcome State Fault Refusal := .next s.pvSweepEnd

def execBatTempStale (s : State) : Host.Outcome State Fault Refusal :=
  .next (if s.batFresh then s else s.batJudge)

def execChgStopComplete (s : State) : Host.Outcome State Fault Refusal := .next s.chgStopDone

def execChgResume (s : State) : Host.Outcome State Fault Refusal := .next s.chgResume

end Sys2Proof.Machine
end

