-- ==== Sys2Proof/Machine/AmcOps.lean ====
section
/-! DEFINITION. The shared operations of the auxiliary motors and the park lock (chapter "Auxiliary motors and gearbox
actuators"): the start sequence (R371 to R374), speed references (R375 to R377), moves (R382 to R384), park runs (R385) and
the hooks that other chapters call. -/

namespace Sys2Proof.Machine

/-- Sign of a rational as a direction; 0 for 0. -/
def sgn (q : Rat) : Int := if q < 0 then -1 else if 0 < q then 1 else 0

/-- The context of a channel (R366), and its group. -/
def amcCtx (k : Fin 6) : Fin 64 := ⟨31 + k.val, by omega⟩
def amcGroup (k : Nat) : Nat := if k = 5 then 9 else 8

namespace State

/-- The state with a channel changed. -/
def modAmc (s : State) (k : Fin 6) (f : Amc → Amc) : State := { s with amc := s.amc.set k (f s.amc[k]) }

/-- STATE of a channel (R371), its role, its counted position (R381). -/
def amcSt (s : State) (k : Fin 6) : Nat := s.getO (O.amcState k)
def amcRoleOf (s : State) (k : Fin 6) : Nat := s.getO (O.amcRole k)
def amcPos (s : State) (k : Fin 6) : Int := toSigned 32 (s.getO (O.amcPosition k))
def setAmcPos (s : State) (k : Fin 6) (p : Int) : State := s.setO (O.amcPosition k) (ofSigned 32 p)
def posValid (s : State) (k : Fin 6) : Bool := s.bitO (O.amcFlags k) 9

/-- A change of STATE with EV_AMC_STATE (R392); the context runs only in RUN, `speed` reads 0 outside RUN (R369, R375). -/
def amcTo (s : State) (k : Fin 6) (st cause : Nat) : State :=
  let old := s.amcSt k
  let s := ((s.setO (O.amcState k) st).modAmc k fun a => { a with at_ := s.now, listening := false, nextAt := none, seen := none }).setO
    (O.amcSpeed k) 0
  let s := if st = 7 then s else s.ctxStop (amcCtx k)
  if old = st ∧ cause = 0 then s else s.raise 0x0710 (0x6800 + 0x40 * k) (cause * 65536 + st * 256 + old)

/-- Commands of a channel that wait end with a status (R384, R385). -/
def amcEndCmds (s : State) (k : Fin 6) (status : Nat) (reason : Option (Nat × Nat) := none) : State :=
  let s := s.modAmc k fun a => { a with held := none, heldGoal := none, parkHeld := none, waiting := false, parkRetry := none }
  (s.clrO (O.amcFlags k) 0x100).endAll (fun p => p.arg == [0x6800, k.val]) status reason

/-- The park state changed, with EV_AMC_PARK (R390, R392). -/
def parkTo (s : State) (st : Nat) : State :=
  if s.getO O.amcParkState = st then s else (s.setO O.amcParkState st).raise 0x0712 0x6940 st

/-- FAULT with its cause (R388). -/
def amcFault (s : State) (k : Fin 6) (cause : Nat) : State :=
  let s := (s.setO (O.amcFault k) cause).amcEndCmds k St.fault
  let s := s.when (s.amc[k].job == 3) fun s => s.parkTo 4
  (s.modAmc k fun a => { a with job := 0, retryAt := none }).amcTo k 8 cause

/-- LISTEN begins toward a direction (R371, R372). -/
def amcListen (s : State) (k : Fin 6) (dir : Int) : State := (s.modAmc k fun a => { a with dir }).amcTo k 2 0

/-- BRAKE begins, or its next pulse (0 while it runs); `after` says what a standstill leads to (R373). -/
def amcBrake (s : State) (k : Fin 6) (after : Nat) : State :=
  let again := s.amcSt k == 3 && after == 0
  (s.modAmc k fun a => { a with brakeAt := if again then a.brakeAt else s.now, after := if again then a.after else after }).amcTo k 3 0

/-- The duration of one commutation step at a speed, in ticks. -/
def stepTicks (s : State) (k : Fin 6) (rpm : Rat) : Nat :=
  if rpm ≤ 0 then 0 else (roundAway (60 * sTicks / (6 * rpm * (s.getO (O.amcPolePairs k) : Nat)))).toNat

/-- The speed of a mean step interval (R369). -/
def stepRpm (s : State) (k : Fin 6) (tau : Rat) : Rat :=
  if tau = 0 then 0 else 60 * sTicks / (6 * tau * (s.getO (O.amcPolePairs k) : Nat))

/-- The commutation that follows a crossing (R368). -/
def amcNext (s : State) (k : Fin 6) (tau : Nat) : Nat := s.now + tau * (300 - s.getO (O.amcAdvance k)) / 600

/-- RUN from an accepted crossing in a step that began at `commAt`: the context is preset and enabled, the limiter restarts from the
measured speed (R374). -/
def amcRun (s : State) (k : Fin 6) (rpm : Rat) (tau step commAt : Nat) : State :=
  let c := amcCtx k
  let u := sat20 (roundAway (s.getQ (O.amcRampDuty k) * 524288))
  let fs := s.getQ (O.amcSpeedFs k)
  let s := s.amcTo k 7 0
  let s := s.modAmc k fun a => { a with
    lim := a.dir * rpm, limAt := s.now, taus := List.replicate 6 tau, step, commAt, crossAt := s.now, nextAt := some (s.amcNext k tau), fits := 0,
    extra := 0, waits := 0, dutyWas := s.getQ (O.amcRampDuty k), dutyAt := s.now }
  let e : Int := if fs = 0 then 0 else sat20 (roundAway ((absQ s.amc[k].lim - rpm) / fs * 524288))
  let p := sat20 (gainMul (bankI (s.ctxBank c) 0) e)
  let s := s.modCtx c fun x => { x with
    outc := x.outc.set 0 u, applied := x.applied.set 0 u, integ := x.integ.set 0 ((u - p) * 2048), lastAt := s.now }
  ((s.showOut c).ctxStart c).setQ (O.amcSpeed k) (s.amc[k].dir * rpm)

/-- A failed attempt to start: START_RETRY and a new try after 200 ms, or FAULT with cause START (R374, R380). -/
def amcStartFail (s : State) (k : Fin 6) : State :=
  let n := s.amc[k].fails + 1
  let s := (s.orO (O.amcFlags k) 4).modAmc k fun a => { a with fails := n }
  if s.getO (O.amcStartRetries k) ≤ n then s.amcFault k 4
  else (s.modAmc k fun a => { a with retryAt := some s.now }).amcTo k 1 0

/-- The end of a move or of a homing (R382 to R384): the channel goes to IDLE, and after a move the pause of R438 runs. -/
def amcMoveEnd (s : State) (k : Fin 6) (status : Nat) (reason : Option (Nat × Nat)) : State :=
  let move := s.amc[k].job == 1
  let s := (s.modAmc k fun a => { a with job := 0, fails := 0 }).amcTo k 1 0
  (s.endAll (fun p => p.arg == [0x6800, k.val] && !p.waiting) status reason).when move fun s => s.pauseFrom 1 (s.getO O.thmPauseAct * msTicks)

/-- The direction of a move from the present position (R382). -/
def amcDirTo (s : State) (k : Fin 6) (goal : Int) : Int := if goal < s.amcPos k then -1 else 1

/-- A move or a speed target begins (R371). -/
def amcGo (s : State) (k : Fin 6) (job : Nat) (dir : Int) : State :=
  (s.modAmc k fun a => { a with job, fails := 0, waits := 0, retryAt := none, startPos := s.amcPos k }).amcListen k dir

/-- What follows standstill under BRAKE (R373, R382, R391). DESIGN CHOICE (log 197): a target that replaced the move's own while the
motor was braking is sought from the standstill. -/
def amcStandstill (s : State) (k : Fin 6) : State :=
  match s.amc[k].after with
  | 1 => if s.amcPos k = s.amc[k].goal then s.amcMoveEnd k St.ok none else s.amcGo k 1 (s.amcDirTo k s.amc[k].goal)
  | 2 => (s.setO (O.amcFault k) 8).amcTo k 0 8
  | _ => s.amcTo k 5 0

/-- The distance of a move that remains (R382). -/
def amcRemaining (s : State) (k : Fin 6) : Nat := (s.amc[k].goal - s.amcPos k).natAbs

/-- A move that is shorter than `brake_lead`, or has come to it: BRAKE, and the position is the target (R382). -/
def amcMoveBrake (s : State) (k : Fin 6) : State := (s.setAmcPos k s.amc[k].goal).amcBrake k 1

/-- The outcome of listening (R372): direction, speed and the step that the last crossing belongs to, or standstill. -/
def amcHeard (s : State) (k : Fin 6) (found : Option (Int × Rat × Nat)) (tau : Nat) : State :=
  let short := s.amc[k].job == 1 && s.amcRemaining k < s.getO (O.amcBrakeLead k)
  if s.amcSt k = 3 then
    match found with
    | none => s.amcStandstill k
    | some _ => s.amcBrake k 0
  else if short then s.amcMoveBrake k
  else
    match found with
    | none => s.amcTo k 5 0
    | some (d, v, step) =>
      if d = s.amc[k].dir then
        (if s.getQ (O.amcCatchSpeed k) ≤ v then s.amcRun k v tau step (s.now - tau / 2) else s.amcBrake k 0)
      else if v < s.getQ (O.amcRevBrake k) then s.amcBrake k 0
      else if s.getO (O.amcRevRetries k) ≤ s.amc[k].waits then s.amcFault k 5
      else
        let n := s.amc[k].waits + 1
        ((((s.modAmc k fun a => { a with waits := n }).orO (O.amcFlags k) 2).amcTo k 4 0).raise 0x0711 (0x6800 + 0x40 * k)
          ((roundAway v).toNat * 256 + n))

/-- A move begins, unless its pause still runs (R382, R438). -/
def amcMoveBegin (s : State) (k : Fin 6) (goal : Int) : State :=
  let s := s.modAmc k fun a => { a with goal, job := 1 }
  if s.throttled && s.amcRoleOf k == 2 && decide (s.now < s.thm.pause[1]) then s.modAmc k fun a => { a with waiting := true }
  else (s.modAmc k fun a => { a with waiting := false }).amcGo k 1 (s.amcDirTo k goal)

/-- A speed request bounded as R376 gives. -/
def amcBounded (s : State) (k : Fin 6) (v : Rat) : Rat :=
  if v = 0 then 0
  else
    let m := clampQ (absQ v) (s.getQ (O.amcSpeedMin k)) (s.getQ (O.amcSpeedMax k))
    if v < 0 then -m else m

/-- The measured speed magnitude, or the blind step rate in RAMP (R377). -/
def blindRpm (s : State) (k : Fin 6) : Rat :=
  let t := s.now - s.amc[k].at_
  let total := s.getO (O.amcRampTime k) * msTicks
  let a := s.getQ (O.amcRampStart k)
  let b := s.getQ (O.amcHandover k)
  if total ≤ t then b else a + (b - a) * (t : Nat) / (total : Nat)
def amcRpm (s : State) (k : Fin 6) : Rat := if s.amcSt k = 6 then s.blindRpm k else absQ (s.getQ (O.amcSpeed k))

/-- A target speed taken: a channel of role SPEED in IDLE starts, one that has not begun to rotate seeks the target's direction, and one
that turns slowly the other way starts anew (R371, R372, R374, R376, R377). -/
def amcTarget (s : State) (k : Fin 6) (v : Rat) : State :=
  let s := s.modAmc k fun a => { a with target := v }
  let st := s.amcSt k
  if s.amcRoleOf k ≠ 1 ∨ v = 0 ∨ st = 0 ∨ st = 8 then s
  else if st = 1 ∧ s.amc[k].retryAt.isNone then (if s.override (amcGroup k) < 2 then s.amcGo k 0 (sgn v) else s)
  else if st < 6 then s.modAmc k fun a => { a with dir := sgn v }
  else if sgn v ≠ s.amc[k].dir ∧ s.amcRpm k ≤ s.getQ (O.amcRevThr k) then s.amcGo k 0 (sgn v)
  else s

/-- A target of the curve taken, unless an override has ended the channel's run since its owner last enabled it (R84, R378, R379). -/
def curveTarget (s : State) (k : Fin 6) (v : Rat) : State := if s.amc[k].barred then s else s.amcTarget k v

/-- A target of opposite sign is a reversal that must wait (R377). -/
def amcReversal (s : State) (k : Fin 6) (v : Rat) : Bool :=
  (s.amcSt k == 6 || s.amcSt k == 7) && v != 0 && sgn v != s.amc[k].dir && decide (s.getQ (O.amcRevThr k) < s.amcRpm k)

/-- The limiter's goal and rate; a park run with a reversal held runs down (R376, R377, R382, R383, R385). -/
def amcAim (s : State) (k : Fin 6) : Rat × Rat :=
  let a := s.amc[k]
  let acc := s.getQ (O.amcAccel k)
  if 2 ≤ s.override (amcGroup k) then (0, acc)
  else
    match a.job with
    | 1 =>
      let v := absQ (s.getQ (O.amcSpeed k))
      let m := s.getQ (O.amcSpeedMin k)
      let dec := s.getQ (O.amcPosDecel k)
      if (s.amcRemaining k : Rat) ≤ (s.getO (O.amcPolePairs k) : Nat) * (v * v - m * m) / (20 * dec) then (a.dir * m, dec)
      else (a.dir * s.getQ (O.amcPosSpeed k), acc)
    | 2 => (s.getQ (O.amcHomeSpeed k), acc)
    | 3 => if a.heldGoal.isSome then (0, acc) else (a.dir * absQ (s.getQ (O.amcHomeSpeed k)), acc)
    | _ => if sgn a.target = a.dir then (a.target, acc) else (0, acc)

/-- The run-down ends: outputs off, IDLE. Under STOP the channel's commands end with it, and a park run leaves the lock UNKNOWN
(R376, R388). -/
def amcRunDown (s : State) (k : Fin 6) : State :=
  let stop := decide (2 ≤ s.override (amcGroup k))
  let s := s.when stop fun s =>
    let s := ((s.setO (O.amcFault k) 3).amcEndCmds k St.fault).when (s.amc[k].job == 3) fun s => s.parkTo 0
    s.modAmc k fun a => { a with target := 0, job := 0 }
  s.amcTo k 1 (if stop then 3 else 0)

/-- A machine that bars PARK_ENGAGE (R386). -/
def parkBar (s : State) : Option (Fin 4) :=
  (List.finRange 4).find? fun (m : Fin 4) => s.getO (O.trxType m) != 0 &&
    (decide (s.getQ O.amcParkSpeed ≤ absQ s.trx[m].speed) || (s.trxSt m == 3 && !s.trx[m].speedOk))

/-- While a machine bars it, the 100 ms of a held engage do not count (R386). -/
def parkWatch (s : State) : State :=
  if s.amc[5].parkHeld.isSome && s.parkBar.isSome then s.modAmc 5 fun a => { a with parkHeld := some s.now } else s

/-- A park run toward an end: +1 engages, −1 releases (R385). -/
def parkRun (s : State) (dir : Int) : State :=
  ((s.modAmc 5 fun a => { a with
    goal := toSigned 32 (s.getO ((if dir = 1 then O.amcPosMax else O.amcPosMin) 5)), parkRetry := none }).amcGo 5 3 dir).parkTo 3

/-- A held request of a channel is no longer waiting. -/
def amcUnderWay (s : State) (k : Fin 6) : State := s.underWay fun p => p.arg == [0x6800, k.val]

/-- A held reversal becomes the target once the speed is below `rev_thr` (R377, R384, R385). -/
def amcRelease (s : State) (k : Fin 6) : State :=
  if s.getQ (O.amcRevThr k) < s.amcRpm k && (s.amcSt k == 6 || s.amcSt k == 7) then s
  else
    match s.amc[k].held, s.amc[k].heldGoal with
    | some v, _ =>
      let s := (s.modAmc k fun a => { a with held := none }).clrO (O.amcFlags k) 0x100
      let s := (s.endAll (fun p => p.arg == [0x6800, k.val] && p.waiting) St.ok).setQ (O.amcSpeedReq k) v
      (s.modAmc k fun a => { a with target := v }).amcGo k 0 (sgn v)
    | none, some g =>
      let s := ((s.modAmc k fun a => { a with heldGoal := none }).clrO (O.amcFlags k) 0x100).endAll
        (fun p => p.arg == [0x6800, k.val] && !p.waiting) St.state
      let s := s.amcUnderWay k
      if s.amcRoleOf k = 3 then (s.modAmc k fun a => { a with tries := 0 }).parkRun (if g = toSigned 32 (s.getO (O.amcPosMax 5)) then 1 else -1) else s.amcMoveBegin k g
    | none, none => s

/-- A sample of C(31 + k) (R375, R376): the limiter steps; a run-down that has reached `speed_min` ends. -/
def amcSample (s : State) (k : Fin 6) : State :=
  if s.amcSt k ≠ 7 then s
  else
    let aim := s.amcAim k
    let a := s.amc[k]
    let d := aim.2 * ((s.now - a.limAt : Nat) : Rat) / sTicks
    let lim := toward aim.1 a.lim d
    let s := s.modAmc k fun a => { a with lim, limAt := s.now }
    if aim.1 = 0 ∧ absQ lim ≤ s.getQ (O.amcSpeedMin k) then (s.amcRunDown k).amcRelease k
    else if a.held.isSome ∨ a.heldGoal.isSome then s.amcRelease k
    else s

/-- The PWM period of a channel at an instant (R367). -/
def amcPer (s : State) (k : Fin 6) (t : Nat) : Nat := t * s.getO (O.amcPwmFreq k) / sTicks

/-- The duty that the channel's context asks for (R375). -/
def amcAsk (s : State) (k : Fin 6) : Rat :=
  clampQ ((s.ctx[amcCtx k].outc[0] : Rat) / 524288 * s.outFs (amcCtx k).val) 0 (s.getQ (O.amcDMax k))

/-- The duty in force (R374, R375). -/
def amcDuty (s : State) (k : Fin 6) : Rat :=
  match s.amcSt k with
  | 5 => s.getQ (O.amcAlignDuty k)
  | 6 =>
    let a := s.getQ (O.amcAlignDuty k)
    let b := s.getQ (O.amcRampDuty k)
    let total := s.getO (O.amcRampTime k) * msTicks
    if total ≤ s.now - s.amc[k].at_ then b else a + (b - a) * ((s.now - s.amc[k].at_ : Nat) : Rat) / (total : Nat)
  | 7 => if s.amcPer k s.amc[k].dutyAt = s.amcPer k s.now then s.amc[k].dutyWas else s.amcAsk k
  | _ => 0

/-- A commit of the channel's context: the duty before it stays in force to the end of the PWM period (R375). -/
def amcDutyKeep (s : State) (k : Fin 6) : State :=
  let d := s.amcDuty k
  s.modAmc k fun a => { a with dutyWas := d, dutyAt := s.now }

/-- A trip has ended the on-interval, or the short, of the present PWM period (R370). -/
def amcCut (s : State) (k : Fin 6) : Bool := s.amc[k].cutAt.any fun t => s.amcPer k t == s.amcPer k s.now

/-- How the three phases are driven: the aligning vector, the step in force, or the low-side short (R367, R368, R373, R374; log 44).
An ended on-interval leaves the low side on, an ended short all six outputs off (R370). While a thermal trip is latched SC disables the
outputs of AM0 to AM4 (R439). -/
def amcPairs (s : State) (k : Fin 6) : Vector PhaseDrive 3 :=
  let a := s.amc[k]
  let hi : PhaseDrive := if s.amcCut k then .low else .switched (s.amcDuty k)
  if s.tripLatched ∧ k ≠ 5 then Vector.replicate 3 .off
  else match s.amcSt k with
  | 3 => Vector.replicate 3 (if a.listening || s.amcCut k then .off else .low)
  | 5 => #v[hi, .low, .low]
  | 6 | 7 => Vector.ofFn fun p : Fin 3 =>
    let d := (p.val + 6 - a.step) % 3
    if d = 0 then .off else if (d = 1) = (a.step % 2 = 0) then hi else .low
  | _ => Vector.replicate 3 .off

/-- The outputs HI and LO of a phase now: the on-interval begins the PWM period, and the dead time delays each turn-on (R367). -/
def amcLevels (s : State) (k : Fin 6) (p : Fin 3) : Bool × Bool :=
  match (s.amcPairs k)[p] with
  | .off => (false, false)
  | .low => (false, true)
  | .switched d =>
    let f := s.getO (O.amcPwmFreq k)
    let per : Rat := (sTicks : Nat) / (f : Nat)
    let x : Rat := (s.now * f % sTicks : Nat) / (f : Nat)
    let dead := 4 * s.getO (O.amcDeadtime k)
    (decide ((dead : Rat) ≤ x) && decide (x < d * per), decide (d * per + (dead : Nat) ≤ x))

/-- The on-interval is long enough for the sample of the sense comparator, 100 ns before its end (R368; log 196). -/
def amcSamples (s : State) (k : Fin 6) : Bool :=
  decide ((240 + 4 * s.getO (O.amcDeadtime k) : Nat) ≤ s.amcDuty k * ((sTicks : Nat) / (s.getO (O.amcPwmFreq k) : Nat)))

/-- The threshold code in force (R370, R385). -/
def amcCode (s : State) (k : Fin 6) : Nat :=
  let st := s.amcSt k
  if st = 3 ∨ st = 5 ∨ st = 6 ∨ 2 ≤ s.amc[k].job then s.getO (O.amcIStart k) else s.getO (O.amcILimit k)

/-! ### Park lock -/

/-- A stall ends a park run (R385). -/
def parkStall (s : State) : State :=
  let a := s.amc[5]
  if s.posValid 5 = false ∨ (s.amcPos 5 - a.goal).natAbs ≤ s.getO O.amcParkTol then
    let s := (s.setAmcPos 5 a.goal).orO (O.amcFlags 5) 0x200
    let s := ((s.modAmc 5 fun a => { a with job := 0, tries := 0 }).amcTo 5 1 0).parkTo (if 0 < a.dir then 2 else 1)
    s.endAll (fun p => p.arg == [0x6800, 5] && !p.waiting) St.ok
  else if a.tries = 0 then
    ((s.modAmc 5 fun a => { a with tries := 1, parkRetry := some s.now }).amcTo 5 1 0)
  else
    let s := ((s.modAmc 5 fun a => { a with job := 0, tries := 0 }).amcTo 5 1 0).parkTo 4
    (s.orO (O.amcFlags 5) 0x20).endAll (fun p => p.arg == [0x6800, 5] && !p.waiting) St.fault (some (0x0155, 0))

/-- VMAIN is lost: the device may engage the park lock by itself (R387). -/
def parkAuto (s : State) : State :=
  if s.getO O.amcParkAuto = 1 ∧ s.getO O.amcParkState = 1 ∧ s.amcSt 5 = 1 ∧ s.amcRoleOf 5 = 3 ∧
      ((List.finRange 4).all fun (m : Fin 4) => s.getO (O.trxType m) == 0 || decide (absQ s.trx[m].speed < s.getQ O.amcParkSpeed)) then
    (s.modAmc 5 fun a => { a with tries := 0 }).parkRun 1
  else s

/-- A held request of a channel still stands in the dispatcher. -/
def amcAsked (s : State) (k : Fin 6) : Bool := s.disp.held.any fun (p : Held) => p.arg == [0x6800, k.val] && p.waiting

/-- A scheduled bank swap whose request has been withdrawn does not take place (R62, R82, R92, R192). -/
def swapSync (s : State) : State :=
  (List.finRange 64).foldl (fun (s : State) (c : Fin 64) =>
    if s.ctx[c].swapAt.isSome && !(s.disp.held.any fun (p : Held) => p.code == 0x0403 && p.arg.contains c.val) then
      (s.modCtx c fun x => { x with swapAt := none }).clrO (O.lpeStatus c) 0x2000
    else s) s

/-- A split or a join that waits for its window boundary at a host's request alone is dropped with the request (R426, R428). -/
def ptgSync (s : State) : State :=
  let asked (code : Nat) : Bool := s.disp.held.any fun (p : Held) => p.code == code
  let test := s.bst.run.any fun x => x.1 == 4
  s.modPtg fun p => { p with
    splitReq := if asked 0x0801 || test then p.splitReq else none, joinReq := p.joinReq && (asked 0x0802 || !p.joinCmd),
    joinCmd := p.joinCmd && asked 0x0802 }

/-- A calibration whose acquisition has not begun is dropped with its request (R233). -/
def calSync (s : State) : State :=
  (List.finRange 6).foldl (fun (s : State) (p : Fin 6) =>
    if s.adc.pair[p].cal.isSome && s.adcSt (convOf p false) != 4 && !(s.disp.held.any fun (h : Held) => h.code == 0x0503 && h.arg == [p.val]) then
      s.modPair p fun x => { x with cal := none }
    else s) s

/-- What waited for a request that has been withdrawn is dropped: splits and joins, calibrations, bank swaps, and held reversals and
engages of the motor channels; a withdrawn reversal leaves the target at 0 (R62, R82, R92, R377, R386). -/
def heldSync (s : State) : State :=
  (List.finRange 6).foldl (fun s (k : Fin 6) =>
    if s.amcAsked k then s
    else
      let a := s.amc[k]
      let s := s.modAmc k fun a => { a with
        held := none, heldGoal := none, parkHeld := none, target := if a.held.isSome then 0 else a.target }
      if a.held.isSome || a.heldGoal.isSome || a.parkHeld.isSome then s.clrO (O.amcFlags k) 0x100 else s) s.swapSync.ptgSync.calSync

/-! ### Stalls and faults -/

/-- A stall in RUN (R380, R383 to R385). -/
def amcStall (s : State) (k : Fin 6) : State :=
  let s := s.orO (O.amcFlags k) 8
  match s.amc[k].job with
  | 1 =>
    ((s.orO (O.amcFlags k) 0x20).amcMoveEnd k St.fault (some (0x0155, min (s.amcRemaining k) 0xFFFF))).amcRelease k
  | 2 =>
    ((s.setAmcPos k (toSigned 32 (s.getO (O.amcHomePos k)))).orO (O.amcFlags k) 0x200).amcMoveEnd k St.ok none
  | 3 => s.parkStall.amcRelease k
  | _ => (s.amcStartFail k).amcRelease k

/-- A late run of a channel's context (R388). -/
def amcLate (s : State) (c : Fin 64) : State :=
  if h : 31 ≤ c.val ∧ c.val ≤ 36 then
    let k : Fin 6 := ⟨c.val - 31, by omega⟩
    if 4 ≤ s.ctx[c].lateRuns ∧ s.amcSt k = 7 then (s.orO (O.amcFlags k) 0x40).amcFault k 7 else s
  else s

/-- The channels of a group. -/
def amcOf (g : Nat) : List (Fin 6) := (List.finRange 6).filter fun k => amcGroup k.val == g

/-- SAFE on a group: SC disables its ports (R388). -/
def amcSafe (s : State) (g : Nat) : State :=
  (amcOf g).foldl (fun s k => if s.amcSt k = 0 ∨ s.amcSt k = 8 then s else s.amcFault k 2) s

/-- STOP on a group: a run-down in RUN, IDLE at once in every other running state, and no move that still waits (R388). -/
def amcStopAll (s : State) (g : Nat) : State :=
  (amcOf g).foldl (fun s k =>
    let s := s.modAmc k fun a => { a with target := 0, retryAt := none, barred := true }
    if s.amcSt k = 0 ∨ (s.amcSt k = 1 ∧ s.amc[k].job = 0) ∨ s.amcSt k = 7 ∨ s.amcSt k = 8 then s else s.amcRunDown k) s

/-- Crystal loss, or loss of CT or CV lock (R388). -/
def amcClock (s : State) : State :=
  (List.finRange 5).foldl (fun s (j : Fin 5) =>
    let k : Fin 6 := ⟨j.val, by omega⟩
    if s.amcSt k = 0 ∨ s.amcSt k = 8 then s else s.amcFault k 10) s

end State

end Sys2Proof.Machine
end

