-- ==== Sys2Proof/Machine/Motors.lean ====
section
/-! DEFINITION. The rows of chapter "Auxiliary motors and gearbox actuators". -/

namespace Sys2Proof.Machine

namespace State

/-- The channel a command names, and the checks that every command of the chapter shares (R391, R486, R489, R517). -/
def amcChan (c : Cmd) : Nat := fieldAt c.payload 0 1
def amcCommon (s : State) (c : Cmd) (least : Nat) (power : Bool) : List Chk :=
  let g := amcGroup (amcChan c)
  [chkLc s power false, chkRole s c least, chkOwn s c g, chkIl s (some g)]

/-- A body over the channel that a command names. -/
def onChan (c : Cmd) (s : State) (f : Fin 6 → State × Reply) : State × Reply :=
  if h : amcChan c < 6 then f ⟨amcChan c, h⟩ else (s, .bare St.range)

/-- ST_STATE, REASON 0x0100 with the present state. -/
def amcBadState (s : State) (k : Fin 6) : Reply := .err St.state 0x0100 (s.amcSt k)

/-- ST_REFUSED of a reversal (R377). -/
def reversalReply (s : State) (k : Fin 6) : Reply := .err St.refused 0x0150 (roundAway (s.amcRpm k)).toNat

/-- AMC_START (R371). -/
def amcStart (c : Cmd) (s : State) : State × Reply :=
  s.guarded ([chkLen c 4, chk (5 < amcChan c) St.range, chkZero c 1 3] ++ s.amcCommon c 1 true) fun s => onChan c s fun k =>
    s.guarded (byRank ([chkR (s.amcRoleOf k == 0) St.state 0x0156, chkR (s.amcSt k != 0) St.state 0x0100 (s.amcSt k),
        chkOverride s (amcGroup k) 2] ++ s.chkAdmit [31 + k.val])) fun s =>
      (((s.amcTo k 1 0).modAmc k fun a => { a with
        fails := 0, waits := 0, retryAt := none, job := 0, barred := false }).amcTarget k s.amc[k].target, .ok)

/-- AMC_STOP (R384, R391). -/
def amcStop (c : Cmd) (s : State) : State × Reply :=
  let mode := fieldAt c.payload 1 1
  s.guarded ([chkLen c 4, chk (5 < amcChan c || 1 < mode) St.range, chkZero c 2 2] ++ s.amcCommon c 1 false) fun s => onChan c s fun k =>
    if s.amcSt k = 0 ∨ s.amcSt k = 8 then (s, .ok)
    else
      let was := s.amc[k].job == 3 && s.getO O.amcParkState == 3
      let s := (s.amcEndCmds k St.state).modAmc k fun a => { a with job := 0, retryAt := none }
      let s := s.when was fun s => s.parkTo 0
      if mode = 1 ∧ s.amcSt k ≠ 1 then (s.amcBrake k 2, .ok)
      else ((s.setO (O.amcFault k) 8).amcTo k 0 8, .ok)

/-- AMC_CLEAR (R391). -/
def amcClear (c : Cmd) (s : State) : State × Reply :=
  s.guarded ([chkLen c 4, chk (5 < amcChan c) St.range, chkZero c 1 3] ++ s.amcCommon c 2 false) fun s => onChan c s fun k =>
    if s.amcSt k = 8 then (s.amcTo k 0 0, .ok) else (s, s.amcBadState k)

/-- A move or a run of the channel is in progress. -/
def amcBusy (s : State) (k : Fin 6) : Bool := s.amc[k].job != 0 && s.amcSt k != 0 && s.amcSt k != 8

/-- AMC_MOVE (R381, R382, R384). DESIGN CHOICE (log 192): during a homing run it answers ST_BUSY, as R384 has AMC_HOME do during a
move; the spec names no answer. -/
def amcMove (c : Cmd) (s : State) : State × Reply :=
  let t := toSigned 32 (fieldAt c.payload 4 4)
  let out := decide (t < toSigned 32 (s.getO (O.amcPosMin (amcChan c)))) || decide (toSigned 32 (s.getO (O.amcPosMax (amcChan c))) < t)
  s.guarded ([chkLen c 8, chk (5 < amcChan c || out) St.range, chkZero c 1 3] ++ s.amcCommon c 1 false) fun s => onChan c s fun k =>
    let g := amcGroup k
    if s.amcRoleOf k ≠ 2 then (s, .err St.state 0x0156)
    else if s.amcSt k = 0 ∨ s.amcSt k = 8 then (s, s.amcBadState k)
    else if s.posValid k = false then (s, .err St.state 0x0152)
    else if s.amc[k].job = 2 then (s, .bare St.busy)
    else if 2 ≤ s.override g then (s, .err St.refused 0x0003 g)
    else if s.amc[k].job = 1 ∧ s.amc[k].waiting = false then
      if s.amcDirTo k t = s.amc[k].dir then
        let s := s.endAll (fun p => p.arg == [0x6800, k.val] && !p.waiting) St.state
        ((s.hold c (some g) [0x6800, k]).modAmc k fun a => { a with goal := t }, .pending)
      else if s.getQ (O.amcRevThr k) < s.amcRpm k then
        let s := s.endAll (fun p => p.arg == [0x6800, k.val] && p.waiting) St.state
        (((s.hold c (some g) [0x6800, k] true).modAmc k fun a => { a with heldGoal := some t }).orO (O.amcFlags k) 0x100,
          s.reversalReply k)
      else
        let s := s.endAll (fun p => p.arg == [0x6800, k.val]) St.state
        ((s.hold c (some g) [0x6800, k]).amcMoveBegin k t, .pending)
    else
      let s := s.endAll (fun p => p.arg == [0x6800, k.val]) St.state
      ((s.hold c (some g) [0x6800, k]).amcMoveBegin k t, .pending)

/-- AMC_HOME (R383, R384). -/
def amcHome (c : Cmd) (s : State) : State × Reply :=
  s.guarded ([chkLen c 4, chk (5 < amcChan c) St.range, chkZero c 1 3] ++ s.amcCommon c 1 false) fun s => onChan c s fun k =>
    if s.amcRoleOf k ≠ 2 then (s, .err St.state 0x0156)
    else if s.amcSt k = 0 ∨ s.amcSt k = 8 then (s, s.amcBadState k)
    else if s.amcBusy k || s.amc[k].waiting then (s, .bare St.busy)
    else if 2 ≤ s.override (amcGroup k) then (s, .err St.refused 0x0003 (amcGroup k))
    else ((s.hold c (some (amcGroup k)) [0x6800, k]).amcGo k 2 (sgn (s.getQ (O.amcHomeSpeed k))), .pending)

/-- A park command toward an end, once nothing bars it (R377, R385). -/
def parkCmd (s : State) (c : Cmd) (dir : Int) : State × Reply :=
  if s.getO O.amcParkState = 3 ∧ s.amc[5].job = 3 then
    if s.amc[5].dir = dir then (s.hold c (some 9) [0x6800, 5], .pending)
    else if s.getQ (O.amcRevThr 5) < s.amcRpm 5 then
      let s := s.endAll (fun p => p.arg == [0x6800, 5] && p.waiting) St.state
      (((s.hold c (some 9) [0x6800, 5] true).modAmc 5 fun a => { a with
          heldGoal := some (toSigned 32 (s.getO ((if dir = 1 then O.amcPosMax else O.amcPosMin) 5))) }).orO (O.amcFlags 5) 0x100,
        s.reversalReply 5)
    else
      let s := (s.amcEndCmds 5 St.state).modAmc 5 fun a => { a with tries := 0 }
      ((s.hold c (some 9) [0x6800, 5]).parkRun dir, .pending)
  else
    let s := (s.amcEndCmds 5 St.state).modAmc 5 fun a => { a with tries := 0 }
    ((s.hold c (some 9) [0x6800, 5]).parkRun dir, .pending)

/-- The checks of a park command on the channel (R385, R391). -/
def parkChecks (s : State) (c : Cmd) : List Chk :=
  [chkLen c 4, chk (5 < amcChan c) St.range, chkZero c 1 3] ++ s.amcCommon c 1 false ++
  [chkR (amcChan c != 5 || s.amcRoleOf 5 != 3) St.state 0x0156,
   chkR (s.amcSt 5 == 0 || s.amcSt 5 == 8) St.state 0x0100 (s.amcSt 5),
   chkR (2 ≤ s.override 9) St.refused 0x0003 9]

/-- PARK_ENGAGE (R385, R386). -/
def parkEngage (c : Cmd) (s : State) : State × Reply :=
  s.guarded (s.parkChecks c) fun s =>
    match s.parkBar with
    | some m =>
      let s := s.endAll (fun p => p.arg == [0x6800, 5] && p.waiting) St.state
      (((s.hold c (some 9) [0x6800, 5] true).modAmc 5 fun a => { a with parkHeld := some s.now, heldGoal := none }).orO
        (O.amcFlags 5) 0x100, .err St.refused 0x0151 m)
    | none => s.parkCmd c 1

/-- PARK_RELEASE (R385). -/
def parkRelease (c : Cmd) (s : State) : State × Reply := s.guarded (s.parkChecks c) fun s => s.parkCmd c (-1)

/-- The held engage runs once every machine has been clear for 100 ms: it joins a run toward the same end, and is a reversal of one
toward the other (R377, R386). -/
def parkEngageClear (s : State) : State :=
  match s.amc[5].parkHeld with
  | some t =>
    let moving := s.getO O.amcParkState == 3 && s.amc[5].job == 3
    if s.amcAsked 5 = false ∨ s.now < t + 100 * msTicks ∨ s.parkBar.isSome ∨ (s.amcSt 5 ≠ 1 ∧ moving = false) then s
    else if moving = true ∧ s.amc[5].dir = 1 then
      ((s.modAmc 5 fun a => { a with parkHeld := none }).clrO (O.amcFlags 5) 0x100).amcUnderWay 5
    else if moving = true ∧ s.getQ (O.amcRevThr 5) < s.amcRpm 5 then
      s.modAmc 5 fun a => { a with parkHeld := none, heldGoal := some (toSigned 32 (s.getO (O.amcPosMax 5))) }
    else
      let s := ((s.modAmc 5 fun a => { a with parkHeld := none, tries := 0 }).clrO (O.amcFlags 5) 0x100).endAll
        (fun p => p.arg == [0x6800, 5] && !p.waiting) St.state
      (s.amcUnderWay 5).parkRun 1
  | none => s

/-- The floating phase of a step, and the polarity of its crossing in the direction of rotation (R368; log 44). -/
def stepExpects (step : Nat) (dir : Int) (phase : Nat) (rising : Bool) : Bool :=
  phase == step % 3 && rising == ((step % 2 == 0) == decide (0 < dir))

/-- A crossing heard while the outputs are off (R372). -/
def crossHeard (s : State) (k : Fin 6) (phase : Fin 3) (rising : Bool) : State :=
  match s.amc[k].seen with
  | some (p0, r0, t0) =>
    if p0 = phase.val ∨ r0 = rising then s.modAmc k fun a => { a with seen := some (phase.val, rising, s.now) }
    else
      let d : Int := if phase.val = (p0 + 1) % 3 then 1 else -1
      let tau := s.now - t0
      let step := if (phase.val % 2 = 0) = (rising = decide (0 < d)) then phase.val else phase.val + 3
      s.amcHeard k (some (d, s.stepRpm k tau, step)) tau
  | none => s.modAmc k fun a => { a with seen := some (phase.val, rising, s.now) }

/-- A back-EMF crossing; while the phases are driven, only the floating one is sampled, and crossings are looked for throughout the ramp
(R368, R372, R374). -/
def bemf (s : State) (k : Fin 6) (phase : Fin 3) (rising : Bool) : State :=
  let a := s.amc[k]
  let st := s.amcSt k
  if st = 2 ∨ (st = 3 ∧ a.listening) then s.crossHeard k phase rising
  else if (st = 6 ∨ st = 7) ∧ ((s.amcPairs k)[phase] ≠ .off ∨ !s.amcSamples k) then s
  else if st = 6 then
    let want := s.stepTicks k (s.blindRpm k)
    if s.now < a.commAt + want * s.getO (O.amcBlank k) / 600 then s
    else
      let gap := s.now - a.crossAt
      let fit := stepExpects a.step a.dir phase.val rising && (a.fits == 0 || decide (3 * want ≤ 4 * gap) && decide (4 * gap ≤ 5 * want))
      let n := if fit then a.fits + 1 else 0
      let s := s.modAmc k fun a => { a with fits := n, crossAt := s.now }
      if 6 ≤ n ∧ s.getO (O.amcRampTime k) * msTicks ≤ s.now - a.at_ then s.amcRun k (s.getQ (O.amcHandover k)) want a.step a.commAt else s
  else if st = 7 then
    let tau := a.taus.headD 0
    if stepExpects a.step a.dir phase.val rising && decide (a.commAt + tau * s.getO (O.amcBlank k) / 600 ≤ s.now) && a.nextAt.isNone then
      s.modAmc k fun a => { a with crossAt := s.now, nextAt := some (s.amcNext k tau) }
    else s
  else s

/-- One commutation: step and counted position (R368, R381). -/
def commStep (s : State) (k : Fin 6) : State :=
  let a := s.amc[k]
  let s := s.modAmc k fun a => { a with step := if 0 < a.dir then (a.step + 1) % 6 else (a.step + 5) % 6, commAt := s.now, nextAt := none }
  if 2 ≤ s.amcRoleOf k then s.setAmcPos k (s.amcPos k + a.dir) else s

/-- What a commutation means for a move or a homing (R382, R383). -/
def commJob (s : State) (k : Fin 6) : State :=
  let a := s.amc[k]
  if a.job = 1 ∧ s.amcRemaining k ≤ s.getO (O.amcBrakeLead k) then s.amcMoveBrake k
  else if a.job = 2 ∧ s.getO (O.amcHomeMax k) ≤ (s.amcPos k - a.startPos).natAbs then
    s.amcMoveEnd k St.fault (some (0x0157, 0))
  else s

/-- COMMUTATION (R368, R369, R374). -/
def commutate (s : State) (k : Fin 6) : State :=
  let a := s.amc[k]
  match a.nextAt with
  | none => s
  | some t =>
    if s.now < t then s
    else if s.amcSt k = 6 then
      let full := decide (s.getO (O.amcRampTime k) * msTicks ≤ s.now - a.at_)
      let s := s.commStep k
      let n := if full then a.extra + 1 else 0
      let s := s.modAmc k fun a => { a with extra := n, nextAt := some (s.now + s.stepTicks k (s.blindRpm k)) }
      if 12 < n then (s.amcStartFail k).amcRelease k else s.commJob k
    else if s.amcSt k = 7 then
      let taus := ((s.now - a.commAt) :: a.taus).take 6
      let mean : Rat := (taus.foldl (· + ·) 0 : Nat) / (taus.length : Nat)
      let s := (s.commStep k).modAmc k fun a => { a with taus }
      (s.setQ (O.amcSpeed k) (a.dir * s.stepRpm k mean)).commJob k
    else s

/-- The current reaches a level, in codes of the peak comparator's threshold, so many nanoseconds after a turn-on: from the code in force
on, the comparator trips (R370). -/
def amcPeak (s : State) (k : Fin 6) (ns level : Nat) : State :=
  let st := s.amcSt k
  if (st ≠ 3 ∧ st ≠ 5 ∧ st ≠ 6 ∧ st ≠ 7) ∨ level < s.amcCode k ∨ ns < 200 ∨ (st = 3 ∧ s.amc[k].listening) then s
  else
    let s := (s.orO (O.amcFlags k) 1).modAmc k fun a => { a with cutAt := some s.now }
    let per := s.amcPer k s.now
    if st = 3 ∨ 500 < ns then s.modAmc k fun a => { a with shorts := 0 }
    else
      let a := s.amc[k]
      let n := if a.shorts ≠ 0 ∧ per = a.shortAt then a.shorts else if a.shorts ≠ 0 ∧ per = a.shortAt + 1 then a.shorts + 1 else 1
      let s := s.modAmc k fun a => { a with shorts := n, shortAt := per }
      if 8 ≤ n then ((s.orO (O.amcFlags k) 0x80).modAmc k fun a => { a with shorts := 0 }).amcFault k 1 else s

/-- The listen window ends without a decision: standstill (R372, R373). -/
def listenEnd (s : State) (k : Fin 6) : State :=
  if (s.amcSt k = 2 ∨ (s.amcSt k = 3 ∧ s.amc[k].listening)) ∧ s.amc[k].at_ + s.getO (O.amcListen k) * msTicks ≤ s.now then
    (s.amcHeard k none 0).amcRelease k
  else s

/-- ALIGN ends: blind commutation begins (R374). -/
def alignEnd (s : State) (k : Fin 6) : State :=
  if s.amcSt k = 5 ∧ s.amc[k].at_ + s.getO (O.amcAlignTime k) * msTicks ≤ s.now then
    (s.amcTo k 6 0).modAmc k fun a => { a with
      step := 0, commAt := s.now, nextAt := some (s.now + s.stepTicks k (s.getQ (O.amcRampStart k))), fits := 0, extra := 0 }
  else s

/-- The points of a curve (R378). -/
def amcPoints (s : State) (k : Fin 6) : List (Rat × Rat × Rat) :=
  let v := s.getO (O.amcCurve k)
  (List.range (s.getO (O.amcCurveN k))).map fun i =>
    let y := f32Val (bitsOf v (64 * i + 63) (64 * i + 32))
    (f32Val (bitsOf v (64 * i + 31) (64 * i)), y, y)

/-- The curve's input, where valid (R378). -/
def amcInput (s : State) (k : Fin 6) : Option Rat :=
  let c := s.getO (O.amcCurveSrc k)
  if 0x7000 ≤ c then
    let v := s.getO (O.thmT (c - 0x7000))
    if bitsOf v 30 23 = 255 then none else some (f32Val v)
  else if 0x1000 ≤ c then (if s.resOk (c - 0x1000) then some (s.resFrac (c - 0x1000)) else none)
  else none

/-- CURVE_EVAL (R378, R379). -/
def curveEval (s : State) (k : Fin 6) : State :=
  if s.getO (O.amcCurveSrc k) = 0 then s
  else
    match s.amcInput k with
    | none => s
    | some x =>
      let pts := s.amcPoints k
      let v := match pts with
        | (x0, y0, _) :: _ => if x < x0 then y0 else curveAt false x pts
        | [] => 0
      let m := s.getQ (O.amcSpeedMin k)
      let a := s.amc[k]
      let on := if m ≤ v then true else a.curveOn && decide (absQ (x - a.xOn) < s.getQ (O.amcCurveHyst k))
      let s := s.modAmc k fun a => { a with
        curveOn := on, xOn := if m ≤ v then x else a.xOn, validAt := s.now, failed := false }
      s.curveTarget k (if on then minQ (maxQ v m) (s.getQ (O.amcSpeedMax k)) else 0)

/-- The curve's input has been missing for a second (R379). -/
def curveLost (s : State) (k : Fin 6) : State :=
  let a := s.amc[k]
  if s.getO (O.amcCurveSrc k) ≠ 0 ∧ a.failed = false ∧ (s.amcInput k).isNone ∧ a.validAt + sTicks ≤ s.now then
    let s := (s.modAmc k fun a => { a with failed := true }).orO (O.amcFlags k) 0x10
    (s.raise 0x0710 (0x6800 + 0x40 * k) (9 * 65536 + s.amcSt k * 257)).curveTarget k (s.getQ (O.amcCurveFail k))
  else s

end State

/-! ### The rows -/

def execAmcStart (s : State) : Host.Outcome State Fault Refusal := .next (s.runCmd 0x0710 State.amcStart)

def execAmcStop (s : State) : Host.Outcome State Fault Refusal := .next (s.runCmd 0x0711 State.amcStop)

def execAmcMove (s : State) : Host.Outcome State Fault Refusal := .next (s.runCmd 0x0712 State.amcMove)

def execAmcHome (s : State) : Host.Outcome State Fault Refusal := .next (s.runCmd 0x0713 State.amcHome)

def execParkEngage (s : State) : Host.Outcome State Fault Refusal := .next (s.runCmd 0x0714 State.parkEngage)

def execParkRelease (s : State) : Host.Outcome State Fault Refusal := .next (s.runCmd 0x0715 State.parkRelease)

def execAmcClear (s : State) : Host.Outcome State Fault Refusal := .next (s.runCmd 0x0716 State.amcClear)

def execBemfCrossing (k : Fin 6) (phase : Fin 3) (rising : Bool) (s : State) : Host.Outcome State Fault Refusal :=
  .next (s.bemf k phase rising)

def execCommutation (k : Fin 6) (s : State) : Host.Outcome State Fault Refusal := .next (s.commutate k)

def execAmcPeakTrip (k : Fin 6) (ns : Nat) (level : BitVec 8) (s : State) : Host.Outcome State Fault Refusal :=
  .next (s.amcPeak k ns level.toNat)

def execListenEnd (k : Fin 6) (s : State) : Host.Outcome State Fault Refusal := .next (s.listenEnd k)

def execBrakePulseEnd (k : Fin 6) (s : State) : Host.Outcome State Fault Refusal :=
  .next (if s.amcSt k = 3 ∧ s.amc[k].listening = false ∧ s.amc[k].at_ + 50 * msTicks ≤ s.now then
    s.modAmc k fun a => { a with listening := true, at_ := s.now, seen := none } else s)

def execBrakeTimeout (k : Fin 6) (s : State) : Host.Outcome State Fault Refusal :=
  .next (if s.amcSt k = 3 ∧ s.amc[k].brakeAt + s.getO (O.amcBrakeMax k) * msTicks ≤ s.now then s.amcFault k 6 else s)

def execRevWaitEnd (k : Fin 6) (s : State) : Host.Outcome State Fault Refusal :=
  .next (if s.amcSt k = 4 ∧ s.amc[k].at_ + s.getO (O.amcRevDelay k) * msTicks ≤ s.now then s.amcListen k s.amc[k].dir else s)

def execAlignEnd (k : Fin 6) (s : State) : Host.Outcome State Fault Refusal := .next (s.alignEnd k)

def execStartRetryDelay (k : Fin 6) (s : State) : Host.Outcome State Fault Refusal :=
  .next (match s.amc[k].retryAt with
    | some t => if t + 200 * msTicks ≤ s.now then (s.modAmc k fun a => { a with retryAt := none }).amcListen k s.amc[k].dir else s
    | none => s)

def execStallDetect (k : Fin 6) (s : State) : Host.Outcome State Fault Refusal :=
  .next (if s.amcSt k = 7 ∧ s.amc[k].crossAt + s.getO (O.amcStallTime k) * msTicks ≤ s.now then s.amcStall k else s)

def execCurveEval (k : Fin 6) (s : State) : Host.Outcome State Fault Refusal := .next (s.curveEval k)

def execCurveInputTimeout (k : Fin 6) (s : State) : Host.Outcome State Fault Refusal := .next (s.curveLost k)

def execParkEngageClear (s : State) : Host.Outcome State Fault Refusal := .next s.parkEngageClear

def execParkRetry (s : State) : Host.Outcome State Fault Refusal :=
  .next (match s.amc[5].parkRetry with
    | some t =>
      if t + 200 * msTicks ≤ s.now ∧ s.amcSt 5 = 1 then
        let d := s.amc[5].dir
        (s.modAmc 5 fun a => { a with parkRetry := none }).parkRun d
      else s
    | none => s)

end Sys2Proof.Machine
end

