-- ==== Sys2Proof/Machine/ThermOps.lean ====
section
/-! DEFINITION. Temperature channels (R433, R435). -/

namespace Sys2Proof.Machine

/-- The pattern that stands for a channel that is not valid (R433). -/
def f32NaN : Nat := 0x7FC00000

/-- An S20 value inside the range of a wired NTC: −0.95 to +0.95 (R435). -/
def ntcInside (v : Int) : Bool := decide (-19 * 524288 ≤ 20 * v) && decide (20 * v ≤ 19 * 524288)

namespace State

/-- The temperature of NTC channel `i` for a delivered fraction (R435). -/
def ntcTemp (s : State) (i : Nat) (x : Rat) : Rat :=
  let r := s.getQ (O.thmNtcRpull i) * (1 + x) / (1 - x)
  let q := r / s.getQ (O.thmNtcR25 i)
  let l := if q = 1 then 0 else lnQ q
  1 / (20 / 5963 + l / s.getQ (O.thmNtcBeta i)) - 5463 / 20

/-- A delivered result carried to the NTC channels it feeds (R433, R435). -/
def ntcMeasure (s : State) (j : Nat) : State :=
  (List.range 16).foldl (fun (s : State) i =>
    if s.getO (O.thmNtcSrc i) = j then
      if s.resOk j && ntcInside (s.resVal j) then s.setQ (O.thmT (56 + i)) (s.ntcTemp i (s.resFrac j))
      else s.setO (O.thmT (56 + i)) f32NaN
    else s) s

/-- A temperature channel is valid, and its value (R433). -/
def chanTemp (s : State) (t : Nat) : Option Rat := if s.getO (O.thmT t) = f32NaN then none else some (s.getQ (O.thmT t))

end State

end Sys2Proof.Machine
end

