-- ==== Sys2Proof/Machine/RpkOps.lean ====
section
/-! DEFINITION. The shared operations of the reserve pack and the power path (chapter "Reserve pack and keep-alive power
path"): the states of R396 and R401, charging (R403 to R405) and the hooks that other chapters call. -/

namespace Sys2Proof.Machine

namespace State

def modRpk (s : State) (f : Rpk → Rpk) : State := { s with rpk := f s.rpk }

/-- The state of the charge and of the path (R401, R396). -/
def rpkSt (s : State) : Nat := s.getO O.rpkState
def rpkPath (s : State) : Nat := s.getO O.rpkPath

/-- Levels of RPK_PATH_SRC and RPK_PATH_PACK, and of RPK_PRB (R396, R402). -/
def pathSrc (s : State) : Bool := s.rpkPath == 0 || s.rpkPath == 5 || (s.rpkPath == 1 && !s.rpk.opened)
def pathPack (s : State) : Bool := s.rpkPath != 0 && !s.rpk.cut
def rpkProbe (s : State) : Bool := s.rpkSt == 2

/-- The duty of RPK_PWM (R403). -/
def rpkDuty (s : State) : Rat := clampQ ((s.ctx[37].outc[0] : Rat) / 524288 * s.outFs 37) 0 (9 / 10)

/-- The level of RPK_PWM: the on-interval begins each PWM period; no further one starts once CHARGE ends, and the last runs to its end
unless it was ended at once (R395, R397, R403, R406). -/
def rpkPwm (s : State) : Bool :=
  let f := s.getO O.rpkPwmFreq
  let within (d : Rat) : Bool := decide (((s.now * f % sTicks : Nat) : Rat) < d * (sTicks : Nat))
  if s.rpkSt = 4 then within s.rpkDuty
  else !s.rpk.ended && s.rpk.at_ * f / sTicks == s.now * f / sTicks && within s.rpk.dutyWas

/-- A change of `rpk.state` with EV_RPK_STATE (R409); C37 runs only in CHARGE (R403). -/
def rpkTo (s : State) (st : Nat) : State :=
  let old := s.rpkSt
  let d := s.rpkDuty
  let s := (s.setO O.rpkState st).modRpk fun r => { r with at_ := s.now, restAt := s.now, dutyWas := d, ended := old != 4 }
  let s := if st = 4 then s else s.ctxStop 37
  if old = st then s else s.raise 0x0610 0x7000 (s.getO O.rpkEnd * 65536 + st * 256 + old)

/-- A change of `rpk.path`, and EV_RPK_PATH (R397, R398, R409). -/
def pathTo (s : State) (p : Nat) : State := (s.setO O.rpkPath p).modRpk fun r => { r with pathAt := s.now, opened := false }
def pathEvent (s : State) : State := s.raise 0x0611 0x7000 (s.rpkSt * 256 + s.rpkPath)

/-- Charging may run: path SOURCE, VMAIN present, power state NAP or above (R401). -/
def rpkMay (s : State) : Bool :=
  s.rpkPath == 0 && s.pwr.vmain && decide (s.getO O.pwrState ≤ 3) && s.pwr.entering.isNone && !s.pwr.asleep

/-- The pack temperature lies inside the window, tightened by `k` kelvin (R404). -/
def packInside (s : State) (k : Rat) : Bool :=
  decide (s.getQ O.rpkTLow + k ≤ s.getQ O.rpkTPack) && decide (s.getQ O.rpkTPack ≤ s.getQ O.rpkTHigh - k)

/-- Entry to CHARGE and each resume: the search for an end starts anew (R405). -/
def rpkRun (s : State) : State :=
  ((s.modRpk fun r => { r with vPeak := 0, tRun := 0, vSum := 0, vN := 0, secAt := s.now, temps := [s.getQ O.rpkTPack], tenAt := s.now,
                               window := false, lateAt := none, insideAt := none }).ctxStart 37).rpkTo 4

/-- A charge begins (R403); where it may not run now it begins PAUSED. -/
def rpkStart (s : State) : State :=
  let s := (s.setO O.rpkChgTime 0).setO O.rpkEnd 0
  if s.rpkMay then s.rpkRun else s.rpkTo 5

/-- A charge that READY starts by itself: the temperature and the override permit it and the loop engine admits it. -/
def rpkAuto (s : State) : State :=
  if s.rpkSt = 3 ∧ s.packInside 0 ∧ s.override 6 < 2 ∧ (firstBad (s.chkAdmit [37])).isNone then s.rpkStart else s

/-- A paused charge resumes once nothing holds it (R404). -/
def rpkTryResume (s : State) : State :=
  if s.rpkSt = 5 ∧ s.rpkMay ∧ s.rpk.window = false ∧ s.rpk.lateAt = none then s.rpkRun else s

/-- A charge in progress pauses (R403, R404). -/
def rpkPause (s : State) : State := if s.rpkSt = 4 then s.rpkTo 5 else s

/-- The end of a charge with its code (R405). -/
def rpkDone (s : State) (code : Nat) : State := ((s.setO O.rpkEnd code).orO O.rpkFlags (2 ^ code)).rpkTo 3

/-- HOOK: the path or the power state has changed (R401, R404). -/
def rpkPower (s : State) : State := if s.rpkMay then s.rpkTryResume else s.rpkPause

/-- HOOK: `rpk.enable` has been written, or an island restarted with it (R401). -/
def rpkEnabled (s : State) : State :=
  if s.getO O.rpkEnable = 0 then (if s.rpkSt = 0 then s else s.rpkTo 0)
  else if s.rpkSt = 0 then s.rpkTo 1 else s

/-- HOOK: a STOP or SAFE override on group 6 ends a charge (R83). -/
def rpkOverride (s : State) : State := if s.rpkSt = 4 ∨ s.rpkSt = 5 then s.rpkTo 3 else s

/-- HOOK: a late run of C37 (R403). -/
def rpkLate (s : State) : State :=
  if 4 ≤ s.ctx[(37 : Fin 64)].lateRuns ∧ s.rpkSt = 4 then
    ((s.orO O.rpkFlags 1).modRpk fun r => { r with lateAt := some s.now }).rpkPause
  else s

/-- Result 362: SEEN, the pack temperature, the window (R395, R402, R404, R405). -/
def packTemp (s : State) : State :=
  if s.resOk 362 && ntcInside (s.resVal 362) then
    let s := ((s.orO O.rpkFlags 0x400).setQ O.rpkTPack (s.ntcTemp 9 (s.resFrac 362))).modRpk fun r =>
      { r with seenAt := some (r.seenAt.getD s.now) }
    let s := s.modRpk fun r => { r with insideAt := heldSince s.now (s.packInside 2) r.insideAt }
    if s.rpkSt = 4 ∧ s.getQ O.rpkTEnd ≤ s.getQ O.rpkTPack then s.rpkDone 3
    else if s.packInside 0 then s
    else if s.rpkSt = 4 then ((s.orO O.rpkFlags 0x20).rpkPause).modRpk fun r => { r with window := true }
    else s.when (s.rpkSt == 5) fun s => s.modRpk fun r => { r with window := true }
  else
    let s := (s.clrO O.rpkFlags 0x400).modRpk fun r => { r with seenAt := none }
    if s.rpkSt = 0 ∨ s.rpkSt = 1 then s else s.rpkTo 1

/-- HOOK: results 360 to 362 have been delivered (R395). -/
def rpkMeasure (s : State) (j : Nat) : State :=
  if j = 360 then
    if s.resOk 360 then
      let v := s.resFrac 360 * s.getQ O.rpkVFs
      let low := decide (s.rpkPath = 2) && decide (v < (s.getO O.rpkVCutoff * s.getO O.rpkCells : Nat) / 1000)
      (s.setQ O.rpkVPack v).modRpk fun r => { r with lowAt := heldSince s.now low r.lowAt, vSum := r.vSum + v, vN := r.vN + 1 }
    else s
  else if j = 361 then (if s.resOk 361 then s.setQ O.rpkIPack (s.resFrac 361 * s.getQ O.rpkIFs) else s)
  else if j = 362 then s.packTemp
  else s

/-- The source lies inside its window; millivolts of the board net (R398). -/
def srcInside (s : State) (kab : Nat) : Bool :=
  decide (100 * s.getO O.rpkSrcVMin ≤ kab) && decide (kab ≤ 100 * s.getO O.rpkSrcVMax)

/-- The path is SOURCE again: EV_RPK_PATH; a charge resumes, or begins after more than 10 s on the pack (R398, R403, R404). -/
def pathHome (s : State) : State :=
  let long := decide (10 * sTicks < s.now - s.rpk.packAt)
  let s := ((s.pathTo 0).modRpk fun r => { r with cutAt := none, cut := false, lowAt := none }).pathEvent
  let s := s.rpkTryResume
  s.when long fun s => s.rpkAuto

end State

end Sys2Proof.Machine
end

