-- ==== Sys2Proof/Machine/ScOps.lean ====
section
/-! DEFINITION. The safe-state decision of SC (R42 to R44, R145, R271, R302, R304, R305, R422, R439): the action each copy
writes for each link, and what a change of the merged action does to the link. -/

namespace Sys2Proof.Machine

namespace State

/-- The link's function has been released: RELEASE is under way or has passed (R123, R280). -/
def released (s : State) (l : Fin 40) : Bool := s.links[l].planning && decide (s.links[l].relAt ≤ s.now)

/-- The speed rule for a speed, its validity and a present decision (R166). -/
def ruleNext (s : State) (m : Fin 4) (speed : Rat) (ok asc : Bool) : Bool :=
  let ty := s.getO (O.trxType m)
  let n := absQ speed
  if ty = 0 ∨ ty = 3 then false
  else if ok = false then asc
  else if s.getQ (O.trxAscSpeed m) ≤ n then true
  else if n < s.getQ (O.trxAscSpeed m) - s.getQ (O.trxAscHyst m) then false
  else asc

/-- The action a copy wants for a traction link, for the checkpoint word it uses and the rule as it evaluates it. -/
def scWantTrx (s : State) (w : SafeWord) (m : Fin 4) (l : Fin 40) (asc : Bool) : Force :=
  let t := s.trx[m]
  let st := w.st[m]
  let set := bitsOf w.sets[m] (1 + 2 * linkSet l) (2 * linkSet l)
  let ty := s.getO (O.trxType m)
  let side := s.ruleAct m true
  let idle : Force := if asc then side else .hold
  if s.bitO O.dclFlags 16 then (if s.dcl.hwAsc && (ty == 1 || ty == 2) then side else .off)
  else if s.ptgLatched || s.tripLatched || s.clk.lossActive || s.safeOn m || w.ova[m] || st == 5 then
    (if w.ova[m] && s.released l && s.switching m then .hold else s.ruleAct m asc)
  else if t.ascHold then side
  else if st = 0 ∨ st = 6 then idle
  else if st = 1 then (if s.released l then .hold else idle)
  else if set = 1 then s.ruleAct m asc
  else if set = 2 ∧ s.released l = false then s.ruleAct m asc
  else .hold

/-- The action a copy wants for a link; while CT or CV restarts on another image, OFF (R519). -/
def scWant (s : State) (w : SafeWord) (copyB : Bool) (l : Fin 40) : Force :=
  if s.getO (O.updState 2) = 3 ∨ s.getO (O.updState 3) = 3 then .off
  else match linkMachine l with
  | some m => s.scWantTrx w m l ((s.getO (O.trxType m) == 1 || s.getO (O.trxType m) == 2) &&
      (if copyB then s.trx[m].ruleB else s.trx[m].ruleA))
  | none =>
    if s.tripLatched then .off
    else if l.val < 31 ∧ s.ptgLatched then .off
    else if l.val = 31 ∧ s.clk.lossActive then .off
    else if s.safeOn (linkGroup l) then .off
    else .hold

/-- The copy that does not run in SPLIT and in the first window of JOINING (R427, R428): 0 A, 1 B. -/
def splitCopy (s : State) : Option Nat :=
  if s.getO O.ptgState = 2 ∨ (s.getO O.ptgState = 3 ∧ s.ptg.joinWin = 0) then some (s.getO O.ptgSplitCopy) else none

/-- A copy's force vector for the checkpoint word it uses; the leaving copy of a split writes HOLD (R427). -/
def scVector (s : State) (w : SafeWord) (copyB : Bool) : Vector Force 40 :=
  if s.splitCopy = some (if copyB then 1 else 0) then Vector.replicate 40 .hold else Vector.ofFn fun l => s.scWant w copyB l

/-- A link whose merged action has changed: the forced state, or RELEASE before the next carrier period (R42, R44, R123). -/
def forceChanged (s : State) (l : Fin 40) (old : Force) : State :=
  if s.scAct l = old then s
  else if s.scAct l = .hold then
    if s.stageOnLink l && !s.links[l].planning && s.lineUp l then s.releaseLegs [l] (s.periodFrom ⟨linkCg l % 8, Nat.mod_lt _ (by decide)⟩ (s.now + 4000) 256 s.cgs[(⟨linkCg l % 8, Nat.mod_lt _ (by decide)⟩ : Fin 8)])
    else s
  else ((s.cancelEdges l).modLink l fun k => { k with planning := false, release := 0 }).sendForce l

/-- The force vectors written (R42, R43). -/
def putForces (s : State) (a b : Vector Force 40) : State :=
  let t : State := { s with forceA := a, forceB := b }
  (List.finRange 40).foldl (fun (t : State) l => t.forceChanged l (s.scAct l)) t

/-- Both copies act at once, on what CT would tell them now. -/
def applySc (s : State) : State := s.putForces (s.scVector s.safeWord false) (s.scVector s.safeWord true)

/-- What a rule of SC does to a SAFE machine whose forced action is the same: SAFE becomes FAULT for every machine whose
fault is one of a list (R305, R423, R46). -/
def safeEnds (s : State) (faults : List Nat) : State :=
  (List.finRange 4).foldl (fun (s : State) m => if s.trxSt m = 5 ∧ s.trx[m].overSafe = false ∧ faults.contains (s.getO (O.trxFault m)) then s.trxSet m 6 else s) s

end State

end Sys2Proof.Machine
end

