-- ==== Sys2Proof/Machine/DclOps.lean ====
section
/-! DEFINITION. The shared operations of the DC link (chapter "DC link, contactors and braking"): link measurement (R287),
closing and opening (R289 to R292), the chopper (R298 to R301) and the overvoltage action (R302, R303). -/

namespace Sys2Proof.Machine

namespace State

/-- The state of the contactors (R307), and its change with EV_DCL_STATE (R310). -/
def dclSt (s : State) : Nat := s.getO O.dclState
def dclTo (s : State) (st cause : Nat) : State :=
  if s.dclSt = st then s
  else (s.setO O.dclState st).raise 0x0390 0x3C00 (cause * 65536 + st * 256 + s.dclSt)

/-- The contactor outputs; inactive without a battery (R288, R290). -/
def dclOut (s : State) (pos neg pre : Bool) : State :=
  let b := s.getO O.dclBattery == 1
  s.modDcl fun d => { d with ctrPos := b && pos, ctrNeg := b && neg, ctrPre := b && pre }

/-- A copy of SC runs: neither split off nor being joined (R427, R428). -/
def copyRuns (s : State) (i : Fin 2) : Bool := s.splitCopy != some i.val

/-- Every copy of SC that runs permits a closing step (R416, R427). -/
def closePermit (s : State) : Bool := (!s.copyRuns 0 || s.ptg.a.close) && (!s.copyRuns 1 || s.ptg.b.close)

/-- A copy of SC that runs counts the HVIL loop, debounced, as open (R294, R416, R427). -/
def loopOpen (s : State) : Bool := (s.copyRuns 0 && s.dcl.hvilOpen[0]) || (s.copyRuns 1 && s.dcl.hvilOpen[1])

/-! ### Closing -/

/-- Step 3: precharge, passed at once where the voltages already agree (R290). -/
def preCheck (s : State) : State :=
  if s.dcl.step = 3 ∧ s.closePermit = true ∧ s.dcl.vBat - s.dcl.vLink ≤ s.getQ O.dclPreDv then
    (s.dclOut true true true).modDcl fun d => { d with step := 4, stepAt := s.now }
  else s
def closeStep3 (s : State) : State :=
  (((s.dclTo 3 1).dclOut false true true).modDcl fun d => { d with step := 3, stepAt := s.now, stepV := d.vLink }).preCheck

/-- A weld check cannot be made (R291). -/
def weldSkip (s : State) : Bool := decide (s.dcl.vBat - s.getQ O.dclWeldDv < s.dcl.vLink)
def weldSkipped (s : State) : State := (s.orO O.dclFlags 0x400).raise 0x0391 0x3C00 4

/-- Steps 2 and 1: the weld checks (R290, R291). -/
def closeStep2 (s : State) : State :=
  let s := s.dclTo 2 1
  if s.weldSkip then s.weldSkipped.closeStep3
  else (s.dclOut false false true).modDcl fun d => { d with step := 2, stepAt := s.now, stepV := d.vLink }
def closeStep1 (s : State) : State :=
  let s := s.dclTo 1 1
  if s.weldSkip then s.weldSkipped.closeStep2
  else (s.dclOut false true false).modDcl fun d => { d with step := 1, stepAt := s.now, stepV := d.vLink }

/-- A closing sequence starts; its first step waits for the permission of SC (R289, R416; log 51). -/
def closeStart (s : State) : State :=
  let s := s.modDcl fun d => { d with starts := (s.now :: d.starts).take 3, step := 0 }
  if s.closePermit then s.closeStep1 else s.dclTo 1 1

/-- CLOSED is reached (R288, R290). -/
def closeDone (s : State) : State :=
  (((s.dclTo 4 1).dclOut true true false).modDcl fun d => { d with step := 0 }).endAll (fun p => p.code == 0x0320) St.ok

/-- A closing step fails (R290). -/
def closeFail (s : State) : State :=
  let k := s.dcl.step
  let s := (s.dclOut false false false).modDcl fun d => { d with step := 0 }
  let s := s.orO O.dclFlags (if k = 1 then 0x100 else if k = 2 then 0x200 else 0x80)
  let s := s.when (k != 3) fun s => s.raise 0x0391 0x3C00 k
  (s.dclTo 6 (if k = 3 then 4 else 5)).endAll (fun p => p.code == 0x0320) St.fault

/-- The end of a closing step's time T (R290). -/
def closeStepEnd (s : State) : State :=
  let d := s.dcl
  let beyond := decide (d.stepAt + s.getO O.dclCloseTime * msTicks ≤ s.now)
  if s.dclSt = 0 ∨ 3 < s.dclSt then s
  else if d.step = 0 then (if s.closePermit then s.closeStep1 else s)
  else if !beyond then s
  else if (d.step = 1 ∨ d.step = 2) ∧ s.getQ O.dclWeldDv < d.vLink - d.stepV then s.closeFail
  else if !s.closePermit then s
  else if d.step = 1 then s.closeStep2
  else if d.step = 2 then s.closeStep3
  else if d.step = 4 then s.closeDone
  else s

/-! ### Opening -/

/-- Both contactors released at once; OPEN follows after T (R292). -/
def openNow (s : State) : State :=
  (s.dclOut false false false).modDcl fun d => { d with openMode := 1, posAt := some s.now }

/-- What stops as the contactor state leaves CLOSED: machines and charger (R292, R336). -/
def openStops (s : State) : State :=
  ((List.finRange 4).foldl (fun (s : State) m => s.trxStopReq m) s).chgStopFor [Cause.dcl]

/-- OPEN is entered: `bms_open` returns to 0 and the auxiliary converter stops (R292, R296, R362). -/
def dclOpened (s : State) (cause : Nat) : State := ((s.setO O.dclBmsOpen 0).dclTo 0 cause).auxEnd 0 AuxCause.dcl

/-- The contactors open under a MODE for a cause: 1 command, 2 HVIL, 3 BMS (R292). A closing sequence under way is
abandoned at once; its command ends with ST_STATE (log 52). -/
def dclLeave (s : State) (imm : Bool) (cause : Nat) : State :=
  if s.dclSt = 4 then
    let s := (s.dclTo 5 cause).modDcl fun d => { d with openMode := 0, openCause := cause, openAt := s.now, posAt := none }
    (if imm then s.openNow else s).openStops
  else if s.dclSt = 5 then (if imm && s.dcl.posAt.isNone then s.openNow else s)
  else if 1 ≤ s.dclSt ∧ s.dclSt ≤ 3 then
    let s := (s.endAll (fun p => p.code == 0x0320) St.state).dclTo 5 cause
    (s.modDcl fun d => { d with step := 0, openCause := cause, openAt := s.now }).openNow
  else s

/-- The next step of an opening in progress (R292, R296). -/
def openStep (s : State) : State :=
  if s.dclSt ≠ 5 then s
  else
    match s.dcl.posAt with
    | none =>
      if ((List.finRange 4).all fun (m : Fin 4) => s.trxSt m == 0) ∨ s.dcl.openAt + s.getO O.dclOpenWait * msTicks ≤ s.now then
        s.modDcl fun d => { d with ctrPos := false, ctrPre := false, posAt := some s.now }
      else s
    | some t =>
      if t + s.getO O.dclCloseTime * msTicks ≤ s.now then
        ((s.dclOut false false false).dclOpened s.dcl.openCause).endAll (fun p => p.code == 0x0321) St.ok
      else s

/-- A write of 1 or 2 to `bms_open` (R296). -/
def bmsOpenWritten (s : State) : State :=
  let v := s.getO O.dclBmsOpen
  if v = 0 then s
  else
    let s := s.raise 0x0397 0x3C00 2
    s.dclLeave (v == 2) 3

/-- A write to `bms_i_chg` renews the age of the limits (R296). -/
def bmsWritten (s : State) : State := s.modDcl fun d => { d with bmsAt := s.now, bmsStale := false }

/-! ### Chopper -/

/-- A latch of the chopper acts: it stops, its leg forced OFF after a fault, and f_chop begins to fall; during OVA that waits for its
end (R300, R301, R306). -/
def chopAct (s : State) : State :=
  if s.bitO O.dclFlags 18 then s
  else
    let s := s.modDcl fun d => { d with chopIn := false, fallAt := some (d.fallAt.getD s.now) }
    s.when (s.bitO O.dclFlags 17) fun s => (s.modDcl fun d => { d with chopDuty := 0 }).forceLegs [31] false

/-- f_chop is 1 again once neither latch holds (R300, R301). -/
def chopRise (s : State) : State :=
  if s.bitO O.dclFlags 17 || s.dcl.hot then s else s.modDcl fun d => { d with fallAt := none }

/-- A chopper fault (R299, R300). -/
def chopFault (s : State) (cause : Nat) : State :=
  if s.getO O.dclChopEnable = 0 ∨ s.bitO O.dclFlags 17 = true then s
  else
    (s.orO O.dclFlags 0x20004).chopAct.raise 0x0393 0x3C00 cause

/-- STOP or SAFE on group DCL: the chopper stays out until its owner enables it (R83, R84; log 191). -/
def chopBar (s : State) : State := s.modDcl fun d => { d with chopIn := false, chopHeld := true }

/-- The chopper switches in, and its leg is released to the next period (R298, R123). -/
def chopStart (s : State) : State :=
  if s.override 4 < 2 ∧ s.dcl.chopHeld = false ∧ s.glkReady.testBit 31 = true then
    (s.modDcl fun d => { d with chopIn := true }).releaseLegs [31] (s.periodFrom 6 (s.now + 4000) 256 s.cgs[(6 : Fin 8)])
  else s

/-- The chopper against a link sample (R298). -/
def chopSample (s : State) : State :=
  let v := s.dcl.vLink
  if s.dcl.chopIn then
    (if v < s.getQ O.dclChopOff ∨ s.getO O.dclChopEnable = 0 ∨ 2 ≤ s.override 4 then s.modDcl fun d => { d with chopIn := false } else s)
  else if s.getO O.dclChopEnable = 1 ∧ s.bitO O.dclFlags 17 = false ∧ s.dcl.hot = false ∧ s.getQ O.dclChopOn ≤ v then s.chopStart
  else s

/-- The chopper's duty at a plan cutoff (R298). -/
def chopDutyNow (s : State) : Rat :=
  let a := s.getQ O.dclChopOff
  let b := s.getQ O.dclChopFull
  if s.dcl.chopIn then clampQ ((s.dcl.vLink - a) / (b - a)) (1 / 10) 1 else 0

/-- The duty that a window is planned with: one whose off-interval is shorter than the minimum pulse holds the leg on (R298). -/
def chopDuty (s : State) (len : Nat) : Rat :=
  let d := s.chopDutyNow
  if (1 - d) * (len : Nat) < (s.getO (O.pwmMinPulse 6) : Nat) then 1 else d

/-- The resistor energy over a CG6 period that has ended, in ticks (R301). -/
def chopEnergyStep (s : State) (period : Nat) : State :=
  let r := s.getQ O.dclChopR
  let t : Rat := (period : Rat) / sTicks
  let v := s.dcl.vLink
  let e := s.dcl.energy + (if r = 0 then 0 else v * v / r * s.dcl.chopDuty * t / 1000) - s.dcl.energy * t / s.getQ O.dclChopTau
  let max := s.getQ O.dclChopEMax
  let s := (s.modDcl fun d => { d with energy := e }).setQ O.dclChopEnergy e
  if s.dcl.hot then
    (if e < max / 2 then ((s.modDcl fun d => { d with hot := false }).chopRise).raise 0x0393 0x3C00 6 else s)
  else if 0 < max ∧ max ≤ e then
    (((s.modDcl fun d => { d with hot := true }).chopAct).orO O.dclFlags 8).raise 0x0393 0x3C00 5
  else s

/-! ### Measurement and overvoltage -/

/-- The results that measure the link (R287). -/
def linkSrc (s : State) (n : Fin 2) : Nat := s.getO (if n = 0 then O.dclVSrc else O.dclVSrc2)

/-- OVA is declared; it drops the schedule of a return that has not begun to switch (R278, R302; log 53). -/
def ovaDeclare (s : State) : State :=
  let s := (List.finRange 4).foldl (fun (s : State) m =>
    if s.switching m then
      (((s.forceLegs (machineLinks m) true).modTrx m fun t => { t with
        ova := true, out := 0, preset := 0, period := none, sets := t.sets.map fun x => { x with preset := false, period := none } }).setO
          (O.trxTorqueOut m) 0)
    else s) s
  ((s.orO O.dclFlags 0x40002).raise 0x0394 0x3C00 (s.dcl.vLink.floor.toNat * 256 + 1)).sendSafe

/-- OVA against a link sample (R302, R303). -/
def ovaSample (s : State) : State :=
  let s := s.modDcl fun d => { d with belowAt := heldSince s.now (decide (d.vLink < s.getQ O.dclOvaRelease)) d.belowAt }
  if s.bitO O.dclFlags 18 = false ∧ s.getQ O.dclOvaOn ≤ s.dcl.vLink then s.ovaDeclare else s

/-- OVA ends: the machines resume (R303; log 53), and what was declared meanwhile acts (R306). -/
def ovaFinish (s : State) : State :=
  match s.dcl.belowAt with
  | some t =>
    if s.bitO O.dclFlags 18 ∧ s.dcl.noSrc = false ∧ t + 10 * msTicks ≤ s.now then
      let s := (s.clrO O.dclFlags 0x40000).raise 0x0394 0x3C00 (s.dcl.vLink.floor.toNat * 256)
      let s := (List.finRange 4).foldl (fun (s : State) m =>
        if s.trx[m].ova ∧ (s.trxSt m = 2 ∨ s.trxSt m = 3) then s.modTrx m fun t => { t with preset := 2 } else s) s
      if s.bitO O.dclFlags 17 || s.dcl.hot then s.chopAct else s
    else s
  | none => s

/-- A result that its source has delivered valid within the last millisecond (R287). -/
def linkFresh (s : State) (j : Nat) : Bool := decide (j < 384) && s.resOk j && decide (s.now < s.resAt j + msTicks)

/-- The sources' newest results taken over (R287, R288). -/
def linkTake (s : State) : State :=
  let fs := s.getQ O.dclVFs
  let ok (j : Nat) : Bool := s.linkFresh j
  let j1 := s.linkSrc 0
  let j2 := s.linkSrc 1
  let jb := s.getO O.dclVbatSrc
  let s := if ok j1 then s.modDcl fun d => { d with v1 := s.resFrac j1 * fs, v1At := some (s.resAt j1) } else s
  let s := if ok j2 then s.modDcl fun d => { d with v2 := s.resFrac j2 * fs, v2At := some (s.resAt j2) } else s
  if ok jb then (s.modDcl fun d => { d with vBat := s.resFrac jb * fs }).setQ O.dclVBat (s.resFrac jb * fs) else s

/-- The governing voltage from the sources that are alive (R287). -/
def linkGovern (s : State) : State :=
  let d := s.dcl
  let v : Option Rat := match d.v1At, d.v2At with
    | some _, some _ => some (maxQ d.v1 d.v2)
    | some _, none => some d.v1
    | none, some _ => some d.v2
    | none, none => none
  let differ := d.v1At.isSome && d.v2At.isSome && decide (s.getQ O.dclVTol < absQ (d.v1 - d.v2))
  let s := s.modDcl fun d => { d with diffAt := heldSince s.now differ d.diffAt }
  match v with
  | some v =>
    let v := maxQ v 0
    (s.modDcl fun d => { d with vLink := v, noSrc := false }).setQ O.dclVLink v
  | none => s

/-- A link sample (R285, R287, R290, R298, R302, R303, R362). -/
def linkSample (s : State) : State :=
  if s.linkFresh (s.linkSrc 0) || s.linkFresh (s.linkSrc 1) then
    s.linkTake.linkGovern.chopSample.preCheck.ovaSample.auxLinkVolt
  else s

/-- A source is named anew: what its predecessor delivered governs no longer (R287). -/
def linkRename (s : State) (n : Fin 2) : State :=
  ((s.modDcl fun d => if n = 0 then { d with v1At := none, diffAt := none } else { d with v2At := none, diffAt := none }).linkTake).linkGovern

/-- A source has been silent for 1 ms (R287). -/
def linkTimeout (s : State) (n : Fin 2) : State :=
  let last := ((if n = 0 then s.dcl.v1At else s.dcl.v2At).getD 0) + msTicks
  if 383 < s.linkSrc n ∨ s.now < last ∨ s.dcl.noSrc = true then s
  else
    let s := s.modDcl fun d => if n = 0 then { d with v1At := none } else { d with v2At := none }
    let s := s.linkGovern
    if s.dcl.v1At.isNone && s.dcl.v2At.isNone then
      ((s.modDcl fun d => { d with noSrc := true, chopIn := false, belowAt := none }).orO O.dclFlags 0x10).raise 0x0396 0x3C00 1
    else s

/-- The sources have disagreed for 10 ms (R287; log 54). -/
def linkMismatch (s : State) : State :=
  match s.dcl.diffAt with
  | some t =>
    if t + 10 * msTicks ≤ s.now then ((s.modDcl fun d => { d with diffAt := none }).orO O.dclFlags 0x10).raise 0x0396 0x3C00 2 else s
  | none => s

end State

end Sys2Proof.Machine
end

