-- ==== Sys2Proof/Machine/GlkOps.lean ====
section
/-! DEFINITION. The shared operations of a gate link's life (chapter "Gate links and edge-timed PWM"): training (R115), loss
(R121) with what each function does of it, received frames (R101), registers (R112). -/

namespace Sys2Proof.Machine

/-- A list of numbers sorted. -/
def sortNat : List Nat → List Nat
  | [] => []
  | x :: t => insert x (sortNat t)
where
  insert (x : Nat) : List Nat → List Nat
    | [] => [x]
    | y :: t => if x ≤ y then x :: y :: t else y :: insert x t

/-- The index of the first largest entry. -/
def argMax (l : List Nat) : Nat := (l.zipIdx.foldl (fun (a : Nat × Nat) p => if a.1 < p.1 then p else a) (0, 0)).2

namespace State

/-- CT and CV run, locked to a crystal that is there (R46, R115, R495). -/
def ctLocked (s : State) : Bool :=
  s.bitO O.sysClkStatus 0 && s.bitO O.sysClkStatus 1 && s.bitO O.sysClkStatus 7 && !s.pwr.failed.getLsbD 2 && !s.pwr.failed.getLsbD 3
def linkEnabled (s : State) (l : Fin 40) : Bool := s.bitO O.glkEnable l

/-- The link carries edges: READY or DEGRADED by itself. -/
def linkUp (s : State) (l : Fin 40) : Bool := s.links[l].st == .ready || s.links[l].st == .degraded

/-- The temperature channel of a driver is not valid (R433). -/
def drvTempGone (s : State) (l : Fin 40) : State := s.setO (O.thmT (16 + l)) f32NaN

/-- The pending frames of a link cancelled and its training begun, with the de-emphasis now selected: TRAIN blocks for 20 µs
(R100, R115, R134). -/
def trainStart (s : State) (l : Fin 40) : State :=
  let s := (((s.clearLine l).modLink l fun k => { k with
    st := .training, step := 1, stepAt := s.now, edges := [], planning := false, forceLoss := false, release := 0, echo := none,
    outliers := 0, telMiss := 0, reg := none, regQueue := [], deemph := s.getO (O.glkTxDeemph l), barred := false }).eligLink l).drvTempGone l
  if s.lineClock then
    (s.send (.train l trainBlock s.symAt 50)).modLink l fun k => { k with lineEnd := s.symAt + 16000 }
  else s

/-- A link turned OFF: it sends nothing (R115). -/
def linkOff (s : State) (l : Fin 40) : State :=
  (((s.clearLine l).modLink l fun k => { k with
    st := .off, step := 0, edges := [], planning := false, forceLoss := false, release := 0, echo := none, telMiss := 0,
    reg := none, regQueue := [] }).eligLink l).drvTempGone l

/-- Commands GLK_TRAIN whose links have all ended training (R137, R584). -/
def trainEnds (s : State) : State :=
  (s.disp.held.filter fun (p : Held) => p.code == 0x0301).foldl (fun (s : State) (p : Held) =>
    let ls := (List.finRange 40).filter fun (l : Fin 40) => (p.arg.headD 0).testBit l.val
    if ls.any fun l => s.linkState l == 1 then s
    else
      let s := s.modDisp fun d => { d with held := d.held.erase p }
      match ls.find? fun l => !s.countsReady l with
      | none => s.endHeld p St.ok none
      | some l => s.endHeld p St.fault (some (0x0102, l.val))) s

/-- A training step fails: LOST, and again after 10 ms (R115). The model's choice, where R115 and R123 do not say which ACTION the FORCE
frames of such a link carry: the loss action, as for a link lost in service (log 188). -/
def trainFail (s : State) (l : Fin 40) : State :=
  (((s.clearLine l).modLink l fun k => { k with st := .lost, step := 0, forceLoss := true, lostAt := s.now }).orO (O.glkStatus l) 0x100).trainEnds

/-- The driver is not one the device can use (R114). -/
def driverBad (s : State) (l : Fin 40) (reason : Nat) : State :=
  (((s.linkOff l).modLink l fun k => { k with barred := true }).raise 0x0306 (0x3040 + l) (reason * 256 + l)).trainEnds

/-- Step 3: the reads of ID_VENDOR, ID_PART, GLV, L_DRV and CAPS (R113, R115). Step 5: 64 echoes, one per µs. -/
def trainReads (s : State) (l : Fin 40) : State := s.sendRun l kReg 1650 ((List.range 5).map fun a => regBytes a 0)
def trainEchoes (s : State) (l : Fin 40) : State :=
  (s.sendRun l kEcho usTicks ((List.range 64).map fun i => toLe 1 ((s.links[l].echoId + 1 + i) % 256))).modLink l fun k =>
    { k with echoId := (k.echoId + 64) % 256 }

/-- Step 4: MEAS_CFG and LOSS_ACT written and read back, or failed without the write where the driver lacks ASC_HIGH (R115, R122). -/
def trainStep4 (s : State) (l : Fin 40) : State :=
  let a := s.lossWanted l
  if s.mayWrite l = false then s.trainFail l
  else
    let s := s.sendRun l kReg 1650 [regBytes 0x89 3, regBytes 0x88 a, regBytes 0x09 0, regBytes 0x08 0]
    s.modLink l fun k => { k with step := 4, stepAt := s.now, reg := some { addr := 0x88, data := a, sentAt := s.now, tries := 1 } }

/-- Step 3: the driver's identification (R114, R115). -/
def trainIdent (s : State) (l : Fin 40) (vendor part glv lDrv caps : Nat) : State :=
  let s := (s.setO (O.glkDriver l) (vendor * 65536 + part)).setO (O.glkLDrv l) lDrv
  let s := s.modLink l fun k => { k with caps }
  if glv ≠ 1 then s.driverBad l 1
  else if lDrv < 64 ∨ 960 < lDrv then s.driverBad l 2
  else if caps % 4 ≠ 3 then s.driverBad l 3
  else s.trainStep4 l

/-- The wire delay of an echo in fine steps (R116; log 57). -/
def wireDelay (rt turn : Nat) : Int := ((rt : Int) - turn) / 2

/-- The link enters READY with its first latency estimate, and sends FORCE (R115, R116); what its driver last reported stands (R111,
R586). Of an even number of values the spec names no
median: the model takes the lower of the two in the middle (log 124). A driver that may not hold the LOSS_ACT now wanted fails here
as in step 4 (R122). -/
def trainReady (s : State) (l : Fin 40) (replies : List (Nat × Nat)) : State :=
  if replies.length < 48 ∨ s.mayWrite l = false then s.trainFail l
  else
    let ds := sortNat (replies.map fun p => (wireDelay p.1 p.2).toNat)
    let d := ds[(ds.length - 1) / 2]?.getD 0
    let s := s.setO (O.glkLatency l) (d + s.getO (O.glkLDrv l))
    let s := s.modLink l fun k => { k with
      st := .ready, step := 0, wireD := d, statAt := s.now, echoAt := s.now, ctleAt := s.now, resid := 0, periods := 0 }
    let s := ((s.sendForce l).auxMark l).raise 0x0302 (0x3040 + l) l
    (if s.links[l].lossAct = s.lossWanted l then s else s.regSend l 0x88 (s.lossWanted l)).trainEnds

/-- What the function of a link does when it reports a fault condition (R268, R299, R339, R361), and when it is lost. -/
def linkFault (s : State) (l : Fin 40) (fault : Nat) : State :=
  if fault / 4 = 0 then s
  else if l.val < 24 then s.setLostByLink l 1 fault
  else if l.val < 31 then s.chgStopFor [Cause.link]
  else if l.val = 31 then s.chopFault 3
  else s.auxLost ⟨l.val % 8, by omega⟩
def linkGone (s : State) (l : Fin 40) : State :=
  if l.val < 24 then s.setLostByLink l 2 0
  else if l.val < 31 then s.chgStopFor [Cause.link]
  else if l.val = 31 then s.chopFault 4
  else s.auxLost ⟨l.val % 8, by omega⟩

/-- The device declares a link LOST in service (R121). -/
def linkLoss (s : State) (l : Fin 40) (cause : Nat) : State :=
  if s.linkUp l then (((s.linkLossBase l cause).drvTempGone l).linkGone l).eligLink l else s

/-- A received frame: an error is counted and the frame discarded, a code group without an upstream meaning as a code error, a frame
cut short as one that fails its CRC (R99, R101; log 127). -/
def frameOk (f : UpFrame) (code n : Nat) : Bool :=
  !f.codeError && f.crc == crc8 f.bytes && f.code.toNat == code && f.bytes.length == n
def frameErr (s : State) (l : Fin 40) (f : UpFrame) : State :=
  if f.codeError || !upCodes.contains f.code.toNat then s.orO (O.glkStatus l) 0x2000
  else if f.crc != crc8 f.bytes || f.bytes.length != upLen f.code.toNat then s.orO (O.glkStatus l) 0x4000
  else s

/-- A frame of a kind acts where it stands and the link is up, and as `h` says on a link that trains or is LOST; an OFF link hears
nothing (R101, R135). -/
def onFrame (s : State) (l : Fin 40) (f : UpFrame) (code n : Nat) (g : State → State) (h : State → State := id) : State :=
  if s.links[l].st = .off then s
  else if frameOk f code n then (if s.linkUp l then g s else h s)
  else s.frameErr l f

/-- The output stage of a link's function counts as enabled for R137: a LOST phase of the auxiliary converter does not
(R361). -/
def stage137 (s : State) (l : Fin 40) : Bool :=
  s.stageOnLink l && !(decide (32 ≤ l.val) && s.phSt ⟨l.val % 8, by omega⟩ == 5)

/-! ### Echo (R116, R117) -/

/-- `glk.plane_spread`: the spread of the last residuals over the links that count as READY now (R119, R586; log 58). -/
def planeSpread (s : State) : Nat :=
  let l := ((List.finRange 40).filter fun (l : Fin 40) => s.countsReady l).map fun l => s.links[l].resid
  match l with
  | [] => 0
  | x :: t => (t.foldl max x - t.foldl min x).toNat

/-- One echo value (R117). The D that the deadline of R121 takes is the filtered estimate less L_DRV, also after outliers, where the spec
does not say which (log 125). -/
def echoValue (s : State) (l : Fin 40) (d : Int) : State :=
  let est : Int := (s.getO (O.glkLatency l) : Nat)
  let ldrv : Int := (s.getO (O.glkLDrv l) : Nat)
  let diff := d + ldrv - est
  let s := s.modLink l fun k => { k with resid := diff }
  if diff.natAbs ≤ 8 then
    let e := est + diff.tdiv 8
    (s.setO (O.glkLatency l) e.toNat).modLink l fun k => { k with outliers := 0, wireD := e - ldrv, st := .ready }
  else
    let n := s.links[l].outliers + 1
    let s := (s.orO (O.glkStatus l) 0x1000).modLink l fun k => { k with outliers := n }
    if 8 ≤ n ∧ s.links[l].st = .ready then
      ((s.modLink l fun k => { k with st := .degraded }).eligLink l).raise 0x0303 (0x3040 + l) (ofSigned 24 diff * 256 + l)
    else s

/-- An ECHO request, once per millisecond (R116). -/
def echoSend (s : State) (l : Fin 40) : State :=
  if s.linkUp l ∧ s.links[l].echoAt + msTicks ≤ s.now then
    let id := (s.links[l].echoId + 1) % 256
    (s.sendLink l kEcho (toLe 1 id)).modLink l fun k => { k with echoId := id, echo := some id, echoAt := s.now }
  else s

/-! ### Telemetry (R131 to R133) -/

/-- The trim of a natural transition's polarity (R131). -/
def trimUpdate (s : State) (l : Fin 40) (e : Edge) (xvalid : Bool) (xdly : Nat) : State :=
  match e.natural with
  | none => s
  | some neg =>
    if s.links[l].periods < 17 ∨ s.linkState l ≠ 2 ∨ s.bitO (O.pwmAdapt l) 0 = false then s
    else
      let id := if neg then O.pwmDtTrimNeg l else O.pwmDtTrimPos l
      let p : Int := s.dtProg l
      let f : Int := s.dtLow l
      let step : Int := if xvalid && xdly < e.dt then
          clampI (((xdly : Int) + s.getO (O.pwmDtMargin (linkCg l)) - e.dt).tdiv 16) (-8) 8
        else 8
      let t := clampI (toSigned 32 (s.getO id) + step) (-1280) 1280
      let t := if p + t < f then f - p else t
      let s := s.setO id (ofSigned 32 t)
      if t = -1280 ∨ t = 1280 then
        (s.orO (O.glkStatus l) 0x800).raise 0x0304 (0x3040 + l) ((if neg then 256 else 0) + l)
      else s

/-- The strength code of an entry (R132, R133). -/
def slewUpdate (s : State) (l : Fin 40) (e : Edge) (dvdt : Nat) : State :=
  if s.bitO (O.pwmAdapt l) 1 = false ∨ 15 < e.entry then s
  else
    let tgt := s.getO (O.pwmSlewTarget l)
    let lo := bitsOf (s.getO (O.pwmDriveRange l)) 3 0
    let hi := bitsOf (s.getO (O.pwmDriveRange l)) 7 4
    let c := s.driveCode l e.entry
    let n := max lo (min hi (if 11 * tgt < 25 * dvdt then c - 1 else if 25 * dvdt < 9 * tgt then c + 1 else c))
    let run := if c = lo ∧ 15 * tgt < 25 * dvdt then (s.links[l].slewRun[e.entry]?.getD 0) + 1 else 0
    let done := s.links[l].slewDone.getLsbD e.entry
    let s := if n ≠ c ∧ done = false then
        (s.setO (O.pwmDriveTable l) (putBits (s.getO (O.pwmDriveTable l)) (8 * e.entry + 7) (8 * e.entry) n)).modLink l fun k =>
          { k with slewDone := k.slewDone ||| BitVec.ofNat 16 (2 ^ e.entry) }
      else s
    let s := s.modLink l fun k => { k with slewRun := k.slewRun.setIfInBounds e.entry (min run 16) }
    if 16 ≤ run then (s.orO (O.glkStatus l) 0x400).raise 0x0305 (0x3040 + l) (c * 256 + l) else s

/-- The deadline of an edge's telemetry in fine steps (R121). -/
def telDue (s : State) (l : Fin 40) (e : Edge) : Int := e.target + 8 * 1392 + s.links[l].wireD

/-- Telemetry to HF on channel 3, with the instant it measured (R28 to R30). -/
def telToHf (s : State) (l : Fin 40) (w at_ : Nat) (f : State → State := id) : State :=
  s.xingSend 3 fun s => f (s.modLink l fun k => { k with telHf := some (w, at_) })

/-- EDGE_TEL of an edge (R107, R121, R131, R132, R299). -/
def edgeTel (s : State) (l : Fin 40) (w : Nat) : State :=
  match s.links[l].edges.find? fun (e : Edge) => e.meas && e.seq == bitsOf w 31 28 with
  | none => s
  | some e =>
    if s.telDue l e < 8 * (s.now : Int) then s
    else
      let xv := bitOf w 13
      let s := s.modLink l fun k => { k with
        telMiss := 0, edges := k.edges.map fun (x : Edge) => if x = e then { x with meas := false } else x }
      let s := s.trimUpdate l e xv (bitsOf w 27 16)
      let s := if xv ∧ bitsOf w 11 4 ≠ 0 then s.slewUpdate l e (bitsOf w 11 4) else s
      let s := s.telToHf l w ((e.target + bitsOf w 27 16) / 8)
      if l.val = 31 ∧ e.sw = 1 ∧ xv = false then s.chopFault 2 else s

/-- The oldest telemetry has missed its deadline; the third in a row loses the link (R121). -/
def edgeTelMissed (s : State) (l : Fin 40) : State :=
  match s.links[l].edges.find? fun (e : Edge) => e.meas with
  | none => s
  | some e =>
    if s.linkUp l = false ∨ 8 * (s.now : Int) ≤ s.telDue l e then s
    else
      let s := s.modLink l fun k => { k with
        telMiss := k.telMiss + 1, edges := k.edges.map fun (x : Edge) => if x = e then { x with meas := false } else x }
      if s.links[l].telMiss = 3 then s.linkLoss l 6 else s

/-! ### Status -/

/-- A STAT word (R109, R110, R268, R433). -/
def stat (s : State) (l : Fin 40) (w : Nat) : State :=
  let fault := bitsOf w 15 8
  let temp : Rat := ((bitsOf w 31 24 : Nat) : Rat) - 50
  let s := s.modLink l fun k => { k with mode := bitsOf w 5 4, sw := bitsOf w 7 6, fault, temp := bitsOf w 31 24, statAt := s.now }
  let s := s.telToHf l w s.now fun s => s.setQ (O.thmT (16 + l)) temp
  let s := if fault % 4 ≠ 0 then s.orO (O.glkStatus l) 0x200 else s
  ((if fault = 0 then s else s.auxMark l).linkFault l fault).eligLink l

/-- A STAT on a link that trains or is LOST: what the driver says of itself and of errors seen is kept (R111, R135, R586). -/
def statSeen (s : State) (l : Fin 40) (w : Nat) : State :=
  let s := (s.modLink l fun k => { k with mode := bitsOf w 5 4, sw := bitsOf w 7 6, fault := bitsOf w 15 8 }).eligLink l
  if bitsOf w 9 8 ≠ 0 then s.orO (O.glkStatus l) 0x200 else s

/-- An ALARM: the leg counts as 00 where the driver has latched it (R110, R111). -/
def alarm (s : State) (l : Fin 40) (fault : Nat) : State :=
  let s := (s.orO (O.glkStatus l) 0x8000).raise 0x0301 (0x3040 + l) (fault * 256 + l)
  let s := (s.modLink l fun k => { k with fault }).auxMark l
  let s := if 64 ≤ fault then (s.cancelEdges l).modLink l fun k => { k with mode := 3, sw := 0, legSw := 0, legAt := 8 * s.now } else s
  (s.linkFault l fault).eligLink l

/-! ### Registers (R112) -/

/-- The next queued request goes out. -/
def regNext (s : State) (l : Fin 40) : State :=
  match s.links[l].regQueue with
  | [] => s
  | (a, d) :: t => (s.modLink l fun k => { k with regQueue := t }).regSend l a d

/-- A REG reply (R112, R122). -/
def regReply (s : State) (l : Fin 40) (addr data : Nat) : State :=
  match s.links[l].reg with
  | some r =>
    if r.addr ≠ addr then s
    else (s.modLink l fun k => { k with reg := none, lossAct := if addr % 128 = 8 then data else k.lossAct }).regNext l
  | none => s

/-- A REG reply is missing (R112, R121). -/
def regMissed (s : State) (l : Fin 40) : State :=
  match s.links[l].reg with
  | some r =>
    if s.linkUp l = false ∨ s.now < r.sentAt + 2 * usTicks then s
    else if r.tries < 3 then
      (s.modLink l fun k => { k with reg := some { r with sentAt := s.slotAt l + 50, tries := r.tries + 1 } }).sendLink l kReg
        (regBytes r.addr r.data)
    else s.linkLoss l 7
  | none => s

/-! ### FORCE and RELEASE (R123) -/

/-- A link's RELEASE is due while SC still forces it: SC returns it to HOLD now (R44, R123, R280; log 172). -/
def releaseDue (s : State) (l : Fin 40) : Bool :=
  s.links[l].planning && s.links[l].release == 3 && decide (s.links[l].relAt ≤ s.now) && s.scAct l != .hold
def releaseSc (s : State) : State := if (List.finRange 40).any fun l => s.releaseDue l then s.applySc else s

/-- What a link sends 1 µs after its last FORCE or RELEASE, in a free slot. -/
def forceAgain (s : State) (l : Fin 40) : State :=
  let k := s.links[l]
  if s.lineUp l = false ∨ s.now < k.forceAt + usTicks then s
  else if k.planning && decide (k.relAt ≤ s.now) && s.scAct l == .hold then
    (if k.release = 0 then s
     else (s.sendLink l kForce [0]).modLink l fun k => { k with release := k.release - 1, forceAt := s.now })
  else s.forceAtB l (s.slotAt l)

end State

end Sys2Proof.Machine
end

