-- ==== Sys2Proof/Machine/BstOps.lean ====
section
/-! DEFINITION. The shared operations of the self-test scheduler (chapter "Self-test and on-chip memories"): instances and
their conditions (R444, R446 to R450), start, end and abort. -/

namespace Sys2Proof.Machine

/-- The instances of a slice (R444). -/
def sliceCount (sl : Nat) : Nat := ([12, 12, 19, 1, 2] : List Nat).getD sl 0

/-- The bit of `bst.failed` of an instance (R456). -/
def failBit (sl i : Nat) : Nat := ([0, 12, 24, 43, 44] : List Nat).getD sl 0 + i

/-- The converter that an instance of CORE or FRONT names. -/
def bstConv (i : Nat) : Fin 12 := ⟨i % 12, Nat.mod_lt _ (by decide)⟩

namespace State

def modBst (s : State) (f : Bst → Bst) : State := { s with bst := f s.bst }

/-- FRONT runs in gap mode on a converter whose sequence holds no HOLD entry (R446). -/
def frontGap (s : State) (k : Fin 12) : Bool :=
  (List.range (s.getO (O.adcSeqLen k))).all fun e => !bitOf (s.getO (O.adcResEntry (32 * k.val + e))) 31

/-- The instance runs in gap mode (R444, R446). -/
def bstGap (s : State) (sl i : Nat) : Bool := sl == 0 || (sl == 1 && s.frontGap (bstConv i))

/-- FRONT cannot be covered, and runs while the pair's function is stopped: P4 and ADC10 (R448). -/
def frontStopped (s : State) (k : Fin 12) : Option Bool :=
  if k.val / 2 = 4 then some (s.getO O.chgState == 0 || s.getO O.chgState == 6)
  else if k.val = 10 then some (s.getO O.auxState == 0 || s.getO O.auxState == 5 || s.getO O.auxState == 6)
  else none

/-- A calibration of the pair is under way or deferred (R450). -/
def bstCal (s : State) (k : Fin 12) : Bool := s.adcSt k == 4 || s.adc.pair[pairOf k].cal.isSome

/-- The PWM of a motor channel is in an on interval now (R367, R447). -/
def amcOn (s : State) (k : Fin 6) : Bool := (List.finRange 3).any fun p => (s.amcLevels k p).1

/-- The condition of a CMP instance (R447). -/
def cmpRuns (s : State) (i : Nat) : Bool :=
  if i = 0 then decide (s.dcl.vLink < s.getQ O.dclOvaRelease) && !s.bitO O.dclFlags 16
  else if i = 1 then
    s.getO O.auxState == 0 || s.getO O.auxState == 4 || s.getO O.auxState == 5 || s.getO O.auxState == 6 ||
      (s.getO O.auxState == 3 && !s.aux.packet)
  else if i < 10 then
    let ph := bitsOf (s.getO O.auxPhaseState) (4 * (i - 2) + 3) (4 * (i - 2))
    ph == 0 || ph == 3 || ph == 5 || s.links[(⟨(30 + i) % 40, Nat.mod_lt _ (by decide)⟩ : Fin 40)].legSw == 1
  else if i < 16 then !s.amcOn ⟨(i - 10) % 6, Nat.mod_lt _ (by decide)⟩
  else if i < 18 then s.getO O.rpkState != 4
  else !s.bitO O.chgFlags 16

/-- Self-test may run an instance now (R235, R447, R448, R450; log 65, log 66). -/
def bstRuns (s : State) (sl i : Nat) : Bool :=
  if sl = 0 then !s.bstCal (bstConv i)
  else if sl = 1 then
    !s.bstCal (bstConv i) && (s.frontGap (bstConv i) || s.adcSt (bstConv i) == 5 ||
      (match s.frontStopped (bstConv i) with
       | some b => b
       | none => !s.offlineRefused (bstConv i)))
  else if sl = 2 then s.cmpRuns i
  else if sl = 3 then true
  else s.getO O.ptgState == 1 && !(s.ptg.cfg[2] == 0 && (List.finRange 4).any fun (m : Fin 4) => s.trxSt m == 3)

/-- EV_BST_RESULT with an outcome (R449, R458). -/
def bstTell (s : State) (outcome sl i : Nat) : State :=
  let v := outcome * 2 ^ 24 + sl * 256 + i
  (s.setO O.bstLast v).raise 0x0810 0x7800 v

/-- The converters an instance takes OFFLINE (R448). -/
def bstConvs (i : Nat) : List (Fin 12) := if i = 8 ∨ i = 9 then [8, 9] else [bstConv i]

/-- A converter is taken OFFLINE: covered, after its pass, or at once without cover (R237, R448, R449). -/
def bstOffline (s : State) (i : Nat) : State :=
  if (s.frontStopped (bstConv i)).isSome ∨ s.offlineRefused (bstConv i) then
    (bstConvs i).foldl (fun (s : State) (k : Fin 12) =>
      if s.adcSt k = 5 then s else s.adcOffline k) s
  else if s.adcSt (bstConv i) = 5 then s
  else (s.modConv (bstConv i) fun a => { a with offReq := true, backReq := false }).coverTry (bstConv i)

/-- A converter is returned to service: at its next trigger where it is covered, else at once (R237, R448). -/
def bstReturn (s : State) (i : Nat) : State :=
  (bstConvs i).foldl (fun (s : State) (k : Fin 12) =>
    if s.adcSt k ≠ 5 then s.modConv k fun a => { a with offReq := false }
    else if s.bitO (O.adcStatus (partner k)) 11 then s.modConv k fun a => { a with offReq := false, backReq := true }
    else ((s.modConv k fun a => { a with offReq := false }).setAdcSt k 0).adcRest k s.cvNext) s

/-- An instance begins, in its turn of the cycle or by BST_RUN outside it (R443, R446, R448, R457). -/
def bstBegin (s : State) (sl i : Nat) (byCmd : Bool) : State :=
  let s := (s.modBst fun b => { b with
    run := some (sl, i), second := false, byCmd, todo := if byCmd then b.todo else b.todo.erase (sl, i) }).setO O.bstState 1
  if sl = 4 then s.modPtg fun p => { p with splitReq := some i, image := false }
  else if sl = 1 ∧ s.frontGap (bstConv i) = false then s.bstOffline i
  else s

/-- The next instance of the cycle that may run begins, after the pause of R438 (R443; log 65). -/
def bstNext (s : State) : State :=
  if s.bst.run.isSome ∨ s.getO O.bstState = 2 ∨ (s.throttled = true ∧ s.now < s.thm.pause[0]) then s
  else match s.bst.todo.find? fun (p : Nat × Nat) => s.bstRuns p.1 p.2 with
    | some p => s.bstBegin p.1 p.2 false
    | none => s

/-- The instance that runs has ended; the pause of R438 for commands and firmware jobs begins. -/
def bstEnd (s : State) : State :=
  ((s.modBst fun b => { b with run := none, second := false, byCmd := false }).setO O.bstState (if 2 ≤ s.getO O.pwrState then 2 else 0)).pauseFrom 0
    (s.getO O.thmPauseCmd * usTicks)

/-- HOOK: the power state has changed: the scheduler is suspended in DOZE and below, and resumes at the interrupted instance (R450). -/
def bstPower (s : State) : State :=
  s.setO O.bstState (if 2 ≤ s.getO O.pwrState then 2 else if s.bst.run.isSome then 1 else 0)

/-- A running slice is aborted with outcome 2; an OFFLINE converter is re-initialised (R450). -/
def bstAbort (s : State) : State :=
  match s.bst.run with
  | none => s
  | some (sl, i) =>
    let s := s.bstTell 2 sl i
    let s := if sl = 1 ∧ s.frontGap (bstConv i) = false then s.bstReturn i else s
    let s := if s.bst.byCmd then s.endAll (fun (p : Held) => p.code == 0x0810) St.fault else s
    (s.when (sl == 4) fun s => s.modPtg fun p => { p with splitReq := none }).bstEnd

/-- An offline or split slice runs (R450, R543). -/
def bstHolds (s : State) : Bool :=
  match s.bst.run with
  | some (sl, i) => sl == 4 || (sl == 1 && !s.frontGap (bstConv i))
  | none => false

/-- Twice the median of some values: the sum of the two in the middle, or twice the one there; none of no values. -/
def median2 (l : List Int) : Option Int :=
  let l := l.foldr (fun x (a : List Int) => (a.takeWhile (· < x)) ++ x :: a.dropWhile (· < x)) []
  match l[(l.length - 1) / 2]?, l[l.length / 2]? with
  | some a, some b => some (a + b)
  | _, _ => none

/-- A sensor agrees within 10 K with the median of the other valid ones, or there is none (R444). A sensor that failed before is judged
on its reading, against those that are valid (log 199). -/
def sensorAgrees (s : State) (n : Fin 16) : Bool :=
  match median2 (((List.finRange 16).filter fun m => m != n && s.thm.sensors[m].valid).map fun m => s.thm.sensors[m].tenths) with
  | some d => decide ((2 * s.thm.sensors[n].tenths - d).natAbs ≤ 200)
  | none => true

/-- The sensors that TSENS finds outside the median band (R444, R449). -/
def tsensBad (s : State) : BitVec 16 :=
  (List.finRange 16).foldl (fun (a : BitVec 16) n => if s.thm.sensors[n].read && !s.sensorAgrees n then a ||| (1#16 <<< n.val) else a) 0

/-- TSENS has judged every sensor: those outside the band are not valid (R444, R449). -/
def tsensTake (s : State) : State :=
  let bad := s.tsensBad
  (s.modBst fun b => { b with suspect := bad }).modThm fun t =>
    { t with sensors := Vector.ofFn fun n : Fin 16 =>
        let x : Sensor := t.sensors[n]
        { x with valid := x.read && !bad.getLsbD n } }

/-- What a second failure of an instance does (R449). -/
def bstFail (s : State) (sl i : Nat) : State :=
  if sl ≤ 1 then s.bstOffline i
  else if sl = 3 then s.tsensTake
  else if sl = 4 then s.modPtg fun p => { p with joinOk := false }
  else s

/-- What a pass of an instance does: it returns its converter, and a failed block returns on a BST_RUN (R444, R448, R449). -/
def bstPass (s : State) (sl i : Nat) (byCmd : Bool) : State :=
  let failed := s.bitO O.bstFailed (failBit sl i)
  let s := s.when (sl == 3) fun s => s.tsensTake
  if byCmd then
    (if sl ≤ 1 ∧ (failed = true ∨ (sl = 1 ∧ s.frontGap (bstConv i) = false)) then s.bstReturn i else s).clrO O.bstFailed
      (2 ^ failBit sl i)
  else if sl = 1 ∧ failed = false ∧ s.frontGap (bstConv i) = false then s.bstReturn i
  else s

/-- The end of an instance of SCCORE lets the copy join again (R428, R444). -/
def bstJoin (s : State) (sl : Nat) : State :=
  if sl = 4 ∧ s.getO O.ptgState = 2 then s.modPtg fun p => { p with joinReq := true, joinCmd := false } else s

end State

end Sys2Proof.Machine
end

