-- ==== Sys2Proof/Machine/UpdOps.lean ====
section
/-! DEFINITION. The shared operations of firmware update (chapter "Firmware update in service"): images (R511), the checks
of R514, interface levels (R515, R516), trial and its end (R518 to R525). -/

namespace Sys2Proof.Machine

/-- The size of an island's slot in bytes (R509). -/
def slotSize (i : Nat) : Nat := ([512, 384, 1024, 512, 3072, 1024] : List Nat).getD i 0 * 1024

/-- The manifest at the start of a slot (R511). -/
def Img.parse (m : Mem) : Img :=
  let n (off k : Nat) : Nat := leNat (m.readN off k)
  { il := n 4 1, minIl := n 5 1, major := n 6 1, minor := n 7 1, patch := n 8 1, secVer := n 10 2, digest := m.readN 16 32 }

/-- The 8 bytes of `upd.iN.running` and `upd.iN.spare` (R526). -/
def Img.word (m : Img) (bank : Nat) : Nat :=
  m.il + m.minIl * 2 ^ 8 + m.major * 2 ^ 16 + m.minor * 2 ^ 24 + m.patch * 2 ^ 32 + bank * 2 ^ 40 + m.secVer * 2 ^ 48

/-- The spare slot's image, where it holds one. -/
def UpdIsl.spareImg (u : UpdIsl) : Option Img :=
  match u.prev with
  | some p => some p
  | none => if u.spare = [] then none else some (Img.parse u.spare)

/-- Two images work together (R515). -/
def Img.fits (a b : Img) : Bool := decide (b.minIl ≤ a.il) && decide (a.minIl ≤ b.il)

namespace State

def modUpd (s : State) (i : Fin 6) (f : UpdIsl → UpdIsl) : State := { s with upd := s.upd.set i (f s.upd[i]) }

/-- The first other running island with which an image does not fit (R514, R515). -/
def ilClash (s : State) (i : Fin 6) (m : Img) (on : Fin 6 → Bool := fun _ => true) : Option (Fin 6) :=
  (List.finRange 6).find? fun (j : Fin 6) => j != i && on j && !m.fits s.upd[j].running

/-- The objects of an island, and the lowest running level, written from its slots (R516, R526). -/
def updShow (s : State) (i : Fin 6) : State :=
  let u := s.upd[i]
  let trial := s.getO (O.updState i) == 4
  let s := s.setO (O.updRunning i) (u.running.word (if trial then 1 - u.bank else u.bank))
  let s := s.setO (O.updSpare i) (match u.spareImg with
    | some m => m.word (1 - u.bank)
    | none => 0xFF * 2 ^ 40)
  s.setO O.updIl (s.upd.toList.foldl (fun a (u : UpdIsl) => min a u.running.il) 255)

/-- EV_UPD, once per cause per island (R527). -/
def updEvent (s : State) (cause : Nat) (i : Fin 6) : State := s.raise 0x0A10 0x1C00 (cause * 256 + i) (cause * 8 + i)

/-- An image's signature over its manifest, and its digest over its code (R511, R514). -/
def spareSigned (m : Mem) : Bool := Config.xmssVerify Config.kijorvoKey (m.readN 0 64) (m.readN 64 2820)
def spareWhole (m : Mem) : Bool :=
  decide (Config.shake256 (m.readN 2884 (leNat (m.readN 12 4))) 32 = (Img.parse m).digest)

/-- Checks 2 to 6 of UPD_VERIFY on the spare slot (R514). -/
def spareCheck (s : State) (i : Fin 6) (on : Fin 6 → Bool := fun _ => true) : Option Reply :=
  let u := s.upd[i]
  let m := u.spare
  let len := leNat (m.readN 12 4)
  let img := Img.parse m
  let late : Option Reply :=
    if img.secVer < s.getO (O.updSecFloor i) then some (.err St.refused 0x01B5)
    else match s.ilClash i img on with
      | some j => some (.err St.refused 0x01B6 j)
      | none => none
  match u.prev with
  | some p =>
    (if p.secVer < s.getO (O.updSecFloor i) then some (.err St.refused 0x01B5)
     else match s.ilClash i p on with
       | some j => some (.err St.refused 0x01B6 j)
       | none => none)
  | none =>
    if leNat (m.readN 0 2) ≠ 0x7E79 ∨ leNat (m.readN 2 1) ≠ 1 ∨ leNat (m.readN 3 1) ≠ i.val ∨ s.getO (O.updReceived i) ≠ len + 2884 then
      some (.err St.fault 0x01B2)
    else if spareSigned m = false then some (.err St.fault 0x01B3)
    else if spareWhole m = false then some (.err St.fault 0x01B4)
    else late

/-- The digest of the image that a split loads into SC's banks matches (R521): the spare when STAGED, the committed slot in
TRIAL. -/
def scImageOk (s : State) : Bool :=
  let u := s.upd[(1 : Fin 6)]
  if s.getO (O.updState 1) = 4 then true
  else match u.prev with
    | some _ => true
    | none => spareWhole u.spare

/-- The island runs its spare on trial (R518). -/
def trialBegin (s : State) (i : Fin 6) : State :=
  let s := (s.modUpd i fun u => { u with running := u.spareImg.getD u.running, rollback := false }).setO (O.updState i) 4
  ((s.setO O.updBusy i).updShow i).updEvent 4 i

/-- The trial island is back on its committed slot, the spare STAGED: cause 6 by command, 7 by a restart (R523, R524). -/
def trialBack (s : State) (i : Fin 6) (cause : Nat) : State :=
  let s := (s.modUpd i fun u => { u with running := u.committed, rollback := false }).setO (O.updState i) 2
  ((s.setO O.updBusy 0xFF).updShow i).updEvent cause i

/-- SC has joined with the image that the split loaded (R521). -/
def scImageJoined (s : State) : State :=
  if s.ptg.image = false then s
  else
    let s : State := { s with ptg := { s.ptg with image := false } }
    if s.getO (O.updState 1) = 2 then s.trialBegin 1
    else if s.getO (O.updState 1) = 4 then s.trialBack 1 6
    else s

/-- An island restarts from flash (R524, R525): a trial ends; where its committed slot fails, the spare is tried against the
islands already started. `bad` tells whether the image of the committed (false) or the spare (true) slot fails its signature or
digest; `on` gives the islands that run. -/
def bootImage (s : State) (i : Fin 6) (on : Fin 6 → Bool) (bad : Bool → Bool) : State :=
  let st := s.getO (O.updState i)
  let s := if st = 4 then s.trialBack i 7
    else if st = 3 then ((s.setO (O.updState i) 2).setO O.updBusy 0xFF).modUpd i fun u => { u with running := u.committed, rollback := false }
    else s
  if bad false = false then (s.modUpd i fun u => { u with running := u.committed }).updShow i
  else if bad true = false ∧ (s.upd[i].spareImg).isSome ∧ (s.spareCheck i on).isNone then
    let s := s.modUpd i fun u => { u with
      committed := u.spareImg.getD u.committed, running := u.spareImg.getD u.committed, bank := 1 - u.bank, spare := [], prev := none }
    (((s.setO (O.updState i) 5).setO (O.updReceived i) 0).updShow i).updEvent 8 i
  else
    let s : State := { s with pwr := { s.pwr with failed := s.pwr.failed ||| (1#6 <<< i.val) } }
    s.keyEvent i 1

/-- After a loss of VSTBY each spare's state is derived again from flash: STAGED when its image verifies, which a predecessor
already has. The bytes received of a verified image are those that check 2 of R514 asks for (R525; log 203). -/
def spareDerive (s : State) (i : Fin 6) : State :=
  let u := s.upd[i]
  let m := u.spare
  let fresh := u.prev.isNone && m != [] && leNat (m.readN 0 2) == 0x7E79 && leNat (m.readN 2 1) == 1 && leNat (m.readN 3 1) == i.val &&
    spareSigned m && spareWhole m
  let s := s.when fresh fun s => s.setO (O.updReceived i) (leNat (m.readN 12 4) + 2884)
  ((s.setO (O.updState i) (if u.prev.isSome || fresh then 2 else 0)).modUpd i fun u => { u with op := none, rollback := false }).updShow i

end State

end Sys2Proof.Machine
end

