-- ==== Sys2Proof/Machine/PtgOps.lean ====
section
/-! DEFINITION. The shared operations of the Pointing pair (chapter "Pointing: redundant execution"): the pins (R425), the
fault (R422), what each copy computes at a checkpoint (R413 to R416) and its signature (R417). -/

namespace Sys2Proof.Machine

/-- The copies of SC (R410). -/
inductive Copy where
  | a | b
  deriving DecidableEq, Repr

namespace State

/-- One copy, and one copy changed. -/
def copy (s : State) : Copy → PtgCopy
  | .a => s.ptg.a
  | .b => s.ptg.b
def modCopy (s : State) (c : Copy) (f : PtgCopy → PtgCopy) : State :=
  s.modPtg fun p => match c with
    | .a => { p with a := f p.a }
    | .b => { p with b := f p.b }

/-- The copy does not run: the pair is split and it has left (R427). -/
def copyAway (s : State) : Copy → Bool
  | .a => s.splitCopy == some 0
  | .b => s.splitCopy == some 1

/-- Both SAFE pins at a level: safe, or permit (R425). -/
def setPins (s : State) (safe : Bool) : State :=
  (s.modCopy .a fun c => { c with safe }).modCopy .b fun c => { c with safe }

/-- The pins at the end of a matching window: permit, unless a fault or a trip is latched or the crystal is lost; never in BOOT (R423 to
R425, R439). -/
def pinsUp (s : State) : State := if s.getO O.ptgState == 0 || s.ptgLatched || s.clk.lossActive || s.tripLatched then s else s.setPins false

/-- FAULT_N is asserted (R554): SC in reset or BOOT, Pointing fault, crystal loss, thermal trip, self-test and memory
faults. -/
def faultN (s : State) : Bool :=
  s.getO O.ptgState == 0 || s.ptgLatched || s.clk.lossActive || s.tripLatched || s.bitO O.bstFailed 24 ||
    s.bitO (O.memStatus 0) 4

/-- A Pointing fault with its cause: 1 MISMATCH, 2 MISS, 3 JOIN (R422). -/
def ptgFault (s : State) (cause : Nat) : State :=
  if s.ptgLatched then s
  else
    let s := ((s.bstAbort.setO O.ptgFaultCause cause).setO O.ptgState 4).setPins true
    let s := (s.orO O.ptgFlags 2).modPwr fun p => { p with record := some (0x14, cause) }
    let s := (s.modPtg fun p => { p with splitReq := none, image := false, joinReq := false }).setO O.ptgSplitCopy 0xFF
    let s := (s.endAll (fun p => p.code == 0x0801) St.fault).endAll (fun p => p.code == 0x0802) St.fault
    ((s.safeSwitching 0x30).chgStopFor [Cause.overSafe]).applySc.raise 0x0801 0x7400 cause

/-! ### The functions of a checkpoint -/

/-- Function 0: the trip of a machine, 0 for none (R159, R414). -/
def tripOf (s : State) (w : SafeWord) (m : Fin 4) : Nat :=
  let n := w.speed[m]
  let t := w.out[m]
  let creep := 2 * s.getQ (O.trxDirCreep m)
  let dir := s.getO (O.trxDirAllow m)
  if s.getO (O.trxType m) = 0 ∨ w.speedOk[m] = false then 0
  else if s.getQ (O.trxSpeedTrip m) < absQ n then 0x01
  else if (dir.testBit 0 = false ∧ creep < n ∧ 0 < t) ∨ (dir.testBit 1 = false ∧ n < -creep ∧ t < 0) then 0x21
  else 0

/-- Function 2: the torque of an ENABLED machine is implausible at this checkpoint (R415). -/
def torqueOff (s : State) (w : SafeWord) (m : Fin 4) : Bool :=
  w.st[m] == 3 && decide ((s.ptg.cfg[3] : Rat) / 1000 * maxQ w.envPos[m] w.envNeg[m] < absQ (w.est[m] - w.out[m]))

/-- The checkpoint instant of now, and whether now is one within the bound of the copies' followers (R26, R410). -/
def checkInstant (s : State) : Nat := (s.now + 16) / 12500 * 12500
def atCheckpoint (s : State) : Bool := decide ((s.now + 16) % 12500 ≤ 32)

/-- What a copy finds in its channel at a checkpoint: the words that wait, and the newest one whose stamp is at least the guard
before the instant (R411). -/
def wordsWaiting (s : State) (l : List SafeWord) : List SafeWord := l.filter fun w => decide (s.checkInstant < w.stamp + s.ptg.cfg[0])
def wordChosen (s : State) (l : List SafeWord) : Option SafeWord := l.find? fun w => decide (w.stamp + s.ptg.cfg[0] ≤ s.checkInstant)

/-- CT or CV restarts on another image: the checkpoints use the stopped state (R519). -/
def ctAway (s : State) : Bool := s.getO (O.updState 2) == 3 || s.getO (O.updState 3) == 3

/-- The word that a copy uses at a checkpoint: none where it has none, or only one older than two checkpoints (R411, R413, R519). -/
def wordFor (s : State) (c : Copy) : Option SafeWord :=
  match s.wordChosen (s.copy c).words with
  | some w => if s.ctAway || decide (s.checkInstant ≤ w.stamp + 25000) then some w else none
  | none => if s.ctAway then some s.safeWord else none

/-- Both channels are read up to the checkpoint (R411). -/
def readWords (s : State) : State :=
  let keep (c : PtgCopy) : PtgCopy := { c with words := s.wordsWaiting c.words ++ (s.wordChosen c.words).toList }
  s.modPtg fun p => { p with a := keep p.a, b := keep p.b }

/-- One copy's functions 0 to 2 and 4, on its checkpoint word (R411, R413). -/
def copyRun (s : State) (c : Copy) (w : SafeWord) : State :=
  let s := (List.finRange 4).foldl (fun (s : State) m => s.modTrx m fun t => match c with
    | .a => { t with ruleA := s.ruleNext m w.speed[m] w.speedOk[m] t.ruleA }
    | .b => { t with ruleB := s.ruleNext m w.speed[m] w.speedOk[m] t.ruleB }) s
  let loop := match c with
    | .a => s.dcl.hvilOpen[0]
    | .b => s.dcl.hvilOpen[1]
  s.modCopy c fun x => { x with
    missRun := 0
    tq := Vector.ofFn fun m : Fin 4 => if s.torqueOff w m then x.tq[m] + 1 else 0
    trip := Vector.ofFn fun m : Fin 4 =>
      if s.tripOf w m ≠ 0 then s.tripOf w m
      else if s.torqueOff w m ∧ s.ptg.cfg[4] * 64 ≤ x.tq[m] + 1 then 0x20 else 0
    close := !loop }

/-- The 2 bits of an action in a declared output. -/
def actByte : Force → Nat
  | .hold => 0
  | .off => 1
  | .ascLow => 2
  | .ascHigh => 3

/-- The per-checkpoint outputs of a copy, each function's padded to 4 bytes (R413, R417; log 61). -/
def copyOuts (s : State) (c : Copy) : List Byte :=
  let x := s.copy c
  let v := match c with
    | .a => s.forceA
    | .b => s.forceB
  let rule (m : Fin 4) : Nat := if (match c with
    | .a => s.trx[m].ruleA
    | .b => s.trx[m].ruleB) then 1 else 0
  let acts := v.toList.foldr (fun f a => 4 * a + actByte f) 0
  ((List.finRange 4).map fun m => BitVec.ofNat 8 (if x.trip[m] = 0x20 then 0 else x.trip[m])) ++
    ((List.finRange 4).map fun m => BitVec.ofNat 8 (rule m)) ++
    ((List.finRange 4).map fun m => BitVec.ofNat 8 (if x.trip[m] = 0x20 then 1 else 0)) ++ toLe 12 acts ++
    toLe 4 ((if x.close then 0 else 1) + (if x.close then 256 else 0)) ++ toLe 4 (if x.safe then 0 else 1)

/-- A copy folds a checkpoint into its signature: its outputs, or the marker of a miss (R417). `upset` is what differs
inside the copy. -/
def copyFold (s : State) (c : Copy) (upset : BitVec 64) : State :=
  let k := s.ptg.index
  let loop := match c with
    | .a => s.dcl.hvilOpen[0]
    | .b => s.dcl.hvilOpen[1]
  let body := if (s.copy c).missed then toLe 4 0x4D495353
    else s.copyOuts c ++ (if k = 63 then toLe 4 (if loop then 1 else 0) else [])
  s.modCopy c fun x => { x with sig := ((toLe 1 k ++ body).foldl crc64Byte x.sig) ^^^ upset, missed := false }

/-- HVIL_DRV at the boundary between two bits, half a window from their centres: the next bit of 0xB4, most significant first; low
while HVIL is not checked (R293). -/
def hvilDrive (s : State) : State :=
  s.modDcl fun d =>
    if s.getO O.dclHvilEnable = 0 then { d with hvilPos := 7, hvilDrv := false }
    else
      let n := (d.hvilPos + 1) % 8
      { d with hvilPos := n, hvilDrv := (0xB4 : Nat).testBit (7 - n) }

/-- The level of HVIL_SNS that a copy samples at checkpoint 0 against the bit sent: the loop counts as open from a differing bit until
16 matching ones in a row, and the debounced state follows (R293, R294, R420; log 195). -/
def hvilSample (s : State) (i : Fin 2) (level : Bool) : State :=
  if s.getO O.dclHvilEnable = 0 then
    s.modDcl fun d => { d with hvilOpenRun := d.hvilOpenRun.set i 0, hvilOkRun := d.hvilOkRun.set i 0, hvilOpen := d.hvilOpen.set i false }
  else
    s.modDcl fun d =>
      let same := level == d.hvilDrv
      let ok := if same then min (d.hvilOkRun[i] + 1) 16 else 0
      let bad := if ok = 16 ∨ (same = true ∧ d.hvilOpenRun[i] = 0) then 0 else d.hvilOpenRun[i] + 1
      { d with
        hvilOpenRun := d.hvilOpenRun.set i (min bad 1000), hvilOkRun := d.hvilOkRun.set i ok,
        hvilOpen := d.hvilOpen.set i (if s.getO O.dclHvilDebounce ≤ bad then true else if ok = 16 then false else d.hvilOpen[i]) }

/-- What the trips and the implausible torque of the copies that run do to a machine, and how SAFE by them ends (R159, R414, R415, R427;
log 60). -/
def tripActs (s : State) (m : Fin 4) : State :=
  let st := s.trxSt m
  let f := s.getO (O.trxFault m)
  let ta := if s.copyAway .a then 0 else s.ptg.a.trip[m]
  let t := if ta ≠ 0 ∨ s.copyAway .b then ta else s.ptg.b.trip[m]
  let n := s.trx[m].speed
  if st = 5 ∧ s.trx[m].overSafe = true then s
  else if st = 5 then
    (if f = 0x20 then s.trxSet m 6
     else if (f = 0x01 ∨ f = 0x21) ∧ s.trx[m].speedOk ∧
         absQ n < s.getQ (if n < 0 then O.trxSpeedMaxRev m else O.trxSpeedMaxFwd m) then s.trxSet m 6
     else s)
  else if t ≠ 0 then s.trxFail m 5 t
  else if s.trx[m].ascHold ∧ (s.trx[m].ruleA = false ∨ s.copyAway .a) ∧ (s.trx[m].ruleB = false ∨ s.copyAway .b) then s.modTrx m fun x => { x with ascHold := false }
  else s

/-! ### The window boundary (R426 to R428, R430) -/

/-- A requested split takes effect (R426). -/
def splitBegin (s : State) (k : Nat) : State :=
  let s := ((s.setO O.ptgState 2).setO O.ptgSplitCopy k).modPtg fun p => { p with
    splitReq := none, splitAt := s.now, joinReq := false, joinOk := !p.image || s.scImageOk, ended := none, lastBad := false }
  (s.raise 0x0802 0x7400 (256 + k)).endAll (fun p => p.code == 0x0801) St.ok

/-- A join begins, or fails because the leaving copy is not ready (R428). -/
def joinBegin (s : State) : State :=
  let k := s.getO O.ptgSplitCopy
  let s := (s.underWay fun p => p.code == 0x0802).modPtg fun p => { p with joinReq := false, joinCmd := false, joinWin := 0 }
  if s.ptg.joinOk then s.setO O.ptgState 3
  else ((s.orO O.ptgFlags 8).raise 0x0802 0x7400 (3 * 256 + k)).ptgFault 3

/-- The state of the remaining copy copied to the leaving one (R428). -/
def joinCopy (s : State) : State :=
  let toA := s.getO O.ptgSplitCopy == 0
  let put {α : Type} (v : Vector α 2) : Vector α 2 := if toA then v.set 0 v[1] else v.set 1 v[0]
  let s := s.modDcl fun d => { d with hvilOpenRun := put d.hvilOpenRun, hvilOkRun := put d.hvilOkRun, hvilOpen := put d.hvilOpen }
  let s : State := { s with trx := s.trx.map fun (t : Trx) => if toA then { t with ruleA := t.ruleB } else { t with ruleB := t.ruleA } }
  s.modPtg fun p => if toA then { p with a := { p.b with missed := false } } else { p with b := { p.a with missed := false } }

/-- A window begins (R430). -/
def windowBegin (s : State) : State :=
  let s := s.modPtg fun p => { p with
    cfg := #v[s.getO O.ptgGuard, s.getO O.ptgSplitMax, s.getO O.ptgSplitLive, s.getO O.ptgTqTol, s.getO O.ptgTqTime] }
  match s.getO O.ptgState, s.ptg.splitReq with
  | 1, some k => s.splitBegin k
  | 2, _ => if s.ptg.joinReq then s.joinBegin else s
  | 3, _ => (if s.ptg.joinWin = 0 then s.joinCopy else s).modPtg fun p => { p with joinWin := p.joinWin + 1 }
  | _, _ => s

/-- Whether the signatures of the window that ends are compared (R424, R427, R428). -/
def windowCounts (s : State) : Bool :=
  let st := s.getO O.ptgState
  st != 2 && (st != 3 || decide (2 ≤ s.ptg.joinWin))

/-- A window ends: its signatures go to the comparator (R417). -/
def windowEnd (s : State) : State :=
  let fin (c : PtgCopy) : BitVec 64 := c.sig ^^^ BitVec.allOnes 64
  let e := if s.windowCounts then some (fin s.ptg.a, fin s.ptg.b) else none
  ((s.modPtg fun p => { p with ended := e }).modCopy .a fun c => { c with sig := BitVec.allOnes 64 }).modCopy .b fun c =>
    { c with sig := BitVec.allOnes 64 }

end State

end Sys2Proof.Machine
end

