-- ==== Sys2Proof/Machine/ResetOps.lean ====
section
/-! DEFINITION. The shared operations of clock loss (R46) and of resets (chapter "Supplies, resets and power states"): which
island holds an object (R534), what each reset kind does to each class (R535, R536), and what an island loses as it restarts. -/

namespace Sys2Proof.Machine

/-- An island's index of R509, which is also its bit of `pwr.reset_cause`; the Plinth is 6. -/
def islIndex : Island → Nat
  | .se => 0
  | .sc => 1
  | .ct => 2
  | .cv => 3
  | .hf => 4
  | .nw => 5
  | .pl => 6

/-- An island's LOCK bit (R24). -/
def lockBit : Island → Nat
  | .ct => 0
  | .cv => 1
  | .sc => 2
  | .hf => 3
  | .nw => 4
  | .se => 5
  | .pl => 6

/-- The index of the island that holds an object (R534). -/
def objHolder (id : Nat) : Nat :=
  if 0x1800 ≤ id ∧ id < 0x2000 then 0
  else if 0x2000 ≤ id ∧ id < 0x3000 then 5
  else if (0x3000 ≤ id ∧ id < 0x3800) ∨ (0x4000 ≤ id ∧ id < 0x4800) ∨ id = O.dclChopEnergy ∨
      (List.finRange 4).any (fun m : Fin 4 => id == O.trxRule m) then 2
  else if (0x4800 ≤ id ∧ id < 0x5800) ∨ (0x6800 ≤ id ∧ id < 0x7000) then 3
  else if 0x7400 ≤ id ∧ id < 0x7800 then 1
  else 4

/-- The islands that hold objects of class W: SE, CT, CV and HF; every island holds objects of class V. -/
def holdsW : Nat := 0x1D

/-- What shows the present of AM5 and of the park lock, whose slice lies in the keep-alive domain and runs on (R367, R387): state and
speed of the channel, and the park lock's objects. -/
def parkObj (id : Nat) : Bool := id == 0x6970 || id == 0x6971 || (0x6980 ≤ id && id ≤ 0x6983)

/-- The objects that SC serves in keep-alive operation (R400). -/
def keepAliveObj (id : Nat) : Bool := parkObj id || (0x7000 ≤ id && id < 0x7400)

namespace State

/-- The class of an object (R14). -/
def retOf (s : State) (id : Nat) : Option ObjRet := (s.rowOf id).map fun r => r.1.ret

/-- Objects of classes V and W of a set of islands back to default, but for those kept (R535); a maker object's default stands in its bundle (R500). -/
def returnObjs (s : State) (islands : Nat) (v w : Bool) (keep : Nat → Bool) : State :=
  let stays (p : Nat × Nat) : Bool := keep p.1 || !islands.testBit (objHolder p.1) ||
    (match s.retOf p.1 with
     | some .v => !v
     | some .w => !w
     | _ => true)
  let t : State := { s with objs := s.objs.filter stays }
  if w ∧ islands.testBit 4 then
    (s.sec.makerDefs.filter fun (d : MakerDef) => d.ret == .w && !keep d.id).foldl (fun (t : State) (d : MakerDef) => t.setO d.id d.dflt) t
  else t

/-- Class K back to default, but for the trip latch where it is kept (R535, R536). -/
def returnK (s : State) (latch : Bool) : State :=
  { s with objs := s.objs.filter fun p => (latch && p.1 == O.thmTripLatch) || s.retOf p.1 != some .k }

/-- Uncommitted class N values back to their last committed values (R535). -/
def returnN (s : State) : State :=
  let t : State := (s.dirty.foldl (fun (s : State) id => s.setO id ((kGet s.flash id).getD (objDefault id))) s)
  { t with dirty := [] }

/-- Values after cold reset that follow other objects, once the objects of a set of islands have returned, with class W where
`w` holds: the coefficient bank B (a copy of bank A), IN_FS of the contexts of the auxiliary converter and the motor channels, the
states of the sets of a machine of two, the state of each converter, the strength codes, and the speed rule (R132, R166, R239, R282,
R348, R375, R478). -/
def redefault (s : State) (islands : Nat) (w banks : Bool) : State :=
  let s := if banks then (List.range 64).foldl (fun (s : State) c =>
    if (kGet s.flash (O.lpeBankB c)).isSome then s else s.setO (O.lpeBankB c) (s.getO (O.lpeBankA c))) s else s
  let s := if banks then (List.finRange 15).foldl (fun (s : State) (i : Fin 15) =>
    let c := 22 + i.val
    let fs := if c = 22 then O.auxVFs else if c < 31 then O.auxIphFs else O.amcSpeedFs (c - 31)
    if (kGet s.flash (O.lpeUnits c)).isSome then s else s.setO (O.lpeUnits c) (putBits (s.getO (O.lpeUnits c)) 31 0 (s.getO fs))) s else s
  let s := (List.finRange 4).foldl (fun (s : State) (m : Fin 4) =>
    if s.getO (O.trxSets m) = 3 ∧ s.getO (O.trxSsState m) = 0x30 then s.setO (O.trxSsState m) 0 else s) s
  let s := if islands.testBit 3 then (List.finRange 12).foldl (fun (s : State) (k : Fin 12) => s.adcIdle k) s else s
  if w ∧ islands.testBit 2 then
    let s := (List.range 40).foldl (fun (s : State) l =>
      let r := s.getO (O.pwmDriveRange l)
      s.setO (O.pwmDriveTable l) (leNat (List.replicate 16 (BitVec.ofNat 8 ((r % 16 + r / 16) / 2))))) s
    (List.finRange 4).foldl (fun (s : State) (m : Fin 4) =>
      let ty := s.getO (O.trxType m)
      s.setO (O.trxRule m) (if ty = 1 ∨ ty = 2 then 1 else 0)) s
  else s

/-- The exchange memory is undefined (R91). -/
def undefX (s : State) : State :=
  let x : XMem := { s.xmem with mem := [], epoch := s.free + 1 }
  { s.takeFree with xmem := x }

/-- `pwr.reset_cause` after a reset that restarted islands (R537, R547). -/
def noteReset (s : State) (kind islands : Nat) : State :=
  s.setO O.pwrResetCause (kind * 2 ^ 24 + islands * 65536 + min (bitsOf (s.getO O.pwrResetCause) 15 0 + 1) 0xFFFF)

/-- A restart begins: its islands start with the row BOOT_COMPLETE (R531). -/
def bootBegin (s : State) (cause islands classes : Nat) : State :=
  s.modPwr fun p => { p with boot := p.boot ++ [{ cause, islands, classes }] }

/-- Requests held pending under commands of a range of codes end with ST_FAULT as their island restarts (log 70). -/
def dropHeld (s : State) (lo hi : Nat) : State := s.endAll (fun (p : Held) => decide (lo ≤ p.code) && decide (p.code < hi)) St.fault

/-! ### Clocks -/

/-- The fields of `sys.clk.status` that show the present: LOCK and XTAL_OK (R24). -/
def showClk (s : State) : State :=
  s.setO O.sysClkStatus (s.getO O.sysClkStatus / 256 * 256 + (if s.clk.xtal && !s.clk.declared then 0x80 else 0) + (~~~s.clk.heldIslands).toNat)

/-- What the loss of the crystal, or of CT or CV, does to every function (R46, R47, R533). -/
def clockLost (s : State) : State :=
  let s := (s.setPins true).modClk fun c => { c with lossActive := true }
  let s := (List.finRange 4).foldl (fun (s : State) m => if s.trxSt m = 0 then s else s.trxFail m 5 0x50) s
  let s := ((s.chgStopFor [Cause.clock]).auxEnd 6 AuxCause.clock).amcClock
  let s := (s.modDcl fun d => { d with chopIn := false, chopDuty := 0 }).bstAbort
  let s := (List.finRange 40).foldl (fun (s : State) l => s.linkOff l) s
  let s : State := { s with cgs := s.cgs.map fun (c : Carrier) => { c with running := false } }
  s.trainEnds.applySc

/-! ### One island -/

/-- What SE loses (R491, R496, R497): work in progress; the next leaf of each key equals its reservation, and an attestation key that
has none left by that is renewed (R498). -/
def seLost (s : State) : State :=
  let x := s.sec
  let s : State := { s with sec := { x with
    verify := Vector.replicate 4 none, failAt := Vector.replicate 4 [], lcStep := none, attest := none, staging := [], install := none,
    attRes := max x.attRes x.attMirror, idRes := max x.idRes x.idMirror } }
  let s : State := { s with upd := s.upd.map fun (u : UpdIsl) => { u with op := none } }
  let s := (s.setO O.secAttNext s.sec.attRes).setO O.secIdNext s.sec.idRes
  s.when (decide (2 ^ 20 ≤ s.getO O.secAttNext) && !s.idExhausted) attRenew

/-- What SC loses: the pair is in BOOT with the pins at the safe level, HVIL_DRV low (R424). -/
def scLost (s : State) : State :=
  { s with
    dcl := { s.dcl with hvilPos := 7, hvilDrv := false }
    ptg := { Ptg.reset with
      cfg := #v[s.getO O.ptgGuard, s.getO O.ptgSplitMax, s.getO O.ptgSplitLive, s.getO O.ptgTqTol, s.getO O.ptgTqTime] } }

/-- What CT loses: links, carriers, contexts, traces. -/
def ctLost (s : State) : State :=
  let s : State := ((List.finRange 40).foldl (fun (s : State) l => s.linkOff l) s)
  { s with links := Vector.replicate 40 Link.reset, cgs := Vector.replicate 8 Carrier.reset, ctx := Vector.replicate 64 Ctx.reset,
           tb := Vector.replicate 4 Trace.reset, traceReads := [] }

/-- Every port starts anew in its mode (R245, R248, R250). -/
def portsStart (s : State) : State := (List.finRange 4).foldl (fun (s : State) p => s.portStart p) s

/-- What CV loses: converters, ports, probes, and the channels AM0 to AM4 (R367). -/
def cvLost (s : State) : State :=
  let s : State := { s with
    adc := { AdcAll.reset with conv := Vector.replicate 12 { Adc.reset with trigNext := s.now } }, prb := Vector.replicate 4 [], amc := Vector.ofFn fun k : Fin 6 => if k = 5 then s.amc[k] else Amc.reset }
  s.portsStart

/-- A count or an end code that records what has passed: class V like any other (R14). -/
def pastObj (id : Nat) : Bool := (List.range 4).any (fun m => id == O.trxSsLosses m) || id == O.auxRestarts || id == O.rpkEnd ||
  id == O.chgCause || id == O.auxCause

/-- The read-only objects of HF that show the present of what CT, CV and SC keep running while HF alone restarts: they read
that present again as HF starts (R41, R454, R520; log 71). -/
def hfShown (s : State) (id : Nat) : Bool :=
  !pastObj id && ((0x3800 ≤ id && id < 0x4000) || (0x5800 ≤ id && id < 0x6800) || (0x7000 ≤ id && id < 0x7400)) &&
    (match s.rowOf id with
     | some (r, _) => r.acc == .ro
     | none => false)

/-- The bits of `amc.aK.flags` that no return to default touches: POS_VALID, which a loss of class W alone clears, and REV_HELD of
AM5, whose slice runs on (R367, R381). `old` is the state before. -/
def amcFlagsBack (s old : State) (w : Bool) : State :=
  (List.finRange 6).foldl (fun (s : State) (k : Fin 6) =>
    s.setO (O.amcFlags k) (old.getO (O.amcFlags k) &&& ((if w then 0 else 0x200) + (if k = 5 then 0x100 else 0)))) s

/-- What an island loses beside its objects as it restarts alone. -/
def islandLost (s : State) : Island → State
  | .se => (s.seLost.dropHeld 0x0120 0x0122).dropHeld 0x0A00 0x0B00
  | .sc => s.scLost.dropHeld 0x0800 0x0810
  | .ct => (s.ctLost.dropHeld 0x0301 0x0302).dropHeld 0x0400 0x0500
  | .cv => s.cvLost.dropHeld 0x0500 0x0513
  | .hf => s.modDisp fun d => { d with ready := false, booting := true }
  | .nw => ({ s with net := Net.reset } : State).dropHeld 0x0900 0x0A00
  | .pl => s

/-- What an island keeps of its objects as it restarts alone. -/
def islandKeeps (s : State) (i : Island) (id : Nat) : Bool :=
  match i with
  | .hf => s.hfShown id
  | .cv => parkObj id
  | _ => false

/-- A WATCHDOG (5) or ISLAND (6) reset of one island; `w` where class W returns, as it does in every ISLAND reset (R533 to R535). -/
def islandReset (s : State) (i : Island) (kind : Nat) (w : Bool) : State :=
  if i = .pl then s
  else
    let bit := 2 ^ islIndex i
    let s := if i = .ct ∨ i = .cv then s.clockLost else s
    let t := s
    let s := ((s.returnObjs bit true w (s.islandKeeps i)).islandLost i).redefault bit w false
    let s := s.when (i == .cv) fun s => s.amcFlagsBack t w
    let s := if i = .hf ∧ w then ({ s with hosts := Vector.replicate 4 HostPort.reset, disp := Disp.reset } : State).when (kind == 6) undefX else if i = .ct ∧ w then s.modDcl fun d => { d with energy := 0 } else s
    (s.showClk.noteReset kind bit).bootBegin kind bit (1 + (if w ∧ holdsW.testBit (islIndex i) then 2 else 0))

/-! ### The whole device -/

/-- Security through a reset that restarts SE: tamper record, keys, log and queue (R496, R497, R504, R536). `kLost`: class K is
lost. -/
def secKept (s : State) (kLost : Bool) : State :=
  let s := s.seLost
  if kLost then
    let n := s.sec.queue.length
    { s with sec := { s.sec with queue := [], lostRecs := s.sec.lostRecs + n } }
  else s

/-- The reset of every island but the Plinth (R533 to R536): kinds 1 COLD, 3 PIN, 7 TAMPER, and the power-down to PARK (0x14)
and SEALED (0x15), R540. -/
def wholeReset (s : State) (kind : Nat) : State :=
  let kLost := kind == 1 || kind == 7
  let s := (List.finRange 40).foldl (fun (s : State) l => s.cancelEdges l) s
  let s := s.returnObjs 0x3F true true fun _ => false
  let s := if kLost then (s.returnK (kind == 7)).returnN else s
  let s := (s.secKept kLost).undefX
  let z := State.reset
  let t : State := { z with
    axt := if kLost then 0 else s.axt, follow := if kLost then z.follow else s.follow, clk := if kind = 1 then z.clk else s.clk,
    pending := s.pending, objs := s.objs, flash := s.flash, dirty := s.dirty, free := s.free, sent := s.sent, xmem := s.xmem, sec := s.sec, upd := s.upd,
    rpk := { z.rpk with opened := s.rpk.opened, cut := s.rpk.cut },
    pwr := { s.pwr with
      boot := [], entering := none, asleep := false, dwellAt := none, holdUntil := none, jobWake := false, failed := 0, keepAlive := false } }
  (((t.scLost.setO O.secAttNext t.sec.attRes).setO O.secIdNext t.sec.idRes).showClk.redefault 0x3F true kLost).portsStart

/-- BROWNOUT: SE, CT, CV, HF and NW reset; SC, the Plinth and the keep-alive slice run on (R532 to R535, R563). Class W, the
session and the slots of HPC stay until VMAIN returns (R400; log 72). -/
def brownReset (s : State) : State :=
  let s := (List.finRange 40).foldl (fun (s : State) l => s.cancelEdges l) s
  let s := (s.returnObjs 0x3D true false keepAliveObj).amcFlagsBack s false
  let s := (s.secKept false).undefX
  let z := State.reset
  let t : State := { z with
    axt := s.axt, follow := s.follow, clk := s.clk, pending := s.pending, objs := s.objs, flash := s.flash, dirty := s.dirty, free := s.free, sent := s.sent,
    xmem := s.xmem, sec := s.sec, upd := s.upd, ptg := s.ptg, forceA := s.forceA, forceB := s.forceB, evLast := s.evLast,
    hosts := Vector.ofFn fun h : Fin 4 => if h = 2 then s.hosts[h] else HostPort.reset,
    disp := { z.disp with held := s.disp.held.filter fun (p : Held) => p.host == 2 && (p.code == 0x0714 || p.code == 0x0715) },
    trx := Vector.ofFn fun m : Fin 4 => { Trx.reset with speed := s.trx[m].speed, speedOk := s.trx[m].speedOk },
    dcl := { z.dcl with
      ctrPos := s.dcl.ctrPos, ctrNeg := s.dcl.ctrNeg, hvilPos := s.dcl.hvilPos, hvilDrv := s.dcl.hvilDrv, hvilOpenRun := s.dcl.hvilOpenRun,
      hvilOkRun := s.dcl.hvilOkRun, hvilOpen := s.dcl.hvilOpen, hvil := s.dcl.hvil },
    amc := Vector.ofFn fun k : Fin 6 => if k = 5 then s.amc[k] else Amc.reset,
    rpk := s.rpk, thm := { z.thm with sensors := s.thm.sensors },
    pwr := { s.pwr with
      boot := [], entering := none, asleep := false, dwellAt := none, holdUntil := none, failed := 0, vmain := false, keepAlive := !s.rpk.cut,
      keepAliveAt := s.now } }
  (t.showClk.redefault 0x3D false false).portsStart.rpkPower

end State

end Sys2Proof.Machine
end

