-- ==== Sys2Proof/Machine/Memories.lean ====
section
/-! DEFINITION. The rows of chapter "Self-test and on-chip memories". -/

namespace Sys2Proof.Machine

/-- The regions of 64 bytes of a memory (R451). -/
def memRegions (m : Fin 4) : Nat := ([49152, 2048, 2048, 256] : List Nat).getD m 0

namespace State

/-! ### The self-test scheduler -/

/-- Every instance of every enabled slice, in order (R443). -/
def bstList (s : State) : List (Nat × Nat) :=
  (List.range 5).flatMap fun sl => if (s.getO O.bstEnable).testBit sl then (List.range (sliceCount sl)).map fun i => (sl, i) else []

/-- A cycle begins where one is due; what the last one left ends as WAITING (R443, R447). The row is also the scheduler's look
for an instance that may run now (log 65). -/
def bstCycle (s : State) : State :=
  if s.disp.ready = false ∨ s.getO O.bstState = 2 then s
  else
    let due : Bool := match s.bst.cycleAt with
      | none => true
      | some t => decide (t + s.getO O.bstPeriod * sTicks ≤ s.now)
    if due then
      let s := if s.bst.cycleAt.isSome then
          let t := s.bst.todo.foldl (fun (s : State) (p : Nat × Nat) => s.bstTell 3 p.1 p.2) s
          let t := t.incMod O.bstCycles (2 ^ 32)
          t.raise 0x0811 0x7800 (t.getO O.bstCycles)
        else s
      (s.modBst fun b => { b with cycleAt := some s.now, todo := s.bstList }).bstNext
    else s.bstNext

/-- A pending BST_RUN ends (R457). -/
def bstAnswer (s : State) (status : Nat) : State :=
  if s.bst.byCmd then s.endAll (fun (p : Held) => p.code == 0x0810) status else s

/-- The instance that runs ends: pass, first failure (repeated at once), second failure, or WAITING after its eighth
pre-emption in gap mode (R446, R449). TSENS judges the sensors' readings by itself (R444). -/
def bstDone (s : State) (pass : Bool) (preempted : Bool) : State :=
  match s.bst.run with
  | none => s
  | some (sl, i) =>
    if s.getO O.bstState = 2 ∨ (sl = 4 ∧ s.ptg.splitReq.isSome) ∨
        (sl = 1 ∧ s.frontGap (bstConv i) = false ∧ s.adcSt (bstConv i) ≠ 5) then s
    else if preempted = true ∧ s.bstGap sl i = true then (((s.bstTell 3 sl i).bstAnswer St.fault).bstEnd).bstNext
    else if (if sl = 3 then s.tsensBad == 0 else pass) = true then
      ((((s.bstTell 0 sl i).bstPass sl i s.bst.byCmd).bstAnswer St.ok).bstJoin sl).bstEnd.bstNext
    else if s.bst.second = false then s.modBst fun b => { b with second := true }
    else
      let s := (s.orO O.bstFailed (2 ^ failBit sl i)).bstTell 1 sl i
      (((s.bstFail sl i).bstAnswer St.fault).bstJoin sl).bstEnd.bstNext

/-- BST_RUN (R457). -/
def bstRunCmd (c : Cmd) (s : State) : State × Reply :=
  let sl := fieldAt c.payload 0 1
  let i := fieldAt c.payload 1 1
  let split := sl == 4
  s.guarded [chkLen c 4, chk (4 < sl || sliceCount sl ≤ i) St.range, chkZero c 2 2, chkLc s false false, chkRole s c 2,
             ⟨split && (chkSafety s c true).bad, .err St.denied 0x0004⟩, chkOwn s c 13, chkIl s (some 13),
             chkR (split && s.getO O.ptgState != 1) St.state 0x0100, chk s.bst.run.isSome St.busy,
             chkR (split && !s.bstRuns sl i) St.refused 0x0171, chkR (!s.bstRuns sl i) St.refused 0x0180 sl] fun s =>
    ((s.bstBegin sl i true).hold c (some 13) [sl, i], .pending)

/-! ### Patina and memory errors -/

def modPatina (s : State) (m : Fin 4) (f : Patina → Patina) : State := { s with patina := s.patina.set m (f s.patina[m]) }

/-- EV_MEM_FAULT: 1 Patina, 2 uncorrectable, 3 parity (R458). -/
def memFault (s : State) (m : Fin 4) (kind addr : Nat) : State :=
  s.raise 0x0821 (0x7841 + m) (m.val * 2 ^ 28 + kind * 2 ^ 24 + addr)

/-- The step at hand is done; after the last region a pass is complete (R451). -/
def patinaNext (s : State) (m : Fin 4) : State :=
  let r := (s.patina[m].region + 1) % memRegions m
  let s := s.modPatina m fun p => { p with region := r, again := false }
  if r = 0 then s.incMod (O.memPasses m) (2 ^ 32) else s

/-- What a second failure on a region does (R453). -/
def patinaFail (s : State) (m : Fin 4) : State :=
  let s := s.memFault m 1 (64 * s.patina[m].region)
  if m = 0 then
    (if s.getO O.memSparesFree = 0 then s.orO (O.memStatus 0) 0x10
     else (s.orO (O.memStatus 0) 8).setO O.memSparesFree (s.getO O.memSparesFree - 1))
  else if m = 3 then s.mordantWipe 4
  else s.orO (O.memStatus m) 8

/-- The memory is powered and its steps run (R451). -/
def patinaRuns (s : State) (m : Fin 4) : Bool :=
  (s.getO O.memPatinaEnable).testBit m && s.pwr.vmain && !s.pwr.asleep && s.pwr.boot.isEmpty

/-- A Patina step on the next region: abandoned where an access meets it in memory 1 or 2, repeated at once after a failure
(R451 to R453). -/
def patinaStep (s : State) (m : Fin 4) (ok hit : Bool) : State :=
  if s.patinaRuns m = false ∨ (s.patina[m].again = false ∧ s.now < s.patina[m].at_ + 50 * usTicks) then s
  else
    let s := s.modPatina m fun p => { p with at_ := s.now }
    if hit = true ∧ (m = 1 ∨ m = 2) then s
    else if ok then s.patinaNext m
    else
      let again := s.patina[m].again
      let s := s.orO (O.memStatus m) 2
      if again then (s.patinaFail m).patinaNext m else s.modPatina m fun p => { p with again := true }

/-- EV_MEM_CE may be raised again: at most once per memory per second (R454). -/
def ceFresh (s : State) (m : Fin 4) : Bool :=
  match s.patina[m].ceAt with
  | some t => decide (t + sTicks ≤ s.now)
  | none => true

/-- A corrected error on a read of a SECDED memory (R454). -/
def memCorrected (s : State) (m : Fin 4) : State :=
  if m = 1 ∨ m = 2 then s
  else
    let v := s.getO (O.memStatus m)
    let n := min (bitsOf v 31 16 + 1) 0xFFFF
    let s := s.setO (O.memStatus m) (putBits (v ||| 1) 31 16 n)
    if s.ceFresh m then (s.modPatina m fun p => { p with ceAt := some s.now }).postMasked 0x0820 (0x7841 + m.val) (n * 65536 + m.val) else s

/-- An uncorrectable error on a read (R454): firmware SRAM resets HF, the Mordant store is wiped. -/
def memUncorrectable (s : State) (m : Fin 4) (addr : Nat) : State :=
  if m = 1 ∨ m = 2 then s
  else
    let s := ((s.setO O.memLastUe (m.val * 2 ^ 28 + addr)).orO (O.memStatus m) 4).memFault m 2 addr
    if m = 0 then s.islandReset .hf 6 true else s.mordantWipe 3

/-- A parity error on a read of memory 1 or 2 (R454). -/
def memParity (s : State) (m : Fin 4) (addr : Nat) : State :=
  if m = 0 ∨ m = 3 then s else (s.orO (O.memStatus m) 4).memFault m 3 addr

end State

/-! ### The rows -/

def execBstCycleStart (s : State) : Host.Outcome State Fault Refusal := .next s.bstCycle

def execBstInstanceDone (pass : Bool) (preempted : Bool) (s : State) : Host.Outcome State Fault Refusal :=
  .next (s.bstDone pass preempted)

def execBstRun (s : State) : Host.Outcome State Fault Refusal := .next (s.runCmd 0x0810 State.bstRunCmd)

def execPatinaStep (m : Fin 4) (ok : Bool) (hit : Bool) (s : State) : Host.Outcome State Fault Refusal := .next (s.patinaStep m ok hit)

def execMemCorrectedError (m : Fin 4) (s : State) : Host.Outcome State Fault Refusal := .next (s.memCorrected m)

def execMemUncorrectableError (m : Fin 4) (addr : BitVec 22) (s : State) : Host.Outcome State Fault Refusal :=
  .next (s.memUncorrectable m addr.toNat)

def execMemParityError (m : Fin 4) (addr : BitVec 22) (s : State) : Host.Outcome State Fault Refusal := .next (s.memParity m addr.toNat)

end Sys2Proof.Machine
end

