-- ==== Sys2Proof/Machine/NetOps.lean ====
section
/-! DEFINITION. The shared operations of the networks (chapter "Vehicle and implement networks"): the partner table (R470 to
R472), address claims (R466, R467), frames that leave (R460, R461, R465) and transport sessions (R474). Figures and frame
layouts of the transport protocols are those of ISO 11783-3, which R474 names (log 80). -/

namespace Sys2Proof.Machine

/-- The PGNs that the device's own protocols use (R467, R468, R474; log 80). -/
def pgnRequest := 0xEA00
def pgnClaim := 0xEE00
def pgnCommanded := 0xFED8
def pgnAnnounce := 0xFF64
def pgnTpCm := 0xEC00
def pgnTpDt := 0xEB00
def pgnEtpCm := 0xC800
def pgnEtpDt := 0xC700

/-- An Ezdal message (R469). -/
def isEzdal (pgn : Nat) : Bool := 0xFF60 ≤ pgn && pgn ≤ 0xFF6F

/-- The PGN is destination specific: its format byte is below 240. -/
def pduOne (pgn : Nat) : Bool := pgn / 256 % 256 < 240

/-- The identifier of a CAN frame: priority, PGN, destination, source. -/
def canId (m : TxMsg) : Nat :=
  m.prio % 8 * 2 ^ 26 + (if pduOne m.pgn then m.pgn / 256 * 256 + m.da else m.pgn) * 256 + m.sa

/-- PGN and destination of a received identifier (bits [25:8]). -/
def idPgn (id : Nat) : Nat := if pduOne (id / 256 % 2 ^ 18) then id / 256 % 2 ^ 18 / 256 * 256 else id / 256 % 2 ^ 18
def idDest (id : Nat) : Nat := if pduOne (id / 256 % 2 ^ 18) then id / 256 % 256 else 0xFF

/-- A port of R459 as a CAN channel or an Ethernet port. -/
def portCan (p : Fin 8) : Option (Fin 4) := if h : p.val < 4 then some ⟨p.val, h⟩ else none
def portEth (p : Fin 8) : Fin 4 := ⟨p.val % 4, Nat.mod_lt _ (by decide)⟩
def canPort (n : Fin 4) : Fin 8 := ⟨n.val, by omega⟩
def ethPort (e : Fin 4) : Fin 8 := ⟨4 + e.val, by omega⟩

/-- The smallest index a sorted list leaves free from `n` on. -/
def firstFree {β : Type} : List (Nat × β) → Nat → Nat
  | [], n => n
  | (k, _) :: t, n => if k = n then firstFree t (n + 1) else n

namespace State

def modNet (s : State) (f : Net → Net) : State := { s with net := f s.net }
def modCan (s : State) (n : Fin 4) (f : CanPort → CanPort) : State :=
  s.modNet fun x => { x with can := x.can.set n (f x.can[n]) }

/-- A network event of a port, or of the table (R480). -/
def netEvent (s : State) (code port data : Nat) : State := s.raise code (0x2000 + port) data

/-! ### The partner table -/

def pGet (s : State) (i : Nat) : Option Partner := kGet s.net.table i

/-- The table written, with the counts of R478. -/
def putTable (s : State) (t : List (Nat × Partner)) : State :=
  ((s.modNet fun x => { x with table := t }).setO O.netEntries t.length).setO O.netPartners (t.filter fun p => p.2.kind == 1).length
def pPut (s : State) (i : Nat) (p : Partner) : State := s.putTable (kPut s.net.table i p)
def pMod (s : State) (i : Nat) (f : Partner → Partner) : State :=
  match s.pGet i with
  | some p => s.modNet fun x => { x with table := kPut x.table i (f p) }
  | none => s

/-- The ALIAS of an address on a CAN port, of a MAC on an Ethernet port. -/
def aliasOf (s : State) (port addr : Nat) : Option Nat :=
  (s.net.table.find? fun p => p.2.kind == 2 && p.2.port == port && p.2.addr == addr).map Prod.fst
def aliasMac (s : State) (port mac : Nat) : Option Nat :=
  (s.net.table.find? fun p => p.2.kind == 2 && p.2.port == port && p.2.id == mac).map Prod.fst

/-- The PARTNER of an identity. -/
def partnerOf (s : State) (id : Nat) : Option Nat := (s.net.table.find? fun p => p.2.kind == 1 && p.2.id == id).map Prod.fst

/-- The partner heard at an address on a port. -/
def partnerAt (s : State) (port addr : Nat) : Option Nat := (s.aliasOf port addr).bind fun a => (s.pGet a).map (·.link)

/-- The transport sessions open with a partner (R470). -/
def partnerSessions (s : State) (i : Nat) : Nat :=
  (s.net.sess.filter fun (x : Session) => s.partnerAt x.port.val (if x.out then x.dst else x.src) == some i).length

/-- A partner and its aliases removed. -/
def partnerDrop (s : State) (i : Nat) : State :=
  s.putTable (s.net.table.filter fun p => p.1 != i && !(p.2.kind == 2 && p.2.link == i))

/-- The partner that gives way: LOST, not PINNED, without a session, least recently heard (R471). -/
def evictable (s : State) : Option Nat :=
  ((s.net.table.filter fun p => p.2.kind == 1 && p.2.flags.testBit 4 && !p.2.flags.testBit 0 && s.partnerSessions p.1 == 0).foldl
    (fun (a : Option (Nat × Partner)) p => match a with
      | some b => if p.2.last < b.2.last then some p else a
      | none => some p) none).map Prod.fst

/-- Room for a new entry, and for a new partner: found, or made by eviction (R471). -/
def tableRoom (s : State) (partner : Bool) : Bool :=
  s.net.table.length + (if partner then 2 else 1) ≤ 6144 && (!partner || s.getO O.netPartners < 4096)
def makeRoom (s : State) (partner : Bool) : State × Bool :=
  if s.tableRoom partner then (s, true)
  else match s.evictable with
    | some i => let t := s.partnerDrop i; (t, t.tableRoom partner)
    | none => ((s.orO O.netFlags 1).netEvent 0x0904 0 (s.getO O.netEntries), false)

/-- A new entry at the first free index. -/
def newEntry (s : State) (p : Partner) : State × Nat :=
  let i := firstFree s.net.table 0
  (s.pPut i p, i)
def blankPartner (id : Nat) : Partner :=
  { kind := 1, flags := 0, port := 0xFF, addr := 0xFE, id, link := 0xFFFF, il := 0, last := 0, count := 0, errors := 0, ipv4 := 0 }

/-- An ALIAS bound to a partner on a port (R470, R471). -/
def bindAlias (s : State) (partner port addr id ip : Nat) : State × Option Nat :=
  let r := s.makeRoom false
  if r.2 then
    let e := r.1.newEntry { blankPartner id with kind := 2, port, addr, link := partner, ipv4 := ip % 65536 }
    (e.1.pMod partner fun p => if p.link = 0xFFFF then { p with link := e.2 } else p, some e.2)
  else (r.1, none)

/-- A new partner under an identity, with its alias (R471). -/
def newPartner (s : State) (id port addr mac ip : Nat) : State × Option Nat :=
  let r := s.makeRoom true
  if r.2 then
    let e := r.1.newEntry (blankPartner id)
    e.1.bindAlias e.2 port addr mac ip
  else (r.1, none)

/-- A frame has been heard on an alias: stamps, counts, format marks, and the end of LOST (R461, R470, R472). -/
def heard (s : State) (a : Nat) (marks : Nat) : State :=
  match s.pGet a with
  | none => s
  | some al =>
    let at_ := (s.followerStamp .nw).toNat
    let lost := match s.pGet al.link with
      | some p => p.flags.testBit 4
      | none => false
    let touch (p : Partner) : Partner := { p with last := at_, count := min (p.count + 1) 0xFFFFFFFF, flags := (p.flags ||| marks) - ((p.flags ||| marks) &&& 16) }
    let s := (s.pMod a fun p => { touch p with flags := p.flags - (p.flags &&& 16) }).pMod al.link touch
    if lost then s.netEvent 0x0903 0 (al.link * 65536 + 1) else s

/-- A drop or an abort counted against a partner (R470). -/
def partnerError (s : State) (port addr : Nat) : State :=
  match s.partnerAt port addr with
  | some i => s.pMod i fun p => { p with errors := min (p.errors + 1) 255 }
  | none => s

/-- A received frame dropped (R478). -/
def rxDrop (s : State) : State := s.incSat O.netRxDropped 0xFFFFFFFF

/-! ### Frames that leave -/

def canMode (s : State) (n : Fin 4) : Nat := s.getO (O.netCanMode n)

/-- The channel may send frames of its own: mode, NAME, claimed, not bus-off (R460, R463, R466, R467). -/
def canReady (s : State) (n : Fin 4) : Bool :=
  s.canMode n != 0 && s.getO O.netName != 0 && s.net.can[n].claim == .claimed && !s.net.can[n].busOff

/-- An Ethernet port carries datagrams: enabled, link up (R464). -/
def ethReady (s : State) (e : Fin 4) : Bool := s.bitO (O.netEthCfg e) 0 && s.bitO (O.netEthStatus e) 0
def portReady (s : State) (p : Fin 8) : Bool := match portCan p with
  | some n => s.canReady n
  | none => s.ethReady (portEth p)

/-- The source address the device uses on a port (R465, R467). -/
def ownAddr (s : State) (p : Fin 8) : Nat := match portCan p with
  | some n => if s.net.can[n].claim = .claimed ∨ s.net.can[n].claim = .waiting then s.net.can[n].addr else 0xFE
  | none => 0xFE

/-- A frame enters a controller's queue. -/
def queueTx (s : State) (m : TxMsg) : State := s.modNet fun x => { x with tx := x.tx ++ [m] }

/-- A frame of the device's own protocols; they are always critical (R475). -/
def ownFrame (s : State) (p : Fin 8) (prio pgn sa da : Nat) (data : List Byte) (who : TxWho := .own) : State :=
  s.queueTx { port := p, fmt := .classic, prio, pgn, sa, da, data, who, critical := true, stamp := s.now, built := s.now, period := 0 }

/-- Every partner heard on a channel within `partner_timeout`, or the one addressed, carries a mark (R461). -/
def marked (s : State) (n : Fin 4) (da bit : Nat) : Bool :=
  let has (i : Nat) : Bool := match s.pGet i with
    | some p => p.flags.testBit bit
    | none => false
  if da = 0xFF then
    s.net.table.all fun p => !(p.2.kind == 2 && p.2.port == n.val && decide (s.now ≤ p.2.last + s.getO O.netPartnerTimeout * msTicks)) || has p.2.link
  else match s.partnerAt n da with
    | some i => has i
    | none => false

/-- The format of a message on a channel; none where it needs transport (R460, R461). -/
def fmtFor (s : State) (n : Fin 4) (da len : Nat) : Option TxFmt :=
  if len ≤ 8 then some .classic
  else if s.canMode n = 3 ∧ len ≤ 2048 ∧ s.marked n da 3 = true then some .xl
  else if 2 ≤ s.canMode n ∧ len ≤ 64 ∧ s.marked n da 2 = true then some .fd
  else none

/-- A message has left on a port, or has failed: NET_SEND ends once every port is done (R479). -/
def txOutcome (s : State) (m : TxMsg) (ok : Bool) : State :=
  match m.who with
  | .cmd h tag =>
    let mine (p : Held) : Bool := p.code == 0x0905 && p.host == h && p.tag == tag
    if !ok then s.endAll mine St.fault
    else
      let left (p : Held) : Nat := (p.arg.headD 0) - ((p.arg.headD 0) &&& 2 ^ m.port.val)
      let s := s.modDisp fun d => { d with held := d.held.map fun (p : Held) => if mine p then { p with arg := [left p] } else p }
      s.endAll (fun p => mine p && p.arg == [0]) St.ok
  | _ => s

/-- A cyclic message skipped (R477). -/
def cycSkip (s : State) : State := (s.incSat O.netCycSkipped 0xFFFFFFFF).orO O.sysLateFlags 0x20

/-- A cyclic frame that is due for withdrawal: its PERIOD has passed, or its data stamp is older than PERIOD (R477). -/
def txStale (s : State) (m : TxMsg) : Bool :=
  match m.who with
  | .map _ => m.period != 0 && (decide (m.built + m.period * msTicks ≤ s.now) || decide (m.stamp + m.period * msTicks < s.now))
  | _ => false

/-! ### Transport sessions that send (R474) -/

/-- Timers in milliseconds (R474). -/
def tpTr := 200
def tpTh := 500
def tpT1 := 750
def tpT2 := 1250
def tpT4 := 1050

def showSess (s : State) : State := s.setO O.netSessions s.net.sess.length

/-- Packets of seven bytes of a message. -/
def tpPackets (size : Nat) : Nat := (size + 6) / 7

/-- The packet with a number, filled up with 0xFF. -/
def tpPacket (data : List Byte) (k : Nat) : List Byte :=
  let b := (data.drop (7 * (k - 1))).take 7
  b ++ List.replicate (7 - b.length) 0xFF#8

/-- One connection per pair and direction, and 192 sessions (R474). -/
def tpFree (s : State) (p : Fin 8) (src dst : Nat) : Bool :=
  decide (s.net.sess.length < 192) && !(s.net.sess.any fun (x : Session) => x.port == p && x.src == src && x.dst == dst)

def tpCm (ext : Bool) : Nat := if ext then pgnEtpCm else pgnTpCm
def tpDt (ext : Bool) : Nat := if ext then pgnEtpDt else pgnTpDt

/-- Packets `a` to `b` of an outgoing session queued; they are as critical as their message (R475). -/
def tpSend (s : State) (x : Session) (a b : Nat) : State :=
  (List.range (b + 1 - a)).foldl (fun (s : State) i =>
    s.queueTx { port := x.port, fmt := .classic, prio := x.prio, pgn := tpDt x.ext, sa := x.src, da := x.dst,
                data := toLe 1 (a + i - x.base) ++ tpPacket x.data (a + i), who := .tp x.key, critical := x.critical,
                stamp := s.now, built := s.now, period := 0 }) s

/-- An outgoing session opens: BAM with all its packets, or a request to send (R474; log 80). -/
def tpOpen (s : State) (m : TxMsg) : State :=
  let size := m.data.length
  let bam := m.da == 0xFF
  let ext := decide (1785 < size)
  let x : Session :=
    { key := s.net.nextKey, port := m.port, src := m.sa, dst := m.da, out := true, bam := bam, ext := ext, pgn := m.pgn,
      prio := m.prio, size := size, data := m.data, next := 1, upTo := 0, base := 0, limit := 255,
      wait := (if bam then TpWait.sending else TpWait.cts), due := s.now + tpT2 * msTicks, who := m.who, critical := m.critical,
      stamp := m.stamp, built := m.built, period := m.period, begun := false }
  let s := (s.modNet fun n => { n with sess := n.sess ++ [x], nextKey := n.nextKey + 1 }).showSess
  let ctl := if ext then toLe 1 20 ++ toLe 4 size else toLe 1 (if bam then 32 else 16) ++ toLe 2 size ++ toLe 1 (tpPackets size) ++ [0xFF#8]
  let s := s.ownFrame m.port m.prio (tpCm ext) m.sa m.da (ctl ++ toLe 3 m.pgn) (.tp x.key)
  if bam then s.tpSend x 1 (tpPackets size) else s

/-- A message takes a session, unless its data is too old by then (R39, R474). -/
def tpTake (s : State) (m : TxMsg) : State := if s.txStale m then s.cycSkip else s.tpOpen m

/-- Messages that wait for a session open it once there is one, in order of submission (R474). -/
def tpWaiting (s : State) : State :=
  s.net.wait.foldl (fun (s : State) (m : TxMsg) =>
    if s.tpFree m.port m.sa m.da then
      let s := s.modNet fun n => { n with wait := n.wait.erase m }
      s.tpTake m
    else s) s

/-- The message that an outgoing session carries. -/
def sessMsg (x : Session) : TxMsg :=
  { port := x.port, fmt := .classic, prio := x.prio, pgn := x.pgn, sa := x.src, da := x.dst, data := [],
    who := x.who, critical := x.critical, stamp := x.stamp, built := x.built, period := x.period }

/-- A session ends; what its message belonged to learns how. -/
def tpClose (s : State) (x : Session) (ok : Bool) : State :=
  let s := (s.modNet fun n => { n with sess := n.sess.filter fun (y : Session) => y.key != x.key }).showSess
  let s := if x.out then s.txOutcome (sessMsg x) ok else s
  s.tpWaiting

/-- A connection aborted by the device with a reason (R474). -/
def tpAbort (s : State) (p : Fin 8) (ext : Bool) (src dst pgn reason : Nat) : State :=
  s.ownFrame p 7 (tpCm ext) src dst (toLe 1 255 ++ toLe 1 reason ++ toLe 3 0xFFFFFF ++ toLe 3 pgn)

/-- The ALIAS through which a destination address is reached on a port: on CAN the address itself, on Ethernet the partner that holds
the address on a CAN port (R465; log 93). -/
def destAlias (s : State) (p : Fin 8) (da : Nat) : Option Nat :=
  if p.val < 4 then s.aliasOf p da
  else
    let owners := s.net.table.filterMap fun q => if q.2.kind == 2 && decide (q.2.port < 4) && q.2.addr == da then some q.2.link else none
    (s.net.table.find? fun q => q.2.kind == 2 && q.2.port == p.val && owners.contains q.2.link).map Prod.fst
def destPartner (s : State) (p : Fin 8) (da : Nat) : Option Nat := (s.destAlias p da).bind fun a => (s.pGet a).map (·.link)

/-- The MAC and IPv4 address a PG goes to on an Ethernet port: the limited broadcast, or those of a partner (R465). -/
def ethDest (s : State) (e : Fin 4) (da : Nat) : Option (Nat × Nat) :=
  if da = 0xFF then some (2 ^ 48 - 1, 2 ^ 32 - 1)
  else ((s.destAlias (ethPort e) da).bind fun a => s.pGet a).map fun q => (q.id, s.getO (O.netEthIpv4 e) / 65536 * 65536 + q.ipv4)

/-- A partner whose interface level differs by more than 1: only non-Ezdal PGs are exchanged with it (R469). -/
def mismatched (s : State) (p : Fin 8) (a : Nat) : Bool :=
  match (s.destPartner p a).bind fun i => s.pGet i with
  | some q => q.flags.testBit 5
  | none => false

/-- A PG sent on a port: one frame, a datagram, or transport; where the port cannot send, the message fails (R460, R461, R465,
R469, R474). -/
def sendPg (s : State) (m : TxMsg) : State :=
  if !s.portReady m.port || (isEzdal m.pgn && s.mismatched m.port m.da) then s.txOutcome m false
  else match portCan m.port with
    | some n =>
      (match s.fmtFor n m.da m.data.length with
       | some f => s.queueTx { m with fmt := f }
       | none =>
         if m.da = 0xFF ∧ 1785 < m.data.length then s.txOutcome m false
         else if s.tpFree m.port m.sa m.da then s.tpTake m
         else s.modNet fun x => { x with wait := x.wait ++ [m] })
    | none =>
      if 1400 < m.data.length ∨ (s.ethDest (portEth m.port) m.da).isNone then s.txOutcome m false else s.queueTx { m with fmt := .datagram }

/-- Everything that waits to leave on a port is discarded and its sessions end without an abort; a NET_SEND among them ends (R463,
R467, R479). -/
def portFlush (s : State) (p : Fin 8) : State :=
  let gone := (s.net.tx ++ s.net.wait).filter fun (m : TxMsg) => m.port == p
  let closed := s.net.sess.filter fun (x : Session) => x.port == p && x.out
  let s := (s.modNet fun n => { n with
    tx := n.tx.filter fun (m : TxMsg) => m.port != p, wait := n.wait.filter fun (m : TxMsg) => m.port != p,
    sess := n.sess.filter fun (x : Session) => x.port != p }).showSess
  let s := gone.foldl (fun (s : State) (m : TxMsg) => s.txOutcome m false) s
  (closed.foldl (fun (s : State) (x : Session) => s.txOutcome (sessMsg x) false) s).tpWaiting

/-! ### Address claims (R466, R467) -/

/-- The claim frame from an address, or Cannot Claim from source 254. -/
def claimFrame (s : State) (n : Fin 4) (sa : Nat) : State := s.ownFrame (canPort n) 6 pgnClaim sa 0xFF (toLe 8 (s.getO O.netName))

/-- The channel holds no address. -/
def addrNone (s : State) (n : Fin 4) : State := (s.setO (O.netCanAddr n) 0xFE).clrO (O.netCanStatus n) 1

/-- A claim begins (R467). -/
def claimStart (s : State) (n : Fin 4) (addr : Nat) : State :=
  let s := s.addrNone n
  if s.canMode n = 0 ∨ s.getO O.netName = 0 ∨ s.net.can[n].busOff = true then s.modCan n fun c => { c with claim := .off }
  else (s.modCan n fun c => { c with claim := .waiting, addr, at_ := s.now }).claimFrame n addr

/-- The lowest free address of `net.addr_range` on a channel (R467). -/
def claimNext (s : State) (n : Fin 4) : Option Nat :=
  let lo := bitsOf (s.getO O.netAddrRange) 7 0
  let hi := bitsOf (s.getO O.netAddrRange) 15 8
  ((List.range (hi + 1 - lo)).map (· + lo)).find? fun a => (s.aliasOf n a).isNone

/-- The address is given up; another is claimed, or Cannot Claim follows (R467). -/
def claimLost (s : State) (n : Fin 4) : State :=
  let a := s.net.can[n].addr
  let s := ((s.portFlush (canPort n)).addrNone n).raise 0x0901 (0x2000 + n) (2 * 256 + a)
  match (if s.bitO O.netName 63 then s.claimNext n else none) with
  | some b => s.claimStart n b
  | none => s.modCan n fun c => { c with claim := .delay, addr := 0xFE, at_ := s.now }

/-- A channel's mode or the NAME has been written, or NW has started: it claims, or only listens (R466, R467). -/
def canStart (s : State) (n : Fin 4) : State :=
  let s := s.portFlush (canPort n)
  (s.modCan n fun c => { c with busOff := false, heldOff := false }).claimStart n (s.getO (O.netCanAddrPref n))
def netStart (s : State) : State := (List.finRange 4).foldl (fun (s : State) n => s.canStart n) (s.modNet fun x => { x with startAt := s.now })

/-- The interface-level announcement on a port (R468). -/
def announce (s : State) (p : Fin 8) : State :=
  let u := s.upd[(4 : Fin 6)]
  let il := s.getO O.updIl
  let data := toLe 1 il ++ toLe 1 (il - 1) ++ toLe 1 u.running.major ++ toLe 1 u.running.minor ++ toLe 1 u.running.patch ++ toLe 3 0xFFFFFF
  let s := s.modNet fun x => { x with annAt := x.annAt.set p s.now }
  s.sendPg { port := p, fmt := .classic, prio := 6, pgn := pgnAnnounce, sa := s.ownAddr p, da := 0xFF, data, who := .own, critical := true,
             stamp := s.now, built := s.now, period := 0 }

end State

end Sys2Proof.Machine
end

