-- ==== Sys2Proof/Machine/Inputs.lean ====
section
/-! DEFINITION. The inputs of the loop engine: source codes, function inputs and their arrival (R179 to R181, R316, R348,
R375, R403, R585). -/

namespace Sys2Proof.Machine

namespace State

/-- A fraction of a full scale in units of 2^−19, saturated. -/
def frac20 (x fs : Rat) : Int := if fs = 0 then 0 else sat20 (roundAway (x / fs * 524288))

/-- Output channel 0 of a context in engineering units. -/
def outVal (s : State) (c : Fin 64) : Rat := (s.ctx[c].outc[0] : Rat) / 524288 * s.outFs c

/-- The decoupling voltage of a set on an axis, in volts (R585). -/
def decouple (s : State) (m : Fin 4) (k : Fin 2) (q : Bool) : Rat :=
  let x := s.trx[m].sets[k]
  if s.getO (O.trxType m) = 3 then
    Config.speedTerms (if q then 1 else 0) (s.rlParams m) x.idIn x.iqIn s.ctx[setCtx m k].psiR (s.elecOmega m)
  else
    let w := s.elecOmega m
    if w = 0 then 0
    else if q then w * (s.getQ (O.trxLd m) * x.idIn + s.getQ (O.trxPsi m)) else -(w * s.getQ (O.trxLq m) * x.iqIn)

/-- The magnitude of a current context's last output in volts. -/
def voltMag (s : State) (c : Fin 64) : Rat :=
  let d : Rat := s.ctx[c].outc[0]
  let q : Rat := s.ctx[c].outc[1]
  sqrtQ (d * d + q * q) / 524288 * s.outFs c

/-- The linear limit: measured DC link / √3 (R164). -/
def linVolts (s : State) : Rat := s.dcl.vLink / sqrtQ 3

/-- The field-weakening ratio of 0x6011 (R585). -/
def fwRatio (s : State) (m : Fin 4) : Rat :=
  let v := (s.workSets m).foldl (fun a k => maxQ a (s.voltMag (setCtx m k))) 0
  if s.linVolts = 0 then (if v = 0 then 0 else 1) else v / s.linVolts

/-- The function inputs of a traction machine (R585). -/
def trxInput (s : State) (m : Fin 4) (c : Fin 64) (f : Nat) : Int :=
  let k : Fin 2 := ⟨f / 4 % 2, by omega⟩
  let q := f % 2 == 1
  if f < 8 then (let i := s.measDq m k; frac20 (if q then i.2 else i.1) (s.inFs c))
  else if f < 16 then frac20 (s.decouple m k q) (s.outFs c)
  else if f = 16 then frac20 ((s.getO (O.trxFwModTarget m) : Nat) / 1000) 1
  else if f = 17 then frac20 (s.fwRatio m) 1
  else if f = 18 then frac20 s.trx[m].speedRef (s.inFs c)
  else if f = 19 then frac20 s.trx[m].speed (s.inFs c)
  else 0

/-- The function inputs of the charger; legs 0 and 1 follow L1 in a single phase (R313, R316). -/
def chgInput (s : State) (f : Nat) : Int :=
  if f < 3 then
    (let i := s.outVal 19
     if s.chgMode = 3 then frac20 (i / 3) (s.inFs 16)
     else if i = 0 then 0 else frac20 (i * Config.lineSine (if s.chg.live = 1 ∧ f < 2 then 0 else f) s.now) (s.inFs 16))
  else if f = 3 then frac20 s.chgBusTarget (s.inFs 19)
  else if f = 4 then frac20 s.chgOutTarget (s.inFs 16)
  else if f = 5 then frac20 (s.getQ O.chgVPvRef) (s.inFs 19)
  else if f = 6 then sat20 524288
  else if f = 7 then frac20 (s.resFrac 291 * s.getQ O.chgDabN) (s.resFrac 290)
  else 0

/-- The mean sensed current of the active phases, as a fraction of `aux.iph_fs` (R348). -/
def auxMeanI (s : State) : Rat := meanQ (s.auxSensed.map fun k => s.resFrac (322 + k.val))

/-- A function input of a context: the chapter of its function group defines it (R179). -/
def fnInput (s : State) (c : Fin 64) (f : Nat) : Int :=
  if c.val < 8 then s.trxInput ⟨c.val / 2 % 4, by omega⟩ c f
  else if c.val < 16 then s.trxInput ⟨c.val % 4, by omega⟩ c f
  else if c.val < 22 then s.chgInput f
  else if c.val < 31 then
    (if f = 0 then frac20 (s.getQ O.auxVRef) (s.getQ O.auxVFs) else if f = 1 then frac20 (s.auxFf (s.getQ O.auxVRef)) 1
     else if f = 2 then frac20 s.auxMeanI 1 else 0)
  else if h : c.val < 37 then
    (let k : Fin 6 := ⟨c.val - 31, by omega⟩
     if f = 0 then frac20 (absQ s.amc[k].lim) (s.getQ (O.amcSpeedFs k)) else if f = 1 then frac20 (absQ (s.getQ (O.amcSpeed k))) (s.getQ (O.amcSpeedFs k))
     else 0)
  else if c.val = 37 then (if f = 0 then frac20 (s.getQ O.rpkIChg) (s.getQ O.rpkIFs) else 0)
  else 0

/-- The four source codes of a channel (R179). -/
def srcCode (s : State) (c : Fin 64) (ch off : Nat) : Nat := bitsOf (s.getO (O.lpeInputs c)) (64 * ch + 16 * off + 15) (64 * ch + 16 * off)

/-- A word arrives with its sample: the sources that can come after the sample instant (R180, R181). -/
def lateCode (c : Fin 64) (code : Nat) : Bool :=
  code / 4096 == 1 || code / 4096 == 5 || (decide (c.val < 8) && decide (0x6000 ≤ code) && decide (code < 0x6008))

/-- A stamp serves a sample: within 5 ns of the instant for KIND 1, within the preceding interval for KIND 2 (R180). -/
def stampServes (s : State) (c : Fin 64) (at_ stamp : Nat) : Bool :=
  let t := s.ctxGrid c
  if bitsOf t 31 30 = 2 then decide (stamp ≤ at_) && decide (at_ < stamp + (s.trigNominal t).floor.toNat)
  else decide (at_ ≤ stamp) && decide (stamp ≤ at_ + 4)

/-- The sources of a code have arrived for a sample (R181, R230, R246). -/
def arrived (s : State) (c : Fin 64) (at_ code : Nat) : Bool :=
  if code / 4096 = 1 then s.resOk (code % 4096) && s.stampServes c at_ (s.resAt (code % 4096))
  else if code / 4096 = 5 then
    (let p : Fin 4 := ⟨code / 4 % 4, by omega⟩
     if code % 4 = 0 then s.pos[p].wordA.testBit 31 && s.stampServes c at_ s.pos[p].wordAt
     else s.pos[p].wordS.testBit 31 && s.stampServes c at_ s.pos[p].speedAt)
  else if lateCode c code then
    (let m : Fin 4 := ⟨c.val / 2 % 4, by omega⟩
     let k : Fin 2 := ⟨code / 4 % 2, by omega⟩
     [phaseU m k, phaseV m k].all fun j => s.resOk j && s.stampServes c at_ (s.resAt j))
  else true

/-- The value of a source code now (R179). -/
def srcVal (s : State) (c : Fin 64) (code : Nat) : Int :=
  let f := code % 4096
  match code / 4096 with
  | 1 => s.resVal f
  | 2 => s.ctx[(⟨f / 4 % 64, by omega⟩ : Fin 64)].outc[(⟨f % 4, by omega⟩ : Fin 4)]
  | 3 =>
    let m : Fin 4 := ⟨f / 8 % 4, by omega⟩
    let r := s.trx[m].sets[(⟨f / 2 % 2, by omega⟩ : Fin 2)]
    frac20 (if f % 2 = 1 then r.iqIn else r.idIn) (s.inFs c)
  | 4 => s20Int (bitsOf (s.getO (O.lpeSp c)) (32 * (f % 4) + 31) (32 * (f % 4)))
  | 5 =>
    let p : Fin 4 := ⟨f / 4 % 4, by omega⟩
    toSigned 20 (bitsOf (if f % 4 = 0 then s.pos[p].wordA else s.pos[p].wordS) 19 0)
  | 6 => s.fnInput c f
  | _ => 0

/-- The codes of the used channels of a context. -/
def srcCodes (s : State) (c : Fin 64) : List Nat :=
  (List.range (s.ctxChans c)).flatMap fun ch => (List.range 4).map fun o => s.srcCode c ch o

/-- The inputs of a run whose codes `sel` names take the values their sources have now (R180). -/
def latchOne (s : State) (c : Fin 64) (off : Nat) (sel : Nat → Bool) (old : Vector Int 4) : Vector Int 4 :=
  Vector.ofFn fun k : Fin 4 =>
    let code := s.srcCode c k.val off
    if s.ctxChans c ≤ k.val then 0 else if sel code then s.srcVal c code else old[k]
def latch (s : State) (c : Fin 64) (r : Run) (sel : Nat → Bool) : Run :=
  { r with sp := s.latchOne c 0 sel r.sp, fb := s.latchOne c 1 sel r.fb, ff := s.latchOne c 2 sel r.ff, aux := s.latchOne c 3 sel r.aux }

/-- A run begins at its sample instant: it latches every input but those whose words are still to come (R180). -/
def runBegin (s : State) (c : Fin 64) (swapped : Bool) : Run :=
  let z : Vector Int 4 := Vector.replicate 4 0
  let wait := (s.srcCodes c).filter fun code => lateCode c code && !s.arrived c s.now code
  s.latch c { at_ := s.now, deadline := s.runDeadline c, sp := z, fb := z, ff := z, aux := z, missing := wait, laneAt := none, swapped }
    fun code => !wait.contains code

/-- A run takes those of its missing inputs that have arrived (R180, R181). -/
def runArrive (s : State) (c : Fin 64) (r : Run) : Run :=
  let got := r.missing.filter fun code => s.arrived c r.at_ code
  { s.latch c r (fun code => got.contains code) with missing := r.missing.filter fun code => !got.contains code }

/-- Words have reached CT: every run that waits for them takes its inputs (R180, R181). -/
def arrive (s : State) : State :=
  { s with ctx := Vector.ofFn fun c : Fin 64 => match s.ctx[c].run with
    | some r => { s.ctx[c] with run := some (s.runArrive c r) }
    | none => s.ctx[c] }

end State

end Sys2Proof.Machine
end

