-- ==== Sys2Proof/Machine/Traction.lean ====
section
/-! DEFINITION. The rows of chapters "Traction field control" and "Six-phase continuity". -/

namespace Sys2Proof.Machine

namespace State

/-! ### The torque tick (HF) -/

/-- The mechanical power of a machine in watts, positive when motoring, from its measured torque and speed. -/
def trxPower (s : State) (m : Fin 4) : Rat :=
  let t := s.getQ (O.trxTorqueEst m)
  let n := s.trx[m].speed
  if t = 0 ∨ n = 0 then 0 else t * n * 2 * piQ / 60

/-- The bound of the battery limits for a direction, none without a battery (R295; log 49). -/
def bmsBound (s : State) (m : Fin 4) (mot : Bool) : Option Rat :=
  if s.getO O.dclBattery = 0 then none
  else
    let lim := if s.dcl.bmsStale then 0 else s.getQ (if mot then O.dclBmsIDis else O.dclBmsIChg)
    let p := (List.finRange 4).map fun (k : Fin 4) => s.trxPower k
    let against := p.foldl (fun (a : Rat) x => if mot then (if x < 0 then a - x else a) else (if 0 < x then a + x else a)) 0
    let along := ((List.finRange 4).filter fun (k : Fin 4) => k == m || (if mot then decide (0 < s.trxPower k) else decide (s.trxPower k < 0))).length
    let w := lim * s.dcl.vLink + s.getQ O.auxPOut * 1000 + against + (if mot then s.chgOutPower else -s.chgOutPower)
    some (if w ≤ 0 then 0 else w / (along : Nat) * perWatt s.trx[m].speed)

/-- A derating term: 1 below the start, 0 at the end (R437). -/
def derate (start fin t : Rat) : Rat := if fin = start then 1 else clampQ ((fin - t) / (fin - start)) 0 1

/-- The junction term (R437). -/
def junctionTerm (s : State) : Rat :=
  let j := s.getQ O.thmJunction
  let f : Rat := (s.getO O.thmJFloor : Nat) / 1000
  if j < 140 then 1 else if 155 ≤ j then f else 1 - (1 - f) * (j - 140) / 15

/-- The smallest of the terms of valid channels. -/
def chanTerm (s : State) (start fin : Rat) (l : List Nat) (a : Rat) : Rat :=
  l.foldl (fun a t => match s.chanTemp t with
    | some x => minQ a (derate start fin x)
    | none => a) a

/-- The thermal factors of a machine, over the sets that carry its torque, and of the charger (R275, R437). -/
def trxFactor (s : State) (m : Fin 4) : Rat :=
  (s.carrySets m).foldl (fun a k =>
    s.chanTerm (s.getQ O.thmWndStart) (s.getQ O.thmWndEnd) [56 + 2 * m.val + k.val]
      (s.chanTerm (s.getQ O.thmDrvStart) (s.getQ O.thmDrvEnd) ((setLinks m k).map fun l => 16 + l.val) a)) s.junctionTerm
def chgThermal (s : State) : Rat :=
  s.chanTerm (s.getQ O.thmInletStart) (s.getQ O.thmInletEnd) [64]
    (s.chanTerm (s.getQ O.thmDrvStart) (s.getQ O.thmDrvEnd) ((List.range 7).map fun k => 40 + k) s.junctionTerm)

/-- `thm.factor` (R437). -/
def thermalFactors (s : State) : State :=
  s.setO O.thmFactor (leNat ((((List.finRange 4).map fun (m : Fin 4) => s.trxFactor m) ++ [s.chgThermal]).flatMap fun q => toLe 4 (f32Of q)))
def thermOf (s : State) (m : Fin 4) : Rat := f32Val (bitsOf (s.getO O.thmFactor) (32 * m.val + 31) (32 * m.val))

/-- The slow bound of a side with its sources, before and with a LIMIT override (R83, R155). -/
def slowSide (s : State) (m : Fin 4) (pos : Bool) : Bound :=
  s.slowBound m pos (s.bmsBound m (motoring s.trx[m].speed pos)) (s.thermOf m)

/-- The owner's request in the mode in force, and the object that holds it (R139, R162). -/
def reqId (s : State) (m : Fin 4) : Nat :=
  match s.getO (O.trxMode m) with
  | 0 => O.trxTorqueReq m
  | 1 => O.trxIqReq m
  | _ => O.trxSpeedReq m

/-- The direction rule clamps what the request asks for (R158). -/
def dirClamp (s : State) (m : Fin 4) (p n : Bound) : State :=
  let r := s.getQ (s.reqId m)
  let up := decide (p.v = 0) && p.src.testBit 7 && decide (0 < r)
  let dn := decide (n.v = 0) && n.src.testBit 7 && decide (r < 0)
  if s.trxSt m = 3 ∧ (up || dn) then (s.orO (O.trxFlags m) 4).raise 0x0384 (0x3800 + 0x100 * m) (if up then 1 else 0) else s

/-- One machine at the torque tick: envelope, request, eligibility of a lost set (R139, R155, R158, R279). -/
def tickMachine (s : State) (m : Fin 4) : State :=
  let p := s.slowSide m true
  let n := s.slowSide m false
  let s := s.dirClamp m p n
  let bp := s.sentBound m p
  let bn := s.sentBound m n
  let req := s.getQ (s.reqId m)
  let tgt := match s.getO (O.trxMode m) with
    | 0 => clampQ req (-bn.v) bp.v
    | 1 => req
    | _ => clampQ req (-(s.getQ (O.trxSpeedMaxRev m))) (s.getQ (O.trxSpeedMaxFwd m))
  (s.modTrx m fun t => { t with
    target := tgt, targetD := s.getQ (O.trxIdReq m), sentPos := bp.v, sentNeg := bn.v, srcPos := bp.src, srcNeg := bn.src }).eligStep m

/-- The torque tick of R139, with what the charger takes from it (R326). -/
def torqueTick (s : State) : State := (List.finRange 4).foldl (fun (s : State) m => s.tickMachine m) s.thermalFactors.chgTorqueTick

/-! ### The current-loop sample (CT) -/

/-- Speed and its validity from the active angle source (R141, R168, R386). -/
def takeSpeed (s : State) (m : Fin 4) : State :=
  let ok := s.onObserver m || s.portSpeedOk m
  let v : Rat := if s.onObserver m then s.ctx[s.obsCtx m].obsRpm
    else
      let p := s.getQ (O.posSpeed (s.port m))
      if s.getO (O.trxAngleInvert m) = 1 then -p else p
  ((s.modTrx m fun t => { t with speed := if ok then v else t.speed, speedOk := ok }).setQ (O.trxSpeed m) (if ok then v else 0)).parkWatch

/-- CT's evaluation of the rule: the object, the BY_SPEED drivers, EV_TRX_RULE (R122, R166). -/
def ruleCt (s : State) (m : Fin 4) : State :=
  let old := s.getO (O.trxRule m)
  let new := if s.ruleNext m s.trx[m].speed s.trx[m].speedOk (old == 1) then 1 else 0
  if new = old then s
  else ((s.setO (O.trxRule m) new).bySpeed m).raise 0x0385 (0x3800 + 0x100 * m) (new + (roundAway (absQ s.trx[m].speed)).toNat % 2 ^ 24 * 256)

/-- The observer's residual below its threshold (R168), and the port's angle within 5° of the observer's (R169). -/
def obsGood (s : State) (m : Fin 4) : Bool :=
  let c := s.obsCtx m
  s.ctxOn c && decide ((s20Int (bitsOf (s.getO (O.lpeResidual c)) 63 32) : Rat) < bankP (s.ctxBank c) 6 * 524288)
def portAgrees (s : State) (m : Fin 4) : Bool :=
  let p : Rat := (s.getO (O.posAngle (s.port m)) : Nat)
  let a := ((if s.getO (O.trxAngleInvert m) = 1 then -p else p) * (s.getO (O.trxPolePairs m) : Nat) + (s.getO (O.trxAngleOffset m) : Nat)) / 65536
  let d := a - (s.ctx[s.obsCtx m].obsAngle : Rat) / 65536
  let f := d - d.floor
  s.portAngleOk m && s.portSpeedOk m && (decide (f ≤ 1 / 72) || decide (71 / 72 ≤ f))
def watchAngle (s : State) (m : Fin 4) : State :=
  s.modTrx m fun t => { t with obsOk := heldSince s.now (s.obsGood m) t.obsOk, agree := heldSince s.now (s.portAgrees m) t.agree }

/-- The observer may take over (R147, R168). -/
def mayObserve (s : State) (m : Fin 4) : Bool :=
  s.getO (O.trxObsEnable m) == 1 && decide (s.getQ (O.trxObsSpeed m) ≤ absQ s.trx[m].speed) &&
    (match s.trx[m].obsOk with
     | some t => decide (t + 10 * msTicks ≤ s.now)
     | none => false)

/-- The angle source at a sample of a switching machine: takeover, or the fault of R168 and R169. -/
def angleWatch (s : State) (m : Fin 4) : State :=
  if !s.switching m then s
  else if s.onObserver m then
    if absQ s.trx[m].speed < s.getQ (O.trxObsSpeed m) - s.getQ (O.trxObsHyst m) then
      ((s.modTrx m fun t => { t with out := 0 }).setO (O.trxTorqueOut m) 0).trxFail m 6 3
    else s
  else if s.portFaulty m then
    if s.mayObserve m then
      (((s.setO (O.trxAngleSrc m) 1).orO (O.trxFlags m) 0x10).raise 0x0383 (0x3800 + 0x100 * m) 1).takeSpeed m
    else ((s.modTrx m fun t => { t with out := 0 }).setO (O.trxTorqueOut m) 0).trxFail m 6 2
  else s

/-- The field-weakening offset in amperes, and the flux factor of type 3 (R164, R585). -/
def fwOffset (s : State) (m : Fin 4) : Rat := clampQ (s.outVal (fwCtx m)) (s.getQ (O.trxFwIdMin m)) 0
def fluxFactor (s : State) (m : Fin 4) : Rat := clampQ (1 + s.outVal (fwCtx m)) (1 / 5) 1

/-- The current circle of R163. -/
def circle (s : State) (m : Fin 4) (id iq : Rat) : Rat :=
  let i := s.getQ (O.trxIMax m)
  let r := sqrtQ (i * i - id * id)
  if iq < 0 then -(minQ (-iq) r) else minQ iq r

/-- The references of a set for its share of the torque, and whether the law converged (R163). -/
def setRefs (s : State) (m : Fin 4) (k : Fin 2) (ts : Rat) : Rat × Rat × Bool :=
  let c : Rat := 3 / 2 * (s.getO (O.trxPolePairs m) : Nat)
  if s.getO (O.trxType m) = 3 then
    let id := s.getQ (O.trxIdMag m) * s.fluxFactor m
    let psi := s.ctx[setCtx m k].psiR
    let iq := if psi = 0 then 0 else ts / (c * (s.getQ (O.trxLm m) / s.getQ (O.trxLr m)) * psi)
    (id, s.circle m id iq, true)
  else
    let r := mtpa (s.getO (O.trxType m) == 1) (s.getQ (O.trxPsi m)) (s.getQ (O.trxLq m) - s.getQ (O.trxLd m)) c ts 8 s.trx[m].sets[k].iq
    let id := r.1 + s.fwOffset m
    (id, s.circle m id r.2.1, r.2.2)

/-- References written for a set: the loop takes the previous ones, and at the hand-over the new ones (R139, R273). -/
def putRefs (s : State) (m : Fin 4) (k : Fin 2) (id iq : Rat) : State :=
  let now := s.trx[m].handover
  s.modSet m k fun x => { x with idIn := if now then id else x.id, iqIn := if now then iq else x.iq, id, iq }

/-- The references of every working set from the limiter's output (R151, R163). -/
def refsFromTorque (s : State) (m : Fin 4) : State :=
  (s.workSets m).foldl (fun (s : State) k =>
    if s.trxSt m = 2 then s.putRefs m k (s.getQ (O.trxIdMag m)) 0
    else
      let r := s.setRefs m k (s.trx[m].out * s.share m k)
      (s.putRefs m k r.1 r.2.1).when (!r.2.2) fun s => s.orO (O.trxFlags m) 0x20) s

/-- Seconds since the machine's previous current-loop sample. -/
def sampleDt (s : State) (m : Fin 4) : Rat := ((s.now - s.trx[m].sampledAt : Nat) : Rat) / sTicks

/-- The output of the limiter toward a goal inside the bounds, or toward 0 at `stop_rate` (R156, R160, R162). -/
def limited (s : State) (m : Fin 4) (stop : Bool) (goal : Rat) (bp bn : Rat) : Rat :=
  let t := clampQ s.trx[m].out (-bn) bp
  let dt := s.sampleDt m
  if stop then toward 0 t (s.getQ (O.trxStopRate m) * dt)
  else limiter (s.getQ (O.trxZeroBand m)) (s.getQ (O.trxZeroRate m)) (s.getQ (O.trxSlewRate m)) (clampQ goal (-bn) bp) 4 t dt

/-- Mode CURRENT: the two requests behind their limiters, their torque held inside the bounds (R161, R162; log 50). -/
def currentMode (s : State) (m : Fin 4) (stop : Bool) (bp bn : Rat) : State :=
  let d := s.getQ (O.trxISlew m) * 1000 * s.sampleDt m
  let t := s.trx[m]
  let id := if stop then t.idRef else toward t.targetD t.idRef d
  let iq := if stop then t.iqRef else toward t.target t.iqRef d
  let raw := (s.workSets m).foldl (fun a k => a + s.setTorque m k id iq) 0
  let out := if stop then toward 0 (clampQ t.out (-bn) bp) (s.getQ (O.trxStopRate m) * s.sampleDt m) else clampQ raw (-bn) bp
  let q := if raw = 0 then (if stop then 0 else iq) else iq * out / raw
  let idw := if stop ∧ out = 0 then 0 else id
  let s := s.modTrx m fun t => { t with idRef := idw, iqRef := q, out }
  (s.workSets m).foldl (fun (s : State) k =>
    let i := idw + (if s.getO (O.trxType m) = 3 then 0 else s.fwOffset m)
    s.putRefs m k i (s.circle m i q)) s

/-- When the field-weakening output has stood at its lower clamp, and off it (R165). -/
def fwWatch (s : State) (m : Fin 4) : State :=
  let low := if s.getO (O.trxType m) = 3 then decide (s.fluxFactor m = 1 / 5) else decide (s.fwOffset m = s.getQ (O.trxFwIdMin m))
  let above := decide ((s.getO (O.trxFwModTarget m) : Nat) / 1000 < s.fwRatio m)
  s.modTrx m fun t => { t with fwAt := heldSince s.now (low && above) t.fwAt, fwOff := heldSince s.now (!low) t.fwOff }

/-- The torque stage of a switching machine at a sample (R139, R156 to R164, R302). -/
def torqueStage (s : State) (m : Fin 4) : State :=
  let bp := s.fastBound m true
  let bn := s.fastBound m false
  let s := s.showEnv m bp bn
  let stop := s.trx[m].aged || s.trxSt m == 4
  let s :=
    if s.trxSt m = 2 ∨ s.trx[m].ova then (s.modTrx m fun t => { t with out := 0 }).refsFromTorque m
    else if s.getO (O.trxMode m) = 1 then s.currentMode m stop bp.v bn.v
    else
      let t := s.trx[m]
      let spd := toward (if stop then t.speedRef else t.target) t.speedRef (s.getQ (O.trxAccel m) * s.sampleDt m)
      let s := if s.getO (O.trxMode m) = 2 then s.modTrx m fun t => { t with speedRef := spd } else s
      let goal := if s.getO (O.trxMode m) = 2 then s.outVal (spdCtx m) else t.target
      (s.modTrx m fun t => { t with out := s.limited m stop goal bp.v bn.v }).refsFromTorque m
  let s := (s.setQ (O.trxTorqueOut m) s.trx[m].out).setQ (O.trxTorqueEst m) (s.torqueEst m)
  let s := (s.fwWatch m).modTrx m fun t => { t with handover := false }
  if s.trxSt m = 4 ∧ s.trx[m].out = 0 then s.trxDisable m else s

/-- A request differs from where its limiter stands by more than one sample's step. -/
def stepOver (s : State) (m : Fin 4) (at_ rate goal : Rat) : Bool :=
  decide (rate * (s.trigNominal (s.ctxTrigger (setCtx m 0)) / sTicks) < absQ (goal - at_))

/-- The torque of a pair of current requests over the working sets (R161, R163; log 50). -/
def torqueAt (s : State) (m : Fin 4) (id iq : Rat) : Rat := (s.workSets m).foldl (fun a k => a + s.setTorque m k id iq) 0

/-- A torque lies outside the envelope in force (R161; log 86). -/
def outsideEnv (s : State) (m : Fin 4) (t : Rat) : Bool := decide (s.getQ (O.trxEnvPos m) < t) || decide (t < -(s.getQ (O.trxEnvNeg m)))

/-- A request of a machine is LIMITED (R157, R161; log 86). -/
def trxLimited (s : State) (m : Fin 4) (o : Nat) (q : Rat) : Bool :=
  let mode := s.getO (O.trxMode m)
  let t := s.trx[m]
  if o = 0x20 ∧ mode = 0 then
    let inside := decide (absQ t.out < s.getQ (O.trxZeroBand m)) ||
      (decide (t.out ≠ 0) && decide (absQ t.out = s.getQ (O.trxZeroBand m)) && sgn (q - t.out) == -(sgn t.out))
    let rate := s.getQ (if inside then O.trxZeroRate m else O.trxSlewRate m)
    s.outsideEnv m q || s.stepOver m t.out rate q
  else if o = 0x21 ∧ mode = 1 then
    s.outsideEnv m (s.torqueAt m q (s.getQ (O.trxIqReq m))) || s.stepOver m t.idRef (s.getQ (O.trxISlew m) * 1000) q
  else if o = 0x22 ∧ mode = 1 then
    s.outsideEnv m (s.torqueAt m (s.getQ (O.trxIdReq m)) q) || s.stepOver m t.iqRef (s.getQ (O.trxISlew m) * 1000) q
  else if o = 0x23 ∧ mode = 2 then
    decide (s.getQ (O.trxSpeedMaxFwd m) < q) || decide (q < -(s.getQ (O.trxSpeedMaxRev m))) || s.stepOver m t.speedRef (s.getQ (O.trxAccel m)) q
  else false

/-- Timed torque requests that are due (R154): argument machine, torque bits, apply time, 1 once at CT. The spec does not say what
becomes of one when the machine leaves ENABLED: it stays held, and is applied in STOPPING too (log 118). A LIMITED one says so by an
EV_CMD_REASON of REASON 0 whose ARG is the RESULT of SET_OBJ, for which EV_CMD_DONE has no place (log 117). -/
def timedApply (s : State) (m : Fin 4) : State :=
  (s.disp.held.filter fun (p : Held) => p.code == 0x0312 && p.group == some m.val).foldl (fun (s : State) (p : Held) =>
    match p.arg with
    | [_, v, at_, 1] =>
      if at_ ≤ s.now then
        let lim := s.trxLimited m 0x20 (f32Val v)
        let s := (s.setO (O.trxTorqueReq m) v).modTrx m fun t => { t with target := f32Val v }
        (s.modDisp fun d => { d with held := d.held.erase p }).endHeld p St.ok (if lim then some (0, 1) else none)
      else s
    | _ => s) s

/-- The angle of a type 3 machine at a sample: the rotor's, from the port, or from the observer's speed; and the slip's (R163, R169;
log 26). -/
def flowAngle (s : State) (m : Fin 4) : State :=
  if s.getO (O.trxType m) ≠ 3 then s
  else
    let dt := s.sampleDt m
    let k := (s.workSets m).headD 0
    let w := Config.slipSpeed (s.rlParams m) s.trx[m].sets[k].iqIn s.ctx[setCtx m k].psiR
    let turns := s.trx[m].speed / 60 * (s.getO (O.trxPolePairs m) : Nat) * dt
    let rotor := if s.onObserver m then s.trx[m].rotor + turns else if s.portAngleOk m then s.portElec m else s.trx[m].rotor
    s.modTrx m fun t => { t with rotor, slip := t.slip + w * dt }

/-- Where the observer's angle and speed come from, as a sample takes it: S0 while it switches, else S1 (R274; log 190). -/
def obsSource (s : State) (m : Fin 4) : State :=
  let s0 := s.setSt m 0 == 0 || s.setSt m 0 == 2 && s.trx[m].sets[(0 : Fin 2)].rampAt.isSome
  s.modTrx m fun t => { t with obsS1 := !s0 && s.setWorks m 1 }

/-- A current-loop sample of a machine (R139); `torque_est` follows the measured currents in every state (R165). -/
def tractionSample (s : State) (m : Fin 4) : State :=
  let s := (((((s.obsSource m).flowAngle m).takeSpeed m).ruleCt m).watchAngle m).angleWatch m
  let s := if s.switching m then (s.timedApply m).torqueStage m
    else ((s.setQ (O.trxTorqueOut m) 0).setQ (O.trxTorqueEst m) (s.torqueEst m)).modTrx m fun t => { t with out := 0 }
  ((s.modTrx m fun t => { t with sampledAt := s.now }).eligStep m).sendSafe

/-! ### Enable -/

/-- The first parameter rule of R148 that does not hold: the object it names. -/
def paramBad (s : State) (m : Fin 4) : Option Nat :=
  let q (f : Nat → Nat) : Rat := s.getQ (f m)
  let ty := s.getO (O.trxType m)
  let pm := ty == 1 || ty == 2
  let top := maxQ (q O.trxSpeedMaxFwd) (q O.trxSpeedMaxRev)
  let l : List (Bool × Nat) := [
    (ty == 0, O.trxType m), (pm && decide (q O.trxPsi ≤ 0), O.trxPsi m), (pm && decide (q O.trxLd ≤ 0), O.trxLd m),
    (pm && decide (q O.trxLq ≤ 0), O.trxLq m), (ty == 2 && decide (q O.trxLq ≤ q O.trxLd), O.trxLq m),
    (ty == 1 && decide (q O.trxLq ≠ q O.trxLd), O.trxLq m), (ty == 3 && decide (q O.trxLm ≤ 0), O.trxLm m),
    (ty == 3 && decide (q O.trxRr ≤ 0), O.trxRr m), (ty == 3 && decide (q O.trxIdMag ≤ 0), O.trxIdMag m),
    (ty == 3 && decide (q O.trxLr ≤ q O.trxLm), O.trxLr m), (ty == 3 && decide (q O.trxLd ≤ q O.trxLm), O.trxLd m),
    (decide (q O.trxRs ≤ 0), O.trxRs m), (decide (q O.trxIMax ≤ 0), O.trxIMax m), (decide (q O.trxIMax < q O.trxIdMag), O.trxIdMag m),
    (s.bitO (O.trxDirAllow m) 0 && decide (q O.trxSpeedMaxFwd ≤ 0), O.trxSpeedMaxFwd m),
    (s.bitO (O.trxDirAllow m) 1 && decide (q O.trxSpeedMaxRev ≤ 0), O.trxSpeedMaxRev m),
    (decide (q O.trxSpeedTrip < top + q O.trxSpeedTaper) || decide (120000 < q O.trxSpeedTrip * (s.getO (O.trxPolePairs m) : Nat)), O.trxSpeedTrip m),
    (pm && decide (q O.trxAscSpeed ≤ q O.trxAscHyst), O.trxAscHyst m), (decide (q O.trxObsSpeed ≤ q O.trxObsHyst), O.trxObsHyst m)]
  (l.find? fun x => x.1).map (·.2)

/-- The configured sets of a machine, a set whose links are all READY, and the sets an enable starts (R147, R149). -/
def confSets (s : State) (m : Fin 4) : List (Fin 2) := if s.getO (O.trxSets m) = 3 then [0, 1] else [0]
def setReady (s : State) (m : Fin 4) (k : Fin 2) : Bool := (setLinks m k).all fun l => s.countsReady l
def startSets (s : State) (m : Fin 4) : List (Fin 2) :=
  let ok := (s.confSets m).filter fun k => s.setReady m k
  if ok.length = (s.confSets m).length ∨ s.getO (O.trxStartSingle m) = 1 then ok else []
def notReady (s : State) (m : Fin 4) : Nat := (((s.confSets m).flatMap fun k => setLinks m k).find? fun l => !s.countsReady l).elim 0 (·.val)

/-- The driver of the machine without ASC_HIGH (R147, check 7). -/
def noAscHigh (s : State) (m : Fin 4) : Option (Fin 40) :=
  if s.getO (O.trxAscSide m) = 1 then ((s.confSets m).flatMap fun k => setLinks m k).find? fun l => !s.links[l].caps.testBit 2 else none

/-- The contexts that an enable turns ON. -/
def enableCtxs (s : State) (m : Fin 4) : List (Fin 64) :=
  (s.startSets m).map (setCtx m) ++ [fwCtx m] ++ (if s.getO (O.trxMode m) = 2 then [spdCtx m] else [])

/-- The checks of R147 in table order, and the admission of R185. The model's choice, where R147's table has no line for it: the admission's
ST_REFUSED 0x0101 comes before check 9's ST_REFUSED 0x0003 (log 189). -/
def enableChecks (s : State) (m : Fin 4) : List Chk :=
  [chkR (s.trxSt m != 0) St.state 0x0100 (s.trxSt m),
   chkR (s.paramBad m).isSome St.state 0x0104 ((s.paramBad m).getD 0),
   chkR s.clk.lossActive St.state 0x0105, chkR s.tripLatched St.state 0x0106,
   chkR (s.getO O.dclState != 4) St.state 0x0102 ((roundAway s.dcl.vLink).toNat % 65536),
   chkR (s.startSets m).isEmpty St.state 0x0101 (s.notReady m),
   chkR (s.noAscHigh m).isSome St.state 0x0108 ((s.noAscHigh m).elim 0 (·.val)),
   chkR (!((s.portAngleOk m && s.portSpeedOk m) || s.mayObserve m)) St.state 0x0103 (s.port m)] ++
    s.chkAdmit ((s.enableCtxs m).map (·.val)) ++ [chkOverride s m 2]

/-- The contexts of a machine loaded at ENABLING: bank A, units of R585, integrators 0 (R150). A scheduled swap stays scheduled (R192). -/
def loadCtxs (s : State) (m : Fin 4) : State :=
  let s := (trxCtxs m).foldl (fun (s : State) (c : Fin 64) => (s.clrO (O.lpeStatus c) 0x4000).modCtx c fun x => { x with integ := Vector.replicate 4 0 }) s
  let fw := if s.getO (O.trxType m) = 3 then 0x3F800000 else s.getO (O.trxIMax m)
  let tq := f32Of (maxQ (s.getQ (O.trxTorqueLimitPos m)) (s.getQ (O.trxTorqueLimitNeg m)))
  let s := s.setO (O.lpeUnits (fwCtx m)) (0x3F800000 + fw * 2 ^ 32)
  let s := s.setO (O.lpeUnits (spdCtx m)) (s.getO (O.posSpeedFs (s.port m)) + tq * 2 ^ 32)
  [fwCtx m, spdCtx m].foldl (fun (s : State) (c : Fin 64) => (s.modCtx c fun x => { x with outc := Vector.replicate 4 0 }).showOut c) s

/-- A machine enters ENABLING; its references are those of the state that follows (R146, R149 to R151; log 116). -/
def enableBegin (s : State) (m : Fin 4) : State :=
  let starts := (s.startSets m).foldl (fun a k => a + 2 ^ k.val) 0
  let id := if s.getO (O.trxType m) = 3 then s.getQ (O.trxIdMag m) else 0
  let s := ((s.takeSpeed m).loadCtxs m).modTrx m fun t => { t with
    slip := 0, rotor := s.portElec m, sets := t.sets.map fun x => { x with id, iq := 0, idIn := id, iqIn := 0 } }
  let s := (s.confSets m).foldl (fun (s : State) k => s.presetCtx m k) s
  ((s.modTrx m fun t => { t with preset := 1, starts, ascHold := false, ova := false }).trxSet m 1).chgDrive m

def onTrx (c : Cmd) (s : State) (f : Fin 4 → State × Reply) : State × Reply :=
  if h : trxArg c < 4 then f ⟨trxArg c, h⟩ else (s, .bare St.range)
def trxCommon (s : State) (c : Cmd) (power : Bool) : List Chk :=
  [chkLc s power false, chkRole s c 1, chkOwn s c (trxArg c), chkIl s (some (trxArg c))]

/-- TRX_ENABLE (R147, R170). -/
def trxEnable (c : Cmd) (s : State) : State × Reply :=
  let own := if h : trxArg c < 4 then s.enableChecks ⟨trxArg c, h⟩ else []
  s.guarded (byRank ([chkLen c 4, chk (s.trxBad (trxArg c)) St.range, chkZero c 1 3] ++ s.trxCommon c true ++ own)) fun s =>
    onTrx c s fun m => ((s.hold c (some m.val) [m.val]).enableBegin m, .pending)

/-- TRX_DISABLE (R152, R153). -/
def trxDisableCmd (c : Cmd) (s : State) : State × Reply :=
  let mode := fieldAt c.payload 1 1
  s.guarded ([chkLen c 4, chk (s.trxBad (trxArg c) || 2 < mode) St.range, chkZero c 2 2] ++ s.trxCommon c false) fun s => onTrx c s fun m =>
    let n := absQ s.trx[m].speed
    let ty := s.getO (O.trxType m)
    if s.trxSt m = 5 then (s, .err St.state 0x0100 5)
    else if s.trxSt m = 6 then ((s.setO (O.trxFault m) 0).trxSet m 0, .ok)
    else if mode = 1 ∧ (ty = 1 ∨ ty = 2) ∧ s.getQ (O.trxAscSpeed m) ≤ n then (s, .err St.refused 0x0107 ((roundAway n).toNat % 65536))
    else if mode = 0 then (s.trxStopReq m, .ok)
    else
      let s := if s.trxSt m = 0 then s else s.trxDisable m
      (s.modTrx m fun t => { t with ascHold := mode == 2 && ty != 3 }, .ok)

/-- A torque exceeds what a LIMIT override leaves (R84, R161). A speed request asks for no torque, so none exceeds it (log 120). -/
def overLimit (s : State) (m : Fin 4) (v : Rat) : Bool :=
  s.override m == 1 && (decide ((s.sentBound m (s.slowSide m true)).v < v) || decide (v < -(s.sentBound m (s.slowSide m false)).v))

/-- A new request of a machine: its age starts anew, pending timed requests end with ST_STATE (R154, R162). -/
def newRequest (s : State) (m : Fin 4) : State :=
  (s.endAll (fun p => p.code == 0x0312 && p.group == some m.val) St.state).modTrx m fun t => { t with reqAt := s.now, aged := false }

/-- TRX_SET_TORQUE_AT (R38, R154, R170). -/
def setTorqueAt (c : Cmd) (s : State) : State × Reply :=
  let v := fieldAt c.payload 4 4
  let at_ := fieldAt c.payload 8 8
  s.guarded ([chkLen c 16, chk (s.trxBad (trxArg c) || f32Refused v || decide (s.now + 2 ^ 32 < at_)) St.range, chkZero c 1 3] ++
      s.trxCommon c false) fun s => onTrx c s fun m =>
    if s.trxSt m ≠ 3 ∨ s.getO (O.trxMode m) ≠ 0 then (s, .bare St.state)
    else if s.overLimit m (f32Val v) then (s, .err St.refused 0x0003 m.val)
    else ((s.newRequest m).hold c (some m.val) [m.val, v, at_, 0] true, .pending)

/-- The oldest timed request on its way reaches CT (R38). -/
def timedAtCt (s : State) : State :=
  match s.disp.held.find? fun (p : Held) => p.code == 0x0312 && p.arg.getLast? == some 0 with
  | none => s
  | some p =>
    match p.arg with
    | [m, v, at_, _] =>
      if at_ < s.now then
        ((s.modDisp fun d => { d with held := d.held.erase p }).endHeld p St.late none).raiseLate 4 (O.trxTorqueReq m) at_
      else s.modDisp fun d => { d with held := d.held.map fun (q : Held) => if q = p then { q with arg := [m, v, at_, 1] } else q }
    | _ => s

/-! ### First planned periods -/

/-- The carrier group of a machine. -/
def trxCg (m : Fin 4) : Fin 8 := ⟨m.val, by omega⟩

/-- The presets of a machine reach CT: the first planned period is chosen once and RELEASE scheduled; a returning set's links keep their
action until then (R150, R270, R280, R303). -/
def presetAtCt (s : State) (m : Fin 4) : State :=
  let p := s.firstPeriod (trxCg m)
  let s :=
    if s.trx[m].preset = 0 then s
    else
      let ks := if s.trx[m].preset = 1 then ([0, 1] : List (Fin 2)).filter fun k => s.trx[m].starts.testBit k.val else s.workSets m
      let s := if s.trx[m].preset = 2 then ks.foldl (fun (s : State) k => s.presetCtx m k) s else s
      let s := ks.foldl (fun (s : State) k => s.trxUpdate m k) s
      (s.modTrx m fun t => { t with preset := 0, period := some p }).releaseLegs (ks.flatMap fun k => setLinks m k) p
  ([0, 1] : List (Fin 2)).foldl (fun (s : State) k =>
    if s.trx[m].sets[k].preset then
      let s := (((s.presetCtx m k).trxUpdate m k).modSet m k fun x => { x with preset := false, period := some p }).releaseLegs (setLinks m k) p
      (setLinks m k).foldl (fun (s : State) l => s.modLink l fun x => { x with forceLoss := true }) s
    else s) s

/-- The first planned period of an enable (R149 to R151). -/
def enableEnd (s : State) (m : Fin 4) : State :=
  let starts := ([0, 1] : List (Fin 2)).filter fun k => s.trx[m].starts.testBit k.val
  let s := s.modTrx m fun t => { t with period := none, sampledAt := s.now, fwAt := none, fwOff := none, fwBound := none, handover := false }
  let s := ([0, 1] : List (Fin 2)).foldl (fun (s : State) k => s.putSetSt m k (if (s.confSets m).contains k then 0 else 3)) s
  let s := (starts.map (setCtx m) ++ [fwCtx m] ++ (if s.getO (O.trxMode m) = 2 then [spdCtx m] else [])).foldl (fun (s : State) (c : Fin 64) => s.ctxStart c) s
  let s := ((s.confSets m).filter fun k => !starts.contains k).foldl (fun (s : State) k =>
    (((s.recordLoss m k 5 0 0xFF).forceLegs (setLinks m k) true).ctxStop (setCtx m k)).sendSafe) s
  let s := if s.getO (O.trxType m) = 3 then (s.modTrx m fun t => { t with magAt := s.now, out := 0 }).trxSet m 2 else s.enterEnabled m
  let s := s.endTrx m 0x0310 St.ok
  starts.foldl (fun (s : State) k => match (setLinks m k).find? fun l => s.links[l].st == .lost with
    | some l => s.setLost m k 2 0 l
    | none => s) s

/-- A RETURNING set begins to switch: its ramp starts (R280). -/
def rampStart (s : State) (m : Fin 4) (k : Fin 2) : State :=
  (s.modSet m k fun x => { x with period := none, rampAt := some s.now }).ctxStart (setCtx m k)

/-- A first planned period begins (R150, R280, R303); a return that OVA broke into goes on with the machine (log 53). -/
def firstPlanned (s : State) (m : Fin 4) : State :=
  let due (p : Option Nat) : Bool := match p with
    | some t => decide (t ≤ s.now)
    | none => false
  let s :=
    if !due s.trx[m].period then s
    else if s.trxSt m = 1 then s.enableEnd m
    else
      let s := (s.modTrx m fun t => { t with period := none, ova := false, out := 0 }).setO (O.trxTorqueOut m) 0
      ([0, 1] : List (Fin 2)).foldl (fun (s : State) k =>
        if s.setSt m k == 2 && s.trx[m].sets[k].rampAt.isNone then s.rampStart m k else s) s
  ([0, 1] : List (Fin 2)).foldl (fun (s : State) k =>
    if due s.trx[m].sets[k].period && s.setSt m k == 2 then s.rampStart m k else s) s

/-- The end of magnetising (R151). -/
def magnetised (s : State) (m : Fin 4) : State :=
  let lr := s.getQ (O.trxLr m)
  let rr := s.getQ (O.trxRr m)
  if s.trxSt m = 2 ∧ 3 * lr * sTicks ≤ rr * (s.now - s.trx[m].magAt : Nat) then s.enterEnabled m else s

/-! ### Timers -/

/-- The set-point age expires (R162). -/
def setpointAged (s : State) (m : Fin 4) : State :=
  let age := s.now - s.trx[m].reqAt
  if s.trxSt m = 3 ∧ s.trx[m].aged = false ∧ s.getO (O.trxSpAge m) * msTicks < age then
    ((s.modTrx m fun t => { t with aged := true }).orO (O.trxFlags m) 2).raise 0x0381 (0x3800 + 0x100 * m) (age / msTicks)
  else s

/-- The voltage bound engages, and is released (R165). -/
def fwEngage (s : State) (m : Fin 4) : State :=
  match s.trx[m].fwAt with
  | some t =>
    if s.switching m ∧ s.trx[m].fwBound = none ∧ t + 10 * msTicks ≤ s.now then
      let b := absQ ((s.workSets m).foldl (fun a k => a + s.setTorque m k s.trx[m].sets[k].id s.trx[m].sets[k].iq) 0)
      ((s.modTrx m fun t => { t with fwBound := some b }).orO (O.trxFlags m) 8).raise 0x0382 (0x3800 + 0x100 * m) (roundAway b).toNat
    else s
  | none => s
def fwRelease (s : State) (m : Fin 4) : State :=
  match s.trx[m].fwOff with
  | some t => if s.trx[m].fwBound.isSome ∧ t + 10 * msTicks ≤ s.now then s.modTrx m fun t => { t with fwBound := none } else s
  | none => s

/-- The return to the port angle (R169). -/
def observerReturn (s : State) (m : Fin 4) : State :=
  match s.trx[m].agree with
  | some t =>
    if s.onObserver m ∧ t + 100 * msTicks ≤ s.now then ((s.setO (O.trxAngleSrc m) 0).raise 0x0383 (0x3800 + 0x100 * m) 0).takeSpeed m else s
  | none => s

/-! ### The return of a set -/

/-- A set that may return without a command (R279). -/
def autoReturn (s : State) (m : Fin 4) (k : Fin 2) : State :=
  let v := s.getO (O.trxSsState m)
  let cause := bitsOf v (11 + 4 * k.val) (8 + 4 * k.val)
  let fault := bitsOf v (23 + 8 * k.val) (16 + 8 * k.val)
  let byHand := cause == 3 || (cause == 1 && (fault.testBit 7 || fault.testBit 6 || fault.testBit 2))
  let thrice := match s.trx[m].sets[k].lossAt with
    | [a, _, c] => decide (a < c + 60 * sTicks)
    | _ => false
  match s.trx[m].sets[k].eligible with
  | some t =>
    if s.setSt m k = 1 ∧ s.getO (O.trxSsAutoReturn m) = 1 ∧ (s.returnBar m k).isNone ∧ byHand = false ∧ thrice = false ∧
        t + s.getO (O.trxSsReturnHold m) * msTicks ≤ s.now then s.returnStart m k
    else s
  | none => s

/-- TRX_SET_RETURN (R283). -/
def setReturn (c : Cmd) (s : State) : State × Reply :=
  let n := fieldAt c.payload 1 1
  s.guarded ([chkLen c 4, chk (3 < trxArg c || 1 < n) St.range, chkZero c 2 2] ++ s.trxCommon c false) fun s => onTrx c s fun m =>
    let k : Fin 2 := if n = 1 then 1 else 0
    s.guarded [chkR (s.trxSt m != 3) St.state 0x0100 (s.trxSt m), chkR (s.setSt m k != 1) St.state 0x0110,
               chkR (s.returnBar m k).isSome St.state 0x0111 ((s.returnBar m k).getD 0)] fun s =>
      ((s.hold c (some m.val) [m.val, k.val]).returnStart m k, .pending)

/-- The share ramp of a return ends (R280). -/
def rampEnd (s : State) (m : Fin 4) (k : Fin 2) : State :=
  match s.trx[m].sets[k].rampAt with
  | some t =>
    if s.setSt m k = 2 ∧ t + s.getO (O.trxSsReturnRamp m) * msTicks ≤ s.now then
      let s := ((s.putSetSt m k 0).modSet m k fun x => { x with rampAt := none }).raise 0x0387 (0x3800 + 0x100 * m) (2 * 256 + k) k
      s.endAll (fun p => p.code == 0x0313 && p.arg == [m.val, k.val]) St.ok
    else s
  | none => s

end State

/-! ### The rows -/

def execTorqueTick (s : State) : Host.Outcome State Fault Refusal := .next s.torqueTick

def execTractionSample (m : Fin 4) (s : State) : Host.Outcome State Fault Refusal := .next (s.tractionSample m)

def execObserverReturn (m : Fin 4) (s : State) : Host.Outcome State Fault Refusal := .next (s.observerReturn m)

def execSetpointAged (m : Fin 4) (s : State) : Host.Outcome State Fault Refusal := .next (s.setpointAged m)

def execFwLimitEngage (m : Fin 4) (s : State) : Host.Outcome State Fault Refusal := .next (s.fwEngage m)

def execFwLimitRelease (m : Fin 4) (s : State) : Host.Outcome State Fault Refusal := .next (s.fwRelease m)

def execTimedRequestAtCt (s : State) : Host.Outcome State Fault Refusal := .next s.timedAtCt

def execPresetAtCt (m : Fin 4) (s : State) : Host.Outcome State Fault Refusal := .next (s.presetAtCt m)

def execFirstPlannedPeriod (m : Fin 4) (s : State) : Host.Outcome State Fault Refusal := .next (s.firstPlanned m)

def execMagnetisingEnd (m : Fin 4) (s : State) : Host.Outcome State Fault Refusal := .next (s.magnetised m)

def execTrxEnable (s : State) : Host.Outcome State Fault Refusal := .next (s.runCmd 0x0310 State.trxEnable)

def execTrxDisable (s : State) : Host.Outcome State Fault Refusal := .next (s.runCmd 0x0311 State.trxDisableCmd)

def execTrxSetTorqueAt (s : State) : Host.Outcome State Fault Refusal := .next (s.runCmd 0x0312 State.setTorqueAt)

def execTrxSetReturn (s : State) : Host.Outcome State Fault Refusal := .next (s.runCmd 0x0313 State.setReturn)

def execSetAutoReturn (m : Fin 4) (set : Fin 2) (s : State) : Host.Outcome State Fault Refusal := .next (s.autoReturn m set)

def execReturnRampEnd (m : Fin 4) (set : Fin 2) (s : State) : Host.Outcome State Fault Refusal := .next (s.rampEnd m set)

end Sys2Proof.Machine
end

