-- ==== Sys2Proof/Machine/ObjCheck.lean ====
section
/-! DEFINITION. The checks of an object write that rest on more than a constant range (R9, R10, R12, R18 and the rules named
below). Each takes the state `s` before and the state `t` that the whole write would leave, so that a batch is checked on the
values that would result. -/

namespace Sys2Proof.Machine

/-- ST_RANGE and ST_BAD_COUNT without REASON. -/
def rng? (bad : Bool) : Chk := chk bad St.range
def cnt? (bad : Bool) : Chk := chk bad St.badCount

/-- A state that bars the write: ST_STATE, REASON 0x0100 (R63). -/
def st? (bad : Bool) (arg : Nat := 0) : Chk := chkR bad St.state 0x0100 arg

/-- An F32 value lies in a range. -/
def qIn (lo x hi : Rat) : Bool := decide (lo ≤ x) && decide (x ≤ hi)

/-- The range of a row (R8 to R10, R18). -/
def rangeChks (r : ObjRow) (v : Nat) : List Chk :=
  (match r.ty with
   | .s20 => [rng? (v != s20Bits (s20Int v))]
   | .f32 => [rng? (f32Refused v)]
   | _ => []) ++
  (match r.rng with
   | .any => []
   | .rng lo hi => [rng? (v < lo || hi < v)]
   | .rngOr lo hi other => [rng? ((v < lo || hi < v) && v != other)]
   | .cnt lo hi => [cnt? (v == 0), rng? (v < lo || hi < v)]
   | .mask m => [rng? (v &&& m != v)]
   | .oneOf l => [rng? (!l.contains v)]
   | .fr lo hi => [rng? (!qIn ((lo : Rat) / 1000) (f32Val v) ((hi : Rat) / 1000))]
   | .sq lo hi => [rng? (decide (s20Int v < lo) || decide (hi < s20Int v))])

/-- A trigger word (R177); `none0`: KIND 0 is legal. -/
def trigChks (w : Nat) (none0 : Bool) : List Chk :=
  match bitsOf w 31 30 with
  | 0 => [rng? (!none0)]
  | 1 => [cnt? (bitsOf w 23 16 == 0), rng? (bitOf w 29 || bitsOf w 25 24 == 0 || bitsOf w 15 0 != 0)]
  | 2 => [cnt? (bitsOf w 29 0 == 0), rng? (bitsOf w 29 0 < 1000)]
  | _ => [rng? true]

namespace State

/-! ### Hosts, pins, power, temperature, security -/

def sysChks (t : State) (b v : Nat) : List Chk :=
  if b = 0x102 then [rng? ((toLe 64 v).any fun x => 3 < x.toNat)]
  else if b = 0x106 then [rng? (v < 1024 || v == t.getO O.netPgPort)]
  else []

/-- Filters and slew classes of the pin groups (R558, R561). -/
def pinChks (b i v : Nat) : List Chk :=
  if b = 0x300 then
    [rng? (200 < v || (15 ≤ i && i ≤ 22 && v != 0) || (26 ≤ i && !(([0, 10, 20, 40, 100, 200] : List Nat).contains v)))]
  else [rng? (((11 ≤ i && i ≤ 14) || i == 24 || 26 ≤ i) && v != 0)]

def thmChks (t : State) (b : Nat) : List Chk :=
  if b = 0x140B then [rng? (!qIn (t.getQ O.thmDrvStart) (t.getQ O.thmDrvEnd) 175 || t.getQ O.thmDrvEnd == t.getQ O.thmDrvStart)]
  else if b = 0x140D then [rng? (!qIn (t.getQ O.thmWndStart) (t.getQ O.thmWndEnd) 250 || t.getQ O.thmWndEnd == t.getQ O.thmWndStart)]
  else if b = 0x140F then [rng? (!qIn (t.getQ O.thmInletStart) (t.getQ O.thmInletEnd) 130 || t.getQ O.thmInletEnd == t.getQ O.thmInletStart)]
  else []

/-- Sensors 1 to 5 can be disabled only in VENDOR (R493); `sec.hpn_key` lives in the Mordant store (R455, R502). -/
def secChks (s : State) (b v : Nat) : List Chk :=
  if b = 0x180B then
    [rng? (63 < v), chk (s.lc != 0 && (List.range 6).any fun k => k != 0 && s.bitO O.secTamperEnable k && !v.testBit k) St.locked]
  else if b = 0x180A then [chk s.mordantFailed St.fault]
  else []

/-! ### Networks (R460 to R478) -/

/-- The 80 MHz clock realises a bit rate within 0.5 % (R462), and a sample point at that rate. -/
def rateOk (r : Nat) : Bool :=
  let n := (160000000 + r) / (2 * r)
  n != 0 && decide ((80000000 - n * r) * 200 ≤ n * r) && decide ((n * r - 80000000) * 200 ≤ n * r)
def pointOk (r p : Nat) : Bool :=
  let n := (160000000 + r) / (2 * r)
  (List.range (n + 1)).any fun k => decide ((100 * k - p * n) * 200 ≤ p * n) && decide ((p * n - 100 * k) * 200 ≤ p * n)
def canRates (t : State) (i : Nat) : List Chk :=
  let r := t.getO (O.netCanNomRate i)
  let d := t.getO (O.netCanDataRate i)
  let a := bitsOf (t.getO (O.netCanSample i)) 15 8
  let b := bitsOf (t.getO (O.netCanSample i)) 7 0
  [rng? (!(([125000, 250000, 500000, 1000000] : List Nat).contains r)), rng? (d < 500000 || 20000000 < d), rng? (!rateOk d),
   rng? (a < 60 || 90 < a || b < 60 || 90 < b), rng? (!pointOk r a || !pointOk d b)]

/-- A map entry (R475). -/
def mapChks (s : State) (v : Nat) : List Chk :=
  let flags := bitsOf v 7 0
  let row := s.rowOf (bitsOf v 79 64)
  let sc := bitsOf v 159 128
  let off := bitsOf v 191 160
  [chk row.isNone St.badObj,
   cnt? (bitsOf v 103 96 == 0),
   rng? (15 < flags || 7 < bitsOf v 23 16 || bitsOf v 63 50 != 0 || 65503 < bitsOf v 95 80 || 32 < bitsOf v 103 96 ||
     f32Val sc == 0 || bitsOf sc 30 23 == 255 || bitsOf off 30 23 == 255),
   chk (!flags.testBit 0 && (match row with
     | some (r, _) => !r.roles.testBit 0 || r.acc == .ro
     | none => false)) St.denied,
   chk (flags.testBit 0 && (match row with
     | some (r, _) => r.acc == .wo
     | none => false)) St.denied]

def netChks (s t : State) (b i v : Nat) (rc : Bool) : List Chk :=
  if b = 0x2002 then [rng? (253 < v / 256 || 253 < v % 256 || v / 256 < v % 256)]
  else if b = 0x2005 then [rng? (v < 1024 || v == t.getO O.sysHostHpnPort)]
  else if 0x2010 ≤ b ∧ b < 0x2050 ∧ rc = false then
    (if 0x2011 ≤ b ∧ b ≤ 0x2013 then canRates t i else if b = 0x2010 then [rng? (v == 2 && 8000000 < t.getO (O.netCanDataRate i))] else []) ++
      [st? (s.getO (O.netCanMode i) != 0 && !(b == 0x2010 && v == 0))]
  else if b = 0x2050 then
    if i < 2 then [rng? (3 < v)]
    else
      [cnt? (v.testBit 1 && bitsOf v 16 12 == 0),
       rng? (v &&& 0x0FFFFF03 != v),
       rng? (v.testBit 1 && (bitsOf v 16 12 < 2 || 16 < bitsOf v 16 12 || bitsOf v 23 17 < 16))]
  else if b = 0x2100 then mapChks s v
  else []

/-! ### Gate links and carriers (R115, R122, R125 to R136, R178, R184, R215) -/

/-- The carrier range of a group (R125). -/
def cgRange (g : Nat) : Nat × Nat :=
  if g < 4 then (2000, 50000) else if g = 4 then (10000, 100000) else if g = 5 then (20000, 250000)
  else if g = 6 then (1000, 20000) else (50000, 400000)

/-- A first planned period of a machine has been chosen and has not begun (R136, R150, R280). -/
def chosen (s : State) (g : Nat) : Bool :=
  (List.finRange 4).any fun (m : Fin 4) => m.val == g && (s.trx[m].period.isSome || s.trx[m].sets.toList.any fun (x : TrxSet) => x.period.isSome)

/-- The trigger of a context meets its floor and its run estimate (R178, R184). -/
def ctxFits (t : State) (c : Nat) : List Chk :=
  if bitsOf (t.getO (O.lpeTrigger c)) 31 30 = 0 then []
  else
    let i := t.trigShortest (t.ctxTrigger c)
    [rng? (decide (i < (if c < 16 ∨ t.ctxDest c = 1 then 8000 else 2000))), chkR (decide (i < (2 * t.runEst c + 160 : Nat))) St.range 0x0102]

/-- The pass of a converter fits its trigger (R214, R215). -/
def passClocks (t : State) (k : Nat) : Nat :=
  (List.range (t.getO (O.adcSeqLen k))).foldl (fun a e => a + entryClocks (t.getO (O.adcResEntry (32 * k + e)))) 0
def passFits (t : State) (k : Nat) : Chk :=
  chkR (t.getO (O.adcSeqLen k) != 0 && !t.fitsTrigger (t.getO (O.adcTrigger k)) (t.passClocks k)) St.range 0x0102 (t.passClocks k)

/-- An SSI frame with its monoflop time fits the trigger of its port (R256). -/
def ssiFits (t : State) (p : Nat) : Chk :=
  let w := t.getO (O.posSsiCfg p)
  let bits := bitsOf w 23 16 + (if bitOf w 6 then 1 else 0)
  let ticks : Rat := ((bits * 8000 : Nat) : Rat) / (bitsOf w 31 24 : Nat) + (bitsOf w 5 0 * 800 : Nat)
  chkR (t.getO (O.posMode p) == 4 && (match t.trigInterval (t.getO (O.posTrigger p)) with
    | some i => decide (i < ticks)
    | none => false)) St.range 0x0102

/-- A trigger word follows a carrier group. -/
def follows (w g : Nat) : Bool := bitsOf w 31 30 == 1 && bitsOf w 28 26 == g

/-- A carrier setting of a group (R125, R127, R136, R178, R184, R215, R256). -/
def carrierChks (s t : State) (g : Nat) : List Chk :=
  let f := t.getO (O.pwmFreq g)
  let short : Rat := (t.cgNominal g * (1000 - t.getO (O.pwmDither g)) : Nat) / (if t.bitO (O.pwmMode g) 1 then 2000 else 1000)
  [rng? (f < (cgRange g).1 || (cgRange g).2 < f), rng? (g < 4 && decide (short < 8000)), rng? (3 < g && t.bitO (O.pwmMode g) 2)] ++
    (((List.range 64).filter fun c => follows (t.getO (O.lpeTrigger c)) g).flatMap fun c => t.ctxFits c) ++
    (((List.range 12).filter fun k => follows (t.getO (O.adcTrigger k)) g).map fun k => t.passFits k) ++
    (((List.range 4).filter fun p => follows (t.getO (O.posTrigger p)) g).map fun p => t.ssiFits p) ++ [chk (s.chosen g) St.busy]

def glkChks (s t : State) (b i v : Nat) : List Chk :=
  if b = 0x3000 then
    let off := (List.finRange 40).find? fun (l : Fin 40) => s.bitO O.glkEnable l && !v.testBit l.val && s.stageOn (linkGroup l)
    [match off with
     | some l => st? true l
     | none => st? false]
  else if b = 0x3140 then [rng? (24 ≤ i && v == 2)]
  else if b = 0x3200 ∨ b = 0x32C0 then
    [chk (s.stageOn (linkGroup i)) St.state]
  else if b = 0x3340 then [rng? (v / 16 < v % 16)]
  else if b = 0x3380 then [rng? (3 < v)]
  else if b = 0x3400 ∨ b = 0x3408 ∨ b = 0x3410 then s.carrierChks t i
  else if b = 0x3420 then [rng? (v == 0), chk (s.chosen i) St.busy]
  else []

/-! ### Traction (R122, R140, R142, R146, R161) -/

/-- An envelope curve keeps the rules of R142. -/
def curveOk (v : Nat) : Bool :=
  let pt (k : Nat) : Rat := f32Val (bitsOf v (96 * k + 31) (96 * k))
  let raw (k : Nat) : Nat := bitsOf v (96 * k + 95) (96 * k)
  let fin := (List.range 48).all fun k => bitsOf v (32 * k + 31) (32 * k) &&& 0x7F800000 != 0x7F800000 && decide (0 ≤ f32Val (bitsOf v (32 * k + 31) (32 * k)))
  let last := ((List.range 16).find? fun k => k != 0 && pt k == 0).getD 16
  fin && pt 0 == 0 && (List.range 16).all fun k => if k < last then k == 0 || decide (pt (k - 1) < pt k) else k == last || raw k == 0

def trxDisabledOnly : List Nat := [0x00, 0x01, 0x02, 0x03, 0x04, 0x06, 0x18, 0x42, 0x71]

def trxChks (s t : State) (b : Nat) (m : Fin 4) (v : Nat) : List Chk :=
  let o := b - 0x3800
  let q := f32Val v
  (if o = 0x2C then [rng? (!curveOk v)]
   else if o = 0x3C ∨ o = 0x71 then [rng? (3 < v)]
   else if o = 0x49 then [rng? (!qIn (-(t.getQ (O.trxIMax m))) q 0)]
   else if o = 0x52 then [rng? (decide (t.getQ (O.trxObsSpeed m) ≤ q))]
   else []) ++
  [chk (trxDisabledOnly.contains o && s.trxSt m != 0) St.state,
   chk (0x20 ≤ o && o ≤ 0x23 && s.trxSt m != 3) St.state] ++
  (if o = 0x42 ∧ v = 1 then
     match (machineLinks m).find? fun (l : Fin 40) => (s.links[l].st == .ready || s.links[l].st == .degraded) && !(s.links[l].caps.testBit 2) with
     | some l => [chkR true St.state 0x0108 l]
     | none => []
   else []) ++
  (if (o = 0x20 ∧ s.overLimit m q) ∨ (o = 0x21 ∧ s.getO (O.trxMode m) = 1 ∧ s.overLimit m (s.torqueAt m q (s.getQ (O.trxIqReq m)))) ∨
      (o = 0x22 ∧ s.getO (O.trxMode m) = 1 ∧ s.overLimit m (s.torqueAt m (s.getQ (O.trxIdReq m)) q)) then [chkR true St.refused 0x0003 m] else [])

/-! ### DC link (R286, R298) -/

def ladderOk (t : State) : Bool :=
  let g (i : Nat) : Rat := t.getQ i
  ([O.dclTaperStart, O.dclTaperEnd, O.dclChopOn, O.dclChopOff, O.dclChopFull, O.dclOvaOn, O.dclOvaRelease, O.dclHwOv, O.dclHwOvRel].all
    fun i => qIn 100 (g i) 1000) &&
  decide (g O.dclChopOff < g O.dclChopOn) && decide (g O.dclChopOn < g O.dclChopFull) && decide (g O.dclTaperStart < g O.dclTaperEnd) &&
  decide (g O.dclTaperEnd < g O.dclOvaOn) && decide (g O.dclOvaOn < g O.dclHwOv) && decide (g O.dclChopOn < g O.dclOvaOn) &&
  decide (g O.dclOvaRelease < g O.dclOvaOn) && decide (g O.dclHwOvRel < g O.dclHwOv)

def dclChks (t : State) (b v : Nat) : List Chk :=
  if ([0x3C20, 0x3C21, 0x3C23, 0x3C24, 0x3C25, 0x3C30, 0x3C31, 0x3C32, 0x3C33] : List Nat).contains b then [chkR (!t.ladderOk) St.range 0x0120]
  else if b = 0x3C22 then
    [chkR (v == 1 && (t.getO (O.glkLossAct 31) != 0 || !decide (0 < t.getQ O.dclChopR) || !decide (0 < t.getQ O.dclChopEMax))) St.state 0x0126]
  else []

/-! ### Loop engine (R175 to R179, R190, R191, R194, R200 to R202) -/

/-- A source code that the context may name (R179, R316, R348, R375, R403, R585). -/
def srcOk (c code : Nat) : Bool :=
  let f := code % 4096
  match code / 4096 with
  | 0 => f == 0
  | 1 => f < 384
  | 2 => f < 256
  | 3 => f < 32 && f % 8 < 4
  | 4 => f < 4
  | 5 => f < 16 && f % 4 < 2
  | 6 =>
    if c < 16 then (f < 16 && f % 4 < 2) || (16 ≤ f && f ≤ 19) else if c < 22 then f < 8 else if c < 31 then f < 3
    else if c < 37 then f < 2 else c == 37 && f == 0
  | _ => false

/-- An S20 field at a byte offset of a bank whose bits [31:20] are not all equal to bit 19 (R9, R190). -/
def notS20 (v off : Nat) : Bool := bitsOf v (8 * off + 31) (8 * off) != s20Bits (s20Int (bitsOf v (8 * off + 31) (8 * off)))

/-- An F32 field at a byte offset of a BLOB that is a NaN or an infinity, which lies in no range. -/
def notFin (v off : Nat) : Bool := bitsOf v (8 * off + 30) (8 * off + 23) == 255

/-- The first failing field of a bank, by its byte offset (R9, R190, R194). -/
def bankBad (t : State) (c v : Nat) : Option Nat :=
  let chans := (List.range (t.ctxChans c)).flatMap fun k =>
    [(32 * k + 12, decide (bankI v (32 * k + 12) < 0) || decide (8388608 < bankI v (32 * k + 12))),
     (32 * k + 16, notS20 v (32 * k + 16) || (!notS20 v (32 * k + 20) && decide (bankS v (32 * k + 20) < bankS v (32 * k + 16)))),
     (32 * k + 20, notS20 v (32 * k + 20)),
     (32 * k + 24, notS20 v (32 * k + 24) || (!notS20 v (32 * k + 28) && decide (bankS v (32 * k + 28) < bankS v (32 * k + 24)))),
     (32 * k + 28, notS20 v (32 * k + 28))]
  let sus := bankP v 7
  let model := (match t.ctxModel c with
    | 1 | 3 => [(136, !decide (0 < bankP v 2))]
    | 2 => [(128, !qIn 10 (bankP v 0) 2000), (132, !qIn (3 / 10) (bankP v 1) 2)]
    | _ => []) ++
    (if t.ctxModel c = 0 then [] else [(152, notFin v 152 || !qIn 0 (bankP v 6) 1), (156, !qIn 1 sus 65535 || sus.den != 1)])
  ((chans ++ model).find? fun p => p.2).map Prod.fst

/-- A node code names a kind and a channel that the context has (R201). -/
def nodeOk (t : State) (c code : Nat) : Bool := code / 4 ≤ 9 && (if code / 4 = 9 then code % 4 < 2 else code % 4 < t.ctxChans c)

def lpeChks (s t : State) (b i old v id : Nat) : List Chk :=
  let on := fun (_ : Unit) => chkR (s.ctxOn i) St.state 0x0103 i
  let fixed (bad : Bool) : Chk := st? (i < 38 && bad) (id % 65536)
  if b = 0x4000 then
    [rng? (15 < v / 2 ^ 24 || bitsOf v 11 0 != 0 || 3 < bitsOf v 23 20 || (bitsOf v 23 20 == 2 && 8 ≤ i) || 6 < bitsOf v 27 24 ||
       (38 ≤ i && bitsOf v 27 24 != 0) || 1 < bitsOf v 14 12), fixed (old ||| 0x8000 != v ||| 0x8000), on ()]
  else if b = 0x4001 then trigChks v true ++ t.ctxFits i ++ [fixed (s.ctxTrigger i != v), on ()]
  else if b = 0x4002 then [on ()]
  else if b = 0x4003 then
    [rng? ((List.range (4 * t.ctxChans i)).any fun k => !srcOk i (bitsOf v (16 * k + 15) (16 * k))), fixed (old != v), on ()]
  else if b = 0x4004 then
    [rng? (notFin v 0 || notFin v 4 || !decide (0 < f32Val (bitsOf v 31 0)) || !decide (0 < f32Val (bitsOf v 63 32))),
     fixed (old != v), on ()]
  else if b = 0x4005 ∨ b = 0x4006 then
    let active := s.bitO (O.lpeStatus i) 14 == (b == 0x4006)
    [cnt? (t.ctxModel i != 0 && bitsOf v (8 * 156 + 31) (8 * 156) % 2 ^ 31 == 0),
     (match t.bankBad i v with
      | some o => chkR true St.range 0x0105 o
      | none => chk false St.ok),
     chkR (s.ctxOn i && active) St.state 0x0104, chk (!active && s.bitO (O.lpeStatus i) 13) St.busy]
  else if b = 0x4007 then
    [rng? ((List.range 4).any fun k => bitsOf v (32 * k + 31) (32 * k) != s20Bits (s20Int (bitsOf v (32 * k + 31) (32 * k))))]
  else if 0x4480 ≤ b ∧ b ≤ 0x4485 then
    let c := t.getO (O.lpeTrContext i)
    let nodes := (toLe 8 (t.getO (O.lpeTrNodes i))).map BitVec.toNat
    let cond := bitsOf v 31 28
    (if b = 0x4480 ∨ b = 0x4481 then [rng? (nodes.any fun n => n != 255 && !t.nodeOk c n)] else []) ++
    (if b = 0x4481 ∨ b = 0x4482 then [rng? (32768 / (4 + 4 * (nodes.filter (· != 255)).length) < t.getO (O.lpeTrLength i))] else []) ++
    (if b = 0x4482 ∨ b = 0x4483 then [rng? (t.getO (O.lpeTrLength i) ≤ t.getO (O.lpeTrPretrig i))] else []) ++
    (if b = 0x4480 then [rng? (!t.nodeOk c (bitsOf (t.getO (O.lpeTrTrig i)) 27 20))] else []) ++
    (if b = 0x4485 then [rng? (7 < cond || !t.nodeOk c (bitsOf v 27 20))] else []) ++
    [chk (s.getO (O.lpeTrState i) == 1 || s.getO (O.lpeTrState i) == 2) St.busy]
  else []

/-! ### Converters (R210 to R216, R225, R234, R236) -/

/-- The hold entries of a converter keep the rule of R213. -/
def holdsOk (t : State) (k : Nat) : Bool :=
  let h := (List.range (t.getO (O.adcSeqLen k))).map fun e => bitOf (t.getO (O.adcResEntry (32 * k + e))) 31
  let n := (h.takeWhile id).length
  n ≤ 4 && !((h.drop n).contains true)
def groupOn (s : State) (g : Nat) : Bool := g != 0xFF && s.stageOn g

def calOk (v : Nat) (k : Nat) (partner : Bool) : Bool :=
  let off := bitsOf v (64 * k + 31) (64 * k)
  let gain := bitsOf v (64 * k + 63) (64 * k + 32)
  bitsOf off 30 23 != 255 && bitsOf gain 30 23 != 255 && qIn (-16384) (f32Val off) 32768 &&
    (qIn 16 (absQ (f32Val gain)) 256 || (partner && f32Val gain == 0))

def coverOk (i v : Nat) : Bool :=
  let l := ((List.range 8).map fun k => bitsOf v (16 * k + 15) (16 * k)).filter (· != 0xFFFF)
  let res := l.map fun w => w % 512
  let n := (l.takeWhile fun w => bitOf w 15).length
  (l.all fun w => bitsOf w 14 9 == 0 && w % 512 / 64 == i) && res.eraseDups.length == res.length && n ≤ 4 && !((l.drop n).any fun w => bitOf w 15)

def adcChks (s t : State) (b i old v : Nat) : List Chk :=
  if b = 0x4800 ∨ b = 0x4801 then
    (if b = 0x4801 then trigChks v true else [rng? (32 < v), chkR (!t.holdsOk i) St.range 0x0101]) ++
      [t.passFits i, st? (s.groupOn (s.getO (O.adcPGroup (i / 2))))]
  else if b = 0x48C0 then [st? (s.groupOn old || s.groupOn v)]
  else if b = 0x4900 then
    [rng? (8 < bitsOf v 30 27 || 8 < bitsOf v 26 23 || bitsOf v 22 16 < 8 || bitsOf v 15 4 != 0),
     chkR (!t.holdsOk (i / 32)) St.range 0x0101, t.passFits (i / 32)]
  else if b = 0x4A80 then [rng? (!calOk v 0 false || !calOk v 1 true)]
  else if b = 0x4C00 then
    [cnt? (v / 16 == 1 && v % 16 == 0), rng? (2 < v / 16 || (v / 16 != 1 && v % 16 != 0) || 8 < v % 16)]
  else if b = 0x4F60 then [rng? (!coverOk i v)]
  else []

/-! ### Position (R244 to R246, R253, R256, R263, R264) -/

def resOk' (t : State) (p : Nat) : Bool :=
  let r := t.getO (O.posRes p)
  match t.getO (O.posMode p) with
  | 1 => r ≤ 16
  | 2 => r ≤ 4194304
  | 3 => r ≤ 32
  | _ => true

def portChks (s t : State) (b i v : Nat) : List Chk :=
  (if b = 0x5000 ∨ b = 0x5002 then [rng? (t.getO (O.posMode i) != 0 && bitsOf (t.getO (O.posTrigger i)) 31 30 == 0)] else []) ++
  (if b = 0x5000 ∨ b = 0x5003 then [rng? (!t.resOk' i)] else []) ++
  (if b = 0x5002 then trigChks v true
   else if b = 0x5003 then [cnt? (v == 0)]
   else if b = 0x5007 then [rng? (15 < v)]
   else if b = 0x500B then
     [cnt? (bitsOf v 5 0 == 0 || bitsOf v 23 16 == 0 || bitsOf v 15 8 == 0),
      rng? (bitsOf v 31 24 < 1 || 100 < bitsOf v 31 24 || bitsOf v 23 16 < 8 || 32 < bitsOf v 23 16 || bitsOf v 15 8 < 8 || bitsOf v 23 16 < bitsOf v 15 8)]
   else if b = 0x500C then
     [cnt? (bitsOf v 23 20 == 0 || bitsOf v 19 16 == 0),
      rng? (bitsOf v 31 24 < 6 || 180 < bitsOf v 31 24 || 6 < bitsOf v 23 20 || bitsOf v 19 16 < 3 || bitsOf v 23 20 < bitsOf v 19 16 || bitsOf v 13 12 == 3)]
   else if b = 0x5100 then [rng? (v &&& 0xEC != v)]
   else []) ++
  (if ([0x5000, 0x5002, 0x500B] : List Nat).contains b then [t.ssiFits i] else []) ++
  (if ([0x5000, 0x5002, 0x5003, 0x5007, 0x500B, 0x500C] : List Nat).contains b then [st? (s.groupOn (s.getO (O.posGroup i)))] else [])

/-! ### Power functions (R340, R363, R369, R376 to R378, R389, R407) -/

def chgObjChks (s t : State) (b v : Nat) : List Chk :=
  (if b = 0x5809 then [rng? (15 < v)]
   else if b = 0x5829 then [rng? (decide (t.getQ O.chgBatTMax < f32Val v))]
   else []) ++
  (if ([0x5809, 0x5810, 0x5811, 0x5812, 0x5813] : List Nat).contains b then [st? (s.chgSt != 0 && s.chgSt != 6) s.chgSt] else [])

def auxObjChks (s t : State) (b v : Nat) : List Chk :=
  (if b = 0x600D then [rng? (!qIn 1 (f32Val v) (t.getQ O.auxIphFs))] else []) ++
  (if ([0x6005, 0x6006, 0x6009, 0x600A, 0x600B] : List Nat).contains b then [st? (s.auxOn || s.auxSt == 4) s.auxSt] else [])

def amcSrcOk (v : Nat) : Bool := v == 0 || (0x1000 ≤ v && v < 0x1180) || (0x7000 ≤ v && v < 0x7048)

def amcCurveOk (t : State) (i v : Nat) : Bool :=
  let x (k : Nat) : Nat := bitsOf v (64 * k + 31) (64 * k)
  let y (k : Nat) : Nat := bitsOf v (64 * k + 63) (64 * k + 32)
  (List.range (t.getO (O.amcCurveN i))).all fun k =>
    bitsOf (x k) 30 23 != 255 && bitsOf (y k) 30 23 != 255 && decide (0 ≤ f32Val (y k)) && (k == 0 || decide (f32Val (x (k - 1)) < f32Val (x k)))

def amcChks (s t : State) (b : Nat) (k : Fin 6) (v : Nat) : List Chk :=
  let o := b - 0x6800
  let q := f32Val v
  let g (i : Nat) : Rat := t.getQ i
  let el := g (O.amcSpeedMax k) * (t.getO (O.amcPolePairs k) : Nat) / 60
  let within := rng? (!qIn (g (O.amcSpeedMin k)) q (g (O.amcSpeedMax k)))
  (match o with
   | 0x00 => [rng? (v == 3 && k != 5)]
   | 0x0B => [rng? (!qIn 0 q (g (O.amcHandover k)))]
   | 0x13 => [rng? (!qIn 1 q (g (O.amcHandover k)))]
   | 0x14 => [rng? (!qIn 0 q (g (O.amcSpeedMax k)))]
   | 0x15 => [rng? (!qIn (1 / 100) q (g (O.amcDMax k)))]
   | 0x19 | 0x28 => [within]
   | 0x1A => [rng? (!qIn 0 q (g (O.amcSpeedMax k)))]
   | 0x1D => [rng? (!qIn 0 q (g (O.amcSpeedMin k)))]
   | 0x21 => [rng? (!amcSrcOk v)]
   | 0x23 => [rng? (!t.amcCurveOk k v)]
   | 0x24 => [rng? (decide (q < 0))]
   | 0x25 => if q = 0 then [] else [within]
   | 0x2B => [rng? (decide (toSigned 32 (t.getO (O.amcPosMax k)) < toSigned 32 v))]
   | 0x2D => [rng? (!qIn (g (O.amcSpeedMin k)) (absQ q) (g (O.amcHandover k)))]
   | _ => []) ++
  (if o = 0x01 ∨ o = 0x02 ∨ o = 0x0A then [rng? (decide (2000 < el) || decide (((t.getO (O.amcPwmFreq k) : Nat) : Rat) < 24 * el))] else []) ++
  (if o ≤ 0x03 ∨ o = 0x09 then [st? (s.amcSt k != 0 && s.amcSt k != 8) (s.amcSt k)] else []) ++
  (if o = 0x20 then
     [chkR (s.getO (O.amcCurveSrc k) != 0) St.state 0x0154, chkR (q != 0 && 2 ≤ s.override (amcGroup k)) St.refused 0x0003 (amcGroup k)]
   else [])

def rpkChks (s t : State) (b v : Nat) : List Chk :=
  (if b = 0x700C ∨ b = 0x700D then [rng? (decide (t.getQ O.rpkTHigh ≤ t.getQ O.rpkTLow))]
   else if b = 0x7019 then [rng? (v ≤ t.getO O.rpkSrcVLow || 300 < v)]
   else if b = 0x701A then [rng? (v ≤ t.getO O.rpkSrcVMin || 360 < v)]
   else []) ++
  (if ([0x7005, 0x7011, 0x7012, 0x7013] : List Nat).contains b then [st? (s.rpkSt != 0 && s.rpkSt != 1 && s.rpkSt != 6) s.rpkSt] else [])

/-- The checks of one write beyond the range of its row. -/
def moreChks (s t : State) (r : ObjRow) (i old v : Nat) : List Chk :=
  let b := r.base
  if b < 0x300 then t.sysChks b v
  else if b < 0x1000 then pinChks b i v
  else if b < 0x1400 then []
  else if b < 0x1800 then t.thmChks b
  else if b < 0x2000 then s.secChks b v
  else if b < 0x3000 then s.netChks t b i v (r.acc == .rc)
  else if b < 0x3800 then s.glkChks t b i v
  else if b < 0x3C00 then (if h : i < 4 then s.trxChks t b ⟨i, h⟩ v else [])
  else if b < 0x4000 then t.dclChks b v
  else if b < 0x4800 then s.lpeChks t b i old v (b + i * r.stride)
  else if b < 0x5000 then s.adcChks t b i old v
  else if b < 0x5800 then s.portChks t b i v
  else if b < 0x6000 then s.chgObjChks t b v
  else if b < 0x6800 then s.auxObjChks t b v
  else if b < 0x6980 then (if h : i < 6 then s.amcChks t b ⟨i, h⟩ v else [])
  else if b < 0x7000 then []
  else if b < 0x7400 then s.rpkChks t b v
  else []

end State

end Sys2Proof.Machine
end

