-- ==== Sys2Proof/Machine/ObjWrite.lean ====
section
/-! DEFINITION. Reads and writes of objects as operations (R12, R75, R76, R476): what a read returns, what a write is checked
for, what it changes beside the value, and whether it is LIMITED. -/

namespace Sys2Proof.Machine

/-- Who writes: a command, or none for the network map (R476) and a Tetas bundle (R501); host and role as the audit log
records them. -/
structure Writer where
  cmd : Option Cmd
  host : Nat
  role : Nat

/-- One write: the row, the instance and the ID it names, and the value as sent. -/
structure Wr where
  row : ObjRow
  inst : Nat
  id : Nat
  val : Nat

/-- The host to which an object is restricted (R74, R140, R547). -/
def ownEntry (id : Nat) : Option Nat :=
  if 0x110 ≤ id ∧ id ≤ 0x113 then some (id - 0x110)
  else if 0x118 ≤ id ∧ id ≤ 0x11B then some (id - 0x118)
  else if 0x1010 ≤ id ∧ id ≤ 0x1013 then some (id - 0x1010)
  else if 0x3800 ≤ id ∧ id < 0x3C00 ∧ 0x58 ≤ id % 256 ∧ id % 256 ≤ 0x5B then some (id % 256 - 0x58)
  else none

/-- The value an object holds after a write: an RC object loses the bits written 1, a WO object holds none (R12). -/
def Wr.after (w : Wr) (old : Nat) : Nat :=
  match w.row.acc with
  | .rc => if w.row.base = 0x400C then 0 else old - (old &&& (w.val &&& w.row.rc))
  | .wo => old
  | _ => w.val

/-- A value is kept in flash or in the Plinth, so that its change is recorded (R503). -/
def audited (r : ObjRet) : Bool := r == .n || r == .k

namespace State

/-! ### Reads -/

/-- The value a read of an object returns. -/
def shown (s : State) (id : Nat) : Nat :=
  if id = O.sysAxt then (s.followerStamp .hf).toNat
  else if id = O.glkReady then s.glkReady
  else if id = O.glkPlaneSpread then s.planeSpread
  else if 0x3040 ≤ id ∧ id < 0x3068 then
    (match (List.finRange 40).find? fun (l : Fin 40) => O.glkStatus l == id with
     | some l => putBits (s.getO id) 3 0 (s.linkState l)
     | none => s.getO id)
  else if id = O.lpeOn then s.onList.foldl (fun a c => a + 2 ^ c) 0
  else if id = O.lpeLoad then s.loadOf s.onList
  else if 0x4001 ≤ id ∧ id < 0x40C1 ∧ id % 16 = 1 then s.ctxTrigger ((id - 0x4001) / 16)
  else if id = O.ptgFlags then
    putBits (s.getO id) 7 4 ((if s.ptg.a.safe then 0 else 1) + (if s.ptg.b.safe then 0 else 2) + (if s.ptgLatched then 4 else 0) +
      (if s.getO O.ptgState = 2 ∨ s.getO O.ptgState = 3 then 8 else 0))
  else s.getO id

/-- The islands of an object's group all run the level needed (R517). -/
def objIl (s : State) (r : ObjRow) (i id : Nat) : Chk := chkIl s (s.objGroup r i) (id / 256 == 0x18)

/-! ### Checks of a write -/

/-- The groups whose lease a write needs (R77, R210, R245, R134). -/
def writeGroups (s : State) (w : Wr) : List Nat := s.objGroups w.row w.inst w.id w.val

/-- A recorded change finds the queue of R504 full. -/
def auditBar (s : State) (w : Wr) : Chk :=
  let old := s.getO w.id
  chk (audited w.row.ret && s.auditFull && (w.row.acc == .wo || w.after old != old)) St.thermal

/-- The checks on access and value, whoever writes (R9, R10, R12, R504); `t` is the state that the whole write would leave. -/
def valueChks (s t : State) (w : Wr) : List Chk :=
  rangeChks w.row w.val ++ (if w.row.acc = .rw ∨ w.row.acc = .wo then s.moreChks t w.row w.inst (s.getO w.id) w.val else []) ++
    [chk (w.row.acc == .ro) St.denied, s.auditBar w]

/-- The checks on the writing host (R74, R77, R78, R486). -/
def hostChks (s : State) (c : Cmd) (w : Wr) : List Chk :=
  [chk (!w.row.roles.testBit (s.roleFor c - 1)) St.denied,
   (match ownEntry w.id with
    | some h => chkR (c.host.val != h) St.denied 0x0004 h
    | none => chk false St.ok)] ++
    (s.writeGroups w).map fun g => chkOwn s c g

/-- Every check of one write. -/
def writeChks (s t : State) (x : Writer) (w : Wr) : List Chk :=
  s.valueChks t w ++ [s.objIl w.row w.inst w.id] ++ (match x.cmd with
    | some c => s.hostChks c w
    | none => [])

/-! ### LIMITED (R161, R363, R376) -/

/-- A speed request of a motor channel is LIMITED (R376); outside RUN, where the limiter rests, the step is that of the target
(log 192). -/
def amcLimited (s : State) (k : Fin 6) (q : Rat) : Bool :=
  let v := s.amcBounded k q
  let from_ := if s.amcSt k = 7 then s.amc[k].lim else s.amc[k].target
  decide (v ≠ q) || decide (s.getQ (O.amcAccel k) * (s.trigNominal (s.ctxTrigger (amcCtx k)) / sTicks) < absQ (v - from_))

/-- The write is LIMITED. -/
def limitedW (s : State) (w : Wr) : Bool :=
  let q := f32Val w.val
  if h : 0x3800 ≤ w.row.base ∧ w.row.base < 0x3900 ∧ w.inst < 4 then s.trxLimited ⟨w.inst, h.2.2⟩ (w.row.base - 0x3800) q
  else if h : w.row.base = 0x6820 ∧ w.inst < 6 then s.amcLimited ⟨w.inst, h.2⟩ q
  else if w.id = O.auxVTarget then s.auxOn && decide (s.getQ O.auxVSlew * (s.trigNominal (s.ctxTrigger 22) / msTicks) < absQ (q - s.aux.target))
  else false

/-! ### What a write does beside the value -/

/-- Links enabled or disabled; a training that a disabled link was in has ended (R115, R134, R137). -/
def linksSet (s : State) (old v : Nat) : State :=
  ((List.finRange 40).foldl (fun (s : State) (l : Fin 40) =>
    if v.testBit l.val = old.testBit l.val then s
    else if v.testBit l.val then (if s.ctLocked then s.trainStart l else s)
    else (s.linkOff l).modLink l fun k => { k with barred := false }) s).trainEnds

/-- A held reversal of a channel replaced by a later write: its EV_CMD_DONE carries ST_STATE (R377). -/
def amcDropHeld (s : State) (k : Fin 6) : State :=
  if s.amc[k].held.isSome then
    ((s.endAll (fun p => p.arg == [0x6800, k.val] && p.waiting) St.state).modAmc k fun a => { a with held := none }).clrO (O.amcFlags k) 0x100
  else s

/-- `sys.host.safety_host` names another host: its timeout starts, and a lapse from here on has raised no event (R85). -/
def safetyNamed (s : State) (v : Nat) : State :=
  let s := s.modDisp fun d => { d with safetyAt := s.now, safetyActed := false }
  if h : v < 4 then (if s.bitO O.sysHostPresent v then s else s.modHost ⟨v, h⟩ fun p => { p with lostSent := false }) else s

/-- An external channel has no temperature until its source delivers one (R433). -/
def ntcUnknown (s : State) (n : Fin 16) : State := s.setO (O.thmT (56 + n)) f32NaN

/-- SYS, THM, SEC and NET objects; a channel whose source is named anew reads NaN until that source delivers (R433). -/
def afterSys (s : State) (b i old v : Nat) : State :=
  if b = 0x101 then (if v = old then s else s.safetyNamed v)
  else if b = 0x1490 then (if h : i < 16 then (if v = old then s else s.ntcUnknown ⟨i, h⟩) else s)
  else if b = 0x180A then { s with sec := { s.sec with hpnKey := some (toLe 32 v) } }
  else if b = 0x180D then (if v = 1 then { s with sec := { s.sec with tamperUnack := false } } else s)
  else if b = 0x2001 then (if v = old then s else (List.finRange 4).foldl (fun (s : State) n => s.canStart n) s)
  else if b = 0x2010 then (if h : i < 4 then (if v = old then s else s.canStart ⟨i, h⟩) else s)
  else if b = 0x2050 then
    (if h : i < 4 then
      (if v.testBit 0 then s
       else (s.clrO (O.netEthStatus i) 1).modNet fun n => { n with csma := if h2 : i < 2 then n.csma.set i false else n.csma })
     else s)
  else if b = 0x2100 then s.modNet fun n => { n with mapAt := kPut n.mapAt i s.now, rxDead := n.rxDead.filter (· != i) }
  else s

/-- TRX objects of machine `m` at offset `o` (R122, R140, R145, R157, R162, R166, R282). -/
def afterTrx (s : State) (m : Fin 4) (o v : Nat) : State :=
  if o = 0x00 then
    ((if s.trx[m].speedOk then s else s.setO (O.trxRule m) (if v = 1 ∨ v = 2 then 1 else 0)).bySpeed m).applySc
  else if o = 0x01 then s.putSetSt m 1 (if v = 3 then 0 else 3)
  else if o = 0x42 then (s.bySpeed m).applySc
  else if (o = 0x20 ∧ s.getO (O.trxMode m) = 0) ∨ ((o = 0x21 ∨ o = 0x22) ∧ s.getO (O.trxMode m) = 1) ∨ (o = 0x23 ∧ s.getO (O.trxMode m) = 2) then
    (if o = 0x23 then s.setQ (O.trxSpeedReq m) (clampQ (f32Val v) (-(s.getQ (O.trxSpeedMaxRev m))) (s.getQ (O.trxSpeedMaxFwd m))) else s).newRequest m
  else s

/-- A trigger or a sequence length written: the next instant of the grid fires first (R177). -/
def trigWritten (s : State) (k : Fin 12) : State := s.modConv k fun a => { a with trigNext := s.now + 1 }

/-- The value of an entry or a coefficient set before a write, for the unfinished passes of its pair (R226). -/
def keepPair (s : State) (j id old : Nat) : State :=
  let p : Fin 6 := ⟨j / 64 % 6, by omega⟩
  (s.keepOld (convOf p false) id old).keepOld (convOf p true) id old

/-- ADC and POS objects (R213, R226, R227, R244, R250). -/
def afterSense (s : State) (b i old v : Nat) : State :=
  let markR (s : State) (n : Nat) : State := s.putRes i { s.resSt i with mark := (s.resSt i).mark ||| n }
  if b = 0x4800 then
    (if h : i < 12 then
      (let s := if old = 0 then s.trigWritten ⟨i, h⟩ else s
       if s.adcSt ⟨i, h⟩ ≤ 1 then s.adcIdle ⟨i, h⟩ else s) else s)
  else if b = 0x4801 then (if h : i < 12 then s.trigWritten ⟨i, h⟩ else s)
  else if b = 0x4900 then
    markR (s.keepPair i (O.adcResEntry i) old)
      ((if bitsOf v 3 0 = bitsOf old 3 0 then 0 else 1) + (if bitsOf v 30 23 = bitsOf old 30 23 then 0 else 2))
  else if b = 0x4A80 then (s.keepPair i (O.adcResCal i) old).hwThreshold
  else if b = 0x4C00 then markR s 4
  else if b = 0x4F00 then (if v = old then s else s.gainWrite i old)
  else if h : 0x5000 ≤ b ∧ b < 0x5010 ∧ i < 4 then
    let p : Fin 4 := ⟨i, h.2.2⟩
    let m := s.getO (O.posMode i)
    if v ≠ old ∧ (b = 0x5000 ∨ b = 0x5003 ∨ (b = 0x5007 ∧ m = 2) ∨ (b = 0x500B ∧ m = 4) ∨ (b = 0x500C ∧ m = 5)) then s.portStart p
    else if b = 0x5002 then s.modPos p fun x => { x with trigNext := s.now + 1 }
    else if b = 0x5008 ∨ b = 0x5009 then s.excDrive p
    else s
  else s

/-- AMC objects of channel `k` at offset `o` (R84, R371, R375 to R379). -/
def afterAmc (s : State) (k : Fin 6) (o v : Nat) : State :=
  if o = 0x00 then (if v = 3 ∧ s.amcSt k = 0 then s.amcTo k 1 0 else s)
  else if o = 0x09 then s.setO (O.lpeUnits (31 + k)) (putBits (s.getO (O.lpeUnits (31 + k))) 31 0 v)
  else if o = 0x20 then ((s.amcDropHeld k).modAmc k fun a => { a with barred := false }).amcTarget k (s.amcBounded k (f32Val v))
  else if o = 0x21 then
    let s := s.modAmc k fun a => { a with barred := false, failed := false, validAt := s.now }
    if v = 0 then s.amcTarget k (s.amcBounded k (s.getQ (O.amcSpeedReq k))) else s
  else s

/-- DCL, CHG, AUX and RPK objects (R84, R287, R288, R289, R296, R298, R304, R333, R347, R348, R358, R401). -/
def afterPower (s : State) (b v : Nat) : State :=
  if b = 0x3C22 then (if v = 0 then s.modDcl fun d => { d with chopIn := false, chopDuty := 0 } else s.modDcl fun d => { d with chopHeld := false })
  else if b = 0x3C04 then (s.linkRename 0).hwThreshold
  else if b = 0x3C05 then s.linkRename 1
  else if b = 0x3C07 ∨ b = 0x3C32 then s.hwThreshold
  else if b = 0x3C09 then (if v = 0 then s.dclOut false false false else s)
  else if b = 0x3C38 then s.bmsWritten.batJudge
  else if b = 0x3C3A then s.bmsOpenWritten
  else if b = 0x5828 then s.batWritten
  else if b = 0x5829 ∨ b = 0x582A ∨ b = 0x582B then s.batJudge
  else if b = 0x6009 then s.auxFollowV
  else if b = 0x600B then s.auxFollowI
  else if b = 0x600D then s.auxPeakLoad
  else if b = 0x6028 then
    (if v = 0 then (s.clrO O.auxFlags 0x400).modAux fun a => { a with hold := none, edge := none, periods := [] } else s)
  else if b = 0x7004 then s.rpkEnabled
  else s

/-- What a write does beside the value. -/
def afterWrite (s : State) (w : Wr) (old : Nat) : State :=
  let b := w.row.base
  if b < 0x3000 then s.afterSys b w.inst old w.val
  else if b = 0x3000 then s.linksSet old w.val
  else if h : 0x3800 ≤ b ∧ b < 0x3C00 ∧ w.inst < 4 then s.afterTrx ⟨w.inst, h.2.2⟩ (b - 0x3800) w.val
  else if 0x4800 ≤ b ∧ b < 0x5800 then s.afterSense b w.inst old w.val
  else if h : 0x6800 ≤ b ∧ b < 0x6980 ∧ w.inst < 6 then s.afterAmc ⟨w.inst, h.2.2⟩ (b - 0x6800) w.val
  else s.afterPower b w.val

/-- The value alone written. -/
def store (s : State) (w : Wr) : State := if w.row.acc = .wo then s else s.setO w.id (w.after (s.getO w.id))

/-- What the audit log records as the old value: an object that cannot be read is known by what it loads. -/
def auditOld (s : State) (w : Wr) : Nat := if w.row.base = 0x180A then leNat (s.sec.hpnKey.getD []) else s.getO w.id

/-- One write that has passed its checks: value, dirty mark, audit record (R76, R503), effect. -/
def write1 (s : State) (x : Writer) (w : Wr) : State :=
  let old := s.getO w.id
  let new := if w.row.acc = .wo then w.val else w.after old
  let was := s.auditOld w
  let t := s.store w
  let t : State := if w.row.ret = .n ∧ w.row.acc ≠ .wo then { t with dirty := w.id :: t.dirty.filter (· != w.id) } else t
  let t := if audited w.row.ret then t.auditObj x.host x.role w.id w.row.ty.size was new else t
  t.afterWrite w old

/-- Writes in order. -/
def writeL (s : State) (x : Writer) (l : List Wr) : State := l.foldl (fun (s : State) w => s.write1 x w) s
def storeL (s : State) (l : List Wr) : State := l.foldl (fun (s : State) w => s.store w) s

/-- A speed request that is a reversal to be held (R377). -/
def reversalW (s : State) (w : Wr) : Option (Fin 6) :=
  if h : w.row.base = 0x6820 ∧ w.inst < 6 then
    let k : Fin 6 := ⟨w.inst, h.2⟩
    if s.amcReversal k (f32Val w.val) then some k else none
  else none

/-- A reversal in a write that cannot be held is refused (R377). -/
def reversalChk (s : State) (w : Wr) : Chk :=
  match s.reversalW w with
  | some k => ⟨true, s.reversalReply k⟩
  | none => chk false St.ok

/-- A write from the network map: it bypasses leases and sessions, passes every other rule of the object, or is dropped
(R476, R504). -/
def netWrite (s : State) (id v : Nat) : State × Bool :=
  match s.rowOf id with
  | none => (s, false)
  | some (r, i) =>
    let w : Wr := { row := r, inst := i, id := id, val := v % 2 ^ (8 * r.ty.size) }
    let x : Writer := { cmd := none, host := 0xFE, role := 0 }
    match firstBad (byRank (s.writeChks (s.store w) x w ++ [s.reversalChk w])) with
    | some _ => (s, false)
    | none => (s.write1 x w, true)

/-! ### The commands of R75 and R76 -/

/-- The value of a read, in the size of its type. -/
def readVal (s : State) (r : ObjRow) (id : Nat) : List Byte := toLe r.ty.size (s.shown id)

/-- GET_OBJ. -/
def getObj (c : Cmd) (s : State) : State × Reply :=
  let id := fieldAt c.payload 0 2
  match s.rowOf id with
  | none => s.guarded [chkLen c 2, chk true St.badObj] fun s => (s, .ok)
  | some (r, i) =>
    s.guarded [chkLen c 2, chk (r.acc == .wo) St.denied, s.objIl r i id] fun s => (s, .ok (s.readVal r id))

/-- The reversal of a single write: refused, held pending (R377). -/
def holdReversal (s : State) (c : Cmd) (k : Fin 6) (v : Rat) : State × Reply :=
  let s := s.amcDropHeld k
  (((s.hold c (some (amcGroup k)) [0x6800, k] true).modAmc k fun a => { a with held := some (s.amcBounded k v), target := 0 }).orO (O.amcFlags k) 0x100,
    s.reversalReply k)

/-- RESULT of a write. -/
def writeOk (limited : Bool) : Reply := .ok [if limited then 1 else 0, 0, 0, 0]

/-- The writer that a command is. -/
def cmdWriter (s : State) (c : Cmd) : Writer := { cmd := some c, host := c.host, role := s.roleFor c }

/-- SET_OBJ. -/
def setObj (c : Cmd) (s : State) : State × Reply :=
  let id := fieldAt c.payload 0 2
  match s.rowOf id with
  | none => s.guarded [chk (c.payload.length < 4) St.badLen, chk true St.badObj] fun s => (s, .ok)
  | some (r, i) =>
    let w : Wr := { row := r, inst := i, id := id, val := leNat (c.payload.drop 4) }
    let x := s.cmdWriter c
    s.guarded (chkLen c (4 + r.ty.size) :: byRank ([chkZero c 2 2, chkLc s false false] ++ s.writeChks (s.store w) x w)) fun s =>
      match s.reversalW w with
      | some k => s.holdReversal c k (f32Val w.val)
      | none => (s.write1 x w, writeOk (s.limitedW w))

/-- A value of a list takes a multiple of four bytes (R75). -/
def padded (n : Nat) : Nat := (n + 3) / 4 * 4

/-- One entry of SET_OBJ_BATCH as sent: ID, SIZE, value bytes, padding. -/
structure Entry where
  id : Nat
  size : Nat
  bytes : List Byte
  pad : List Byte

/-- `n` entries of a payload; none where its length does not fit them. -/
def entries : Nat → List Byte → Option (List Entry)
  | 0, b => if b.isEmpty then some [] else none
  | n + 1, b =>
    let size := fieldAt b 2 2
    if b.length < 4 + padded size then none
    else (entries n (b.drop (4 + padded size))).map fun l =>
      { id := fieldAt b 0 2, size := size, bytes := (b.drop 4).take size, pad := (b.drop (4 + size)).take (padded size - size) } :: l

/-- The write that an entry asks for. -/
def entryWr (s : State) (e : Entry) : Option Wr := (s.rowOf e.id).map fun p => { row := p.1, inst := p.2, id := e.id, val := leNat e.bytes }

/-- The checks of one entry, in the order of R19. -/
def entryChks (s t : State) (x : Writer) (e : Entry) : List Chk :=
  match s.entryWr e with
  | none => [chk true St.badObj]
  | some w => byRank ([chk (e.size != w.row.ty.size) St.badLen, rng? (e.pad.any (· != 0#8)), s.reversalChk w] ++ s.writeChks t x w)

/-- The status of the first entry check that fails under R19 and the lowest index of an entry that fails it (R63). -/
def batchBad (s t : State) (x : Writer) (l : List Entry) : Option (Nat × Nat) :=
  let bad := l.zipIdx.filterMap fun p => (firstBad (s.entryChks t x p.1)).map fun r => (r.status, p.2)
  bad.foldl (fun a b => match a with
    | some p => if statusRank b.1 < statusRank p.1 then some b else a
    | none => some b) none

/-- SET_OBJ_BATCH: every entry or none. -/
def setBatch (c : Cmd) (s : State) : State × Reply :=
  let n := fieldAt c.payload 0 2
  match (if c.payload.length < 4 then none else entries n (c.payload.drop 4)) with
  | none => (s, .bare St.badLen)
  | some l =>
    let ws := l.filterMap s.entryWr
    let x := s.cmdWriter c
    let own := match s.batchBad (s.storeL ws) x l with
      | some (st, i) => [chkR true st 0x0002 i]
      | none => []
    s.guarded (byRank ([chk (n == 0) St.badCount, chkZero c 2 2, chkLc s false false] ++ own)) fun s =>
      (s.writeL x ws, writeOk (ws.any fun w => s.limitedW w))

/-- The entries of a span that fit into a payload, and the first ID that did not (R76). -/
def blockFrom (s : State) : Nat → Nat → Nat → List Byte → Nat × List Byte
  | 0, _, _, out => (0, out)
  | n + 1, id, room, out =>
    match s.rowOf id with
    | some (r, i) =>
      if r.acc = .wo ∨ (s.objIl r i id).bad = true then s.blockFrom n (id + 1) room out
      else if room < 4 + padded r.ty.size then (id, out)
      else s.blockFrom n (id + 1) (room - (4 + padded r.ty.size))
        (out ++ toLe 2 id ++ toLe 2 r.ty.size ++ toLe (padded r.ty.size) (s.shown id))
    | none => s.blockFrom n (id + 1) room out

/-- GET_OBJ_BLOCK. -/
def getBlock (c : Cmd) (s : State) : State × Reply :=
  let a := fieldAt c.payload 0 2
  let n := fieldAt c.payload 2 2
  s.guarded [chkLen c 4, chk (n == 0) St.badCount] fun s =>
    let r := s.blockFrom (min n (0x10000 - a)) a 4092 []
    (s, .ok (toLe 2 r.1 ++ [0, 0] ++ r.2))

/-- COMMIT (R76, R440, R519). -/
def commitCmd (c : Cmd) (s : State) : State × Reply :=
  let thermal := !s.flashOk
  let r := s.guarded [chkLen c 0, chkLc s false false, chkRole s c 2, chkIl s none, chk thermal St.thermal,
      chk (s.seBusy || s.disp.held.any fun (p : Held) => p.code == 0x0105) St.busy] fun s => (s.hold c none [], .pending)
  if thermal && r.2.status == St.thermal then (r.1.flashRefuse, r.2) else r

/-- Values written to flash. -/
def flashL (s : State) (l : List Nat) : State :=
  { s with flash := l.foldl (fun f id => kSet f (objDefault id) id (s.getO id)) s.flash, dirty := s.dirty.filter fun id => !l.contains id }

/-- The commit ends: everything set is in flash, or the flash window has stopped it after some of it (R76, R440; log 87). -/
def commitDone (s : State) : State :=
  if !s.flashPaused && (s.disp.held.any fun (p : Held) => p.code == 0x0105) then
    let mine (p : Held) : Bool := p.code == 0x0105
    if s.flashOk then ((s.flashL s.dirty).endAll mine St.ok).flashPause
    else
      let k := (Config.freeValue s.free).toNat % (s.dirty.length + 1)
      ((s.takeFree.flashL (s.dirty.reverse.take k)).endAll mine St.thermal).flashRefuse
  else s

end State

/-! ### The rows -/

def execGetObj (s : State) : Host.Outcome State Fault Refusal := .next (s.runCmd 0x0101 State.getObj)

def execSetObj (s : State) : Host.Outcome State Fault Refusal := .next (s.runCmd 0x0102 State.setObj).heldSync

def execSetObjBatch (s : State) : Host.Outcome State Fault Refusal := .next (s.runCmd 0x0103 State.setBatch).heldSync

def execGetObjBlock (s : State) : Host.Outcome State Fault Refusal := .next (s.runCmd 0x0104 State.getBlock)

def execCommit (s : State) : Host.Outcome State Fault Refusal := .next (s.runCmd 0x0105 State.commitCmd)

def execCommitDone (s : State) : Host.Outcome State Fault Refusal := .next s.commitDone

end Sys2Proof.Machine
end

