-- ==== Sys2Proof/Machine/Clocks.lean ====
section
/-! DEFINITION. The rows of the clocks (chapter "Architecture and the axle cycle"): the crystal (R46), the PLLs of the islands
(R47), the trim of the private references (R22) and the control-word crossings (R31). -/

namespace Sys2Proof.Machine

/-- The control-word channels of the crossing table (R28, R31). -/
def controlChans : List Nat := [1, 6, 9]

/-- The islands with a private reference (R22), in the order of the state's vectors. -/
def refIndex : Island → Option (Fin 4)
  | .sc => some 0
  | .hf => some 1
  | .nw => some 2
  | .se => some 3
  | _ => none

namespace State

/-- The flags of a declared loss: XTAL_LOST set, XTAL_OK clear (R46). -/
def lossDeclared (s : State) : State := ((s.orO O.sysClkStatus 0x200).modClk fun c => { c with declared := true }).showClk

/-- SC declares the crystal lost (R22, R46). -/
def xtalLoss (s : State) : State :=
  if s.clk.xtal then
    ((s.modClk fun c => { c with xtal := false, trimmed := Vector.replicate 4 false }).lossDeclared.clockLost).postMasked 0x0040 0x0000 0
  else s

/-- Crystal edges are seen again. -/
def xtalReturn (s : State) : State :=
  if s.clk.xtal then s else (s.modClk fun c => { c with xtal := true, declared := false, xtalAt := s.now }).showClk

/-- Every enabled link has ended its training since CT and CV relocked. -/
def linksTrained (s : State) : Bool :=
  (List.finRange 40).all fun (l : Fin 40) => !s.linkEnabled l || (s.links[l].st != .training && s.links[l].st != .off)

/-- CT or CV restarts. -/
def ctRestarts (s : State) : Bool := s.pwr.boot.any fun (b : Boot) => b.islands.testBit 2 || b.islands.testBit 3

/-- Recovery is complete: crystal for 10 ms, CT and CV locked, links trained (R46). -/
def recovered (s : State) : Bool :=
  s.clk.lossActive && s.ctLocked && decide (s.clk.xtalAt + 10 * msTicks ≤ s.now) && !s.ctRestarts && s.linksTrained

def recover (s : State) : State :=
  if s.recovered then (((s.modClk fun c => { c with lossActive := false }).safeEnds [0x50]).pinsUp).applySc else s

/-- A PLL loses lock: its island is held in ISLAND reset, and UNLOCK_SEEN is set once that reset has returned its objects
(R47). CT or CV: handled as a loss of the crystal, which the model reads as all of R46, its flags XTAL_LOST and XTAL_OK and
EV_XTAL_LOST included, also while the crystal runs (log 101). -/
def pllUnlock (s : State) (i : Island) : State :=
  let b := lockBit i
  if i = .pl ∨ s.clk.heldIslands.getLsbD b = true then s
  else
    let s := (s.modClk fun c => { c with heldIslands := c.heldIslands ||| (1#6 <<< b) }).islandReset i 6 true
    let s := (s.orO O.sysClkStatus 0x100).showClk.postMasked 0x0041 0x0000 (2 ^ b)
    if i = .ct ∨ i = .cv then s.lossDeclared.postMasked 0x0040 0x0000 0 else s

/-- A PLL regains lock: its island leaves the reset; with CT and CV locked and the crystal running, XTAL_OK reads 1 again
(R47; log 101). -/
def pllRelock (s : State) (i : Island) : State :=
  let b := lockBit i
  if i = .pl ∨ s.clk.heldIslands.getLsbD b = false then s
  else
    (s.modClk fun c =>
      let held := c.heldIslands &&& ~~~(1#6 <<< b)
      { c with heldIslands := held, declared := c.declared && !(c.xtal && !held.getLsbD 0 && !held.getLsbD 1) }).showClk

/-- One trim of a private reference per millisecond, while the crystal runs (R22). -/
def refTrim (s : State) (i : Island) : State :=
  match refIndex i with
  | none => s
  | some k =>
    if s.clk.xtal && decide (s.clk.trimAt[k] + msTicks ≤ s.now) then
      s.modClk fun c => { c with trimAt := c.trimAt.set k s.now, trimmed := c.trimmed.set k true }
    else s

end State

/-! ### The rows -/

def execXtalLoss (s : State) : Host.Outcome State Fault Refusal := .next s.xtalLoss

def execClockRecoveryComplete (s : State) : Host.Outcome State Fault Refusal := .next s.recover

def execPllUnlock (isl : Island) (s : State) : Host.Outcome State Fault Refusal := .next (s.pllUnlock isl)

def execReferenceTrim (isl : Island) (s : State) : Host.Outcome State Fault Refusal := .next (s.refTrim isl)

def execControlWordTimeout (chan : Fin 10) (s : State) : Host.Outcome State Fault Refusal :=
  .next (if controlChans.contains chan.val then s.xingDrop chan else s)

def execXtalReturn (s : State) : Host.Outcome State Fault Refusal := .next s.xtalReturn

def execPllRelock (isl : Island) (s : State) : Host.Outcome State Fault Refusal := .next (s.pllRelock isl)

end Sys2Proof.Machine
end

