-- ==== Sys2Proof/Machine/Converters.lean ====
section
/-! DEFINITION. The rows of chapter "Analogue conversion" but those that bring a result to its consumers
(Machine/Results.lean), and the reference monitor (R445). -/

namespace Sys2Proof.Machine

namespace State

/-- The bits of a sign-extended S20 field are wrong (R8). -/
def s20Bad (v : Nat) : Bool := v != s20Bits (s20Int v)

/-- ADC_INJECT (R220, R221, R241). -/
def adcInject (c : Cmd) (s : State) : State × Reply :=
  let j := fieldAt c.payload 0 2
  s.guarded [chkLen c 4, chk (383 < j) St.range, chkZero c 2 2, chkLc s false false, chkRole s c 1,
             chkOwn? s c (s.pairGroup (j / 64)), chkIl s (s.pairGroup (j / 64))] fun s =>
    if h : j < 384 then
      let k : Fin 12 := ⟨j / 32, by omega⟩
      let q := s.adc.conv[s.runsOn k]
      if 4 ≤ q.queue.length + (s.adc.conv[k].coming.filter fun r => r.who == .host).length then (s, .bare St.busy)
      else (s.modConv k fun a => { a with coming := a.coming ++ [{ res := j, who := .host, at_ := s.now, cmd := some c }] }, .ok)
    else (s, .bare St.range)

/-- ADC_SEQ_START: a trigger of KIND 0, at which a pair hands over too (R216, R237, R241). -/
def adcSeqStart (c : Cmd) (s : State) : State × Reply :=
  let m := fieldAt c.payload 0 2
  let l : List (Fin 12) := (List.finRange 12).filter fun (k : Fin 12) => m.testBit k.val
  s.guarded ([chkLen c 4, chk (m == 0) St.badCount, chk (4095 < m) St.range, chkZero c 2 2, chkLc s false false, chkRole s c 1] ++
    l.map (fun (k : Fin 12) => chkOwn? s c (s.pairGroup (k.val / 2))) ++ l.map (fun (k : Fin 12) => chkIl s (s.pairGroup (k.val / 2))) ++
    [chk (l.any fun (k : Fin 12) => bitsOf (s.getO (O.adcTrigger k.val)) 31 30 != 0) St.state]) fun s =>
    (l.foldl (fun (s : State) (k : Fin 12) => s.adcFire k s.cvNext)
      (l.foldl (fun (s : State) (k : Fin 12) => (s.coverStep k s.cvNext).coverStep (partner k) s.cvNext) s), .ok)

/-- ADC_CAL (R231, R233). -/
def adcCal (c : Cmd) (s : State) : State × Reply :=
  let j := fieldAt c.payload 0 2
  let pt := fieldAt c.payload 2 1
  let v := fieldAt c.payload 4 4
  let g := s.pairGroup (j / 64)
  let off := (List.finRange 12).any fun k => k.val / 2 == j / 64 && s.adcSt k == 5
  s.guarded [chkLen c 8, chk (383 < j || 1 < pt) St.range, chkZero c 3 1, chk (s20Bad v) St.range, chkLc s false false,
             chkRole s c 3, chkOwn? s c g, chkIl s g,
             chkR (match g with | some g => s.stageOn g | none => false) St.state 0x0100,
             chkR off St.state 0x0104,
             chkR (pt == 1 && !(s.adc.zero.any fun z => z.host == c.host && z.res == j)) St.state 0x0103] fun s =>
    if h : j < 384 then
      let p : Fin 6 := ⟨j / 64, by omega⟩
      if s.adc.pair[p].cal.isSome then (s, .bare St.busy)
      else
        let late := !s.adc.conv[convOf p false].queue.isEmpty || !s.adc.conv[convOf p true].queue.isEmpty
        let run : CalRun :=
          { host := c.host, role := s.roleFor c, res := j, point := pt, value := s20Int v, restarts := 0,
            zero := s.adc.zero.find? fun z => z.host == c.host && z.res == j }
        let s := s.modPair p fun x => { x with cal := some run }
        ((s.hold c g [j / 64] true).calBegin p s.cvNext, if late then { Reply.pending with status := St.deferred } else .pending)
    else (s, .bare St.range)

/-- The codes of an acquisition's 64 levels in microvolts, each at the gain in force as it is sampled (R209, R226, R232). -/
def calCodes (s : State) (p : Fin 6) (c : CalRun) (uV : List Int) : List Nat :=
  let w := s.getO (O.adcResEntry c.res)
  let acq := bitsOf w 22 16
  uV.zipIdx.map fun x => rawCode (s.gainAt (16 * p.val + bitsOf w 3 0) (s.adc.pair[p].calAt + 4 * ((acq + 32) * x.2 + acq))) x.1

/-- OVERRANGE of a converter whose acquisition met an end of the range (R230). -/
def calOver (s : State) (k : Fin 12) (j : Nat) (l : List Nat) : State := match l.find? fun c => c == 0 || c == 16383 with
  | some c => s.overrange k j c
  | none => s
def calClip (l : List Nat) : Bool := l.any fun c => c == 0 || c == 16383

/-- The end of an acquisition (R232). -/
def calEnds (s : State) (p : Fin 6) (c : CalRun) : Nat := s.adc.pair[p].calAt + 64 * 4 * (bitsOf (s.getO (O.adcResEntry c.res)) 22 16 + 32)

/-- An acquisition has ended; the levels at the input as each converter met them, in microvolts (R232, R234). -/
def calDone (s : State) (p : Fin 6) (evenUV oddUV : List Int) : State :=
  match s.adc.pair[p].cal with
  | none => s
  | some c =>
    if s.adcSt (convOf p false) ≠ 4 ∨ s.now < s.calEnds p c ∨ evenUV.length ≠ 64 ∨ oddUV.length ≠ 64 then s
    else
      let le := s.calCodes p c evenUV
      let lo := s.calCodes p c oddUV
      let even := le.foldl (· + ·) 0
      let odd := lo.foldl (· + ·) 0
      let clipEven := calClip le
      let clipOdd := calClip lo
      let s := ((s.calOver (convOf p false) c.res le).calOver (convOf p true) c.res lo)
      let s := (s.adcIdle (convOf p false)).adcIdle (convOf p true)
      if clipEven || clipOdd then s.calEnd p c 4
      else if c.point = 0 then
        (s.modAdc fun a => { a with
          zero := { host := c.host, res := c.res, even, odd, value := c.value } ::
            a.zero.filter fun z => !(z.host == c.host && z.res == c.res) }).calEnd p c 0
      else
        match c.zero with
        | none => s.calEnd p c 3
        | some z =>
          match calCompute z.even even z.value c.value, calCompute z.odd odd z.value c.value with
          | .inl e, .inl o =>
            let own := if c.res / 32 % 2 = 0 then e else o
            let other := if c.res / 32 % 2 = 0 then o else e
            let v := f32Of own.2 + f32Of own.1 * 2 ^ 32 + f32Of other.2 * 2 ^ 64 + f32Of other.1 * 2 ^ 96
            let id := O.adcResCal (c.res % 384)
            let s : State := { (s.auditObj c.host c.role id 16 (s.getO id) v) with dirty := id :: s.dirty.filter (· != id) }
            (s.setO id v).hwThreshold.calEnd p c 0
          | .inr x, _ => s.calEnd p c x
          | _, .inr x => s.calEnd p c x

/-- A trigger reaches a converter: it fires at the first CV clock at or after its target; one that comes after is not fired, and the
sequence it starts counts as overrun (R32, R33, R216, R219, R237). -/
def samplingTrigger (s : State) (k : Fin 12) : State :=
  match s.gridLast (s.getO (O.adcTrigger k)) with
  | none => s
  | some t =>
    if t < s.adc.conv[k].trigNext ∨ s.now < cvAt t then s
    else
      let s := ((s.modConv k fun a => { a with trigNext := t + 1 }).coverStep k (cvAt t)).coverStep (partner k) (cvAt t)
      if s.now = cvAt t then s.adcFire k (cvAt t)
      else if (s.passItems k).isEmpty ∨ s.adcSt k = 4 ∨ s.adcSt k = 5 then s
      else (s.orO (O.adcStatus k) 1).adcLate k t

/-- The reference monitor of a pair; readings in microvolts (R445). -/
def refCheck (s : State) (p : Fin 6) (ref25 refMid : Nat) : State :=
  let bad := decide (ref25 + 10000 < 2500000) || decide (2510000 < ref25) || decide (refMid + 5000 < 1250000) ||
    decide (1255000 < refMid)
  if bad then
    (s.modPair p fun x => { x with refBad := true, refOkAt := none }).raise 0x0810 0x7800 (4 * 2 ^ 24 + p)
  else
    match s.adc.pair[p].refOkAt with
    | none => s.modPair p fun x => { x with refOkAt := some s.now }
    | some t => if t + 100 * usTicks ≤ s.now then s.modPair p fun x => { x with refBad := false } else s

end State

/-! ### The rows -/

def execSamplingTrigger (k : Fin 12) (s : State) : Host.Outcome State Fault Refusal := .next (s.samplingTrigger k)

def execInjectArrival (k : Fin 12) (s : State) : Host.Outcome State Fault Refusal :=
  .next (match s.injDue k with
    | some r => (s.modConv k fun a => { a with coming := a.coming.erase r }).injArrive k r
    | none => s)

def execCalAcquisitionDone (p : Fin 6) (evenUV oddUV : List Int) (s : State) : Host.Outcome State Fault Refusal :=
  .next (s.calDone p evenUV oddUV)

def execAdcInject (s : State) : Host.Outcome State Fault Refusal :=
  .next (match s.frontCmd 0x0501 with
    | none => s
    | some c =>
      let r := State.adcInject c s.popCmd
      if r.2.status = St.ok then r.1 else r.1.respond c r.2)

def execAdcSeqStart (s : State) : Host.Outcome State Fault Refusal := .next (s.runCmd 0x0502 State.adcSeqStart)

def execAdcCal (s : State) : Host.Outcome State Fault Refusal := .next (s.runCmd 0x0503 State.adcCal)

def execRefMonitorCheck (p : Fin 6) (ref25 refMid : Nat) (s : State) : Host.Outcome State Fault Refusal :=
  .next (s.refCheck p ref25 refMid)

end Sys2Proof.Machine
end

