-- ==== Sys2Proof/Machine/Dcl.lean ====
section
/-! DEFINITION. The rows of chapter "DC link, contactors and braking". -/

namespace Sys2Proof.Machine

namespace State

def dclCommon (s : State) (c : Cmd) (power : Bool) (least : Nat) : List Chk :=
  [chkLc s power false, chkRole s c least, chkOwn s c 4, chkIl s (some 4)]

/-- Seconds until the last 60 s hold fewer than three closing sequences (R289). -/
def closeWait (s : State) : Option Nat :=
  match s.dcl.starts with
  | [_, _, t] => if s.now < t + 60 * sTicks then some ((t + 60 * sTicks - s.now + sTicks - 1) / sTicks) else none
  | _ => none

/-- The checks of R289 in table order, and the override (R84; log 55). -/
def closeChecks (s : State) : List Chk :=
  let bat := s.getO O.dclBattery == 1
  let beyond := s.dcl.vLink - s.dcl.vBat
  [chkR (s.dclSt != 0) St.state 0x0100 s.dclSt,
   chkR (bat && decide (383 < s.getO O.dclVbatSrc)) St.state 0x0121,
   chkR (s.getO O.dclHvilEnable == 1 && s.dcl.hvil) St.state 0x0122,
   chkR (s.getO O.dclBmsOpen != 0) St.refused 0x0123,
   chkR (bat && decide (s.getQ O.dclPreDv < beyond)) St.refused 0x0124 (truncZ beyond).toNat,
   chkR s.closeWait.isSome St.refused 0x0125 (s.closeWait.getD 0),
   chkOverride s 4 2]

/-- DCL_CLOSE (R288, R289). -/
def dclCloseCmd (c : Cmd) (s : State) : State × Reply :=
  s.guarded ([chkLen c 0] ++ s.dclCommon c true 1 ++ s.closeChecks) fun s =>
    let s := s.hold c (some 4) []
    (if s.getO O.dclBattery = 0 then s.closeDone else s.closeStart, .pending)

/-- DCL_OPEN (R292, R309). -/
def dclOpenCmd (c : Cmd) (s : State) : State × Reply :=
  let mode := fieldAt c.payload 0 1
  s.guarded ([chkLen c 4, chk (1 < mode) St.range, chkZero c 1 3] ++ s.dclCommon c false 1) fun s =>
    if s.dclSt = 0 then (s, .ok)
    else if s.dclSt = 6 then (s.dclOpened 1, .ok)
    else ((s.hold c (some 4) []).dclLeave (mode == 1) 1, .pending)

/-- DCL_CHOP_CLEAR (R300). -/
def dclChopClearCmd (c : Cmd) (s : State) : State × Reply :=
  s.guarded ([chkLen c 0] ++ s.dclCommon c false 1 ++
      [chkR (s.linkState 31 != 2 || s.links[(31 : Fin 40)].fault != 0) St.state 0x0127]) fun s =>
    ((s.clrO O.dclFlags 0x20000).chopRise, .ok)

/-- DCL_HWOV_CLEAR (R305). -/
def dclHwovClearCmd (c : Cmd) (s : State) : State × Reply :=
  s.guarded ([chkLen c 0] ++ s.dclCommon c false 2 ++
      [chkR (decide (s.getQ O.dclHwOvRel ≤ s.dcl.vLink)) St.state 0x0128]) fun s =>
    ((((s.clrO O.dclFlags 0x10000).modDcl fun d => { d with hwAsc := false }).safeEnds [0x11]).applySc, .ok)

/-- The comparator trips (R304). -/
def hwTrip (s : State) : State :=
  if s.bitO O.dclFlags 16 then s
  else
    let s := ((s.orO O.dclFlags 0x10001).modDcl fun d => { d with hwAt := s.now, hwAsc := false }).safeSwitching 0x11
    s.applySc.raise 0x0395 0x3C00 (s.dcl.vLink.floor.toNat * 256)

/-- ASC follows OFF (R304). -/
def hwAscStep (s : State) : State :=
  if s.bitO O.dclFlags 16 ∧ s.dcl.hwAsc = false ∧ s.dcl.hwAt + s.getO O.dclHwOffTime * 80 ≤ s.now then
    (s.modDcl fun d => { d with hwAsc := true }).applySc
  else s

/-- The HVIL loop, debounced, counts as open (R294). -/
def hvilOpens (s : State) : State :=
  if s.dcl.hvil = false ∧ s.loopOpen = true then
    let s := ((s.modDcl fun d => { d with hvil := true }).orO O.dclFlags 0x40).raise 0x0392 0x3C00 1
    if s.getO O.dclHvilAct = 1 ∧ s.dclSt = 4 then s.dclLeave false 2 else s
  else s

/-- The loop counts as closed again (R294). -/
def hvilCloses (s : State) : State :=
  if s.dcl.hvil = true ∧ s.loopOpen = false then
    (s.modDcl fun d => { d with hvil := false }).raise 0x0392 0x3C00 0
  else s

/-- The battery limits are stale (R296). -/
def bmsAged (s : State) : State :=
  if s.dcl.bmsStale = false ∧ s.dcl.bmsAt + s.getO O.dclBmsAge * msTicks < s.now then
    (((s.modDcl fun d => { d with bmsStale := true }).orO O.dclFlags 0x20).raise 0x0397 0x3C00 1).chgStopFor [Cause.bms]
  else s

end State

/-! ### The rows -/

def execDclClose (s : State) : Host.Outcome State Fault Refusal := .next (s.runCmd 0x0320 State.dclCloseCmd)

def execDclOpen (s : State) : Host.Outcome State Fault Refusal := .next (s.runCmd 0x0321 State.dclOpenCmd)

def execDclChopClear (s : State) : Host.Outcome State Fault Refusal := .next (s.runCmd 0x0322 State.dclChopClearCmd)

def execDclHwovClear (s : State) : Host.Outcome State Fault Refusal := .next (s.runCmd 0x0323 State.dclHwovClearCmd)

def execCloseStepTimer (s : State) : Host.Outcome State Fault Refusal := .next s.closeStepEnd

def execPrechargeTimeout (s : State) : Host.Outcome State Fault Refusal :=
  .next (if s.dclSt = 3 ∧ s.dcl.step = 3 ∧ s.dcl.stepAt + s.getO O.dclPreTimeout * msTicks ≤ s.now then s.closeFail else s)

def execOpeningStep (s : State) : Host.Outcome State Fault Refusal := .next s.openStep

def execLinkVoltageSample (s : State) : Host.Outcome State Fault Refusal := .next s.linkSample

def execOvaEnd (s : State) : Host.Outcome State Fault Refusal := .next s.ovaFinish

def execLinkSourceTimeout (n : Fin 2) (s : State) : Host.Outcome State Fault Refusal := .next (s.linkTimeout n)

def execLinkSourceMismatch (s : State) : Host.Outcome State Fault Refusal := .next s.linkMismatch

def execHvilOpen (s : State) : Host.Outcome State Fault Refusal := .next s.hvilOpens

def execHvilClosed (s : State) : Host.Outcome State Fault Refusal := .next s.hvilCloses

def execBmsStale (s : State) : Host.Outcome State Fault Refusal := .next s.bmsAged

def execHwOvTrip (s : State) : Host.Outcome State Fault Refusal := .next s.hwTrip

def execHwOvAsc (s : State) : Host.Outcome State Fault Refusal := .next s.hwAscStep

end Sys2Proof.Machine
end

