-- ==== Sys2Proof/Machine/GateLinks.lean ====
section
/-! DEFINITION. The rows of the gate links (chapter "Gate links and edge-timed PWM"). -/

namespace Sys2Proof.Machine

namespace State

/-- A training step ends (R115). -/
def stepEnd (s : State) (l : Fin 40) (r : TrainResult) : State :=
  let k := s.links[l]
  if k.st ≠ .training then s
  else
    let next (s : State) : State := s.modLink l fun k => { k with step := k.step + 1, stepAt := s.now }
    match k.step, r with
    | _, .failed => s.trainFail l
    | 1, .passed => next s
    | 2, .eyes w => (next (s.setO (O.glkRxCtle l) (argMax w % 16))).trainReads l
    | 3, .ident v p g d c => s.trainIdent l v.toNat p.toNat g.toNat d.toNat c.toNat
    | 4, .readBack same =>
      if same then (next (s.modLink l fun k => { k with lossAct := k.reg.elim k.lossAct (·.data), reg := none })).trainEchoes l
      else s.trainFail l
    | 5, .echoes e => s.trainReady l e
    | _, _ => s

/-- The equaliser follows the eye margin, one step at a time (R96). Where both neighbours give more than 10 % more margin the spec names
no order: the model takes the larger, and of equal ones the step above (log 123). -/
def ctle (s : State) (l : Fin 40) (here below above : Nat) : State :=
  if s.linkUp l = false ∨ s.now < s.links[l].ctleAt + msTicks then s
  else
    let i := s.getO (O.glkRxCtle l)
    let s := s.modLink l fun k => { k with ctleAt := s.now }
    if 11 * here < 10 * above ∧ below ≤ above ∧ i < 15 then s.setO (O.glkRxCtle l) (i + 1)
    else if 11 * here < 10 * below ∧ 0 < i then s.setO (O.glkRxCtle l) (i - 1)
    else s

/-- An ECHO reply (R116, R117). -/
def echoReply (s : State) (l : Fin 40) (rt : Nat) (b : List Byte) : State :=
  if s.links[l].echo = some (fieldAt b 0 1) then
    (s.modLink l fun k => { k with echo := none }).echoValue l (wireDelay rt (fieldAt b 1 2))
  else s

/-- The links of a MASK, and the common checks of R137. -/
def maskLinks (m : Nat) : List (Fin 40) := (List.finRange 40).filter fun (l : Fin 40) => m.testBit l.val
def glkChecks (s : State) (c : Cmd) : List Chk :=
  let m := fieldAt c.payload 0 8
  [chkLen c 8, chk (m == 0 || decide (2 ^ 40 ≤ m)) St.range, chkLc s false false, chkRole s c 2] ++
    (maskLinks m).map (fun (l : Fin 40) => chkOwn s c (linkGroup l.val)) ++
    (maskLinks m).map (fun (l : Fin 40) => chkIl s (some (linkGroup l.val)))

/-- GLK_TRAIN (R115, R137). -/
def glkTrainCmd (c : Cmd) (s : State) : State × Reply :=
  let m := fieldAt c.payload 0 8
  let off := (maskLinks m).find? fun l => !s.linkEnabled l
  s.guarded (s.glkChecks c ++ [chk ((maskLinks m).any fun l => s.stage137 l) St.state,
      chkR off.isSome St.state 0x0101 (off.elim 0 (·.val))]) fun s =>
    (((maskLinks m).foldl (fun (s : State) l => s.trainStart l) s).hold c none [m], .pending)

/-- GLK_CLEAR_DRIVER (R111, R137). -/
def glkClearCmd (c : Cmd) (s : State) : State × Reply :=
  let m := fieldAt c.payload 0 8
  s.guarded (s.glkChecks c ++ [chk ((maskLinks m).any fun l => s.linkState l != 5 || s.stage137 l) St.state]) fun s =>
    ((maskLinks m).foldl (fun (s : State) l => s.regSend l 0x8C 0x00FC) s, .ok)

end State

/-! ### The rows -/

def execTrainingStart (l : Fin 40) (s : State) : Host.Outcome State Fault Refusal :=
  .next (if s.linkEnabled l && s.ctLocked && s.links[l].st == .off && !s.links[l].barred then s.trainStart l else s)

def execTrainingStepEnd (l : Fin 40) (r : TrainResult) (s : State) : Host.Outcome State Fault Refusal := .next (s.stepEnd l r)

def execLinkRetrainTimer (l : Fin 40) (s : State) : Host.Outcome State Fault Refusal :=
  .next (if s.linkEnabled l && s.ctLocked && s.links[l].st == .lost && decide (s.links[l].lostAt + 10 * msTicks ≤ s.now) then
    s.trainStart l else s)

def execCtleAdapt (l : Fin 40) (here below above : Nat) (s : State) : Host.Outcome State Fault Refusal :=
  .next (s.ctle l here below above)

def execEchoTick (s : State) : Host.Outcome State Fault Refusal :=
  .next ((List.finRange 40).foldl (fun (s : State) l => s.echoSend l) s)

def execEchoReplyReceived (l : Fin 40) (rt : Nat) (f : UpFrame) (s : State) : Host.Outcome State Fault Refusal :=
  .next (s.onFrame l f kEcho 3 fun s => s.echoReply l rt f.bytes)

def execEdgeTelReceived (l : Fin 40) (f : UpFrame) (s : State) : Host.Outcome State Fault Refusal :=
  .next (s.onFrame l f kTel 4 fun s => s.edgeTel l (leNat f.bytes))

def execStatReceived (l : Fin 40) (f : UpFrame) (s : State) : Host.Outcome State Fault Refusal :=
  .next (s.onFrame l f kStat 4 (fun s => s.stat l (leNat f.bytes)) fun s => s.statSeen l (leNat f.bytes))

def execAlarmReceived (l : Fin 40) (f : UpFrame) (s : State) : Host.Outcome State Fault Refusal :=
  .next (s.onFrame l f kAlarm 1 (fun s => s.alarm l (leNat f.bytes)) fun s => s.alarm l (leNat f.bytes))

def execRegReplyReceived (l : Fin 40) (f : UpFrame) (s : State) : Host.Outcome State Fault Refusal :=
  .next (s.onFrame l f kReg 3 fun s => s.regReply l (fieldAt f.bytes 0 1) (fieldAt f.bytes 1 2))

def execRegReplyTimeout (l : Fin 40) (s : State) : Host.Outcome State Fault Refusal := .next (s.regMissed l)

def execStatTimeout (l : Fin 40) (s : State) : Host.Outcome State Fault Refusal :=
  .next (if s.links[l].statAt + 25 * usTicks ≤ s.now then s.linkLoss l 5 else s)

def execEdgeTelTimeout (l : Fin 40) (s : State) : Host.Outcome State Fault Refusal := .next (s.edgeTelMissed l)

def execUpstreamSymbolLoss (l : Fin 40) (crit : Fin 4) (s : State) : Host.Outcome State Fault Refusal :=
  .next ((s.when (s.links[l].st != .off && crit == 2) fun s => s.orO (O.glkStatus l) 0x2000).linkLoss l (crit.val + 1))

def execForceResend (s : State) : Host.Outcome State Fault Refusal :=
  .next ((List.finRange 40).foldl (fun (s : State) l => s.forceAgain l) s.releaseSc)

def execGlkTrain (s : State) : Host.Outcome State Fault Refusal := .next (s.runCmd 0x0301 State.glkTrainCmd)

def execGlkClearDriver (s : State) : Host.Outcome State Fault Refusal := .next (s.runCmd 0x0302 State.glkClearCmd)

end Sys2Proof.Machine
end

