-- ==== Sys2Proof/Machine/HostPorts.lean ====
section
/-! DEFINITION. The rows of the host ports (chapter "Host ports, mailboxes and shared hosts"): register block, slots,
doorbells, rings, exchange memory, HPN records, acceptance and completion of commands, leases. -/

namespace Sys2Proof.Machine

namespace State

/-- The host index of an SPI port. -/
def spiHost (h : Fin 3) : Fin 4 := ⟨h.val, by omega⟩

/-- The VIO bank an SPI port's pins stand in (R528, chapter "Package and pins"). -/
def hostBank (h : Fin 3) : Fin 3 := h

/-- A transaction of an SPI port reaches the device: its bank is up, and HF (or SC for HPC in keep-alive operation)
runs (R51, R400, R529). -/
def portLive (s : State) (h : Fin 3) : Bool :=
  !s.pwr.asleep && (!s.pwr.keepAlive || h == 2) && s.pwr.vio[hostBank h]

/-- A write transaction takes effect: opcode 0x02 (R52). -/
def portWrites (s : State) (h : Fin 3) (op : Byte) : Bool := s.portLive h && op == 0x02#8

/-- The port has been active since its last HOST reset (R72). -/
def touch (s : State) (h : Fin 4) : State := s.modHost h fun p => { p with active := true }

/-- A doorbell for slot `k`: a FREE slot becomes POSTED, any other sets DB_ERR (R65). -/
def doorbell (s : State) (h : Fin 4) (k : Fin 8) : State :=
  if s.hosts[h].slots[k].st = .free then
    (s.modSlot h k fun x => { x with st := .posted, lost := 0, cmd := x.mem.readN 0 (12 + fieldAt (x.mem.readN 4 2) 0 2) }).modHost
      h fun p => { p with bells := p.bells ++ [k] }
  else s.modHost h fun p => { p with sticky := { p.sticky with dbErr := true } }

/-- The slots that a register's bits [7:0] name. -/
def slotsIn (w : Nat) : List (Fin 8) := (List.finRange 8).filter fun k => w.testBit k

/-- A DONE slot released to FREE; any other is left (R65). -/
def releaseSlot (s : State) (h : Fin 4) (k : Fin 8) : State :=
  if s.hosts[h].slots[k].st = .done then s.modSlot h k fun x => { x with st := .free } else s

/-- A new EVT_TAIL: taken inside the span up to EVT_HEAD, else RING_ERR (R70); a freed entry lets the device write
EV_EVT_OVERFLOW (R71). -/
def setTail (s : State) (h : Fin 4) (t : Nat) : State :=
  let p := s.hosts[h]
  if (t % 128 + 128 - p.tail) % 128 ≤ (p.head + 128 - p.tail) % 128 then
    (s.modHost h fun p => ({ p with tail := t % 128 } : HostPort).settle (s.followerStamp .hf)).when (h == 3) fun t => t.hpnNew p.head
  else s.modHost h fun p => { p with sticky := { p.sticky with ringErr := true } }

/-- A request of a host in a converter's queue: nothing is written for it after a HOST reset (R92). -/
def orphanInj (h : Fin 4) (r : InjReq) : InjReq :=
  { r with cmd := r.cmd.map fun c => if c.host = h then { c with orphan := true } else c }

/-- What a HOST reset changes at the converters: orphaned requests, and the points of R231 forgotten; a POINT 1 under way keeps the one
it found. -/
def orphanAdc (s : State) (h : Fin 4) : State :=
  { s with adc := { s.adc with
      zero := s.adc.zero.filter fun z => z.host != h,
      conv := s.adc.conv.map fun a => { a with queue := a.queue.map (orphanInj h), coming := a.coming.map (orphanInj h) } } }

/-- The HOST reset of one host (R92). -/
def hostReset (s : State) (h : Fin 4) : State :=
  let s0 := s
  let s : State := (List.range 14).foldl (fun s g => if s.owner g = some h then s.endLease g 4 false else s) s
  let s := (s.endSession h 5).orphanAdc h
  let s := s.modDisp fun d => { d with
    accepted := d.accepted.map fun c => if c.host = h then { c with orphan := true, role := some (s0.roleFor c) } else c,
    held := (d.held.filter fun p => !(p.host == h && p.waiting)).map fun p =>
      if p.host = h then { p with orphan := true } else p,
    ended := d.ended.filter fun p => p.host != h }
  let s := s.modHost h fun p => { p with
    slots := p.slots.map fun x => { x with st := .free, lost := 0 },
    bells := [], head := 0, tail := 0, lost := 0, dropped := 0, sticky := Sticky.reset, irqEn := 0, quad := false,
    active := false, lostSent := false }
  let s := s.clrO O.sysHostPresent (2 ^ h.val)
  let s := s.when (s.getO O.sysHostSafetyHost == h.val) fun s =>
    { s with disp := { s.disp with safetyAt := s.now, safetyActed := false } }
  s.onPorts fun j p => if j ≠ h ∧ (s.getO (O.sysHostEvtMask j)).testBit 16 then p.post (s.evt 0x0055 0 h) else p

/-! ### Acceptance -/

/-- The codes of the commands the device knows. -/
def knownCodes : List Nat :=
  [0x0101, 0x0102, 0x0103, 0x0104, 0x0105, 0x0110, 0x0111, 0x0120, 0x0121, 0x0130, 0x0201, 0x0301, 0x0302, 0x0310,
   0x0311, 0x0312, 0x0313, 0x0320, 0x0321, 0x0322, 0x0323, 0x0401, 0x0402, 0x0403, 0x0404, 0x0410, 0x0411, 0x0412,
   0x0501, 0x0502, 0x0503, 0x0510, 0x0511, 0x0512, 0x0601, 0x0602, 0x0603, 0x0610] ++
  [0x0701, 0x0702, 0x0703, 0x0710, 0x0711, 0x0712, 0x0713, 0x0714, 0x0715, 0x0716, 0x0801, 0x0802, 0x0803, 0x0810,
   0x0901, 0x0902, 0x0903, 0x0904, 0x0905, 0x0A01, 0x0A02, 0x0A03, 0x0A04, 0x0A05, 0x0A06, 0x0A07, 0x0A10, 0x0A11,
   0x0A12, 0x0A13, 0x0A14, 0x0A15, 0x0A16]

/-- A command that starts or waits out the pause of R438. -/
def pausable (c : Cmd) : Bool := !(c.host == 2 || c.code == 0x0130)

/-- The pause of R438 holds a host's next command, from the end of the one before: neither HPC nor SAFETY_OVERRIDE waits. -/
def paused (s : State) (h : Fin 4) : Bool :=
  s.throttled && (decide (s.now < s.thm.pause[0]) || (s.disp.accepted ++ s.started).any pausable) && h != 2 &&
    (match s.hosts[h].bells with
     | k :: _ => fieldAt (s.hosts[h].slots[k].mem.readN 0 2) 0 2 != 0x0130
     | [] => true)

/-- A host's next posted slot can be accepted now: HF accepts commands, or SC serves HPC in keep-alive operation
(R67, R400, R438, R545). -/
def acceptable (s : State) (h : Fin 4) : Bool :=
  !s.hosts[h].bells.isEmpty &&
    (if s.pwr.keepAlive then h == 2
     else s.disp.ready && s.pwr.entering.isNone && !s.pwr.asleep && !s.paused h)

/-- The next host in round-robin order, beginning with the one after the host served last (R66). -/
def nextHost (s : State) : Option (Fin 4) :=
  ([1, 2, 3, 0].map fun d : Fin 4 => s.disp.last + d).find? fun h => s.acceptable h

/-- The objects that SC reads for HPC in keep-alive operation: those of groups RPK and PARK, and `amc.park.state` (R400). -/
def keepAliveReads (s : State) (id : Nat) : Bool :=
  id == O.amcParkState || (match s.rowOf id with
    | some (r, i) => s.objGroup r i == some 6 || s.objGroup r i == some 9
    | none => false)

/-- What SC answers in keep-alive operation without running the command: ST_STATE, REASON 0x0160 (R400). -/
def keepAliveRefuses (s : State) (c : Cmd) : Bool :=
  s.pwr.keepAlive &&
    !(c.code == 0x0714 || c.code == 0x0715 ||
      (c.code == 0x0101 && s.keepAliveReads (fieldAt c.payload 0 2)))

/-- The frame check of R61 on the bytes of a slot, and the codes SC or HF do not take: the error that ends the command
at once, if any. -/
def frameError (s : State) (c : Cmd) (len crc flags rsv : Nat) (body : List Byte) : Option Reply :=
  if 4096 < len then some (.bare St.badLen)
  else if crc32c body ≠ crc then some (.bare St.badCrc)
  else if rsv ≠ 0 ∨ 3 < flags then some (.bare St.badCmd)
  else if !knownCodes.contains c.code then some (.bare St.badCmd)
  else if s.keepAliveRefuses c then some (.err St.state 0x0160)
  else none

/-- The dispatcher accepts one posted command (R61, R65, R66). DESIGN CHOICE where the spec is silent: a frame whose CRC is wrong gets no
EV_CMD_DONE, since its FLAGS cannot be trusted, and one whose LEN exceeds 4,096 gets it where the CRC over its whole span matches (R62;
log 107). A WITHDRAW frame never posts one (R62). -/
def accept (s : State) : State :=
  match s.nextHost with
  | none => s
  | some h =>
    match s.hosts[h].bells with
    | [] => s
    | k :: rest =>
      let x := s.hosts[h].slots[k]
      let hd := x.mem.readN 0 8
      let len := fieldAt hd 4 2
      let c : Cmd :=
        { host := h, slot := k, code := fieldAt hd 0 2, tag := fieldAt hd 2 1, flags := fieldAt hd 3 1,
          payload := if 4096 < len then [] else x.mem.readN 8 len, stamp := s.followerStamp .hf, kept := 0,
          lost := x.lost, orphan := false, role := none }
      let s := (s.modHost h fun p => { p with bells := rest }).modSlot h k fun x =>
        { x with st := .accepted, acceptAxt := c.stamp }
      let s := { s with disp := { s.disp with last := h },
                        sec := { s.sec with cmdAt := s.sec.cmdAt.set h s.now } }.renew h
      match s.frameError c len (fieldAt (x.mem.readN (8 + len) 4) 0 4) c.flags (fieldAt hd 6 2)
          (x.mem.readN 0 (8 + len)) with
      | some r => s.respond { c with flags := if crc32c (x.mem.readN 0 (8 + len)) = fieldAt (x.mem.readN (8 + len) 4) 0 4 ∧
                                                c.flags.testBit 1 = false then c.flags else 0 } r
      | none => { s with disp := { s.disp with accepted := s.disp.accepted ++ [c] } }

/-! ### HPN records (R86, R502) -/

/-- The body of a record of the given type that the channel accepts: right TAG, SEQ above the highest accepted. -/
def hpnBody (s : State) (kind : Nat) (r : List Byte) : Option (Nat × Nat × List Byte) :=
  let n := fieldAt r 2 2
  if s.hpn.up = true ∧ r.length = 40 + n ∧ fieldAt r 0 1 = kind ∧ s.hpn.rxSeq < fieldAt r 4 4 ∧
      Config.kmac256 s.hpn.key (r.take (8 + n)) 32 "EZ HPN REC" = r.drop (8 + n) then
    some (fieldAt r 4 4, fieldAt r 1 1, (r.drop 8).take n)
  else none

/-- A record accepted by the channel. -/
def hpnTake (s : State) (seq : Nat) : State :=
  { s with hpn := { s.hpn with rxSeq := seq, lastAt := s.now } }.touch 3

/-- An action on the body of an accepted record; any other record is dropped. -/
def onRecord (s : State) (kind : Nat) (r : List Byte) (f : State → Nat → List Byte → State) : State :=
  match s.hpnBody kind r with
  | some (seq, slot, body) => f (s.hpnTake seq) slot body
  | none => s

/-- A POST: writes and posts a FREE slot; the same frame again brings the RESPONSE again once DONE; another frame sets
DB_ERR (R87). -/
def hpnPost (s : State) (slot : Nat) (frame : List Byte) : State :=
  if hk : slot < 8 then
    let k : Fin 8 := ⟨slot, hk⟩
    let x := s.hosts[3].slots[k]
    if x.st = .free then
      (s.modSlot 3 k fun x => { x with mem := x.mem.writeL 0 (frame.take 4108) }).doorbell 3 k
    else if x.cmd = frame then
      s.when (x.st == .done) fun s =>
        let len := fieldAt (x.mem.readN 4 2) 0 2
        s.sendHpn 2 slot (toLe 8 x.acceptAxt.toNat ++ toLe 8 x.doneAxt.toNat ++ x.mem.readN 0 (12 + len))
    else s.modHost 3 fun p => { p with sticky := { p.sticky with dbErr := true } }
  else s

/-- The places of the entries between EVT_TAIL and EVT_HEAD, oldest first. -/
def unreadAt (p : HostPort) : List Nat := (List.range ((p.head + 128 - p.tail) % 128)).map fun i => (p.tail + i) % 64

/-- The EVENT record of an entry leaves again 100 ms after it last did (R87). -/
def hpnAgain (s : State) (i : Nat) : State :=
  if h : i < 64 then (if s.hpn.resendAt[i] + 100 * msTicks ≤ s.now then s.hpnEvent i else s) else s

/-! ### The exchange memory (R88, R89) -/

/-- A word of the exchange memory. -/
def xWord (m : XMem) (w : Nat) : List Byte := m.readN (4 * w) 4

/-- An access noted, with what it writes. -/
def xmemNote (s : State) (h : Fin 2) (a : XAccess) (bytes : List Byte) : State :=
  let x := s.xmem.writeL (4 * a.word) bytes
  { s with xmem := { x with last := x.last.set h (some a) } }

/-- Whether a port's access meets the other port's last one: same word, windows of six HF clocks, a write among them (R88). -/
def meets (a b : XAccess) : Bool := b.word == a.word && decide (a.clk < b.clk + 6) && decide (b.clk < a.clk + 6) && (a.wr || b.wr)

/-- The word a colliding read returns is a free value (R89). -/
def xmemSpoil (s : State) (h : Fin 2) : State := s.takeFree.send (.spi h (toLe 4 (Config.freeValue s.free).toNat))

/-- The newest word that left over a port, taken out. -/
def dropSpi (h : Nat) : List Sent → List Sent
  | [] => []
  | x :: t => match x with
    | .spi k _ => if k = h then t else x :: dropSpi h t
    | _ => x :: dropSpi h t

/-- The word of an earlier read that a write now meets: its reader gets a free value in its place (R89). -/
def xmemRespoil (s : State) (h : Fin 2) : State := ({ s with sent := dropSpi h s.sent } : State).xmemSpoil h

/-- A collision with the other port's access: the later port is marked, BUSY_A or BUSY_B of it asserted, a reader's word spoiled
(R89). -/
def xmemCollide (s : State) (h : Fin 2) (a b : XAccess) (later : Fin 2) : State :=
  let s := if a.wr = false then s.xmemSpoil h else if b.wr = false then s.xmemRespoil (1 - h) else s
  let s := s.modHost ⟨later.val, by omega⟩ fun p => { p with
    sticky := { p.sticky with coll := true }, xcollAddr := BitVec.ofNat 32 (2 ^ 31 + a.word * 4) }
  let busy := s.xmem.busy.set later (max a.clk b.clk + 60)
  { s with xmem := { s.xmem with busy } }

/-- One word access: the write takes effect in window order, a read leaves over the port; a collision marks the later
port and spoils the word of a reader that met a write. -/
def xmemAccess (s : State) (h : Fin 2) (a : XAccess) (data : BitVec 32) : State :=
  let o : Fin 2 := 1 - h
  let s := s.touch ⟨h.val, by omega⟩
  match s.xmem.last[o] with
  | some b =>
    if meets a b then
      let later : Fin 2 := if b.clk < a.clk then h else if a.clk < b.clk then o else 1
      (s.xmemNote h a (if a.wr && !(b.wr && later == o) then toLe 4 data.toNat else [])).xmemCollide h a b later
    else if a.wr then s.xmemNote h a (toLe 4 data.toNat)
    else (s.xmemNote h a []).send (.spi h (xWord s.xmem a.word))
  | none => if a.wr then s.xmemNote h a (toLe 4 data.toNat) else (s.xmemNote h a []).send (.spi h (xWord s.xmem a.word))

/-- The sticky bits that a write of HP_STATUS clears (R56). -/
def clearSticky (k : Sticky) (w : Nat) : Sticky :=
  { ringErr := k.ringErr && !w.testBit 24, coll := k.coll && !w.testBit 13, wrIgn := k.wrIgn && !w.testBit 12,
    dbErr := k.dbErr && !w.testBit 11, leaseLost := k.leaseLost && !w.testBit 10,
    hbLapsed := k.hbLapsed && !w.testBit 9, evtOvf := k.evtOvf && !w.testBit 8 }

/-- IRQ_N asserted: some enabled condition of HP_CONTROL holds (R57, R58). -/
def irq (s : State) (h : Fin 4) : Bool :=
  let p := s.hosts[h]
  let k := p.sticky
  (p.irqEn.getLsbD 0 && p.slots.toList.any fun x => x.st == .done) || (p.irqEn.getLsbD 1 && p.head != p.tail) ||
    (p.irqEn.getLsbD 2 && (k.ringErr || k.coll || k.wrIgn || k.dbErr || k.leaseLost || k.hbLapsed || k.evtOvf))

/-- A lapse of a present host (R80). -/
def leaseLapse (s : State) (h : Fin 4) : State :=
  let s := s.clrO O.sysHostPresent (2 ^ h.val)
  let s := s.modHost h fun p => { p with sticky := { p.sticky with hbLapsed := true }, lostSent := true }
  let s := s.postActive 0x0054 h
  (List.range 14).foldl (fun s g => if s.owner g = some h then s.endLease g 5 else s) s

/-- The rank of a host for a group (R79). -/
def claimRank (s : State) (g h : Nat) : Nat := bitsOf (s.getO O.sysHostClaimRank) (8 * (4 * g + h) + 7) (8 * (4 * g + h))

/-- A group granted to a host (R79). -/
def grant (s : State) (g : Nat) (h : Fin 4) : State := (s.setOwner g h).postMasked 0x0051 0 (h.val * 256 + g)

/-- A group owned by another host is refused (R79, R80): ST_NOT_OWNER, REASON 0x0001. -/
def claimRefused (s : State) (g : Nat) : Reply :=
  .err St.notOwner 0x0001 (g + 256 * bitsOf (s.getO O.sysHostLeaseOwner) (4 * g + 3) (4 * g))

/-- A claim of a group that its owner keeps: owned by another host, and no takeover by a higher rank (R79). -/
def claimBarred (s : State) (c : Cmd) (g mode : Nat) : Bool := match s.owner g with
  | some o => o != c.host && !(mode == 1 && decide (s.claimRank g o < s.claimRank g c.host))
  | none => false

/-- CLAIM_GROUP (R19, R75, R79, R487). -/
def claimGroup (c : Cmd) (s : State) : State × Reply :=
  let g := fieldAt c.payload 0 1
  let mode := fieldAt c.payload 1 1
  s.guarded [chkLen c 4, chk (13 < g || 1 < mode) St.range, chkZero c 2 2, chkLc s false false,
             chkRole s c (if g ≤ 9 then 1 else 2), ⟨s.claimBarred c g mode, s.claimRefused g⟩, chkIl s (some g)] fun s =>
    match s.owner g with
    | none => (s.grant g c.host, .ok [0xFF#8, 0, 0, 0])
    | some o =>
      if o = c.host then (s, .ok (toLe 1 o.val ++ [0, 0, 0]))
      else ((s.endLease g 2).grant g c.host, .ok (toLe 1 o.val ++ [0, 0, 0]))

/-- RELEASE_GROUP (R19, R75, R80). -/
def releaseGroup (c : Cmd) (s : State) : State × Reply :=
  let g := fieldAt c.payload 0 1
  s.guarded [chkLen c 4, chk (13 < g) St.range, chkZero c 1 3, chkLc s false false,
             ⟨s.owner g != some c.host, s.claimRefused g⟩, chkIl s (some g)] fun s => (s.endLease g 1, .ok)

/-! ### Write transactions (R52 to R55) -/

/-- A register of the block written whole (R54 to R57, R70, R80, R92). What the interrupt enables become in a write that carries
HOST_RESET is the model's choice: they are set first, and the reset returns HP_CONTROL to 0 (R57, R92; log 108). -/
def regSet (s : State) (h : Fin 3) (off w : Nat) : State :=
  let n := spiHost h
  if off = 0x04 then s.modHost n fun p => { p with sticky := clearSticky p.sticky w }
  else if off = 0x08 then
    let s := s.modHost n fun p => { p with irqEn := BitVec.ofNat 3 w }
    if w.testBit 8 then (s.hostReset n).heldSync else s
  else if off = 0x0C then (slotsIn w).foldl (fun s k => s.doorbell n k) s
  else if off = 0x10 then (slotsIn w).foldl (fun s k => s.releaseSlot n k) s
  else if off = 0x1C then s.setTail n (w % 256)
  else if off = 0x20 then s.modHost n fun p => { p with lost := p.lost - (p.lost &&& w % 65536) }
  else if off = 0x24 then s.renew n
  else if off = 0x34 ∧ h ≠ 2 then s.modHost n fun p => { p with quad := w.testBit 0 }
  else if off = 0x38 then s.modHost n fun p => { p with scratch := BitVec.ofNat 32 w }
  else s

/-- Bytes written into slot `k` from an offset on: taken in FREE, else WR_IGN; the places that read 0 or hold the stamps take
nothing (R59, R65). -/
def slotBytes (s : State) (h : Fin 4) (k : Fin 8) (off : Nat) (b : List Byte) : State :=
  if s.hosts[h].slots[k].st = .free then s.modSlot h k fun x => { x with mem := x.mem.writeL off (b.take (4108 - off)) }
  else s.modHost h fun p => { p with sticky := { p.sticky with wrIgn := true } }

/-- The registers that a transaction writes whole, in ascending address order (R52, R54). -/
def regSpan (addr len : Nat) : List Nat := ((List.range 16).map (4 * ·)).filter fun o => decide (addr ≤ o) && decide (o + 4 ≤ addr + len)

/-- A write transaction of a port from a byte address on: the address increments with each byte (R52 to R55). -/
def busWrite (s : State) (h : Fin 3) (addr : Nat) (data : List Byte) : State :=
  let s := s.touch (spiHost h)
  let s := (regSpan addr data.length).foldl (fun (s : State) o => s.regSet h o (fieldAt data (o - addr) 4)) s
  (List.finRange 8).foldl (fun (s : State) (k : Fin 8) =>
    let base := 0x10000 + k.val * 0x1200
    let b := (data.drop (base - addr)).take (0x1200 - (addr - base))
    if b.isEmpty then s else s.slotBytes (spiHost h) k (addr - base) b) s

/-- The write of a row: from its address on, while the port is live. -/
def portWrite (s : State) (h : Fin 3) (op : Byte) (addr : Nat) (data : List Byte) : State :=
  if s.portWrites h op then s.busWrite h addr data else s

/-- A WITHDRAW command: removes the held request of the same host, CMD and TAG, whose EV_CMD_DONE carries ST_STATE
(R62). -/
def withdraw (s : State) (c : Cmd) : State :=
  let sel (p : Held) : Bool := p.waiting && p.host == c.host && p.code == c.code && p.tag == c.tag
  let found := s.disp.held.any sel
  let s := s.endAll sel St.state
  s.respond { c with flags := 0 } (if found then .ok else .bare St.state)

end State

/-! ### The rows -/

def execDoorbellWrite (h : Fin 3) (op : BitVec 8) (data : List (BitVec 8)) (s : State) : Host.Outcome State Fault Refusal :=
  .next (s.portWrite h op 0x0C data)

def execComplWrite (h : Fin 3) (op : BitVec 8) (data : List (BitVec 8)) (s : State) : Host.Outcome State Fault Refusal :=
  .next (s.portWrite h op 0x10 data)

def execSlotWrite (h : Fin 3) (op : BitVec 8) (slot : Fin 8) (off : Nat) (data : List (BitVec 8)) (s : State) :
    Host.Outcome State Fault Refusal :=
  .next (s.portWrite h op (0x10000 + slot.val * 0x1200 + off) data)

def execEvtTailWrite (h : Fin 3) (op : BitVec 8) (data : List (BitVec 8)) (s : State) : Host.Outcome State Fault Refusal :=
  .next (s.portWrite h op 0x1C data)

def execEvtLostWrite (h : Fin 3) (op : BitVec 8) (data : List (BitVec 8)) (s : State) : Host.Outcome State Fault Refusal :=
  .next (s.portWrite h op 0x20 data)

def execHeartbeatWrite (h : Fin 3) (op : BitVec 8) (data : List (BitVec 8)) (s : State) : Host.Outcome State Fault Refusal :=
  .next (s.portWrite h op 0x24 data)

def execHostReset (h : Fin 3) (op : BitVec 8) (data : List (BitVec 8)) (s : State) : Host.Outcome State Fault Refusal :=
  .next (s.portWrite h op 0x08 data)

def execAxtLoRead (h : Fin 3) (op : BitVec 8) (s : State) : Host.Outcome State Fault Refusal :=
  .next (if s.portLive h && op == 0x0B#8 then
    let t := s.followerStamp .hf
    ((s.touch (State.spiHost h)).modHost (State.spiHost h) fun p => { p with axtHi := BitVec.ofNat 32 (t.toNat / 2 ^ 32) }).send
      (.spi h (toLe 4 t.toNat))
  else s)

def execRegisterWrite (h : Fin 3) (op : BitVec 8) (off : Nat) (data : List (BitVec 8)) (s : State) :
    Host.Outcome State Fault Refusal :=
  .next (s.portWrite h op off data)

def execXmemAccess (h : Fin 2) (wr : Bool) (word : Fin 32768) (data : BitVec 32) (clk : Nat) (s : State) :
    Host.Outcome State Fault Refusal :=
  .next (if s.portLive ⟨h.val, by omega⟩ then s.xmemAccess h { word, wr, clk } data else s)

def execLeaseTimeout (h : Fin 4) (s : State) : Host.Outcome State Fault Refusal :=
  .next (if s.bitO O.sysHostPresent h && s.hosts[h].renewedAt + s.getO (O.sysHostLeaseTimeout h) * msTicks ≤ s.now then
    (s.leaseLapse h).heldSync else s)

def execCommandAccept (s : State) : Host.Outcome State Fault Refusal := .next s.accept

def execCommandComplete (s : State) : Host.Outcome State Fault Refusal :=
  .next (match s.disp.ended with
    | [] => s
    | e :: rest => { s with disp := { s.disp with ended := rest } }.postDone e.host e.code e.tag e.status e.reason)

def execClaimGroup (s : State) : Host.Outcome State Fault Refusal := .next (s.runCmd 0x0110 State.claimGroup).heldSync

def execReleaseGroup (s : State) : Host.Outcome State Fault Refusal := .next (s.runCmd 0x0111 State.releaseGroup).heldSync

def execWithdraw (s : State) : Host.Outcome State Fault Refusal :=
  .next (match s.nextCmd with
    | some c => if c.flags.testBit 1 then (s.popCmd.withdraw c).heldSync else s
    | none => s)

def execHpnPost (rec : List (BitVec 8)) (s : State) : Host.Outcome State Fault Refusal :=
  .next (s.onRecord 1 rec fun s slot body => s.hpnPost slot body)

def execHpnRelease (rec : List (BitVec 8)) (s : State) : Host.Outcome State Fault Refusal :=
  .next (s.onRecord 3 rec fun s slot _ => if hk : slot < 8 then s.releaseSlot 3 ⟨slot, hk⟩ else s)

def execHpnEventAck (rec : List (BitVec 8)) (s : State) : Host.Outcome State Fault Refusal :=
  .next (s.onRecord 5 rec fun s _ body => s.setTail 3 (fieldAt body 0 1))

def execHpnHeartbeat (rec : List (BitVec 8)) (s : State) : Host.Outcome State Fault Refusal :=
  .next (s.onRecord 6 rec fun s _ _ => s.renew 3)

def execHpnReset (rec : List (BitVec 8)) (s : State) : Host.Outcome State Fault Refusal :=
  .next (s.onRecord 9 rec fun s _ _ => (s.hostReset 3).heldSync)

def execHpnHello (rec : List (BitVec 8)) (s : State) : Host.Outcome State Fault Refusal :=
  .next (match s.sec.hpnKey with
    | none => s
    | some key =>
      if fieldAt rec 0 1 = 7 ∧ fieldAt rec 2 2 = 32 ∧ 40 ≤ rec.length then
        let nd := Config.nonce s.free
        let ks := Config.kmac256 key ((rec.drop 8).take 32 ++ nd) 32 "EZ HPN KEY"
        let s := s.takeFree.endSession 3 2
        ({ s with hpn := { up := true, key := ks, rxSeq := 0, txSeq := 0, lastAt := s.now, resendAt := s.hpn.resendAt } }.touch
          3).sendHpn 8 0 nd
      else s)

def execHpnEventResend (s : State) : Host.Outcome State Fault Refusal :=
  .next (if s.hpn.up then (State.unreadAt s.hosts[3]).foldl (fun (s : State) i => s.hpnAgain i) s else s)

def execHpnChannelTimeout (s : State) : Host.Outcome State Fault Refusal :=
  .next (if s.hpn.up && s.hpn.lastAt + 3 * s.getO (O.sysHostLeaseTimeout 3) * msTicks ≤ s.now then
    { s with hpn := { s.hpn with up := false } } else s)

end Sys2Proof.Machine
end

