-- ==== Sys2Proof/Machine/Loop.lean ====
section
/-! DEFINITION. The rows of chapter "Loop engine". -/

namespace Sys2Proof.Machine

namespace State

/-! ### Runs -/

/-- The present instant is a sampling instant of a context, and has not been dealt with (R33, R177). -/
def samplesNow (s : State) (c : Fin 64) : Bool := s.gridLast (s.ctxGrid c) == some s.now && decide (s.ctx[c].trigNext ≤ s.now)

/-- What the owners of contexts do at a late run (R268, R339, R353, R388, R403). -/
def lateHooks (s : State) (c : Fin 64) : State :=
  if h : c.val < 8 then
    let m : Fin 4 := ⟨c.val / 2, by omega⟩
    if s.bitO (O.trxSsSources m) 1 ∧ s.getO (O.trxSsLateCnt m) ≤ s.ctx[c].lateRuns then s.setLost m ⟨c.val % 2, by omega⟩ 4 0 0xFF else s
  else if 16 ≤ c.val ∧ c.val < 22 then s.chgLate c
  else if c.val = 22 then s.auxLate
  else if 31 ≤ c.val ∧ c.val < 37 then s.amcLate c
  else if c.val = 37 then s.rpkLate
  else s

/-- A late run with what follows from it (R34, R181). -/
def runLate (s : State) (c : Fin 64) : State :=
  match s.ctx[c].run with
  | some r => (s.lateRun c r).lateHooks c
  | none => s

/-- What the owner of a context does at its sample instant, before the inputs are latched. -/
def sampleHooks (s : State) (c : Fin 64) : State :=
  if c.val = 22 then s.auxSample
  else if h : 31 ≤ c.val ∧ c.val < 37 then s.amcSample ⟨c.val - 31, by omega⟩
  else if c.val = 19 ∨ c.val = 20 then s.chgCtxSample c
  else s

/-- A trim context whose phase is SHED takes no sample (R360). -/
def shedTrim (s : State) (c : Fin 64) : Bool :=
  if h : 23 ≤ c.val ∧ c.val < 31 then s.phSt ⟨c.val - 23, by omega⟩ == 3 else false

/-- The output as applied in the interval that ends now, for a context whose consumer is the planner (R195). -/
def takeApplied (s : State) (c : Fin 64) : State :=
  if 1 ≤ s.ctxDest c ∧ s.ctxDest c ≤ 4 ∧ s.ctx[c].span ≠ 0 then
    s.modCtx c fun x => { x with
      applied := x.volts.map fun (v : Int) => roundAway ((v : Rat) / (x.span : Nat)), volts := Vector.replicate 4 0, span := 0 }
  else s

/-- The trigger of a context fires: a due stop, swap or enable takes effect and a run begins (R180, R192, R199). -/
def trigger (s : State) (c : Fin 64) : State :=
  if !s.samplesNow c then s
  else
    let s := (s.runLate c).modCtx c fun x => { x with trigNext := s.now + 1 }
    let s := if s.ctx[c].stopping then s.ctxStop c else s
    let s := match s.ctx[c].startAt with
      | some t => if t ≤ s.now then s.ctxStart c else s
      | none => s
    let due := match s.ctx[c].swapAt with
      | some t => decide (t ≤ s.now)
      | none => false
    let s := s.when due fun s => s.doSwap c
    let s := s.sampleHooks c
    if !s.ctxOn c || s.shedTrim c then s
    else
      let s := s.takeApplied c
      let r := s.runBegin c due
      let s := s.modCtx c fun x => { x with run := some r, trigNext := s.now + 1 }
      let t := s.ctxGrid c
      if 1 ≤ s.ctxDest c ∧ s.ctxDest c ≤ 4 ∧ bitsOf t 31 30 = 1 then
        s.modCg ⟨bitsOf t 28 26 % 8, Nat.mod_lt _ (by decide)⟩ fun g => { g with due := c.val :: g.due.filter (· != c.val) }
      else s

/-- Contexts on a lane, and those ready for one (R182). -/
def onLane (s : State) : Nat := ((List.finRange 64).filter fun c => match s.ctx[c].run with
  | some r => r.laneAt.isSome
  | none => false).length
def readyRuns (s : State) : List (Fin 64 × Run) := (List.finRange 64).filterMap fun c => match s.ctx[c].run with
  | some r => if r.laneAt.isNone && r.missing.isEmpty then some (c, r) else none
  | none => none

/-- The ready run of earliest effective deadline; between equal ones the lower context (R182). -/
def firstRun : List (Fin 64 × Run) → Option (Fin 64 × Run)
  | [] => none
  | p :: t => match firstRun t with
    | none => some p
    | some q => if q.2.deadline < p.2.deadline then some q else some p

/-- A ready context is dispatched to a free lane (R182). -/
def dispatch (s : State) : State :=
  if 4 ≤ s.onLane then s
  else match firstRun s.readyRuns with
    | none => s
    | some (c, r) => s.modCtx c fun x => { x with run := some { r with laneAt := some s.now } }

/-- The update that a committed context gives the planner (R36, R128). -/
def planUpdate (s : State) (c : Fin 64) : State :=
  let s : State := { s with cgs := s.cgs.map fun (g : Carrier) => { g with due := g.due.filter (· != c.val) } }
  if h : c.val < 8 then
    let m : Fin 4 := ⟨c.val / 2, by omega⟩
    let k : Fin 2 := ⟨c.val % 2, by omega⟩
    s.when (s.switching m && s.setWorks m k) fun s => s.trxUpdate m k
  else if h : 16 ≤ c.val ∧ c.val < 19 then s.pfcUpdate ⟨c.val - 16, by omega⟩
  else if c.val = 20 ∨ c.val = 21 then s.dabUpdate
  else s

/-- What an implausibility means for the owner of a context (R268, R339). -/
def implausHooks (s : State) (c : Fin 64) : State :=
  if h : c.val < 8 then
    let m : Fin 4 := ⟨c.val / 2, by omega⟩
    if s.bitO (O.trxSsSources m) 0 ∧ s.trx[m].speedOk ∧ (bankP (s.ctxBank c) 7).floor.toNat ≤ s.ctx[c].clean then
      s.setLost m ⟨c.val % 2, by omega⟩ 3 0 0xFF
    else s
  else if 16 ≤ c.val ∧ c.val < 22 then s.chgStopFor [Cause.implaus]
  else s

/-- A run completes (R189). It has taken the lane cycles since its dispatch, of 2 ticks each, and never more than the estimate
(R183). -/
def commit (s : State) (c : Fin 64) : State :=
  match s.ctx[c].run with
  | none => s
  | some r =>
    match r.laneAt with
    | none => s
    | some t0 =>
      if r.deadline < s.now then s
      else
        let s := if h : 31 ≤ c.val ∧ c.val < 37 then s.amcDutyKeep ⟨c.val - 31, by omega⟩ else s
        let p := s.commitRun c r
        let t := p.1.setO (O.lpeRunMax c) (max (s.getO (O.lpeRunMax c)) (min (s.runEst c) ((s.now - t0) / 2)))
        let t := (t.planUpdate c).when (decide (c.val < 8)) fun t => t.sendSafe
        if p.2 then t.implausHooks c else t

/-- A context reaches its deadline unfinished or without its inputs (R34, R35, R181). -/
def deadlineMiss (s : State) (c : Fin 64) : State :=
  match s.ctx[c].run with
  | some r => if r.deadline ≤ s.now then s.runLate c else s
  | none => s

/-! ### Commands -/

/-- The contexts of a mask. -/
def maskCtxs (m : Nat) : List (Fin 64) := (List.finRange 64).filter fun c => m.testBit c.val

/-- What the commands that name contexts check in common (R205, R486, R489, R517). -/
def ctxChecks (s : State) (c : Cmd) (l : List (Fin 64)) : List Chk :=
  [chkLc s false false, chkRole s c 2] ++ l.map (fun x => chkOwn s c (ctxGroup x.val)) ++ l.map (fun x => chkIl s (some (ctxGroup x.val)))

/-- LPE_ENABLE; a context without a trigger cannot be enabled (R177, R178, R184, R185, R199, R205; log 48). -/
def lpeEnable (c : Cmd) (s : State) : State × Reply :=
  let m := fieldAt c.payload 0 8
  let l := maskCtxs m
  let new := l.filter fun x => !s.ctxOn x.val && s.ctx[x].startAt.isNone
  s.guarded (byRank ([chkLen c 8, chk (m == 0) St.badCount] ++ s.ctxChecks c l ++ [chkR (l.any fun x => x.val < 38) St.state 0x0100] ++
    (if l.any fun x => x.val < 38 then [] else
      [chk (l.any fun x => bitsOf (s.getO (O.lpeTrigger x.val)) 31 30 == 0) St.state] ++
      (if l.any fun x => bitsOf (s.getO (O.lpeTrigger x.val)) 31 30 == 0 then [] else
        [chk (l.any fun x => decide (s.trigShortest (s.ctxTrigger x.val) < 2000)) St.range] ++ s.chkAdmit (new.map (·.val)))))) fun s =>
    (l.foldl (fun (s : State) x => s.modCtx x fun y =>
      if s.ctxOn x.val then { y with stopping := false } else { y with startAt := some (y.startAt.getD (s.now + 16000)) }) s, .ok)

/-- LPE_DISABLE (R199, R205). -/
def lpeDisable (c : Cmd) (s : State) : State × Reply :=
  let m := fieldAt c.payload 0 8
  let l := maskCtxs m
  s.guarded ([chkLen c 8, chk (m == 0) St.badCount] ++ s.ctxChecks c l ++ [chkR (l.any fun x => x.val < 38) St.state 0x0100]) fun s =>
    (l.foldl (fun (s : State) x => s.modCtx x fun y => { y with startAt := none, stopping := s.ctxOn x.val }) s, .ok)

/-- The groups whose leases a bank swap of contexts needs (R82, R205). -/
def swapGroups (l : List (Fin 64)) : List Nat := (l.map fun x => ctxGroup x.val).eraseDups

/-- LPE_BANK_SWAP (R38, R192, R205). DESIGN CHOICE (log 192): a late one that names several contexts shows the object of the lowest
in EV_LATE, whose one source R49 does not choose. -/
def lpeSwap (c : Cmd) (s : State) : State × Reply :=
  let m := fieldAt c.payload 0 8
  let at_ := fieldAt c.payload 8 8
  let l := maskCtxs m
  s.guarded ([chkLen c 16, chk (m == 0) St.badCount, chk (decide (s.now + 2 ^ 32 < at_)) St.range] ++ s.ctxChecks c l ++
    [chk (l.any fun x => s.bitO (O.lpeStatus x.val) 13) St.busy]) fun s =>
    if at_ ≠ 0 ∧ at_ < s.now then
      (match l with
       | x :: _ => s.raiseLate 4 (O.lpeCfg x.val) at_
       | [] => s, .bare St.late)
    else
      let s := s.hold c none (l.map (·.val)) true (swapGroups l)
      let s := (l.filter fun x => s.ctxOn x.val).foldl (fun (s : State) x =>
        (s.modCtx x fun y => { y with swapAt := some at_ }).orO (O.lpeStatus x.val) 0x2000) s
      ((l.filter fun x => !s.ctxOn x.val).foldl (fun (s : State) x => s.doSwap x) s, .pending)

/-- LPE_PRESET (R198, R205). -/
def lpePreset (c : Cmd) (s : State) : State × Reply :=
  let n := fieldAt c.payload 0 1
  let mask := fieldAt c.payload 1 1
  let w (k : Nat) : Nat := fieldAt c.payload (4 + 4 * k) 4
  s.guarded ([chkLen c 36, chk (mask == 0) St.badCount, chk (63 < n || 15 < mask) St.range, chkZero c 2 2,
      chk ((List.range 8).any fun k => s20Bad (w k)) St.range] ++ s.ctxChecks c (maskCtxs (2 ^ n)) ++
    [chkR (n < 38) St.state 0x0100, chk (s.ctxOn n) St.state]) fun s =>
    if h : n < 64 then
      let x : Fin 64 := ⟨n, h⟩
      let put (old : Vector Int 4) (o : Nat) (g : Int) : Vector Int 4 := Vector.ofFn fun k : Fin 4 =>
        if mask.testBit k.val then s20Int (w (o + k.val)) * g else old[k]
      ((s.modCtx x fun y => { y with outc := put y.outc 0 1, integ := put y.integ 4 2048, lastAt := s.now }).showOut x, .ok)
    else (s, .bare St.range)

/-- The function group of a buffer (R200), and a body over it. -/
def bufGroup (s : State) (b : Nat) : Nat := ctxGroup (s.getO (O.lpeTrContext b))
def onBuf (c : Cmd) (s : State) (f : Fin 4 → State × Reply) : State × Reply :=
  if h : fieldAt c.payload 0 1 < 4 then f ⟨fieldAt c.payload 0 1, h⟩ else (s, .bare St.range)
def bufChecks (s : State) (c : Cmd) : List Chk :=
  let g := s.bufGroup (fieldAt c.payload 0 1)
  [chkLen c 4, chk (3 < fieldAt c.payload 0 1) St.range, chkZero c 1 3, chkLc s false false, chkRole s c 2, chkOwn s c g, chkIl s (some g)]
def bufSt (s : State) (b : Nat) : Nat := s.getO (O.lpeTrState b)

/-- LPE_TRACE_ARM (R203). -/
def traceArm (c : Cmd) (s : State) : State × Reply :=
  let st := s.bufSt (fieldAt c.payload 0 1)
  s.guarded (s.bufChecks c ++ [chk (st == 1 || st == 2) St.busy]) fun s => onBuf c s fun b =>
    let x := s.ctx[(⟨s.getO (O.lpeTrContext b) % 64, Nat.mod_lt _ (by decide)⟩ : Fin 64)]
    let prev := if x.nodes.isEmpty then none else some ((x.nodes[bitsOf (s.getO (O.lpeTrTrig b)) 27 20]?).getD 0)
    let s : State := { s with tb := s.tb.set b { Trace.reset with prev } }
    ([(O.lpeTrState b, 1), (O.lpeTrCount b, 0), (O.lpeTrTrigIndex b, 0), (O.lpeTrTrigAxt b, 0)].foldl (fun (s : State) p => s.setO p.1 p.2) s, .ok)

/-- LPE_TRACE_STOP (R203). -/
def traceStop (c : Cmd) (s : State) : State × Reply :=
  let st := s.bufSt (fieldAt c.payload 0 1)
  s.guarded (s.bufChecks c ++ [chk (!(st == 1 || st == 2)) St.state]) fun s => onBuf c s fun b => (s.traceEnd b false, .ok)

/-- The bytes of a record (R201), and of a run of records. -/
def recSize (s : State) (b : Nat) : Nat := 4 + 4 * ((toLe 8 (s.getO (O.lpeTrNodes b))).filter (· != 0xFF#8)).length
def recBytes (s : State) (b : Fin 4) (first count : Nat) : List Byte := ((s.tb[b].recs.drop first).take count).flatten

/-- A readout into the response: it crosses on channel 3 as one word, and a full channel drops it (R29, R30, R204; log 103, 111). -/
def traceInline (s : State) (b : Fin 4) (first count : Nat) : State × Reply :=
  if s.xingFull 3 then (s.xingDrop 3, .bare St.busy) else (s.xingSend 3 fun s => s, .ok (s.recBytes b first count))

/-- LPE_TRACE_READ; of a buffer that is DONE, records beyond those held are out of range (R204; log 115). -/
def traceRead (c : Cmd) (s : State) : State × Reply :=
  let b := fieldAt c.payload 0 1
  let dest := fieldAt c.payload 1 1
  let first := fieldAt c.payload 4 2
  let count := fieldAt c.payload 6 2
  let xoff := fieldAt c.payload 8 4
  let size := count * s.recSize b
  s.guarded [chkLen c 12, chk (count == 0) St.badCount, chk (3 < b || 1 < dest) St.range, chkZero c 2 2,
      chk (if dest = 0 then decide (4096 < size) || xoff != 0 else decide (131072 < xoff + size)) St.range,
      chk (s.bufSt b == 3 && decide (s.getO (O.lpeTrCount b) < first + count)) St.range,
      chkLc s false false, chkRole s c 2, chkIl s (some (s.bufGroup b)), chk (dest == 1 && decide (2 ≤ c.host.val)) St.state,
      chkR (s.bufSt b != 3) St.state 0x0106] fun s => onBuf c s fun b =>
    if dest = 0 then s.traceInline b first count
    else
      let s := s.hold c none [0x4480, b.val]
      ({ s with traceReads := s.traceReads ++ [{ buf := b.val, first, count, xoff }] }, .pending)

/-- A readout into the exchange memory completes. DESIGN CHOICE: it is one word of channel 3, whose word size the spec does not give
(log 103). One that finds channel 3 full is dropped, and its command ends with ST_BUSY (R30, R204;
log 111). -/
def traceReadDone (s : State) (b : Fin 4) : State :=
  match s.traceReads.find? fun (t : TraceRead) => t.buf == b.val with
  | none => s
  | some t =>
    let s : State := { s with traceReads := s.traceReads.erase t }
    let full := s.xingFull 3
    let s := s.xingSend 3 fun s => { s with xmem := s.xmem.writeL t.xoff (s.recBytes b t.first t.count) }
    match s.disp.held.find? fun (p : Held) => p.code == 0x0412 && p.arg == [0x4480, b.val] with
    | none => s
    | some p => (s.modDisp fun d => { d with held := d.held.erase p }).endHeld p (if full then St.busy else St.ok) none

end State

/-! ### The rows -/

def execContextTrigger (c : Fin 64) (s : State) : Host.Outcome State Fault Refusal := .next (s.trigger c)

def execContextDispatch (s : State) : Host.Outcome State Fault Refusal := .next s.dispatch

def execContextCommit (c : Fin 64) (s : State) : Host.Outcome State Fault Refusal := .next (s.commit c)

def execLoopDeadlineMiss (c : Fin 64) (s : State) : Host.Outcome State Fault Refusal := .next (s.deadlineMiss c)

def execLpeEnable (s : State) : Host.Outcome State Fault Refusal := .next (s.runCmd 0x0401 State.lpeEnable)

def execLpeDisable (s : State) : Host.Outcome State Fault Refusal := .next (s.runCmd 0x0402 State.lpeDisable)

def execLpeBankSwap (s : State) : Host.Outcome State Fault Refusal := .next (s.runCmd 0x0403 State.lpeSwap)

def execLpePreset (s : State) : Host.Outcome State Fault Refusal := .next (s.runCmd 0x0404 State.lpePreset)

def execLpeTraceArm (s : State) : Host.Outcome State Fault Refusal := .next (s.runCmd 0x0410 State.traceArm)

def execLpeTraceStop (s : State) : Host.Outcome State Fault Refusal := .next (s.runCmd 0x0411 State.traceStop)

def execLpeTraceRead (s : State) : Host.Outcome State Fault Refusal := .next (s.runCmd 0x0412 State.traceRead)

def execTraceReadDone (b : Fin 4) (s : State) : Host.Outcome State Fault Refusal := .next (s.traceReadDone b)

end Sys2Proof.Machine
end

