-- ==== Sys2Proof/Machine/Thermal.lean ====
section
/-! DEFINITION. The rows of chapter "Temperature and thermal management". -/

namespace Sys2Proof.Machine

namespace State

/-- The limits that set a sensor's rate, in 0.1 °C: the junction levels and the ends of the flash window (R434). -/
def sensorLimits : List Int := [1300, 1400, 1600, -400, 1250]

/-- The thermal trip (R439). No rule names the cause that AM0 to AM4 then show: it is that of a SAFE override (log 198). -/
def thermalTrip (s : State) (n : Fin 16) (tenths : Int) : State :=
  let v := 2 ^ 31 + n.val * 2 ^ 24 + ofSigned 16 tenths
  let s := (s.bstAbort.setO O.thmTripLatch v).orO O.thmFlags 0x8000
  let s := (s.setPins true).modPwr fun p => { p with record := some (0x15, v) }
  let s := ((s.safeSwitching 0x40).amcSafe 8).chgStopFor [Cause.overSafe]
  (s.auxEnd 6 AuxCause.override).applySc.raise 0x0261 0x1400 v

/-- The junction temperature in 0.1 °C: the largest valid reading (R434). -/
def junctionOf (s : State) : Option Int :=
  s.thm.sensors.toList.foldl (fun (a : Option Int) (x : Sensor) =>
    if x.valid then (match a with
      | some t => some (max t x.tenths)
      | none => some x.tenths) else a) none
def validSensors (s : State) : Nat := (s.thm.sensors.toList.filter fun (x : Sensor) => x.valid).length

/-- The thermal state for a junction temperature in 0.1 °C (R434, R436). -/
def levelNext (s : State) (j : Int) (trip : Bool) : Nat :=
  let old := s.getO O.thmState
  let h : Int := 10 * s.getO O.thmHyst
  let at_ (k : Nat) (l : Int) : Bool := decide (l ≤ j) || (decide (k ≤ old) && decide (l - h ≤ j))
  if trip || (old == 3 && decide (1600 - h ≤ j)) then 3
  else if at_ 2 1400 || decide (s.validSensors < 8) then 2
  else if at_ 1 1300 then 1 else 0

/-- The thermal state written (R436). DESIGN CHOICE (log 198): EV_THM_LEVEL tells every change, falls and the entry to TRIP included;
R436 names it at the entries to WARN and THROTTLE. -/
def levelTo (s : State) (j : Int) (st : Nat) : State :=
  let old := s.getO O.thmState
  if st = old then s
  else
    let s := (s.setO O.thmState st).orO O.thmFlags
      ((if old < 1 ∧ 1 ≤ st then 2 else 0) + (if old < 2 ∧ 2 ≤ st then 4 else 0))
    s.raise 0x0260 0x1400 (ofSigned 16 j * 65536 + st * 256 + old)

/-- A sensor's reading taken over, with its rate (R433, R434); a sensor that failed TSENS counts as invalid (R444). -/
def sensorTake (s : State) (n : Fin 16) (tenths : Int) : State :=
  let read := decide (-500 ≤ tenths ∧ tenths ≤ 2000)
  let ok := read && !s.bst.suspect.getLsbD n
  let near := sensorLimits.any fun l => decide ((tenths - l).natAbs ≤ 80)
  let far := sensorLimits.all fun l => decide (100 < (tenths - l).natAbs)
  let x : Sensor := s.thm.sensors[n]
  let y : Sensor := { x with
    sampledAt := s.now, tenths := if read then tenths else x.tenths, read, valid := ok,
    fast := x.fast || (ok && near), farAt := if ok then heldSince s.now far x.farAt else x.farAt,
    hot := if ok && decide (1600 ≤ tenths) then x.hot + 1 else 0 }
  let s := s.modThm fun t => { t with sensors := t.sensors.set n y }
  if ok then s.setQ (O.thmT n) ((tenths : Rat) / 10)
  else ((s.setO (O.thmT n) f32NaN).orO O.thmFlags 0x10).raise 0x0262 0x1400 n

/-- The next sample of a sensor is due: at 1 kHz, or at 20 kHz near a limit; its first one at once (R434; log 64). -/
def sampleDue (s : State) (n : Fin 16) : Bool :=
  let x : Sensor := s.thm.sensors[n]
  x.sampledAt == 0 || decide (x.sampledAt + (if x.fast then 50 * usTicks else msTicks) ≤ s.now)

/-- A sample of an on-die sensor taken over (R434, R436, R439, R440). -/
def sampleTake (s : State) (n : Fin 16) (tenths : Int) : State :=
  let s := s.sensorTake n tenths
  let s := if s.validSensors < 8 then s.orO O.thmFlags 0x20 else s
  match s.junctionOf with
  | none => s.levelTo 0 (max 2 (s.getO O.thmState))
  | some j =>
    let s := s.setQ O.thmJunction ((j : Rat) / 10)
    let s := if -400 ≤ j ∧ j ≤ 1250 then s.clrO O.thmFlags 0x4000 else s.orO O.thmFlags 0x4000
    let trip := decide (2 ≤ s.thm.sensors[n].hot)
    let s := s.levelTo j (s.levelNext j trip)
    if trip && !s.tripLatched then s.thermalTrip n tenths else s

/-- A sample of an on-die sensor, when it is due (R434). -/
def thermalSample (s : State) (n : Fin 16) (tenths : Int) : State := if s.sampleDue n then s.sampleTake n tenths else s

/-- A sensor returns to 1 kHz (R434). -/
def rateRelax (s : State) (n : Fin 16) : State :=
  let x : Sensor := s.thm.sensors[n]
  let y : Sensor := { x with fast := false }
  match x.farAt with
  | some t => if t + 10 * msTicks ≤ s.now then s.modThm fun t => { t with sensors := t.sensors.set n y } else s
  | none => s

/-- A pause that has run out no longer holds its class (R438); moves that waited for it begin (R382). -/
def pauseOver (s : State) : PauseClass → State
  | .dispatch => s.modThm fun t => { t with pause := if t.pause[0] ≤ s.now then t.pause.set 0 0 else t.pause }
  | .network => s.modThm fun t => { t with pauseNet := t.pauseNet.map fun (x : Nat) => if x ≤ s.now then 0 else x }
  | .activation =>
    if s.thm.pause[1] ≤ s.now then
      let s := s.modThm fun t => { t with pause := t.pause.set 1 0 }
      (List.finRange 6).foldl (fun (s : State) k => if s.amc[k].waiting then s.amcMoveBegin k s.amc[k].goal else s) s
    else s
  | .flash => s.modThm fun t => { t with pause := if t.pause[2] ≤ s.now then t.pause.set 2 0 else t.pause }
  | .burst => s.modThm fun t => { t with pause := if t.pause[3] ≤ s.now then t.pause.set 3 0 else t.pause }

end State

/-! ### The rows -/

def execThermalSample (n : Fin 16) (tenths : Int) (s : State) : Host.Outcome State Fault Refusal := .next (s.thermalSample n tenths)

def execSampleRateRelax (n : Fin 16) (s : State) : Host.Outcome State Fault Refusal :=
  .next (s.rateRelax n)

def execPauseEnd (cls : PauseClass) (s : State) : Host.Outcome State Fault Refusal := .next (s.pauseOver cls)

end Sys2Proof.Machine
end

