-- ==== Sys2Proof/Machine/Power.lean ====
section
/-! DEFINITION. The rows of chapter "Supplies, resets and power states", the tamper reset (R493) and the debug port (R555). -/

namespace Sys2Proof.Machine

namespace State

/-! ### Supplies and resets -/

/-- Axle time resumes with the Plinth's count as CT starts again (R27). -/
def resumeAxt (s : State) : State :=
  if s.pwr.asleep then (s.setAxt (s.axt + BitVec.ofNat 64 (s.pwr.cycles * 24415))).modPwr fun p => { p with asleep := false, cycles := 0 }
  else s

/-- VSTBY falls below its loss level: the Plinth's content is gone (R488, R493, R497, R530, R536). -/
def vstbyLoss (s : State) : State :=
  if s.pwr.vstby = false then s
  else
    let s := s.wholeReset 1
    let s : State := { s with sec := { s.sec with idRes := s.sec.idMirror, attRes := s.sec.attMirror, tamperRec := 0, tamperNew := false } }
    let s := (s.setO O.secAttNext s.sec.attMirror).setO O.secIdNext s.sec.idMirror
    let s := if s.lc = 3 then s.setO O.secLc 2 else s
    s.modPwr fun p => { p with vstby := false, record := none, wake := none, wakePend := none }

/-- VSTBY rises again: COLD (R533). -/
def coldReset (s : State) : State :=
  if s.pwr.vstby then s
  else
    let s : State := { s with sec := { s.sec with boots := s.sec.boots + 1 } }
    ((s.setAxt 0).modPwr fun p => { p with vstby := true }).bootBegin 1 0x7F 0xF

/-- VMAIN falls below its brownout level: keep-alive operation, or, in SEALED, nothing but the loss itself (R532, R540). -/
def brownout (s : State) : State :=
  if s.pwr.vmain = false then s
  else if s.pwr.asleep = true ∧ s.getO O.pwrState = 5 then s.modPwr fun p => { p with vmain := false }
  else s.resumeAxt.brownReset.parkAuto

/-- A contactor output released in keep-alive operation: CTR_PRE at once, CTR_POS, and CTR_NEG after the committed
`dcl.close_time` (R563). -/
def keepAliveCtr (s : State) (c : Fin 3) : State :=
  let t := (kGet s.flash O.dclCloseTime).getD (objDefault O.dclCloseTime)
  if s.pwr.keepAlive = false then s
  else match c with
    | 0 => s.modDcl fun d => { d with ctrPre := false }
    | 1 => if s.dcl.ctrPos then s.modDcl fun d => { d with ctrPos := false, posAt := some s.now } else s
    | 2 => if s.dcl.ctrPos || decide (s.now < s.dcl.posAt.getD 0 + t * msTicks) then s else s.modDcl fun d => { d with ctrNeg := false }

/-- The hottest valid on-die sensor. -/
def hottest (s : State) : Fin 16 :=
  (List.finRange 16).foldl (fun (a : Fin 16) n =>
    if s.thm.sensors[n].valid && (!s.thm.sensors[a].valid || decide (s.thm.sensors[a].tenths < s.thm.sensors[n].tenths)) then n else a) 0

/-- The trip latch as VMAIN rises: cleared, and set again where the junction is still too hot (R439). -/
def latchReturn (s : State) (again : Bool) : State :=
  let s := s.setO O.thmTripLatch 0
  if again then s.thermalTrip s.hottest s.thm.sensors[s.hottest].tenths else s

/-- BROWNOUT or THERMAL_LATCH as VMAIN returns (R532, R533, R535, R540). -/
def vmainReset (s : State) (again : Bool) : State :=
  let kind := if s.tripLatched then 8 else 2
  let s := ((s.returnObjs 0x3D true true parkObj).amcFlagsBack s true).showClk.redefault 0x3D true false
  let s := ({ s with hosts := Vector.replicate 4 HostPort.reset, disp := Disp.reset, later := [] } : State).heldSync
  let s := if kind = 8 then s.latchReturn again else s
  ((s.noteReset kind 0x3D).bootBegin kind 0x3D 3).modPwr fun p => { p with keepAlive := false }

/-! ### Sleep and wake -/

/-- Exit from PARK or SEALED begins for the wake source of R546 (R545). -/
def wakeUp (s : State) (src : Nat) : State :=
  let cause := if s.getO O.pwrState = 5 then 0x15 else 0x14
  let s := (((s.resumeAxt.setO O.pwrState 0).setO O.pwrTarget 0).setO O.pwrWakeCause src).modPwr fun p => { p with wakePend := none }
  s.bootBegin cause 0x3F 3

/-- The wake mask lets a source through (R546). -/
def wakeMask (s : State) (b : Nat) : Bool := s.bitO O.pwrWakeMask b

/-- VMAIN returns through its release level. -/
def vmainReturn (s : State) (again : Bool) : State :=
  if s.pwr.vmain then s
  else
    let s := s.modPwr fun p => { p with vmain := true }
    if s.pwr.asleep then
      (let s := if s.tripLatched then s.latchReturn again else s
       if s.getO O.pwrState = 5 ∧ s.wakeMask 11 = true then s.wakeUp 11 else s)
    else if s.pwr.boot = [] then s.vmainReset again
    else if s.tripLatched then s.latchReturn again else s

/-- RESET_N low: PIN (R533). -/
def pinReset (s : State) : State :=
  if s.pwr.vstby = false then s else ((s.resumeAxt.wholeReset 3).noteReset 3 0x3F).bootBegin 3 0x3F 3

/-- A tamper sensor fires: wipe, tamper record, TAMPER reset (R455, R493). -/
def tamper (s : State) (n : Fin 6) : State :=
  if s.pwr.vstby = false ∨ s.bitO O.secTamperEnable n = false then s
  else
    let s := s.mordantWipe 1
    let s : State := { s with sec := { s.sec with tamperRec := s.sec.tamperRec ||| (1#6 <<< n.val), tamperNew := true } }
    ((s.wholeReset 7).noteReset 7 0x3F).bootBegin 7 0x3F 0xF

/-- A watchdog of an island expires (R533); `lost`: the retained section that keeps its class W state fails its check at restart, and
class W returns too (R535). -/
def watchdog (s : State) (i : Island) (lost : Bool) : State :=
  let idle := s.pwr.asleep || (!s.pwr.vmain && i != .sc) || !s.pwr.boot.isEmpty
  if idle then s else s.islandReset i 5 lost

/-- A VIO bank falls, or rises (R529). -/
def vioLoss (s : State) (b : Fin 3) : State :=
  if s.pwr.vio[b] = false then s
  else
    let s := s.modPwr fun p => { p with vio := p.vio.set b false }
    if b = 0 then (s.hostReset 0).heldSync else if b = 1 then (s.hostReset 1).heldSync else s
def vioReturn (s : State) (b : Fin 3) : State := s.modPwr fun p => { p with vio := p.vio.set b true }

/-! ### The choice of the power state (R542 to R544) -/

/-- The conditions of R543 that hold, bits 0 to 10. -/
def pwrBits (s : State) : List Nat :=
  let l : List (Nat × Bool) := [
    (0, (List.finRange 4).any fun (m : Fin 4) => s.trxSt m != 0 || s.getO (O.trxRule m) == 1),
    (1, s.getO O.dclState != 0), (2, s.chgSt != 0 && s.chgSt != 6), (3, 1 ≤ s.auxSt && s.auxSt ≤ 4),
    (4, (List.finRange 6).any (fun (k : Fin 6) => 2 ≤ s.amcSt k && s.amcSt k ≤ 7) || s.getO O.amcParkState == 3),
    (5, (s.onList.any fun c => 38 ≤ c) || (List.range 4).any fun b => s.getO (O.lpeTrState b) == 1 || s.getO (O.lpeTrState b) == 2),
    (6, (s.hosts.toList.any fun (p : HostPort) => p.slots.toList.any fun (x : Slot) => x.st == .posted || x.st == .accepted) ||
      !s.disp.held.isEmpty || (s.hpn.up && s.hosts[3].head != s.hosts[3].tail)),
    (7, (s.disp.held.any fun (p : Held) => p.code == 0x0105 || p.code == 0x0A01 || p.code == 0x0A05) ||
      (s.upd.toList.any fun (u : UpdIsl) => u.op.isSome) || !s.sec.queue.isEmpty),
    (8, s.getO O.ptgState == 2 || s.getO O.ptgState == 3 || s.bstHolds),
    (9, (List.range 6).any fun i => s.getO (O.updState i) == 3), (10, s.pwr.holdUntil.isSome)]
  (l.filter fun p => p.2).map Prod.fst

/-- The deepest state a condition allows (R543). -/
def bitCap (b : Nat) : Nat := if b = 0 then 2 else if b = 8 ∨ b = 9 then 1 else 3

/-- The deepest state a tolerance in microseconds allows (R538, R542). -/
def tolCap (s : State) (t : Nat) : Nat :=
  let trial := (List.range 6).any fun i => s.getO (O.updState i) == 4
  if t = 0xFFFFFFFF ∨ 40000 ≤ t then 5
  else if (if trial then 40000 else 3000) ≤ t then 4
  else if 80 ≤ t then 3 else if 2 ≤ t then 2 else if 1 ≤ t then 1 else 0

/-- The cap of the hosts present. -/
def hostCap (s : State) : Nat :=
  (List.finRange 4).foldl (fun a (h : Fin 4) => if s.bitO O.sysHostPresent h then min a (s.tolCap (s.getO (O.pwrTolerance h))) else a) 5

/-- `pwr.target` and `pwr.limit` (R543, R544; log 84). -/
def pwrChoose (s : State) : Nat × Nat :=
  let deepest := s.getO O.pwrDeepest
  let bits := s.pwrBits
  let hosts := s.hostCap
  let cap := min (bits.foldl (fun a b => min a (bitCap b)) deepest) hosts
  (cap, bits.foldl (fun a b => a + 2 ^ b) 0 + (if hosts = cap ∧ cap < deepest then 2 ^ 11 else 0) + (if cap = deepest ∧ deepest < 5 then 2 ^ 12 else 0))

/-- A power state down to NAP entered or left (R401, R450, R538, R549). -/
def powerTo (s : State) (st : Nat) : State :=
  let old := s.getO O.pwrState
  let s := (s.setO O.pwrState st).raise 0x0201 0x1000 (s.getO O.pwrLimit % 65536 * 65536 + st * 256 + old)
  let s : State := if st = 3 then { s with cgs := Vector.ofFn fun g : Fin 8 => if g.val < 4 then { s.cgs[g] with running := false } else s.cgs[g] } else s
  s.rpkPower.bstPower

/-- HF runs and chooses. -/
def pwrRuns (s : State) : Bool := s.disp.ready && s.pwr.vmain && !s.pwr.asleep

/-- The choice of R544; during entry a cap below PARK acts as a wake event (R545). -/
def powerChoice (s : State) : State :=
  if s.pwrRuns = false then s
  else
    let c := s.pwrChoose
    let old := s.getO O.pwrState
    let s := ((s.setO O.pwrTarget c.1).setO O.pwrLimit c.2).modPwr fun p => { p with jobWake := false }
    if s.pwr.entering.isSome then
      (if c.1 < 4 then s.modPwr fun p => { p with wakePend := some (p.wakePend.getD 0xFF) } else s)
    else
      let s := s.modPwr fun p => { p with dwellAt := if 4 ≤ c.1 then some (p.dwellAt.getD s.now) else none }
      if c.1 < old ∨ (old < c.1 ∧ c.1 ≤ 3) then s.powerTo c.1 else s

/-- HF's millisecond: the supplies as it finds them, in millivolts, and the choice (R544, R547; log 174). -/
def powerTick (s : State) (vmain vstby : Nat) : State :=
  if s.pwrRuns = false then s
  else ((s.setQ O.pwrVmain ((vmain : Rat) / 1000)).setQ O.pwrVstby ((vstby : Rat) / 1000)).powerChoice

/-- The dwell is over: entry to the target begins (R544, R545). -/
def dwellExpiry (s : State) : State :=
  match s.pwr.dwellAt with
  | some t =>
    if s.pwrRuns && s.pwr.entering.isNone && decide (4 ≤ s.getO O.pwrTarget) && decide (t + s.getO O.pwrDwell * msTicks ≤ s.now) then
      (s.modPwr fun p => { p with entering := some (s.getO O.pwrTarget), dwellAt := none }).rpkPower
    else s
  | none => s

/-- Entry to PARK or SEALED is complete: the islands are down, and a wake event that came during entry acts now (R540,
R545). -/
def deepDone (s : State) : State :=
  match s.pwr.entering with
  | none => s
  | some st =>
    let c := s.pwrChoose
    let pend := match s.pwr.wakePend with
      | some b => some b
      | none => if c.1 < 4 then some 0xFF else none
    let s := ((s.wholeReset (0x10 + st)).setO O.pwrState st).modPwr fun p => { p with asleep := true, cycles := 0, wake := some 0, wakePend := none }
    match pend with
    | some b => s.wakeUp b
    | none => s

/-- A wake source fires (R546; log 85). -/
def wakeEvent (s : State) (b : Nat) : State :=
  let job := b == 2 || 13 ≤ b
  let masked := !job && s.wakeMask b
  if s.pwr.asleep then
    let park := b == 0 || b == 1 || b == 3 || (4 ≤ b && b ≤ 7 && s.getO (O.netCanMode (b - 4)) != 0) || b == 8 || b == 9 || b == 12
    let sealedOk := b == 1 || b == 3 || (b == 11 && s.pwr.vmain) || b == 12
    if masked && (if s.getO O.pwrState = 5 then sealedOk else park) then s.wakeUp b else s
  else if s.pwr.entering.isSome then
    (if job || masked then s.modPwr fun p => { p with wakePend := some (p.wakePend.getD (if job then 0xFF else b)) } else s)
  else if job && s.pwrRuns && (s.getO O.pwrState == 2 || s.getO O.pwrState == 3) then
    ((s.setO O.pwrWakeCause 0xFF).modPwr fun p => { p with jobWake := true }).raise 0x0202 0x1000 0xFF
  else s

/-- The Plinth timer (R546). -/
def wakeTimer (s : State) : State :=
  if s.pwr.asleep && s.wakeMask 10 && decide (s.getO O.pwrWakeAfter * 32768 ≤ s.pwr.cycles) then s.wakeUp 10 else s

/-- The wake hold ends by itself, or by PWR_END_HOLD (R543, R548). -/
def holdEnd (s : State) : State := (s.modPwr fun p => { p with holdUntil := none }).powerChoice
def wakeHoldEnd (s : State) : State :=
  match s.pwr.holdUntil with
  | some t => if t ≤ s.now then s.holdEnd else s
  | none => s
def pwrEndHold (c : Cmd) (s : State) : State × Reply :=
  s.guarded [chkLen c 0, chkLc s false false, chkRole s c 1, chkIl s none, chkR s.pwr.holdUntil.isNone St.state 0x0100] fun s => (s.holdEnd, .ok)

/-- Asleep, KAB_SRC low with the path at SOURCE: the Plinth switches to the pack (R541, R546). -/
def plinthPack (s : State) (kab : Nat) : State :=
  if s.pwr.asleep && s.rpkPath == 0 && decide (kab < s.getO O.rpkSrcVLow * 100) then
    let s := s.pathTo 2
    if s.wakeMask 12 then s.wakeUp 12 else s
  else s

/-- A 1 kHz sample in NAP: the speed rule, and DOZE where it asks for it (R539, R543). -/
def napSample (s : State) (m : Fin 4) : State :=
  if s.getO O.pwrState = 3 ∧ s.pwr.asleep = false then
    let s := ((s.takeSpeed m).ruleCt m).powerChoice
    if s.getO O.pwrState = 3 then s else (s.setO O.pwrWakeCause 0xFF).raise 0x0202 0x1000 0xFF
  else s

/-! ### Boot (R495, R504, R531, R537) -/

/-- The restarts that wait can complete: VMAIN and VSTBY are there, and no PLL holds an island (R47, R529). -/
def bootReady (s : State) : Bool :=
  let held (i : Island) : Bool := s.clk.heldIslands.getLsbD (lockBit i) && s.pwr.boot.any fun (b : Boot) => b.islands.testBit (islIndex i)
  !s.pwr.boot.isEmpty && s.pwr.vmain && s.pwr.vstby && !s.pwr.asleep && !(([.se, .sc, .ct, .cv, .hf, .nw] : List Island).any held)

/-- What only a boot after a loss of VSTBY does first: spares derived again, the Mordant store zeroed (R455, R525). -/
def bootCold (s : State) : State :=
  let s := (List.finRange 6).foldl (fun (s : State) (i : Fin 6) =>
    let trial := decide (s.upd[i].running ≠ s.upd[i].committed)
    let s := (s.modUpd i fun u => { u with running := u.committed }).spareDerive i
    if trial then s.updEvent 7 i else s) s
  s.mordantWipe 5

/-- Records lost with class K are reported (R504). -/
def bootLost (s : State) : State :=
  let n := s.sec.lostRecs
  if n = 0 then s
  else (({ s with sec := { s.sec with lostRecs := 0 } } : State).audit 11 0xFF 0 0 0 0 0 n).raise 0x0A05 0x1800 3

/-- The tamper record is copied, and the attestation key renewed (R493, R498). -/
def bootTamper (s : State) : State :=
  if s.sec.tamperNew then
    let v := s.sec.tamperRec.toNat * 2 ^ 24 + min (s.getO O.secTamperCause % 65536 + 1) 0xFFFF
    let s : State := { s with sec := { s.sec with tamperNew := false, tamperUnack := true } }
    (((s.setO O.secTamperCause v).audit 6 0xFF 0 0 0 0 v 0).raise 0x0A02 0x1800 v).attRenew
  else s

/-- The safety host's timeout starts anew with READY: a lapse from here on has raised no event (R85). -/
def newWatch (s : State) : State := { s with hosts := s.hosts.map fun (p : HostPort) => { p with lostSent := false } }

/-- HF has started: READY, the safety host's timeout, reserve-pack management, the comparators' thresholds (R56, R85, R304, R347,
R401, R531). -/
def hfStarted (s : State) : State :=
  ((s.modDisp fun d => { d with ready := true, booting := false, safetyAt := s.now, safetyActed := false }).newWatch).rpkEnabled.auxPeakLoad.hwThreshold

/-- A channel of role PARK enters IDLE once the device has booted (R371). -/
def parkIdle (s : State) : State := if s.amcRoleOf 5 = 3 ∧ s.amcSt 5 = 0 then s.amcTo 5 1 0 else s

/-- Exit from PARK or SEALED: wake hold and EV_PWR_WAKE (R543, R546). -/
def bootWoken (s : State) : State :=
  (s.modPwr fun p => { p with holdUntil := some (s.now + s.getO O.pwrWakeHold * msTicks) }).raise 0x0202 0x1000 (s.getO O.pwrWakeCause)

/-- One restart completes: its islands verify and start in order, EV_RETENTION follows (R531, R537). -/
def bootOne (s : State) (b : Boot) (bad : List (Fin 6 × Bool)) : State :=
  let s := s.modPwr fun p => { p with failed := p.failed &&& ~~~(BitVec.ofNat 6 b.islands) }
  let s := if b.cause = 1 then s.bootCold else s
  let s := (List.finRange 6).foldl (fun (s : State) (i : Fin 6) =>
    let on (j : Fin 6) : Bool := if b.islands.testBit j.val then decide (j < i) && !s.pwr.failed.getLsbD j else !s.pwr.failed.getLsbD j
    if b.islands.testBit i.val then s.bootImage i on fun spare => bad.contains (i, spare) else s) s
  let up (s : State) (i : Nat) : Bool := b.islands.testBit i && !s.pwr.failed.getLsbD i
  let s := if up s 0 then s.bootLost.bootTamper else s
  let s := if up s 1 || up s 2 then s.sendSafe else s
  let s := if up s 4 then s.hfStarted.parkIdle else s
  let s := if up s 5 then s.netStart else s
  let s := if b.classes = 0 then s else s.postAll 0x0200 0x1000 (b.islands * 65536 + b.cause * 256 + b.classes)
  if 0x14 ≤ b.cause then s.bootWoken else s

/-- The restarts complete, and HF chooses the power state (R531, R544). -/
def bootComplete (s : State) (bad : List (Fin 6 × Bool)) : State :=
  if s.bootReady then (s.pwr.boot.foldl (fun (s : State) b => s.bootOne b bad) (s.modPwr fun p => { p with boot := [] })).powerChoice
  else s

/-! ### The debug and trace port (R488, R489, R555) -/

/-- What the port answers: 0 ignored, 1 granted, 2 ST_REFUSED. -/
def tapAnswer (s : State) (r : TapRequest) : Nat :=
  let sess (least : Nat) : Bool := (List.range 4).any fun h => least ≤ s.session h
  let open_ : Bool := match r, s.lc with
    | _, 0 => true
    | .runControl, 1 => sess 3
    | .trace, 1 => sess 3
    | .trace, 2 => sess 3
    | .trace, 3 => sess 2
    | .runControl, 3 => sess 3
    | _, _ => false
  if open_ = false then 0
  else if r == .runControl && (List.finRange 4).any (fun (m : Fin 4) => s.trxSt m == 3) then 2 else 1

end State

/-! ### The rows -/

def execColdReset (s : State) : Host.Outcome State Fault Refusal := .next s.coldReset

def execVstbyLoss (s : State) : Host.Outcome State Fault Refusal := .next s.vstbyLoss

def execBrownout (s : State) : Host.Outcome State Fault Refusal := .next s.brownout

def execKeepaliveCtrRelease (ctr : Fin 3) (s : State) : Host.Outcome State Fault Refusal := .next (s.keepAliveCtr ctr)

def execVmainReturn (thermalAgain : Bool) (s : State) : Host.Outcome State Fault Refusal := .next (s.vmainReturn thermalAgain)

def execPinReset (s : State) : Host.Outcome State Fault Refusal := .next s.pinReset

def execWatchdogExpiry (isl : Island) (retainedBad : Bool) (s : State) : Host.Outcome State Fault Refusal := .next (s.watchdog isl retainedBad)

def execVioBankLoss (b : Fin 3) (s : State) : Host.Outcome State Fault Refusal := .next (s.vioLoss b)

def execVioBankReturn (b : Fin 3) (s : State) : Host.Outcome State Fault Refusal := .next (s.vioReturn b)

def execBootComplete (bad : List (Fin 6 × Bool)) (s : State) : Host.Outcome State Fault Refusal := .next (s.bootComplete bad)

def execPowerStateChoice (vmain vstby : Nat) (s : State) : Host.Outcome State Fault Refusal := .next (s.powerTick vmain vstby)

def execDwellExpiry (s : State) : Host.Outcome State Fault Refusal := .next s.dwellExpiry

def execDeepEntryComplete (s : State) : Host.Outcome State Fault Refusal := .next s.deepDone

def execWakeEvent (src : Fin 16) (s : State) : Host.Outcome State Fault Refusal := .next (s.wakeEvent src)

def execWakeTimer (s : State) : Host.Outcome State Fault Refusal := .next s.wakeTimer

def execWakeHoldEnd (s : State) : Host.Outcome State Fault Refusal := .next s.wakeHoldEnd

def execPwrEndHold (s : State) : Host.Outcome State Fault Refusal := .next (s.runCmd 0x0201 State.pwrEndHold)

def execPlinthPackHandover (kab : Nat) (s : State) : Host.Outcome State Fault Refusal := .next (s.plinthPack kab)

def execNapSpeedSample (m : Fin 4) (s : State) : Host.Outcome State Fault Refusal := .next (s.napSample m)

def execTamperDetect (sensor : Fin 6) (s : State) : Host.Outcome State Fault Refusal := .next (s.tamper sensor)

def execDebugTapAccess (req : TapRequest) (s : State) : Host.Outcome State Fault Refusal := .next (s.send (.tap (s.tapAnswer req)))

end Sys2Proof.Machine
end

