-- ==== Sys2Proof/Machine/NetRx.lean ====
section
/-! DEFINITION. What NW does with PGs (chapter "Vehicle and implement networks"): map entries (R475 to R477), reception (R468, R469,
R471, R473), claims heard (R467) and transport sessions (R474; log 80). -/

namespace Sys2Proof.Machine

/-! ### Map entries -/

/-- A map entry with its fields (R475). -/
structure MapEntry where
  idx : Nat
  flags : Nat
  ports : Nat
  prio : Nat
  src : Nat
  pgn : Nat
  obj : Nat
  start : Nat
  len : Nat
  il : Nat
  period : Nat
  scale : Rat
  offset : Rat

/-- The entry of an index from its 24 bytes. -/
def MapEntry.parse (i v : Nat) : MapEntry :=
  { idx := i, flags := bitsOf v 7 0, ports := bitsOf v 15 8, prio := bitsOf v 23 16, src := bitsOf v 31 24, pgn := bitsOf v 49 32,
    obj := bitsOf v 79 64, start := bitsOf v 95 80, len := bitsOf v 103 96, il := bitsOf v 111 104, period := bitsOf v 127 112,
    scale := f32Val (bitsOf v 159 128), offset := f32Val (bitsOf v 191 160) }

/-- Its marks: enabled, TX, CRITICAL. -/
def MapEntry.on (e : MapEntry) : Bool := e.flags.testBit 3
def MapEntry.tx (e : MapEntry) : Bool := e.flags.testBit 0
def MapEntry.critical (e : MapEntry) : Bool := e.flags.testBit 1

/-- The raw field in a message; none where the message ends before the field (R475, R476). -/
def MapEntry.raw (e : MapEntry) (data : List Byte) : Option Int :=
  if 8 * data.length < e.start + e.len then none
  else
    let v := bitsOf (leNat data) (e.start + e.len - 1) e.start
    some (if e.flags.testBit 2 then toSigned e.len v else v)

/-- The raw count of an engineering value, saturated to the field (R477). -/
def MapEntry.count (e : MapEntry) (q : Rat) : Nat :=
  let r := if e.scale = 0 then 0 else roundAway ((q - e.offset) / e.scale)
  if e.flags.testBit 2 then ofSigned e.len (clampI r (-((2 : Int) ^ (e.len - 1))) ((2 : Int) ^ (e.len - 1) - 1))
  else (clampI r 0 ((2 : Int) ^ e.len - 1)).toNat

/-- The pattern of a type for an engineering value; none outside the type (R8, R476; log 94). -/
def valueBits (ty : ObjTy) (q : Rat) (free : Nat) : Option Nat :=
  match ty with
  | .f32 => some (f32Of q)
  | .s20 =>
    let x := roundAway (q * 524288)
    if -524288 ≤ x ∧ x ≤ 524287 then some (s20Bits x) else none
  | .s32 =>
    let x := roundAway q
    if -2147483648 ≤ x ∧ x ≤ 2147483647 then some (ofSigned 32 x) else none
  | .blob _ => some free
  | _ =>
    let x := roundAway q
    if 0 ≤ x ∧ x < (2 : Int) ^ (8 * ty.size) then some x.toNat else none

/-- The engineering value of an object's pattern (R8, R477; log 94). -/
def patternValue (ty : ObjTy) (v free : Nat) : Rat :=
  match ty with
  | .f32 => f32Val v
  | .s20 => (s20Int v : Rat) / 524288
  | .s32 => (toSigned 32 v : Rat)
  | .blob _ => (free : Rat)
  | _ => (v : Rat)

namespace State

/-- The enabled entries, by index. -/
def mapEntries (s : State) : List MapEntry :=
  (s.objs.filterMap fun p => if 0x2100 ≤ p.1 ∧ p.1 < 0x2200 then some (MapEntry.parse (p.1 - 0x2100) p.2) else none).filter (·.on)
def mapEntry (s : State) (i : Nat) : MapEntry := .parse i (s.getO (O.netMap i))

/-- The present value of an entry's object as an engineering value. -/
def objValue (s : State) (e : MapEntry) : Option Rat :=
  (s.rowOf e.obj).map fun r => patternValue r.1.ty (s.shown e.obj) (Config.freeValue (s.free + e.idx)).toNat

/-- The AXT stamp an object carries (R477): loop outputs, conversion results, position words, telemetry values. -/
def objStamp (s : State) (id : Nat) : Option Nat :=
  if 0x4008 ≤ id ∧ id < 0x4408 ∧ id % 16 = 8 then some (bitsOf (s.getO id) 191 128)
  else if 0x4D80 ≤ id ∧ id < 0x4F00 then some (bitsOf (s.getO id) 95 32)
  else if h : 0x5000 ≤ id ∧ id < 0x5100 then
    (if 0x10 ≤ id % 0x40 ∧ id % 0x40 ≤ 0x13 then some s.pos[(id - 0x5000) / 0x40].wordAt else none)
  else if h : 0x1450 ≤ id ∧ id < 0x1478 then some s.links[id - 0x1450].statAt
  else none

/-- A field written into a message, which grows to hold it. -/
def putField (data : List Byte) (start len v : Nat) : List Byte :=
  let n := max data.length ((start + len + 7) / 8)
  let b := data ++ List.replicate (n - data.length) 0xFF#8
  toLe n (putBits (leNat b) (start + len - 1) start v)

/-- NW runs: it restarts neither by itself nor on another image, and its clock has lock. -/
def nwUp (s : State) : Bool :=
  s.getO (O.updState 5) != 3 && !s.pwr.asleep && s.pwr.vmain && !(s.pwr.boot.any fun (b : Boot) => b.islands.testBit 5) &&
    !s.pwr.failed.getLsbD 5 && !s.clk.heldIslands.getLsbD (lockBit .nw)

/-- The device's interface level (R516). -/
def ownIl (s : State) : Nat := s.getO O.updIl

/-- A dropped frame counts, also against a tracked sender (R470, R478). -/
def rxDropFrom (s : State) (p : Fin 8) (sa : Nat) : State := s.rxDrop.partnerError p sa

/-! ### Sending mapped messages (R469, R477) -/

/-- The layout of an Ezdal message to a destination on a port (R469): the lower level with one partner, the lowest agreed with any
partner heard on the port for a broadcast. -/
def layout (s : State) (p : Fin 8) (da : Nat) : Nat :=
  let agreed (q : Partner) : Nat := if q.flags.testBit 1 && !q.flags.testBit 5 then min s.ownIl q.il else s.ownIl
  if da = 0xFF then
    s.net.table.foldl (fun (a : Nat) x =>
      if x.2.kind == 2 && x.2.port == p.val && !x.2.flags.testBit 4 then (match s.pGet x.2.link with
        | some q => min a (agreed q)
        | none => a) else a) s.ownIl
  else match (s.destPartner p da).bind fun i => s.pGet i with
    | some q => agreed q
    | none => s.ownIl

/-- Entries that fill one frame: same PGN, ports and destination (R477). -/
def sameFrame (a b : MapEntry) : Bool := a.pgn == b.pgn && a.ports == b.ports && a.src == b.src
def txGroup (s : State) (e : MapEntry) : List MapEntry := s.mapEntries.filter fun (x : MapEntry) => x.tx && sameFrame x e
/-- The entry of lowest index leads its frame. -/
def txLeads (s : State) (e : MapEntry) : Bool := match s.txGroup e with
  | x :: _ => x.idx == e.idx
  | [] => false

/-- The message of a frame's entries on a port (R469, R477). -/
def mapMsg (s : State) (e : MapEntry) (p : Fin 8) : TxMsg :=
  let il := s.layout p e.src
  let ez := isEzdal e.pgn
  let use := (s.txGroup e).filter fun (x : MapEntry) => x.il == 0 || (ez && x.il == il)
  let data := use.foldl (fun (d : List Byte) (x : MapEntry) => match s.objValue x with
    | some q => putField d x.start x.len (x.count q)
    | none => d) (List.replicate 8 0xFF#8)
  let data := if ez then BitVec.ofNat 8 il :: data.tail else data
  let stamp := (use.filterMap fun (x : MapEntry) => s.objStamp x.obj).foldl min s.now
  { port := p, fmt := .classic, prio := e.prio, pgn := e.pgn, sa := s.ownAddr p, da := e.src, data := data, who := .map e.idx,
    critical := use.any (·.critical), stamp := stamp, built := s.now, period := e.period }

/-- A frame of a map entry sent on a port that can send (R463, R467, R477). -/
def mapSend (s : State) (e : MapEntry) (p : Fin 8) : State :=
  if s.portReady p then ({ s with free := s.free + 256 } : State).sendPg (s.mapMsg e p) else s

/-- A message of a session none of whose frames has left is due for withdrawal (R39, R477; log 129). -/
def sessStale (s : State) (sel : TxMsg → Bool) (x : Session) : Bool := x.out && !x.begun && sel (sessMsg x) && s.txStale (sessMsg x)

/-- Stale messages of a kind withdrawn, frames and sessions, each counted as skipped (R39, R477). -/
def txWithdraw (s : State) (sel : TxMsg → Bool) : State :=
  let gone := (s.net.tx ++ s.net.wait).filter fun (m : TxMsg) => sel m && s.txStale m
  let old := s.net.sess.filter fun (x : Session) => s.sessStale sel x
  let stays (m : TxMsg) : Bool := !(sel m && s.txStale m) && !(old.any fun (x : Session) => m.who == .tp x.key)
  let t := (s.modNet fun n => { n with
    tx := n.tx.filter stays, wait := n.wait.filter stays, sess := n.sess.filter fun (x : Session) => !s.sessStale sel x }).showSess
  let t := old.foldl (fun (t : State) (_ : Session) => t.cycSkip) (gone.foldl (fun (t : State) (_ : TxMsg) => t.cycSkip) t)
  t.tpWaiting

/-- A cycle of a TX entry (R477). -/
def mapCycle (s : State) (i : Nat) : State :=
  let e := s.mapEntry i
  let last := (kGet s.net.mapAt i).getD s.net.startAt
  if e.on && e.tx && e.period != 0 && s.txLeads e && decide (last + e.period * msTicks ≤ s.now) then
    let s := (s.txWithdraw fun m => m.who == .map i).modNet fun n => { n with mapAt := kPut n.mapAt i s.now }
    ((List.finRange 8).filter fun p => e.ports.testBit p.val).foldl (fun (s : State) p => s.mapSend e p) s
  else s

/-! ### Mapped fields received (R476) -/

/-- An entry takes a message from a source on a port (R469, R471, R475). -/
def MapEntry.takes (e : MapEntry) (p : Fin 8) (pgn sa : Nat) (data : List Byte) (tracked : Bool) : Bool :=
  !e.tx && e.pgn == pgn && e.ports.testBit p.val && (e.src == 0xFF || (tracked && e.src == sa)) &&
    (e.il == 0 || (isEzdal pgn && fieldAt data 0 1 == e.il))

/-- A frame dropped or a value refused counts against its sender (R470, R476). -/
def senderError (s : State) (who : Option Nat) : State := match who with
  | some i => s.pMod i fun q => { q with errors := min (q.errors + 1) 255 }
  | none => s

/-- One entry fed: the value is written, or counts against the sender (R476). -/
def mapFeed (s : State) (who : Option Nat) (data : List Byte) (e : MapEntry) : State :=
  match e.raw data, s.rowOf e.obj with
  | some r, some row =>
    let t := s.takeFree.modNet fun n => { n with mapAt := kPut n.mapAt e.idx s.now, rxDead := n.rxDead.filter (· != e.idx) }
    (match valueBits row.1.ty ((r : Rat) * e.scale + e.offset) (Config.freeValue s.free).toNat with
     | some v =>
       let w := t.netWrite e.obj v
       if w.2 then w.1 else t.senderError who
     | none => t.senderError who)
  | _, _ => s

def mapRx (s : State) (p : Fin 8) (pgn sa : Nat) (data : List Byte) (who : Option Nat) : State :=
  (s.mapEntries.filter fun e => MapEntry.takes e p pgn sa data who.isSome).foldl (fun (s : State) e => s.mapFeed who data e) s

/-! ### Partners heard (R471) -/

/-- An ALIAS freed; its partner's LINK names the next one, or none. -/
def freeAlias (s : State) (a : Nat) : State :=
  match s.pGet a with
  | none => s
  | some al =>
    let s := s.putTable (kDel s.net.table a)
    let next := (s.net.table.find? fun p => p.2.kind == 2 && p.2.link == al.link).map Prod.fst
    s.pMod al.link fun p => { p with link := next.getD 0xFFFF }

/-- The ALIAS of a partner on a port. -/
def aliasOn (s : State) (partner port : Nat) : Option Nat :=
  (s.net.table.find? fun p => p.2.kind == 2 && p.2.port == port && p.2.link == partner).map Prod.fst

/-- The address that a claimed NAME takes over is freed: a nameless partner gives way, another NAME is CONTESTED (R471). -/
def claimFrees (s : State) (port addr name : Nat) : State :=
  match s.aliasOf port addr with
  | none => s
  | some a =>
    match s.pGet a with
    | none => s
    | some al =>
      match s.pGet al.link with
      | none => s.freeAlias a
      | some q =>
        if q.id = name then s
        else if q.id = 0 then
          (if (s.partnerOf name).isNone then s.pMod al.link fun x => { x with id := name }
           else
             let s := s.freeAlias a
             if s.net.table.any fun x => x.2.kind == 2 && x.2.link == al.link then s else s.partnerDrop al.link)
        else (((s.freeAlias a).pMod al.link fun x => { x with flags := x.flags ||| 64 }).raise 0x0903 0x2000 (al.link * 65536 + 3))

/-- An Address Claimed frame creates or rebinds an ALIAS under the claimed NAME (R471). -/
def claimBinds (s : State) (port addr name : Nat) : State :=
  let s := s.claimFrees port addr name
  match s.partnerOf name with
  | some i =>
    (match s.aliasOn i port with
     | some a => s.pMod a fun x => { x with addr := addr }
     | none => (s.bindAlias i port addr 0 0).1)
  | none => (s.newPartner name port addr 0 0).1

/-- A CAN source is looked up, or entered as a partner without NAME (R471); a frame from it has been heard. -/
def trackCan (s : State) (p : Fin 8) (sa marks : Nat) : State :=
  if 253 < sa then s
  else match s.aliasOf p sa with
    | some a => s.heard a marks
    | none =>
      let r := s.newPartner 0 p sa 0 0
      match r.2 with
      | some a => r.1.heard a marks
      | none => r.1

/-- A MAC that now carries another identity is freed for it; a partner known only by its MAC gives way (R471; log 93). -/
def macFrees (s : State) (port mac id : Nat) : State :=
  match s.aliasMac port mac with
  | none => s
  | some a =>
    match (s.pGet a).bind fun al => (s.pGet al.link).map fun q => (al.link, q) with
    | none => s
    | some (i, q) =>
      if q.id = id then s
      else
        let s := s.freeAlias a
        if 0xFFFF * 2 ^ 48 ≤ q.id ∧ !(s.net.table.any fun x => x.2.kind == 2 && x.2.link == i) then s.partnerDrop i else s

/-- The ADDR of an alias on an Ethernet port: the PLCA node of its opportunity on an SPE port that runs PLCA, else 0xFE (R464, R470). -/
def ethAddr (s : State) (p : Fin 8) (node : Nat) : Nat :=
  if (p.val = 6 ∨ p.val = 7) ∧ (s.getO (O.netEthCfg (portEth p))).testBit 1 = true ∧ s.net.csma[p.val % 2] = false then node else 0xFE

/-- The sender of a PG datagram: its NAME, or its MAC where it announces none (R470, R471). -/
def trackEth (s : State) (p : Fin 8) (node name mac ip : Nat) : State :=
  let addr := s.ethAddr p node
  let id := if name = 0 then mac + 0xFFFF * 2 ^ 48 else name
  let s := s.macFrees p mac id
  match s.aliasMac p mac with
  | some a => (s.pMod a fun x => { x with addr, ipv4 := ip % 65536 }).heard a 0
  | none =>
    let r := match s.partnerOf id with
      | some i => s.bindAlias i p addr mac ip
      | none => s.newPartner id p addr mac ip
    match r.2 with
    | some a => r.1.heard a 0
    | none => r.1

/-- The partner that a frame came from. -/
def senderOf (s : State) (p : Fin 8) (sa mac : Nat) : Option Nat :=
  if p.val < 4 then s.partnerAt p sa else (s.aliasMac p mac).bind fun a => (s.pGet a).map (·.link)

/-! ### The PGs the device itself takes -/

/-- An interface-level announcement (R468, R469). -/
def announceRx (s : State) (who : Option Nat) (data : List Byte) : State :=
  match who with
  | none => s
  | some i =>
    let il := fieldAt data 0 1
    let own := s.ownIl
    let off := decide (own + 1 < il) || decide (il + 1 < own)
    let was := match s.pGet i with
      | some q => q.flags.testBit 5
      | none => false
    let s := s.pMod i fun q => { q with il := il, flags := ((q.flags ||| 34) - 32) + (if off then 32 else 0) }
    if off && !was then (s.orO O.netFlags 4).raise 0x0903 0x2000 (i * 65536 + 4) else s

/-- A claim for the device's own address on a channel: the lower NAME wins (R467). -/
def contest (s : State) (n : Fin 4) (sa name : Nat) : State :=
  let c : CanPort := s.net.can[n]
  if (c.claim = .waiting ∨ c.claim = .claimed) ∧ c.addr = sa then
    if s.getO O.netName < name then (s.modCan n fun c => { c with at_ := s.now }).claimFrame n sa
    else if name < s.getO O.netName then s.claimLost n
    else s
  else s

/-- A Request (PGN 59904): the device's claim, or the mapped messages of the PGN (R467, R475). -/
def requestRx (s : State) (p : Fin 8) (data : List Byte) : State :=
  let pgn := fieldAt data 0 3
  if pgn = pgnClaim then
    (match portCan p with
     | some n =>
       (match s.net.can[n].claim with
        | .waiting | .claimed => s.claimFrame n s.net.can[n].addr
        | .silent => s.claimFrame n 254
        | _ => s)
     | none => s)
  else
    (s.mapEntries.filter fun e => e.tx && e.pgn == pgn && e.ports.testBit p.val && s.txLeads e).foldl (fun (s : State) e => s.mapSend e p) s

/-- A Commanded Address (PGN 65240) with the device's NAME (R467). -/
def commandedRx (s : State) (p : Fin 8) (data : List Byte) : State :=
  match portCan p with
  | some n =>
    if s.getO O.netCmdAddr = 1 ∧ data.length = 9 ∧ s.getO O.netName ≠ 0 ∧ fieldAt data 0 8 = s.getO O.netName ∧ fieldAt data 8 1 ≤ 253 then
      (s.portFlush p).claimStart n (fieldAt data 8 1)
    else s
  | none => s

/-- An Ezdal message is accepted: its layout is the device's level or the one below, and its sender's level differs by no more than 1
(R469). -/
def ezdalOk (s : State) (who : Option Nat) (data : List Byte) : Bool :=
  let far := match who.bind fun i => s.pGet i with
    | some q => q.flags.testBit 5
    | none => false
  !far && (fieldAt data 0 1 == s.ownIl || fieldAt data 0 1 + 1 == s.ownIl)

/-- One whole PG received, in a frame, a datagram or by transport (R467 to R469, R471, R476). -/
def pgRx (s : State) (p : Fin 8) (pgn sa da mac : Nat) (data : List Byte) : State :=
  let who := s.senderOf p sa mac
  let own := da == 0xFF || p.val ≥ 4 || (match portCan p with
    | some n => s.canReady n && s.net.can[n].addr == da
    | none => false)
  if !own then s
  else if pgn = pgnAnnounce then
    let t := s.announceRx who data
    if t.ezdalOk who data then t.mapRx p pgn sa data who else t
  else if pgn = pgnRequest ∧ data.length = 3 then (s.requestRx p data).mapRx p pgn sa data who
  else if pgn = pgnCommanded then (s.commandedRx p data).mapRx p pgn sa data who
  else if isEzdal pgn then (if s.ezdalOk who data then s.mapRx p pgn sa data who else s.rxDrop.senderError who)
  else s.mapRx p pgn sa data who

/-! ### Transport control (R474; log 80) -/

def modSess (s : State) (key : Nat) (f : Session → Session) : State :=
  s.modNet fun n => { n with sess := n.sess.map fun (x : Session) => if x.key == key then f x else x }

/-- The next window of an incoming connection is cleared to send. -/
def tpClear (s : State) (x : Session) : State :=
  let k := min (tpPackets x.size + 1 - x.next) x.limit
  let s := s.modSess x.key fun y => { y with
    upTo := x.next + k - 1, wait := (if x.ext then TpWait.dpo else TpWait.packets), due := s.now + tpT2 * msTicks }
  let ctl := if x.ext then toLe 1 21 ++ toLe 1 k ++ toLe 3 x.next else toLe 1 17 ++ toLe 1 k ++ toLe 1 x.next ++ toLe 2 0xFFFF
  s.ownFrame x.port x.prio (tpCm x.ext) x.dst x.src (ctl ++ toLe 3 x.pgn)

/-- A session by port, direction, pair and protocol. -/
def tpFind (s : State) (p : Fin 8) (out : Bool) (src dst : Nat) (ext : Bool) : Option Session :=
  s.net.sess.find? fun (x : Session) => x.port == p && x.out == out && x.src == src && x.dst == dst && x.ext == ext

/-- A session ends in error, which counts against its peer (R470). -/
def tpFail (s : State) (x : Session) : State := (s.partnerError x.port (if x.out then x.dst else x.src)).tpClose x false

/-- An incoming session. -/
def tpEnter (s : State) (p : Fin 8) (sa da : Nat) (bam ext : Bool) (pgn prio size limit : Nat) : State :=
  let x : Session :=
    { key := s.net.nextKey, port := p, src := sa, dst := da, out := false, bam := bam, ext := ext, pgn := pgn, prio := prio, size := size,
      data := [], next := 1, upTo := tpPackets size, base := 0, limit := if limit = 0 then 255 else limit, wait := .packets,
      due := s.now + tpT1 * msTicks, who := .own, critical := true, stamp := s.now, built := s.now, period := 0, begun := true }
  let s := (s.modNet fun n => { n with sess := n.sess ++ [x], nextKey := n.nextKey + 1 }).showSess
  if bam then s else s.tpClear x

/-- A request to send (R474). -/
def tpRequest (s : State) (p : Fin 8) (sa da : Nat) (ext tracked : Bool) (pgn prio size limit : Nat) : State :=
  if ext ∧ size < 1786 ∨ ¬ ext ∧ (size < 9 ∨ 1785 < size) then s.rxDropFrom p sa
  else
    let s := match s.tpFind p false sa da ext with
      | some x => if x.pgn = pgn then s.tpClose x false else s
      | none => s
    if 8192 < size then s.tpAbort p ext da sa pgn 2
    else if !tracked || !(s.tpFree p sa da) then s.tpAbort p ext da sa pgn 1
    else s.tpEnter p sa da false ext pgn prio size limit

/-- A clearance to send for an outgoing connection. -/
def tpCts (s : State) (x : Session) (k next : Nat) : State :=
  if k = 0 then s.modSess x.key fun y => { y with wait := .cts, due := s.now + tpT4 * msTicks }
  else if next = 0 ∨ tpPackets x.size < next then s
  else
    let last := min (next + k - 1) (tpPackets x.size)
    let y : Session := { x with next := last + 1, upTo := last, base := if x.ext then next - 1 else 0, wait := .sending }
    let s := s.modSess x.key fun _ => y
    let s := if x.ext then
        s.ownFrame x.port x.prio (tpCm true) x.src x.dst (toLe 1 22 ++ toLe 1 (last + 1 - next) ++ toLe 3 (next - 1) ++ toLe 3 x.pgn) (.tp x.key)
      else s
    s.tpSend y next last

/-- A transport control frame to the device, or a BAM (R474). -/
def tpControl (s : State) (p : Fin 8) (prio sa da : Nat) (ext tracked : Bool) (d : List Byte) : State :=
  let op := fieldAt d 0 1
  let pgn := fieldAt d 5 3
  let mine := match portCan p with
    | some n => s.canReady n && s.net.can[n].addr == da
    | none => false
  if d.length ≠ 8 then s
  else if op = 32 ∧ ext = false ∧ da = 0xFF then
    let size := fieldAt d 1 2
    let s := match s.tpFind p false sa 0xFF false with
      | some x => s.tpClose x false
      | none => s
    if size < 9 ∨ 1785 < size then s.rxDropFrom p sa
    else if s.tpFree p sa 0xFF then s.tpEnter p sa 0xFF true false pgn prio size 255 else s
  else if !mine then s
  else if op = (if ext then 20 else 16) then
    (if ext then s.tpRequest p sa da true tracked pgn prio (fieldAt d 1 4) 255
     else s.tpRequest p sa da false tracked pgn prio (fieldAt d 1 2) (fieldAt d 4 1))
  else if op = (if ext then 21 else 17) then
    (match s.tpFind p true da sa ext with
     | some x => if x.pgn = pgn then s.tpCts x (fieldAt d 1 1) (if ext then fieldAt d 2 3 else fieldAt d 2 1) else s
     | none => s)
  else if op = (if ext then 23 else 19) then
    (match s.tpFind p true da sa ext with
     | some x => if x.pgn = pgn then s.tpClose x true else s
     | none => s)
  else if op = 22 ∧ ext = true then
    (match s.tpFind p false sa da true with
     | some x =>
       if x.pgn = pgn ∧ x.wait = .dpo ∧ fieldAt d 2 3 + 1 = x.next then
         s.modSess x.key fun y => { y with base := fieldAt d 2 3, wait := .packets, due := s.now + tpT1 * msTicks }
       else s
     | none => s)
  else if op = 255 then
    (match s.tpFind p true da sa ext, s.tpFind p false sa da ext with
     | some x, some y => if x.pgn = pgn then s.tpFail x else if y.pgn = pgn then s.tpFail y else s
     | some x, none => if x.pgn = pgn then s.tpFail x else s
     | none, some y => if y.pgn = pgn then s.tpFail y else s
     | none, none => s)
  else s

/-- A data packet of an incoming session; the last one completes the message (R474). -/
def tpData (s : State) (p : Fin 8) (sa da : Nat) (ext : Bool) (d : List Byte) : State :=
  match s.tpFind p false sa da ext with
  | none => s
  | some x =>
    let k := x.base + fieldAt d 0 1
    if d.length ≠ 8 ∨ x.wait ≠ .packets ∨ k < x.next then s
    else if x.next < k then
      (if x.bam then s.tpFail x else (s.tpAbort p ext da sa x.pgn 7).tpFail x)
    else
      let y : Session := { x with data := (x.data ++ d.drop 1).take x.size, next := k + 1, due := s.now + tpT1 * msTicks }
      let s := s.modSess x.key fun _ => y
      if tpPackets x.size < y.next then
        let s := if x.bam then s
          else s.ownFrame p x.prio (tpCm ext) da sa
            ((if ext then toLe 1 23 ++ toLe 4 x.size else toLe 1 19 ++ toLe 2 x.size ++ toLe 1 (tpPackets x.size) ++ [0xFF#8]) ++ toLe 3 x.pgn)
        (s.tpClose y true).pgRx p x.pgn sa da 0 y.data
      else if x.upTo < y.next then s.tpClear y
      else s

/-- A timer of a session expires: the connection is aborted with reason 3, a BAM is given up (R474). -/
def tpTimeout (s : State) (key : Nat) : State :=
  match s.net.sess.find? fun (x : Session) => x.key == key with
  | none => s
  | some x =>
    if s.now < x.due ∨ x.wait = .sending then s
    else if x.bam then s.tpFail x
    else if x.out then (s.tpAbort x.port x.ext x.src x.dst x.pgn 3).tpFail x
    else (s.tpAbort x.port x.ext x.dst x.src x.pgn 3).tpFail x

/-! ### Frames received (R460, R465, R473) -/

/-- The hardware filters pass a PG: one of the device's own protocols, or one that an enabled entry names (R473). -/
def passes (s : State) (pgn : Nat) : Bool :=
  [pgnRequest, pgnClaim, pgnCommanded, pgnAnnounce, pgnTpCm, pgnTpDt, pgnEtpCm, pgnEtpDt].contains pgn ||
    s.mapEntries.any fun (e : MapEntry) => e.pgn == pgn

/-- A PG that is never dropped for load (R473). -/
def neverDropped (s : State) (p : Fin 8) (pgn : Nat) : Bool :=
  pgn == pgnClaim || pgn == pgnTpCm || pgn == pgnEtpCm ||
    s.mapEntries.any fun (e : MapEntry) => e.critical && !e.tx && e.pgn == pgn && e.ports.testBit p.val

/-- One frame counted against the 60,000 of a second; whether the load leaves it no place (R473). -/
def loadTake (s : State) : State × Bool :=
  let s := if s.net.loadAt + sTicks ≤ s.now then s.modNet fun n => { n with loadAt := s.now, loadN := 0 } else s
  (s.modNet fun n => { n with loadN := n.loadN + 1 }, decide (60000 ≤ s.net.loadN))

/-- A CAN frame with a 29-bit identifier processed (R467 to R476). -/
def canProcess (s : State) (n : Fin 4) (id marks : Nat) (data : List Byte) : State :=
  let p := canPort n
  let sa := id % 256
  let pgn := idPgn id
  let da := idDest id
  let prio := id / 2 ^ 26
  if !s.passes pgn then s
  else
    let l := s.loadTake
    if l.2 && !s.neverDropped p pgn then l.1.rxDropFrom p sa
    else if pgn = pgnClaim then
      (if data.length ≠ 8 ∨ leNat data = 0 then l.1.rxDropFrom p sa
       else if 253 < sa then l.1
       else ((l.1.claimBinds p sa (leNat data)).trackCan p sa marks).contest n sa (leNat data))
    else
      let s := l.1.trackCan p sa marks
      let tracked := (s.partnerAt p sa).isSome
      if pgn = pgnTpCm then s.tpControl p prio sa da false tracked data
      else if pgn = pgnEtpCm then s.tpControl p prio sa da true tracked data
      else if pgn = pgnTpDt then s.tpData p sa da false data
      else if pgn = pgnEtpDt then s.tpData p sa da true data
      else s.pgRx p pgn sa da 0 data

/-- A frame on a CAN channel, by mode and format; a classical channel answers an FD or XL frame with an error frame (R460); log 95 for
remote frames. -/
def canRx (s : State) (n : Fin 4) (ext : Bool) (fmt : CanFormat) (id : Nat) (data : List Byte) : State :=
  let mode := s.canMode n
  if !s.nwUp || mode == 0 || s.net.can[n].busOff then s
  else match fmt with
    | .remote => if ext then s else s.rxDrop
    | .classic => if ext then s.canProcess n id 0 data else s.rxDrop
    | .fd | .fdBrs => if mode < 2 then s.send (.canError n) else if ext then s.canProcess n id 4 data else s.rxDrop
    | .xl => if mode < 2 then s.send (.canError n) else if mode < 3 then s else if ext then s.canProcess n id 8 data else s.rxDrop

/-- A PG datagram (R465). -/
def datagramRx (s : State) (e : Fin 4) (node mac ip : Nat) (d : List Byte) : State :=
  let p := ethPort e
  if !s.nwUp || !s.ethReady e then s
  else if d.length < 16 ∨ 1416 < d.length ∨ fieldAt d 0 1 ≠ 1 ∨ 0x3FFFF < fieldAt d 4 4 then s.rxDrop
  else
    let pgn := fieldAt d 4 4
    if !s.passes pgn then s
    else
      let l := s.loadTake
      if l.2 && !s.neverDropped p pgn then l.1.rxDrop
      else (l.1.trackEth p node (fieldAt d 8 8) mac ip).pgRx p pgn (fieldAt d 2 1) (fieldAt d 3 1) mac (d.drop 16)

end State

end Sys2Proof.Machine
end

