-- ==== Sys2Proof/Machine/Network.lean ====
section
/-! DEFINITION. The rows of chapter "Vehicle and implement networks". -/

namespace Sys2Proof.Machine

namespace State

/-! ### CAN channels (R463, R467, R468) -/

/-- Error-passive, with the error counters the controller reports (R463, R478). -/
def canPassive (s : State) (n : Fin 4) (tec rxc : Nat) : State :=
  if s.nwUp && s.canMode n != 0 && !s.net.can[n].busOff && (decide (128 ≤ tec) || decide (128 ≤ rxc)) then
    (s.setO (O.netCanStatus n) (bitsOf (s.getO (O.netCanStatus n)) 15 0 ||| 2 ||| rxc * 2 ^ 16 ||| tec * 2 ^ 24)).raise 0x0900 (0x2000 + n) 1
  else s

/-- Bus-off (R463): the channel discards what waits, and is held off after the eighth within 10 s or without `auto_recover`. DESIGN
CHOICE (log 200): data 3 follows data 2 at once, and the limit of one event in a millisecond (R480) counts it apart. -/
def canOff (s : State) (n : Fin 4) : State :=
  if s.nwUp && s.canMode n != 0 && !s.net.can[n].busOff then
    let offs := (s.now :: s.net.can[n].offs.filter fun t => decide (s.now < t + 10 * sTicks)).take 8
    let held := s.getO (O.netCanAutoRecover n) == 0 || offs.length == 8
    let s := ((s.portFlush (canPort n)).addrNone n).orO (O.netCanStatus n) 4
    let s := s.modCan n fun c => { c with claim := .off, addr := 0xFE, busOff := true, heldOff := held, offs := offs }
    let s := s.endAll (fun p => p.code == 0x0902 && p.arg == [n.val]) St.fault
    let s := s.raise 0x0900 (0x2000 + n) 2
    s.when held fun s => s.raise 0x0900 (0x2000 + n) 3 1
  else s

/-- The channel rejoins after the recessive bits that the standard asks for, and claims again (R463). -/
def canRecover (s : State) (n : Fin 4) : State :=
  if s.nwUp && s.net.can[n].busOff && !s.net.can[n].heldOff then
    ((s.setO (O.netCanStatus n) (bitsOf (s.getO (O.netCanStatus n)) 15 0)).raise 0x0900 (0x2000 + n) 4).canStart n
  else s

/-- 250 ms without contest: the address is claimed, and the announcement follows (R467, R468). -/
def claimDone (s : State) (n : Fin 4) : State :=
  let c : CanPort := s.net.can[n]
  if s.nwUp && c.claim == .waiting && decide (c.at_ + 250 * msTicks ≤ s.now) then
    let s := ((s.modCan n fun c => { c with claim := .claimed }).setO (O.netCanAddr n) c.addr).orO (O.netCanStatus n) 1
    let s := s.raise 0x0901 (0x2000 + n) (256 + c.addr)
    (s.announce (canPort n)).endAll (fun p => p.code == 0x0902 && p.arg == [n.val]) St.ok
  else s

/-- Cannot Claim leaves from source 254 (R467). -/
def cannotClaim (s : State) (n : Fin 4) : State :=
  if s.nwUp && s.net.can[n].claim == .delay then
    let s := ((s.modCan n fun c => { c with claim := .silent }).claimFrame n 254).raise 0x0901 (0x2000 + n) (3 * 256 + 0xFE)
    s.endAll (fun p => p.code == 0x0902 && p.arg == [n.val]) St.fault
  else s

/-- The announcement every 5 s (R468). -/
def announceDue (s : State) (p : Fin 8) : State :=
  if s.nwUp && s.portReady p && decide (s.net.annAt[p] + 5 * sTicks ≤ s.now) then s.announce p else s

/-! ### Ethernet ports (R464, R465) -/

/-- A link comes up or goes down (R464, R480). -/
def ethLink (s : State) (e : Fin 4) (up : Bool) : State :=
  if !s.nwUp || !s.bitO (O.netEthCfg e) 0 || s.bitO (O.netEthStatus e) 0 == up then s
  else if up then (s.orO (O.netEthStatus e) 1).raise 0x0902 (0x2004 + e) 1
  else (((s.clrO (O.netEthStatus e) 1).orO (O.netEthStatus e) 2).portFlush (ethPort e)).raise 0x0902 (0x2004 + e) 2

/-- A PLCA follower on an enabled SPE port (R464). -/
def plcaFollower (s : State) (e : Fin 2) : Bool :=
  let c := s.getO (O.netEthCfg (2 + e.val))
  s.nwUp && c.testBit 0 && c.testBit 1 && bitsOf c 11 8 != 0

/-- Four cycles without a beacon, and the next beacon (R464). -/
def plcaLost (s : State) (e : Fin 2) : State :=
  if s.plcaFollower e && !s.net.csma[e] then
    ((s.modNet fun n => { n with csma := n.csma.set e true }).orO (O.netEthStatus (2 + e.val)) 4).raise 0x0902 (0x2006 + e) 3
  else s
def plcaBack (s : State) (e : Fin 2) : State :=
  if s.plcaFollower e && s.net.csma[e] then (s.modNet fun n => { n with csma := n.csma.set e false }).raise 0x0902 (0x2006 + e) 4 else s

/-- The bytes of a number, most significant first. -/
def beBytes (n v : Nat) : List Byte := (toLe n v).reverse

/-- The Internet checksum of a byte string of even or odd length (PRESUMED: RFC 792; log 80). -/
def inetSum : List Byte → Nat
  | [] => 0
  | [a] => a.toNat * 256
  | a :: b :: t => a.toNat * 256 + b.toNat + inetSum t
def inetCheck (b : List Byte) : Nat :=
  let x := inetSum b
  let y := x / 65536 + x % 65536
  65535 - (y / 65536 + y % 65536)

/-- An ARP request or an ICMP echo request for the port's own address is answered (R465). -/
def ipAnswer (s : State) (e : Fin 4) (icmp : Bool) (target mac ip : Nat) (data : List Byte) : State :=
  if !s.nwUp || !s.ethReady e || target != s.getO (O.netEthIpv4 e) then s
  else if icmp then
    s.send (.eth e 1 mac ip ([0, 0] ++ beBytes 2 (inetCheck ([0, 0, 0, 0] ++ data)) ++ data))
  else
    s.send (.eth e 0 mac ip ([0, 1, 8, 0, 6, 4, 0, 2] ++ beBytes 6 (s.getO (O.netEthMac e)) ++ beBytes 4 (s.getO (O.netEthIpv4 e)) ++
      beBytes 6 mac ++ beBytes 4 ip))

/-! ### Timers (R472, R476) -/

/-- An ALIAS unheard for `partner_timeout` is LOST, and with its last one the partner (R472). -/
def partnerLost (s : State) (i : Nat) : State :=
  match s.pGet i with
  | none => s
  | some al =>
    if s.nwUp && al.kind == 2 && !al.flags.testBit 4 && decide (al.last + s.getO O.netPartnerTimeout * msTicks ≤ s.now) then
      let s := s.pMod i fun p => { p with flags := p.flags ||| 16 }
      if s.net.table.all fun p => !(p.2.kind == 2 && p.2.link == al.link) || p.2.flags.testBit 4 then
        (s.pMod al.link fun p => { p with flags := p.flags ||| 16 }).raise 0x0903 0x2000 (al.link * 65536 + 2)
      else s
    else s

/-- An RX entry that nothing has fed for PERIOD (R476). -/
def rxTimeout (s : State) (i : Nat) : State :=
  let e := s.mapEntry i
  if s.nwUp && e.on && !e.tx && e.period != 0 && !s.net.rxDead.contains i &&
      decide ((kGet s.net.mapAt i).getD s.net.startAt + e.period * msTicks ≤ s.now) then
    let s := (s.modNet fun n => { n with rxDead := i :: n.rxDead }).orO O.netFlags 2
    (s.incSat O.netRxTimeouts 0xFFFFFFFF).raise 0x0905 0x2000 i
  else s

/-! ### Transmission (R438, R477, R479) -/

/-- The first frame of a port's queue that may leave: a non-critical one waits out the pause (R438). -/
def txNext (s : State) (p : Fin 8) : Option TxMsg :=
  s.net.tx.find? fun (m : TxMsg) => m.port == p && (m.critical || !(s.throttled && decide (s.now < s.thm.pauseNet[p])))

/-- The format and the bytes of a frame on a CAN bus: FD with bit-rate switching, its data filled up with 0xFF to a length that the
format carries (R460; log 95). -/
def canWire (m : TxMsg) : CanFormat × List Byte :=
  match m.fmt with
  | .fd =>
    let n := (fdLengths.find? fun n => decide (m.data.length ≤ n)).getD m.data.length
    (.fdBrs, m.data ++ List.replicate (n - m.data.length) 0xFF#8)
  | .xl => (.xl, m.data)
  | _ => (.classic, m.data)

/-- A frame as it leaves. -/
def txWire (s : State) (m : TxMsg) : State :=
  match portCan m.port with
  | some n => s.send (.can n (canWire m).1 (canId m) (canWire m).2)
  | none =>
    let e := portEth m.port
    let d := (s.ethDest e m.da).getD (2 ^ 48 - 1, 2 ^ 32 - 1)
    s.send (.pg e d.1 d.2 (toLe 1 1 ++ toLe 1 m.prio ++ toLe 1 m.sa ++ toLe 1 m.da ++ toLe 4 m.pgn ++ toLe 8 (s.getO O.netName) ++ m.data))

/-- A frame of a session has left: after the last one a broadcast is over, a connection waits for its peer (R474; log 80). -/
def tpSent (s : State) (key : Nat) : State :=
  match s.net.sess.find? fun (x : Session) => x.key == key with
  | none => s
  | some x =>
    let s := s.modSess key fun y => { y with begun := true }
    if x.wait ≠ .sending ∨ (s.net.tx.any fun (m : TxMsg) => m.who == .tp key) = true then s
    else if x.bam then s.tpClose x true
    else s.modSess key fun y => { y with wait := (if tpPackets y.size ≤ y.upTo then TpWait.ack else TpWait.cts), due := s.now + tpT2 * msTicks }

/-- The controller of a port has sent a frame, or given it up (R479). -/
def txDone (s : State) (p : Fin 8) (ok : Bool) : State :=
  if !s.nwUp then s
  else
    let s := s.txWithdraw fun m => m.port == p
    match s.txNext p with
    | none => s
    | some m =>
      let s := s.modNet fun n => { n with tx := n.tx.erase m }
      let s := if ok then s.txWire m else s
      let s := if s.throttled && !m.critical then
          ({ s with thm := { s.thm with pauseNet := s.thm.pauseNet.set p (s.now + s.getO O.thmPauseNet * usTicks) } } : State)
        else s
      match m.who with
      | .tp key =>
        if ok then s.tpSent key
        else match s.net.sess.find? fun (x : Session) => x.key == key with
          | some x => s.tpFail x
          | none => s
      | _ => s.txOutcome m ok

/-! ### The commands (R479) -/

/-- The checks that the commands of group NET share (R77, R486, R489, R517). -/
def netCommon (s : State) (c : Cmd) : List Chk := [chkLc s false false, chkRole s c 2, chkOwn s c 10, chkIl s (some 10)]

/-- The CAN channel a command names. -/
def onCan (c : Cmd) (s : State) (f : Fin 4 → State × Reply) : State × Reply :=
  if h : fieldAt c.payload 0 1 < 4 then f ⟨fieldAt c.payload 0 1, h⟩ else (s, .bare St.range)

/-- NET_CAN_RESTART. -/
def netCanRestart (c : Cmd) (s : State) : State × Reply :=
  let n := fieldAt c.payload 0 1
  s.guarded ([chkLen c 4, chk (3 < n) St.range, chkZero c 1 3] ++ s.netCommon c ++ [chkR (s.getO (O.netCanMode n) == 0) St.state 0x0100]) fun s =>
    onCan c s fun n =>
      let s := if s.net.can[n].busOff then
          (s.setO (O.netCanStatus n) (bitsOf (s.getO (O.netCanStatus n)) 15 0)).raise 0x0900 (0x2000 + n) 4 else s
      (s.canStart n, .ok)

/-- NET_CLAIM; an earlier claim of the channel that is still under way ends with ST_STATE (log 96). -/
def netClaim (c : Cmd) (s : State) : State × Reply :=
  let n := fieldAt c.payload 0 1
  let a := fieldAt c.payload 1 1
  let off : Bool := s.getO (O.netCanMode n) == 0 || s.getO O.netName == 0 ||
    (List.finRange 4).any fun (k : Fin 4) => k.val == n && s.net.can[k].busOff
  s.guarded ([chkLen c 4, chk (3 < n || (253 < a && a != 0xFF)) St.range, chkZero c 2 2] ++ s.netCommon c ++ [chkR off St.state 0x0100]) fun s =>
    onCan c s fun n =>
      let s := (s.endAll (fun p => p.code == 0x0902 && p.arg == [n.val]) St.state).portFlush (canPort n)
      ((s.claimStart n (if a = 0xFF then s.getO (O.netCanAddrPref n) else a)).hold c (some 10) [n.val], .pending)

/-- The 32 bytes of a table entry (R470). -/
def entryBytes (s : State) (i : Nat) : List Byte :=
  match s.pGet i with
  | none => toLe 32 0
  | some p =>
    toLe 1 p.kind ++ toLe 1 p.flags ++ toLe 1 p.port ++ toLe 1 p.addr ++ toLe 8 p.id ++ toLe 2 p.link ++ toLe 1 p.il ++ [0] ++
      toLe 8 p.last ++ toLe 4 p.count ++ toLe 1 (if p.kind = 1 then s.partnerSessions i else 0) ++ toLe 1 p.errors ++ toLe 2 p.ipv4

/-- NET_PARTNER_READ: entries in order of index, free ones included (log 96). -/
def netPartnerRead (c : Cmd) (s : State) : State × Reply :=
  let a := fieldAt c.payload 0 2
  let n := fieldAt c.payload 2 2
  s.guarded [chkLen c 4, chk (n == 0) St.badCount, chk (6143 < a) St.range, chkLc s false false, chkIl s (some 10)] fun s =>
    let k := min (min n 127) (6144 - a)
    (s, .ok (toLe 2 (a + k) ++ [0, 0] ++ (List.range k).flatMap fun i => s.entryBytes (a + i)))

/-- NET_PARTNER_PIN. -/
def netPartnerPin (c : Cmd) (s : State) : State × Reply :=
  let i := fieldAt c.payload 0 2
  let pin := fieldAt c.payload 2 1
  let partner := match s.pGet i with
    | some p => p.kind == 1
    | none => false
  s.guarded ([chkLen c 4, chk (!partner || 1 < pin) St.range, chkZero c 3 1] ++ s.netCommon c) fun s =>
    (s.pMod i fun p => { p with flags := p.flags - (p.flags &&& 1) + pin }, .ok)

/-- NET_SEND: one PG on the ports of a mask (log 96). -/
def netSend (c : Cmd) (s : State) : State × Reply :=
  let ports := fieldAt c.payload 0 1
  let prio := fieldAt c.payload 1 1
  let pgn := fieldAt c.payload 4 4
  s.guarded ([chk (c.payload.length < 9) St.badLen, chk (ports == 0 || 7 < prio || 0x3FFFF < pgn) St.range, chkZero c 3 1] ++ s.netCommon c) fun s =>
    let t := s.hold c (some 10) [ports]
    (((List.finRange 8).filter fun p => ports.testBit p.val).foldl (fun (s : State) p =>
      s.sendPg { port := p, fmt := .classic, prio := prio, pgn := pgn, sa := s.ownAddr p, da := fieldAt c.payload 2 1,
                 data := c.payload.drop 8, who := .cmd c.host c.tag, critical := false, stamp := s.now, built := s.now, period := 0 }) t, .pending)

end State

/-! ### The rows -/

def execCanFrameReceived (n : Fin 4) (ext : Bool) (fmt : CanFormat) (id : BitVec 29) (data : List (BitVec 8)) (s : State) :
    Host.Outcome State Fault Refusal :=
  if !canFrameFits fmt ext id data.length then .fault (.illFormed "CAN_FRAME_RECEIVED")
  else .next (s.canRx n ext fmt id.toNat data).heldSync

def execPgDatagramReceived (e : Fin 4) (node : BitVec 8) (mac : BitVec 48) (ip : BitVec 32) (data : List (BitVec 8)) (s : State) :
    Host.Outcome State Fault Refusal := .next (s.datagramRx e node.toNat mac.toNat ip.toNat data).heldSync

def execCanErrorPassive (n : Fin 4) (tec rxc : BitVec 8) (s : State) : Host.Outcome State Fault Refusal :=
  .next (s.canPassive n tec.toNat rxc.toNat)

def execCanBusOff (n : Fin 4) (s : State) : Host.Outcome State Fault Refusal := .next (s.canOff n)

def execCanBusOffRecovery (n : Fin 4) (s : State) : Host.Outcome State Fault Refusal := .next (s.canRecover n)

def execClaimWaitEnd (n : Fin 4) (s : State) : Host.Outcome State Fault Refusal := .next (s.claimDone n)

def execCannotClaimDelay (n : Fin 4) (s : State) : Host.Outcome State Fault Refusal := .next (s.cannotClaim n)

def execIlAnnounce (port : Fin 8) (s : State) : Host.Outcome State Fault Refusal := .next (s.announceDue port)

def execEthLinkChange (e : Fin 4) (up : Bool) (s : State) : Host.Outcome State Fault Refusal := .next (s.ethLink e up)

def execPlcaBeaconLoss (e : Fin 2) (s : State) : Host.Outcome State Fault Refusal := .next (s.plcaLost e)

def execPlcaBeaconRegained (e : Fin 2) (s : State) : Host.Outcome State Fault Refusal := .next (s.plcaBack e)

def execPartnerTimeout (i : Nat) (s : State) : Host.Outcome State Fault Refusal := .next (s.partnerLost i)

def execTpTimeout (i : Nat) (s : State) : Host.Outcome State Fault Refusal := .next (if s.nwUp then s.tpTimeout i else s)

def execMapTxCycle (i : Fin 256) (s : State) : Host.Outcome State Fault Refusal := .next (if s.nwUp then s.mapCycle i else s)

def execMapTxExpired (i : Fin 256) (s : State) : Host.Outcome State Fault Refusal :=
  .next (if s.nwUp then s.txWithdraw fun m => m.who == .map i.val else s)

def execMapRxTimeout (i : Fin 256) (s : State) : Host.Outcome State Fault Refusal := .next (s.rxTimeout i)

def execNetTxDone (port : Fin 8) (ok : Bool) (s : State) : Host.Outcome State Fault Refusal := .next (s.txDone port ok)

def execNetCanRestart (s : State) : Host.Outcome State Fault Refusal := .next (s.runCmd 0x0901 State.netCanRestart)

def execNetClaim (s : State) : Host.Outcome State Fault Refusal := .next (s.runCmd 0x0902 State.netClaim)

def execNetPartnerRead (s : State) : Host.Outcome State Fault Refusal := .next (s.runCmd 0x0903 State.netPartnerRead)

def execNetPartnerPin (s : State) : Host.Outcome State Fault Refusal := .next (s.runCmd 0x0904 State.netPartnerPin)

def execNetSend (s : State) : Host.Outcome State Fault Refusal := .next (s.runCmd 0x0905 State.netSend)

def execArpOrIcmpEchoRequest (e : Fin 4) (icmp : Bool) (target : BitVec 32) (mac : BitVec 48) (ip : BitVec 32) (data : List (BitVec 8))
    (s : State) : Host.Outcome State Fault Refusal := .next (s.ipAnswer e icmp target.toNat mac.toNat ip.toNat data)

end Sys2Proof.Machine
end

