-- ==== Sys2Proof/Machine/Override.lean ====
section
/-! DEFINITION. The override of the safety host and the lapse of its timeout (R83 to R85). -/

namespace Sys2Proof.Machine

namespace State

/-- STOP on a group: the set-point falls to 0 at the function's stop rate, then the output stage is disabled (R83, R152, R339, R362,
R388; log 47, 55). -/
def overStop (s : State) (g : Nat) : State :=
  if h : g < 4 then s.trxStopReq ⟨g, h⟩
  else if g = 4 then s.chopBar
  else if g = 5 then s.chgStopFor [Cause.overStop]
  else if g = 6 then s.rpkOverride
  else if g = 7 then s.auxEnd 0 AuxCause.override
  else s.amcStopAll g

/-- SAFE on a machine: the SAFE state, unless it is DISABLED, SAFE or in FAULT; no rule states the cause it shows (R152; log 91). -/
def overSafeTrx (s : State) (m : Fin 4) : State :=
  if s.trxSt m = 0 ∨ s.trxSt m = 5 ∨ s.trxSt m = 6 then s
  else (s.takeFree.trxFail m 5 ((Config.freeValue s.free).toNat % 65536)).modTrx m fun t => { t with overSafe := true }

/-- SAFE on a group: its function ends, and SC forces its links (R83, R152, R339, R362, R388). -/
def overSafe (s : State) (g : Nat) : State :=
  (if h : g < 4 then s.overSafeTrx ⟨g, h⟩
   else if g = 4 then s.chopBar
   else if g = 5 then s.chgStopFor [Cause.overSafe]
   else if g = 6 then s.rpkOverride
   else if g = 7 then s.auxEnd 6 AuxCause.override
   else s.amcSafe g).applySc

/-- LIFT from a group: a machine that an override made SAFE ends in FAULT; every other function stays as it is until its owner enables
it (R84, R152; log 191). -/
def overLift (s : State) (g : Nat) : State :=
  (if h : g < 4 then
     (if s.trxSt ⟨g, h⟩ = 5 ∧ s.trx[g].overSafe = true then
        (s.modTrx ⟨g, h⟩ fun t => { t with overSafe := false }).trxSet ⟨g, h⟩ 6
      else s)
   else s).applySc

/-- The record of a group's override and the value of a LIMIT (R83, R84). -/
def setOverride (s : State) (g action value : Nat) : State :=
  let s := s.setO O.sysHostOverride (putBits (s.getO O.sysHostOverride) (2 * g + 1) (2 * g) (if action = 5 then 0 else action))
  s.modDisp fun d => { d with limits := if h : g < 4 then d.limits.set g (if action = 1 then value else 0) else d.limits }

/-- An action of the safety host takes effect (R83, R84). -/
def overApply (s : State) (action g value : Nat) : State :=
  let t := if action = 4 then s.endLease g 3
    else
      let s := s.setOverride g action value
      if action = 2 then (s.overStop g).applySc
      else if action = 3 then s.overSafe g
      else if action = 5 then s.overLift g
      else s.applySc
  (t.postActive 0x0053 (action * 256 + g)).heldSync

/-- The groups an action takes: 0 to one less. -/
def overGroups (action : Nat) : Nat := if action = 1 then 4 else if action = 4 then 14 else 10

/-- SAFETY_OVERRIDE (R83, R84). DESIGN CHOICE (log 107): of the two ST_DENIED that a host without the role that is not the safety host
either fails, the role's, without REASON, comes first; R19 does not order checks of one status. -/
def safetyOverride (c : Cmd) (s : State) : State × Reply :=
  let a := fieldAt c.payload 0 1
  let g := fieldAt c.payload 1 1
  let v := fieldAt c.payload 4 4
  s.guarded [chkLen c 8, chk (a == 0 || 5 < a || overGroups a ≤ g) St.range, chkZero c 2 2,
             chk (if a = 1 then 2 ^ 19 ≤ v else v != 0) St.range, chkLc s false false, chkRole s c 1, chkSafety s c false] fun s =>
    (s.overApply a g v, .ok)

/-- The safety host's timeout has passed without renewal: the action of `safety_watch`, once (R85). EV_HOST_LOST is raised once for
the lapse: here unless R80 has raised it, in which case the host is no longer present. -/
def safetyLapse (s : State) (h : Fin 4) : State :=
  let s := s.modDisp fun d => { d with safetyActed := true }
  let w := s.getO O.sysHostSafetyWatch
  let s := if w ≠ 0 ∧ s.hosts[h].lostSent = false then
      (if s.bitO O.sysHostPresent h then s.leaseLapse h
       else (s.modHost h fun p => { p with lostSent := true }).postActive 0x0054 h)
    else s
  if w = 2 then [0, 1, 2, 3].foldl (fun (s : State) g => s.overApply 2 g 0) s else s

/-- The host named as safety host; none for 0xFF. -/
def safetyHost (s : State) : Option (Fin 4) :=
  if h : s.getO O.sysHostSafetyHost < 4 then some ⟨s.getO O.sysHostSafetyHost, h⟩ else none

end State

/-! ### The rows -/

def execSafetyOverride (s : State) : Host.Outcome State Fault Refusal := .next (s.runCmd 0x0130 State.safetyOverride)

def execSafetyHostLapse (s : State) : Host.Outcome State Fault Refusal :=
  .next (match s.safetyHost with
    | some h =>
      if s.disp.ready = true ∧ s.disp.safetyActed = false ∧ s.disp.safetyAt + s.getO (O.sysHostLeaseTimeout h) * msTicks ≤ s.now then
        (s.safetyLapse h).heldSync
      else s
    | none => s)

end Sys2Proof.Machine
end

