-- ==== Sys2Proof/Machine/Pack.lean ====
section
/-! DEFINITION. The rows of chapter "Reserve pack and keep-alive power path". -/

namespace Sys2Proof.Machine

namespace State

/-- A hand-over to the pack starts (R397). -/
def handover (s : State) (kab held : Nat) : State :=
  let p := s.rpkPath
  if (p = 0 ∨ p = 3 ∨ p = 4) ∧ kab < 100 * s.getO O.rpkSrcVLow ∧ 10 ≤ held then
    (((s.pathTo 1).modRpk fun r => { r with opened := p != 0 })).rpkPause
  else s

/-- The timers of TO_PACK and TO_SOURCE (R397, R398). -/
def pathTimer (s : State) : State :=
  let t := s.now - s.rpk.pathAt
  if s.rpkPath = 1 then
    if s.rpk.opened = false ∧ 20 * usTicks ≤ t then s.modRpk fun r => { r with opened := true }
    else if s.rpk.opened ∧ 30 * usTicks ≤ t then
      (((s.pathTo 2).orO O.rpkFlags 0x200).modRpk fun r => { r with packAt := s.now, lowAt := none }).pathEvent
    else s
  else if s.rpkPath = 5 ∧ 20 * usTicks ≤ t then s.pathHome
  else s

/-- The debounce of a returning source ends (R398). -/
def srcDebounced (s : State) (kab held : Nat) : State :=
  if s.rpkPath = 2 ∧ s.srcInside kab ∧
      s.getO O.rpkSrcDebounce * msTicks ≤ min (held * usTicks) (s.now - s.rpk.packAt) then s.pathTo 4
  else s

/-- The qualification of a returning source passes (R398); after a cutoff the path goes straight to SOURCE (R399). -/
def srcQualified (s : State) (kab held : Nat) : State :=
  if s.rpkPath = 4 ∧ s.srcInside kab ∧ s.getO O.rpkSrcQual * msTicks ≤ min (held * usTicks) (s.now - s.rpk.pathAt) then
    if s.rpk.cut then s.pathHome else s.pathTo 5
  else s

/-- The source leaves its window (R398). -/
def srcAbsent (s : State) (kab : Nat) : State :=
  if (s.rpkPath = 3 ∨ s.rpkPath = 4) ∧ s.srcInside kab = false then s.pathTo 2 else s

/-- The pack has been below its cutoff for 1 s (R399); without VMAIN the row itself reports the second. -/
def packCutoff (s : State) : State :=
  let due := !s.pwr.vmain || (match s.rpk.lowAt with
    | some t => decide (t + sTicks ≤ s.now)
    | none => false)
  if s.rpkPath = 2 ∧ due ∧ s.rpk.cutAt = none ∧ s.rpk.cut = false then
    let mv := (roundAway (s.getQ O.rpkVPack * 1000)).toNat
    let s := (s.orO O.rpkFlags 0x100).raise 0x0612 0x7000 mv
    (s.modPwr fun p => { p with record := some (0x13, mv) }).modRpk fun r => { r with cutAt := some s.now }
  else s

/-- 100 ms after the cutoff the pack switch opens (R399). -/
def packOff (s : State) : State :=
  match s.rpk.cutAt with
  | some t => if t + 100 * msTicks ≤ s.now then s.modRpk fun r => { r with cutAt := none, cut := true } else s
  | none => s

/-- The pack has been SEEN for 2 s in MISSING (R402). -/
def packSeen (s : State) : State :=
  match s.rpk.seenAt with
  | some t => if s.rpkSt = 1 ∧ max t s.rpk.at_ + 2 * sTicks ≤ s.now then s.rpkTo 2 else s
  | none => s

/-- The probe of QUALIFY ends (R402). -/
def packQualified (s : State) : State :=
  if s.rpkSt = 2 ∧ s.rpk.at_ + sTicks ≤ s.now then
    if (8 * s.getO O.rpkCells : Nat) / 10 < s.getQ O.rpkVPack then s.rpkTo 3 else (s.orO O.rpkFlags 0x40).rpkTo 6
  else s

/-- The check of the rest voltage (R403). -/
def rechargeCheck (s : State) : State :=
  if s.rpkSt = 3 ∧ s.rpk.restAt + 600 * sTicks ≤ s.now then
    let s := s.modRpk fun r => { r with restAt := s.now }
    if s.getQ O.rpkVPack * 1000 < (s.getO O.rpkVRechg * s.getO O.rpkCells : Nat) then s.rpkAuto else s
  else s

/-- The temperature has stayed 2 K inside for 10 s (R404). -/
def rpkResume (s : State) : State :=
  match s.rpk.insideAt with
  | some t => if s.rpkSt = 5 ∧ s.rpk.window ∧ t + 10 * sTicks ≤ s.now then (s.modRpk fun r => { r with window := false }).rpkTryResume else s
  | none => s

/-- The pause after four late runs ends (R403). -/
def rpkLateEnd (s : State) : State :=
  match s.rpk.lateAt with
  | some t => if s.rpkSt = 5 ∧ t + sTicks ≤ s.now then (s.modRpk fun r => { r with lateAt := none }).rpkTryResume else s
  | none => s

/-- The second of R405: charge time, −ΔV, temperature and timeout. -/
def ndvCheck (s : State) : State :=
  if s.rpkSt = 4 ∧ s.rpk.secAt + sTicks ≤ s.now then
    let r := s.rpk
    let v := (if r.vN = 0 then s.getQ O.rpkVPack else r.vSum / (r.vN : Nat)) / (s.getO O.rpkCells : Nat)
    let on := decide (60 * s.getO O.rpkNdvBlank ≤ r.tRun + 1)
    let peak := if on then maxQ r.vPeak v else r.vPeak
    let s := (s.incSat O.rpkChgTime 0xFFFFFFFF).modRpk fun r => { r with vPeak := peak, tRun := r.tRun + 1, vSum := 0, vN := 0, secAt := s.now }
    if on && decide ((s.getO O.rpkNdv : Nat) / 1000 ≤ peak - v) then s.rpkDone 1
    else if s.getQ O.rpkTEnd ≤ s.getQ O.rpkTPack then s.rpkDone 3
    else if 60 * s.getO O.rpkTimeout ≤ s.getO O.rpkChgTime then s.rpkDone 4
    else s
  else s

/-- The ten seconds of R405: dT/dt over the last 60 s. -/
def dtdtCheck (s : State) : State :=
  if s.rpkSt = 4 ∧ s.rpk.tenAt + 10 * sTicks ≤ s.now then
    let s := s.modRpk fun r => { r with temps := (s.getQ O.rpkTPack :: r.temps).take 7, tenAt := s.now }
    match s.rpk.temps[6]? with
    | some old =>
      if 60 ≤ s.rpk.tRun ∧ (s.getO O.rpkDtdt : Nat) / 10 ≤ s.getQ O.rpkTPack - old then s.rpkDone 2 else s
    | none => s
  else s

/-- A comparator finds the pack removed (R406), also while a hand-over has just paused the charge. -/
def packRemoved (s : State) : State :=
  if s.rpkSt = 4 ∨ (s.rpkSt = 5 ∧ s.rpkPath = 1) then (s.orO O.rpkFlags 0x80).rpkTo 1 else s

/-- The window comparator of AIN90: above the removal limit it ends the on-interval in progress at once (R406). -/
def packOvervolt (s : State) (mv : Nat) : State :=
  if s.getO O.rpkVCellMax * s.getO O.rpkCells < mv then s.packRemoved.modRpk fun r => { r with ended := true } else s

/-- The comparator of AIN91 at the end of an on-interval so many nanoseconds long, in which the current reached so many milliamperes
(R406). -/
def currentLost (s : State) (ns ma : Nat) : State :=
  if 1000 ≤ ns ∧ (ma : Rat) < 50 * s.getQ O.rpkIChg then s.packRemoved else s

/-- RPK_CHARGE (R404, R408). -/
def rpkCharge (c : Cmd) (s : State) : State × Reply :=
  s.guarded (byRank ([chkLen c 0, chkLc s false false, chkRole s c 1, chkOwn s c 6, chkIl s (some 6),
              chkR (!(s.rpkSt == 3 || s.rpkSt == 6)) St.state 0x0100 s.rpkSt,
              chk (!s.packInside 0) St.thermal, chkOverride s 6 2] ++ (if s.rpkSt = 3 then s.chkAdmit [37] else []))) fun s =>
    if s.rpkSt = 3 then (s.rpkStart, .ok) else (s.rpkTo 2, .ok)

end State

def execHandoverToPack (kab held : Nat) (s : State) : Host.Outcome State Fault Refusal := .next (s.handover kab held)

def execPathSwitchTimer (s : State) : Host.Outcome State Fault Refusal := .next s.pathTimer

def execSourceDebounceEnd (kab held : Nat) (s : State) : Host.Outcome State Fault Refusal := .next (s.srcDebounced kab held)

def execSourceQualified (kab held : Nat) (s : State) : Host.Outcome State Fault Refusal := .next (s.srcQualified kab held)

def execSourceAbsent (kab : Nat) (s : State) : Host.Outcome State Fault Refusal := .next (s.srcAbsent kab)

def execPackCutoff (s : State) : Host.Outcome State Fault Refusal := .next s.packCutoff

def execPackSwitchOff (s : State) : Host.Outcome State Fault Refusal := .next s.packOff

def execPackSeen (s : State) : Host.Outcome State Fault Refusal := .next s.packSeen

def execPackQualifyEnd (s : State) : Host.Outcome State Fault Refusal := .next s.packQualified

def execRechargeCheck (s : State) : Host.Outcome State Fault Refusal := .next s.rechargeCheck

def execRpkResume (s : State) : Host.Outcome State Fault Refusal := .next s.rpkResume

def execNdvCheck (s : State) : Host.Outcome State Fault Refusal := .next s.ndvCheck

def execDtdtCheck (s : State) : Host.Outcome State Fault Refusal := .next s.dtdtCheck

def execPackOvervoltTrip (mv : Nat) (s : State) : Host.Outcome State Fault Refusal := .next (s.packOvervolt mv)

def execChargeCurrentLost (ns ma : Nat) (s : State) : Host.Outcome State Fault Refusal := .next (s.currentLost ns ma)

def execRpkCharge (s : State) : Host.Outcome State Fault Refusal := .next (s.runCmd 0x0610 State.rpkCharge)

def execRpkLatePauseEnd (s : State) : Host.Outcome State Fault Refusal := .next s.rpkLateEnd

end Sys2Proof.Machine
end

