-- ==== Sys2Proof/Machine/Planning.lean ====
section
/-! DEFINITION. The rows of the planner (chapter "Gate links and edge-timed PWM"): the start of a carrier period (R126) and
the plan cutoff (R128, R129, R582). -/

namespace Sys2Proof.Machine

namespace State

/-- CG7 follows AUX_SYNC, or runs on at its last mean period (R358, R359). -/
def syncRuns (s : State) : Bool := s.bitO O.auxFlags 10 || s.aux.hold.isSome

/-- The correction of the valley toward its place after the edge, at most 1/64 of a period (R358). -/
def syncCorrection (s : State) (c : Carrier) (p : Rat) : Rat :=
  match s.aux.edge with
  | some e =>
    if p = 0 then 0
    else
      let x := (((c.start + c.cur : Nat) : Rat) + p - e) / p - (s.getO O.auxSyncPhase : Nat) / 3600
      clampQ ((roundAway x - x) * p) (-(p / 64)) (p / 64)
  | none => 0

/-- The next period of CG7 on AUX_SYNC or in its free-run hold: the mean of the measured periods to the fine step; the fraction of a tick
is carried on (R358, R359; log 42). The model's choice: a write of `pwm.cg7.mode` while CG7 follows AUX_SYNC or its hold, where no
block of R126 runs, takes effect with the block that starts after the hold (R136; log 42). -/
def syncNext (s : State) (c : Carrier) : Carrier :=
  let locked := s.bitO O.auxFlags 10
  let p := s.aux.mean
  let fine : Rat := roundAway ((p + (if locked then s.syncCorrection c p else 0)) * 8)
  let total := fine / 8 + c.cum
  let n := roundAway total
  { c with start := c.start + c.cur, cur := c.next, next := n.toNat, valley := c.valley + 1, half := false, drawn := 256,
           cum := total - n, mode := c.nextMode, nominal := c.nextNominal, nextNominal := (roundAway p).toNat,
           cfg := { c.cfg with nominal := (roundAway p).toNat } }

/-- The links of a carrier group. -/
def cgLinks (g : Fin 8) : List (Fin 40) := (List.finRange 40).filter fun (l : Fin 40) => linkCg l.val == g.val

/-- What the start of a period means for a link: planning ends with its function's stage, periods are counted, the drive
entries may change again (R123, R131, R132, R144). The model's choice, where R131 does not say it: the link's first planned period is itself
the first of the 16 in which trims do not change (log 188). -/
def linkPeriod (s : State) (l : Fin 40) : State :=
  let s := s.modLink l fun k => { k with slewDone := 0 }
  if s.links[l].planning = false then s
  else if !s.stageOnLink l then (s.modLink l fun k => { k with planning := false, release := 0 }).sendForce l
  else if s.links[l].relAt + 4000 ≤ s.now then s.modLink l fun k => { k with periods := min (k.periods + 1) 17 }
  else s

/-- The duty of the chopper in the period that begins, after the energy of the one that ended (R301). -/
def chopPeriod (s : State) (ended : Nat) : State :=
  let t := s.chopEnergyStep ended
  t.modDcl fun d => { d with chopDuty :=
    if d.chopIn then (match kGet t.cgs[(6 : Fin 8)].last 31 with
      | some x => x.duty
      | none => 0) else 0 }

/-- A carrier period of a group begins (R126). A group starts with its first period (log 56). -/
def periodStart (s : State) (g : Fin 8) : State :=
  let c := s.cgs[g]
  if c.running = false then
    s.modCg g fun c => c.begin_ (s.cgNominal g) (s.cgDither g) (s.getO (O.pwmMode g)) (s.getO (O.pwmSeed g)) s.now
  else if s.now < c.start + c.cur then s
  else
    let s := s.modCg g fun c => if g = 7 ∧ s.syncRuns then s.syncNext c else s.cgNext g c
    let s := (cgLinks g).foldl (fun (s : State) l => s.linkPeriod l) s
    let s := if g = 6 then s.chopPeriod c.cur else s
    if g = 7 then s.auxPeriod c.cur else s

/-! ### The plan cutoff -/

/-- The window that the next plan of a group covers: start, length in ticks, and under double update which half (R128). -/
def planWindow (c : Carrier) : Nat × Nat × Option Bool :=
  if c.mode.testBit 1 ∧ c.half = false then (c.start + c.cur / 2, c.cur - c.cur / 2, some true)
  else if c.nextMode.testBit 1 then (c.start + c.cur, c.next / 2, some false)
  else (c.start + c.cur, c.next, none)

/-- The present plan window's length in ticks. -/
def windowLen (c : Carrier) : Nat :=
  if c.mode.testBit 1 then (if c.half then c.cur - c.cur / 2 else c.cur / 2) else c.cur

/-- The contexts whose consumer is the planner of a group, and the links of a context (R174, R207). -/
def cgCtxs (g : Fin 8) : List (Fin 64) :=
  if h : g.val < 4 then [⟨2 * g.val, by omega⟩, ⟨2 * g.val + 1, by omega⟩]
  else if g = 4 then [16, 17, 18] else if g = 5 then [20, 21] else if g = 6 then [] else 22 :: trimCtxs
def ctxLinks (c : Fin 64) : List (Fin 40) :=
  (List.finRange 40).filter fun (l : Fin 40) =>
    if c.val < 8 then l.val / 3 == c.val && l.val < 24
    else if c.val < 19 then l.val == c.val + 8
    else if c.val < 22 then 27 ≤ l.val && l.val < 31
    else if c.val = 22 then 32 ≤ l.val
    else l.val == c.val + 9

/-- A link takes edges of a plan whose window begins at an instant: SC holds it, or will from its RELEASE on (R42, R44, R123, R280). -/
def takesEdges (s : State) (l : Fin 40) (start : Nat) : Bool :=
  s.links[l].planning && decide (s.links[l].relAt + 4000 ≤ start) && (s.scAct l == .hold || decide (s.now ≤ s.links[l].relAt)) &&
    (s.links[l].st == .ready || s.links[l].st == .degraded)

/-- One leg of a plan; the second value lists the links that lost a pulse (R129). -/
def planOne (s : State) (g : Fin 8) (w : Nat × Nat × Option Bool) (lost : List Nat) (p : Nat × LegCmd) : State × List Nat :=
  if h : p.1 < 40 then
    let l : Fin 40 := ⟨p.1, h⟩
    if !s.takesEdges l w.1 then (s, lost)
    else
      let s := s.pruneEdges l
      let n := s.links[l].edges.length + s.legWanted g l p.2 w.1 w.2.1 w.2.2
      let t := s.planLeg g l p.2 w.1 w.2.1 w.2.2
      (t, if t.links[l].edges.length = n then lost else l.val :: lost)
  else (s, lost)

/-- The duty that a plan leaves a leg over a window (R195). -/
def legHigh (s : State) (l : Fin 40) (start len : Nat) : Rat :=
  let k := s.links[l]
  let before := (k.edges.filter fun (e : Edge) => decide (e.target < 8 * start)).getLast?
  let ahead := (k.edges.filter fun (e : Edge) => decide (8 * start ≤ e.target) && decide (e.target < 8 * (start + len))).map fun (e : Edge) =>
    (e.target, e.sw)
  let sw := match before with
    | some e => e.sw
    | none => match ahead with
      | [] => k.legSw
      | (_, n) :: _ => if n = 2 then 1 else 2
  if len = 0 then 0 else (highSteps sw (8 * start) (8 * (start + len)) ahead : Rat) / (8 * len : Nat)

/-- What a plan with dropped pulses schedules for the outputs it was asked for, as the outputs of a context (R195; log 41). -/
def scheduled (s : State) (c : Fin 64) (x : Vector Int 4) (start len : Nat) : Vector Int 4 :=
  let d := (ctxLinks c).map fun l => s.legHigh l start len
  let fs := s.outFs c
  let fr (v : Rat) : Int := if fs = 0 then 0 else s20Of (v / fs)
  match s.ctxDest c with
  | 1 =>
    let t := s.elecAngle (ctxMachine c) ⟨c.val % 2, Nat.mod_lt _ (by decide)⟩
    let v (k : Nat) : Rat := d.getD k 0 * s.dcl.vLink
    let al := (2 * v 0 - v 1 - v 2) / 3
    let be := (v 1 - v 2) / sqrtQ 3
    (x.set 0 (fr (al * cosQ t + be * sinQ t))).set 1 (fr (be * cosQ t - al * sinQ t))
  | 3 => x.set 0 (Config.scheduledShift c x[0] d)
  | _ => x.set 0 (fr (meanQ d))

/-- What the coming plan of CG7 gives C22: the mean of the duties that its phases are commanded (R195, R344; log 41). -/
def auxAsked (s : State) : Vector Int 4 :=
  let fs := s.outFs 22
  let d := meanQ (s.cgs[(7 : Fin 8)].last.map fun p => p.2.duty)
  (Vector.replicate 4 0).set 0 (if fs = 0 then 0 else s20Of (d / fs))

/-- The output that the coming window schedules for a context: what it asked for, or under a late update what the plan before ran,
less dropped pulses (R36, R195). -/
def planCtx (s : State) (start len next : Nat) (late : Bool) (lost : List Nat) (c : Fin 64) : State :=
  let x := s.ctx[c]
  let cut := (ctxLinks c).any fun l => lost.contains l.val
  let asked := if c = 22 then s.auxAsked else if late then x.planned else x.outc
  let p : Vector Int 4 := if cut then s.scheduled c asked start next else asked
  s.modCtx c fun x => { x with
    volts := Vector.ofFn fun k : Fin 4 => x.volts[k] + x.planned[k] * len, span := x.span + len, planned := p }

/-- The samples of the chopper current asked for after each turn-on of a plan (R220, R299). -/
def chopAsk (s : State) (start : Nat) : State :=
  let j := s.getO O.dclChopISrc
  if 383 < j then s
  else (s.links[(31 : Fin 40)].edges.filter fun (e : Edge) => e.sw == 1 && decide (8 * start ≤ e.target)).foldl
    (fun (s : State) e => s.injAsk j .chopper (e.target / 8 + 2 * usTicks)) s

/-- The commands of the coming plan of a group: new updates over the ones before (R36). -/
def planCmds (s : State) (g : Fin 8) (start len : Nat) : List (Nat × LegCmd) :=
  if g = 6 then (if s.dcl.chopIn then [(31, { duty := s.chopDuty len, shift := 0 })] else [])
  else if g = 7 then (s.auxCmds start len).map fun p => (p.1.val, p.2)
  else s.cgs[g].fresh.foldl (fun a p => kPut a p.1 p.2) s.cgs[g].last

/-- The plan cutoff of a group (R36, R128, R129, R195, R582). -/
def planCutoff (s : State) (g : Fin 8) : State :=
  let c := s.cgs[g]
  let w := planWindow c
  let cut := w.1 - s.getO O.pwmPlanLead
  if c.running = false ∨ s.now < cut ∨ w.1 < c.planned then s
  else
    let late := c.due.filter fun k => s.ctxOn k
    let s := if late.isEmpty then s else s.raiseLate 2 0 cut g
    let cmds := s.planCmds g w.1 w.2.1
    let s := s.modCg g fun c => { c with fresh := [], last := cmds, due := [], half := w.2.2.isSome, planned := w.1 + w.2.1 }
    let r := cmds.foldl (fun (a : State × List Nat) p => planOne a.1 g w a.2 p) (s, [])
    let s := (cgCtxs g).foldl (fun (s : State) k => s.planCtx w.1 (windowLen c) w.2.1 (late.contains k.val) r.2 k) r.1
    if g = 6 then s.chopAsk w.1 else s

end State

/-! ### The rows -/

def execCarrierPeriodStart (g : Fin 8) (s : State) : Host.Outcome State Fault Refusal := .next (s.periodStart g)

def execPlanCutoff (g : Fin 8) (s : State) : Host.Outcome State Fault Refusal := .next (s.planCutoff g)

end Sys2Proof.Machine
end

