-- ==== Sys2Proof/Machine/Pointing.lean ====
section
/-! DEFINITION. The rows of chapter "Pointing: redundant execution". -/

namespace Sys2Proof.Machine

namespace State

/-- A copy has missed the checkpoint at hand (R40, R412, R421). -/
def checkMiss (s : State) (c : Copy) : State :=
  if s.copyAway c || (s.copy c).missed then s
  else
    let n := s.getO O.ptgMisses
    let lo := bitsOf n 15 0
    let hi := bitsOf n 31 16
    let s := s.setO O.ptgMisses (match c with
      | .a => min (lo + 1) 0xFFFF + hi * 65536
      | .b => lo + min (hi + 1) 0xFFFF * 65536)
    let s := ((s.orO O.ptgFlags 4).orO O.sysLateFlags 1).modCopy c fun x => { x with missed := true, missRun := x.missRun + 1 }
    if (s.copy c).missRun = 4 then (s.modCopy c fun x => { x with safe := true }).ptgFault 2 else s

/-- The work of one copy on the word it has; a copy without one misses the checkpoint (R40, R411, R412). -/
def copyWork (s : State) (c : Copy) (w : Option SafeWord) : State :=
  if s.copyAway c || (s.copy c).missed then s
  else match w with
  | some w => s.copyRun c w
  | none => s.checkMiss c

/-- The force vector of one copy after its work: it keeps the one before where it missed the checkpoint (R412). -/
def copyVector (s : State) (c : Copy) (w : Option SafeWord) : Vector Force 40 :=
  let b := c == .b
  if s.copyAway c then s.scVector s.safeWord b
  else if (s.copy c).missed then (if b then s.forceB else s.forceA)
  else s.scVector (w.getD s.safeWord) b

/-- The work of a checkpoint (R411 to R417): both copies run their functions on the words they choose, but for one that misses it or has
left the pair; the force vectors are written, the signatures folded, and CT sends its next word (log 59, log 62). -/
def checkWork (s : State) (inp : CheckInputs) : State :=
  let s := s.modPtg fun p => { p with index := s.checkInstant / 12500 % 64 }
  let s := if s.ptg.index = 0 then s.windowBegin else s
  let runs (c : Copy) : Bool := !s.copyAway c && !(s.copy c).missed
  let s := if s.ptg.index = 0 ∧ runs .a = true then s.hvilSample 0 inp.hvilA else s
  let s := if s.ptg.index = 0 ∧ runs .b = true then s.hvilSample 1 inp.hvilB else s
  let s := if s.ptg.index = 32 then s.hvilDrive else s
  let wa := s.wordFor .a
  let wb := s.wordFor .b
  let s := (s.readWords.copyWork .a wa).copyWork .b wb
  let s := (List.finRange 4).foldl (fun (s : State) m => s.tripActs m) s
  let s := s.putForces (s.copyVector .a wa) (s.copyVector .b wb)
  let s := if s.copyAway .a then s else s.copyFold .a inp.upsetA
  let s := if s.copyAway .b then s else s.copyFold .b inp.upsetB
  let s := s.sendSafe
  if s.ptg.index = 63 then s.windowEnd else s

/-- A checkpoint, at its instant (R410). -/
def checkpoint (s : State) (inp : CheckInputs) : State := if s.atCheckpoint then s.checkWork inp else s

/-- A window matched (R418, R423 to R425, R428). -/
def windowMatch (s : State) : State :=
  let s := s.modPtg fun p => { p with lastBad := false, matches_ := p.matches_ + 1 }
  match s.getO O.ptgState with
  | 0 => (s.setO O.ptgState (if s.ptgLatched then 4 else 1)).pinsUp
  | 3 =>
    let k := s.getO O.ptgSplitCopy
    let s := (((s.setO O.ptgState 1).setO O.ptgSplitCopy 0xFF).pinsUp).raise 0x0802 0x7400 (2 * 256 + k)
    (s.endAll (fun p => p.code == 0x0802) St.ok).scImageJoined
  | 4 => if s.ptgLatched then s else (s.setO O.ptgState 1).pinsUp
  | _ => s.pinsUp

/-- The signatures of the window that has ended are compared (R418). -/
def windowCompared (s : State) : State :=
  match s.ptg.ended with
  | none => s
  | some (x, y) =>
    let s := s.modPtg fun p => { p with ended := none }
    let s := (s.incMod O.ptgWindows (2 ^ 32)).setO O.ptgLastSig (x.toNat + y.toNat * 2 ^ 64)
    if x = y then s.windowMatch
    else
      let bad := s.ptg.lastBad
      let s := s.modPtg fun p => { p with lastBad := true, matches_ := 0 }
      if bad then s.ptgFault 1
      else
        let s := (s.incSat O.ptgSoftCount 0xFFFFFFFF).orO O.ptgFlags 1
        s.raise 0x0800 0x7400 (s.getO O.ptgSoftCount)

/-- PTG_SPLIT (R426, R431, R521). -/
def ptgSplitCmd (c : Cmd) (s : State) : State × Reply :=
  let k := fieldAt c.payload 0 1
  let img := fieldAt c.payload 1 1 == 1
  s.guarded [chkLen c 4, chk (1 < k || 1 < fieldAt c.payload 1 1) St.range, chkZero c 2 2, chkLc s false false, chkRole s c 2,
             chkSafety s c true, chkOwn s c 13, chkOwn? s c (if img then some 11 else none), chkIl s (some 13),
             chkR (s.getO O.ptgState != 1) St.state 0x0100,
             chkR (img && s.getO (O.updState 1) != 2 && s.getO (O.updState 1) != 4) St.state 0x01BA,
             chkR (s.ptg.cfg[2] == 0 && (List.finRange 4).any fun (m : Fin 4) => s.trxSt m == 3) St.refused 0x0171] fun s =>
    ((s.modPtg fun p => { p with splitReq := some k, image := img }).hold c (some 13) [k] true (if img then [11] else []), .pending)

/-- PTG_JOIN (R428, R431). -/
def ptgJoinCmd (c : Cmd) (s : State) : State × Reply :=
  s.guarded [chkLen c 0, chkLc s false false, chkRole s c 2, chkOwn s c 13, chkIl s (some 13),
             chkR (s.getO O.ptgState != 2) St.state 0x0100] fun s =>
    ((s.modPtg fun p => { p with joinReq := true, joinCmd := p.joinCmd || !p.joinReq }).hold c (some 13) [] true, .pending)

/-- PTG_CLEAR (R423, R431). -/
def ptgClearCmd (c : Cmd) (s : State) : State × Reply :=
  s.guarded [chkLen c 0, chkLc s false false, chkRole s c 1, chkSafety s c false, chkIl s (some 13),
             chkR (decide (s.ptg.matches_ < 16)) St.state 0x0170] fun s =>
    (((s.setO O.ptgFaultCause 0).safeEnds [0x30]).applySc, .ok)

end State

/-! ### The rows -/

def execCheckpoint (inp : CheckInputs) (s : State) : Host.Outcome State Fault Refusal := .next (s.checkpoint inp)

def execCheckpointMiss (copy : Fin 2) (s : State) : Host.Outcome State Fault Refusal :=
  .next (s.checkMiss (if copy = 0 then .a else .b))

def execWindowCompare (s : State) : Host.Outcome State Fault Refusal := .next s.windowCompared

def execPtgSplit (s : State) : Host.Outcome State Fault Refusal := .next (s.runCmd 0x0801 State.ptgSplitCmd)

def execPtgJoin (s : State) : Host.Outcome State Fault Refusal := .next (s.runCmd 0x0802 State.ptgJoinCmd)

def execPtgClear (s : State) : Host.Outcome State Fault Refusal := .next (s.runCmd 0x0803 State.ptgClearCmd)

def execSplitMaxExpiry (s : State) : Host.Outcome State Fault Refusal :=
  .next (if s.getO O.ptgState = 2 ∧ s.ptg.splitAt + s.ptg.cfg[1] * msTicks ≤ s.now then
    s.modPtg fun p => { p with joinReq := true, joinCmd := false } else s)

end Sys2Proof.Machine
end

