-- ==== Sys2Proof/Machine/Position.lean ====
section
/-! DEFINITION. The rows of chapter "Position and speed feedback". -/

namespace Sys2Proof.Machine

namespace State

/-- The checks that every position command shares after its own range checks (R265, R486, R489, R517). -/
def posChecks (s : State) (c : Cmd) (g : Option Nat) (role : Nat) : List Chk :=
  [chkLc s false false, chkRole s c role, chkOwn? s c g, chkIl s g]

/-- POS_CLEAR (R260, R265). -/
def posClear (c : Cmd) (s : State) : State × Reply :=
  let n := fieldAt c.payload 0 1
  let angle := fieldAt c.payload 2 2
  s.guarded ([chkLen c 4, chk (3 < n) St.range, chkZero c 1 1] ++ s.posChecks c (s.portGroup n) 2) fun s =>
    if h : n < 4 then
      let p : Fin 4 := ⟨n, h⟩
      if s.getO (O.posMode p) ≠ 2 ∨ (s.pos[p].st ≠ 2 ∧ s.pos[p].st ≠ 4) then (s, .err St.state 0x0101)
      else if (List.range 4).any fun m => s.getO (O.trxState m) == 3 && s.getO (O.trxPosPort m) == n && s.getO (O.trxAngleSrc m) == 0 then
        (s, .err St.refused 0x0102)
      else
        let cpr := s.posCpr p
        let cnt := roundAway ((angle * cpr : Nat) / (65536 : Rat)) % (cpr : Int)
        (s.modPos p fun x => { x.load cnt with
          st := 1, refd := true, idxErr := 0, spd := 0, speed := 0, spdOk := true, reason := 0 }, .ok)
    else (s, .bare St.range)

/-- POS_PROBE_ARM (R262, R265). -/
def posProbeArm (c : Cmd) (s : State) : State × Reply :=
  let n := fieldAt c.payload 0 1
  s.guarded ([chkLen c 4, chk (3 < n) St.range, chkZero c 1 3] ++ s.posChecks c (s.portGroup (s.probePort n)) 1 ++
    [chk (bitsOf (s.getO (O.posPrbCfg n)) 7 6 == 0) St.state]) fun s =>
    if n < 4 then (s.orO (O.posPrbStatus n) 0x80, .ok) else (s, .bare St.range)

/-- POS_PROBE_READ (R262, R265). -/
def posProbeRead (c : Cmd) (s : State) : State × Reply :=
  let n := fieldAt c.payload 0 1
  s.guarded ([chkLen c 4, chk (3 < n) St.range, chkZero c 1 3] ++ s.posChecks c (s.portGroup (s.probePort n)) 1) fun s =>
    if h : n < 4 then
      let q := s.prb[(⟨n, h⟩ : Fin 4)]
      let s : State := { s with prb := s.prb.set (⟨n, h⟩ : Fin 4) [] }
      (s.clrO (O.posPrbStatus n) 0x1C, .ok (toLe 1 q.length ++ [0, 0, 0] ++ q.flatMap latchBytes))
    else (s, .bare St.range)

/-- The speed of a resolver port at a sample: the loop's velocity (R254). -/
def rdcSample (s : State) (p : Fin 4) : State :=
  s.modPos p fun x => { x with
    speed := x.vel * 48000000000 / (max 1 (s.getO (O.posRes p)) : Nat), spdOk := x.refd,
    dir := if x.vel < 0 then -1 else if 0 < x.vel then 1 else x.dir }

/-- The sampling instant of a port (R246, R252, R258). -/
def posFire (s : State) (p : Fin 4) : State :=
  let m := s.getO (O.posMode p)
  if m = 0 then s
  else
    let s := s.portFault p
    let s := if m = 1 then s.rdcSample p
      else if m = 2 ∨ m = 3 then s.modPos p fun x => x.atSample s.now (8000 * s.getO (O.posStandstill p)) else s
    if m = 4 then s.modPos p fun x => { x with ssiAt := some s.now } else (s.sendPos p s.now).arrive

/-- A trigger reaches a port: it samples at the first CV clock at or after the target; one that comes after is not fired (R32, R33,
R246). -/
def posSample (s : State) (p : Fin 4) : State :=
  match s.gridLast (s.getO (O.posTrigger p)) with
  | none => s
  | some t =>
    if t < s.pos[p].trigNext ∨ s.now < cvAt t then s
    else
      let s := s.modPos p fun x => { x with trigNext := t + 1 }
      if s.now = cvAt t then s.posFire p else s

/-- One excitation period of a resolver, from peak to peak (R254). -/
def resolverPeriod (s : State) (p : Fin 4) (sinQ cosQ : BitVec 16) : State :=
  if s.getO (O.posMode p) ≠ 1 ∨ s.now < s.pos[p].excAt + 800000000 / max 1 s.pos[p].exc.1 then s
  else
    let q := sinQ.toInt * sinQ.toInt + cosQ.toInt * cosQ.toInt
    let los := decide (q < 8192 * 8192) || decide (361 * (32768 * 32768) < 400 * q)
    let e := s.pos[p].trackError (Config.resolverAngle sinQ.toInt cosQ.toInt) s.now
    let lot := decide (5 / 360 < absQ e)
    let s := s.modPos p fun x => x.track (s.getO (O.posRdcBw p)) s.now e
    if los || lot then
      let s := s.modPos p fun x => { x with
        badRun := x.badRun + 1, okRun := 0, sticky := x.sticky ||| ((if los then 0x10 else 0) + (if lot then 8 else 0)) }
      if s.getO (O.posFaultCnt p) ≤ s.pos[p].badRun then s.portCrit p (if los then 3 else 4) else s
    else s.modPos p fun x => { x with badRun := 0, okRun := x.okRun + 1, refd := x.refd || decide (8 ≤ x.okRun + 1) }

/-- An SSI frame read (R256). -/
def ssiDone (s : State) (p : Fin 4) (bits : BitVec 33) (idleHigh : Bool) : State :=
  match s.pos[p].ssiAt with
  | none => s
  | some t =>
    if s.getO (O.posMode p) ≠ 4 then s
    else
      let w := s.getO (O.posSsiCfg p)
      let n := bitsOf w 23 16
      let pb := bitsOf w 15 8
      let v := if bitOf w 6 then bits.toNat / 2 else bits.toNat
      let ones := ((List.range 33).filter fun i => bits.getLsbD i).length
      let field := bitsOf v (n - 1) 0 / 2 ^ (n - pb)
      let pos := if bitOf w 7 then fromGray pb field else field
      let s := s.modPos p fun x => { x with ssiAt := none }
      let s := if (bitOf w 6 && ones % 2 == 1) || !idleHigh then s.frameBad p else s.frameGood p (to16 pb pos % 65536) t
      (s.sendPos p t).arrive

/-- A SENT frame received, with or without a pause pulse before it, as `sent_cfg` has it or else malformed (R257; log 193). -/
def sentFrame (s : State) (p : Fin 4) (pause : Bool) (sync : Nat) (status : BitVec 4) (nibbles : List (BitVec 4)) (crc : BitVec 4) : State :=
  if s.getO (O.posMode p) ≠ 5 then s
  else
    let w := s.getO (O.posSentCfg p)
    let nom := 5600 * bitsOf w 31 24
    let near := decide (3 * nom ≤ 4 * sync) && decide (4 * sync ≤ 5 * nom)
    let same := match s.pos[p].sync with
      | some o => decide (64 * (max o sync - min o sync) ≤ o)
      | none => true
    let good := near && same && pause == bitOf w 14 && nibbles.length == bitsOf w 23 20 && sentCrc (bitOf w 15) nibbles == crc
    let s := s.modPos p fun x => { x with sync := some sync }
    if good then
      let len := 56 + ((status :: crc :: nibbles).foldl (fun a n => a + 12 + n.toNat) 0)
      let at_ := s.now - 4 * sync * len / 56
      let k := bitsOf w 19 16
      let v := (nibbles.take k).foldl (fun a n => 16 * a + n.toNat) 0
      let s := (s.frameGood p (to16 (4 * k) v) at_).modPos p fun x => { x with
        slow := ((status.getLsbD 3, status.getLsbD 2) :: x.slow).take 18 }
      match slowMessage (bitsOf w 13 12) s.pos[p].slow with
      | some m => (s.setO (O.posSlow p) (m.1 + m.2 * 2 ^ 32)).modPos p fun x => { x with slow := [] }
      | none => s
    else s.frameBad p

/-- A millisecond without a valid SENT frame (R257). -/
def sentStale (s : State) (p : Fin 4) : State :=
  let x := s.pos[p]
  let from_ := match x.frame with
    | some f => f.2
    | none => x.tEdge
  if s.getO (O.posMode p) = 5 ∧ from_ + (x.noFrameMs + 1) * msTicks ≤ s.now then
    let s := s.modPos p fun x => { x with noFrameMs := x.noFrameMs + 1 }
    if s.getO (O.posFaultCnt p) ≤ x.noFrameMs + 1 then s.portCrit p 6 else s
  else s

/-- A faulty port recovers; speed state and frame history restart, what it has counted stays (R259). -/
def portRecover (s : State) (p : Fin 4) : State :=
  if s.pos[p].st = 2 ∧ s.pos[p].metAt + s.getO (O.posRecover p) * msTicks ≤ s.now then
    let s := if s.getO (O.posMode p) = 2 then
        s.modPos p fun x => { x with refd := false, idxErr := 0, st := if s.bitO (O.posZcfg p) 0 then 3 else 4 }
      else s.modPos p fun x => { x with
        st := 1, spd := 0, speed := 0, spdOk := false, reason := 1, frame := none, frameBad := 0, noFrameMs := 0, sync := none, slow := [],
        tEdge := if 4 ≤ s.getO (O.posMode p) then s.now else x.tEdge }
    s.raise 0x0511 (0x5000 + 0x40 * p) (s.pos[p].st * 256 + p)
  else s

/-- A filtered probe edge (R261, R262). -/
def probeEdge (s : State) (n : Fin 4) (rising : Bool) : State :=
  let e := bitsOf (s.getO (O.posPrbCfg n)) 7 6
  if s.bitO (O.posPrbStatus n) 7 ∧ (if rising then e.testBit 0 else e.testBit 1) then
    let p : Fin 4 := ⟨s.probePort n % 4, Nat.mod_lt _ (by decide)⟩
    let back := 4 * s.getO (O.pinFilter (11 + n))
    let stamp := s.followerStamp .cv - BitVec.ofNat 64 back
    let m := s.getO (O.posMode p)
    s.probeLatch n { stamp, count := s.posCountNow p, angle := s.posAngleAt p (if m = 4 ∨ m = 5 then s.now - back else s.now), rising }
  else s

end State

/-! ### The rows -/

def execQuadratureChange (p : Fin 4) (a b : Bool) (s : State) : Host.Outcome State Fault Refusal :=
  .next (if s.getO (O.posMode p) = 2 then s.quadChange p a b else s)

def execIndexEdge (p : Fin 4) (s : State) : Host.Outcome State Fault Refusal :=
  .next (if s.getO (O.posMode p) = 2 then s.indexEdge p else s)

def execHallChange (p : Fin 4) (h : BitVec 3) (s : State) : Host.Outcome State Fault Refusal :=
  .next (if s.getO (O.posMode p) = 3 then s.hallChange p h else s)

def execPositionSample (p : Fin 4) (s : State) : Host.Outcome State Fault Refusal := .next (s.posSample p)

def execStandstillTimeout (p : Fin 4) (s : State) : Host.Outcome State Fault Refusal :=
  .next (if (s.getO (O.posMode p) = 2 ∨ s.getO (O.posMode p) = 3) ∧ s.pos[p].tEdge + 8000 * s.getO (O.posStandstill p) ≤ s.now then
    s.modPos p fun x => { x with spd := 0, speed := 0, spdOk := true, reason := 0 } else s)

def execResolverPeriod (p : Fin 4) (sinQ cosQ : BitVec 16) (s : State) : Host.Outcome State Fault Refusal :=
  .next (s.resolverPeriod p sinQ cosQ)

def execSsiFrameDone (p : Fin 4) (bits : BitVec 33) (idleHigh : Bool) (s : State) : Host.Outcome State Fault Refusal :=
  .next (s.ssiDone p bits idleHigh)

def execSentFrameReceived (p : Fin 4) (pause : Bool) (sync : Nat) (status : BitVec 4) (nibbles : List (BitVec 4)) (crc : BitVec 4)
    (s : State) : Host.Outcome State Fault Refusal := .next (s.sentFrame p pause sync status nibbles crc)

def execSentStale (p : Fin 4) (s : State) : Host.Outcome State Fault Refusal := .next (s.sentStale p)

def execPortRecover (p : Fin 4) (s : State) : Host.Outcome State Fault Refusal := .next (s.portRecover p)

def execPosClear (s : State) : Host.Outcome State Fault Refusal := .next (s.runCmd 0x0510 State.posClear)

def execPosProbeArm (s : State) : Host.Outcome State Fault Refusal := .next (s.runCmd 0x0511 State.posProbeArm)

def execPosProbeRead (s : State) : Host.Outcome State Fault Refusal := .next (s.runCmd 0x0512 State.posProbeRead)

def execProbeEdge (n : Fin 4) (rising : Bool) (s : State) : Host.Outcome State Fault Refusal := .next (s.probeEdge n rising)

end Sys2Proof.Machine
end

