-- ==== Sys2Proof/Machine/Results.lean ====
section
/-! DEFINITION. The rows that bring a conversion's result to its consumers (R214, R221 to R229): charger, auxiliary
converter, reserve pack, temperature channels, chopper, pilot and proximity. -/

namespace Sys2Proof.Machine

namespace State

/-- A result that reached CT is taken by the runs that wait for it and judged by the functions that watch it. -/
def delivered (s : State) (old : Option Nat) (j : Nat) : State :=
  if kGet s.adc.ct j = old then s else ((((s.chgSample j).auxMeasure j).rpkMeasure j).ntcMeasure j).arrive

/-- A regular conversion completes, `uV` at its input when it was sampled (R209, R214, R217, R218, R222 to R229). -/
def conversionDone (s : State) (k : Fin 12) (uV : Int) : State :=
  let a := s.adc.conv[k]
  match a.todo with
  | [] => s
  | c :: rest =>
    let t := a.convEnds c
    if s.adcSt k ≠ 2 ∨ s.now < t then s
    else
      let at_ := a.sampledAt c
      let old := kGet s.adc.ct c.res
      let code := rawCode (s.gainAt (16 * (k.val / 2) + bitsOf c.entry 3 0) at_) uV
      let s := (((s.modConv k fun a => { a with todo := rest, entryAt := t }).convert k c code at_)).delivered old c.res
      if rest.isEmpty then
        (((s.incMod (O.adcPasses k) (2 ^ 32)).modConv k fun a => { a with injRun := false, old := [] }).adcRest k t).coverTry k
          |>.coverTry (partner k)
      else if s.adc.conv[k].queue.isEmpty then s
      else (s.modConv k fun a => { a with injRun := true }).adcRest k t

/-- The chopper current after a turn-on (R299). -/
def chopCurrent (s : State) (word : Nat) : State :=
  if word.testBit 31 && decide (toSigned 20 (bitsOf word 19 0) < s20Int (s.getO O.dclChopIMin)) then s.chopFault 1 else s

/-- An injected result goes to its requester (R221). -/
def injTell (s : State) (r : InjReq) (word at_ : Nat) : State :=
  match r.who with
  | .host => (match r.cmd with
    | some c => s.respond c (.ok (toLe 4 word ++ toLe 8 at_))
    | none => s)
  | .chopper => s.chopCurrent word
  | .pilotHigh => s.pilotLevel false word
  | .pilotLow => s.pilotLevel true word
  | .proximity => s.proximityLevel word

/-- An injected result crosses on channel 0. Dropped on a full channel, a function goes without it and a host's command ends with
ST_BUSY (R30, R222; log 111). -/
def injSend (s : State) (r : InjReq) (word at_ : Nat) : State :=
  if s.xingFull 0 then
    let s := s.xingDrop 0
    match r.cmd with
    | some c => s.respond c (.bare St.busy)
    | none => s
  else s.xingSend 0 fun s => s.injTell r word at_

/-- An injected conversion completes, `uV` at its input when it was sampled (R209, R218, R221, R227, R230). -/
def injectDone (s : State) (k : Fin 12) (uV : Int) : State :=
  match s.adc.conv[k].queue with
  | [] => s
  | r :: rest =>
    let at_ := s.injSampled k r
    if s.adcSt k ≠ 3 ∨ s.now < at_ + 128 then s
    else
      let code := rawCode (s.gainAt (s.injInput k r) at_) uV
      let w := s.injWord k r code at_
      let s := ((s.gainUse (s.injInput k r) at_).overrange k r.res code).modConv k fun a => { a with queue := rest }
      ((((s.showFree k).adcRest k (at_ + 128)).coverTry k).coverTry (partner k)).injSend r w at_

end State

/-! ### The rows -/

def execAdcConversionDone (k : Fin 12) (uV : Int) (s : State) : Host.Outcome State Fault Refusal := .next (s.conversionDone k uV)

def execInjectedResult (k : Fin 12) (uV : Int) (s : State) : Host.Outcome State Fault Refusal := .next (s.injectDone k uV)

end Sys2Proof.Machine
end

