-- ==== Sys2Proof/Machine/Security.lean ====
section
/-! DEFINITION. The rows of chapter "Roles, life cycle and security": sessions and tokens, life-cycle steps, maker keys,
attestation, the staging of Tetas bundles, the audit log. -/

namespace Sys2Proof.Machine

namespace State

/-- The state with security changed. -/
def modSec (s : State) (f : Sec → Sec) : State := { s with sec := f s.sec }

/-- The newest maker key that is not revoked (R492, R494). -/
def makerKey (s : State) : Option (List Byte) := s.sec.makerKeys.getLast?

/-- SESSION_OPEN from a host with four ST_DENIED within 60 s waits until 60 s after the last (R483). -/
def sessionLocked (s : State) (h : Fin 4) : Bool :=
  match s.sec.failAt[h] with
  | a :: _ :: _ :: d :: _ => a - d ≤ 60 * sTicks && s.now < a + 60 * sTicks
  | _ => false

/-- A session opened at a role, with EV_SEC_SESSION and an audit record (R483, R503). -/
def openSession (s : State) (h role ref : Nat) : State :=
  ((s.setSession h role).raise 0x0A00 0x1800 (1 * 65536 + role * 256 + h)).audit 2 h role 0 0 0 0 ref

/-- SESSION_OPEN (R483). -/
def sessionOpen (c : Cmd) (s : State) : State × Reply :=
  let role := fieldAt c.payload 0 1
  let h := c.host
  let vendor := s.lc == 0
  let free := role == 1 || (role == 3 && vendor && h == 0)
  let len := c.payload.length
  s.guarded [chk (if role = 0 ∨ 3 < role then len != 4 && len != 2860 else len != (if free then 4 else 2860)) St.badLen,
             chk (role == 0 || 3 < role) St.range, chkZero c 1 3,
             chkR ((vendor && role != 1 && !free) || (s.lc == 4 && role != 1)) St.locked 0x01A8 s.lc,
             chkIl s none, chk s.auditFull St.thermal,
             chk (s.sessionLocked h || (!free && (s.seBusy || s.sec.verify[h].isSome))) St.busy] fun s =>
    if free then (s.openSession h role 0, .ok)
    else
      ((s.modSec fun x => { x with verify := x.verify.set h (some (role, c.payload.drop 4)) }).hold c none [], .pending)

/-- The REASON with which a token fails, by the order of R483; none where it passes. -/
def tokenReason (s : State) (h : Fin 4) (role : Nat) (tok : List Byte) : Option Nat :=
  let hd := tok.take 36
  let dev := fieldAt hd 8 8
  let ok := match s.makerKey with
    | some key => Config.xmssVerify key hd (tok.drop 36)
    | none => false
  if !ok then some 0x01A0
  else if fieldAt hd 0 2 ≠ 0x7E7B ∨ fieldAt hd 2 1 ≠ 1 ∨ (fieldAt hd 3 1 ≠ 2 ∧ fieldAt hd 3 1 ≠ 3) ∨
      fieldAt hd 18 18 ≠ 0 ∨ 15 < fieldAt hd 17 1 ∨ (fieldAt hd 3 1 = 3 ∧ dev = 0) then some 0x01A6
  else if dev ≠ 0 ∧ dev ≠ s.getO O.secDeviceId then some 0x01A1
  else if fieldAt hd 4 4 < s.getO O.secTokenFloor then some 0x01A2
  else if (fieldAt hd 16 1).testBit s.lc = false then some 0x01A3
  else if (fieldAt hd 17 1).testBit h = false then some 0x01A4
  else if fieldAt hd 3 1 ≠ role then some 0x01A5
  else none

/-- SE has verified the token of a host: the session opens, or the opening fails and the session before stays (R483). -/
def tokenDone (s : State) (h : Fin 4) : State :=
  match s.sec.verify[h] with
  | none => s
  | some (role, tok) =>
    let s := s.modSec fun x => { x with verify := x.verify.set h none }
    let mine (p : Held) : Bool := p.code == 0x0120 && p.host == h
    match s.tokenReason h role tok with
    | none => (s.openSession h role (fieldAt tok 4 4)).endAll mine St.ok
    | some r =>
      let s := s.modSec fun x => { x with failAt := x.failAt.set h ((s.now :: x.failAt[h]).take 4) }
      let s := s.raise 0x0A00 0x1800 (3 * 65536 + role * 256 + h)
      (s.audit 3 h role 0 St.denied 0 0 (fieldAt tok 4 4)).endAll mine St.denied (some (r, 0))

/-- SESSION_CLOSE (R485). -/
def sessionClose (c : Cmd) (s : State) : State × Reply :=
  s.guarded [chkLen c 0, chkIl s none, chk s.auditFull St.thermal] fun s => (s.endSession c.host 2, .ok)

/-! ### Life cycle (R488 to R492) -/

/-- The allowed steps (R490). -/
def lcAllowed (lc t : Nat) : Bool :=
  (lc == 0 && t == 1) || (lc == 1 && t == 2) || (lc == 2 && t == 3) || (lc == 3 && t == 2) ||
    (t == 4 && (lc == 1 || lc == 2 || lc == 3))

/-- The role a step needs (R490). -/
def lcRole (lc t : Nat) : Nat := if (lc == 2 && t == 3) || (lc == 3 && t == 2) then 2 else 3

/-- Every machine is DISABLED and the charger IDLE (R491). -/
def atRest (s : State) : Bool :=
  (List.range 4).all (fun m => s.getO (O.trxState m) == 0) && s.getO O.chgState == 0

/-- SEC_LC_STEP (R490, R491): audit record, wipe of the Mordant store, every session closed; the fuse follows. -/
def secLcStep (c : Cmd) (s : State) : State × Reply :=
  let t := fieldAt c.payload 0 1
  let lc := s.lc
  s.guarded [chk (c.payload.length != (if lc = 0 ∧ t = 1 then 72 else 4)) St.badLen, chk (!lcAllowed lc t) St.range,
             chkZero c 1 3, chkLc s false false,
             chkR (s.roleFor c < lcRole lc t || (lc == 0 && c.host != 0)) St.denied 0x01AD (lcRole lc t),
             chkIl s none true, chkR (!s.atRest) St.state 0x0100, chk s.auditFull St.thermal,
             chk (s.sec.lcStep.isSome || s.seBusy) St.busy] fun s =>
    let s := (s.audit 5 c.host (s.roleFor c) 0 0 lc t t).mordantWipe 2
    let s := (List.range 4).foldl (fun s h => s.endSession h 2) s
    ((s.modSec fun x => { x with lcStep := some { target := t, key := c.payload.drop 4 } }).hold c none [], .pending)

/-- Class N objects back to their values after cold reset, but for the audit log, `sec.id_pub` and the tamper record
(R490). -/
def clearN (s : State) : State :=
  let kept (id : Nat) : Bool := id == 0x1805 || id == 0x180C || (0x1820 ≤ id && id ≤ 0x1822)
  let isN (id : Nat) : Bool := match s.rowOf id with
    | some (r, _) => r.ret == .n
    | none => false
  { s with objs := s.objs.filter fun p => !(isN p.1) || kept p.1, flash := s.flash.filter fun p => kept p.1, dirty := [] }

/-- The fuse or flag is programmed and the step takes effect (R490, R491, R498). -/
def lcStepDone (s : State) : State :=
  match s.sec.lcStep with
  | none => s
  | some st =>
    let old := s.lc
    let s := s.modSec fun x => { x with lcStep := none }
    let s := s.when (st.target == 4) fun s =>
      s.clearN.modSec fun x => { x with bundle := [], makerDefs := [], deriveBlocked := true }
    let s := s.when (st.target == 1) fun s => s.modSec fun x => { x with makerKeys := [st.key] }
    let s := (s.setO O.secLc st.target).attRenew
    (s.raise 0x0A01 0x1800 (st.target * 256 + old)).endAll (fun p => p.code == 0x0A01) St.ok

/-- SEC_MAKER_KEY (R492). -/
def secMakerKey (c : Cmd) (s : State) : State × Reply :=
  s.guarded [chkLen c 68, chkLc s false false, chkRole s c 3, chkIl s none true, chk s.auditFull St.thermal,
             chk s.seBusy St.busy, chkR (4 ≤ s.sec.makerKeys.length) St.refused 0x01A9] fun s =>
    ((s.modSec fun x => { x with makerKeys := x.makerKeys ++ [c.payload] }).audit 10 c.host (s.roleFor c) 0 0 0 0
      s.sec.makerKeys.length, .ok)

/-! ### Attestation (R496 to R499) -/

/-- SEC_ATTEST (R499). -/
def secAttest (c : Cmd) (s : State) : State × Reply :=
  s.guarded [chkLen c 32, chkIl s none true, chk (s.getO O.secAttNext == s.sec.attRes && !s.flashOk) St.thermal,
             chkR (s.idExhausted && 2 ^ 20 ≤ s.getO O.secAttNext) St.fault 0x01AA, chk s.mordantFailed St.fault,
             chk (!s.sec.keysReady || s.sec.attest.isSome || s.seBusy) St.busy] fun s =>
    ((s.modSec fun x => { x with attest := some c.payload }).hold c none [c.slot.val], .pending)

/-- The attestation report (R499). -/
def report (s : State) (nonce : List Byte) : List Byte :=
  let flags := (if s.sec.tamperUnack then 1 else 0) + (if s.getO O.ptgFaultCause = 0 then 0 else 2) +
    (if s.bitO O.thmTripLatch 31 then 4 else 0) + (if s.mordantFailed then 8 else 0)
  toLe 1 1 ++ toLe 1 s.lc ++ toLe 2 flags ++ toLe 4 (s.getO O.secAttEpoch) ++ toLe 8 (s.getO O.secDeviceId) ++ nonce ++
  toLe 8 (s.followerStamp .se).toNat ++
  (s.upd.toList.flatMap fun u => toLe 1 u.running.il ++ toLe 1 u.running.major ++ toLe 1 u.running.minor ++
    toLe 1 u.running.patch ++ toLe 32 (leNat u.running.digest)) ++
  toLe 4 (s.getO O.secTetasSerial) ++ (if s.sec.bundle = [] then toLe 32 0 else Config.shake256 s.sec.bundle 32) ++
  toLe 4 (s.getO O.logHead) ++ toLe 16 (s.getO O.logChain) ++ toLe 24 0

/-- The report is signed: a new block of leaves first where the index equals the reservation (R497), then the response
in the slot and the end of the command (R499); at the last leaf the key is renewed (R498). -/
def attestDone (s : State) : State :=
  match s.sec.attest with
  | none => s
  | some nonce =>
    let i := s.getO O.secAttNext
    let s := s.modSec fun x => { x with attest := none }
    if i = s.sec.attRes ∧ s.flashOk = false then s.endAll (fun p => p.code == 0x0A02) St.thermal
    else
      let s := s.when (i == s.sec.attRes) fun s => s.modSec fun x => { x with attRes := i + 64, attMirror := i + 64 }
      let r := s.report nonce
      let pl := r ++ Config.xmssSign true s.lc (s.getO O.secAttEpoch) i r
      let s := s.setO O.secAttNext (i + 1)
      let s : State := (s.disp.held.filter fun p => p.code == 0x0A02 && !p.orphan).foldl (fun s p =>
        match p.arg with
        | k :: _ => if hk : k < 8 then
            (if s.hosts[p.host].slots[k].st = .done then
              s.writeResponse p.host ⟨k, hk⟩ (respFrame p.code p.tag (.ok pl)) else s) else s
        | [] => s) s
      let s := s.endAll (fun p => p.code == 0x0A02) St.ok
      s.when (i + 1 == 2 ^ 20) fun s =>
        if s.idExhausted then s.keyEvent (s.getO O.secAttEpoch) 4 else s.attRenew

/-- SEC_GET_CERT (R499). -/
def secGetCert (c : Cmd) (s : State) : State × Reply :=
  let key := toLe 68 (s.getO O.secAttPub)
  let msg := toLe 8 (s.getO O.secDeviceId) ++ toLe 4 (s.getO O.secAttEpoch) ++ key
  s.guarded [chkLen c 0, chkIl s none true, chk s.mordantFailed St.fault, chk (!s.sec.keysReady || s.seBusy) St.busy] fun s =>
    (s, .ok (key ++ toLe 4 (s.getO O.secAttEpoch) ++ Config.xmssSign false 0 0 s.sec.certLeaf msg))

/-- A new attestation key waits for a leaf of the identity key that needs a new block, outside the window of R440 (R497). -/
def certWaits (s : State) : Bool := s.sec.keyNew && !s.idExhausted && s.getO O.secIdNext == s.sec.idRes && !s.flashOk

/-- The count of leaves at which 65,536 of the identity key remain (R498). -/
def idLow : Nat := 2 ^ 20 - 65536

/-- SE finishes deriving the seeds (R496); a new attestation key is certified with a leaf of the identity key (R497, R498). The
identity key is low when its next leaf reaches the mark by a certificate or by a restart that skips leaves. A key that no leaf is
left to certify signs nothing: it counts as exhausted (R498; log 202). -/
def keyDerived (s : State) : State :=
  if s.sec.keysReady || s.sec.deriveBlocked || s.mordantFailed || !s.pwr.boot.isEmpty || s.certWaits then s
  else
    let s := (s.modSec fun x => { x with keysReady := true }).setO O.secAttPub
      (Config.attPub s.lc (s.getO O.secAttEpoch)).toNat
    if s.sec.keyNew then
      let i := s.getO O.secIdNext
      let leaf := s.sec.certLeaf
      if s.idExhausted then
        ((s.modSec fun x => { x with keyNew := false }).setO O.secAttNext (2 ^ 20)).keyEvent (s.getO O.secAttEpoch) 4
      else
        let s := s.when (i == s.sec.idRes) fun s => s.modSec fun x => { x with idRes := i + 64, idMirror := i + 64 }
        let s := (s.setO O.secIdNext (i + 1)).modSec fun x => { x with keyNew := false, certLeaf := i }
        let s := s.when (s.getO O.secAttEpoch != 0) fun s =>
          s.keyEvent (s.getO O.secAttEpoch) 2
        s.when (i + 1 == idLow || (i == idLow && leaf + 1 != idLow)) fun s => s.keyEvent (s.getO O.secAttEpoch) 3
    else s

/-! ### Tetas bundles and the log -/

/-- TETAS_STAGE (R501). -/
def tetasStage (c : Cmd) (s : State) : State × Reply :=
  let off := fieldAt c.payload 0 4
  let data := c.payload.drop 4
  s.guarded [chk (c.payload.length < 5 || 4092 < c.payload.length) St.badLen, chk (65536 < off + data.length) St.range,
             chkLc s false true, chkRole s c 2, chkIl s none true,
             chk (s.sec.install.isSome || s.seBusy) St.busy] fun s =>
    (s.modSec fun x => { x with staging := x.staging.writeL off data }, .ok)

/-- TETAS_INSTALL (R501): SE takes the bundle, header, definitions, entries and signature. -/
def tetasInstall (c : Cmd) (s : State) : State × Reply :=
  let src := fieldAt c.payload 0 1
  let off := fieldAt c.payload 4 4
  let at_ (a n : Nat) : List Byte := if src = 0 then s.sec.staging.readN a n else s.xmem.readN a n
  let len := min (fieldAt (at_ (off + 24) 4) 0 4) 62716
  s.guarded [chkLen c 8, chk (1 < src || (if src = 0 then 65536 else 131072) ≤ off) St.range, chkZero c 1 3,
             chkLc s false true, chkRole s c 2, chkIl s none true, chk (src == 1 && 2 ≤ c.host.val) St.state,
             chk (!s.flashOk) St.thermal, chk (s.sec.install.isSome || s.seBusy) St.busy] fun s =>
    ((s.modSec fun x => { x with install := some (at_ off (len + 2820)) }).hold c none [c.host.val], .pending)

/-- LOG_READ (R505): the records at or after FIRST, oldest first. -/
def logRead (c : Cmd) (s : State) : State × Reply :=
  let first := fieldAt c.payload 0 4
  let n := fieldAt c.payload 4 2
  s.guarded [chkLen c 8, chk (n == 0) St.badCount, chk (63 < n) St.range, chkZero c 6 2, chkIl s none true] fun s =>
    let rs := ((s.sec.log.reverse).filter fun r => first ≤ r.seq).take n
    let next := match rs.getLast? with
      | some r => r.seq + 1
      | none => first
    (s, .ok (toLe 4 next ++ rs.flatMap fun r => r.bytes ++ r.chain))

/-- The queued records are written once flash writing is allowed again: all of them, or under THROTTLE the oldest, with a pause before
the next (R438, R504). -/
def logFlush (s : State) : State :=
  if s.recordNow = false then s
  else
    let n := if s.throttled then 1 else s.sec.queue.length
    let l := s.sec.queue.take n
    let s := s.modSec fun x => { x with queue := x.queue.drop n }
    (l.foldl (fun s r => s.logWrite r) (s.setO O.logQueued s.sec.queue.length)).when (!l.isEmpty) flashPause

end State

/-! ### The rows -/

def execSessionOpen (s : State) : Host.Outcome State Fault Refusal := .next (s.runCmd 0x0120 State.sessionOpen)

def execSessionClose (s : State) : Host.Outcome State Fault Refusal := .next (s.runCmd 0x0121 State.sessionClose)

def execTokenVerifyDone (h : Fin 4) (s : State) : Host.Outcome State Fault Refusal := .next (s.tokenDone h)

def execSessionIdleTimeout (h : Fin 4) (s : State) : Host.Outcome State Fault Refusal :=
  .next (if 2 ≤ s.session h ∧ s.sec.cmdAt[h] + s.getO O.secSessionIdle * 60 * sTicks ≤ s.now then s.endSession h 4 else s)

def execSecLcStep (s : State) : Host.Outcome State Fault Refusal := .next (s.runCmd 0x0A01 State.secLcStep)

def execLcStepDone (s : State) : Host.Outcome State Fault Refusal := .next s.lcStepDone

def execSecMakerKey (s : State) : Host.Outcome State Fault Refusal := .next (s.runCmd 0x0A07 State.secMakerKey)

def execSecAttest (s : State) : Host.Outcome State Fault Refusal := .next (s.runCmd 0x0A02 State.secAttest)

def execAttestDone (s : State) : Host.Outcome State Fault Refusal := .next s.attestDone

def execSecGetCert (s : State) : Host.Outcome State Fault Refusal := .next (s.runCmd 0x0A03 State.secGetCert)

def execKeyDerivationDone (s : State) : Host.Outcome State Fault Refusal := .next s.keyDerived

def execTetasStage (s : State) : Host.Outcome State Fault Refusal := .next (s.runCmd 0x0A04 State.tetasStage)

def execTetasInstall (s : State) : Host.Outcome State Fault Refusal := .next (s.runCmd 0x0A05 State.tetasInstall)

def execLogRead (s : State) : Host.Outcome State Fault Refusal := .next (s.runCmd 0x0A06 State.logRead)

def execAuditQueueFlush (s : State) : Host.Outcome State Fault Refusal := .next s.logFlush

end Sys2Proof.Machine
end

