-- ==== Sys2Proof/Machine/Tetas.lean ====
section
/-! DEFINITION. The installation of a Tetas bundle (R500, R501). -/

namespace Sys2Proof.Machine

/-- The type, access and retention that a definition codes (R8, R12, R500; log 92). -/
def tetasTy (code size : Nat) : Option ObjTy :=
  match code with
  | 0 => some .u8
  | 1 => some .u16
  | 2 => some .u32
  | 3 => some .u64
  | 4 => some .s20
  | 5 => some .s32
  | 6 => some .f32
  | 8 => if size = 0 then none else some (.blob size)
  | _ => none
def tetasAcc (code : Nat) : Option ObjAcc :=
  match code with
  | 0 => some .ro
  | 1 => some .rw
  | 2 => some .wo
  | 3 => some .rc
  | _ => none
def tetasRet (code : Nat) : Option ObjRet :=
  match code with
  | 1 => some .w
  | 3 => some .n
  | _ => none

/-- One definition of 16 bytes; none where a field holds a value that R500 does not give. -/
def tetasDef (b : List Byte) : Option MakerDef :=
  match tetasTy (fieldAt b 2 1) (fieldAt b 6 2), tetasAcc (fieldAt b 3 1), tetasRet (fieldAt b 5 1) with
  | some ty, some acc, some ret =>
    let id := fieldAt b 0 2
    if 0x8000 ≤ id ∧ id ≤ 0x8FFF ∧ fieldAt b 4 1 < 8 ∧ fieldAt b 6 2 = ty.size then
      some { id := id, ty := ty, acc := acc, roles := fieldAt b 4 1, ret := ret, dflt := fieldAt b 8 8 % 2 ^ (8 * ty.size) }
    else none
  | _, _, _ => none

/-- `n` definitions in a row; none where one is malformed or repeats an ID. -/
def tetasDefs : Nat → List Byte → Option (List MakerDef)
  | 0, _ => some []
  | n + 1, b =>
    match tetasDef (b.take 16), tetasDefs n (b.drop 16) with
    | some d, some l => if l.any fun (x : MakerDef) => x.id == d.id then none else some (d :: l)
    | _, _ => none

/-- A bundle taken apart: definitions and entries (R500). -/
structure Bundle where
  defs : List MakerDef
  items : List State.Entry

/-- The parts of a bundle without its signature; none where MAGIC, VERSION, LENGTH or the form is wrong (R500, R501; log 92). -/
def bundleParts (b : List Byte) : Option Bundle :=
  let nd := fieldAt b 18 2
  if fieldAt b 0 2 ≠ 0x7E7A ∨ fieldAt b 2 1 ≠ 1 ∨ fieldAt b 17 1 ≠ 0 ∨ fieldAt b 22 2 ≠ 0 ∨ fieldAt b 28 4 ≠ 0 ∨ fieldAt b 24 4 ≠ b.length ∨
      b.length < 32 + 16 * nd then none
  else match tetasDefs nd (b.drop 32), State.entries (fieldAt b 20 2) (b.drop (32 + 16 * nd)) with
    | some d, some e => some { defs := d, items := e }
    | _, _ => none

namespace State

/-- The maker objects of a bundle in place of the earlier ones, at their defaults (R13, R501). -/
def withDefs (s : State) (d : List MakerDef) : State :=
  let old (id : Nat) : Bool := decide (0x8000 ≤ id) && decide (id < 0x9000)
  let t : State := { s with objs := s.objs.filter fun p => !old p.1, flash := s.flash.filter fun p => !old p.1, dirty := s.dirty.filter fun id => !old id,
                            sec := { s.sec with makerDefs := d } }
  d.foldl (fun (t : State) (x : MakerDef) => t.setO x.id x.dflt) t

/-- The command under which a bundle's entries are checked: MAKER rights, the leases of the installing host (R501). -/
def tetasCmd (h : Fin 4) (tag : Nat) : Cmd :=
  { host := h, slot := 0, code := 0x0A05, tag := tag, flags := 0, payload := [], stamp := 0, kept := 0, lost := 0, orphan := false, role := some 3 }
def tetasWriter (h : Fin 4) (tag : Nat) : Writer := { cmd := some (tetasCmd h tag), host := h, role := 4 }

/-- The first of the checks of R501 that a bundle fails: status, REASON and ARG. -/
def tetasBad (s : State) (h : Fin 4) (b : List Byte) : Option (Nat × Nat × Nat) :=
  let body := b.take (b.length - 2820)
  let signed := match s.makerKey with
    | some key => Config.xmssVerify key body (b.drop (b.length - 2820))
    | none => false
  if !signed then some (St.denied, 0x01A0, 0)
  else match bundleParts body with
    | none => some (St.denied, 0x01A6, 0)
    | some x =>
      if fieldAt body 8 8 ≠ 0 ∧ fieldAt body 8 8 ≠ s.getO O.secDeviceId then some (St.denied, 0x01A1, 0)
      else if (fieldAt body 3 1).testBit s.lc = false then some (St.denied, 0x01A3, 0)
      else if (List.range 6).any fun i => decide (s.ilOf i < fieldAt body 16 1) then some (St.state, 0x01AB, 0)
      else if fieldAt body 4 4 ≤ s.getO O.secTetasSerial then some (St.refused, 0x01AC, 0)
      else
        let t := (s.withDefs x.defs).setSession h 3
        match t.batchBad (t.storeL (x.items.filterMap t.entryWr)) (tetasWriter h 0) x.items with
        | some (st, i) => some (st, 0x0002, i)
        | none => if s.flashOk then none else some (St.thermal, 0, 0)

/-- The bundle takes effect: definitions, entries, COMMIT, the audit record (R501, R503). -/
def tetasApply (s : State) (h : Fin 4) (b : List Byte) (x : Bundle) : State :=
  let serial := fieldAt b 4 4
  let t := s.withDefs x.defs
  let t := t.writeL (tetasWriter h 0) (x.items.filterMap t.entryWr)
  let t := (t.setO O.secTetasSerial serial).modSec fun c => { c with bundle := b }
  let t := t.flashL ((O.secTetasSerial :: x.defs.filterMap fun d => if d.ret = .n then some d.id else none) ++ t.dirty)
  (t.raise 0x0A04 0x1800 (serial % 2 ^ 24 * 256 + 1)).audit 8 h 4 0 0 0 0 serial

/-- An installation that its checks refuse (R501). -/
def tetasRefused (s : State) (b : List Byte) (e : Nat × Nat × Nat) : State :=
  ((if e.1 = St.thermal ∧ e.2.1 = 0 then s.flashRefuse else s).raise 0x0A04 0x1800 (fieldAt b 4 4 % 2 ^ 24 * 256 + 2)).endAll
    (fun q => q.code == 0x0A05) e.1 (if e.2.1 = 0 then none else some e.2)

/-- The end of an installation (R501). -/
def tetasDone (s : State) : State :=
  match s.sec.install, s.disp.held.find? fun (p : Held) => p.code == 0x0A05 with
  | some b, some p =>
    if s.flashPaused || s.seBusy then s
    else
      let t := s.modSec fun c => { c with install := none }
      let mine (q : Held) : Bool := q.code == 0x0A05
      (match t.tetasBad p.host b, bundleParts (b.take (b.length - 2820)) with
       | none, some x => (((t.tetasApply p.host b x).endAll mine St.ok).flashPause).heldSync
       | some e, _ => t.tetasRefused b e
       | none, none => t)
  | _, _ => s

end State

/-! ### The row -/

def execTetasInstallDone (s : State) : Host.Outcome State Fault Refusal := .next s.tetasDone

end Sys2Proof.Machine
end

