-- ==== Sys2Proof/Machine/Update.lean ====
section
/-! DEFINITION. The rows of chapter "Firmware update in service". -/

namespace Sys2Proof.Machine

namespace State

/-! ### The commands (R513) -/

/-- The island a command names, and its body over it. -/
def updArg (c : Cmd) : Nat := fieldAt c.payload 0 1
def onIsl (c : Cmd) (s : State) (f : Fin 6 → State × Reply) : State × Reply :=
  if h : updArg c < 6 then f ⟨updArg c, h⟩ else (s, .bare St.range)

/-- The state of an island's spare (R512). -/
def updSt (s : State) (i : Nat) : Nat := s.getO (O.updState i)

/-- The checks every update command shares (R77, R486, R489, R513, R517). -/
def updCommon (s : State) (c : Cmd) : List Chk := [chkLc s false false, chkRole s c 2, chkOwn s c 11, chkIl s (some 11)]

/-- The state is none of those the command allows. -/
def updBad (s : State) (c : Cmd) (ok : List Nat) : Chk := chkR (!ok.contains (s.updSt (updArg c))) St.state 0x01B0 (s.updSt (updArg c))

/-- A flash operation of the island is in progress, or SE restarts. -/
def updBusyNow (s : State) (c : Cmd) : Chk :=
  chk (s.seBusy || (List.finRange 6).any fun (i : Fin 6) => i.val == updArg c && s.upd[i].op.isSome) St.busy

/-- The window of R440, and a refusal by it noted. -/
def thermalReply (r : State × Reply) : State × Reply := if r.2.status = St.thermal then (r.1.flashRefuse, r.2) else r

/-- Requests of an island's commands. -/
def updHeld (i : Fin 6) (codes : List Nat) (p : Held) : Bool := codes.contains p.code && p.arg == [i.val]

/-- UPD_BEGIN: the spare is being erased. -/
def updBegin (c : Cmd) (s : State) : State × Reply :=
  thermalReply (s.guarded ([chkLen c 4, chk (5 < updArg c) St.range, chkZero c 1 3] ++ s.updCommon c ++
      [s.updBad c [0, 1, 2, 5], chk (!s.flashOk) St.thermal, s.updBusyNow c]) fun s => onIsl c s fun i =>
    let s := (s.modUpd i fun u => { u with op := some .erase, prev := none, spare := [] }).setO (O.updState i) 0
    ((s.updShow i).hold c (some 11) [i], .pending))

/-- The bytes a UPD_WRITE brings. -/
def updData (s : State) (c : Cmd) : List Byte :=
  if fieldAt c.payload 1 1 = 0 then c.payload.drop 8 else s.xmem.readN (fieldAt c.payload 8 4) (min (fieldAt c.payload 12 4) 65536)

/-- Bytes written to the spare at `received`. -/
def updPut (s : State) (i : Fin 6) (b : List Byte) : State :=
  let n := s.getO (O.updReceived i)
  ((s.modUpd i fun u => { u with spare := u.spare.writeL n b }).setO (O.updReceived i) (n + b.length)).updShow i

/-- UPD_WRITE; the row waits out a pause of the flash, and so does that of UPD_COMMIT (R438). -/
def updWrite (c : Cmd) (s : State) : State × Reply :=
  let src := fieldAt c.payload 1 1
  let off := fieldAt c.payload 4 4
  let x := fieldAt c.payload 8 4
  let n := if src = 0 then c.payload.length - 8 else fieldAt c.payload 12 4
  let lenBad := if src = 0 then c.payload.length < 9 || 4092 < c.payload.length else c.payload.length != (if src = 1 then 16 else c.payload.length) || c.payload.length < 8
  thermalReply (s.guarded ([chk lenBad St.badLen, chk (src == 1 && n == 0) St.badCount, chk (5 < updArg c || 1 < src) St.range, chkZero c 2 2,
      chk (src == 1 && (65536 < n || 131072 < x + n)) St.range,
      chkR (off != s.getO (O.updReceived (updArg c)) || slotSize (updArg c) < off + n) St.range 0x01B1] ++ s.updCommon c ++
      [chk (src == 1 && 2 ≤ c.host.val) St.state, s.updBad c [1], chk (!s.flashOk) St.thermal, s.updBusyNow c]) fun s => onIsl c s fun i =>
    if src = 0 then ((s.updPut i (s.updData c)).flashPause, .ok)
    else ((s.modUpd i fun u => { u with op := some (.write (s.updData c)) }).hold c (some 11) [i], .pending))

/-- UPD_VERIFY: SE begins the checks of R514. -/
def updVerify (c : Cmd) (s : State) : State × Reply :=
  s.guarded ([chkLen c 4, chk (5 < updArg c) St.range, chkZero c 1 3] ++ s.updCommon c ++ [s.updBad c [1], s.updBusyNow c]) fun s => onIsl c s fun i =>
    ((s.modUpd i fun u => { u with op := some .verify }).hold c (some 11) [i], .pending)

/-- UPD_ABORT. -/
def updAbort (c : Cmd) (s : State) : State × Reply :=
  s.guarded ([chkLen c 4, chk (5 < updArg c) St.range, chkZero c 1 3] ++ s.updCommon c ++ [s.updBad c [1, 2, 5]]) fun s => onIsl c s fun i =>
    let s := (s.modUpd i fun u => { u with op := none, spare := [], prev := none }).setO (O.updState i) 0
    (((s.setO (O.updReceived i) 0).updShow i).endAll (updHeld i [0x0A11, 0x0A12]) St.state, .ok)

/-- UPD_COMMIT: the trial slot is the committed one (R522). -/
def updCommit (c : Cmd) (s : State) : State × Reply :=
  let up := fieldAt c.payload 1 1
  thermalReply (s.guarded ([chkLen c 4, chk (5 < updArg c || 1 < up) St.range, chkZero c 2 2] ++ s.updCommon c ++
      [s.updBad c [4], chk (!s.flashOk || s.auditFull) St.thermal, s.updBusyNow c]) fun s => onIsl c s fun i =>
    let s := s.hold c (some 11) [i]
    let s := s.modUpd i fun u => { u with committed := u.running, prev := some u.committed, bank := 1 - u.bank, spare := [] }
    let s := ((s.setO (O.updState i) 0).setO (O.updReceived i) 0).setO O.updBusy 0xFF
    let id := O.updSecFloor i
    let v := s.upd[i].running.secVer
    let s := s.audit 9 c.host (s.roleFor c) 0 St.ok 0 0 0
    let s := if up = 1 then
        let t := s.auditObj c.host (s.roleFor c) id 2 (s.getO id) v
        ({ t with flash := kSet t.flash (objDefault id) id v } : State).setO id v
      else s
    (((s.updShow i).updEvent 5 i).endAll (updHeld i [0x0A14]) St.ok, .pending))

/-! ### Activation (R518 to R520) -/

/-- The own condition of an island (R519): what it fails on, a group or 0xFF (log 89). -/
def ownCondition (s : State) (i : Nat) : Option Nat :=
  if i = 0 then
    (if (s.disp.held.any fun (p : Held) => p.code == 0x0105 || p.code == 0x0A01 || p.code == 0x0A05) || s.upd.toList.any fun (u : UpdIsl) => u.op.isSome then
      some 11 else none)
  else if i = 2 ∨ i = 3 then
    (match (List.range 10).find? fun g => s.stageOn g with
     | some g => some g
     | none => if (List.finRange 4).any fun (m : Fin 4) => s.getO (O.trxRule m) == 1 then some 0xFF else none)
  else none

/-- The links while CT restarts: nothing planned, FORCE carries on (R519). -/
def ctHalt (s : State) : State :=
  let s := (List.finRange 40).foldl (fun (s : State) l => (s.cancelEdges l).modLink l fun k => { k with edges := [], planning := false, release := 0 }) s
  { s with cgs := Vector.replicate 8 Carrier.reset, ctx := Vector.replicate 64 Ctx.reset, tb := Vector.replicate 4 Trace.reset, traceReads := [] }

/-- An island goes down to restart on another image, or back on its committed one (R519, R520). -/
def restartBegin (s : State) (i : Fin 6) (back : Bool) : State :=
  let s := ((s.modUpd i fun u => { u with rollback := back }).setO (O.updState i) 3).setO O.updBusy i
  let s := if back then s else if i = 4 then s.postAll 0x0A10 0x1C00 (3 * 256 + 4) else s.updEvent 3 i
  match i with
  | 2 | 3 => s.applySc
  | 4 => s.modDisp fun d => { d with ready := false, booting := true }
  | 5 => s.modNet fun _ => Net.reset
  | _ => s

/-- UPD_ACTIVATE (R518). -/
def updActivate (c : Cmd) (s : State) : State × Reply :=
  s.guarded ([chkLen c 4, chk (5 < updArg c) St.range, chkZero c 1 3] ++ s.updCommon c) fun s => onIsl c s fun i =>
    let other := (List.range 6).find? fun j => s.updSt j == 3 || s.updSt j == 4
    s.guarded [chkR (i == 1) St.state 0x01B7 1, chkR (s.updSt i != 2) St.state 0x01B0 (s.updSt i),
        chkR other.isSome St.state 0x01B8 (other.getD 0), chkR (s.ownCondition i).isSome St.state 0x01B9 ((s.ownCondition i).getD 0),
        (match (s.upd[i].spareImg).bind fun m => s.ilClash i m with
         | some j => chkR true St.refused 0x01B6 j
         | none => chk false St.ok)] fun s =>
      ((s.hold c (some 11) [i]).restartBegin i false, .pending)

/-- UPD_ROLLBACK (R523). -/
def updRollback (c : Cmd) (s : State) : State × Reply :=
  s.guarded ([chkLen c 4, chk (5 < updArg c) St.range, chkZero c 1 3] ++ s.updCommon c) fun s => onIsl c s fun i =>
    s.guarded [chkR (i == 1) St.state 0x01B7 1, chkR (s.updSt i != 4) St.state 0x01B0 (s.updSt i),
        chkR (s.ownCondition i).isSome St.state 0x01B9 ((s.ownCondition i).getD 0)] fun s =>
      ((s.hold c (some 11) [i]).restartBegin i true, .pending)

/-- A request object that produced a target which CT or the torque tick holds: the request of a machine's mode, the limits of the
battery management and the charging current (R520). -/
def requestKept (s : State) (id : Nat) : Bool :=
  (List.range 4).any (fun m =>
    match s.getO (O.trxMode m) with
    | 0 => id == O.trxTorqueReq m
    | 1 => id == O.trxIdReq m || id == O.trxIqReq m
    | _ => id == O.trxSpeedReq m) ||
  ([O.dclBmsIChg, O.dclBmsIDis, O.dclBmsOpen, O.chgIBat] : List Nat).contains id

/-- What an island keeps of its class V objects as it restarts on another image (R519, R520; log 90). -/
def restartKeeps (s : State) (i : Fin 6) (id : Nat) : Bool :=
  match i with
  | 2 => (0x3000 ≤ id && id < 0x3800) || s.hfShown id
  | 3 => parkObj id
  | 4 => s.hfShown id || s.requestKept id
  | _ => false

/-- An island is up again: its class V objects have returned, and its work starts anew (R519, R520). -/
def restartEnd (s : State) (i : Fin 6) : State :=
  let t := s
  let s := (s.returnObjs (2 ^ i.val) true false (s.restartKeeps i)).when (i == 3) fun s => s.amcFlagsBack t false
  let s := match i with
    | 0 => (s.islandLost .se)
    | 2 => s.ctHalt.dropHeld 0x0400 0x0500
    | 3 => s.islandLost .cv
    | 4 => (s.undefX.modDisp fun d => { d with ready := true, booting := false, safetyAt := s.now, safetyActed := false }).newWatch.auxPeakLoad
    | 5 => (s.islandLost .nw).netStart
    | _ => s
  let s := (s.showClk.redefault (2 ^ i.val) false false).postAll 0x0200 0x1000 (2 ^ i.val * 65536 + 6 * 256 + 1)
  if i = 2 ∨ i = 3 then s.applySc else s

/-- The events held while HF was away are posted (R520). -/
def postHeldEvents (s : State) : State :=
  s.later.foldl (fun (s : State) (e : Evt) => s.postEvt e) { s with later := [] }

/-- A restart on another image is over: trial, or back on the committed slot (R518, R523). -/
def activationDone (s : State) (i : Fin 6) (started : Bool) : State :=
  if s.updSt i ≠ 3 then s
  else
    let back := s.upd[i].rollback
    let codes := if back then [0x0A15] else [0x0A13]
    let s := if back then (if started then s.trialBack i 6 else s.bootImage i (fun _ => true) fun spare => !spare)
      else if started then s.trialBegin i
      else (((s.setO (O.updState i) 5).setO O.updBusy 0xFF).updShow i).updEvent 2 i
    let s := if back || started then s.endAll (updHeld i codes) St.ok else s.endAll (updHeld i codes) St.fault (some (0x01B4, 0))
    (s.restartEnd i).postHeldEvents

/-- A flash operation on a spare is over (R513, R514, R440; log 88). -/
def updFlashDone (s : State) (i : Fin 6) : State :=
  match s.upd[i].op with
  | none => s
  | some op =>
    if s.seBusy || s.flashPaused then s
    else
      let t := s.modUpd i fun u => { u with op := none }
      match op with
      | .erase =>
        if s.flashOk then ((((t.setO (O.updState i) 1).setO (O.updReceived i) 0).updShow i).endAll (updHeld i [0x0A10]) St.ok).flashPause
        else (t.endAll (updHeld i [0x0A10]) St.thermal).flashRefuse
      | .write b =>
        if s.flashOk then ((t.updPut i b).endAll (updHeld i [0x0A11]) St.ok).flashPause
        else
          let k := (Config.freeValue s.free).toNat % (b.length + 1)
          ((t.takeFree.updPut i (b.take k)).endAll (updHeld i [0x0A11]) St.thermal).flashRefuse
      | .verify =>
        match s.spareCheck i with
        | none => (((t.setO (O.updState i) 2).updShow i).updEvent 1 i).endAll (updHeld i [0x0A12]) St.ok
        | some r => (((t.setO (O.updState i) 5).updShow i).updEvent 2 i).endAll (updHeld i [0x0A12]) r.status r.reason

end State

/-! ### The rows -/

def execUpdBegin (s : State) : Host.Outcome State Fault Refusal := .next (s.runCmd 0x0A10 State.updBegin)

def execUpdWrite (s : State) : Host.Outcome State Fault Refusal := .next (if s.flashPaused then s else s.runCmd 0x0A11 State.updWrite)

def execUpdVerify (s : State) : Host.Outcome State Fault Refusal := .next (s.runCmd 0x0A12 State.updVerify)

def execUpdActivate (s : State) : Host.Outcome State Fault Refusal := .next (s.runCmd 0x0A13 State.updActivate)

def execUpdCommit (s : State) : Host.Outcome State Fault Refusal := .next (if s.flashPaused then s else s.runCmd 0x0A14 State.updCommit)

def execUpdRollback (s : State) : Host.Outcome State Fault Refusal := .next (s.runCmd 0x0A15 State.updRollback)

def execUpdAbort (s : State) : Host.Outcome State Fault Refusal := .next (s.runCmd 0x0A16 State.updAbort)

def execUpdFlashDone (i : Fin 6) (s : State) : Host.Outcome State Fault Refusal := .next (s.updFlashDone i)

def execActivationDone (i : Fin 6) (started : Bool) (s : State) : Host.Outcome State Fault Refusal := .next (s.activationDone i started)

end Sys2Proof.Machine
end

