-- ==== Sys2Proof/Machine/Dispatch.lean ====
section
/-! DEFINITION. The dispatch: one arm per command, each one direct call of its meaning. -/

namespace Sys2Proof.Machine

def exec (i : Instr) (s : State) : Host.Outcome State Fault Refusal :=
  match i with
  | .xtalLoss => Sys2Proof.Machine.execXtalLoss s
  | .clockRecoveryComplete => Sys2Proof.Machine.execClockRecoveryComplete s
  | .pllUnlock isl => Sys2Proof.Machine.execPllUnlock isl s
  | .referenceTrim isl => Sys2Proof.Machine.execReferenceTrim isl s
  | .controlWordTimeout chan => Sys2Proof.Machine.execControlWordTimeout chan s
  | .carrierPeriodStart g => Sys2Proof.Machine.execCarrierPeriodStart g s
  | .planCutoff g => Sys2Proof.Machine.execPlanCutoff g s
  | .torqueTick => Sys2Proof.Machine.execTorqueTick s
  | .tractionSample m => Sys2Proof.Machine.execTractionSample m s
  | .observerReturn m => Sys2Proof.Machine.execObserverReturn m s
  | .setpointAged m => Sys2Proof.Machine.execSetpointAged m s
  | .fwLimitEngage m => Sys2Proof.Machine.execFwLimitEngage m s
  | .fwLimitRelease m => Sys2Proof.Machine.execFwLimitRelease m s
  | .timedRequestAtCt => Sys2Proof.Machine.execTimedRequestAtCt s
  | .presetAtCt m => Sys2Proof.Machine.execPresetAtCt m s
  | .firstPlannedPeriod m => Sys2Proof.Machine.execFirstPlannedPeriod m s
  | .magnetisingEnd m => Sys2Proof.Machine.execMagnetisingEnd m s
  | .trxEnable => Sys2Proof.Machine.execTrxEnable s
  | .trxDisable => Sys2Proof.Machine.execTrxDisable s
  | .trxSetTorqueAt => Sys2Proof.Machine.execTrxSetTorqueAt s
  | .trxSetReturn => Sys2Proof.Machine.execTrxSetReturn s
  | .setAutoReturn m set => Sys2Proof.Machine.execSetAutoReturn m set s
  | .returnRampEnd m set => Sys2Proof.Machine.execReturnRampEnd m set s
  | .contextTrigger c => Sys2Proof.Machine.execContextTrigger c s
  | .contextDispatch => Sys2Proof.Machine.execContextDispatch s
  | .contextCommit c => Sys2Proof.Machine.execContextCommit c s
  | .loopDeadlineMiss c => Sys2Proof.Machine.execLoopDeadlineMiss c s
  | .lpeEnable => Sys2Proof.Machine.execLpeEnable s
  | .lpeDisable => Sys2Proof.Machine.execLpeDisable s
  | .lpeBankSwap => Sys2Proof.Machine.execLpeBankSwap s
  | .lpePreset => Sys2Proof.Machine.execLpePreset s
  | .lpeTraceArm => Sys2Proof.Machine.execLpeTraceArm s
  | .lpeTraceStop => Sys2Proof.Machine.execLpeTraceStop s
  | .lpeTraceRead => Sys2Proof.Machine.execLpeTraceRead s
  | .traceReadDone b => Sys2Proof.Machine.execTraceReadDone b s
  | .samplingTrigger k => Sys2Proof.Machine.execSamplingTrigger k s
  | .adcConversionDone k uV => Sys2Proof.Machine.execAdcConversionDone k uV s
  | .injectArrival k => Sys2Proof.Machine.execInjectArrival k s
  | .injectedResult k uV => Sys2Proof.Machine.execInjectedResult k uV s
  | .calAcquisitionDone p evenUV oddUV => Sys2Proof.Machine.execCalAcquisitionDone p evenUV oddUV s
  | .adcInject => Sys2Proof.Machine.execAdcInject s
  | .adcSeqStart => Sys2Proof.Machine.execAdcSeqStart s
  | .adcCal => Sys2Proof.Machine.execAdcCal s
  | .refMonitorCheck p ref25 refMid => Sys2Proof.Machine.execRefMonitorCheck p ref25 refMid s
  | .quadratureChange p a b => Sys2Proof.Machine.execQuadratureChange p a b s
  | .indexEdge p => Sys2Proof.Machine.execIndexEdge p s
  | .hallChange p h => Sys2Proof.Machine.execHallChange p h s
  | .positionSample p => Sys2Proof.Machine.execPositionSample p s
  | .standstillTimeout p => Sys2Proof.Machine.execStandstillTimeout p s
  | .resolverPeriod p sinQ cosQ => Sys2Proof.Machine.execResolverPeriod p sinQ cosQ s
  | .ssiFrameDone p bits idleHigh => Sys2Proof.Machine.execSsiFrameDone p bits idleHigh s
  | .sentFrameReceived p pause sync status nibbles crc => Sys2Proof.Machine.execSentFrameReceived p pause sync status nibbles crc s
  | .sentStale p => Sys2Proof.Machine.execSentStale p s
  | .portRecover p => Sys2Proof.Machine.execPortRecover p s
  | .posClear => Sys2Proof.Machine.execPosClear s
  | .posProbeArm => Sys2Proof.Machine.execPosProbeArm s
  | .posProbeRead => Sys2Proof.Machine.execPosProbeRead s
  | .probeEdge n rising => Sys2Proof.Machine.execProbeEdge n rising s
  | .trainingStart l => Sys2Proof.Machine.execTrainingStart l s
  | .trainingStepEnd l r => Sys2Proof.Machine.execTrainingStepEnd l r s
  | .linkRetrainTimer l => Sys2Proof.Machine.execLinkRetrainTimer l s
  | .ctleAdapt l here below above => Sys2Proof.Machine.execCtleAdapt l here below above s
  | .echoTick => Sys2Proof.Machine.execEchoTick s
  | .echoReplyReceived l rt f => Sys2Proof.Machine.execEchoReplyReceived l rt f s
  | .edgeTelReceived l f => Sys2Proof.Machine.execEdgeTelReceived l f s
  | .statReceived l f => Sys2Proof.Machine.execStatReceived l f s
  | .alarmReceived l f => Sys2Proof.Machine.execAlarmReceived l f s
  | .regReplyReceived l f => Sys2Proof.Machine.execRegReplyReceived l f s
  | .regReplyTimeout l => Sys2Proof.Machine.execRegReplyTimeout l s
  | .statTimeout l => Sys2Proof.Machine.execStatTimeout l s
  | .edgeTelTimeout l => Sys2Proof.Machine.execEdgeTelTimeout l s
  | .upstreamSymbolLoss l crit => Sys2Proof.Machine.execUpstreamSymbolLoss l crit s
  | .forceResend => Sys2Proof.Machine.execForceResend s
  | .glkTrain => Sys2Proof.Machine.execGlkTrain s
  | .glkClearDriver => Sys2Proof.Machine.execGlkClearDriver s
  | .doorbellWrite h op data => Sys2Proof.Machine.execDoorbellWrite h op data s
  | .complWrite h op data => Sys2Proof.Machine.execComplWrite h op data s
  | .slotWrite h op slot off data => Sys2Proof.Machine.execSlotWrite h op slot off data s
  | .evtTailWrite h op data => Sys2Proof.Machine.execEvtTailWrite h op data s
  | .evtLostWrite h op data => Sys2Proof.Machine.execEvtLostWrite h op data s
  | .heartbeatWrite h op data => Sys2Proof.Machine.execHeartbeatWrite h op data s
  | .hostReset h op data => Sys2Proof.Machine.execHostReset h op data s
  | .axtLoRead h op => Sys2Proof.Machine.execAxtLoRead h op s
  | .registerWrite h op off data => Sys2Proof.Machine.execRegisterWrite h op off data s
  | .xmemAccess h wr word data clk => Sys2Proof.Machine.execXmemAccess h wr word data clk s
  | .commandAccept => Sys2Proof.Machine.execCommandAccept s
  | .commandComplete => Sys2Proof.Machine.execCommandComplete s
  | .getObj => Sys2Proof.Machine.execGetObj s
  | .setObj => Sys2Proof.Machine.execSetObj s
  | .setObjBatch => Sys2Proof.Machine.execSetObjBatch s
  | .getObjBlock => Sys2Proof.Machine.execGetObjBlock s
  | .commit => Sys2Proof.Machine.execCommit s
  | .commitDone => Sys2Proof.Machine.execCommitDone s
  | .claimGroup => Sys2Proof.Machine.execClaimGroup s
  | .releaseGroup => Sys2Proof.Machine.execReleaseGroup s
  | .withdraw => Sys2Proof.Machine.execWithdraw s
  | .safetyOverride => Sys2Proof.Machine.execSafetyOverride s
  | .leaseTimeout h => Sys2Proof.Machine.execLeaseTimeout h s
  | .safetyHostLapse => Sys2Proof.Machine.execSafetyHostLapse s
  | .hpnPost rec => Sys2Proof.Machine.execHpnPost rec s
  | .hpnRelease rec => Sys2Proof.Machine.execHpnRelease rec s
  | .hpnEventAck rec => Sys2Proof.Machine.execHpnEventAck rec s
  | .hpnHeartbeat rec => Sys2Proof.Machine.execHpnHeartbeat rec s
  | .hpnHello rec => Sys2Proof.Machine.execHpnHello rec s
  | .hpnReset rec => Sys2Proof.Machine.execHpnReset rec s
  | .hpnEventResend => Sys2Proof.Machine.execHpnEventResend s
  | .hpnChannelTimeout => Sys2Proof.Machine.execHpnChannelTimeout s
  | .dclClose => Sys2Proof.Machine.execDclClose s
  | .dclOpen => Sys2Proof.Machine.execDclOpen s
  | .dclChopClear => Sys2Proof.Machine.execDclChopClear s
  | .dclHwovClear => Sys2Proof.Machine.execDclHwovClear s
  | .closeStepTimer => Sys2Proof.Machine.execCloseStepTimer s
  | .prechargeTimeout => Sys2Proof.Machine.execPrechargeTimeout s
  | .openingStep => Sys2Proof.Machine.execOpeningStep s
  | .linkVoltageSample => Sys2Proof.Machine.execLinkVoltageSample s
  | .ovaEnd => Sys2Proof.Machine.execOvaEnd s
  | .linkSourceTimeout n => Sys2Proof.Machine.execLinkSourceTimeout n s
  | .linkSourceMismatch => Sys2Proof.Machine.execLinkSourceMismatch s
  | .hvilOpen => Sys2Proof.Machine.execHvilOpen s
  | .hvilClosed => Sys2Proof.Machine.execHvilClosed s
  | .bmsStale => Sys2Proof.Machine.execBmsStale s
  | .hwOvTrip => Sys2Proof.Machine.execHwOvTrip s
  | .hwOvAsc => Sys2Proof.Machine.execHwOvAsc s
  | .chgStart => Sys2Proof.Machine.execChgStart s
  | .chgStop => Sys2Proof.Machine.execChgStop s
  | .chgResearch => Sys2Proof.Machine.execChgResearch s
  | .pilotEdge rising t => Sys2Proof.Machine.execPilotEdge rising t s
  | .pilotRiseHold => Sys2Proof.Machine.execPilotRiseHold s
  | .proximityTick => Sys2Proof.Machine.execProximityTick s
  | .lineCycleMeasure => Sys2Proof.Machine.execLineCycleMeasure s
  | .qualifyEnd => Sys2Proof.Machine.execQualifyEnd s
  | .qualifyNoAc => Sys2Proof.Machine.execQualifyNoAc s
  | .chgSelSettle => Sys2Proof.Machine.execChgSelSettle s
  | .searchStepEnd => Sys2Proof.Machine.execSearchStepEnd s
  | .sourceCut => Sys2Proof.Machine.execSourceCut s
  | .sourceProbe => Sys2Proof.Machine.execSourceProbe s
  | .pvPoTick => Sys2Proof.Machine.execPvPoTick s
  | .pvLimitExit => Sys2Proof.Machine.execPvLimitExit s
  | .pvSweepStart => Sys2Proof.Machine.execPvSweepStart s
  | .pvSweepEnd => Sys2Proof.Machine.execPvSweepEnd s
  | .batTempStale => Sys2Proof.Machine.execBatTempStale s
  | .chgStopComplete => Sys2Proof.Machine.execChgStopComplete s
  | .chgResume => Sys2Proof.Machine.execChgResume s
  | .auxStart => Sys2Proof.Machine.execAuxStart s
  | .auxStop => Sys2Proof.Machine.execAuxStop s
  | .auxClear => Sys2Proof.Machine.execAuxClear s
  | .ssTimeout => Sys2Proof.Machine.execSsTimeout s
  | .hiccupEnd => Sys2Proof.Machine.execHiccupEnd s
  | .restartCountClear => Sys2Proof.Machine.execRestartCountClear s
  | .overloadTimeout => Sys2Proof.Machine.execOverloadTimeout s
  | .phasePeakTrip k => Sys2Proof.Machine.execPhasePeakTrip k s
  | .overshootTrip => Sys2Proof.Machine.execOvershootTrip s
  | .chiselRelease => Sys2Proof.Machine.execChiselRelease s
  | .undershootTrip => Sys2Proof.Machine.execUndershootTrip s
  | .bandHoldMet => Sys2Proof.Machine.execBandHoldMet s
  | .shedWaitExpiry => Sys2Proof.Machine.execShedWaitExpiry s
  | .burstEntry => Sys2Proof.Machine.execBurstEntry s
  | .auxSyncEdge t => Sys2Proof.Machine.execAuxSyncEdge t s
  | .syncLost => Sys2Proof.Machine.execSyncLost s
  | .syncHoldEnd => Sys2Proof.Machine.execSyncHoldEnd s
  | .trimEngage => Sys2Proof.Machine.execTrimEngage s
  | .auxPhaseRejoin k => Sys2Proof.Machine.execAuxPhaseRejoin k s
  | .auxInputLow => Sys2Proof.Machine.execAuxInputLow s
  | .auxAutoRestart => Sys2Proof.Machine.execAuxAutoRestart s
  | .amcStart => Sys2Proof.Machine.execAmcStart s
  | .amcStop => Sys2Proof.Machine.execAmcStop s
  | .amcMove => Sys2Proof.Machine.execAmcMove s
  | .amcHome => Sys2Proof.Machine.execAmcHome s
  | .parkEngage => Sys2Proof.Machine.execParkEngage s
  | .parkRelease => Sys2Proof.Machine.execParkRelease s
  | .amcClear => Sys2Proof.Machine.execAmcClear s
  | .bemfCrossing k phase rising => Sys2Proof.Machine.execBemfCrossing k phase rising s
  | .commutation k => Sys2Proof.Machine.execCommutation k s
  | .amcPeakTrip k ns level => Sys2Proof.Machine.execAmcPeakTrip k ns level s
  | .listenEnd k => Sys2Proof.Machine.execListenEnd k s
  | .brakePulseEnd k => Sys2Proof.Machine.execBrakePulseEnd k s
  | .brakeTimeout k => Sys2Proof.Machine.execBrakeTimeout k s
  | .revWaitEnd k => Sys2Proof.Machine.execRevWaitEnd k s
  | .alignEnd k => Sys2Proof.Machine.execAlignEnd k s
  | .startRetryDelay k => Sys2Proof.Machine.execStartRetryDelay k s
  | .stallDetect k => Sys2Proof.Machine.execStallDetect k s
  | .curveEval k => Sys2Proof.Machine.execCurveEval k s
  | .curveInputTimeout k => Sys2Proof.Machine.execCurveInputTimeout k s
  | .parkEngageClear => Sys2Proof.Machine.execParkEngageClear s
  | .parkRetry => Sys2Proof.Machine.execParkRetry s
  | .handoverToPack kab held => Sys2Proof.Machine.execHandoverToPack kab held s
  | .pathSwitchTimer => Sys2Proof.Machine.execPathSwitchTimer s
  | .sourceDebounceEnd kab held => Sys2Proof.Machine.execSourceDebounceEnd kab held s
  | .sourceQualified kab held => Sys2Proof.Machine.execSourceQualified kab held s
  | .packCutoff => Sys2Proof.Machine.execPackCutoff s
  | .packSwitchOff => Sys2Proof.Machine.execPackSwitchOff s
  | .packSeen => Sys2Proof.Machine.execPackSeen s
  | .packQualifyEnd => Sys2Proof.Machine.execPackQualifyEnd s
  | .rechargeCheck => Sys2Proof.Machine.execRechargeCheck s
  | .rpkResume => Sys2Proof.Machine.execRpkResume s
  | .ndvCheck => Sys2Proof.Machine.execNdvCheck s
  | .dtdtCheck => Sys2Proof.Machine.execDtdtCheck s
  | .packOvervoltTrip mv => Sys2Proof.Machine.execPackOvervoltTrip mv s
  | .chargeCurrentLost ns ma => Sys2Proof.Machine.execChargeCurrentLost ns ma s
  | .rpkCharge => Sys2Proof.Machine.execRpkCharge s
  | .checkpoint inp => Sys2Proof.Machine.execCheckpoint inp s
  | .checkpointMiss copy => Sys2Proof.Machine.execCheckpointMiss copy s
  | .windowCompare => Sys2Proof.Machine.execWindowCompare s
  | .ptgSplit => Sys2Proof.Machine.execPtgSplit s
  | .ptgJoin => Sys2Proof.Machine.execPtgJoin s
  | .ptgClear => Sys2Proof.Machine.execPtgClear s
  | .splitMaxExpiry => Sys2Proof.Machine.execSplitMaxExpiry s
  | .thermalSample n tenths => Sys2Proof.Machine.execThermalSample n tenths s
  | .sampleRateRelax n => Sys2Proof.Machine.execSampleRateRelax n s
  | .pauseEnd cls => Sys2Proof.Machine.execPauseEnd cls s
  | .bstCycleStart => Sys2Proof.Machine.execBstCycleStart s
  | .bstInstanceDone pass preempted => Sys2Proof.Machine.execBstInstanceDone pass preempted s
  | .bstRun => Sys2Proof.Machine.execBstRun s
  | .patinaStep m ok hit => Sys2Proof.Machine.execPatinaStep m ok hit s
  | .memCorrectedError m => Sys2Proof.Machine.execMemCorrectedError m s
  | .memUncorrectableError m addr => Sys2Proof.Machine.execMemUncorrectableError m addr s
  | .memParityError m addr => Sys2Proof.Machine.execMemParityError m addr s
  | .canFrameReceived n ext fmt id data => Sys2Proof.Machine.execCanFrameReceived n ext fmt id data s
  | .pgDatagramReceived e node mac ip data => Sys2Proof.Machine.execPgDatagramReceived e node mac ip data s
  | .canErrorPassive n tec rxc => Sys2Proof.Machine.execCanErrorPassive n tec rxc s
  | .canBusOff n => Sys2Proof.Machine.execCanBusOff n s
  | .canBusOffRecovery n => Sys2Proof.Machine.execCanBusOffRecovery n s
  | .claimWaitEnd n => Sys2Proof.Machine.execClaimWaitEnd n s
  | .cannotClaimDelay n => Sys2Proof.Machine.execCannotClaimDelay n s
  | .ilAnnounce port => Sys2Proof.Machine.execIlAnnounce port s
  | .ethLinkChange e up => Sys2Proof.Machine.execEthLinkChange e up s
  | .plcaBeaconLoss e => Sys2Proof.Machine.execPlcaBeaconLoss e s
  | .plcaBeaconRegained e => Sys2Proof.Machine.execPlcaBeaconRegained e s
  | .partnerTimeout entry => Sys2Proof.Machine.execPartnerTimeout entry s
  | .tpTimeout row => Sys2Proof.Machine.execTpTimeout row s
  | .mapTxCycle entry => Sys2Proof.Machine.execMapTxCycle entry s
  | .mapTxExpired entry => Sys2Proof.Machine.execMapTxExpired entry s
  | .mapRxTimeout entry => Sys2Proof.Machine.execMapRxTimeout entry s
  | .netTxDone port ok => Sys2Proof.Machine.execNetTxDone port ok s
  | .netCanRestart => Sys2Proof.Machine.execNetCanRestart s
  | .netClaim => Sys2Proof.Machine.execNetClaim s
  | .netPartnerRead => Sys2Proof.Machine.execNetPartnerRead s
  | .netPartnerPin => Sys2Proof.Machine.execNetPartnerPin s
  | .netSend => Sys2Proof.Machine.execNetSend s
  | .sessionOpen => Sys2Proof.Machine.execSessionOpen s
  | .sessionClose => Sys2Proof.Machine.execSessionClose s
  | .tokenVerifyDone h => Sys2Proof.Machine.execTokenVerifyDone h s
  | .sessionIdleTimeout h => Sys2Proof.Machine.execSessionIdleTimeout h s
  | .secLcStep => Sys2Proof.Machine.execSecLcStep s
  | .lcStepDone => Sys2Proof.Machine.execLcStepDone s
  | .secMakerKey => Sys2Proof.Machine.execSecMakerKey s
  | .secAttest => Sys2Proof.Machine.execSecAttest s
  | .attestDone => Sys2Proof.Machine.execAttestDone s
  | .secGetCert => Sys2Proof.Machine.execSecGetCert s
  | .keyDerivationDone => Sys2Proof.Machine.execKeyDerivationDone s
  | .tetasStage => Sys2Proof.Machine.execTetasStage s
  | .tetasInstall => Sys2Proof.Machine.execTetasInstall s
  | .tetasInstallDone => Sys2Proof.Machine.execTetasInstallDone s
  | .logRead => Sys2Proof.Machine.execLogRead s
  | .auditQueueFlush => Sys2Proof.Machine.execAuditQueueFlush s
  | .tamperDetect sensor => Sys2Proof.Machine.execTamperDetect sensor s
  | .updBegin => Sys2Proof.Machine.execUpdBegin s
  | .updWrite => Sys2Proof.Machine.execUpdWrite s
  | .updVerify => Sys2Proof.Machine.execUpdVerify s
  | .updActivate => Sys2Proof.Machine.execUpdActivate s
  | .updCommit => Sys2Proof.Machine.execUpdCommit s
  | .updRollback => Sys2Proof.Machine.execUpdRollback s
  | .updAbort => Sys2Proof.Machine.execUpdAbort s
  | .updFlashDone isl => Sys2Proof.Machine.execUpdFlashDone isl s
  | .activationDone isl started => Sys2Proof.Machine.execActivationDone isl started s
  | .coldReset => Sys2Proof.Machine.execColdReset s
  | .vstbyLoss => Sys2Proof.Machine.execVstbyLoss s
  | .brownout => Sys2Proof.Machine.execBrownout s
  | .keepaliveCtrRelease ctr => Sys2Proof.Machine.execKeepaliveCtrRelease ctr s
  | .vmainReturn thermalAgain => Sys2Proof.Machine.execVmainReturn thermalAgain s
  | .pinReset => Sys2Proof.Machine.execPinReset s
  | .watchdogExpiry isl retainedBad => Sys2Proof.Machine.execWatchdogExpiry isl retainedBad s
  | .vioBankLoss b => Sys2Proof.Machine.execVioBankLoss b s
  | .bootComplete bad => Sys2Proof.Machine.execBootComplete bad s
  | .powerStateChoice vmain vstby => Sys2Proof.Machine.execPowerStateChoice vmain vstby s
  | .dwellExpiry => Sys2Proof.Machine.execDwellExpiry s
  | .deepEntryComplete => Sys2Proof.Machine.execDeepEntryComplete s
  | .wakeEvent src => Sys2Proof.Machine.execWakeEvent src s
  | .wakeTimer => Sys2Proof.Machine.execWakeTimer s
  | .wakeHoldEnd => Sys2Proof.Machine.execWakeHoldEnd s
  | .pwrEndHold => Sys2Proof.Machine.execPwrEndHold s
  | .plinthPackHandover kab => Sys2Proof.Machine.execPlinthPackHandover kab s
  | .napSpeedSample m => Sys2Proof.Machine.execNapSpeedSample m s
  | .xtalReturn => Sys2Proof.Machine.execXtalReturn s
  | .pllRelock isl => Sys2Proof.Machine.execPllRelock isl s
  | .sourceAbsent kab => Sys2Proof.Machine.execSourceAbsent kab s
  | .rpkLatePauseEnd => Sys2Proof.Machine.execRpkLatePauseEnd s
  | .vioBankReturn b => Sys2Proof.Machine.execVioBankReturn b s
  | .debugTapAccess req => Sys2Proof.Machine.execDebugTapAccess req s
  | .arpOrIcmpEchoRequest e icmp target mac ip data => Sys2Proof.Machine.execArpOrIcmpEchoRequest e icmp target mac ip data s

end Sys2Proof.Machine
end

