-- ==== Sys2Proof/Safety.lean ====
section
/-! DEFINITION. What statements about the device speak of: the parts of its state and what a command leaves unchanged, a
command at the front of the dispatcher and its response, what a host may do, and the canonical form of its memories. -/

namespace Sys2Proof.Machine

/-- A part of the state: a field of `State`, the slots of the host ports, a family of objects (`count` IDs from `base`, `step` apart),
or every object. -/
inductive Part where
  | axt | pending | flash | dirty | free | evLast | sent | follow | xing | clk | hosts | slots | disp | later | xmem | forceA | forceB | links | cgs | trx
  | ctx | tb | traceReads | dcl | ptg | adc | pos | prb | chg | aux | amc | rpk | hpn | sec | upd | thm | bst | patina | pwr
  | net
  | objs (base step count : Nat)
  | allObjs
  deriving DecidableEq, Repr

/-- The part is equal in two states; object parts are compared by ID instead. -/
def Part.same (s t : State) : Part → Prop
  | .axt => t.axt = s.axt | .pending => t.pending = s.pending | .flash => t.flash = s.flash | .dirty => t.dirty = s.dirty
  | .free => t.free = s.free | .evLast => t.evLast = s.evLast | .sent => t.sent = s.sent | .clk => t.clk = s.clk
  | .follow => t.follow = s.follow | .xing => t.xing = s.xing | .hosts => t.hosts = s.hosts
  | .slots => ∀ h : Fin 4, (t.hosts[h]).slots = (s.hosts[h]).slots | .disp => t.disp = s.disp | .later => t.later = s.later | .xmem => t.xmem = s.xmem | .forceA => t.forceA = s.forceA
  | .forceB => t.forceB = s.forceB | .links => t.links = s.links | .cgs => t.cgs = s.cgs | .trx => t.trx = s.trx
  | .ctx => t.ctx = s.ctx | .tb => t.tb = s.tb | .traceReads => t.traceReads = s.traceReads | .dcl => t.dcl = s.dcl
  | .ptg => t.ptg = s.ptg | .adc => t.adc = s.adc | .pos => t.pos = s.pos | .prb => t.prb = s.prb | .chg => t.chg = s.chg
  | .aux => t.aux = s.aux | .amc => t.amc = s.amc | .rpk => t.rpk = s.rpk | .hpn => t.hpn = s.hpn | .sec => t.sec = s.sec
  | .upd => t.upd = s.upd | .thm => t.thm = s.thm | .bst => t.bst = s.bst | .patina => t.patina = s.patina
  | .pwr => t.pwr = s.pwr | .net => t.net = s.net
  | .objs _ _ _ | .allObjs => True

/-- The object belongs to the part. -/
def Part.has (id : Nat) : Part → Prop
  | .objs base step count => ∃ i < count, id = base + step * i
  | .allObjs => True
  | _ => False

/-- The part of one object, and of the first `n` instances of an object. -/
abbrev Part.one (id : Nat) : Part := .objs id 1 1
abbrev Part.fam (f : Nat → Nat) (n : Nat) : Part := .objs (f 0) (f 1 - f 0) n

/-- The second state differs from the first at most in the parts listed: every other field is equal, and every object that
belongs to none of them reads as before. -/
def Keeps (l : List Part) (s t : State) : Prop :=
  (∀ p, p ∉ l → p.same s t) ∧ ∀ id, (∀ p ∈ l, ¬ p.has id) → t.getO id = s.getO id

/-- The command completes on a state: `exec` answers a next state, and that state has a property. -/
def Gives (i : Instr) (s : State) (P : State → Prop) : Prop := ∃ t, exec i s = .next t ∧ P t

/-- The dispatcher's oldest accepted command is `c`, of a given code and not queued behind its island, and no HOST reset
has passed since it was accepted. -/
abbrev Front (s : State) (code : Nat) (c : Cmd) : Prop := s.frontCmd code = some c ∧ c.orphan = false

/-- The host's role, the life-cycle state, the group's ownership and the interface levels let the command run (R78, R486,
R489, R517); `power`: the life-cycle state VENDOR refuses it. -/
abbrev Permits (s : State) (c : Cmd) (group : Option Nat) (least : Nat) (power : Bool := false) : Prop :=
  least ≤ s.roleFor c ∧ s.lc ≠ 4 ∧ (power = true → s.lc ≠ 0) ∧ (group.all fun g => s.owns c g) = true ∧
    s.ilShort group false = none

/-- An update command of four bytes that names an island, permitted to its host (R513). -/
abbrev OnIsland (s : State) (c : Cmd) (i : Fin 6) : Prop :=
  c.payload.length = 4 ∧ fieldAt c.payload 0 1 = i.val ∧ fieldAt c.payload 1 3 = 0 ∧ Permits s c (some 11) 2

/-- The command's slot is DONE and holds its response (R60, R65). -/
abbrev Answered (t : State) (c : Cmd) (r : Reply) : Prop :=
  (t.hosts[c.host].slots[c.slot]).st = .done ∧
    (t.hosts[c.host].slots[c.slot]).mem.readN 0 (respFrame c.code c.tag r).length = respFrame c.code c.tag r

/-- A request of the command is held pending (R69). -/
abbrev IsHeld (t : State) (c : Cmd) : Prop := ∃ p ∈ t.disp.held, p.host = c.host ∧ p.code = c.code ∧ p.tag = c.tag

/-- The large byte memories are in canonical form: the exchange memory (R88) and the spare slots (R512). -/
def MemoriesWf (s : State) : Prop :=
  s.xmem.wf ∧ ∀ i : Fin 6, (s.upd[i]).spare.wf

end Sys2Proof.Machine
end

