-- ==== Sys2Proof/Machine/Changes.lean ====
section
/-! DEFINITION. Which parts of the state each command may change: what a command is not listed with, it leaves as it is. -/

namespace Sys2Proof.Machine

/-- What raising an event can change: its stamp (log 9), the rings of the hosts, and what HF holds or sends for them. -/
abbrev reports : List Part := [.evLast, .sent, .hosts, .later, .hpn]

/-- What running a mailbox command can change: the dispatcher's lists, the slot and the ring of its host, the pause after it. -/
abbrev answers : List Part := [.sent, .hosts, .slots, .disp, .hpn, .thm]

/-- Every part but the queue of the commands that wait. -/
abbrev everything : List Part :=
  [.axt, .flash, .dirty, .free, .evLast, .sent, .follow, .xing, .clk, .hosts, .slots, .disp,
   .later, .xmem, .forceA, .forceB, .links, .cgs, .trx, .ctx, .tb, .traceReads, .dcl, .ptg,
   .adc, .pos, .prb, .chg, .aux, .amc, .rpk, .hpn, .sec, .upd, .thm, .bst,
   .patina, .pwr, .net, .allObjs]

/-- The parts a command may change. -/
def mayChange : Instr → List Part
  | .xtalLoss =>
    reports ++ [.clk, .disp, .forceA, .forceB, .links, .cgs, .trx, .ctx, .dcl, .ptg, .adc, .chg, .aux, .amc, .thm,
     .bst, .one O.sysClkStatus, .one O.sysXingDropFlags, .fam O.thmT 72, .fam O.trxState 4, .fam O.trxFault 4,
     .fam O.trxAngleSrc 4, .fam O.lpeStatus 64, .fam O.lpeTrState 4, .fam O.lpeTrCount 4, .fam O.adcStatus 12,
     .one O.chgState, .one O.chgInput, .one O.chgFlags, .one O.chgCause, .one O.chgIInLim, .one O.chgPIn,
     .one O.auxState, .one O.auxFlags, .one O.auxCause, .one O.auxPhaseState, .fam O.amcState 6, .fam O.amcSpeed 6
     , .fam O.amcFlags 6, .fam O.amcFault 6, .one O.amcParkState, .one O.bstState, .one O.bstLast]
  | .clockRecoveryComplete =>
    reports ++ [.clk, .forceA, .forceB, .links, .ptg, .one O.sysXingDropFlags, .fam O.trxState 4]
  | .pllUnlock .. | .memUncorrectableError .. | .watchdogExpiry .. =>
    answers ++ [.evLast, .free, .clk, .later, .xmem, .forceA, .forceB, .links, .cgs, .trx, .ctx, .tb, .traceReads,
     .dcl, .ptg, .adc, .pos, .prb, .chg, .aux, .amc, .sec, .upd, .bst, .pwr, .net, .allObjs]
  | .referenceTrim .. =>
    [.clk]
  | .controlWordTimeout .. =>
    [.sent, .hosts, .later, .hpn, .one O.sysXingDropFlags]
  | .carrierPeriodStart .. =>
    reports ++ [.links, .cgs, .dcl, .aux, .one O.dclFlags, .one O.dclChopEnergy, .one O.auxPhaseState]
  | .planCutoff .. =>
    reports ++ [.links, .cgs, .ctx, .adc, .one O.sysLateFlags]
  | .torqueTick =>
    reports ++ [.trx, .chg, .one O.thmFactor, .fam O.trxFlags 4]
  | .tractionSample .. =>
    reports ++ [.disp, .links, .trx, .ctx, .ptg, .amc, .one O.sysXingDropFlags, .fam O.trxTorqueReq 4,
     .fam O.trxState 4, .fam O.trxEnvPos 4, .fam O.trxEnvNeg 4, .fam O.trxEnvSrc 4, .fam O.trxTorqueOut 4,
     .fam O.trxTorqueEst 4, .fam O.trxSpeed 4, .fam O.trxRule 4, .fam O.trxFlags 4, .fam O.trxFault 4,
     .fam O.trxAngleSrc 4, .fam O.lpeStatus 64, .fam O.lpeTrState 4, .fam O.lpeTrCount 4]
  | .observerReturn .. =>
    reports ++ [.trx, .amc, .fam O.trxSpeed 4, .fam O.trxAngleSrc 4]
  | .setpointAged .. | .fwLimitEngage .. =>
    reports ++ [.trx, .fam O.trxFlags 4]
  | .fwLimitRelease .. =>
    [.trx]
  | .timedRequestAtCt =>
    reports ++ [.disp, .one O.sysLateFlags]
  | .presetAtCt .. =>
    [.links, .cgs, .trx, .ctx, .fam O.lpeOut 64, .fam O.lpeInteg 64]
  | .firstPlannedPeriod .. =>
    reports ++ [.disp, .links, .trx, .ctx, .ptg, .one O.sysXingDropFlags, .fam O.trxTorqueReq 4, .fam O.trxIdReq 4
     , .fam O.trxIqReq 4, .fam O.trxSpeedReq 4, .fam O.trxState 4, .fam O.trxTorqueOut 4, .fam O.trxFlags 4,
     .fam O.trxFault 4, .fam O.trxAngleSrc 4, .fam O.trxSsState 4, .fam O.trxSsLosses 4, .fam O.lpeStatus 64,
     .fam O.lpeTrState 4, .fam O.lpeTrCount 4]
  | .magnetisingEnd .. =>
    reports ++ [.trx, .ptg, .one O.sysXingDropFlags, .fam O.trxTorqueReq 4, .fam O.trxIdReq 4, .fam O.trxIqReq 4,
     .fam O.trxSpeedReq 4, .fam O.trxState 4, .fam O.trxTorqueOut 4]
  | .trxEnable =>
    answers ++ [.evLast, .later, .links, .trx, .ctx, .ptg, .chg, .amc, .one O.sysXingDropFlags, .fam O.trxState 4,
     .fam O.trxSpeed 4, .fam O.lpeUnits 64, .fam O.lpeOut 64, .fam O.lpeInteg 64, .fam O.lpeStatus 64,
     .fam O.lpeTrState 4, .fam O.lpeTrCount 4, .one O.chgState, .one O.chgInput, .one O.chgFlags, .one O.chgCause,
     .one O.chgIInLim, .one O.chgPIn]
  | .trxDisable =>
    answers ++ [.evLast, .later, .links, .trx, .ctx, .ptg, .one O.sysXingDropFlags, .fam O.trxState 4,
     .fam O.trxFault 4, .fam O.trxAngleSrc 4, .fam O.lpeStatus 64, .fam O.lpeTrState 4, .fam O.lpeTrCount 4]
  | .trxSetTorqueAt =>
    answers ++ [.trx]
  | .trxSetReturn =>
    answers ++ [.evLast, .later, .trx, .fam O.trxSsState 4]
  | .setAutoReturn .. =>
    reports ++ [.trx, .fam O.trxSsState 4]
  | .returnRampEnd .. =>
    reports ++ [.disp, .trx, .fam O.trxSsState 4]
  | .contextTrigger .. =>
    reports ++ [.disp, .links, .cgs, .trx, .ctx, .tb, .ptg, .chg, .aux, .amc, .rpk, .one O.sysXingDropFlags,
     .one O.sysLateFlags, .fam O.trxState 4, .fam O.trxFlags 4, .fam O.trxFault 4, .fam O.trxAngleSrc 4,
     .fam O.trxSsState 4, .fam O.trxSsLosses 4, .fam O.lpeOut 64, .fam O.lpeInteg 64, .fam O.lpeStatus 64,
     .fam O.lpeLateCount 64, .fam O.lpeTrState 4, .fam O.lpeTrTrigAxt 4, .fam O.lpeTrCount 4,
     .fam O.lpeTrTrigIndex 4, .one O.chgState, .one O.chgInput, .one O.chgFlags, .one O.chgCause, .one O.chgIInLim
     , .one O.chgPIn, .one O.auxState, .one O.auxFlags, .one O.auxCause, .one O.auxVRef, .one O.auxPhaseState,
     .one O.auxRestarts, .fam O.amcSpeedReq 6, .fam O.amcState 6, .fam O.amcSpeed 6, .fam O.amcFlags 6,
     .fam O.amcFault 6, .one O.amcParkState, .one O.rpkState, .one O.rpkFlags]
  | .contextDispatch =>
    [.ctx]
  | .contextCommit .. =>
    reports ++ [.xing, .disp, .links, .cgs, .trx, .ctx, .tb, .ptg, .chg, .amc, .one O.sysXingDropFlags,
     .fam O.trxState 4, .fam O.trxFlags 4, .fam O.trxFault 4, .fam O.trxAngleSrc 4, .fam O.trxSsState 4,
     .fam O.trxSsLosses 4, .fam O.lpeOut 64, .fam O.lpeInteg 64, .fam O.lpeStatus 64, .fam O.lpeResidual 64,
     .fam O.lpeRunMax 64, .fam O.lpeTrState 4, .fam O.lpeTrTrigAxt 4, .fam O.lpeTrCount 4, .fam O.lpeTrTrigIndex 4
     , .one O.chgState, .one O.chgInput, .one O.chgFlags, .one O.chgCause, .one O.chgIInLim, .one O.chgPIn]
  | .loopDeadlineMiss .. =>
    reports ++ [.disp, .links, .trx, .ctx, .tb, .ptg, .chg, .aux, .amc, .rpk, .one O.sysXingDropFlags,
     .one O.sysLateFlags, .fam O.trxState 4, .fam O.trxFlags 4, .fam O.trxFault 4, .fam O.trxAngleSrc 4,
     .fam O.trxSsState 4, .fam O.trxSsLosses 4, .fam O.lpeStatus 64, .fam O.lpeLateCount 64, .fam O.lpeTrState 4,
     .fam O.lpeTrTrigAxt 4, .fam O.lpeTrCount 4, .fam O.lpeTrTrigIndex 4, .one O.chgState, .one O.chgInput,
     .one O.chgFlags, .one O.chgCause, .one O.chgIInLim, .one O.chgPIn, .one O.auxState, .one O.auxFlags,
     .one O.auxCause, .one O.auxPhaseState, .one O.auxRestarts, .fam O.amcState 6, .fam O.amcSpeed 6,
     .fam O.amcFlags 6, .fam O.amcFault 6, .one O.amcParkState, .one O.rpkState, .one O.rpkFlags]
  | .lpeEnable | .lpeDisable =>
    answers ++ [.ctx]
  | .lpeBankSwap =>
    answers ++ [.evLast, .later, .ctx, .one O.sysLateFlags, .fam O.lpeOut 64, .fam O.lpeInteg 64,
     .fam O.lpeStatus 64]
  | .lpePreset =>
    answers ++ [.ctx, .fam O.lpeOut 64, .fam O.lpeInteg 64]
  | .lpeTraceArm =>
    answers ++ [.tb, .fam O.lpeTrState 4, .fam O.lpeTrTrigAxt 4, .fam O.lpeTrCount 4, .fam O.lpeTrTrigIndex 4]
  | .lpeTraceStop =>
    answers ++ [.evLast, .later, .fam O.lpeTrState 4, .fam O.lpeTrCount 4]
  | .lpeTraceRead =>
    answers ++ [.xing, .later, .traceReads, .one O.sysXingDropFlags]
  | .traceReadDone .. =>
    [.sent, .xing, .hosts, .disp, .later, .xmem, .traceReads, .hpn, .one O.sysXingDropFlags]
  | .samplingTrigger .. | .adcSeqStart =>
    answers ++ [.evLast, .later, .adc, .one O.sysLateFlags, .fam O.adcStatus 12, .fam O.adcAbandons 12,
     .fam O.adcInjFree 12, .one O.adcCalResult]
  | .adcConversionDone .. =>
    answers ++ [.evLast, .xing, .later, .links, .ctx, .adc, .chg, .aux, .rpk, .one O.sysXingDropFlags,
     .fam O.thmT 72, .fam O.lpeOut 64, .fam O.lpeInteg 64, .fam O.lpeStatus 64, .fam O.lpeTrState 4,
     .fam O.lpeTrCount 4, .fam O.adcStatus 12, .fam O.adcPasses 12, .fam O.adcInjFree 12, .one O.adcCalResult,
     .fam O.adcResValue 384, .one O.chgState, .one O.chgInput, .one O.chgFlags, .one O.chgCause, .one O.chgIInLim,
     .one O.chgPIn, .one O.chgVPvRef, .one O.chgVOc, .one O.auxState, .one O.auxFlags, .one O.auxVOut,
     .one O.auxIOut, .one O.auxPOut, .one O.rpkState, .one O.rpkFlags, .one O.rpkEnd, .one O.rpkVPack,
     .one O.rpkIPack, .one O.rpkTPack]
  | .injectArrival .. =>
    answers ++ [.evLast, .later, .adc, .fam O.adcStatus 12, .fam O.adcInjFree 12, .one O.adcCalResult]
  | .injectedResult .. =>
    answers ++ [.evLast, .xing, .later, .links, .ctx, .dcl, .adc, .chg, .one O.sysXingDropFlags, .one O.dclFlags,
     .fam O.lpeStatus 64, .fam O.lpeTrState 4, .fam O.lpeTrCount 4, .fam O.adcStatus 12, .fam O.adcInjFree 12,
     .one O.adcCalResult, .one O.chgState, .one O.chgInput, .one O.chgFlags, .one O.chgCause, .one O.chgCpState,
     .one O.chgCpDuty, .one O.chgIPilot, .one O.chgICable, .one O.chgIInLim, .one O.chgPIn]
  | .calAcquisitionDone .. =>
    reports ++ [.dirty, .disp, .dcl, .adc, .sec, .thm, .one O.logHead, .one O.logChain, .one O.logCount,
     .one O.logQueued, .fam O.adcStatus 12, .one O.adcCalResult, .fam O.adcResCal 384]
  | .adcInject =>
    answers ++ [.adc]
  | .adcCal =>
    answers ++ [.adc, .fam O.adcStatus 12]
  | .refMonitorCheck .. =>
    reports ++ [.adc]
  | .quadratureChange .. | .hallChange .. =>
    [.pos, .fam O.posQerr 4]
  | .indexEdge .. | .standstillTimeout .. | .resolverPeriod .. | .sentStale .. =>
    [.pos]
  | .positionSample .. =>
    reports ++ [.xing, .ctx, .pos, .one O.sysXingDropFlags, .fam O.posAngle 4, .fam O.posCount 4, .fam O.posSpeed 4
     , .fam O.posStatus 4]
  | .ssiFrameDone .. =>
    [.sent, .xing, .hosts, .later, .ctx, .pos, .hpn, .one O.sysXingDropFlags, .fam O.posAngle 4, .fam O.posCount 4
     , .fam O.posSpeed 4, .fam O.posStatus 4]
  | .sentFrameReceived .. =>
    [.pos, .fam O.posSlow 4]
  | .portRecover .. =>
    reports ++ [.pos]
  | .posClear =>
    answers ++ [.pos]
  | .posProbeArm =>
    answers ++ [.fam O.posPrbStatus 4]
  | .posProbeRead =>
    answers ++ [.prb, .fam O.posPrbStatus 4]
  | .probeEdge .. =>
    reports ++ [.prb, .fam O.posPrbStatus 4]
  | .trainingStart .. | .linkRetrainTimer .. =>
    [.sent, .links, .trx, .fam O.thmT 72]
  | .trainingStepEnd .. =>
    reports ++ [.disp, .links, .trx, .aux, .fam O.thmT 72, .fam O.glkStatus 40, .fam O.glkLatency 40,
     .fam O.glkRxCtle 40, .fam O.glkDriver 40, .fam O.glkLDrv 40]
  | .ctleAdapt .. =>
    [.links, .fam O.glkRxCtle 40]
  | .echoTick =>
    [.sent, .links]
  | .echoReplyReceived .. =>
    reports ++ [.links, .trx, .fam O.glkStatus 40, .fam O.glkLatency 40]
  | .edgeTelReceived .. =>
    reports ++ [.xing, .links, .dcl, .one O.sysXingDropFlags, .fam O.glkStatus 40, .fam O.pwmDtTrimPos 40,
     .fam O.pwmDtTrimNeg 40, .fam O.pwmDriveTable 40, .one O.dclFlags]
  | .statReceived .. =>
    reports ++ [.xing, .disp, .links, .trx, .ctx, .dcl, .ptg, .chg, .aux, .one O.sysXingDropFlags, .fam O.thmT 72,
     .fam O.glkStatus 40, .fam O.trxState 4, .fam O.trxFlags 4, .fam O.trxFault 4, .fam O.trxAngleSrc 4,
     .fam O.trxSsState 4, .fam O.trxSsLosses 4, .one O.dclFlags, .fam O.lpeStatus 64, .fam O.lpeTrState 4,
     .fam O.lpeTrCount 4, .one O.chgState, .one O.chgInput, .one O.chgFlags, .one O.chgCause, .one O.chgIInLim,
     .one O.chgPIn, .one O.auxState, .one O.auxFlags, .one O.auxCause, .one O.auxPhaseState]
  | .alarmReceived .. =>
    reports ++ [.disp, .links, .trx, .ctx, .dcl, .ptg, .chg, .aux, .one O.sysXingDropFlags, .fam O.glkStatus 40,
     .fam O.trxState 4, .fam O.trxFlags 4, .fam O.trxFault 4, .fam O.trxAngleSrc 4, .fam O.trxSsState 4,
     .fam O.trxSsLosses 4, .one O.dclFlags, .fam O.lpeStatus 64, .fam O.lpeTrState 4, .fam O.lpeTrCount 4,
     .one O.chgState, .one O.chgInput, .one O.chgFlags, .one O.chgCause, .one O.chgIInLim, .one O.chgPIn,
     .one O.auxState, .one O.auxFlags, .one O.auxCause, .one O.auxPhaseState]
  | .regReplyReceived .. =>
    [.sent, .links, .fam O.glkStatus 40]
  | .regReplyTimeout .. | .statTimeout .. | .edgeTelTimeout .. | .upstreamSymbolLoss .. =>
    reports ++ [.disp, .links, .trx, .ctx, .dcl, .ptg, .chg, .aux, .one O.sysXingDropFlags, .fam O.thmT 72,
     .fam O.glkStatus 40, .fam O.trxState 4, .fam O.trxFlags 4, .fam O.trxFault 4, .fam O.trxAngleSrc 4,
     .fam O.trxSsState 4, .fam O.trxSsLosses 4, .one O.dclFlags, .fam O.lpeStatus 64, .fam O.lpeTrState 4,
     .fam O.lpeTrCount 4, .one O.chgState, .one O.chgInput, .one O.chgFlags, .one O.chgCause, .one O.chgIInLim,
     .one O.chgPIn, .one O.auxState, .one O.auxFlags, .one O.auxCause, .one O.auxPhaseState]
  | .forceResend =>
    [.sent, .forceA, .forceB, .links]
  | .glkTrain =>
    answers ++ [.links, .trx, .fam O.thmT 72]
  | .glkClearDriver =>
    answers ++ [.links]
  | .doorbellWrite .. | .complWrite .. | .slotWrite .. | .evtTailWrite .. | .evtLostWrite .. 
  | .heartbeatWrite .. | .hostReset .. | .registerWrite .. | .hpnReset .. =>
    answers ++ [.evLast, .later, .ctx, .ptg, .adc, .amc, .sec, .one O.sysHostPresent, .one O.sysHostLeaseOwner,
     .one O.secSession, .one O.logHead, .one O.logChain, .one O.logCount, .one O.logQueued, .fam O.lpeStatus 64,
     .fam O.amcFlags 6]
  | .axtLoRead .. =>
    [.sent, .hosts]
  | .xmemAccess .. =>
    [.free, .sent, .hosts, .xmem]
  | .commandAccept =>
    answers ++ [.sec, .one O.sysHostPresent]
  | .commandComplete =>
    [.sent, .hosts, .disp, .hpn]
  | .getObj | .getObjBlock | .netPartnerRead | .secGetCert | .logRead =>
    answers
  | .setObj | .setObjBatch =>
    answers ++ [.evLast, .dirty, .later, .forceA, .forceB, .links, .trx, .ctx, .dcl, .ptg, .adc, .pos, .chg, .aux,
     .amc, .rpk, .sec, .net, .allObjs]
  | .commit =>
    answers ++ [.evLast, .later, .one O.thmFlags]
  | .commitDone =>
    reports ++ [.flash, .dirty, .free, .disp, .thm, .one O.thmFlags]
  | .claimGroup =>
    answers ++ [.later, .ctx, .ptg, .adc, .amc, .one O.sysHostLeaseOwner, .fam O.lpeStatus 64, .fam O.amcFlags 6]
  | .releaseGroup =>
    answers ++ [.ctx, .ptg, .adc, .amc, .one O.sysHostLeaseOwner, .fam O.lpeStatus 64, .fam O.amcFlags 6]
  | .withdraw =>
    answers ++ [.ctx, .ptg, .adc, .amc, .fam O.lpeStatus 64, .fam O.amcFlags 6]
  | .safetyOverride =>
    answers ++ [.evLast, .free, .later, .forceA, .forceB, .links, .trx, .ctx, .dcl, .ptg, .adc, .chg, .aux, .amc,
     .rpk, .one O.sysXingDropFlags, .one O.sysHostLeaseOwner, .one O.sysHostOverride, .fam O.trxState 4,
     .fam O.trxFault 4, .fam O.trxAngleSrc 4, .fam O.lpeStatus 64, .fam O.lpeTrState 4, .fam O.lpeTrCount 4,
     .one O.chgState, .one O.chgInput, .one O.chgFlags, .one O.chgCause, .one O.chgIInLim, .one O.chgPIn,
     .one O.auxState, .one O.auxFlags, .one O.auxCause, .one O.auxPhaseState, .fam O.amcState 6, .fam O.amcSpeed 6
     , .fam O.amcFlags 6, .fam O.amcFault 6, .one O.amcParkState, .one O.rpkState]
  | .leaseTimeout .. =>
    [.sent, .hosts, .slots, .disp, .ctx, .ptg, .adc, .amc, .hpn, .one O.sysHostPresent, .one O.sysHostLeaseOwner,
     .fam O.lpeStatus 64, .fam O.amcFlags 6]
  | .safetyHostLapse =>
    reports ++ [.free, .slots, .disp, .forceA, .forceB, .links, .trx, .ctx, .dcl, .ptg, .adc, .chg, .aux, .amc,
     .rpk, .one O.sysXingDropFlags, .one O.sysHostPresent, .one O.sysHostLeaseOwner, .one O.sysHostOverride,
     .fam O.trxState 4, .fam O.trxFault 4, .fam O.trxAngleSrc 4, .fam O.lpeStatus 64, .fam O.lpeTrState 4,
     .fam O.lpeTrCount 4, .one O.chgState, .one O.chgInput, .one O.chgFlags, .one O.chgCause, .one O.chgIInLim,
     .one O.chgPIn, .one O.auxState, .one O.auxFlags, .one O.auxCause, .one O.auxPhaseState, .fam O.amcState 6,
     .fam O.amcSpeed 6, .fam O.amcFlags 6, .fam O.amcFault 6, .one O.amcParkState, .one O.rpkState]
  | .hpnPost .. =>
    [.sent, .hosts, .slots, .hpn]
  | .hpnRelease .. =>
    [.hosts, .slots, .hpn]
  | .hpnEventAck .. =>
    [.sent, .hosts, .hpn]
  | .hpnHeartbeat .. =>
    [.hosts, .disp, .hpn, .one O.sysHostPresent]
  | .hpnHello .. =>
    reports ++ [.free, .sec, .thm, .one O.secSession, .one O.logHead, .one O.logChain, .one O.logCount,
     .one O.logQueued]
  | .hpnEventResend =>
    [.sent, .hpn]
  | .hpnChannelTimeout =>
    [.hpn]
  | .dclClose =>
    answers ++ [.evLast, .later, .dcl, .one O.dclState, .one O.dclFlags]
  | .dclOpen =>
    answers ++ [.evLast, .later, .links, .trx, .ctx, .dcl, .ptg, .chg, .aux, .one O.sysXingDropFlags,
     .fam O.trxState 4, .fam O.trxAngleSrc 4, .one O.dclState, .one O.dclBmsOpen, .fam O.lpeStatus 64,
     .fam O.lpeTrState 4, .fam O.lpeTrCount 4, .one O.chgState, .one O.chgInput, .one O.chgFlags, .one O.chgCause,
     .one O.chgIInLim, .one O.chgPIn, .one O.auxState, .one O.auxFlags, .one O.auxCause, .one O.auxPhaseState]
  | .dclChopClear =>
    answers ++ [.dcl, .one O.dclFlags]
  | .dclHwovClear =>
    answers ++ [.evLast, .later, .forceA, .forceB, .links, .dcl, .ptg, .one O.sysXingDropFlags, .fam O.trxState 4,
     .one O.dclFlags]
  | .closeStepTimer | .prechargeTimeout =>
    reports ++ [.disp, .dcl, .one O.dclState, .one O.dclFlags]
  | .openingStep =>
    reports ++ [.disp, .links, .ctx, .dcl, .aux, .one O.dclState, .one O.dclBmsOpen, .fam O.lpeStatus 64,
     .fam O.lpeTrState 4, .fam O.lpeTrCount 4, .one O.auxState, .one O.auxFlags, .one O.auxCause,
     .one O.auxPhaseState]
  | .linkVoltageSample =>
    reports ++ [.links, .trx, .dcl, .ptg, .aux, .one O.sysXingDropFlags, .fam O.trxTorqueOut 4, .one O.dclFlags,
     .one O.dclVLink, .one O.dclVBat]
  | .ovaEnd =>
    reports ++ [.links, .trx, .dcl, .one O.dclFlags]
  | .linkSourceTimeout .. =>
    reports ++ [.dcl, .one O.dclFlags, .one O.dclVLink]
  | .linkSourceMismatch =>
    reports ++ [.dcl, .one O.dclFlags]
  | .hvilOpen =>
    reports ++ [.disp, .links, .trx, .ctx, .dcl, .ptg, .chg, .one O.sysXingDropFlags, .fam O.trxState 4,
     .fam O.trxAngleSrc 4, .one O.dclState, .one O.dclFlags, .fam O.lpeStatus 64, .fam O.lpeTrState 4,
     .fam O.lpeTrCount 4, .one O.chgState, .one O.chgInput, .one O.chgFlags, .one O.chgCause, .one O.chgIInLim,
     .one O.chgPIn]
  | .hvilClosed =>
    reports ++ [.dcl]
  | .bmsStale =>
    reports ++ [.disp, .links, .ctx, .dcl, .chg, .one O.dclFlags, .fam O.lpeStatus 64, .fam O.lpeTrState 4,
     .fam O.lpeTrCount 4, .one O.chgState, .one O.chgInput, .one O.chgFlags, .one O.chgCause, .one O.chgIInLim,
     .one O.chgPIn]
  | .hwOvTrip =>
    reports ++ [.disp, .forceA, .forceB, .links, .trx, .ctx, .dcl, .ptg, .one O.sysXingDropFlags, .fam O.trxState 4
     , .fam O.trxFault 4, .fam O.trxAngleSrc 4, .one O.dclFlags, .fam O.lpeStatus 64, .fam O.lpeTrState 4,
     .fam O.lpeTrCount 4]
  | .hwOvAsc =>
    [.sent, .forceA, .forceB, .links, .dcl]
  | .chgStart =>
    answers ++ [.evLast, .later, .chg, .one O.chgState, .one O.chgInput, .one O.chgFlags]
  | .chgStop =>
    answers ++ [.evLast, .later, .links, .ctx, .chg, .fam O.lpeStatus 64, .fam O.lpeTrState 4, .fam O.lpeTrCount 4
     , .one O.chgState, .one O.chgInput, .one O.chgFlags, .one O.chgCause, .one O.chgIInLim, .one O.chgPIn]
  | .chgResearch =>
    answers ++ [.evLast, .later, .links, .ctx, .chg, .fam O.lpeStatus 64, .fam O.lpeTrState 4, .fam O.lpeTrCount 4
     , .one O.chgState, .one O.chgInput, .one O.chgFlags]
  | .pilotEdge .. =>
    reports ++ [.disp, .links, .ctx, .adc, .chg, .fam O.lpeStatus 64, .fam O.lpeTrState 4, .fam O.lpeTrCount 4,
     .one O.chgState, .one O.chgInput, .one O.chgFlags, .one O.chgCause, .one O.chgCpDuty, .one O.chgIPilot,
     .one O.chgIInLim, .one O.chgPIn]
  | .pilotRiseHold | .chgSelSettle | .sourceProbe | .pvSweepStart =>
    [.chg]
  | .proximityTick =>
    [.adc]
  | .lineCycleMeasure | .qualifyNoAc | .searchStepEnd | .batTempStale | .chgStopComplete =>
    reports ++ [.disp, .links, .ctx, .chg, .fam O.lpeStatus 64, .fam O.lpeTrState 4, .fam O.lpeTrCount 4,
     .one O.chgState, .one O.chgInput, .one O.chgFlags, .one O.chgCause, .one O.chgIInLim, .one O.chgPIn]
  | .qualifyEnd =>
    reports ++ [.disp, .links, .ctx, .chg, .fam O.lpeInputs 64, .fam O.lpeUnits 64, .fam O.lpeOut 64,
     .fam O.lpeInteg 64, .fam O.lpeStatus 64, .fam O.lpeTrState 4, .fam O.lpeTrCount 4, .one O.chgState,
     .one O.chgInput, .one O.chgFlags, .one O.chgCause, .one O.chgIInLim, .one O.chgV0, .one O.chgF0, .one O.chgPIn
     , .one O.chgVPvRef, .one O.chgVOc]
  | .sourceCut =>
    reports ++ [.links, .ctx, .chg, .fam O.lpeStatus 64, .fam O.lpeTrState 4, .fam O.lpeTrCount 4, .one O.chgState
     , .one O.chgInput, .one O.chgFlags, .one O.chgIInLim]
  | .pvPoTick =>
    [.chg, .one O.chgPIn, .one O.chgVPvRef]
  | .pvLimitExit =>
    reports ++ [.chg]
  | .pvSweepEnd =>
    reports ++ [.disp, .chg, .one O.chgVPvRef]
  | .chgResume =>
    reports ++ [.chg, .one O.chgState, .one O.chgInput, .one O.chgFlags]
  | .auxStart =>
    answers ++ [.evLast, .later, .links, .ctx, .aux, .fam O.lpeOut 64, .fam O.lpeInteg 64, .fam O.lpeStatus 64,
     .one O.auxState, .one O.auxFlags, .one O.auxVRef, .one O.auxPhaseState]
  | .auxStop =>
    answers ++ [.evLast, .later, .links, .ctx, .aux, .fam O.lpeStatus 64, .fam O.lpeTrState 4, .fam O.lpeTrCount 4
     , .one O.auxState, .one O.auxFlags, .one O.auxCause, .one O.auxPhaseState]
  | .auxClear =>
    answers ++ [.evLast, .later, .aux, .one O.auxState, .one O.auxFlags, .one O.auxRestarts]
  | .ssTimeout | .overloadTimeout =>
    reports ++ [.disp, .links, .ctx, .aux, .fam O.lpeStatus 64, .fam O.lpeTrState 4, .fam O.lpeTrCount 4,
     .one O.auxState, .one O.auxFlags, .one O.auxCause, .one O.auxPhaseState, .one O.auxRestarts]
  | .hiccupEnd | .auxAutoRestart =>
    reports ++ [.links, .ctx, .aux, .fam O.lpeOut 64, .fam O.lpeInteg 64, .fam O.lpeStatus 64, .one O.auxState,
     .one O.auxFlags, .one O.auxVRef, .one O.auxPhaseState]
  | .restartCountClear =>
    [.one O.auxRestarts]
  | .phasePeakTrip .. =>
    [.sent, .links, .ctx, .aux, .one O.auxFlags]
  | .overshootTrip =>
    reports ++ [.links, .ctx, .aux, .one O.auxFlags]
  | .chiselRelease =>
    [.sent, .links, .ctx, .aux]
  | .undershootTrip =>
    reports ++ [.disp, .links, .ctx, .aux, .fam O.lpeOut 64, .fam O.lpeInteg 64, .fam O.lpeStatus 64,
     .one O.auxState, .one O.auxFlags, .one O.auxPhaseState]
  | .bandHoldMet =>
    [.aux]
  | .shedWaitExpiry =>
    [.aux, .one O.auxPhaseState]
  | .burstEntry =>
    reports ++ [.disp, .links, .ctx, .aux, .fam O.lpeStatus 64, .fam O.lpeTrState 4, .fam O.lpeTrCount 4,
     .one O.auxState, .one O.auxFlags, .one O.auxPhaseState]
  | .auxSyncEdge .. | .syncLost =>
    reports ++ [.aux, .one O.auxFlags, .one O.auxSyncFreq]
  | .syncHoldEnd =>
    [.cgs, .aux]
  | .trimEngage =>
    reports ++ [.ctx, .fam O.lpeStatus 64, .one O.auxFlags]
  | .auxPhaseRejoin .. =>
    reports ++ [.links, .aux, .one O.auxPhaseState]
  | .auxInputLow =>
    reports ++ [.disp, .links, .ctx, .aux, .fam O.lpeStatus 64, .fam O.lpeTrState 4, .fam O.lpeTrCount 4,
     .one O.auxState, .one O.auxFlags, .one O.auxCause, .one O.auxPhaseState]
  | .amcStart | .amcHome | .amcClear =>
    answers ++ [.evLast, .later, .ctx, .amc, .fam O.lpeStatus 64, .fam O.lpeTrState 4, .fam O.lpeTrCount 4,
     .fam O.amcState 6, .fam O.amcSpeed 6]
  | .amcStop =>
    answers ++ [.evLast, .later, .ctx, .amc, .fam O.lpeStatus 64, .fam O.lpeTrState 4, .fam O.lpeTrCount 4,
     .fam O.amcState 6, .fam O.amcSpeed 6, .fam O.amcFlags 6, .fam O.amcFault 6, .one O.amcParkState]
  | .amcMove =>
    answers ++ [.evLast, .later, .ctx, .amc, .fam O.lpeStatus 64, .fam O.lpeTrState 4, .fam O.lpeTrCount 4,
     .fam O.amcState 6, .fam O.amcSpeed 6, .fam O.amcFlags 6]
  | .parkEngage | .parkRelease =>
    answers ++ [.evLast, .later, .ctx, .amc, .fam O.lpeStatus 64, .fam O.lpeTrState 4, .fam O.lpeTrCount 4,
     .fam O.amcState 6, .fam O.amcSpeed 6, .fam O.amcFlags 6, .one O.amcParkState]
  | .bemfCrossing .. =>
    reports ++ [.disp, .ctx, .amc, .thm, .fam O.lpeOut 64, .fam O.lpeInteg 64, .fam O.lpeStatus 64,
     .fam O.lpeTrState 4, .fam O.lpeTrCount 4, .fam O.amcState 6, .fam O.amcSpeed 6, .fam O.amcPosition 6,
     .fam O.amcFlags 6, .fam O.amcFault 6, .one O.amcParkState]
  | .commutation .. | .stallDetect .. =>
    reports ++ [.disp, .ctx, .amc, .thm, .fam O.lpeStatus 64, .fam O.lpeTrState 4, .fam O.lpeTrCount 4,
     .fam O.amcSpeedReq 6, .fam O.amcState 6, .fam O.amcSpeed 6, .fam O.amcPosition 6, .fam O.amcFlags 6,
     .fam O.amcFault 6, .one O.amcParkState]
  | .amcPeakTrip .. | .brakeTimeout .. =>
    reports ++ [.disp, .ctx, .amc, .fam O.lpeStatus 64, .fam O.lpeTrState 4, .fam O.lpeTrCount 4, .fam O.amcState 6
     , .fam O.amcSpeed 6, .fam O.amcFlags 6, .fam O.amcFault 6, .one O.amcParkState]
  | .listenEnd .. =>
    reports ++ [.disp, .ctx, .amc, .thm, .fam O.lpeOut 64, .fam O.lpeInteg 64, .fam O.lpeStatus 64,
     .fam O.lpeTrState 4, .fam O.lpeTrCount 4, .fam O.amcSpeedReq 6, .fam O.amcState 6, .fam O.amcSpeed 6,
     .fam O.amcPosition 6, .fam O.amcFlags 6, .fam O.amcFault 6, .one O.amcParkState]
  | .brakePulseEnd .. =>
    [.amc]
  | .revWaitEnd .. | .alignEnd .. | .startRetryDelay .. | .curveEval .. =>
    reports ++ [.ctx, .amc, .fam O.lpeStatus 64, .fam O.lpeTrState 4, .fam O.lpeTrCount 4, .fam O.amcState 6,
     .fam O.amcSpeed 6]
  | .curveInputTimeout .. =>
    reports ++ [.ctx, .amc, .fam O.lpeStatus 64, .fam O.lpeTrState 4, .fam O.lpeTrCount 4, .fam O.amcState 6,
     .fam O.amcSpeed 6, .fam O.amcFlags 6]
  | .parkEngageClear =>
    reports ++ [.disp, .ctx, .amc, .fam O.lpeStatus 64, .fam O.lpeTrState 4, .fam O.lpeTrCount 4, .fam O.amcState 6
     , .fam O.amcSpeed 6, .fam O.amcFlags 6, .one O.amcParkState]
  | .parkRetry =>
    reports ++ [.ctx, .amc, .fam O.lpeStatus 64, .fam O.lpeTrState 4, .fam O.lpeTrCount 4, .fam O.amcState 6,
     .fam O.amcSpeed 6, .one O.amcParkState]
  | .handoverToPack .. =>
    reports ++ [.ctx, .rpk, .fam O.lpeStatus 64, .fam O.lpeTrState 4, .fam O.lpeTrCount 4, .one O.rpkState,
     .one O.rpkPath]
  | .pathSwitchTimer =>
    reports ++ [.ctx, .rpk, .fam O.lpeStatus 64, .fam O.lpeTrState 4, .fam O.lpeTrCount 4, .one O.rpkState,
     .one O.rpkPath, .one O.rpkFlags, .one O.rpkEnd, .one O.rpkChgTime]
  | .sourceDebounceEnd .. | .sourceAbsent .. =>
    [.rpk, .one O.rpkPath]
  | .sourceQualified .. =>
    reports ++ [.ctx, .rpk, .fam O.lpeStatus 64, .fam O.lpeTrState 4, .fam O.lpeTrCount 4, .one O.rpkState,
     .one O.rpkPath, .one O.rpkEnd, .one O.rpkChgTime]
  | .packCutoff =>
    reports ++ [.rpk, .pwr, .one O.rpkFlags]
  | .packSwitchOff =>
    [.rpk]
  | .packSeen | .rpkResume | .rpkLatePauseEnd =>
    reports ++ [.ctx, .rpk, .fam O.lpeStatus 64, .fam O.lpeTrState 4, .fam O.lpeTrCount 4, .one O.rpkState]
  | .packQualifyEnd | .packOvervoltTrip .. | .chargeCurrentLost .. =>
    reports ++ [.ctx, .rpk, .fam O.lpeStatus 64, .fam O.lpeTrState 4, .fam O.lpeTrCount 4, .one O.rpkState,
     .one O.rpkFlags]
  | .rechargeCheck =>
    reports ++ [.ctx, .rpk, .fam O.lpeStatus 64, .fam O.lpeTrState 4, .fam O.lpeTrCount 4, .one O.rpkState,
     .one O.rpkEnd, .one O.rpkChgTime]
  | .ndvCheck =>
    reports ++ [.ctx, .rpk, .fam O.lpeStatus 64, .fam O.lpeTrState 4, .fam O.lpeTrCount 4, .one O.rpkState,
     .one O.rpkFlags, .one O.rpkEnd, .one O.rpkChgTime]
  | .dtdtCheck =>
    reports ++ [.ctx, .rpk, .fam O.lpeStatus 64, .fam O.lpeTrState 4, .fam O.lpeTrCount 4, .one O.rpkState,
     .one O.rpkFlags, .one O.rpkEnd]
  | .rpkCharge =>
    answers ++ [.evLast, .later, .ctx, .rpk, .fam O.lpeStatus 64, .fam O.lpeTrState 4, .fam O.lpeTrCount 4,
     .one O.rpkState, .one O.rpkEnd, .one O.rpkChgTime]
  | .checkpoint .. =>
    reports ++ [.disp, .forceA, .forceB, .links, .trx, .ctx, .dcl, .ptg, .adc, .chg, .thm, .bst, .pwr,
     .one O.sysXingDropFlags, .one O.sysLateFlags, .fam O.trxState 4, .fam O.trxFault 4, .fam O.trxAngleSrc 4,
     .fam O.lpeStatus 64, .fam O.lpeTrState 4, .fam O.lpeTrCount 4, .fam O.adcStatus 12, .one O.chgState,
     .one O.chgInput, .one O.chgFlags, .one O.chgCause, .one O.chgIInLim, .one O.chgPIn, .one O.ptgState,
     .one O.ptgFlags, .one O.ptgFaultCause, .one O.ptgMisses, .one O.ptgSplitCopy, .one O.bstState, .one O.bstLast]
  | .checkpointMiss .. =>
    reports ++ [.disp, .forceA, .forceB, .links, .trx, .ctx, .ptg, .adc, .chg, .thm, .bst, .pwr,
     .one O.sysXingDropFlags, .one O.sysLateFlags, .fam O.trxState 4, .fam O.trxFault 4, .fam O.trxAngleSrc 4,
     .fam O.lpeStatus 64, .fam O.lpeTrState 4, .fam O.lpeTrCount 4, .fam O.adcStatus 12, .one O.chgState,
     .one O.chgInput, .one O.chgFlags, .one O.chgCause, .one O.chgIInLim, .one O.chgPIn, .one O.ptgState,
     .one O.ptgFlags, .one O.ptgFaultCause, .one O.ptgMisses, .one O.ptgSplitCopy, .one O.bstState, .one O.bstLast]
  | .windowCompare =>
    reports ++ [.disp, .forceA, .forceB, .links, .trx, .ctx, .ptg, .adc, .chg, .upd, .thm, .bst, .pwr,
     .one O.sysXingDropFlags, .one O.updIl, .one O.updBusy, .fam O.updRunning 6, .fam O.updSpare 6,
     .fam O.updState 6, .fam O.trxState 4, .fam O.trxFault 4, .fam O.trxAngleSrc 4, .fam O.lpeStatus 64,
     .fam O.lpeTrState 4, .fam O.lpeTrCount 4, .fam O.adcStatus 12, .one O.chgState, .one O.chgInput,
     .one O.chgFlags, .one O.chgCause, .one O.chgIInLim, .one O.chgPIn, .one O.ptgState, .one O.ptgFlags,
     .one O.ptgFaultCause, .one O.ptgSoftCount, .one O.ptgWindows, .one O.ptgLastSig, .one O.ptgSplitCopy,
     .one O.bstState, .one O.bstLast]
  | .ptgSplit | .ptgJoin =>
    answers ++ [.ptg]
  | .ptgClear =>
    answers ++ [.evLast, .later, .forceA, .forceB, .links, .ptg, .one O.sysXingDropFlags, .fam O.trxState 4,
     .one O.ptgFaultCause]
  | .splitMaxExpiry =>
    [.ptg]
  | .thermalSample .. =>
    reports ++ [.disp, .forceA, .forceB, .links, .trx, .ctx, .ptg, .adc, .chg, .aux, .amc, .thm, .bst, .pwr,
     .one O.sysXingDropFlags, .one O.thmState, .one O.thmFlags, .one O.thmJunction, .one O.thmTripLatch,
     .fam O.thmT 72, .fam O.trxState 4, .fam O.trxFault 4, .fam O.trxAngleSrc 4, .fam O.lpeStatus 64,
     .fam O.lpeTrState 4, .fam O.lpeTrCount 4, .fam O.adcStatus 12, .one O.chgState, .one O.chgInput,
     .one O.chgFlags, .one O.chgCause, .one O.chgIInLim, .one O.chgPIn, .one O.auxState, .one O.auxFlags,
     .one O.auxCause, .one O.auxPhaseState, .fam O.amcState 6, .fam O.amcSpeed 6, .fam O.amcFlags 6,
     .fam O.amcFault 6, .one O.amcParkState, .one O.bstState, .one O.bstLast]
  | .sampleRateRelax .. =>
    [.thm]
  | .pauseEnd .. =>
    reports ++ [.ctx, .amc, .thm, .fam O.lpeStatus 64, .fam O.lpeTrState 4, .fam O.lpeTrCount 4, .fam O.amcState 6
     , .fam O.amcSpeed 6]
  | .bstCycleStart =>
    answers ++ [.evLast, .later, .ptg, .adc, .bst, .fam O.adcStatus 12, .fam O.adcInjFree 12, .one O.adcCalResult,
     .one O.bstState, .one O.bstCycles, .one O.bstLast]
  | .bstInstanceDone .. =>
    answers ++ [.evLast, .later, .ptg, .adc, .bst, .fam O.adcStatus 12, .fam O.adcInjFree 12, .one O.adcCalResult,
     .one O.bstState, .one O.bstFailed, .one O.bstLast]
  | .bstRun =>
    answers ++ [.evLast, .later, .ptg, .adc, .bst, .fam O.adcStatus 12, .fam O.adcInjFree 12, .one O.adcCalResult,
     .one O.bstState]
  | .patinaStep .. =>
    reports ++ [.free, .sec, .thm, .patina, .one O.logHead, .one O.logChain, .one O.logCount, .one O.logQueued,
     .fam O.memStatus 4, .fam O.memPasses 4, .one O.memSparesFree, .one O.memWipeCause]
  | .memCorrectedError .. =>
    [.sent, .hosts, .later, .hpn, .patina, .fam O.memStatus 4]
  | .memParityError .. =>
    reports ++ [.fam O.memStatus 4]
  | .canFrameReceived .. | .pgDatagramReceived .. =>
    reports ++ [.dirty, .free, .disp, .forceA, .forceB, .links, .trx, .ctx, .dcl, .ptg, .adc, .pos, .chg, .aux,
     .amc, .rpk, .sec, .thm, .net, .allObjs]
  | .canErrorPassive .. =>
    reports ++ [.fam O.netCanStatus 4]
  | .canBusOff .. | .canBusOffRecovery .. | .claimWaitEnd .. =>
    reports ++ [.disp, .net, .one O.sysLateFlags, .one O.netSessions, .one O.netCycSkipped, .fam O.netCanAddr 4,
     .fam O.netCanStatus 4]
  | .cannotClaimDelay .. =>
    reports ++ [.disp, .net]
  | .ilAnnounce .. | .tpTimeout .. =>
    [.disp, .net, .one O.sysLateFlags, .one O.netSessions, .one O.netCycSkipped]
  | .ethLinkChange .. =>
    reports ++ [.disp, .net, .one O.sysLateFlags, .one O.netSessions, .one O.netCycSkipped, .fam O.netEthStatus 4]
  | .plcaBeaconLoss .. =>
    reports ++ [.net, .fam O.netEthStatus 4]
  | .plcaBeaconRegained .. | .partnerTimeout .. =>
    reports ++ [.net]
  | .mapTxCycle .. =>
    [.free, .disp, .net, .one O.sysLateFlags, .one O.netSessions, .one O.netCycSkipped]
  | .mapTxExpired .. =>
    [.net, .one O.sysLateFlags, .one O.netSessions, .one O.netCycSkipped]
  | .mapRxTimeout .. =>
    reports ++ [.net, .one O.netFlags, .one O.netRxTimeouts]
  | .netTxDone .. =>
    [.sent, .disp, .thm, .net, .one O.sysLateFlags, .one O.netSessions, .one O.netCycSkipped]
  | .netCanRestart =>
    answers ++ [.evLast, .later, .net, .one O.sysLateFlags, .one O.netSessions, .one O.netCycSkipped,
     .fam O.netCanAddr 4, .fam O.netCanStatus 4]
  | .netClaim =>
    answers ++ [.net, .one O.sysLateFlags, .one O.netSessions, .one O.netCycSkipped, .fam O.netCanAddr 4,
     .fam O.netCanStatus 4]
  | .netPartnerPin =>
    answers ++ [.net]
  | .netSend =>
    answers ++ [.net, .one O.sysLateFlags, .one O.netSessions, .one O.netCycSkipped]
  | .sessionOpen | .sessionClose =>
    answers ++ [.evLast, .later, .sec, .one O.secSession, .one O.logHead, .one O.logChain, .one O.logCount,
     .one O.logQueued]
  | .tokenVerifyDone .. =>
    reports ++ [.disp, .sec, .thm, .one O.secSession, .one O.logHead, .one O.logChain, .one O.logCount,
     .one O.logQueued]
  | .sessionIdleTimeout .. =>
    reports ++ [.sec, .thm, .one O.secSession, .one O.logHead, .one O.logChain, .one O.logCount, .one O.logQueued]
  | .secLcStep =>
    answers ++ [.evLast, .free, .later, .sec, .one O.secSession, .one O.logHead, .one O.logChain, .one O.logCount,
     .one O.logQueued, .fam O.memStatus 4, .one O.memWipeCause]
  | .lcStepDone =>
    reports ++ [.flash, .dirty, .disp, .sec, .allObjs]
  | .secMakerKey =>
    answers ++ [.evLast, .later, .sec, .one O.logHead, .one O.logChain, .one O.logCount, .one O.logQueued]
  | .secAttest | .tetasStage | .tetasInstall =>
    answers ++ [.sec]
  | .attestDone =>
    answers ++ [.evLast, .later, .sec, .one O.secAttEpoch, .one O.secAttNext, .one O.logHead, .one O.logChain,
     .one O.logCount, .one O.logQueued]
  | .keyDerivationDone =>
    reports ++ [.sec, .thm, .one O.secAttPub, .one O.secAttNext, .one O.secIdNext, .one O.logHead, .one O.logChain
     , .one O.logCount, .one O.logQueued]
  | .tetasInstallDone =>
    reports ++ [.flash, .dirty, .disp, .forceA, .forceB, .links, .trx, .ctx, .dcl, .ptg, .adc, .pos, .chg, .aux,
     .amc, .rpk, .sec, .thm, .net, .allObjs]
  | .auditQueueFlush =>
    [.sec, .thm, .one O.logHead, .one O.logChain, .one O.logCount, .one O.logQueued]
  | .tamperDetect .. | .vstbyLoss | .brownout | .pinReset | .deepEntryComplete =>
    everything
  | .updBegin =>
    answers ++ [.evLast, .later, .upd, .one O.thmFlags, .one O.updIl, .fam O.updRunning 6, .fam O.updSpare 6,
     .fam O.updState 6]
  | .updWrite =>
    answers ++ [.evLast, .later, .upd, .one O.thmFlags, .one O.updIl, .fam O.updRunning 6, .fam O.updSpare 6,
     .fam O.updReceived 6]
  | .updVerify =>
    answers ++ [.upd]
  | .updActivate | .updRollback =>
    answers ++ [.evLast, .later, .forceA, .forceB, .links, .upd, .net, .one O.updBusy, .fam O.updState 6]
  | .updCommit =>
    answers ++ [.evLast, .flash, .later, .sec, .upd, .one O.thmFlags, .one O.logHead, .one O.logChain,
     .one O.logCount, .one O.logQueued, .one O.updIl, .one O.updBusy, .fam O.updRunning 6, .fam O.updSpare 6,
     .fam O.updState 6, .fam O.updReceived 6, .fam O.updSecFloor 6]
  | .updAbort =>
    answers ++ [.upd, .one O.updIl, .fam O.updRunning 6, .fam O.updSpare 6, .fam O.updState 6,
     .fam O.updReceived 6]
  | .updFlashDone .. =>
    reports ++ [.free, .disp, .upd, .thm, .one O.thmFlags, .one O.updIl, .fam O.updRunning 6, .fam O.updSpare 6,
     .fam O.updState 6, .fam O.updReceived 6]
  | .activationDone .. =>
    reports ++ [.free, .disp, .xmem, .forceA, .forceB, .links, .cgs, .trx, .ctx, .tb, .traceReads, .dcl, .ptg, .adc
     , .pos, .prb, .aux, .amc, .sec, .upd, .thm, .pwr, .net, .allObjs]
  | .coldReset =>
    [.axt, .follow, .sec, .pwr]
  | .keepaliveCtrRelease .. =>
    [.dcl]
  | .vmainReturn .. =>
    answers ++ [.evLast, .axt, .follow, .later, .forceA, .forceB, .links, .trx, .ctx, .ptg, .adc, .chg, .aux, .amc
     , .bst, .pwr, .allObjs]
  | .vioBankLoss .. =>
    answers ++ [.evLast, .later, .ctx, .ptg, .adc, .amc, .sec, .pwr, .one O.sysHostPresent,
     .one O.sysHostLeaseOwner, .one O.secSession, .one O.logHead, .one O.logChain, .one O.logCount,
     .one O.logQueued, .fam O.lpeStatus 64, .fam O.amcFlags 6]
  | .bootComplete .. =>
    reports ++ [.free, .disp, .cgs, .ctx, .dcl, .ptg, .aux, .amc, .rpk, .sec, .upd, .thm, .pwr, .net,
     .one O.sysXingDropFlags, .one O.sysLateFlags, .one O.pwrState, .one O.pwrTarget, .one O.pwrLimit,
     .one O.secAttEpoch, .one O.secAttNext, .one O.secTamperCause, .one O.logHead, .one O.logChain, .one O.logCount
     , .one O.logQueued, .one O.updIl, .one O.updBusy, .fam O.updRunning 6, .fam O.updSpare 6, .fam O.updState 6,
     .fam O.updReceived 6, .one O.netSessions, .one O.netCycSkipped, .fam O.netCanAddr 4, .fam O.netCanStatus 4,
     .fam O.lpeStatus 64, .fam O.lpeTrState 4, .fam O.lpeTrCount 4, .fam O.amcState 6, .fam O.amcSpeed 6,
     .one O.rpkState, .one O.bstState, .fam O.memStatus 4, .one O.memWipeCause]
  | .powerStateChoice .. =>
    reports ++ [.cgs, .ctx, .rpk, .pwr, .one O.pwrState, .one O.pwrTarget, .one O.pwrLimit, .one O.pwrVmain,
     .one O.pwrVstby, .fam O.lpeStatus 64, .fam O.lpeTrState 4, .fam O.lpeTrCount 4, .one O.rpkState,
     .one O.bstState]
  | .dwellExpiry =>
    reports ++ [.ctx, .rpk, .pwr, .fam O.lpeStatus 64, .fam O.lpeTrState 4, .fam O.lpeTrCount 4, .one O.rpkState]
  | .wakeEvent .. =>
    reports ++ [.axt, .follow, .pwr, .one O.pwrState, .one O.pwrTarget, .one O.pwrWakeCause]
  | .wakeTimer =>
    [.axt, .follow, .pwr, .one O.pwrState, .one O.pwrTarget, .one O.pwrWakeCause]
  | .wakeHoldEnd =>
    reports ++ [.cgs, .ctx, .rpk, .pwr, .one O.pwrState, .one O.pwrTarget, .one O.pwrLimit, .fam O.lpeStatus 64,
     .fam O.lpeTrState 4, .fam O.lpeTrCount 4, .one O.rpkState, .one O.bstState]
  | .pwrEndHold =>
    answers ++ [.evLast, .later, .cgs, .ctx, .rpk, .pwr, .one O.pwrState, .one O.pwrTarget, .one O.pwrLimit,
     .fam O.lpeStatus 64, .fam O.lpeTrState 4, .fam O.lpeTrCount 4, .one O.rpkState, .one O.bstState]
  | .plinthPackHandover .. =>
    [.axt, .follow, .rpk, .pwr, .one O.pwrState, .one O.pwrTarget, .one O.pwrWakeCause, .one O.rpkPath]
  | .napSpeedSample .. =>
    reports ++ [.links, .cgs, .trx, .ctx, .amc, .rpk, .pwr, .one O.pwrState, .one O.pwrTarget, .one O.pwrLimit,
     .one O.pwrWakeCause, .fam O.trxSpeed 4, .fam O.trxRule 4, .fam O.lpeStatus 64, .fam O.lpeTrState 4,
     .fam O.lpeTrCount 4, .one O.rpkState, .one O.bstState]
  | .xtalReturn | .pllRelock .. =>
    [.clk, .one O.sysClkStatus]
  | .vioBankReturn .. =>
    [.pwr]
  | .debugTapAccess .. | .arpOrIcmpEchoRequest .. =>
    [.sent]

/-- The groups of commands, by the chapter that rules them. -/
inductive Chapter where
  | clocks | hosts | gateLinks | traction | loop | converters | position | dcLink | charger | auxiliary
  | motors | pack | pointing | thermal | memories | power | security | update | network
  deriving DecidableEq, Repr

/-- The chapter of a command. -/
def chapterOf : Instr → Chapter
  | .xtalLoss | .clockRecoveryComplete | .pllUnlock .. | .referenceTrim .. | .controlWordTimeout ..
  | .xtalReturn | .pllRelock .. => .clocks
  | .doorbellWrite .. | .complWrite .. | .slotWrite .. | .evtTailWrite .. | .evtLostWrite ..
  | .heartbeatWrite .. | .hostReset .. | .axtLoRead .. | .registerWrite .. | .xmemAccess .. | .commandAccept
  | .commandComplete | .getObj | .setObj | .setObjBatch | .getObjBlock | .commit | .commitDone | .claimGroup
  | .releaseGroup | .withdraw | .safetyOverride | .leaseTimeout .. | .safetyHostLapse | .hpnPost ..
  | .hpnRelease .. | .hpnEventAck .. | .hpnHeartbeat .. | .hpnHello .. | .hpnReset .. | .hpnEventResend
  | .hpnChannelTimeout => .hosts
  | .carrierPeriodStart .. | .planCutoff .. | .trainingStart .. | .trainingStepEnd .. | .linkRetrainTimer ..
  | .ctleAdapt .. | .echoTick | .echoReplyReceived .. | .edgeTelReceived .. | .statReceived ..
  | .alarmReceived .. | .regReplyReceived .. | .regReplyTimeout .. | .statTimeout .. | .edgeTelTimeout ..
  | .upstreamSymbolLoss .. | .forceResend | .glkTrain | .glkClearDriver => .gateLinks
  | .torqueTick | .tractionSample .. | .observerReturn .. | .setpointAged .. | .fwLimitEngage ..
  | .fwLimitRelease .. | .timedRequestAtCt | .presetAtCt .. | .firstPlannedPeriod .. | .magnetisingEnd ..
  | .trxEnable | .trxDisable | .trxSetTorqueAt | .trxSetReturn | .setAutoReturn .. | .returnRampEnd .. => .traction
  | .contextTrigger .. | .contextDispatch | .contextCommit .. | .loopDeadlineMiss .. | .lpeEnable | .lpeDisable
  | .lpeBankSwap | .lpePreset | .lpeTraceArm | .lpeTraceStop | .lpeTraceRead | .traceReadDone .. => .loop
  | .samplingTrigger .. | .adcConversionDone .. | .injectArrival .. | .injectedResult ..
  | .calAcquisitionDone .. | .adcInject | .adcSeqStart | .adcCal | .refMonitorCheck .. => .converters
  | .quadratureChange .. | .indexEdge .. | .hallChange .. | .positionSample .. | .standstillTimeout ..
  | .resolverPeriod .. | .ssiFrameDone .. | .sentFrameReceived .. | .sentStale .. | .portRecover .. | .posClear
  | .posProbeArm | .posProbeRead | .probeEdge .. => .position
  | .dclClose | .dclOpen | .dclChopClear | .dclHwovClear | .closeStepTimer | .prechargeTimeout | .openingStep
  | .linkVoltageSample | .ovaEnd | .linkSourceTimeout .. | .linkSourceMismatch | .hvilOpen | .hvilClosed
  | .bmsStale | .hwOvTrip | .hwOvAsc => .dcLink
  | .chgStart | .chgStop | .chgResearch | .pilotEdge .. | .pilotRiseHold | .proximityTick | .lineCycleMeasure
  | .qualifyEnd | .qualifyNoAc | .chgSelSettle | .searchStepEnd | .sourceCut | .sourceProbe | .pvPoTick
  | .pvLimitExit | .pvSweepStart | .pvSweepEnd | .batTempStale | .chgStopComplete | .chgResume => .charger
  | .auxStart | .auxStop | .auxClear | .ssTimeout | .hiccupEnd | .restartCountClear | .overloadTimeout
  | .phasePeakTrip .. | .overshootTrip | .chiselRelease | .undershootTrip | .bandHoldMet | .shedWaitExpiry
  | .burstEntry | .auxSyncEdge .. | .syncLost | .syncHoldEnd | .trimEngage | .auxPhaseRejoin .. | .auxInputLow
  | .auxAutoRestart => .auxiliary
  | .amcStart | .amcStop | .amcMove | .amcHome | .parkEngage | .parkRelease | .amcClear | .bemfCrossing ..
  | .commutation .. | .amcPeakTrip .. | .listenEnd .. | .brakePulseEnd .. | .brakeTimeout .. | .revWaitEnd ..
  | .alignEnd .. | .startRetryDelay .. | .stallDetect .. | .curveEval .. | .curveInputTimeout ..
  | .parkEngageClear | .parkRetry => .motors
  | .handoverToPack .. | .pathSwitchTimer | .sourceDebounceEnd .. | .sourceQualified .. | .packCutoff
  | .packSwitchOff | .packSeen | .packQualifyEnd | .rechargeCheck | .rpkResume | .ndvCheck | .dtdtCheck
  | .packOvervoltTrip .. | .chargeCurrentLost .. | .rpkCharge | .sourceAbsent .. | .rpkLatePauseEnd => .pack
  | .checkpoint .. | .checkpointMiss .. | .windowCompare | .ptgSplit | .ptgJoin | .ptgClear | .splitMaxExpiry => .pointing
  | .thermalSample .. | .sampleRateRelax .. | .pauseEnd .. => .thermal
  | .bstCycleStart | .bstInstanceDone .. | .bstRun | .patinaStep .. | .memCorrectedError ..
  | .memUncorrectableError .. | .memParityError .. => .memories
  | .tamperDetect .. | .coldReset | .vstbyLoss | .brownout | .keepaliveCtrRelease .. | .vmainReturn ..
  | .pinReset | .watchdogExpiry .. | .vioBankLoss .. | .bootComplete .. | .powerStateChoice .. | .dwellExpiry
  | .deepEntryComplete | .wakeEvent .. | .wakeTimer | .wakeHoldEnd | .pwrEndHold | .plinthPackHandover ..
  | .napSpeedSample .. | .vioBankReturn .. | .debugTapAccess .. => .power
  | .sessionOpen | .sessionClose | .tokenVerifyDone .. | .sessionIdleTimeout .. | .secLcStep | .lcStepDone
  | .secMakerKey | .secAttest | .attestDone | .secGetCert | .keyDerivationDone | .tetasStage | .tetasInstall
  | .tetasInstallDone | .logRead | .auditQueueFlush => .security
  | .updBegin | .updWrite | .updVerify | .updActivate | .updCommit | .updRollback | .updAbort | .updFlashDone ..
  | .activationDone .. => .update
  | .canFrameReceived .. | .pgDatagramReceived .. | .canErrorPassive .. | .canBusOff .. | .canBusOffRecovery ..
  | .claimWaitEnd .. | .cannotClaimDelay .. | .ilAnnounce .. | .ethLinkChange .. | .plcaBeaconLoss ..
  | .plcaBeaconRegained .. | .partnerTimeout .. | .tpTimeout .. | .mapTxCycle .. | .mapTxExpired ..
  | .mapRxTimeout .. | .netTxDone .. | .netCanRestart | .netClaim | .netPartnerRead | .netPartnerPin | .netSend
  | .arpOrIcmpEchoRequest .. => .network

/-- The code of the mailbox command whose run a row is (R59, R66): none for the rows that no mailbox command brings, and for
WITHDRAW, which any code with its flag is (R62). -/
def rowCode : Instr → Option Nat
  | .trxEnable => some 0x0310
  | .trxDisable => some 0x0311
  | .trxSetTorqueAt => some 0x0312
  | .trxSetReturn => some 0x0313
  | .lpeEnable => some 0x0401
  | .lpeDisable => some 0x0402
  | .lpeBankSwap => some 0x0403
  | .lpePreset => some 0x0404
  | .lpeTraceArm => some 0x0410
  | .lpeTraceStop => some 0x0411
  | .lpeTraceRead => some 0x0412
  | .adcSeqStart => some 0x0502
  | .adcCal => some 0x0503
  | .posClear => some 0x0510
  | .posProbeArm => some 0x0511
  | .posProbeRead => some 0x0512
  | .glkTrain => some 0x0301
  | .glkClearDriver => some 0x0302
  | .getObj => some 0x0101
  | .setObj => some 0x0102
  | .setObjBatch => some 0x0103
  | .getObjBlock => some 0x0104
  | .commit => some 0x0105
  | .claimGroup => some 0x0110
  | .releaseGroup => some 0x0111
  | .safetyOverride => some 0x0130
  | .dclClose => some 0x0320
  | .dclOpen => some 0x0321
  | .dclChopClear => some 0x0322
  | .dclHwovClear => some 0x0323
  | .chgStart => some 0x0601
  | .chgStop => some 0x0602
  | .chgResearch => some 0x0603
  | .auxStart => some 0x0701
  | .auxStop => some 0x0702
  | .auxClear => some 0x0703
  | .amcStart => some 0x0710
  | .amcStop => some 0x0711
  | .amcMove => some 0x0712
  | .amcHome => some 0x0713
  | .parkEngage => some 0x0714
  | .parkRelease => some 0x0715
  | .amcClear => some 0x0716
  | .rpkCharge => some 0x0610
  | .ptgSplit => some 0x0801
  | .ptgJoin => some 0x0802
  | .ptgClear => some 0x0803
  | .bstRun => some 0x0810
  | .netCanRestart => some 0x0901
  | .netClaim => some 0x0902
  | .netPartnerRead => some 0x0903
  | .netPartnerPin => some 0x0904
  | .netSend => some 0x0905
  | .sessionOpen => some 0x0120
  | .sessionClose => some 0x0121
  | .secLcStep => some 0x0A01
  | .secMakerKey => some 0x0A07
  | .secAttest => some 0x0A02
  | .secGetCert => some 0x0A03
  | .tetasStage => some 0x0A04
  | .tetasInstall => some 0x0A05
  | .logRead => some 0x0A06
  | .updBegin => some 0x0A10
  | .updWrite => some 0x0A11
  | .updVerify => some 0x0A12
  | .updActivate => some 0x0A13
  | .updCommit => some 0x0A14
  | .updRollback => some 0x0A15
  | .updAbort => some 0x0A16
  | .pwrEndHold => some 0x0201
  | .xtalLoss | .clockRecoveryComplete | .pllUnlock .. | .referenceTrim .. | .controlWordTimeout ..
  | .carrierPeriodStart .. | .planCutoff .. | .torqueTick | .tractionSample .. | .observerReturn ..
  | .setpointAged .. | .fwLimitEngage .. | .fwLimitRelease .. | .timedRequestAtCt | .presetAtCt ..
  | .firstPlannedPeriod .. | .magnetisingEnd .. | .setAutoReturn .. | .returnRampEnd .. | .contextTrigger ..
  | .contextDispatch | .contextCommit .. | .loopDeadlineMiss .. | .traceReadDone .. | .samplingTrigger ..
  | .adcConversionDone .. | .injectArrival .. | .injectedResult .. | .calAcquisitionDone .. | .adcInject
  | .refMonitorCheck .. | .quadratureChange .. | .indexEdge .. | .hallChange .. | .positionSample ..
  | .standstillTimeout .. | .resolverPeriod .. | .ssiFrameDone .. | .sentFrameReceived .. | .sentStale ..
  | .portRecover .. | .probeEdge .. | .trainingStart .. | .trainingStepEnd .. | .linkRetrainTimer ..
  | .ctleAdapt .. | .echoTick | .echoReplyReceived .. | .edgeTelReceived .. | .statReceived ..
  | .alarmReceived .. | .regReplyReceived .. | .regReplyTimeout .. | .statTimeout .. | .edgeTelTimeout ..
  | .upstreamSymbolLoss .. | .forceResend | .doorbellWrite .. | .complWrite .. | .slotWrite ..
  | .evtTailWrite .. | .evtLostWrite .. | .heartbeatWrite .. | .hostReset .. | .axtLoRead .. | .registerWrite ..
  | .xmemAccess .. | .commandAccept | .commandComplete | .commitDone | .withdraw | .leaseTimeout ..
  | .safetyHostLapse | .hpnPost .. | .hpnRelease .. | .hpnEventAck .. | .hpnHeartbeat .. | .hpnHello ..
  | .hpnReset .. | .hpnEventResend | .hpnChannelTimeout | .closeStepTimer | .prechargeTimeout | .openingStep
  | .linkVoltageSample | .ovaEnd | .linkSourceTimeout .. | .linkSourceMismatch | .hvilOpen | .hvilClosed
  | .bmsStale | .hwOvTrip | .hwOvAsc | .pilotEdge .. | .pilotRiseHold | .proximityTick | .lineCycleMeasure
  | .qualifyEnd | .qualifyNoAc | .chgSelSettle | .searchStepEnd | .sourceCut | .sourceProbe | .pvPoTick
  | .pvLimitExit | .pvSweepStart | .pvSweepEnd | .batTempStale | .chgStopComplete | .chgResume | .ssTimeout
  | .hiccupEnd | .restartCountClear | .overloadTimeout | .phasePeakTrip .. | .overshootTrip | .chiselRelease
  | .undershootTrip | .bandHoldMet | .shedWaitExpiry | .burstEntry | .auxSyncEdge .. | .syncLost | .syncHoldEnd
  | .trimEngage | .auxPhaseRejoin .. | .auxInputLow | .auxAutoRestart | .bemfCrossing .. | .commutation ..
  | .amcPeakTrip .. | .listenEnd .. | .brakePulseEnd .. | .brakeTimeout .. | .revWaitEnd .. | .alignEnd ..
  | .startRetryDelay .. | .stallDetect .. | .curveEval .. | .curveInputTimeout .. | .parkEngageClear
  | .parkRetry | .handoverToPack .. | .pathSwitchTimer | .sourceDebounceEnd .. | .sourceQualified ..
  | .packCutoff | .packSwitchOff | .packSeen | .packQualifyEnd | .rechargeCheck | .rpkResume | .ndvCheck
  | .dtdtCheck | .packOvervoltTrip .. | .chargeCurrentLost .. | .checkpoint .. | .checkpointMiss ..
  | .windowCompare | .splitMaxExpiry | .thermalSample .. | .sampleRateRelax .. | .pauseEnd .. | .bstCycleStart
  | .bstInstanceDone .. | .patinaStep .. | .memCorrectedError .. | .memUncorrectableError ..
  | .memParityError .. | .canFrameReceived .. | .pgDatagramReceived .. | .canErrorPassive .. | .canBusOff ..
  | .canBusOffRecovery .. | .claimWaitEnd .. | .cannotClaimDelay .. | .ilAnnounce .. | .ethLinkChange ..
  | .plcaBeaconLoss .. | .plcaBeaconRegained .. | .partnerTimeout .. | .tpTimeout .. | .mapTxCycle ..
  | .mapTxExpired .. | .mapRxTimeout .. | .netTxDone .. | .tokenVerifyDone .. | .sessionIdleTimeout ..
  | .lcStepDone | .attestDone | .keyDerivationDone | .tetasInstallDone | .auditQueueFlush | .tamperDetect ..
  | .updFlashDone .. | .activationDone .. | .coldReset | .vstbyLoss | .brownout | .keepaliveCtrRelease ..
  | .vmainReturn .. | .pinReset | .watchdogExpiry .. | .vioBankLoss .. | .bootComplete .. | .powerStateChoice ..
  | .dwellExpiry | .deepEntryComplete | .wakeEvent .. | .wakeTimer | .wakeHoldEnd | .plinthPackHandover ..
  | .napSpeedSample .. | .xtalReturn | .pllRelock .. | .sourceAbsent .. | .rpkLatePauseEnd | .vioBankReturn ..
  | .debugTapAccess .. | .arpOrIcmpEchoRequest .. => none

end Sys2Proof.Machine
end

