-- ==== Sys2Proof/Machine/PortView.lean ====
section
/-! DEFINITION. What a read of a host port returns (R53, R55 to R57, R59, R70, R88): the register block, the slots, the ring and the
exchange memory. A read has no row of its own but AXT_LO's, which latches AXT_HI. -/

namespace Sys2Proof.Machine

/-- SLOT_STATE's code of a slot state (R55). -/
def SlotSt.code : SlotSt → Nat
  | .free => 0
  | .posted => 1
  | .accepted => 2
  | .done => 3

namespace State

/-- COMPL: the DONE slots (R55). -/
def complReg (s : State) (h : Fin 4) : Nat :=
  (List.finRange 8).foldl (fun a k => if s.hosts[h].slots[k].st = .done then a + 2 ^ k.val else a) 0

/-- SLOT_STATE (R55). -/
def slotStateReg (s : State) (h : Fin 4) : Nat :=
  (List.finRange 8).foldl (fun a k => a + s.hosts[h].slots[k].st.code * 4 ^ k.val) 0

/-- A force-vector override is in effect (R56). -/
def safeNow (s : State) : Bool := (List.finRange 40).any fun l => s.scAct l != .hold

/-- HP_STATUS (R56). -/
def statusReg (s : State) (h : Fin 4) : Nat :=
  let p := s.hosts[h]
  let k := p.sticky
  let b (v : Bool) (n : Nat) : Nat := if v then 2 ^ n else 0
  b s.disp.ready 31 + b s.disp.booting 30 + b s.safeNow 29 + b k.ringErr 24 + (if s.disp.booting then 0 else s.ilOf 4 % 256 * 2 ^ 16) +
    b (p.head != p.tail) 15 + b (s.complReg h != 0) 14 + b k.coll 13 + b k.wrIgn 12 + b k.dbErr 11 + b k.leaseLost 10 + b k.hbLapsed 9 +
    b k.evtOvf 8

/-- A register of the block (R55). -/
def portReg (s : State) (h : Fin 4) (off : Nat) : Nat :=
  let p := s.hosts[h]
  if off = 0x00 then 0x4164C000 + h.val * 0x10
  else if off = 0x04 then s.statusReg h
  else if off = 0x08 then p.irqEn.toNat
  else if off = 0x10 then s.complReg h
  else if off = 0x14 then s.slotStateReg h
  else if off = 0x18 then p.head
  else if off = 0x1C then p.tail
  else if off = 0x20 then p.lost
  else if off = 0x28 then p.xcollAddr.toNat
  else if off = 0x2C then (s.followerStamp .hf).toNat % 2 ^ 32
  else if off = 0x30 then p.axtHi.toNat
  else if off = 0x34 then (if p.quad && h.val < 2 then 1 else 0)
  else if off = 0x38 then p.scratch.toNat
  else 0

/-- One byte of a slot (R59). -/
def slotByte (s : State) (h : Fin 4) (k : Fin 8) (off : Nat) : Byte :=
  let x := s.hosts[h].slots[k]
  if off < 4108 then x.mem.read off
  else if 0x1100 ≤ off ∧ off < 0x1110 then (toLe 8 x.acceptAxt.toNat ++ toLe 8 x.doneAxt.toNat).getD (off - 0x1100) 0
  else 0

/-- One byte of a port's address map (R53); unmapped addresses, and the exchange memory on HPC, read 0. -/
def portByte (s : State) (h : Fin 4) (a : Nat) : Byte :=
  if a < 0x40 then (toLe 4 (s.portReg h (a / 4 * 4))).getD (a % 4) 0
  else if 0x10000 ≤ a ∧ a < 0x10000 + 8 * 0x1200 then
    s.slotByte h ⟨(a - 0x10000) / 0x1200 % 8, Nat.mod_lt _ (by decide)⟩ ((a - 0x10000) % 0x1200)
  else if 0x20000 ≤ a ∧ a < 0x20400 then
    (s.hosts[h].ring[(a - 0x20000) / 16 % 64]'(Nat.mod_lt _ (by decide))).bytes.getD (a % 16) 0
  else if 0x40000 ≤ a ∧ a < 0x60000 ∧ h.val < 2 then (s.xmem.readN (a - 0x40000) 1).getD 0 0
  else 0

end State

end Sys2Proof.Machine
end

