-- ==== Sys2Proof/WellFormed.lean ====
section
/-! DEFINITION. Which commands the hardware can carry. The types of the operands bound every number the spec bounds; the one
check left is that a CAN frame fits its format. -/

namespace Sys2Proof

/-- The operands are ones that the block's buses can carry: a CAN frame has a data length its format carries, and a base
frame an 11-bit identifier (R460). Every other row carries its operands by their types. -/
def Instr.wellFormed : Instr → Bool
  | .canFrameReceived _ ext fmt id data => Machine.canFrameFits fmt ext id data.length
  | _ => true

end Sys2Proof
end

