-- ==== Sys2Proof/Certificates/Slice0/Obligations.lean ====
section
/-! DEFINITION. The statements about the EZ4164. A completion statement says, for each command it names, a condition on the state and the
operands under which `exec` answers a next state, and what that state holds; the frames say what each command leaves unchanged. -/

open Sys2Proof.Machine
open Sys2Proof

/-! ### The step, reset and every command -/

/-- A step runs the command at the front of the queue on the state with the queue's rest (the model's queue, log 1). -/
def Obligations.StepRunsFront : Prop := ∀ (s : State) (c : Instr) (rest : List Instr),
  step { s with pending := c :: rest } = exec c { s with pending := rest }

/-- R25 to R27: on an empty queue one tick of axle time passes, and no follower steps back; at a multiple of 1,024 ticks each follower that
does not stand above CT's count takes it (log 1, log 12). While CT is stopped in PARK or SEALED one cycle of the Plinth oscillator passes; while VSTBY is
lost nothing does. Nothing else changes. -/
def Obligations.IdleStepPassesTime : Prop := ∀ s : State, s.pending = [] →
  (s.pwr.asleep = false → s.pwr.vstby = true → ∃ t, step s = .next t ∧ t.axt = s.axt + 1 ∧ Keeps [.axt, .follow] s t ∧
    ∀ i : Fin 5, (s.follow[i]).toNat ≤ (t.follow[i]).toNat ∧
      (t.axt.toNat % 1024 = 0 → (s.follow[i]).toNat ≤ t.axt.toNat → t.follow[i] = t.axt)) ∧
  (s.pwr.asleep = false → s.pwr.vstby = false → step s = .next s) ∧
  (s.pwr.asleep = true → ∃ t, step s = .next t ∧ t.pwr.cycles = s.pwr.cycles + 1 ∧ t.axt = s.axt ∧ Keeps [.pwr] s t)

/-- R56, R65, R70, R77, R307: after reset HF is BOOTING and not READY, every slot is FREE, every ring empty, no group owned, the contactors
OPEN, every link OFF, and axle time 0; nothing waits. -/
def Obligations.ResetLeaves : Prop :=
  State.reset.disp.ready = false ∧ State.reset.disp.booting = true ∧ State.reset.axt = 0 ∧ State.reset.pending = [] ∧
  (∀ (h : Fin 4) (k : Fin 8), ((State.reset.hosts[h]).slots[k]).st = .free) ∧
  (∀ h : Fin 4, (State.reset.hosts[h]).head = (State.reset.hosts[h]).tail ∧ (State.reset.hosts[h]).lost = 0) ∧
  (∀ g < 14, State.reset.owner g = none) ∧ State.reset.dclSt = 0 ∧ (∀ l : Fin 40, State.reset.linkState l = 0) ∧
  (∀ m : Fin 4, State.reset.trxSt m = 0)

/-- The memories are in canonical form at reset. -/
def Obligations.ResetMemories : Prop := MemoriesWf State.reset

/-- Every step keeps the memories in canonical form, from every state that has them so. -/
def Obligations.StepKeepsMemories : Prop := ∀ s t : State, MemoriesWf s → step s = .next t → MemoriesWf t

/-- Every command that the buses can carry runs on every state, and one that they cannot carry faults: no row of the table is refused. -/
def Obligations.EveryCommandRuns : Prop := ∀ (i : Instr) (s : State),
  (i.wellFormed = true → ∃ t, exec i s = .next t) ∧ (i.wellFormed = false → exec i s = .fault (.illFormed "CAN_FRAME_RECEIVED"))

/-- No command changes the queue of the commands that wait. -/
def Obligations.CommandsKeepQueue : Prop := ∀ (i : Instr) (s t : State), exec i s = .next t → t.pending = s.pending

/-- R60, R65: every row of a mailbox command that `rowCode` lists, whatever its operands and whatever state the device is in, answers the
dispatcher's oldest accepted command of its code in the command's slot (log 3). ADC_INJECT is not listed: its answer leaves with
INJECTED_RESULT (R221). -/
def Obligations.MailboxCommandsAnswer : Prop := ∀ (i : Instr) (code : Nat) (s : State) (c : Cmd), rowCode i = some code → Front s code c →
  Gives i s fun t => ∃ r, Answered t c r

/-- A row of a mailbox command changes nothing where no accepted command of its code stands at the front (log 2, log 3), but for what no
request asks for any more: reversals and engages of motor channels, bank swaps, splits and joins, calibrations. -/
def Obligations.MailboxRowsWait : Prop := ∀ (i : Instr) (code : Nat) (s : State), rowCode i = some code → s.frontCmd code = none →
  Gives i s fun t => Keeps [.ctx, .amc, .ptg, .adc, .fam O.lpeStatus 64, .fam O.amcFlags 6] s t

/-! ### What each command leaves unchanged -/

/-- The frame of the commands of the clocks, the host ports and the gate links: a field of the state or an object that `mayChange` does not
list for the command reads as before. -/
def Obligations.FrameClocksHostsLinks : Prop := ∀ (i : Instr) (s t : State), chapterOf i ∈ [.clocks, .hosts, .gateLinks] →
  exec i s = .next t → Keeps (mayChange i) s t

/-- The frame of the commands of the traction converters, the loop engine and the converters. -/
def Obligations.FrameTractionLoopConverters : Prop := ∀ (i : Instr) (s t : State), chapterOf i ∈ [.traction, .loop, .converters] →
  exec i s = .next t → Keeps (mayChange i) s t

/-- The frame of the commands of the position inputs, the DC link and the charger. -/
def Obligations.FramePositionDcLinkCharger : Prop := ∀ (i : Instr) (s t : State), chapterOf i ∈ [.position, .dcLink, .charger] →
  exec i s = .next t → Keeps (mayChange i) s t

/-- The frame of the commands of the auxiliary converter, the auxiliary motors and the reserve pack. -/
def Obligations.FrameAuxiliaryMotorsPack : Prop := ∀ (i : Instr) (s t : State), chapterOf i ∈ [.auxiliary, .motors, .pack] →
  exec i s = .next t → Keeps (mayChange i) s t

/-- The frame of the commands of the safety core, the thermal management, the memories and the supplies. -/
def Obligations.FrameSafetyThermalPower : Prop := ∀ (i : Instr) (s t : State), chapterOf i ∈ [.pointing, .thermal, .memories, .power] →
  exec i s = .next t → Keeps (mayChange i) s t

/-- The frame of the commands of security, firmware update and the networks. -/
def Obligations.FrameSecurityUpdateNetwork : Prop := ∀ (i : Instr) (s t : State), chapterOf i ∈ [.security, .update, .network] →
  exec i s = .next t → Keeps (mayChange i) s t

/-! ### Rules of the mailbox, the rings and the leases -/

/-- R71: an event that finds the ring full is dropped: EVT_LOST counts it up to its width, EVT_OVF is set, and the entries stay; one that does
not is written and overwrites no entry not yet read. As soon as a new EVT_TAIL frees an entry, or two events that belong together are dropped before one free entry, the device writes EV_EVT_OVERFLOW with
the number dropped since the last one. -/
def Obligations.RingOverflow : Prop :=
  (∀ (p : HostPort) (e : Evt),
    (p.full = true → (p.post e).ring = p.ring ∧ (p.post e).head = p.head ∧ (p.post e).tail = p.tail ∧
      (p.post e).lost = min (p.lost + 1) 0xFFFF ∧ (p.post e).sticky.evtOvf = true ∧ (p.post e).dropped = p.dropped + 1) ∧
    (p.full = false → (p.post e).ring[p.head % 64]'(Nat.mod_lt _ (by decide)) = e ∧ (p.post e).head = (p.head + 1) % 128 ∧ (p.post e).lost = p.lost ∧
      (p.post e).dropped = p.dropped ∧ ∀ k : Fin 64, k.val ≠ p.head % 64 → (p.post e).ring[k] = p.ring[k])) ∧
  (∀ (p : HostPort) (e f : Evt), p.room = 1 →
    (p.post2 e f).ring[p.head % 64]'(Nat.mod_lt _ (by decide)) = { code := 0x0056, source := 0, stamp := e.stamp, data := p.dropped + 2 } ∧
      (p.post2 e f).head = (p.head + 1) % 128 ∧ (p.post2 e f).dropped = 0 ∧ (p.post2 e f).lost = min (p.lost + 2) 0xFFFF) ∧
  ∀ (s : State) (h : Fin 4) (tail : Nat), (s.hosts[h]).dropped ≠ 0 →
    (tail % 128 + 128 - (s.hosts[h]).tail) % 128 ≤ ((s.hosts[h]).head + 128 - (s.hosts[h]).tail) % 128 → ((s.hosts[h]).head + 128 - tail % 128) % 128 ≠ 64 →
    ((s.setTail h tail).hosts[h]).ring[(s.hosts[h]).head % 64]'(Nat.mod_lt _ (by decide)) = s.evt 0x0056 0 (s.hosts[h]).dropped ∧
      ((s.setTail h tail).hosts[h]).head = ((s.hosts[h]).head + 1) % 128 ∧ ((s.setTail h tail).hosts[h]).dropped = 0

/-- R65: "A write of 1 to a COMPL bit whose slot is not DONE is ignored." Said of every write transaction of a port that begins at COMPL, and
ends below the slots. -/
def Obligations.ComplOfOtherSlotIgnored : Prop := ∀ (s : State) (h : Fin 3) (op : BitVec 8) (data : List (BitVec 8)) (k : Fin 8),
  data.length ≤ 0xFFF0 → ((s.hosts[State.spiHost h]).slots[k]).st ≠ .done →
  Gives (.complWrite h op data) s fun t => (t.hosts[State.spiHost h]).slots[k] = (s.hosts[State.spiHost h]).slots[k]

/-- R54: a write transaction below the slots that does not bring all four bytes of a register leaves the register block, and the rest of the device,
unchanged; the port counts as active. -/
def Obligations.ShortRegisterWriteIgnored : Prop := ∀ (s : State) (h : Fin 3) (op : BitVec 8) (data : List (BitVec 8)) (off : Nat), data.length < 4 →
  off + data.length ≤ 0x10000 →
  (∀ i ∈ [Instr.doorbellWrite h op data, .complWrite h op data, .evtTailWrite h op data, .evtLostWrite h op data, .heartbeatWrite h op data,
      .hostReset h op data, .registerWrite h op off data], Gives i s fun t => Keeps [.hosts] s t ∧
    (∀ r, t.portReg (State.spiHost h) r = s.portReg (State.spiHost h) r) ∧
    ∀ n : Fin 4, { t.hosts[n] with active := (s.hosts[n]).active } = s.hosts[n])

/-- R30: "When a CT or CV producer finds its FIFO full, it drops the word, sets bit n of `sys.xing.drop_flags` and raises EV_XING_DROP." The
operation that does so: the bit, and nothing of the device but the rings and what leaves it. -/
def Obligations.CrossingDropFlags : Prop := ∀ (s : State) (n : Nat),
  (s.xingDrop n).bitO O.sysXingDropFlags n = true ∧ (∀ k, k ≠ n → (s.xingDrop n).bitO O.sysXingDropFlags k = s.bitO O.sysXingDropFlags k) ∧
    Keeps [.sent, .hosts, .later, .hpn, .one O.sysXingDropFlags] s (s.xingDrop n)

/-- R19, R79: claims are decided in acceptance order, the command at the front first. A claim of a free group grants it; a claim by the present
owner returns ST_OK with PREVIOUS equal to its own index; a NORMAL claim of a group that another host owns returns ST_NOT_OWNER, before the interface
levels are looked at; a TAKEOVER claim grants the group where the claimer's rank for it in sys.host.claim_rank exceeds the owner's, and otherwise returns
ST_NOT_OWNER. -/
def Obligations.ClaimRules : Prop := ∀ (s : State) (c : Cmd) (g : Nat) (mode : Fin 2), Front s 0x0110 c → g ≤ 13 →
  c.payload = [BitVec.ofNat 8 g, BitVec.ofNat 8 mode, 0, 0] → (if g ≤ 9 then 1 else 2) ≤ s.roleFor c → s.lc ≠ 4 →
  (s.owner g = none → s.ilShort (some g) false = none →
    Gives .claimGroup s fun t => Answered t c (.ok [0xFF, 0, 0, 0]) ∧ t.owner g = some c.host) ∧
  ∀ o : Fin 4, s.owner g = some o → Gives .claimGroup s fun t =>
    (o = c.host → s.ilShort (some g) false = none → Answered t c (.ok (toLe 1 o.val ++ [0, 0, 0])) ∧ t.owner g = some o) ∧
    (o ≠ c.host → mode = 0 → Answered t c (.err St.notOwner 0x0001 (g + 256 * o.val)) ∧ t.owner g = some o) ∧
    (o ≠ c.host → mode = 1 → s.claimRank g o < s.claimRank g c.host → s.ilShort (some g) false = none →
      Answered t c (.ok (toLe 1 o.val ++ [0, 0, 0])) ∧ t.owner g = some c.host) ∧
    (o ≠ c.host → mode = 1 → s.claimRank g c.host ≤ s.claimRank g o → Answered t c (.err St.notOwner 0x0001 (g + 256 * o.val)) ∧ t.owner g = some o)

/-- R63, R78: a command of a group that the host does not own answers ST_NOT_OWNER with REASON 0x0001, and changes nothing but its answer;
said of the four commands of the DC link. -/
def Obligations.DcLinkNeedsOwner : Prop := ∀ (s : State) (c : Cmd) (i : Instr) (code n : Nat) ,
  (i, code, n) ∈ [(Instr.dclClose, 0x0320, 0), (.dclOpen, 0x0321, 4), (.dclChopClear, 0x0322, 0), (.dclHwovClear, 0x0323, 0)] →
  Front s code c → c.payload = List.replicate n 0 → s.lc ≠ 0 → s.lc ≠ 4 → 2 ≤ s.roleFor c → s.owns c 4 = false →
  Gives i s fun t => Answered t c (.err St.notOwner 0x0001 (4 + 256 * bitsOf (s.getO O.sysHostLeaseOwner) 19 16)) ∧ Keeps answers s t

/-- R19: of a list of checks put into the order of R19, the answer is one whose status no failing check precedes in that order; where none fails there
is no answer. -/
def Obligations.FirstFailingCheckAnswers : Prop := ∀ (l : List Chk),
  (firstBad (byRank l) = none ↔ ∀ k ∈ l, k.bad = false) ∧
  ∀ r, firstBad (byRank l) = some r → (∃ k ∈ l, k.bad = true ∧ k.reply = r) ∧ ∀ k ∈ l, k.bad = true → statusRank r.status ≤ statusRank k.reply.status

/-- R56: the layout of HP_STATUS, bit by bit: what each bit shows, that the reserved bits read 0, that a write of 1 to a sticky bit clears it and a write
of 0 leaves it, and the value after a cold reset. -/
def Obligations.StatusRegisterShows : Prop :=
  (∀ (s : State) (h : Fin 4),
    (s.statusReg h).testBit 31 = s.disp.ready ∧ (s.statusReg h).testBit 30 = s.disp.booting ∧ (s.statusReg h).testBit 29 = s.safeNow ∧
    bitsOf (s.statusReg h) 28 25 = 0 ∧ (s.statusReg h).testBit 24 = (s.hosts[h]).sticky.ringErr ∧
    (s.disp.booting = false → bitsOf (s.statusReg h) 23 16 = s.ilOf 4 % 256) ∧
    (s.statusReg h).testBit 15 = ((s.hosts[h]).head != (s.hosts[h]).tail) ∧
    ((s.statusReg h).testBit 14 = true ↔ ∃ k : Fin 8, ((s.hosts[h]).slots[k]).st = .done) ∧
    (s.statusReg h).testBit 13 = (s.hosts[h]).sticky.coll ∧ (s.statusReg h).testBit 12 = (s.hosts[h]).sticky.wrIgn ∧
    (s.statusReg h).testBit 11 = (s.hosts[h]).sticky.dbErr ∧ (s.statusReg h).testBit 10 = (s.hosts[h]).sticky.leaseLost ∧
    (s.statusReg h).testBit 9 = (s.hosts[h]).sticky.hbLapsed ∧ (s.statusReg h).testBit 8 = (s.hosts[h]).sticky.evtOvf ∧
    bitsOf (s.statusReg h) 7 0 = 0) ∧
  (∀ (s : State) (h : Fin 3) (op : BitVec 8) (data : List (BitVec 8)), s.portWrites h op = true → data.length = 4 →
    Gives (.registerWrite h op 0x04 data) s fun t =>
    (∀ b ∈ [24, 13, 12, 11, 10, 9, 8], (t.statusReg (State.spiHost h)).testBit b =
      ((s.statusReg (State.spiHost h)).testBit b && !(fieldAt data 0 4).testBit b)) ∧
    (∀ b ∈ [31, 30, 29, 15, 14], (t.statusReg (State.spiHost h)).testBit b = (s.statusReg (State.spiHost h)).testBit b)) ∧
  (∀ h : Fin 4, State.reset.statusReg h = 0x40000000)

/-- R22, R31, R46, R47: loss and return of the crystal, the trim of the private references, loss and return of a PLL's lock, and the time-out of a
control-word channel. That a loss of lock in CT or CV also sets XTAL_LOST is the model's reading of "handled as a loss of the crystal" (log 101); that the
crystal's return is a change of the crystal bit alone is DEDUCED (R24, R46). -/
def Obligations.ClockCommandsComplete : Prop := ∀ (s : State),
  (s.clk.xtal = true → Gives .xtalLoss s fun t =>
    t.bitO O.sysClkStatus 9 = true ∧ t.bitO O.sysClkStatus 7 = false ∧ t.clk.lossActive = true ∧ t.clk.xtal = false ∧
      t.clk.trimmed = Vector.replicate 4 false) ∧
  (s.clk.xtal = false → Gives .xtalReturn s fun t => t.bitO O.sysClkStatus 7 = true ∧ t.clk.xtal = true ∧ t.clk.xtalAt = s.now) ∧
  (s.clk.lossActive = true → s.ctLocked = true → s.clk.xtalAt + 10 * msTicks ≤ s.now → s.ctRestarts = false → s.linksTrained = true →
    Gives .clockRecoveryComplete s fun t => t.clk.lossActive = false) ∧
  (∀ i, i ≠ .pl → s.clk.heldIslands.getLsbD (lockBit i) = false → Gives (.pllUnlock i) s fun t =>
    t.clk.heldIslands = s.clk.heldIslands ||| (1#6 <<< lockBit i) ∧ t.bitO O.sysClkStatus (lockBit i) = false ∧ t.bitO O.sysClkStatus 8 = true ∧
      (i = .ct ∨ i = .cv → t.bitO O.sysClkStatus 9 = true ∧ t.clk.lossActive = true)) ∧
  (∀ i, i ≠ .pl → s.clk.heldIslands.getLsbD (lockBit i) = true → Gives (.pllRelock i) s fun t =>
    t.clk.heldIslands = s.clk.heldIslands &&& ~~~(1#6 <<< lockBit i) ∧ t.bitO O.sysClkStatus (lockBit i) = true) ∧
  (∀ i k, refIndex i = some k → s.clk.xtal = true → s.clk.trimAt[k] + msTicks ≤ s.now → Gives (.referenceTrim i) s fun t =>
    t.clk.trimmed[k] = true ∧ t.clk.trimAt[k] = s.now) ∧
  (∀ n : Fin 10, (n = 1 ∨ n = 6 ∨ n = 9) → Gives (.controlWordTimeout n) s fun t => t.bitO O.sysXingDropFlags n = true)

/-- R443, R446, R449, R451 to R454, R457: self-test cycles, instances and BST_RUN, the Patina test and the errors of the memories. A second failure
marks the instance in `bst.failed`. -/
def Obligations.SelfTestCommandsComplete : Prop := ∀ (s : State),
  (s.disp.ready = true → s.getO O.bstState ≠ 2 → s.bst.cycleAt = none → Gives .bstCycleStart s fun t => t.bst.cycleAt = some s.now) ∧
  (∀ sl i, sl ≠ 3 → s.bst.run = some (sl, i) → s.getO O.bstState ≠ 2 → (sl = 4 → s.ptg.splitReq = none) → (sl = 1 → s.frontGap (bstConv i) = true ∨ s.adcSt (bstConv i) = 5) → s.bst.second = false →
    Gives (.bstInstanceDone false false) s fun t => t.bst.second = true ∧ t.bst.run = some (sl, i)) ∧
  (∀ sl i, sl ≠ 3 → s.bst.run = some (sl, i) → s.getO O.bstState ≠ 2 → (sl = 4 → s.ptg.splitReq = none) → (sl = 1 → s.frontGap (bstConv i) = true ∨ s.adcSt (bstConv i) = 5) → s.bst.second = true →
    Gives (.bstInstanceDone false false) s fun t => t.bitO O.bstFailed (failBit sl i) = true) ∧
  (∀ sl i, sl ≠ 3 → s.bst.run = some (sl, i) → s.getO O.bstState ≠ 2 → (sl = 4 → s.ptg.splitReq = none) → (sl = 1 → s.frontGap (bstConv i) = true ∨ s.adcSt (bstConv i) = 5) → s.bst.byCmd = false → s.bst.todo = [] →
    Gives (.bstInstanceDone true false) s fun t => t.bst.run = none ∧ t.getO O.bstLast = sl * 256 + i) ∧
  (∀ p i, s.bst.run = some (3, i) → s.getO O.bstState ≠ 2 → s.tsensBad = 0 → s.bst.byCmd = false → s.bst.todo = [] → Gives (.bstInstanceDone p false) s fun t =>
    t.bst.run = none ∧ t.bst.suspect = 0 ∧ t.getO O.bstLast = 3 * 256 + i) ∧
  (∀ p i, s.bst.run = some (3, i) → s.getO O.bstState ≠ 2 → s.tsensBad ≠ 0 → s.bst.second = false → Gives (.bstInstanceDone p false) s fun t =>
    t.bst.second = true ∧ t.bst.run = some (3, i)) ∧
  (∀ (c : Cmd) (sl i : Nat), Front s 0x0810 c → c.payload = [BitVec.ofNat 8 sl, BitVec.ofNat 8 i, 0, 0] → sl < 4 → i < sliceCount sl →
    Permits s c (some 13) 2 → s.bst.run = none → s.bstRuns sl i = true →
    Gives .bstRun s fun t => Answered t c .pending ∧ IsHeld t c ∧ t.bst.run = some (sl, i) ∧ t.bst.byCmd = true ∧ t.getO O.bstState = 1) ∧
  (∀ m, s.patinaRuns m = true → s.patina[m].again = false → s.patina[m].at_ + 50 * usTicks ≤ s.now → Gives (.patinaStep m true false) s fun t =>
    t.patina[m].at_ = s.now ∧ t.patina[m].region = (s.patina[m].region + 1) % memRegions m) ∧
  (∀ m, s.patinaRuns m = true → s.patina[m].again = false → s.patina[m].at_ + 50 * usTicks ≤ s.now → Gives (.patinaStep m false false) s fun t =>
    t.patina[m].again = true ∧ t.bitO (O.memStatus m) 1 = true ∧ t.patina[m].region = s.patina[m].region) ∧
  (∀ m : Fin 4, m = 0 ∨ m = 3 → Gives (.memCorrectedError m) s fun t =>
    bitsOf (t.getO (O.memStatus m)) 31 16 = min (bitsOf (s.getO (O.memStatus m)) 31 16 + 1) 0xFFFF) ∧
  (∀ addr : BitVec 22, Gives (.memUncorrectableError 3 addr) s fun t =>
    t.getO O.memLastUe = 0x30000000 + addr.toNat ∧ t.bitO (O.memStatus 3) 2 = true ∧ t.sec.hpnKey = none) ∧
  (∀ (m : Fin 4) (addr : BitVec 22), m = 1 ∨ m = 2 → Gives (.memParityError m addr) s fun t => t.bitO (O.memStatus m) 2 = true)

/-- R54 to R57, R65, R70, R80, R88, R92: what a write or read of the register block, a slot write and an access to the exchange memory do
at an SPI port. Each register clause is of a transaction of that register's four bytes; the words that a collision spoils
are not spoken of. -/
def Obligations.HostRegisterCommandsComplete : Prop := ∀ (s : State) (h : Fin 3) (op : BitVec 8) (data : List (BitVec 8)),
  (∀ k : Fin 8, s.portWrites h op = true → data.length = 4 → (fieldAt data 0 1).testBit k = true → (s.hosts[State.spiHost h].slots[k]).st = .free →
    Gives (.doorbellWrite h op data) s fun t => (t.hosts[State.spiHost h].slots[k]).st = .posted ∧ k ∈ t.hosts[State.spiHost h].bells ∧
      (t.hosts[State.spiHost h].slots[k]).mem = (s.hosts[State.spiHost h].slots[k]).mem) ∧
  (∀ k : Fin 8, s.portWrites h op = true → data.length = 4 → (fieldAt data 0 1).testBit k = true → (s.hosts[State.spiHost h].slots[k]).st ≠ .free →
    Gives (.doorbellWrite h op data) s fun t => (t.hosts[State.spiHost h].slots[k]).st = (s.hosts[State.spiHost h].slots[k]).st ∧ t.hosts[State.spiHost h].sticky.dbErr = true) ∧
  (∀ k : Fin 8, s.portWrites h op = true → data.length = 4 → (fieldAt data 0 1).testBit k = true → (s.hosts[State.spiHost h].slots[k]).st = .done →
    Gives (.complWrite h op data) s fun t => (t.hosts[State.spiHost h].slots[k]).st = .free) ∧
  (∀ (k : Fin 8) (off : Nat), s.portLive h = true → op = 0x02#8 → (s.hosts[State.spiHost h].slots[k]).st = .free →
    Gives (.slotWrite h op k off data) s fun t => (t.hosts[State.spiHost h].slots[k]).st = .free ∧
      (t.hosts[State.spiHost h].slots[k]).mem = (s.hosts[State.spiHost h].slots[k]).mem.writeL off (data.take (4108 - off))) ∧
  (∀ (k : Fin 8) (off : Nat), s.portLive h = true → op = 0x02#8 → off < 0x1200 → data ≠ [] → (s.hosts[State.spiHost h].slots[k]).st ≠ .free →
    Gives (.slotWrite h op k off data) s fun t => t.hosts[State.spiHost h].slots[k] = s.hosts[State.spiHost h].slots[k] ∧ t.hosts[State.spiHost h].sticky.wrIgn = true) ∧
  (s.portWrites h op = true → data.length = 4 →
    (fieldAt data 0 1 % 128 + 128 - s.hosts[State.spiHost h].tail) % 128 ≤ (s.hosts[State.spiHost h].head + 128 - s.hosts[State.spiHost h].tail) % 128 →
    Gives (.evtTailWrite h op data) s fun t => t.hosts[State.spiHost h].tail = fieldAt data 0 1 % 128 ∧ t.hosts[State.spiHost h].sticky.ringErr = s.hosts[State.spiHost h].sticky.ringErr) ∧
  (s.portWrites h op = true → data.length = 4 →
    (s.hosts[State.spiHost h].head + 128 - s.hosts[State.spiHost h].tail) % 128 < (fieldAt data 0 1 % 128 + 128 - s.hosts[State.spiHost h].tail) % 128 →
    Gives (.evtTailWrite h op data) s fun t => t.hosts[State.spiHost h].tail = s.hosts[State.spiHost h].tail ∧ t.hosts[State.spiHost h].head = s.hosts[State.spiHost h].head ∧
      t.hosts[State.spiHost h].sticky.ringErr = true) ∧
  (s.portWrites h op = true → data.length = 4 → Gives (.evtLostWrite h op data) s fun t =>
    t.hosts[State.spiHost h].lost = s.hosts[State.spiHost h].lost - (s.hosts[State.spiHost h].lost &&& fieldAt data 0 2)) ∧
  (s.portWrites h op = true → data.length = 4 → Gives (.heartbeatWrite h op data) s fun t =>
    t.hosts[State.spiHost h].renewedAt = s.now ∧ t.bitO O.sysHostPresent h = true) ∧
  (s.portWrites h op = true → data.length = 4 → (fieldAt data 0 4).testBit 8 = true → Gives (.hostReset h op data) s fun t =>
    (∀ k : Fin 8, (t.hosts[State.spiHost h].slots[k]).st = .free) ∧ t.hosts[State.spiHost h].bells = [] ∧ t.hosts[State.spiHost h].irqEn = 0 ∧ t.session (State.spiHost h) = 0) ∧
  (s.portLive h = true → op = 0x0B#8 → Gives (.axtLoRead h op) s fun t =>
    t.hosts[State.spiHost h].axtHi = BitVec.ofNat 32 ((s.followerStamp .hf).toNat / 2 ^ 32) ∧
      t.sent = .spi h (toLe 4 (s.followerStamp .hf).toNat) :: s.sent) ∧
  (s.portWrites h op = true → data.length = 4 → Gives (.registerWrite h op 0x08 data) s fun t =>
    ((fieldAt data 0 4).testBit 8 = false → t.hosts[State.spiHost h].irqEn = BitVec.ofNat 3 (fieldAt data 0 4) ∧
      t.hosts[State.spiHost h].slots = s.hosts[State.spiHost h].slots) ∧
    ((fieldAt data 0 4).testBit 8 = true → t.hosts[State.spiHost h].irqEn = 0 ∧ ∀ k : Fin 8, (t.hosts[State.spiHost h].slots[k]).st = .free)) ∧
  (s.portWrites h op = true → data.length = 4 → Gives (.registerWrite h op 0x38 data) s fun t => t.hosts[State.spiHost h].scratch = BitVec.ofNat 32 (fieldAt data 0 4)) ∧
  (s.portWrites h op = true → data.length = 4 → h ≠ 2 → Gives (.registerWrite h op 0x34 data) s fun t => t.hosts[State.spiHost h].quad = (fieldAt data 0 4).testBit 0) ∧
  (s.portWrites h op = true → data.length = 4 → Gives (.registerWrite h op 0x04 data) s fun t => t.hosts[State.spiHost h].sticky = State.clearSticky s.hosts[State.spiHost h].sticky (fieldAt data 0 4)) ∧
  (∀ (p : Fin 2) (w : Fin 32768) (d : BitVec 32) (clk : Nat), s.portLive ⟨p.val, by omega⟩ = true →
    (s.xmem.last[(1 - p : Fin 2)]).any (State.meets ⟨w, true, clk⟩) = false →
    Gives (.xmemAccess p true w d clk) s fun t => t.xmem.readN (4 * w) 4 = toLe 4 d.toNat) ∧
  (∀ (p : Fin 2) (w : Fin 32768) (d : BitVec 32) (clk : Nat), s.portLive ⟨p.val, by omega⟩ = true →
    (s.xmem.last[(1 - p : Fin 2)]).any (State.meets ⟨w, false, clk⟩) = false →
    Gives (.xmemAccess p false w d clk) s fun t => t.xmem.mem = s.xmem.mem ∧ t.sent = .spi p (s.xmem.readN (4 * w) 4) :: s.sent) ∧
  (∀ (p : Fin 2) (wr : Bool) (w : Fin 32768) (d : BitVec 32) (clk : Nat) (b : XAccess), s.portLive ⟨p.val, by omega⟩ = true →
    s.xmem.last[(1 - p : Fin 2)] = some b → State.meets ⟨w, wr, clk⟩ b = true →
    Gives (.xmemAccess p wr w d clk) s fun t => ∀ later : Fin 4, later.val = (if b.clk < clk then p.val else if clk < b.clk then 1 - p.val else 1) →
      (t.hosts[later]).sticky.coll = true ∧ (t.hosts[later]).xcollAddr = BitVec.ofNat 32 (2 ^ 31 + w * 4))

/-- R61, R62, R65, R66, R69, R79, R80: acceptance and completion of mailbox commands, the leases of the groups and WITHDRAW. -/
def Obligations.DispatcherCommandsComplete : Prop := ∀ (s : State) (c : Cmd),
  (∀ (h : Fin 4) (k : Fin 8) (rest : List (Fin 8)), s.nextHost = some h → s.hosts[h].bells = k :: rest →
    fieldAt ((s.hosts[h].slots[k]).mem.readN 4 2) 0 2 ≤ 4096 →
    crc32c ((s.hosts[h].slots[k]).mem.readN 0 (8 + fieldAt ((s.hosts[h].slots[k]).mem.readN 4 2) 0 2)) ≠
      fieldAt ((s.hosts[h].slots[k]).mem.readN (8 + fieldAt ((s.hosts[h].slots[k]).mem.readN 4 2) 0 2) 4) 0 4 →
    Gives .commandAccept s fun t => (t.hosts[h].slots[k]).st = .done ∧ t.hosts[h].bells = rest ∧ t.disp.accepted = s.disp.accepted ∧
      (t.hosts[h].slots[k]).mem.read 3 = BitVec.ofNat 8 St.badCrc) ∧
  (∀ (h : Fin 4) (k : Fin 8) (rest : List (Fin 8)) (n : Nat), s.nextHost = some h → s.hosts[h].bells = k :: rest →
    n = fieldAt ((s.hosts[h].slots[k]).mem.readN 0 8) 4 2 → n ≤ 4096 →
    crc32c ((s.hosts[h].slots[k]).mem.readN 0 (8 + n)) = fieldAt ((s.hosts[h].slots[k]).mem.readN (8 + n) 4) 0 4 →
    fieldAt ((s.hosts[h].slots[k]).mem.readN 0 8) 6 2 = 0 → fieldAt ((s.hosts[h].slots[k]).mem.readN 0 8) 3 1 ≤ 3 →
    State.knownCodes.contains (fieldAt ((s.hosts[h].slots[k]).mem.readN 0 8) 0 2) = true → s.pwr.keepAlive = false →
    Gives .commandAccept s fun t => (t.hosts[h].slots[k]).st = .accepted ∧ t.hosts[h].bells = rest ∧ t.disp.last = h ∧
      ∃ d : Cmd, t.disp.accepted = s.disp.accepted ++ [d] ∧ d.host = h ∧ d.slot = k ∧
        d.code = fieldAt ((s.hosts[h].slots[k]).mem.readN 0 8) 0 2 ∧ d.payload = (s.hosts[h].slots[k]).mem.readN 8 n ∧ d.orphan = false) ∧
  (∀ e rest, s.disp.ended = e :: rest → Gives .commandComplete s fun t => t.disp.ended = rest ∧ t.disp.held = s.disp.held) ∧
  (∀ g : Nat, Front s 0x0110 c → g ≤ 13 → (∃ m : Fin 2, c.payload = [BitVec.ofNat 8 g, BitVec.ofNat 8 m, 0, 0]) →
    (if g ≤ 9 then 1 else 2) ≤ s.roleFor c → s.lc ≠ 4 → s.ilShort (some g) false = none → s.owner g = none →
    Gives .claimGroup s fun t => Answered t c (.ok [0xFF#8, 0, 0, 0]) ∧ t.owner g = some c.host) ∧
  (∀ g : Nat, Front s 0x0111 c → g ≤ 13 → c.payload = [BitVec.ofNat 8 g, 0, 0, 0] → s.lc ≠ 4 → s.ilShort (some g) false = none →
    s.owner g = some c.host → Gives .releaseGroup s fun t => Answered t c .ok ∧ t.owner g = none) ∧
  (∀ (p : Held), s.nextCmd = some c → c.flags.testBit 1 = true → c.orphan = false → p ∈ s.disp.held →
    p.waiting = true → p.host = c.host → p.code = c.code → p.tag = c.tag → p.orphan = false →
    Gives .withdraw s fun t => Answered t c .ok ∧ t.disp.accepted = s.disp.accepted.erase c ∧ p ∉ t.disp.held ∧
      ({ host := p.host, code := p.code, tag := p.tag, status := St.state, reason := none } : Ended) ∈ t.disp.ended) ∧
  (∀ h : Fin 4, s.bitO O.sysHostPresent h = true → s.hosts[h].renewedAt + s.getO (O.sysHostLeaseTimeout h) * msTicks ≤ s.now →
    Gives (.leaseTimeout h) s fun t => t.bitO O.sysHostPresent h = false ∧ t.hosts[h].sticky.hbLapsed = true ∧ t.hosts[h].lostSent = true)

/-- R86, R87, R502: the records and times of the HPN channel. The key of a new channel is a value the model leaves free (log 7). -/
def Obligations.HpnCommandsComplete : Prop := ∀ (s : State) (pkt : List (BitVec 8)) (seq slot : Nat) (body : List Byte),
  (∀ k : Fin 8, s.hpnBody 1 pkt = some (seq, k.val, body) → (s.hosts[(3 : Fin 4)].slots[k]).st = .free → Gives (.hpnPost pkt) s fun t =>
    (t.hosts[(3 : Fin 4)].slots[k]).st = .posted ∧ k ∈ t.hosts[(3 : Fin 4)].bells ∧ t.hpn.rxSeq = seq ∧
      (t.hosts[(3 : Fin 4)].slots[k]).mem = (s.hosts[(3 : Fin 4)].slots[k]).mem.writeL 0 (body.take 4108)) ∧
  (∀ k : Fin 8, s.hpnBody 1 pkt = some (seq, k.val, body) → (s.hosts[(3 : Fin 4)].slots[k]).st ≠ .free → (s.hosts[(3 : Fin 4)].slots[k]).cmd ≠ body →
    Gives (.hpnPost pkt) s fun t => t.hosts[(3 : Fin 4)].slots = s.hosts[(3 : Fin 4)].slots ∧ t.hosts[(3 : Fin 4)].sticky.dbErr = true) ∧
  (∀ k : Fin 8, s.hpnBody 3 pkt = some (seq, k.val, body) → (s.hosts[(3 : Fin 4)].slots[k]).st = .done → Gives (.hpnRelease pkt) s fun t =>
    (t.hosts[(3 : Fin 4)].slots[k]).st = .free ∧ t.hpn.rxSeq = seq) ∧
  (s.hpnBody 5 pkt = some (seq, slot, body) →
    (fieldAt body 0 1 % 128 + 128 - s.hosts[(3 : Fin 4)].tail) % 128 ≤ (s.hosts[(3 : Fin 4)].head + 128 - s.hosts[(3 : Fin 4)].tail) % 128 →
    Gives (.hpnEventAck pkt) s fun t => t.hosts[(3 : Fin 4)].tail = fieldAt body 0 1 % 128 ∧ t.hpn.rxSeq = seq) ∧
  (s.hpnBody 6 pkt = some (seq, slot, body) → Gives (.hpnHeartbeat pkt) s fun t =>
    t.hosts[(3 : Fin 4)].renewedAt = s.now ∧ t.bitO O.sysHostPresent 3 = true ∧ t.hpn.lastAt = s.now) ∧
  (s.hpnBody 9 pkt = some (seq, slot, body) → Gives (.hpnReset pkt) s fun t =>
    (∀ k : Fin 8, (t.hosts[(3 : Fin 4)].slots[k]).st = .free) ∧ t.hosts[(3 : Fin 4)].bells = [] ∧ t.session 3 = 0) ∧
  (∀ key, s.sec.hpnKey = some key → fieldAt pkt 0 1 = 7 → fieldAt pkt 2 2 = 32 → 40 ≤ pkt.length → Gives (.hpnHello pkt) s fun t =>
    t.hpn.up = true ∧ t.hpn.rxSeq = 0 ∧ t.hpn.lastAt = s.now ∧ t.session 3 = 0) ∧
  (s.hpn.up = true → Gives .hpnEventResend s fun t =>
    (∀ i : Fin 64, t.hpn.resendAt[i] = if i.val ∈ State.unreadAt s.hosts[(3 : Fin 4)] ∧ s.hpn.resendAt[i] + 100 * msTicks ≤ s.now then s.now
      else s.hpn.resendAt[i]) ∧
    t.hpn.txSeq = s.hpn.txSeq + ((List.finRange 64).filter fun i : Fin 64 =>
      decide (i.val ∈ State.unreadAt s.hosts[(3 : Fin 4)]) && decide (s.hpn.resendAt[i] + 100 * msTicks ≤ s.now)).length) ∧
  (s.hpn.up = true → s.hpn.lastAt + 3 * s.getO (O.sysHostLeaseTimeout 3) * msTicks ≤ s.now → Gives .hpnChannelTimeout s fun t => t.hpn.up = false)

/-- R96, R100, R101, R109 to R112, R115 to R117, R121 to R123: the commands of the gate links: training and its steps, the adaption of the equaliser,
echoes, the frames that a driver sends, the time-outs of a link, the repetition of FORCE, and GLK_TRAIN and GLK_CLEAR_DRIVER of R137. The numbering of code groups in
`State.frameOk` is log 24. -/
def Obligations.GateLinkCommandsComplete : Prop := ∀ (s : State) (l : Fin 40),
  (s.linkEnabled l = true → s.ctLocked = true → (s.links[l]).st = .off → (s.links[l]).barred = false → Gives (.trainingStart l) s fun t =>
    (t.links[l]).st = .training ∧ (t.links[l]).step = 1 ∧ (t.links[l]).stepAt = s.now ∧ (t.links[l]).planning = false ∧ (t.links[l]).edges = [] ∧
      (s.lineClock = true → t.sent.head? = some (.train l trainBlock s.symAt 50))) ∧
  ((s.links[l]).st = .training → Gives (.trainingStepEnd l .failed) s fun t =>
    (t.links[l]).st = .lost ∧ (t.links[l]).lostAt = s.now ∧ t.bitO (O.glkStatus l) 8 = true) ∧
  ((s.links[l]).st = .training → (s.links[l]).step = 1 → Gives (.trainingStepEnd l .passed) s fun t => (t.links[l]).step = 2 ∧ (t.links[l]).stepAt = s.now) ∧
  (∀ w, (s.links[l]).st = .training → (s.links[l]).step = 2 → Gives (.trainingStepEnd l (.eyes w)) s fun t =>
    (t.links[l]).step = 3 ∧ t.getO (O.glkRxCtle l) = argMax w % 16) ∧
  (∀ (v p : BitVec 16) (g : BitVec 8) (d c : BitVec 16), (s.links[l]).st = .training → (s.links[l]).step = 3 → g = 1 → 64 ≤ d.toNat → d.toNat ≤ 960 → c.toNat % 4 = 3 →
    (s.lossWanted l = 2 → c.toNat.testBit 2 = true) → Gives (.trainingStepEnd l (.ident v p g d c)) s fun t =>
      (t.links[l]).step = 4 ∧ (t.links[l]).stepAt = s.now ∧ (t.links[l]).caps = c.toNat ∧ t.getO (O.glkLDrv l) = d.toNat ∧ t.getO (O.glkDriver l) = v.toNat * 65536 + p.toNat) ∧
  (∀ (v p : BitVec 16) (g : BitVec 8) (d c : BitVec 16), (s.links[l]).st = .training → (s.links[l]).step = 3 → g ≠ 1 ∨ d.toNat < 64 ∨ 960 < d.toNat ∨ c.toNat % 4 ≠ 3 →
    Gives (.trainingStepEnd l (.ident v p g d c)) s fun t => (t.links[l]).st = .off ∧ (t.links[l]).barred = true) ∧
  (∀ e, (s.links[l]).st = .training → (s.links[l]).step = 5 → 48 ≤ e.length → s.mayWrite l = true → Gives (.trainingStepEnd l (.echoes e)) s fun t =>
    (t.links[l]).st = .ready ∧ (t.links[l]).statAt = s.now ∧ (t.links[l]).mode = (s.links[l]).mode ∧ (t.links[l]).fault = (s.links[l]).fault) ∧
  (∀ e, (s.links[l]).st = .training → (s.links[l]).step = 5 → e.length < 48 ∨ s.mayWrite l = false → Gives (.trainingStepEnd l (.echoes e)) s fun t =>
    (t.links[l]).st = .lost ∧ (t.links[l]).lostAt = s.now) ∧
  (s.linkEnabled l = true → s.ctLocked = true → (s.links[l]).st = .lost → (s.links[l]).lostAt + 10 * msTicks ≤ s.now → Gives (.linkRetrainTimer l) s fun t =>
    (t.links[l]).st = .training ∧ (t.links[l]).step = 1) ∧
  (∀ here below above, s.linkUp l = true → (s.links[l]).ctleAt + msTicks ≤ s.now → Gives (.ctleAdapt l here below above) s fun t => (t.links[l]).ctleAt = s.now ∧
    (11 * here < 10 * above → below ≤ above → s.getO (O.glkRxCtle l) < 15 → t.getO (O.glkRxCtle l) = s.getO (O.glkRxCtle l) + 1) ∧
    (11 * here < 10 * below → above < below → 0 < s.getO (O.glkRxCtle l) → t.getO (O.glkRxCtle l) = s.getO (O.glkRxCtle l) - 1)) ∧
  Gives .echoTick s (fun t => s.linkUp l = true → (s.links[l]).echoAt + msTicks ≤ s.now →
    (t.links[l]).echoAt = s.now ∧ (t.links[l]).echo = some (((s.links[l]).echoId + 1) % 256)) ∧
  (∀ rt f, s.linkUp l = true → State.frameOk f kEcho 3 = true → (s.links[l]).echo = some (fieldAt f.bytes 0 1) → Gives (.echoReplyReceived l rt f) s fun t =>
    (t.links[l]).echo = none ∧ ((State.wireDelay rt (fieldAt f.bytes 1 2) + (s.getO (O.glkLDrv l) : Nat) - (s.getO (O.glkLatency l) : Nat)).natAbs ≤ 8 →
      (t.links[l]).st = .ready ∧ (t.links[l]).outliers = 0)) ∧
  (∀ f e, s.linkUp l = true → State.frameOk f kTel 4 = true →
    ((s.links[l]).edges.find? fun (e : Edge) => e.meas && e.seq == bitsOf (leNat f.bytes) 31 28) = some e → 8 * (s.now : Int) ≤ s.telDue l e →
    (l ≠ 31 ∨ e.sw ≠ 1 ∨ bitOf (leNat f.bytes) 13 = true) → Gives (.edgeTelReceived l f) s fun t => (t.links[l]).telMiss = 0) ∧
  (∀ f, s.linkUp l = true → State.frameOk f kStat 4 = true → bitsOf (leNat f.bytes) 15 8 / 4 = 0 → Gives (.statReceived l f) s fun t =>
    (t.links[l]).mode = bitsOf (leNat f.bytes) 5 4 ∧ (t.links[l]).sw = bitsOf (leNat f.bytes) 7 6 ∧ (t.links[l]).fault = bitsOf (leNat f.bytes) 15 8 ∧
      (t.links[l]).temp = bitsOf (leNat f.bytes) 31 24 ∧ (t.links[l]).statAt = s.now) ∧
  (∀ f, (s.links[l]).st = .training ∨ (s.links[l]).st = .lost → State.frameOk f kStat 4 = true → Gives (.statReceived l f) s fun t =>
    (t.links[l]).mode = bitsOf (leNat f.bytes) 5 4 ∧ (t.links[l]).sw = bitsOf (leNat f.bytes) 7 6 ∧ (t.links[l]).fault = bitsOf (leNat f.bytes) 15 8 ∧
      (t.links[l]).st = (s.links[l]).st) ∧
  (∀ f, (s.links[l]).st ≠ .off → State.frameOk f kAlarm 1 = true → Gives (.alarmReceived l f) s fun t =>
    t.bitO (O.glkStatus l) 15 = true ∧ (t.links[l]).fault = leNat f.bytes ∧ (64 ≤ leNat f.bytes → (t.links[l]).mode = 3)) ∧
  (∀ f r, s.linkUp l = true → State.frameOk f kReg 3 = true → (s.links[l]).reg = some r → r.addr = fieldAt f.bytes 0 1 → (s.links[l]).regQueue = [] →
    Gives (.regReplyReceived l f) s fun t => (t.links[l]).reg = none ∧ (r.addr % 128 = 8 → (t.links[l]).lossAct = fieldAt f.bytes 1 2)) ∧
  (∀ r, s.linkUp l = true → (s.links[l]).reg = some r → r.sentAt + 2 * usTicks ≤ s.now → r.tries < 3 → Gives (.regReplyTimeout l) s fun t =>
    (t.links[l]).reg = some { r with sentAt := s.slotAt l + 50, tries := r.tries + 1 }) ∧
  (s.linkUp l = true → (s.links[l]).statAt + 25 * usTicks ≤ s.now → Gives (.statTimeout l) s fun t => t.bitO (O.glkStatus l) 8 = true) ∧
  (∀ e, s.linkUp l = true → ((s.links[l]).edges.find? fun (e : Edge) => e.meas) = some e → s.telDue l e < 8 * (s.now : Int) → (s.links[l]).telMiss < 2 →
    Gives (.edgeTelTimeout l) s fun t => (t.links[l]).telMiss = (s.links[l]).telMiss + 1) ∧
  (∀ crit, s.linkUp l = true → Gives (.upstreamSymbolLoss l crit) s fun t => t.bitO (O.glkStatus l) 8 = true ∧ (crit = 2 → t.bitO (O.glkStatus l) 13 = true)) ∧
  Gives .forceResend s (fun t => s.lineUp l = true → (s.links[l]).forceAt + usTicks ≤ s.now → (s.links[l]).planning = false → (t.links[l]).forceAt = s.slotAt l) ∧
  (∀ (c : Cmd) (m : Nat), Front s 0x0301 c → c.payload.length = 8 → fieldAt c.payload 0 8 = m → m ≠ 0 → m < 2 ^ 40 → Permits s c none 2 →
    (∀ k : Fin 40, m.testBit k = true → s.owns c (linkGroup k) = true ∧ s.ilShort (some (linkGroup k)) false = none ∧ s.stage137 k = false ∧
      s.linkEnabled k = true) →
    Gives .glkTrain s fun t => Answered t c .pending ∧ IsHeld t c ∧ ∀ k : Fin 40, m.testBit k = true → (t.links[k]).st = .training ∧ (t.links[k]).step = 1) ∧
  (∀ (c : Cmd) (m : Nat), Front s 0x0302 c → c.payload.length = 8 → fieldAt c.payload 0 8 = m → m ≠ 0 → m < 2 ^ 40 → Permits s c none 2 →
    (∀ k : Fin 40, m.testBit k = true → s.owns c (linkGroup k) = true ∧ s.ilShort (some (linkGroup k)) false = none ∧ s.stage137 k = false ∧
      s.linkState k = 5) →
    Gives .glkClearDriver s fun t => Answered t c .ok ∧ ∀ k : Fin 40, m.testBit k = true → (s.links[k]).reg = none →
      (t.links[k]).reg = some { addr := 0x8C, data := 0x00FC, sentAt := s.slotAt k + 50, tries := 1 })

/-- R36, R126, R128: the start of a carrier period of a running group, and the plan cutoff. -/
def Obligations.PlannerCommandsComplete : Prop := ∀ (s : State) (g : Fin 8),
  ((s.cgs[g]).running = false → Gives (.carrierPeriodStart g) s fun t => (t.cgs[g]).running = true ∧ (t.cgs[g]).start = s.now) ∧
  ((s.cgs[g]).running = true → (s.cgs[g]).start + (s.cgs[g]).cur ≤ s.now → Gives (.carrierPeriodStart g) s fun t =>
    (t.cgs[g]).start = (s.cgs[g]).start + (s.cgs[g]).cur ∧ (t.cgs[g]).cur = (s.cgs[g]).next) ∧
  ((s.cgs[g]).running = true → (State.planWindow s.cgs[g]).1 - s.getO O.pwmPlanLead ≤ s.now → (s.cgs[g]).planned ≤ (State.planWindow s.cgs[g]).1 →
    Gives (.planCutoff g) s fun t => (t.cgs[g]).fresh = [] ∧ (t.cgs[g]).due = [] ∧ (t.cgs[g]).last = s.planCmds g (State.planWindow s.cgs[g]).1 (State.planWindow s.cgs[g]).2.1 ∧
      (t.cgs[g]).planned = (State.planWindow s.cgs[g]).1 + (State.planWindow s.cgs[g]).2.1)

/-- R139, R146 to R155, R162, R170, R283: the mailbox commands of the machines. `enableChecks` lists the checks of R147. The status that a pending
TRX_ENABLE ends with where its machine leaves ENABLING is log 28. -/
def Obligations.TractionCommandsComplete : Prop := ∀ (s : State) (c : Cmd) (m : Fin 4),
  (Front s 0x0310 c → c.payload = [BitVec.ofNat 8 m, 0, 0, 0] → Permits s c (some m.val) 1 true → s.getO (O.trxType m) ≠ 0 →
    (∀ k ∈ s.enableChecks m, k.bad = false) → Gives .trxEnable s fun t => Answered t c .pending ∧ IsHeld t c ∧ t.trxSt m = 1 ∧ (t.trx[m]).preset = 1) ∧
  (Front s 0x0311 c → c.payload = [BitVec.ofNat 8 m, 0, 0, 0] → Permits s c (some m.val) 1 → s.getO (O.trxType m) ≠ 0 → s.trxSt m = 3 →
    Gives .trxDisable s fun t => Answered t c .ok ∧ t.trxSt m = 4) ∧
  (Front s 0x0311 c → c.payload = [BitVec.ofNat 8 m, 2, 0, 0] → Permits s c (some m.val) 1 → s.getO (O.trxType m) ≠ 0 → 1 ≤ s.trxSt m → s.trxSt m ≤ 4 →
    Gives .trxDisable s fun t => Answered t c .ok ∧ t.trxSt m = 0 ∧ ((t.trx[m]).ascHold = true ↔ s.getO (O.trxType m) ≠ 3)) ∧
  (Front s 0x0311 c → c.payload = [BitVec.ofNat 8 m, 0, 0, 0] → Permits s c (some m.val) 1 → s.getO (O.trxType m) ≠ 0 → s.trxSt m = 6 →
    Gives .trxDisable s fun t => Answered t c .ok ∧ t.trxSt m = 0 ∧ t.getO (O.trxFault m) = 0) ∧
  (Front s 0x0312 c → c.payload.length = 16 → fieldAt c.payload 0 1 = m.val → fieldAt c.payload 1 3 = 0 → Permits s c (some m.val) 1 →
    s.getO (O.trxType m) ≠ 0 → f32Refused (fieldAt c.payload 4 4) = false → fieldAt c.payload 8 8 ≤ s.now + 2 ^ 32 → s.trxSt m = 3 →
    s.getO (O.trxMode m) = 0 → s.override m ≠ 1 →
    Gives .trxSetTorqueAt s fun t => Answered t c .pending ∧ IsHeld t c ∧ (t.trx[m]).reqAt = s.now ∧ (t.trx[m]).aged = false) ∧
  (∀ k : Fin 2, Front s 0x0313 c → c.payload = [BitVec.ofNat 8 m, BitVec.ofNat 8 k, 0, 0] → Permits s c (some m.val) 1 → s.getO (O.trxType m) ≠ 0 →
    s.trxSt m = 3 → s.setSt m k = 1 → s.returnBar m k = none →
    Gives .trxSetReturn s fun t => Answered t c .pending ∧ IsHeld t c ∧ t.setSt m k = 2 ∧ ((t.trx[m]).sets[k]).preset = true)

/-- R38, R139, R150, R151, R154, R155, R162, R165, R168, R169, R279, R280: what the machines do at the torque tick, at a current-loop sample,
at a first planned period and when a time of theirs passes. -/
def Obligations.TractionEventsComplete : Prop := ∀ (s : State) (m : Fin 4),
  Gives .torqueTick s (fun t => s.getO (O.trxMode m) = 0 →
    (t.trx[m]).target = clampQ (s.getQ (O.trxTorqueReq m)) (-(t.trx[m]).sentNeg) (t.trx[m]).sentPos) ∧
  Gives (.tractionSample m) s (fun t => (t.trx[m]).sampledAt = s.now ∧ (s.switching m = false → (t.trx[m]).out = 0 ∧ t.getO (O.trxTorqueOut m) = 0)) ∧
  (∀ a, (s.trx[m]).agree = some a → s.onObserver m = true → a + 100 * msTicks ≤ s.now → Gives (.observerReturn m) s fun t => t.onObserver m = false) ∧
  (s.trxSt m = 3 → (s.trx[m]).aged = false → s.getO (O.trxSpAge m) * msTicks < s.now - (s.trx[m]).reqAt → Gives (.setpointAged m) s fun t =>
    (t.trx[m]).aged = true ∧ t.bitO (O.trxFlags m) 1 = true) ∧
  (∀ a, (s.trx[m]).fwAt = some a → s.switching m = true → (s.trx[m]).fwBound = none → a + 10 * msTicks ≤ s.now → Gives (.fwLimitEngage m) s fun t =>
    (t.trx[m]).fwBound.isSome = true ∧ t.bitO (O.trxFlags m) 3 = true) ∧
  (∀ a b, (s.trx[m]).fwOff = some a → (s.trx[m]).fwBound = some b → a + 10 * msTicks ≤ s.now → Gives (.fwLimitRelease m) s fun t => (t.trx[m]).fwBound = none) ∧
  (∀ (p : Held) (v at_ : Nat), (s.disp.held.find? fun (p : Held) => p.code == 0x0312 && p.arg.getLast? == some 0) = some p → p.arg = [m.val, v, at_, 0] → p.orphan = false →
    Gives .timedRequestAtCt s fun t =>
      (at_ < s.now → ({ host := p.host, code := p.code, tag := p.tag, status := St.late, reason := none } : Ended) ∈ t.disp.ended ∧
        t.bitO O.sysLateFlags 4 = true) ∧
      (s.now ≤ at_ → ({ p with arg := [m.val, v, at_, 1] } : Held) ∈ t.disp.held)) ∧
  ((s.trx[m]).preset ≠ 0 → Gives (.presetAtCt m) s fun t =>
    (t.trx[m]).preset = 0 ∧ (t.trx[m]).period = some (s.firstPeriod ⟨m.val, by omega⟩)) ∧
  (∀ p, (s.trx[m]).period = some p → p ≤ s.now → s.trxSt m = 1 → (∀ k ∈ s.confSets m, (s.trx[m]).starts.testBit k.val = true) →
    (∀ l ∈ State.machineLinks m, (s.links[l]).st ≠ .lost) → Gives (.firstPlannedPeriod m) s fun t =>
      (t.trx[m]).period = none ∧ t.trxSt m = if s.getO (O.trxType m) = 3 then 2 else 3) ∧
  (∀ p, (s.trx[m]).period = some p → p ≤ s.now → s.trxSt m ≠ 1 → Gives (.firstPlannedPeriod m) s fun t => (t.trx[m]).period = none ∧ (t.trx[m]).ova = false) ∧
  (s.trxSt m = 2 → 3 * s.getQ (O.trxLr m) * sTicks ≤ s.getQ (O.trxRr m) * (s.now - (s.trx[m]).magAt : Nat) → Gives (.magnetisingEnd m) s fun t =>
    t.trxSt m = 3 ∧ t.getO (O.trxTorqueReq m) = 0 ∧ (t.trx[m]).reqAt = s.now) ∧
  (∀ (k : Fin 2) (a : Nat), ((s.trx[m]).sets[k]).eligible = some a → s.setSt m k = 1 → s.getO (O.trxSsAutoReturn m) = 1 → s.returnBar m k = none →
    bitsOf (s.getO (O.trxSsState m)) (11 + 4 * k) (8 + 4 * k) = 2 → ((s.trx[m]).sets[k]).lossAt.length < 3 →
    a + s.getO (O.trxSsReturnHold m) * msTicks ≤ s.now → Gives (.setAutoReturn m k) s fun t => t.setSt m k = 2 ∧ ((t.trx[m]).sets[k]).preset = true) ∧
  (∀ (k : Fin 2) (a : Nat), ((s.trx[m]).sets[k]).rampAt = some a → s.setSt m k = 2 → a + s.getO (O.trxSsReturnRamp m) * msTicks ≤ s.now →
    Gives (.returnRampEnd m k) s fun t => t.setSt m k = 0 ∧ ((t.trx[m]).sets[k]).rampAt = none)

/-- R178, R184, R185, R192, R198, R199, R203, R204, R205: the mailbox commands of the loop engine. A readout crosses on channel 3, and a full
channel drops it (R30); the ST_BUSY that its command then ends with is the model's choice (log 111). -/
def Obligations.LoopCommandsComplete : Prop := ∀ (s : State) (c : Cmd),
  (∀ m, Front s 0x0401 c → c.payload.length = 8 → fieldAt c.payload 0 8 = m → m ≠ 0 → Permits s c none 2 →
    (∀ x : Fin 64, m.testBit x = true → 38 ≤ x.val ∧ s.owns c 12 = true ∧ s.ilShort (some 12) false = none ∧ bitsOf (s.getO (O.lpeTrigger x)) 31 30 ≠ 0 ∧
      2000 ≤ s.trigShortest (s.ctxTrigger x)) →
    (∀ k ∈ s.chkAdmit (((State.maskCtxs m).filter fun x => !s.ctxOn x.val && s.ctx[x].startAt.isNone).map (·.val)), k.bad = false) →
    Gives .lpeEnable s fun t => Answered t c .ok ∧ ∀ x : Fin 64, m.testBit x = true →
      (s.ctxOn x = false → (t.ctx[x]).startAt = some ((s.ctx[x]).startAt.getD (s.now + 16000))) ∧ (s.ctxOn x = true → (t.ctx[x]).stopping = false)) ∧
  (∀ m, Front s 0x0402 c → c.payload.length = 8 → fieldAt c.payload 0 8 = m → m ≠ 0 → Permits s c none 2 →
    (∀ x : Fin 64, m.testBit x = true → 38 ≤ x.val ∧ s.owns c 12 = true ∧ s.ilShort (some 12) false = none) →
    Gives .lpeDisable s fun t => Answered t c .ok ∧ ∀ x : Fin 64, m.testBit x = true → (t.ctx[x]).startAt = none ∧ (t.ctx[x]).stopping = s.ctxOn x) ∧
  (∀ m at_, Front s 0x0403 c → c.payload.length = 16 → fieldAt c.payload 0 8 = m → fieldAt c.payload 8 8 = at_ → m ≠ 0 → Permits s c none 2 →
    (at_ = 0 ∨ (s.now ≤ at_ ∧ at_ ≤ s.now + 2 ^ 32)) →
    (∀ x : Fin 64, m.testBit x = true → s.owns c (ctxGroup x) = true ∧ s.ilShort (some (ctxGroup x)) false = none ∧ s.bitO (O.lpeStatus x) 13 = false) →
    Gives .lpeBankSwap s fun t => Answered t c .pending ∧ ∀ x : Fin 64, m.testBit x = true →
      (s.ctxOn x = true → IsHeld t c ∧ (t.ctx[x]).swapAt = some at_ ∧ t.bitO (O.lpeStatus x) 13 = true) ∧
      (s.ctxOn x = false → t.bitO (O.lpeStatus x) 14 = !s.bitO (O.lpeStatus x) 14)) ∧
  (∀ (x : Fin 64) (mask : Nat), Front s 0x0404 c → c.payload.length = 36 → fieldAt c.payload 0 1 = x.val → fieldAt c.payload 1 1 = mask → fieldAt c.payload 2 2 = 0 →
    mask ≠ 0 → mask ≤ 15 → (∀ k < 8, State.s20Bad (fieldAt c.payload (4 + 4 * k) 4) = false) → Permits s c (some 12) 2 → 38 ≤ x.val → s.ctxOn x = false →
    Gives .lpePreset s fun t => Answered t c .ok ∧ ∀ k : Fin 4, mask.testBit k = true →
      (t.ctx[x]).outc[k] = s20Int (fieldAt c.payload (4 + 4 * k.val) 4) ∧ (t.ctx[x]).integ[k] = s20Int (fieldAt c.payload (20 + 4 * k.val) 4) * 2048) ∧
  (∀ b : Fin 4, Front s 0x0410 c → c.payload = [BitVec.ofNat 8 b, 0, 0, 0] → Permits s c (some (s.bufGroup b)) 2 → s.bufSt b ≠ 1 → s.bufSt b ≠ 2 →
    Gives .lpeTraceArm s fun t => Answered t c .ok ∧ t.bufSt b = 1 ∧ t.getO (O.lpeTrCount b) = 0 ∧ (t.tb[b]).recs = []) ∧
  (∀ b : Fin 4, Front s 0x0411 c → c.payload = [BitVec.ofNat 8 b, 0, 0, 0] → Permits s c (some (s.bufGroup b)) 2 → s.bufSt b = 1 ∨ s.bufSt b = 2 →
    Gives .lpeTraceStop s fun t => Answered t c .ok ∧ t.bufSt b = 3 ∧ (t.tb[b]).recs = (s.tb[b]).recs) ∧
  (∀ (b : Fin 4) (first count : Nat), Front s 0x0412 c → c.payload.length = 12 → fieldAt c.payload 0 1 = b.val → fieldAt c.payload 1 1 = 0 → fieldAt c.payload 2 2 = 0 →
    fieldAt c.payload 4 2 = first → fieldAt c.payload 6 2 = count → fieldAt c.payload 8 4 = 0 → count ≠ 0 → first + count ≤ s.getO (O.lpeTrCount b) →
    count * s.recSize b ≤ 4096 → Permits s c none 2 → s.ilShort (some (s.bufGroup b)) false = none → s.bufSt b = 3 →
    Gives .lpeTraceRead s fun t => (s.xingFull 3 = false → Answered t c (.ok (s.recBytes b first count))) ∧
      (s.xingFull 3 = true → Answered t c (.bare St.busy) ∧ t.bitO O.sysXingDropFlags 3 = true)) ∧
  (∀ (b : Fin 4) (first count xoff : Nat), Front s 0x0412 c → c.payload.length = 12 → fieldAt c.payload 0 1 = b.val → fieldAt c.payload 1 1 = 1 → fieldAt c.payload 2 2 = 0 →
    fieldAt c.payload 4 2 = first → fieldAt c.payload 6 2 = count → fieldAt c.payload 8 4 = xoff → count ≠ 0 → first + count ≤ s.getO (O.lpeTrCount b) →
    xoff + count * s.recSize b ≤ 131072 → Permits s c none 2 → s.ilShort (some (s.bufGroup b)) false = none → s.bufSt b = 3 → c.host.val < 2 →
    Gives .lpeTraceRead s fun t => Answered t c .pending ∧ IsHeld t c ∧ ({ buf := b.val, first, count, xoff } : TraceRead) ∈ t.traceReads)

/-- R34, R36, R180, R181, R182, R186, R189, R204: a trigger, a dispatch, a commit and a missed deadline of a context, and the end of a readout, whose words are dropped where channel 3 is full (R30). The trigger is said
of the contexts whose owner has nothing of its own to do at their samples, the missed deadline of those whose owner has nothing to do at a late run, and the commit
of contexts without a model. -/
def Obligations.LoopEventsComplete : Prop := ∀ (s : State) (c : Fin 64),
  (c.val ≠ 22 → (c.val < 31 ∨ 37 ≤ c.val) → s.shedTrim c = false → s.samplesNow c = true → s.ctxOn c = true → (s.ctx[c]).run = none →
    (s.ctx[c]).stopping = false → (s.ctx[c]).startAt = none → (s.ctx[c]).swapAt = none → Gives (.contextTrigger c) s fun t =>
      (t.ctx[c]).trigNext = s.now + 1 ∧
        ∃ r, (t.ctx[c]).run = some r ∧ r.at_ = s.now ∧ r.deadline = s.runDeadline c ∧ r.laneAt = none ∧ r.swapped = false) ∧
  (∀ r, s.onLane < 4 → State.firstRun s.readyRuns = some (c, r) → Gives .contextDispatch s fun t =>
    (t.ctx[c]).run = some { r with laneAt := some s.now }) ∧
  (∀ r, (s.ctx[c]).run = some r → r.laneAt.isSome = true → s.now ≤ r.deadline → s.ctxModel c = 0 → Gives (.contextCommit c) s fun t =>
    (t.ctx[c]).run = none ∧ (t.ctx[c]).lastAt = r.at_ ∧ (t.ctx[c]).first = false ∧
      ∀ (k : Fin 4) (o : ChanOut), (s.runChans c r)[k.val]? = some o → (t.ctx[c]).outc[k] = o.out ∧ (t.ctx[c]).integ[k] = o.i ∧ (t.ctx[c]).ePrev[k] = o.err) ∧
  (∀ r, (8 ≤ c.val ∧ c.val < 16) ∨ (23 ≤ c.val ∧ c.val < 31) ∨ 38 ≤ c.val → (s.ctx[c]).run = some r → r.deadline ≤ s.now → Gives (.loopDeadlineMiss c) s fun t =>
    (t.ctx[c]).run = none ∧ (t.ctx[c]).lateRuns = (s.ctx[c]).lateRuns + 1 ∧ (t.ctx[c]).outc = (s.ctx[c]).outc ∧ t.bitO (O.lpeStatus c) 5 = true ∧
      t.bitO O.sysLateFlags 1 = true ∧ t.getO (O.lpeLateCount c) = min (s.getO (O.lpeLateCount c) + 1) 0xFFFFFFFF) ∧
  (∀ (b : Fin 4) (x : TraceRead), (s.traceReads.find? fun (t : TraceRead) => t.buf == b.val) = some x → Gives (.traceReadDone b) s fun t =>
    t.traceReads = s.traceReads.erase x ∧
      (s.xingFull 3 = false → t.xmem.readN x.xoff (s.recBytes b x.first x.count).length = s.recBytes b x.first x.count) ∧
      (s.xingFull 3 = true → t.xmem = s.xmem ∧ t.bitO O.sysXingDropFlags 3 = true))

/-- R32, R209, R214, R216, R218 to R223, R231 to R234, R241, R445: triggers, conversions, injected requests, calibration and the reference monitor of
the converters. The value of a conversion is said of a result without averaging, shift or filter, and its code is that of the voltage at the input. The
rounding of a code, what becomes of a dropped injected result, and when an acquisition begins are log 105, log 111 and log 30. -/
def Obligations.ConverterCommandsComplete : Prop := ∀ (s : State) (k : Fin 12),
  (∀ g, s.gridLast (s.getO (O.adcTrigger k)) = some g → (s.adc.conv[k]).trigNext ≤ g → s.now = cvAt g → s.adcSt k = 1 → (s.adc.conv[k]).queue = [] →
    (s.adc.conv[k]).offReq = false → (s.adc.conv[k]).backReq = false → (s.adc.conv[State.partner k]).offReq = false →
    (s.adc.conv[State.partner k]).backReq = false → s.passItems k ≠ [] →
    Gives (.samplingTrigger k) s fun t => t.adcSt k = 2 ∧ (t.adc.conv[k]).trigAt = s.now ∧ (t.adc.conv[k]).entryAt = s.now ∧
      (t.adc.conv[k]).todo = s.passItems k ∧ (t.adc.conv[k]).trigNext = g + 1) ∧
  (∀ g, s.gridLast (s.getO (O.adcTrigger k)) = some g → (s.adc.conv[k]).trigNext ≤ g → cvAt g < s.now → s.adcSt k ≠ 4 → s.adcSt k ≠ 5 →
    (s.adc.conv[k]).offReq = false → (s.adc.conv[k]).backReq = false → (s.adc.conv[State.partner k]).offReq = false →
    (s.adc.conv[State.partner k]).backReq = false → s.passItems k ≠ [] →
    Gives (.samplingTrigger k) s fun t => t.bitO (O.adcStatus k) 0 = true ∧ t.bitO O.sysLateFlags 3 = true ∧
      t.adc.conv[k] = { s.adc.conv[k] with trigNext := g + 1 }) ∧
  (∀ r : InjReq, s.injDue k = some r → (s.adc.conv[k]).queue.length < 4 → s.adcSt k ≤ 3 → Gives (.injectArrival k) s fun t =>
      (t.adc.conv[k]).queue = (s.adc.conv[k]).queue ++ [r] ∧ (t.adc.conv[k]).coming = (s.adc.conv[k]).coming.erase r ∧
      (s.adcSt k ≤ 1 → t.adcSt k = 3 ∧ (t.adc.conv[k]).injAt = s.injStart r) ∧ (s.adcSt k = 3 → t.adcSt k = 3) ∧
      (∀ c, s.adcSt k = 2 → (s.adc.conv[k]).todo.head? = some c → t.adcSt k = if (s.adc.conv[k]).sampledAt c ≤ s.injStart r then 2 else 3)) ∧
  (∀ (c : Conv) (rest : List Conv) (uV : Int) (at_ code : Nat), (s.adc.conv[k]).todo = c :: rest → s.adcSt k = 2 → (s.adc.conv[k]).convEnds c ≤ s.now →
    at_ = (s.adc.conv[k]).sampledAt c → code = rawCode (s.gainAt (16 * (k.val / 2) + bitsOf c.entry 3 0) at_) uV → c.res < 384 → c.res / 32 = k.val → c.cover = false →
    bitsOf c.entry 30 23 = 0 → bitsOf c.filter 7 4 = 0 → s.resSt c.res = ResSt.idle → (s.adc.pair[State.pairOf k]).refBad = false →
    s.gainBad (16 * (k.val / 2) + bitsOf c.entry 3 0) at_ = false → 0 < code → code < 16383 →
    Gives (.adcConversionDone k uV) s fun t => t.getO (O.adcResValue c.res) =
      resultWord 0 (sat20 (calSample c.cal false code) != calSample c.cal false code) 0 (c.res % 32) (sat20 (calSample c.cal false code)) + at_ * 2 ^ 32) ∧
  (∀ (r : InjReq) (q : List InjReq) (c : Cmd) (uV : Int) (at_ : Nat), (s.adc.conv[k]).queue = r :: q → s.adcSt k = 3 → r.who = .host → r.cmd = some c →
    c.orphan = false → at_ = s.injSampled k r → at_ + 128 ≤ s.now →
    (s.adc.conv[k]).offReq = false → (s.adc.conv[State.partner k]).offReq = false → Gives (.injectedResult k uV) s fun t => (t.adc.conv[k]).queue = q ∧
      (s.xingFull 0 = false →
        Answered t c (.ok (toLe 4 (s.injWord k r (rawCode (s.gainAt (s.injInput k r) at_) uV) at_) ++ toLe 8 at_))) ∧
      (s.xingFull 0 = true → Answered t c (.bare St.busy) ∧ t.bitO O.sysXingDropFlags 0 = true)) ∧
  (∀ (p : Fin 6) (c : CalRun) (even odd : List Int), (s.adc.pair[p]).cal = some c → s.adcSt (State.convOf p false) = 4 → s.calEnds p c ≤ s.now →
    even.length = 64 → odd.length = 64 → State.calClip (s.calCodes p c even) = false → State.calClip (s.calCodes p c odd) = false → c.point = 0 →
    Gives (.calAcquisitionDone p even odd) s fun t => (t.adc.pair[p]).cal = none ∧
      ∃ z ∈ t.adc.zero, z.host = c.host ∧ z.res = c.res ∧ z.even = (s.calCodes p c even).foldl (· + ·) 0 ∧
        z.odd = (s.calCodes p c odd).foldl (· + ·) 0 ∧ z.value = c.value) ∧
  (∀ (p : Fin 6) (c : CalRun) (even odd : List Int) (z : CalZero) (e o : Rat × Rat), (s.adc.pair[p]).cal = some c → s.adcSt (State.convOf p false) = 4 →
    s.calEnds p c ≤ s.now → even.length = 64 → odd.length = 64 → State.calClip (s.calCodes p c even) = false → State.calClip (s.calCodes p c odd) = false →
    c.point = 1 → c.zero = some z → c.res < 384 →
    State.calCompute z.even ((s.calCodes p c even).foldl (· + ·) 0) z.value c.value = .inl e →
    State.calCompute z.odd ((s.calCodes p c odd).foldl (· + ·) 0) z.value c.value = .inl o →
    Gives (.calAcquisitionDone p even odd) s fun t => (t.adc.pair[p]).cal = none ∧
      bitsOf (t.getO (O.adcResCal c.res)) 31 0 = f32Of (if c.res / 32 % 2 = 0 then e.2 else o.2) ∧
      bitsOf (t.getO (O.adcResCal c.res)) 63 32 = f32Of (if c.res / 32 % 2 = 0 then e.1 else o.1)) ∧
  (∀ (c : Cmd) (j : Nat) (i : Fin 12), Front s 0x0501 c → c.payload.length = 4 → fieldAt c.payload 0 2 = j → fieldAt c.payload 2 2 = 0 → j < 384 →
    j / 32 = i.val → Permits s c (s.pairGroup (j / 64)) 1 → Gives .adcInject s fun t =>
      ((s.adc.conv[s.runsOn i]).queue.length + ((s.adc.conv[i]).coming.filter fun r => r.who == .host).length < 4 →
        (t.adc.conv[i]).coming = (s.adc.conv[i]).coming ++ [{ res := j, who := .host, at_ := s.now, cmd := some c }]) ∧
      (4 ≤ (s.adc.conv[s.runsOn i]).queue.length + ((s.adc.conv[i]).coming.filter fun r => r.who == .host).length → Answered t c (.bare St.busy))) ∧
  (∀ (c : Cmd) (m : Nat), Front s 0x0502 c → c.payload.length = 4 → fieldAt c.payload 0 2 = m → fieldAt c.payload 2 2 = 0 → m ≠ 0 → m ≤ 4095 → Permits s c none 1 →
    (∀ y : Fin 12, (s.adc.conv[y]).offReq = false ∧ (s.adc.conv[y]).backReq = false) →
    (∀ x : Fin 12, m.testBit x = true → Permits s c (s.pairGroup (x.val / 2)) 1 ∧ bitsOf (s.getO (O.adcTrigger x)) 31 30 = 0 ∧ s.adcSt x = 1 ∧
      (s.adc.conv[x]).queue = [] ∧ s.passItems x ≠ []) →
    Gives .adcSeqStart s fun t => Answered t c .ok ∧ ∀ x : Fin 12, m.testBit x = true →
      t.adcSt x = 2 ∧ (t.adc.conv[x]).trigAt = s.cvNext ∧ (t.adc.conv[x]).todo = s.passItems x) ∧
  (∀ (c : Cmd) (j : Nat) (p : Fin 6), Front s 0x0503 c → c.payload.length = 8 → fieldAt c.payload 0 2 = j → fieldAt c.payload 2 1 = 0 → fieldAt c.payload 3 1 = 0 →
    State.s20Bad (fieldAt c.payload 4 4) = false → j < 384 → j / 64 = p.val → Permits s c (s.pairGroup (j / 64)) 3 →
    (∀ g, s.pairGroup (j / 64) = some g → s.stageOn g = false) → (s.adc.pair[p]).cal = none →
    (∀ b, s.adcSt (State.convOf p b) ≤ 1 ∧ (s.adc.conv[State.convOf p b]).queue = []) →
    Gives .adcCal s fun t => Answered t c .pending ∧ IsHeld t c ∧ (t.adc.pair[p]).calAt = s.cvNext ∧ ∀ b, t.adcSt (State.convOf p b) = 4) ∧
  (∀ (p : Fin 6) (r25 rMid : Nat), r25 + 10000 < 2500000 ∨ 2510000 < r25 ∨ rMid + 5000 < 1250000 ∨ 1255000 < rMid →
    Gives (.refMonitorCheck p r25 rMid) s fun t => (t.adc.pair[p]).refBad = true) ∧
  (∀ (p : Fin 6) (r25 rMid a : Nat), 2490000 ≤ r25 → r25 ≤ 2510000 → 1245000 ≤ rMid → rMid ≤ 1255000 → (s.adc.pair[p]).refOkAt = some a →
    a + 100 * usTicks ≤ s.now → Gives (.refMonitorCheck p r25 rMid) s fun t => (t.adc.pair[p]).refBad = false)

/-- R246, R249 to R252, R254 to R259: the counting of a quadrature and of a Hall port, the index, the sampling instant, the frames of the other
modes and the recovery of a port. -/
def Obligations.PositionEventsComplete : Prop := ∀ (s : State) (p : Fin 4),
  (∀ a, s.getO (O.posMode p) = 2 → (s.pos[p]).a ≠ a → (s.pos[p]).tEdge + 4 * s.getO (O.posMinEdge p) ≤ s.now →
    Gives (.quadratureChange p a (s.pos[p]).b) s fun t => (t.pos[p]).count = (s.pos[p]).count + (if a = (s.pos[p]).b then -1 else 1) ∧ (t.pos[p]).a = a ∧
      (t.pos[p]).tEdge = s.now) ∧
  (∀ b, s.getO (O.posMode p) = 2 → (s.pos[p]).b ≠ b → (s.pos[p]).tEdge + 4 * s.getO (O.posMinEdge p) ≤ s.now →
    Gives (.quadratureChange p (s.pos[p]).a b) s fun t => (t.pos[p]).count = (s.pos[p]).count + (if b = (s.pos[p]).a then 1 else -1) ∧ (t.pos[p]).b = b ∧
      (t.pos[p]).tEdge = s.now) ∧
  (∀ a b, s.getO (O.posMode p) = 2 → (s.pos[p]).a ≠ a → (s.pos[p]).b ≠ b → Gives (.quadratureChange p a b) s fun t =>
    (t.pos[p]).count = (s.pos[p]).count ∧ (t.pos[p]).a = a ∧ (t.pos[p]).b = b ∧ t.getO (O.posQerr p) = min (s.getO (O.posQerr p) + 1) 0xFFFFFFFF) ∧
  (s.getO (O.posMode p) = 2 → s.bitO (O.posZcfg p) 0 = true → (s.pos[p]).a = s.bitO (O.posZcfg p) 3 → (s.pos[p]).b = s.bitO (O.posZcfg p) 2 → (s.pos[p]).refd = false →
    Gives (.indexEdge p) s fun t => (t.pos[p]).refd = true ∧ (t.pos[p]).count = 0 ∧ (t.pos[p]).idxErr = 0) ∧
  (s.getO (O.posMode p) = 2 → s.bitO (O.posZcfg p) 0 = true → (s.pos[p]).a = s.bitO (O.posZcfg p) 3 → (s.pos[p]).b = s.bitO (O.posZcfg p) 2 → (s.pos[p]).refd = true →
    2 < (s.pos[p]).count % (s.posCpr p : Int) → (s.pos[p]).count % (s.posCpr p : Int) + 2 < s.posCpr p →
    Gives (.indexEdge p) s fun t => (t.pos[p]).idxErr = (s.pos[p]).idxErr + 1 ∧ (s.bitO (O.posZcfg p) 1 = true → (t.pos[p]).count = 0)) ∧
  (∀ h n, s.getO (O.posMode p) = 3 → hallSector h = some n → (s.pos[p]).sector = none → Gives (.hallChange p h) s fun t =>
    (t.pos[p]).sector = some n ∧ (t.pos[p]).count = n ∧ (t.pos[p]).refd = true) ∧
  (∀ h n o, s.getO (O.posMode p) = 3 → hallSector h = some n → (s.pos[p]).sector = some o → o < 6 → (n = (o + 1) % 6 ∨ o = (n + 1) % 6) →
    (s.pos[p]).tEdge + 4 * s.getO (O.posMinEdge p) ≤ s.now → Gives (.hallChange p h) s fun t =>
      (t.pos[p]).sector = some n ∧ (t.pos[p]).count = (s.pos[p]).count + (if n = (o + 1) % 6 then 1 else -1)) ∧
  (∀ g, s.getO (O.posMode p) ∈ [1, 2, 3, 5] → s.gridLast (s.getO (O.posTrigger p)) = some g → (s.pos[p]).trigNext ≤ g → s.now = cvAt g → Gives (.positionSample p) s fun t =>
    t.getO (O.posAngle p) = t.posAngleAt p s.now ∧ (s.xingFull 0 = false → (t.pos[p]).wordAt = s.now) ∧
      (s.xingFull 0 = true → t.bitO O.sysXingDropFlags 0 = true ∧ (t.pos[p]).wordAt = (s.pos[p]).wordAt) ∧
      (t.pos[p]).count = (s.pos[p]).count ∧ (t.pos[p]).trigNext = g + 1 ∧
      (s.getO (O.posMode p) = 1 → (t.pos[p]).speed = (s.pos[p]).vel * 48000000000 / (max 1 (s.getO (O.posRes p)) : Nat)) ∧
      ((s.pos[p]).fault.isSome = true → (t.pos[p]).st = 2)) ∧
  (∀ g, s.getO (O.posMode p) = 4 → s.gridLast (s.getO (O.posTrigger p)) = some g → (s.pos[p]).trigNext ≤ g → s.now = cvAt g → Gives (.positionSample p) s fun t =>
    (t.pos[p]).ssiAt = some s.now ∧ (t.pos[p]).trigNext = g + 1) ∧
  (∀ g, s.gridLast (s.getO (O.posTrigger p)) = some g → (s.pos[p]).trigNext ≤ g → cvAt g < s.now → Gives (.positionSample p) s fun t =>
    (t.pos[p]).trigNext = g + 1 ∧ (t.pos[p]).wordAt = (s.pos[p]).wordAt ∧ Keeps [.pos] s t) ∧
  ((s.getO (O.posMode p) = 2 ∨ s.getO (O.posMode p) = 3) → (s.pos[p]).tEdge + 8000 * s.getO (O.posStandstill p) ≤ s.now → Gives (.standstillTimeout p) s fun t =>
    (t.pos[p]).spd = 0 ∧ (t.pos[p]).speed = 0 ∧ (t.pos[p]).spdOk = true) ∧
  (∀ (x y : BitVec 16), s.getO (O.posMode p) = 1 → (s.pos[p]).excAt + 800000000 / max 1 (s.pos[p]).exc.1 ≤ s.now →
    8192 * 8192 ≤ x.toInt * x.toInt + y.toInt * y.toInt → 400 * (x.toInt * x.toInt + y.toInt * y.toInt) ≤ 361 * (32768 * 32768) →
    absQ ((s.pos[p]).trackError (Config.resolverAngle x.toInt y.toInt) s.now) ≤ 5 / 360 → Gives (.resolverPeriod p x y) s fun t =>
      (t.pos[p]).badRun = 0 ∧ (t.pos[p]).okRun = (s.pos[p]).okRun + 1 ∧ (t.pos[p]).excAt = s.now ∧
        (7 ≤ (s.pos[p]).okRun → (t.pos[p]).refd = true)) ∧
  (∀ (x y : BitVec 16), s.getO (O.posMode p) = 1 → (s.pos[p]).excAt + 800000000 / max 1 (s.pos[p]).exc.1 ≤ s.now →
    x.toInt * x.toInt + y.toInt * y.toInt < 8192 * 8192 ∨ 361 * (32768 * 32768) < 400 * (x.toInt * x.toInt + y.toInt * y.toInt) ∨
      5 / 360 < absQ ((s.pos[p]).trackError (Config.resolverAngle x.toInt y.toInt) s.now) → Gives (.resolverPeriod p x y) s fun t =>
    (t.pos[p]).badRun = (s.pos[p]).badRun + 1 ∧ (t.pos[p]).okRun = 0 ∧ (t.pos[p]).excAt = s.now) ∧
  (∀ (bits : BitVec 33) (at_ : Nat), (s.pos[p]).ssiAt = some at_ → s.getO (O.posMode p) = 4 → bitOf (s.getO (O.posSsiCfg p)) 6 = false → Gives (.ssiFrameDone p bits true) s fun t =>
    (t.pos[p]).ssiAt = none ∧ (t.pos[p]).frameBad = 0 ∧ ∃ angle < 65536, (t.pos[p]).frame = some (angle, at_)) ∧
  (∀ (bits : BitVec 33) (at_ : Nat), (s.pos[p]).ssiAt = some at_ → s.getO (O.posMode p) = 4 → Gives (.ssiFrameDone p bits false) s fun t =>
    (t.pos[p]).ssiAt = none ∧ (t.pos[p]).frameBad = (s.pos[p]).frameBad + 1 ∧ (t.pos[p]).frame = (s.pos[p]).frame ∧ (t.pos[p]).speed = (s.pos[p]).speed) ∧
  (∀ (sync : Nat) (status : BitVec 4) (nibbles : List (BitVec 4)), s.getO (O.posMode p) = 5 → (s.pos[p]).sync = none →
    3 * (5600 * bitsOf (s.getO (O.posSentCfg p)) 31 24) ≤ 4 * sync → 4 * sync ≤ 5 * (5600 * bitsOf (s.getO (O.posSentCfg p)) 31 24) →
    nibbles.length = bitsOf (s.getO (O.posSentCfg p)) 23 20 →
    Gives (.sentFrameReceived p (bitOf (s.getO (O.posSentCfg p)) 14) sync status nibbles (sentCrc (bitOf (s.getO (O.posSentCfg p)) 15) nibbles)) s fun t =>
      (t.pos[p]).frameBad = 0 ∧ (t.pos[p]).noFrameMs = 0 ∧ (t.pos[p]).refd = true ∧ (t.pos[p]).sync = some sync) ∧
  (∀ (pause : Bool) (sync : Nat) (status : BitVec 4) (nibbles : List (BitVec 4)) (crc : BitVec 4), s.getO (O.posMode p) = 5 →
    sentCrc (bitOf (s.getO (O.posSentCfg p)) 15) nibbles ≠ crc ∨ pause ≠ bitOf (s.getO (O.posSentCfg p)) 14 → Gives (.sentFrameReceived p pause sync status nibbles crc) s fun t =>
      (t.pos[p]).frameBad = (s.pos[p]).frameBad + 1 ∧ (t.pos[p]).frame = (s.pos[p]).frame ∧ (t.pos[p]).speed = (s.pos[p]).speed ∧
        (t.pos[p]).sync = some sync) ∧
  (∀ f, s.getO (O.posMode p) = 5 → (s.pos[p]).frame = some f → f.2 + ((s.pos[p]).noFrameMs + 1) * msTicks ≤ s.now → Gives (.sentStale p) s fun t =>
    (t.pos[p]).noFrameMs = (s.pos[p]).noFrameMs + 1) ∧
  ((s.pos[p]).st = 2 → (s.pos[p]).metAt + s.getO (O.posRecover p) * msTicks ≤ s.now → s.getO (O.posMode p) = 2 → Gives (.portRecover p) s fun t =>
    (t.pos[p]).refd = false ∧ (t.pos[p]).idxErr = 0 ∧ (t.pos[p]).count = (s.pos[p]).count ∧ (t.pos[p]).st = if s.bitO (O.posZcfg p) 0 then 3 else 4) ∧
  ((s.pos[p]).st = 2 → (s.pos[p]).metAt + s.getO (O.posRecover p) * msTicks ≤ s.now → s.getO (O.posMode p) ≠ 2 → s.getO (O.posMode p) ≠ 0 → Gives (.portRecover p) s fun t =>
    (t.pos[p]).st = 1 ∧ (t.pos[p]).count = (s.pos[p]).count ∧ (t.pos[p]).spd = 0)

/-- R260 to R262, R265: the mailbox commands of the position ports, and an edge at a probe. -/
def Obligations.PositionCommandsComplete : Prop := ∀ (s : State),
  (∀ (c : Cmd) (p : Fin 4) (angle : Nat), Front s 0x0510 c → c.payload.length = 4 → fieldAt c.payload 0 1 = p.val → fieldAt c.payload 1 1 = 0 →
    fieldAt c.payload 2 2 = angle → Permits s c (s.portGroup p) 2 → s.getO (O.posMode p) = 2 → ((s.pos[p]).st = 2 ∨ (s.pos[p]).st = 4) →
    (∀ m < 4, s.getO (O.trxState m) ≠ 3 ∨ s.getO (O.trxPosPort m) ≠ p.val ∨ s.getO (O.trxAngleSrc m) ≠ 0) →
    Gives .posClear s fun t => Answered t c .ok ∧ (t.pos[p]).st = 1 ∧ (t.pos[p]).refd = true ∧ (t.pos[p]).spd = 0 ∧
      (t.pos[p]).count = roundAway ((angle * s.posCpr p : Nat) / (65536 : Rat)) % (s.posCpr p : Int)) ∧
  (∀ (c : Cmd) (n : Fin 4), Front s 0x0511 c → c.payload = [BitVec.ofNat 8 n, 0, 0, 0] → Permits s c (s.portGroup (s.probePort n)) 1 →
    bitsOf (s.getO (O.posPrbCfg n)) 7 6 ≠ 0 → Gives .posProbeArm s fun t => Answered t c .ok ∧ t.bitO (O.posPrbStatus n) 7 = true) ∧
  (∀ (c : Cmd) (n : Fin 4), Front s 0x0512 c → c.payload = [BitVec.ofNat 8 n, 0, 0, 0] → Permits s c (s.portGroup (s.probePort n)) 1 →
    Gives .posProbeRead s fun t => Answered t c (.ok (toLe 1 (s.prb[n]).length ++ [0, 0, 0] ++ (s.prb[n]).flatMap State.latchBytes)) ∧ t.prb[n] = []) ∧
  (∀ (n : Fin 4) (rising : Bool), s.bitO (O.posPrbStatus n) 7 = true → s.bitO (O.posPrbCfg n) (if rising then 6 else 7) = true → (s.prb[n]).length < 4 →
    Gives (.probeEdge n rising) s fun t => ∃ l : Latch, t.prb[n] = s.prb[n] ++ [l] ∧ l.rising = rising ∧
      l.stamp = s.followerStamp .cv - BitVec.ofNat 64 (4 * s.getO (O.pinFilter (11 + n)))) ∧
  (∀ (n : Fin 4) (rising : Bool), s.bitO (O.posPrbStatus n) 7 = true → s.bitO (O.posPrbCfg n) (if rising then 6 else 7) = true → 4 ≤ (s.prb[n]).length →
    Gives (.probeEdge n rising) s fun t => t.prb = s.prb ∧ t.bitO (O.posPrbStatus n) 1 = true)

/-- R288, R289, R290, R292, R300, R305: the commands of the DC link in their normal case. Without a battery DCL_CLOSE takes
state 4 at once; with one, the closing sequence starts at step 1 with the negative contactor. -/
def Obligations.DcLinkCommandsComplete : Prop := ∀ (s : State) (c : Cmd),
  (Front s 0x0320 c → c.payload = [] → Permits s c (some 4) 1 true → s.dclSt = 0 → s.getO O.dclBattery = 0 →
    (s.getO O.dclHvilEnable = 0 ∨ s.dcl.hvil = false) → s.getO O.dclBmsOpen = 0 → s.dcl.starts.length < 3 → s.override 4 < 2 →
    Gives .dclClose s fun t => Answered t c .pending ∧ t.dclSt = 4 ∧
      ({ host := c.host, code := c.code, tag := c.tag, status := St.ok, reason := none } : Ended) ∈ t.disp.ended) ∧
  (Front s 0x0320 c → c.payload = [] → Permits s c (some 4) 1 true → s.dclSt = 0 → s.getO O.dclBattery = 1 →
    s.getO O.dclVbatSrc < 384 → s.dcl.vLink - s.dcl.vBat ≤ s.getQ O.dclPreDv → s.closePermit = true →
    s.getQ O.dclWeldDv ≤ s.dcl.vBat - s.dcl.vLink →
    (s.getO O.dclHvilEnable = 0 ∨ s.dcl.hvil = false) → s.getO O.dclBmsOpen = 0 → s.dcl.starts.length < 3 → s.override 4 < 2 →
    Gives .dclClose s fun t => Answered t c .pending ∧ IsHeld t c ∧ t.dclSt = 1 ∧ t.dcl.ctrNeg = true ∧ t.dcl.ctrPos = false ∧
      t.dcl.ctrPre = false ∧ t.dcl.step = 1 ∧ t.dcl.stepAt = s.now) ∧
  (Front s 0x0321 c → c.payload = [0, 0, 0, 0] → Permits s c (some 4) 1 → s.dclSt = 4 →
    Gives .dclOpen s fun t => Answered t c .pending ∧ t.dclSt = 5 ∧ t.dcl.ctrPos = s.dcl.ctrPos) ∧
  (Front s 0x0321 c → c.payload = [1, 0, 0, 0] → Permits s c (some 4) 1 → s.dclSt = 4 →
    Gives .dclOpen s fun t => Answered t c .pending ∧ t.dclSt = 5 ∧ t.dcl.ctrPos = false ∧ t.dcl.ctrNeg = false ∧
      t.dcl.ctrPre = false) ∧
  (Front s 0x0322 c → c.payload = [] → Permits s c (some 4) 1 → s.linkState 31 = 2 → s.links[(31 : Fin 40)].fault = 0 →
    Gives .dclChopClear s fun t => Answered t c .ok ∧ t.bitO O.dclFlags 17 = false) ∧
  (Front s 0x0323 c → c.payload = [] → Permits s c (some 4) 2 → s.dcl.vLink < s.getQ O.dclHwOvRel →
    Gives .dclHwovClear s fun t => Answered t c .ok ∧ t.bitO O.dclFlags 16 = false ∧ t.dcl.hwAsc = false)

/-- R287, R290, R292, R294, R296, R303, R304: what the DC link does when a time of its own passes or an input changes. -/
def Obligations.DcLinkEventsComplete : Prop := ∀ (s : State),
  (s.dclSt = 3 → s.dcl.step = 4 → s.closePermit = true → s.dcl.stepAt + s.getO O.dclCloseTime * msTicks ≤ s.now →
    Gives .closeStepTimer s fun t => t.dclSt = 4 ∧ t.dcl.step = 0) ∧
  (s.dclSt = 3 → s.dcl.step = 3 → s.dcl.stepAt + s.getO O.dclPreTimeout * msTicks ≤ s.now →
    Gives .prechargeTimeout s fun t => t.dclSt = 6 ∧ t.bitO O.dclFlags 7 = true ∧ t.dcl.ctrPos = false ∧ t.dcl.ctrNeg = false ∧
      t.dcl.ctrPre = false) ∧
  (s.dclSt = 5 → s.dcl.posAt = none → (∀ m : Fin 4, s.trxSt m = 0) →
    Gives .openingStep s fun t => t.dcl.ctrPos = false ∧ t.dcl.posAt = some s.now) ∧
  (∀ a, s.dclSt = 5 → s.dcl.posAt = some a → a + s.getO O.dclCloseTime * msTicks ≤ s.now →
    Gives .openingStep s fun t => t.dclSt = 0 ∧ t.dcl.ctrNeg = false ∧ t.getO O.dclBmsOpen = 0) ∧
  (s.linkFresh (s.linkSrc 0) = true → s.linkSrc 1 = 0xFFFF → s.dcl.v2At = none →
    Gives .linkVoltageSample s fun t =>
      t.getO O.dclVLink = f32Of (maxQ (s.resFrac (s.linkSrc 0) * s.getQ O.dclVFs) 0)) ∧
  (∀ a, s.dcl.belowAt = some a → s.bitO O.dclFlags 18 = true → s.dcl.noSrc = false → a + 10 * msTicks ≤ s.now →
    Gives .ovaEnd s fun t => t.bitO O.dclFlags 18 = false) ∧
  (∀ a, s.linkSrc 0 < 384 → s.dcl.v1At = some a → a + msTicks ≤ s.now → s.dcl.v2At = none → s.dcl.noSrc = false →
    Gives (.linkSourceTimeout 0) s fun t => t.dcl.v1At = none ∧ t.dcl.noSrc = true ∧ t.bitO O.dclFlags 4 = true) ∧
  (∀ a, s.linkSrc 1 < 384 → s.dcl.v2At = some a → a + msTicks ≤ s.now → s.dcl.v1At ≠ none → s.dcl.noSrc = false →
    Gives (.linkSourceTimeout 1) s fun t => t.dcl.v2At = none ∧ t.dcl.noSrc = false) ∧
  (∀ a, s.dcl.diffAt = some a → a + 10 * msTicks ≤ s.now →
    Gives .linkSourceMismatch s fun t => t.bitO O.dclFlags 4 = true) ∧
  (s.dcl.hvil = false → s.copyRuns 0 = true → s.dcl.hvilOpen[0] = true → s.dclSt = 4 → s.getO O.dclHvilAct = 1 →
    Gives .hvilOpen s fun t => t.dcl.hvil = true ∧ t.bitO O.dclFlags 6 = true ∧ t.dclSt = 5) ∧
  (s.dcl.hvil = true → s.dcl.hvilOpen[0] = false → s.dcl.hvilOpen[1] = false →
    Gives .hvilClosed s fun t => t.dcl.hvil = false) ∧
  (s.dcl.bmsStale = false → s.dcl.bmsAt + s.getO O.dclBmsAge * msTicks < s.now →
    Gives .bmsStale s fun t => t.dcl.bmsStale = true ∧ t.bitO O.dclFlags 5 = true) ∧
  (s.bitO O.dclFlags 16 = false →
    Gives .hwOvTrip s fun t => t.bitO O.dclFlags 16 = true ∧ t.bitO O.dclFlags 0 = true ∧ t.dcl.hwAt = s.now ∧ t.dcl.hwAsc = false) ∧
  (s.bitO O.dclFlags 16 = true → s.dcl.hwAsc = false → s.dcl.hwAt + s.getO O.dclHwOffTime * 80 ≤ s.now →
    Gives .hwOvAsc s fun t => t.dcl.hwAsc = true)

/-- R322 to R324, R328, R332, R338, R341: the mailbox commands of the charger. `chgChecks` lists checks 2 to 9 of R323, `chkAdmit` is the admission of R185. -/
def Obligations.ChargerCommandsComplete : Prop := ∀ (s : State) (c : Cmd),
  (∀ mode : Fin 4, Front s 0x0601 c → c.payload = [BitVec.ofNat 8 mode, 0, 0, 0] → Permits s c (some 5) 1 true → s.chgSt = 0 → (∀ k ∈ s.chgChecks, k.bad = false) →
    s.chgSelect mode ≠ 0 → (∀ k ∈ s.chkAdmit [16, 17, 18, 19, 20, 21], k.bad = false) →
    Gives .chgStart s fun t => Answered t c .pending ∧ IsHeld t c ∧ t.chgSt = 1 ∧ t.chgMode = s.chgSelect mode ∧ t.chg.qualIn = s.now) ∧
  (Front s 0x0602 c → c.payload = [] → Permits s c (some 5) 1 → s.chgSt = 0 → Gives .chgStop s fun t => Answered t c .ok ∧ t.chgSt = 0) ∧
  (Front s 0x0602 c → c.payload = [] → Permits s c (some 5) 1 → s.chgSt = 6 → Gives .chgStop s fun t => Answered t c .ok ∧ t.chgSt = 0) ∧
  (Front s 0x0602 c → c.payload = [] → Permits s c (some 5) 1 → s.chgSt = 4 → Gives .chgStop s fun t => Answered t c .pending ∧ t.chgSt = 0 ∧
    ({ host := c.host, code := c.code, tag := c.tag, status := St.ok, reason := none } : Ended) ∈ t.disp.ended) ∧
  (Front s 0x0602 c → c.payload = [] → Permits s c (some 5) 1 → s.chgSt = 3 → Gives .chgStop s fun t => Answered t c .pending ∧ IsHeld t c ∧ t.chgSt = 5 ∧
    t.chg.ends = 0 ∧ t.chg.stopCause = 1) ∧
  (Front s 0x0603 c → c.payload = [] → Permits s c (some 5) 1 → s.chgSt = 3 → s.chgMode = 2 → Gives .chgResearch s fun t =>
    Answered t c .pending ∧ IsHeld t c ∧ t.chgSt = 1 ∧ t.chg.limit = none ∧ t.chg.cuts = []) ∧
  (Front s 0x0603 c → c.payload = [] → Permits s c (some 5) 1 → s.chgSt = 3 → s.chgMode = 3 → Gives .chgResearch s fun t =>
    Answered t c .pending ∧ IsHeld t c ∧ t.chg.sweepAsk = true)

/-- R314, R317, R319, R321, R325 to R328, R330 to R333, R337 to R339: what the charger does when an input of it changes or a time of it passes. How a line cycle is
measured is log 34, the timing of the pilot log 33, from when a resume condition counts log 35, the end of an orderly stop log 184. -/
def Obligations.ChargerEventsComplete : Prop := ∀ (s : State),
  (∀ at_, Gives (.pilotEdge false at_) s fun t => t.chg.pilot.fall = some (at_ / 4 * 4) ∧ t.chg.pilot.rise = s.chg.pilot.rise) ∧
  (∀ at_, s.chg.pilot.rise = none → Gives (.pilotEdge true at_) s fun t => t.chg.pilot.rise = some (at_ / 4 * 4) ∧ t.chg.pilot.fall = s.chg.pilot.fall) ∧
  (∀ a, s.chg.pilot.riseAt = some a → a + sTicks ≤ s.now → Gives .pilotRiseHold s fun t => t.chg.pilot.eff = s.getQ O.chgIPilot ∧ t.chg.pilot.riseAt = none) ∧
  Gives .proximityTick s (fun t => ({ res := 266, who := .proximity, at_ := s.now, cmd := none } : InjReq) ∈ (t.adc.conv[(8 : Fin 12)]).coming ∧
    (s.pilotLive = false → ({ res := 265, who := .pilotHigh, at_ := s.now, cmd := none } : InjReq) ∈ (t.adc.conv[(8 : Fin 12)]).coming)) ∧
  (s.chg.lineEnd = false → Gives .lineCycleMeasure s fun t => t = s) ∧
  (s.chg.lineEnd = true → s.chgMode = 0 ∨ s.chgMode = 3 → Gives .lineCycleMeasure s fun t =>
    t.chg.lineAt = s.now ∧ t.chg.lineEnd = false ∧ t.chg.live = s.liveLines.length ∧
      t.chg.inA = (if s.liveLines.length = 3 then maxQ s.chg.lines[0].amps (maxQ s.chg.lines[1].amps s.chg.lines[2].amps) else s.chg.lines[0].amps)) ∧
  (∀ l, s.chg.lineEnd = true → s.chgMode = 2 → s.chgSt = 1 → l = s.chg.lines[0] → s.liveLines = [l] → 85 ≤ l.rms → l.rms ≤ 277 → 45 ≤ l.freq → l.freq ≤ 65 →
    s.chg.hist = [] → Gives .lineCycleMeasure s fun t =>
      t.chgSt = 1 ∧ t.chg.live = 1 ∧ t.chg.qualAt = s.chg.qualAt ∧ t.chg.lineAt = s.now ∧ t.chgV = l.rms) ∧
  (s.chgSt = 1 → s.chg.selSettled = true → s.chg.sel = s.chg.selWant → s.batFresh = true → s.batInside 0 = true → s.bmsOk = true → s.chgMode = 2 → s.chg.qualAt + s.getO O.chgQualTime * msTicks ≤ s.now → s.chg.live = 1 →
    81 / 50 * (s.chgV * s.chgV) ≤ s.chgBus * s.chgBus → s.chg.limit = none →
    Gives .qualifyEnd s fun t => t.chgSt = 2 ∧ t.chg.search.isSome = true) ∧
  (s.chgSt = 1 → s.chg.selSettled = true → s.chg.sel = s.chg.selWant → s.batFresh = true → s.batInside 0 = true → s.bmsOk = true → s.chgMode = 1 → s.pilotDraws = true → s.chg.qualAt + s.getO O.chgQualTime * msTicks ≤ s.now → s.chg.live = 1 →
    81 / 50 * (s.chgV * s.chgV) ≤ s.chgBus * s.chgBus → Gives .qualifyEnd s fun t => t.chgSt = 3 ∧ t.chg.cutAt = s.now) ∧
  (s.chgSt = 1 → s.chgMode = 1 → s.chg.live = 0 → s.chg.qualIn + 10 * sTicks ≤ s.now → Gives .qualifyNoAc s fun t =>
    t.chgSt = 4 ∧ t.getO O.chgCause = 2 ∧ t.bitO O.chgFlags 5 = true) ∧
  (s.chg.selAt + 50 * msTicks ≤ s.now → Gives .chgSelSettle s fun t => t.chg.selSettled = true) ∧
  (∀ x a, s.chg.search = some x → x.reachedAt = some a → a + s.getO O.chgSrcTStep * msTicks ≤ s.now →
    s.getQ O.chgV0 * (1 - (s.getO O.chgSrcSag : Nat) / 1000) ≤ meanQ (s.chg.hist.map fun y => y.2.1) →
    s.getQ O.chgF0 - (s.getO O.chgSrcDroop : Nat) / 10 ≤ meanQ (s.chg.hist.map fun y => y.2.2) → s.chg.rocof = false → x.outLim = false → x.i < x.cap →
    Gives .searchStepEnd s fun t => ∃ y, t.chg.search = some y ∧ y.good = x.i ∧ y.i = minQ (x.i + s.getQ O.chgSrcIStep) x.cap ∧ y.steps = x.steps + 1 ∧
      y.reachedAt = none) ∧
  (∀ x a, s.chg.search = some x → x.reachedAt = some a → a + s.getO O.chgSrcTStep * msTicks ≤ s.now →
    s.getQ O.chgV0 * (1 - (s.getO O.chgSrcSag : Nat) / 1000) ≤ meanQ (s.chg.hist.map fun y => y.2.1) →
    s.getQ O.chgF0 - (s.getO O.chgSrcDroop : Nat) / 10 ≤ meanQ (s.chg.hist.map fun y => y.2.2) → s.chg.rocof = false → x.outLim = false → x.cap ≤ x.i → x.i ≠ 0 →
    x.probe = none → s.chgSt = 2 → Gives .searchStepEnd s fun t => t.chg.search = none ∧ t.chg.limit = some x.i ∧ t.chg.searchEnd = 5 ∧ t.chgSt = 3) ∧
  (s.chgSt = 3 → s.chgMode = 2 → s.chg.search = none → s.chg.rocof = true → s.chg.cuts = [] → Gives .sourceCut s fun t =>
    t.chg.limit = some (s.chgTarget * (s.getO O.chgSrcBackoff : Nat) / 1000) ∧ t.chg.cuts = [s.now] ∧ t.bitO O.chgFlags 0 = true) ∧
  (s.chgSt = 3 → s.chgMode = 2 → s.chg.search = none → s.chg.cutAt + s.getO O.chgSrcResearch * 60 * sTicks ≤ s.now → Gives .sourceProbe s fun t =>
    ∃ x, t.chg.search = some x ∧ x.probe = some s.chgTarget ∧ x.i = minQ (s.chgTarget + s.getQ O.chgSrcIStep) s.chgCap ∧ x.reachedAt = none) ∧
  (∀ p v, s.chgSt = 3 → s.chgMode = 3 → s.chg.poAt + s.getO O.chgPvInterval * msTicks ≤ s.now → s.chg.sweeping = false → s.chg.pvLimit = false →
    p = (if s.chg.wN = 0 then 0 else s.chg.wSum / (s.chg.wN : Nat)) →
    v = (if (if p < s.chg.pPrev then !s.chg.dirUp else s.chg.dirUp) = true then s.getQ O.chgVPvRef + s.getQ O.chgPvStep
      else s.getQ O.chgVPvRef - s.getQ O.chgPvStep) →
    Gives .pvPoTick s fun t => t.chg.poAt = s.now ∧ t.chg.pPrev = p ∧ t.chg.dirUp = (if p < s.chg.pPrev then !s.chg.dirUp else s.chg.dirUp) ∧
      t.chg.wSum = 0 ∧ t.chg.wN = 0 ∧
      t.getO O.chgVPvRef = f32Of (clampQ v (s.getQ O.chgPvVMin) (minQ 900 (49 / 50 * s.getQ O.chgVOc)))) ∧
  (s.chg.pvLimit = true → s.chg.bindAt + sTicks ≤ s.now → Gives .pvLimitExit s fun t => t.chg.pvLimit = false ∧ t.chg.dirUp = false) ∧
  (s.chgSt = 3 → s.chgMode = 3 → s.chg.pvLimit = false → s.chg.sweeping = false → s.chg.sweepAsk = true ∨ s.chg.sweepAt + s.getO O.chgPvSweep * sTicks ≤ s.now →
    Gives .pvSweepStart s fun t => t.chg.sweeping = true ∧ t.chg.sweepAsk = false ∧ t.chg.sweepUp = true) ∧
  (s.chg.sweeping = true → s.chg.sweepUp = false → s.getQ O.chgVPvRef ≤ maxQ (s.getQ O.chgPvVMin) (s.getQ O.chgVOc / 2) →
    Gives .pvSweepEnd s fun t => t.chg.sweeping = false ∧ t.chg.sweepAt = s.now ∧ t.chg.dirUp = true ∧ t.getO O.chgVPvRef = f32Of s.chg.bestV) ∧
  (s.chg.batAt.isSome = true → s.batFresh = false → s.chgSt = 3 → Gives .batTempStale s fun t => t.chgSt = 5 ∧ t.bitO O.chgFlags 12 = true ∧ t.chg.ends = 4 ∧
    t.chg.stopCause = 10) ∧
  (s.chgSt = 5 → s.chg.stopCut = true → s.chgLegAmps < 1 → (s.chg.ends = 0 ∨ s.chg.ends = 4 ∨ s.chg.ends = 6) → s.chg.stopCause ≤ 17 → Gives .chgStopComplete s fun t =>
    t.chgSt = s.chg.ends ∧ t.getO O.chgCause = s.chg.stopCause ∧ t.bitO O.chgFlags 17 = false) ∧
  (s.chgSt = 5 → s.chg.stopCut = false → s.chg.stopAt + 30 * msTicks ≤ s.now → 1 ≤ s.chgLegAmps → Gives .chgStopComplete s fun t =>
    t.chgSt = 5 ∧ t.chg.stopCut = true) ∧
  (s.chgSt = 4 → s.chg.stopBusy = false → s.chgResumeOk = true → (∀ k ∈ s.chgChecks, k.bad = false) → Gives .chgResume s fun t => t.chgSt = 1 ∧ t.chg.qualIn = s.now)

/-- R350, R351, R352, R353, R354, R355, R356, R357, R358, R359, R360, R361, R362, R364: the commands of the auxiliary converter and what it does when a
comparator trips, an edge of AUX_SYNC comes or a time of it passes. `auxChecks` lists checks 2 to 6 of R350, `chkAdmit` is the admission of R185. -/
def Obligations.AuxiliaryCommandsComplete : Prop := ∀ (s : State),
  (∀ c, Front s 0x0701 c → c.payload = [] → Permits s c (some 7) 1 true → s.auxSt = 0 → (∀ k ∈ s.auxChecks, k.bad = false) → (∀ k ∈ s.chkAdmit [22], k.bad = false) →
    Gives .auxStart s fun t => Answered t c .pending ∧ IsHeld t c ∧ t.auxSt = 1 ∧ t.aux.startAt = s.now) ∧
  (∀ c, Front s 0x0702 c → c.payload = [] → Permits s c (some 7) 1 → s.auxSt ≤ 4 → Gives .auxStop s fun t => Answered t c .ok ∧ t.auxSt = 0 ∧ t.getO O.auxCause = 1) ∧
  (∀ c, Front s 0x0703 c → c.payload = [] → Permits s c (some 7) 2 → s.auxSt = 5 ∨ s.auxSt = 6 → Gives .auxClear s fun t =>
    Answered t c .ok ∧ t.auxSt = 0 ∧ t.getO O.auxRestarts = 0) ∧
  (s.auxSt = 1 → s.aux.startAt + s.getO O.auxSsTimeout * msTicks ≤ s.now → s.aux.slow = false → s.getQ O.auxVOut < s.getQ O.auxVTarget / 5 → s.getO O.auxRestarts < 7 →
    Gives .ssTimeout s fun t => t.auxSt = 4 ∧ t.getO O.auxRestarts = s.getO O.auxRestarts + 1 ∧ t.getO O.auxCause = 4) ∧
  (s.auxSt = 1 → s.aux.startAt + s.getO O.auxSsTimeout * msTicks ≤ s.now → s.aux.slow = false → s.getQ O.auxVTarget / 5 ≤ s.getQ O.auxVOut →
    Gives .ssTimeout s fun t => t.auxSt = 1 ∧ t.aux.slow = true ∧ t.bitO O.auxFlags 3 = true) ∧
  (s.auxSt = 4 → s.aux.at_ + 64 * msTicks ≤ s.now → Gives .hiccupEnd s fun t => t.auxSt = 1 ∧ t.aux.startAt = s.now) ∧
  ((s.auxSt = 2 ∨ s.auxSt = 3) → s.aux.cleanAt + sTicks ≤ s.now → Gives .restartCountClear s fun t => t.getO O.auxRestarts = 0) ∧
  (∀ a, s.aux.olAt = some a → a + s.getO O.auxOlTime * msTicks ≤ s.now → s.getO O.auxRestarts < 7 → Gives .overloadTimeout s fun t =>
    t.auxSt = 4 ∧ t.getO O.auxCause = 5 ∧ t.getO O.auxRestarts = s.getO O.auxRestarts + 1) ∧
  (∀ k, s.auxOn = true → s.phActive k = true → s.legNow (auxLink k) = 2 → Gives (.phasePeakTrip k) s fun t => t.bitO O.auxFlags 2 = true ∧ t.aux.limit = s.aux.limit ||| 2 ^ k.val) ∧
  (s.auxOn = true → Gives .overshootTrip s fun t => t.aux.chisel = true ∧ t.aux.fireEnd = s.now ∧ t.bitO O.auxFlags 1 = true) ∧
  Gives .chiselRelease s (fun t => t.aux.chisel = false) ∧
  (s.auxSt = 2 → s.aux.fireEnd ≤ s.now → Gives .undershootTrip s fun t => t.auxSt = 2 ∧ t.bitO O.auxFlags 0 = true ∧ t.aux.bandAt = none ∧ t.aux.ramp = 0) ∧
  (∀ a, s.aux.bandAt = some a → a + s.getO O.auxShedHold * msTicks ≤ s.now → Gives .bandHoldMet s fun t => t.aux.bandMet = true) ∧
  (∀ a k j l, s.aux.lightAt = some a → s.auxActive.reverse = k :: j :: l → s.auxSt = 2 → s.aux.bandMet = true → a + s.getO O.auxShedWait * msTicks ≤ s.now →
    (∀ x ∈ s.auxConf, s.phSt x ≠ 2) → Gives .shedWaitExpiry s fun t => t.phSt k = 2 ∧ t.aux.lightAt = none) ∧
  (∀ a, s.aux.lowAt = some a → s.auxSt = 2 → s.getO O.auxBurstOn ≠ 0 → s.auxActive.length = 1 → a + 10 * msTicks ≤ s.now → Gives .burstEntry s fun t =>
    t.auxSt = 3 ∧ t.bitO O.auxFlags 5 = true ∧ t.aux.packet = false) ∧
  (∀ at_, s.getO O.auxSyncMode = 1 → s.aux.edge = none → Gives (.auxSyncEdge at_) s fun t => t.aux.edge = some (at_ / 4 * 4)) ∧
  (∀ at_ e, s.getO O.auxSyncMode = 1 → s.aux.edge = some e → s.bitO O.auxFlags 10 = false → s.syncFits ((at_ / 4 * 4 - e) :: s.aux.periods) = true → s.aux.periods.length < 7 →
    Gives (.auxSyncEdge at_) s fun t => t.aux.edge = some (at_ / 4 * 4) ∧ t.aux.periods = (at_ / 4 * 4 - e) :: s.aux.periods) ∧
  (∀ e, s.aux.edge = some e → s.bitO O.auxFlags 10 = true → 8 * e + 3 * s.aux.periods.foldl (· + ·) 0 < 8 * s.now → Gives .syncLost s fun t =>
    t.bitO O.auxFlags 10 = false ∧ t.bitO O.auxFlags 7 = true ∧ t.aux.hold = some s.now ∧ t.aux.edge = none ∧ t.getO O.auxSyncFreq = 0) ∧
  (∀ a, s.aux.hold = some a → a + s.getO O.auxSyncHold * msTicks ≤ s.now → Gives .syncHoldEnd s fun t => t.aux.hold = none ∧ t.aux.periods = []) ∧
  (∀ a, s.aux.spreadAt = some a → s.auxSt = 2 → s.bitO O.auxFlags 8 = false → a + s.getO O.auxBalTime * msTicks ≤ s.now → Gives .trimEngage s fun t =>
    t.bitO O.auxFlags 8 = true ∧ ∀ k ∈ s.auxSensed, t.ctxOn (trimCtx k) = true) ∧
  (∀ k, s.phSt k = 5 → s.countsReady (auxLink k) = true → (s.links[auxLink k]).fault = 0 → s.aux.badAt[k] + sTicks ≤ s.now → Gives (.auxPhaseRejoin k) s fun t =>
    t.phSt k = 3 ∧ (t.links[auxLink k]).planning = true) ∧
  (∀ a, s.auxOn = true → s.aux.lowInAt = some a → a + msTicks ≤ s.now → Gives .auxInputLow s fun t => t.auxSt = 0 ∧ t.getO O.auxCause = 6) ∧
  (∀ a, s.aux.okInAt = some a → s.auxSt = 0 → s.aux.restartFor ≠ 0 → s.getO O.auxAutoRestart = 1 → a + 100 * msTicks ≤ s.now →
    (∀ k ∈ s.auxChecks, k.bad = false) → (∀ k ∈ s.chkAdmit [22], k.bad = false) → Gives .auxAutoRestart s fun t => t.auxSt = 1 ∧ t.aux.startAt = s.now)

/-- R371, R377, R381 to R386, R391: the mailbox commands of the auxiliary motors and of the park lock. -/
def Obligations.MotorCommandsComplete : Prop := ∀ (s : State) (c : Cmd) (k : Fin 6),
  (Front s 0x0710 c → c.payload = [BitVec.ofNat 8 k, 0, 0, 0] → Permits s c (some (amcGroup k)) 1 true → s.amcRoleOf k ≠ 0 → s.amcSt k = 0 → s.override (amcGroup k) < 2 →
    (∀ x ∈ s.chkAdmit [31 + k.val], x.bad = false) → Gives .amcStart s fun t => Answered t c .ok ∧ t.amcSt k = (if s.amcRoleOf k = 1 ∧ (s.amc[k]).target ≠ 0 then 2 else 1) ∧ (t.amc[k]).fails = 0 ∧ (t.amc[k]).barred = false) ∧
  (Front s 0x0711 c → c.payload = [BitVec.ofNat 8 k, 0, 0, 0] → Permits s c (some (amcGroup k)) 1 → s.amcSt k ≠ 0 → s.amcSt k ≠ 8 →
    Gives .amcStop s fun t => Answered t c .ok ∧ t.amcSt k = 0 ∧ t.getO (O.amcFault k) = 8) ∧
  (Front s 0x0711 c → c.payload = [BitVec.ofNat 8 k, 1, 0, 0] → Permits s c (some (amcGroup k)) 1 → s.amcSt k ≠ 0 → s.amcSt k ≠ 1 → s.amcSt k ≠ 8 →
    Gives .amcStop s fun t => Answered t c .ok ∧ t.amcSt k = 3 ∧ (t.amc[k]).after = 2 ∧ (t.amc[k]).brakeAt = s.now) ∧
  (Front s 0x0716 c → c.payload = [BitVec.ofNat 8 k, 0, 0, 0] → Permits s c (some (amcGroup k)) 2 → s.amcSt k = 8 → Gives .amcClear s fun t =>
    Answered t c .ok ∧ t.amcSt k = 0) ∧
  (∀ goal, Front s 0x0712 c → c.payload.length = 8 → fieldAt c.payload 0 1 = k.val → fieldAt c.payload 1 3 = 0 → toSigned 32 (fieldAt c.payload 4 4) = goal →
    Permits s c (some (amcGroup k)) 1 → s.amcRoleOf k = 2 → s.amcSt k = 1 → s.posValid k = true → toSigned 32 (s.getO (O.amcPosMin k)) ≤ goal →
    goal ≤ toSigned 32 (s.getO (O.amcPosMax k)) → s.override (amcGroup k) < 2 → (s.amc[k]).job = 0 → s.throttled = false →
    Gives .amcMove s fun t => Answered t c .pending ∧ IsHeld t c ∧ t.amcSt k = 2 ∧ (t.amc[k]).job = 1 ∧ (t.amc[k]).goal = goal ∧
      (t.amc[k]).dir = (if goal < s.amcPos k then -1 else 1)) ∧
  (Front s 0x0713 c → c.payload = [BitVec.ofNat 8 k, 0, 0, 0] → Permits s c (some (amcGroup k)) 1 → s.amcRoleOf k = 2 → s.amcSt k = 1 → (s.amc[k]).job = 0 →
    (s.amc[k]).waiting = false → s.override (amcGroup k) < 2 → Gives .amcHome s fun t =>
      Answered t c .pending ∧ IsHeld t c ∧ t.amcSt k = 2 ∧ (t.amc[k]).job = 2 ∧ (t.amc[k]).startPos = s.amcPos k) ∧
  (Front s 0x0714 c → c.payload = [5, 0, 0, 0] → Permits s c (some 9) 1 → s.amcRoleOf 5 = 3 → s.amcSt 5 = 1 → s.override 9 < 2 → s.parkBar = none →
    s.getO O.amcParkState ≠ 3 → Gives .parkEngage s fun t => Answered t c .pending ∧ IsHeld t c ∧ t.amcSt 5 = 2 ∧ (t.amc[(5 : Fin 6)]).job = 3 ∧
      (t.amc[(5 : Fin 6)]).dir = 1 ∧ t.getO O.amcParkState = 3) ∧
  (∀ m : Fin 4, Front s 0x0714 c → c.payload = [5, 0, 0, 0] → Permits s c (some 9) 1 → s.amcRoleOf 5 = 3 → s.amcSt 5 = 1 → s.override 9 < 2 → s.parkBar = some m →
    Gives .parkEngage s fun t => Answered t c (.err St.refused 0x0151 m) ∧ IsHeld t c ∧ t.amcSt 5 = 1 ∧ (t.amc[(5 : Fin 6)]).parkHeld = some s.now) ∧
  (Front s 0x0715 c → c.payload = [5, 0, 0, 0] → Permits s c (some 9) 1 → s.amcRoleOf 5 = 3 → s.amcSt 5 = 1 → s.override 9 < 2 → s.getO O.amcParkState ≠ 3 →
    Gives .parkRelease s fun t => Answered t c .pending ∧ IsHeld t c ∧ t.amcSt 5 = 2 ∧ (t.amc[(5 : Fin 6)]).job = 3 ∧ (t.amc[(5 : Fin 6)]).dir = -1 ∧
      t.getO O.amcParkState = 3)

/-- R368 to R370, R372 to R374, R378 to R380, R385, R386: crossings, commutations and comparator trips of an auxiliary motor, and what it does when a time of
it passes. The numbering of commutation steps is log 44. -/
def Obligations.MotorEventsComplete : Prop := ∀ (s : State) (k : Fin 6),
  (∀ (ph : Fin 3) (rising : Bool), s.amcSt k = 2 → (s.amc[k]).seen = none → Gives (.bemfCrossing k ph rising) s fun t =>
    (t.amc[k]).seen = some (ph.val, rising, s.now) ∧ t.amcSt k = 2) ∧
  (∀ (ph : Fin 3) (rising : Bool), s.amcSt k = 7 → (s.amc[k]).nextAt = none → (s.amcPairs k)[ph] = .off → s.amcSamples k = true → State.stepExpects (s.amc[k]).step (s.amc[k]).dir ph rising = true →
    (s.amc[k]).commAt + (s.amc[k]).taus.headD 0 * s.getO (O.amcBlank k) / 600 ≤ s.now → Gives (.bemfCrossing k ph rising) s fun t =>
      (t.amc[k]).crossAt = s.now ∧ (t.amc[k]).nextAt = some (s.now + (s.amc[k]).taus.headD 0 * (300 - s.getO (O.amcAdvance k)) / 600)) ∧
  (∀ a, s.amcSt k = 7 → (s.amc[k]).nextAt = some a → a ≤ s.now → (s.amc[k]).job = 0 → Gives (.commutation k) s fun t =>
    (t.amc[k]).step = (if 0 < (s.amc[k]).dir then ((s.amc[k]).step + 1) % 6 else ((s.amc[k]).step + 5) % 6) ∧ (t.amc[k]).commAt = s.now ∧
      (t.amc[k]).taus = ((s.now - (s.amc[k]).commAt) :: (s.amc[k]).taus).take 6 ∧ (s.amcRoleOf k = 1 → t.amcPos k = s.amcPos k)) ∧
  (∀ ns (level : BitVec 8), (s.amcSt k = 5 ∨ s.amcSt k = 6 ∨ s.amcSt k = 7) → s.amcCode k ≤ level.toNat → 500 < ns → Gives (.amcPeakTrip k ns level) s fun t =>
    t.bitO (O.amcFlags k) 0 = true ∧ (t.amc[k]).shorts = 0 ∧ (t.amc[k]).cutAt = some s.now) ∧
  (∀ ns (level : BitVec 8), (s.amcSt k = 5 ∨ s.amcSt k = 6 ∨ s.amcSt k = 7) → s.amcCode k ≤ level.toNat → 200 ≤ ns → ns ≤ 500 → (s.amc[k]).shorts = 0 →
    Gives (.amcPeakTrip k ns level) s fun t => t.bitO (O.amcFlags k) 0 = true ∧ (t.amc[k]).shorts = 1 ∧ (t.amc[k]).cutAt = some s.now) ∧
  (∀ ns (level : BitVec 8), level.toNat < s.amcCode k ∨ ns < 200 → Gives (.amcPeakTrip k ns level) s fun t => t = s) ∧
  (s.amcSt k = 2 → (s.amc[k]).at_ + s.getO (O.amcListen k) * msTicks ≤ s.now → (s.amc[k]).job ≠ 1 → (s.amc[k]).held = none → (s.amc[k]).heldGoal = none →
    Gives (.listenEnd k) s fun t => t.amcSt k = 5) ∧
  (s.amcSt k = 3 → (s.amc[k]).listening = false → (s.amc[k]).at_ + 50 * msTicks ≤ s.now → Gives (.brakePulseEnd k) s fun t =>
    (t.amc[k]).listening = true ∧ (t.amc[k]).at_ = s.now ∧ (t.amc[k]).seen = none) ∧
  (s.amcSt k = 3 → (s.amc[k]).brakeAt + s.getO (O.amcBrakeMax k) * msTicks ≤ s.now → Gives (.brakeTimeout k) s fun t => t.amcSt k = 8 ∧ t.getO (O.amcFault k) = 6) ∧
  (s.amcSt k = 4 → (s.amc[k]).at_ + s.getO (O.amcRevDelay k) * msTicks ≤ s.now → Gives (.revWaitEnd k) s fun t => t.amcSt k = 2 ∧ (t.amc[k]).dir = (s.amc[k]).dir) ∧
  (s.amcSt k = 5 → (s.amc[k]).at_ + s.getO (O.amcAlignTime k) * msTicks ≤ s.now → Gives (.alignEnd k) s fun t => t.amcSt k = 6 ∧ (t.amc[k]).step = 0 ∧
    (t.amc[k]).nextAt.isSome = true) ∧
  (∀ a, (s.amc[k]).retryAt = some a → a + 200 * msTicks ≤ s.now → Gives (.startRetryDelay k) s fun t => t.amcSt k = 2 ∧ (t.amc[k]).retryAt = none) ∧
  (s.amcSt k = 7 → (s.amc[k]).crossAt + s.getO (O.amcStallTime k) * msTicks ≤ s.now → (s.amc[k]).job = 0 → (s.amc[k]).held = none → (s.amc[k]).heldGoal = none →
    (s.amc[k]).fails + 1 < s.getO (O.amcStartRetries k) →
    Gives (.stallDetect k) s fun t => t.amcSt k = 1 ∧ (t.amc[k]).fails = (s.amc[k]).fails + 1 ∧ (t.amc[k]).retryAt = some s.now ∧ t.bitO (O.amcFlags k) 3 = true) ∧
  (∀ x, s.getO (O.amcCurveSrc k) ≠ 0 → s.amcInput k = some x → Gives (.curveEval k) s fun t => (t.amc[k]).validAt = s.now ∧ (t.amc[k]).failed = false) ∧
  (s.getO (O.amcCurveSrc k) ≠ 0 → (s.amc[k]).failed = false → (s.amc[k]).barred = false → s.amcInput k = none → (s.amc[k]).validAt + sTicks ≤ s.now → Gives (.curveInputTimeout k) s fun t =>
    (t.amc[k]).failed = true ∧ (t.amc[k]).target = s.getQ (O.amcCurveFail k) ∧ t.bitO (O.amcFlags k) 4 = true) ∧
  (∀ a, (s.amc[(5 : Fin 6)]).parkHeld = some a → s.amcAsked 5 = true → a + 100 * msTicks ≤ s.now → s.parkBar = none → s.amcSt 5 = 1 → s.getO O.amcParkState ≠ 3 → Gives .parkEngageClear s fun t =>
    t.amcSt 5 = 2 ∧ (t.amc[(5 : Fin 6)]).parkHeld = none ∧ (t.amc[(5 : Fin 6)]).job = 3 ∧ (t.amc[(5 : Fin 6)]).dir = 1 ∧ t.getO O.amcParkState = 3) ∧
  (∀ a, (s.amc[(5 : Fin 6)]).parkRetry = some a → a + 200 * msTicks ≤ s.now → s.amcSt 5 = 1 → Gives .parkRetry s fun t =>
    t.amcSt 5 = 2 ∧ (t.amc[(5 : Fin 6)]).parkRetry = none ∧ t.getO O.amcParkState = 3)

/-- R397 to R399, R401 to R406, R408: the power path between the board source and the reserve pack, the charge of the pack, and RPK_CHARGE. -/
def Obligations.PackCommandsComplete : Prop := ∀ (s : State),
  (∀ kab held, s.rpkPath = 0 → kab < 100 * s.getO O.rpkSrcVLow → 10 ≤ held → Gives (.handoverToPack kab held) s fun t =>
    t.rpkPath = 1 ∧ t.rpk.opened = false ∧ t.rpk.pathAt = s.now ∧ t.rpkSt ≠ 4) ∧
  (∀ kab held, s.rpkPath = 3 ∨ s.rpkPath = 4 → kab < 100 * s.getO O.rpkSrcVLow → 10 ≤ held → Gives (.handoverToPack kab held) s fun t =>
    t.rpkPath = 1 ∧ t.rpk.opened = true) ∧
  (s.rpkPath = 1 → s.rpk.opened = false → s.rpk.pathAt + 20 * usTicks ≤ s.now → Gives .pathSwitchTimer s fun t => t.rpk.opened = true ∧ t.rpkPath = 1) ∧
  (s.rpkPath = 1 → s.rpk.opened = true → s.rpk.pathAt + 30 * usTicks ≤ s.now → Gives .pathSwitchTimer s fun t =>
    t.rpkPath = 2 ∧ t.rpk.packAt = s.now ∧ t.bitO O.rpkFlags 9 = true) ∧
  (s.rpkPath = 5 → s.rpk.pathAt + 20 * usTicks ≤ s.now → Gives .pathSwitchTimer s fun t => t.rpkPath = 0 ∧ t.rpk.cut = false) ∧
  (∀ kab held, s.rpkPath = 2 → s.srcInside kab = true → s.getO O.rpkSrcDebounce * msTicks ≤ held * usTicks → s.rpk.packAt + s.getO O.rpkSrcDebounce * msTicks ≤ s.now →
    Gives (.sourceDebounceEnd kab held) s fun t => t.rpkPath = 4 ∧ t.rpk.pathAt = s.now) ∧
  (∀ kab held, s.rpkPath = 4 → s.srcInside kab = true → s.getO O.rpkSrcQual * msTicks ≤ held * usTicks → s.rpk.pathAt + s.getO O.rpkSrcQual * msTicks ≤ s.now →
    Gives (.sourceQualified kab held) s fun t => t.rpkPath = if s.rpk.cut then 0 else 5) ∧
  (∀ kab, s.rpkPath = 3 ∨ s.rpkPath = 4 → s.srcInside kab = false → Gives (.sourceAbsent kab) s fun t => t.rpkPath = 2) ∧
  (∀ a, s.rpkPath = 2 → s.rpk.lowAt = some a → a + sTicks ≤ s.now → s.rpk.cutAt = none → s.rpk.cut = false → Gives .packCutoff s fun t =>
    t.rpk.cutAt = some s.now ∧ t.bitO O.rpkFlags 8 = true ∧ t.pwr.record.map Prod.fst = some 0x13) ∧
  (∀ a, s.rpk.cutAt = some a → a + 100 * msTicks ≤ s.now → Gives .packSwitchOff s fun t => t.rpk.cutAt = none ∧ t.rpk.cut = true) ∧
  (∀ a, s.rpk.seenAt = some a → s.rpkSt = 1 → a + 2 * sTicks ≤ s.now → s.rpk.at_ + 2 * sTicks ≤ s.now → Gives .packSeen s fun t => t.rpkSt = 2 ∧ t.rpk.at_ = s.now) ∧
  (s.rpkSt = 2 → s.rpk.at_ + sTicks ≤ s.now → Gives .packQualifyEnd s fun t =>
    t.rpkSt = if (8 * s.getO O.rpkCells : Nat) / 10 < s.getQ O.rpkVPack then 3 else 6) ∧
  (s.rpkSt = 3 → s.rpk.restAt + 600 * sTicks ≤ s.now → (s.getO O.rpkVRechg * s.getO O.rpkCells : Nat) ≤ s.getQ O.rpkVPack * 1000 → Gives .rechargeCheck s fun t =>
    t.rpkSt = 3 ∧ t.rpk.restAt = s.now) ∧
  (s.rpkSt = 3 → s.rpk.restAt + 600 * sTicks ≤ s.now → s.getQ O.rpkVPack * 1000 < (s.getO O.rpkVRechg * s.getO O.rpkCells : Nat) → s.packInside 0 = true →
    s.override 6 < 2 → (∀ k ∈ s.chkAdmit [37], k.bad = false) → s.rpkMay = true → Gives .rechargeCheck s fun t => t.rpkSt = 4 ∧ t.getO O.rpkChgTime = 0) ∧
  (∀ a, s.rpk.insideAt = some a → s.rpkSt = 5 → s.rpk.window = true → a + 10 * sTicks ≤ s.now → s.rpkMay = true → s.rpk.lateAt = none → Gives .rpkResume s fun t =>
    t.rpkSt = 4 ∧ t.rpk.window = false ∧ t.ctxOn 37 = true) ∧
  (∀ a, s.rpk.lateAt = some a → s.rpkSt = 5 → a + sTicks ≤ s.now → s.rpkMay = true → s.rpk.window = false → Gives .rpkLatePauseEnd s fun t =>
    t.rpkSt = 4 ∧ t.rpk.lateAt = none) ∧
  (s.rpkSt = 4 → s.rpk.secAt + sTicks ≤ s.now → Gives .ndvCheck s fun t => t.rpk.tRun = s.rpk.tRun + 1 ∧ t.rpk.secAt = s.now ∧
    t.getO O.rpkChgTime = min (s.getO O.rpkChgTime + 1) 0xFFFFFFFF ∧
    (s.rpk.tRun + 1 < 60 * s.getO O.rpkNdvBlank → s.getQ O.rpkTEnd ≤ s.getQ O.rpkTPack → t.rpkSt = 3 ∧ t.getO O.rpkEnd = 3)) ∧
  (s.rpkSt = 4 → s.rpk.tenAt + 10 * sTicks ≤ s.now → Gives .dtdtCheck s fun t => t.rpk.tenAt = s.now ∧ t.rpk.temps = (s.getQ O.rpkTPack :: s.rpk.temps).take 7 ∧
    (∀ old, s.rpk.temps[5]? = some old → 60 ≤ s.rpk.tRun → (s.getO O.rpkDtdt : Nat) / 10 ≤ s.getQ O.rpkTPack - old → t.rpkSt = 3 ∧ t.getO O.rpkEnd = 2)) ∧
  (∀ mv, s.getO O.rpkVCellMax * s.getO O.rpkCells < mv → s.rpkSt = 4 → Gives (.packOvervoltTrip mv) s fun t =>
    t.rpkSt = 1 ∧ t.bitO O.rpkFlags 7 = true ∧ t.rpk.ended = true) ∧
  (∀ ns ma : Nat, 1000 ≤ ns → (ma : Rat) < 50 * s.getQ O.rpkIChg → s.rpkSt = 4 → Gives (.chargeCurrentLost ns ma) s fun t => t.rpkSt = 1 ∧ t.bitO O.rpkFlags 7 = true) ∧
  (∀ c, Front s 0x0610 c → c.payload = [] → Permits s c (some 6) 1 → s.rpkSt = 3 → s.packInside 0 = true → s.override 6 < 2 → (∀ k ∈ s.chkAdmit [37], k.bad = false) →
    s.rpkMay = true → Gives .rpkCharge s fun t => Answered t c .ok ∧ t.rpkSt = 4 ∧ t.getO O.rpkChgTime = 0) ∧
  (∀ c, Front s 0x0610 c → c.payload = [] → Permits s c (some 6) 1 → s.rpkSt = 6 → s.packInside 0 = true → s.override 6 < 2 → Gives .rpkCharge s fun t =>
    Answered t c .ok ∧ t.rpkSt = 2)

/-- R40, R411 to R413, R417 to R421, R423 to R428, R431: the rows of the Pointing pair. The signature of a copy is what `copyFold` leaves (log 61), its marker of a
missed checkpoint that of R417; what a miss at a checkpoint does is log 62, when CT sends its words log 59. -/
def Obligations.PointingCommandsComplete : Prop := ∀ (s : State) (c : Cmd),
  (∀ inp n, s.atCheckpoint = true → s.checkInstant / 12500 % 64 = n → Gives (.checkpoint inp) s fun t => t.ptg.index = n ∧
    (n = 63 → t.ptg.a.sig = BitVec.allOnes 64 ∧ t.ptg.b.sig = BitVec.allOnes 64) ∧
    (0 < n → n < 63 → s.copyAway .a = false → s.ptg.a.missed = true →
      t.ptg.a.missed = false ∧ t.ptg.a.sig = ((toLe 1 n ++ toLe 4 0x4D495353).foldl crc64Byte s.ptg.a.sig) ^^^ inp.upsetA) ∧
    (0 < n → n < 63 → s.copyAway .b = false → s.ptg.b.missed = true →
      t.ptg.b.missed = false ∧ t.ptg.b.sig = ((toLe 1 n ++ toLe 4 0x4D495353).foldl crc64Byte s.ptg.b.sig) ^^^ inp.upsetB)) ∧
  (∀ inp (w : SafeWord) (m : Fin 4), s.atCheckpoint = true → 0 < s.checkInstant / 12500 % 64 → s.checkInstant / 12500 % 64 < 63 → s.copyAway .a = false → s.ptg.a.missed = false → s.wordFor .a = some w →
    Gives (.checkpoint inp) s fun t => t.ptg.a.missRun = 0 ∧ (t.trx[m]).ruleA = s.ruleNext m w.speed[m] w.speedOk[m] (s.trx[m]).ruleA) ∧
  (∀ inp, s.atCheckpoint = true → 0 < s.checkInstant / 12500 % 64 → s.checkInstant / 12500 % 64 < 63 → s.copyAway .a = false → s.ptg.a.missed = false → s.wordFor .a = none → s.ptg.a.missRun < 3 →
    Gives (.checkpoint inp) s fun t => t.ptg.a.missRun = s.ptg.a.missRun + 1 ∧ t.bitO O.ptgFlags 2 = true ∧ t.bitO O.sysLateFlags 0 = true) ∧
  (∀ x w, s.ctAway = false → s.wordFor x = some w → w ∈ (s.copy x).words ∧ w.stamp + s.ptg.cfg[0] ≤ s.checkInstant ∧ s.checkInstant ≤ w.stamp + 25000) ∧
  (s.copyAway .a = false → s.ptg.a.missed = false → s.ptg.a.missRun < 3 → Gives (.checkpointMiss 0) s fun t =>
    t.ptg.a.missed = true ∧ t.ptg.a.missRun = s.ptg.a.missRun + 1 ∧ t.ptg.b = s.ptg.b ∧ t.bitO O.ptgFlags 2 = true ∧ t.bitO O.sysLateFlags 0 = true) ∧
  (s.copyAway .b = false → s.ptg.b.missed = false → s.ptg.b.missRun = 3 → s.ptgLatched = false → Gives (.checkpointMiss 1) s fun t =>
    t.getO O.ptgFaultCause = 2 ∧ t.getO O.ptgState = 4 ∧ t.ptg.a.safe = true ∧ t.ptg.b.safe = true) ∧
  (∀ x, s.ptg.ended = some (x, x) → s.getO O.ptgState = 1 → Gives .windowCompare s fun t =>
    t.ptg.ended = none ∧ t.ptg.lastBad = false ∧ t.ptg.matches_ = s.ptg.matches_ + 1 ∧ t.getO O.ptgLastSig = x.toNat + x.toNat * 2 ^ 64) ∧
  (∀ x y, s.ptg.ended = some (x, y) → x ≠ y → s.ptg.lastBad = false → Gives .windowCompare s fun t =>
    t.ptg.ended = none ∧ t.ptg.lastBad = true ∧ t.ptg.matches_ = 0 ∧ t.getO O.ptgSoftCount = min (s.getO O.ptgSoftCount + 1) 0xFFFFFFFF ∧
      t.bitO O.ptgFlags 0 = true) ∧
  (∀ x y, s.ptg.ended = some (x, y) → x ≠ y → s.ptg.lastBad = true → s.ptgLatched = false → Gives .windowCompare s fun t =>
    t.getO O.ptgFaultCause = 1 ∧ t.getO O.ptgState = 4 ∧ t.ptg.a.safe = true ∧ t.ptg.b.safe = true) ∧
  (∀ k : Fin 2, Front s 0x0801 c → c.payload = [BitVec.ofNat 8 k, 0, 0, 0] → Permits s c (some 13) 2 →
    (s.getO O.sysHostSafetyHost = c.host ∨ s.getO O.sysHostSafetyHost = 0xFF) → s.getO O.ptgState = 1 → s.ptg.cfg[2] ≠ 0 →
    Gives .ptgSplit s fun t => Answered t c .pending ∧ IsHeld t c ∧ t.ptg.splitReq = some k.val ∧ t.ptg.image = false) ∧
  (Front s 0x0802 c → c.payload = [] → Permits s c (some 13) 2 → s.getO O.ptgState = 2 → Gives .ptgJoin s fun t =>
    Answered t c .pending ∧ IsHeld t c ∧ t.ptg.joinReq = true) ∧
  (Front s 0x0803 c → c.payload = [] → Permits s c none 1 → s.ilShort (some 13) false = none → s.getO O.sysHostSafetyHost = c.host → 16 ≤ s.ptg.matches_ →
    Gives .ptgClear s fun t => Answered t c .ok ∧ t.getO O.ptgFaultCause = 0) ∧
  (s.getO O.ptgState = 2 → s.ptg.splitAt + s.ptg.cfg[1] * msTicks ≤ s.now → Gives .splitMaxExpiry s fun t => t.ptg.joinReq = true ∧ t.getO O.ptgState = 2)

/-- R12, R75, R76, R440: the commands on objects in their normal case, and a batch of which one entry fails, which writes nothing. That a
reversal of a motor channel is held instead is said by R377 and not spoken of here. -/
def Obligations.ObjectCommandsComplete : Prop := ∀ (s : State) (c : Cmd),
  (∀ r i, Front s 0x0101 c → c.payload.length = 2 → s.rowOf (fieldAt c.payload 0 2) = some (r, i) → r.acc ≠ .wo →
    (s.objIl r i (fieldAt c.payload 0 2)).bad = false →
    Gives .getObj s fun t => Answered t c (.ok (s.readVal r (fieldAt c.payload 0 2))) ∧ t.dirty = s.dirty ∧ t.flash = s.flash ∧
      ∀ id, t.getO id = s.getO id) ∧
  (∀ r i, let id := fieldAt c.payload 0 2; let w : Wr := { row := r, inst := i, id, val := leNat (c.payload.drop 4) }
    Front s 0x0102 c → s.rowOf id = some (r, i) → c.payload.length = 4 + r.ty.size → fieldAt c.payload 2 2 = 0 → s.lc ≠ 4 →
    (∀ k ∈ s.writeChks (s.store w) (s.cmdWriter c) w, k.bad = false) → r.base < 0x2000 → audited r.ret = false → r.acc ≠ .wo →
    Gives .setObj s fun t => Answered t c (State.writeOk (s.limitedW w)) ∧ t.getO id = w.after (s.getO id)) ∧
  (∀ l, Front s 0x0103 c → 4 ≤ c.payload.length → State.entries (fieldAt c.payload 0 2) (c.payload.drop 4) = some l → fieldAt c.payload 0 2 ≠ 0 →
    fieldAt c.payload 2 2 = 0 → s.lc ≠ 4 → s.batchBad (s.storeL (l.filterMap s.entryWr)) (s.cmdWriter c) l = none →
    Gives .setObjBatch s fun t => Answered t c (State.writeOk ((l.filterMap s.entryWr).any fun w => s.limitedW w))) ∧
  (∀ l st i, Front s 0x0103 c → 4 ≤ c.payload.length → State.entries (fieldAt c.payload 0 2) (c.payload.drop 4) = some l → fieldAt c.payload 0 2 ≠ 0 →
    fieldAt c.payload 2 2 = 0 → s.lc ≠ 4 → s.batchBad (s.storeL (l.filterMap s.entryWr)) (s.cmdWriter c) l = some (st, i) →
    Gives .setObjBatch s fun t => Answered t c (.err st 0x0002 i) ∧ t.dirty = s.dirty ∧
      ∀ id, (∀ k < 6, id ≠ O.amcFlags k) → (∀ x : Fin 64, id ≠ O.lpeStatus x) → t.getO id = s.getO id) ∧
  (Front s 0x0104 c → c.payload.length = 4 → fieldAt c.payload 2 2 ≠ 0 →
    Gives .getObjBlock s fun t =>
      Answered t c (.ok (toLe 2 (s.blockFrom (min (fieldAt c.payload 2 2) (0x10000 - fieldAt c.payload 0 2)) (fieldAt c.payload 0 2) 4092 []).1 ++ [0, 0] ++
        (s.blockFrom (min (fieldAt c.payload 2 2) (0x10000 - fieldAt c.payload 0 2)) (fieldAt c.payload 0 2) 4092 []).2)) ∧
      ∀ id, t.getO id = s.getO id) ∧
  (Front s 0x0105 c → c.payload = [] → Permits s c none 2 → s.flashOk = true → s.seBusy = false → (∀ p ∈ s.disp.held, p.code ≠ 0x0105) →
    Gives .commit s fun t => Answered t c .pending ∧ IsHeld t c) ∧
  (∀ p ∈ s.disp.held, p.code = 0x0105 → p.orphan = false → s.flashPaused = false → s.flashOk = true →
    Gives .commitDone s fun t => t.flash = (s.flashL s.dirty).flash ∧ t.dirty = [] ∧
      ({ host := p.host, code := p.code, tag := p.tag, status := St.ok, reason := none } : Ended) ∈ t.disp.ended)

/-- R83, R84, R85: SAFETY_OVERRIDE and the lapse of the safety host. The override is recorded for its group; action 5 lifts it, action 4 ends
the group's lease. -/
def Obligations.OverrideCommandsComplete : Prop := ∀ (s : State) (c : Cmd) (g v : Nat),
  (∀ a, (a = 2 ∨ a = 3) → g < 10 → Front s 0x0130 c → c.payload.length = 8 → fieldAt c.payload 0 1 = a → fieldAt c.payload 1 1 = g →
    fieldAt c.payload 2 2 = 0 → fieldAt c.payload 4 4 = 0 → s.lc ≠ 4 → 1 ≤ s.roleFor c → s.getO O.sysHostSafetyHost = c.host.val →
    Gives .safetyOverride s fun t => Answered t c .ok ∧ t.override g = a) ∧
  (g < 4 → v < 2 ^ 19 → Front s 0x0130 c → c.payload.length = 8 → fieldAt c.payload 0 1 = 1 → fieldAt c.payload 1 1 = g →
    fieldAt c.payload 2 2 = 0 → fieldAt c.payload 4 4 = v → s.lc ≠ 4 → 1 ≤ s.roleFor c → s.getO O.sysHostSafetyHost = c.host.val →
    Gives .safetyOverride s fun t => Answered t c .ok ∧ t.override g = 1 ∧ ∀ h : g < 4, t.disp.limits[g] = v) ∧
  (g < 10 → Front s 0x0130 c → c.payload.length = 8 → fieldAt c.payload 0 1 = 5 → fieldAt c.payload 1 1 = g →
    fieldAt c.payload 2 2 = 0 → fieldAt c.payload 4 4 = 0 → s.lc ≠ 4 → 1 ≤ s.roleFor c → s.getO O.sysHostSafetyHost = c.host.val →
    Gives .safetyOverride s fun t => Answered t c .ok ∧ t.override g = 0) ∧
  (g < 14 → Front s 0x0130 c → c.payload.length = 8 → fieldAt c.payload 0 1 = 4 → fieldAt c.payload 1 1 = g →
    fieldAt c.payload 2 2 = 0 → fieldAt c.payload 4 4 = 0 → s.lc ≠ 4 → 1 ≤ s.roleFor c → s.getO O.sysHostSafetyHost = c.host.val →
    Gives .safetyOverride s fun t => Answered t c .ok ∧ t.owner g = none) ∧
  (∀ h, s.safetyHost = some h → s.disp.ready = true → s.disp.safetyActed = false → s.disp.safetyAt + s.getO (O.sysHostLeaseTimeout h) * msTicks ≤ s.now →
    s.getO O.sysHostSafetyWatch ≠ 2 → Gives .safetyHostLapse s fun t => t.disp.safetyActed = true)

/-- R483, R485, R490, R492, R496, R498, R499, R501, R504, R505: sessions, life-cycle steps, maker keys, attestation, Tetas bundles and the audit
log. Keys, signatures and digests are values the model leaves free (log 7). -/
def Obligations.SecurityCommandsComplete : Prop := ∀ (s : State) (c : Cmd),
  (Front s 0x0120 c → c.payload = [1, 0, 0, 0] → s.ilShort none false = none → s.auditFull = false → s.sessionLocked c.host = false →
    Gives .sessionOpen s fun t => Answered t c .ok ∧ t.session c.host = 1) ∧
  (∀ role, (role = 2 ∨ role = 3) → Front s 0x0120 c → c.payload.length = 2860 → fieldAt c.payload 0 1 = role → fieldAt c.payload 1 3 = 0 →
    s.lc ≠ 0 → s.lc ≠ 4 → s.ilShort none false = none → s.auditFull = false → s.sessionLocked c.host = false → s.seBusy = false →
    s.sec.verify[c.host] = none →
    Gives .sessionOpen s fun t => Answered t c .pending ∧ IsHeld t c ∧ t.sec.verify[c.host] = some (role, c.payload.drop 4)) ∧
  (∀ h role tok, s.sec.verify[h] = some (role, tok) → role < 4 →
    Gives (.tokenVerifyDone h) s fun t => t.sec.verify[h] = none ∧
      (s.tokenReason h role tok = none → t.session h = role) ∧
      (s.tokenReason h role tok ≠ none → t.session h = s.session h ∧ t.sec.failAt[h] = (s.now :: s.sec.failAt[h]).take 4)) ∧
  (Front s 0x0121 c → c.payload = [] → s.ilShort none false = none → s.auditFull = false →
    Gives .sessionClose s fun t => Answered t c .ok ∧ t.session c.host = 0) ∧
  (∀ h : Fin 4, 2 ≤ s.session h → s.sec.cmdAt[h] + s.getO O.secSessionIdle * 60 * sTicks ≤ s.now →
    Gives (.sessionIdleTimeout h) s fun t => t.session h = 0) ∧
  (∀ n : Nat, Front s 0x0A01 c → c.payload = [BitVec.ofNat 8 n, 0, 0, 0] → State.lcAllowed s.lc n = true → s.lc ≠ 0 →
    State.lcRole s.lc n ≤ s.roleFor c → s.ilShort none true = none → s.atRest = true → s.auditFull = false → s.sec.lcStep = none →
    s.seBusy = false →
    Gives .secLcStep s fun t => Answered t c .pending ∧ t.lc = s.lc ∧ t.sec.hpnKey = none ∧ (∀ h < 4, t.session h = 0) ∧
      t.sec.lcStep = some { target := n, key := [] }) ∧
  (∀ st, s.sec.lcStep = some st → Gives .lcStepDone s fun t => t.lc = st.target ∧ t.sec.lcStep = none ∧ t.sec.keysReady = false) ∧
  (Front s 0x0A07 c → c.payload.length = 68 → s.lc ≠ 4 → 3 ≤ s.roleFor c → s.ilShort none true = none → s.auditFull = false →
    s.seBusy = false → s.sec.makerKeys.length < 4 →
    Gives .secMakerKey s fun t => Answered t c .ok ∧ t.sec.makerKeys = s.sec.makerKeys ++ [c.payload]) ∧
  (Front s 0x0A02 c → c.payload.length = 32 → s.ilShort none true = none → s.flashOk = true → s.getO O.secAttNext < 2 ^ 20 →
    s.mordantFailed = false → s.sec.keysReady = true → s.sec.attest = none → s.seBusy = false →
    Gives .secAttest s fun t => Answered t c .pending ∧ IsHeld t c ∧ t.sec.attest = some c.payload) ∧
  (∀ nonce, s.sec.attest = some nonce → s.flashOk = true → s.getO O.secAttNext + 1 < 2 ^ 20 →
    Gives .attestDone s fun t => t.sec.attest = none ∧ t.getO O.secAttNext = s.getO O.secAttNext + 1) ∧
  (Front s 0x0A03 c → c.payload = [] → s.ilShort none true = none → s.mordantFailed = false → s.sec.keysReady = true → s.seBusy = false →
    Gives .secGetCert s fun t => Answered t c (.ok (toLe 68 (s.getO O.secAttPub) ++ toLe 4 (s.getO O.secAttEpoch) ++
      Config.xmssSign false 0 0 s.sec.certLeaf (toLe 8 (s.getO O.secDeviceId) ++ toLe 4 (s.getO O.secAttEpoch) ++ toLe 68 (s.getO O.secAttPub))))) ∧
  (s.sec.keysReady = false → s.sec.deriveBlocked = false → s.mordantFailed = false → s.pwr.boot = [] → s.sec.keyNew = false →
    Gives .keyDerivationDone s fun t => t.sec.keysReady = true ∧ t.getO O.secAttPub = (Config.attPub s.lc (s.getO O.secAttEpoch)).toNat) ∧
  (∀ off, Front s 0x0A04 c → off = fieldAt c.payload 0 4 → 5 ≤ c.payload.length → c.payload.length ≤ 4092 →
    off + (c.payload.length - 4) ≤ 65536 → s.lc ≠ 4 → s.lc ≠ 0 → 2 ≤ s.roleFor c → s.ilShort none true = none → s.sec.install = none →
    s.seBusy = false →
    Gives .tetasStage s fun t => Answered t c .ok ∧ t.sec.staging = s.sec.staging.writeL off (c.payload.drop 4)) ∧
  (Front s 0x0A05 c → c.payload.length = 8 → fieldAt c.payload 0 1 = 0 → fieldAt c.payload 1 3 = 0 → fieldAt c.payload 4 4 < 65536 → s.lc ≠ 4 →
    s.lc ≠ 0 → 2 ≤ s.roleFor c → s.ilShort none true = none → s.flashOk = true → s.sec.install = none → s.seBusy = false →
    Gives .tetasInstall s fun t => Answered t c .pending ∧ IsHeld t c ∧ t.sec.install = some (s.sec.staging.readN (fieldAt c.payload 4 4)
      (min (fieldAt (s.sec.staging.readN (fieldAt c.payload 4 4 + 24) 4) 0 4) 62716 + 2820))) ∧
  (∀ b p, s.sec.install = some b → s.disp.held.find? (fun p => p.code == 0x0A05) = some p → s.flashPaused = false → s.seBusy = false →
    (bundleParts (b.take (b.length - 2820))).isSome = true →
    Gives .tetasInstallDone s fun t => t.sec.install = none ∧ (∀ q ∈ t.disp.held, q.code ≠ 0x0A05) ∧
      ((s.modSec fun x => { x with install := none }).tetasBad p.host b = none → t.sec.bundle = b ∧ t.getO O.secTetasSerial = fieldAt b 4 4) ∧
      ((s.modSec fun x => { x with install := none }).tetasBad p.host b ≠ none → t.sec.bundle = s.sec.bundle ∧
        t.getO O.secTetasSerial = s.getO O.secTetasSerial)) ∧
  (∀ n m, Front s 0x0A06 c → c.payload.length = 8 → n = fieldAt c.payload 0 4 → m = fieldAt c.payload 4 2 → 1 ≤ m → m ≤ 63 →
    fieldAt c.payload 6 2 = 0 → s.ilShort none true = none → s.sec.log = [] →
    Gives .logRead s fun t => Answered t c (.ok (toLe 4 n))) ∧
  (∀ r, s.flashOk = true → s.flashPaused = false → s.seBusy = false → s.sec.queue = [r] →
    Gives .auditQueueFlush s fun t => t.sec.queue = [] ∧ t.getO O.logQueued = 0 ∧ t.getO O.logHead = s.getO O.logHead + 1)

/-- R512, R513, R514, R518, R522, R523: the commands and ends of a firmware update in their normal case. While a spare is being erased the state
shows IDLE, and UPD_COMMIT completes at once (log 100). -/
def Obligations.UpdateCommandsComplete : Prop := ∀ (s : State) (c : Cmd) (i : Fin 6),
  (Front s 0x0A10 c → OnIsland s c i → s.updSt i ∈ [0, 1, 2, 5] → s.flashOk = true → s.seBusy = false → s.upd[i].op = none →
    Gives .updBegin s fun t => Answered t c .pending ∧ IsHeld t c ∧ t.upd[i].op = some .erase ∧ t.upd[i].spare = [] ∧ t.updSt i = 0) ∧
  (Front s 0x0A11 c → 9 ≤ c.payload.length → c.payload.length ≤ 4092 → fieldAt c.payload 0 1 = i.val → fieldAt c.payload 1 1 = 0 →
    fieldAt c.payload 2 2 = 0 → fieldAt c.payload 4 4 = s.getO (O.updReceived i) →
    fieldAt c.payload 4 4 + (c.payload.length - 8) ≤ slotSize i → Permits s c (some 11) 2 → s.updSt i = 1 → s.flashOk = true → s.flashPaused = false →
    s.seBusy = false → s.upd[i].op = none →
    Gives .updWrite s fun t => Answered t c .ok ∧ t.upd[i].spare = s.upd[i].spare.writeL (s.getO (O.updReceived i)) (c.payload.drop 8) ∧
      t.getO (O.updReceived i) = s.getO (O.updReceived i) + (c.payload.length - 8)) ∧
  (Front s 0x0A12 c → OnIsland s c i → s.updSt i = 1 → s.seBusy = false → s.upd[i].op = none →
    Gives .updVerify s fun t => Answered t c .pending ∧ IsHeld t c ∧ t.upd[i].op = some .verify ∧ t.updSt i = 1) ∧
  (Front s 0x0A13 c → OnIsland s c i → i ≠ 1 → s.updSt i = 2 → (∀ j < 6, s.updSt j ≠ 3 ∧ s.updSt j ≠ 4) → s.ownCondition i = none →
    (∀ m, s.upd[i].spareImg = some m → s.ilClash i m = none) →
    Gives .updActivate s fun t => Answered t c .pending ∧ t.updSt i = 3 ∧ t.getO O.updBusy = i.val ∧ t.upd[i].rollback = false) ∧
  (Front s 0x0A14 c → OnIsland s c i →
    s.updSt i = 4 → s.flashOk = true → s.flashPaused = false → s.auditFull = false → s.seBusy = false → s.upd[i].op = none →
    Gives .updCommit s fun t => Answered t c .pending ∧ t.upd[i].committed = s.upd[i].running ∧ t.upd[i].running = s.upd[i].running ∧
      t.upd[i].prev = some s.upd[i].committed ∧ t.upd[i].bank = 1 - s.upd[i].bank ∧ t.updSt i = 0) ∧
  (Front s 0x0A15 c → OnIsland s c i → i ≠ 1 → s.updSt i = 4 → s.ownCondition i = none →
    Gives .updRollback s fun t => Answered t c .pending ∧ t.updSt i = 3 ∧ t.upd[i].rollback = true) ∧
  (Front s 0x0A16 c → OnIsland s c i → s.updSt i ∈ [1, 2, 5] →
    Gives .updAbort s fun t => Answered t c .ok ∧ t.updSt i = 0 ∧ t.getO (O.updReceived i) = 0 ∧ t.upd[i].spare = [] ∧ t.upd[i].op = none) ∧
  (s.upd[i].op = some .erase → s.seBusy = false → s.flashPaused = false → s.flashOk = true →
    Gives (.updFlashDone i) s fun t => t.upd[i].op = none ∧ t.updSt i = 1 ∧ t.getO (O.updReceived i) = 0) ∧
  (∀ b, s.upd[i].op = some (.write b) → s.seBusy = false → s.flashPaused = false → s.flashOk = true →
    Gives (.updFlashDone i) s fun t => t.upd[i].op = none ∧ t.upd[i].spare = s.upd[i].spare.writeL (s.getO (O.updReceived i)) b ∧
      t.getO (O.updReceived i) = s.getO (O.updReceived i) + b.length) ∧
  (s.upd[i].op = some .verify → s.seBusy = false → s.flashPaused = false →
    Gives (.updFlashDone i) s fun t => t.upd[i].op = none ∧ (s.spareCheck i = none → t.updSt i = 2) ∧ (s.spareCheck i ≠ none → t.updSt i = 5)) ∧
  (i ≠ 0 → s.updSt i = 3 → s.upd[i].rollback = false →
    Gives (.activationDone i true) s fun t => t.upd[i].running = s.upd[i].spareImg.getD s.upd[i].running ∧ t.upd[i].committed = s.upd[i].committed) ∧
  (i ≠ 0 → s.updSt i = 3 → s.upd[i].rollback = true →
    Gives (.activationDone i true) s fun t => t.upd[i].running = s.upd[i].committed ∧ t.upd[i].committed = s.upd[i].committed)

/-- R493, R529, R531 to R533, R540, R563: supplies, resets, boot and the contactors in keep-alive operation. -/
def Obligations.SupplyCommandsComplete : Prop := ∀ (s : State),
  (s.pwr.vstby = false → Gives .coldReset s fun t => t.pwr.vstby = true ∧ t.sec.boots = s.sec.boots + 1 ∧
    ({ cause := 1, islands := 0x7F, classes := 0xF } : Boot) ∈ t.pwr.boot) ∧
  (s.pwr.vstby = true → Gives .vstbyLoss s fun t => t.pwr.vstby = false ∧ t.axt = 0 ∧ t.pwr.boot = [] ∧ t.sec.tamperRec = 0 ∧
    (s.sec.attRes < 2 ^ 20 → s.sec.attMirror < 2 ^ 20 → t.getO O.secAttNext = s.sec.attMirror)) ∧
  (s.pwr.vmain = true → s.pwr.asleep = false → Gives .brownout s fun t => t.pwr.vmain = false ∧ t.pwr.keepAlive = !s.rpk.cut ∧
    t.dcl.ctrPos = s.dcl.ctrPos ∧ t.dcl.ctrNeg = s.dcl.ctrNeg ∧ t.forceA = s.forceA) ∧
  (s.pwr.keepAlive = true → Gives (.keepaliveCtrRelease 0) s fun t => t.dcl.ctrPre = false) ∧
  (s.pwr.keepAlive = true → s.dcl.ctrPos = true → Gives (.keepaliveCtrRelease 1) s fun t => t.dcl.ctrPos = false ∧ t.dcl.posAt = some s.now) ∧
  (s.pwr.keepAlive = true → s.dcl.ctrPos = false →
    s.dcl.posAt.getD 0 + (kGet s.flash O.dclCloseTime).getD (objDefault O.dclCloseTime) * msTicks ≤ s.now →
    Gives (.keepaliveCtrRelease 2) s fun t => t.dcl.ctrNeg = false) ∧
  (s.pwr.vmain = false → s.pwr.asleep = false → s.pwr.boot = [] → s.tripLatched = false → Gives (.vmainReturn false) s fun t =>
    t.pwr.vmain = true ∧ t.pwr.keepAlive = false ∧ t.pwr.boot = [{ cause := 2, islands := 0x3D, classes := 3 }]) ∧
  (s.pwr.vstby = true → Gives .pinReset s fun t => t.pwr.boot = [{ cause := 3, islands := 0x3F, classes := 3 }] ∧
    bitsOf (t.getO O.pwrResetCause) 31 24 = 3 ∧ t.disp.ready = false) ∧
  (∀ i lost, i ≠ .pl → s.pwr.asleep = false → s.pwr.vmain = true → s.pwr.boot = [] → Gives (.watchdogExpiry i lost) s fun t =>
    t.pwr.boot = [{ cause := 5, islands := 2 ^ islIndex i, classes := 1 + (if lost ∧ holdsW.testBit (islIndex i) then 2 else 0) }] ∧ bitsOf (t.getO O.pwrResetCause) 31 24 = 5) ∧
  (∀ b, s.pwr.vio[b] = true → Gives (.vioBankLoss b) s fun t => t.pwr.vio[b] = false) ∧
  (∀ b, Gives (.vioBankReturn b) s fun t => t.pwr.vio[b] = true) ∧
  (∀ b, s.bootReady = true → s.pwr.boot = [b] → b.cause = 2 → b.islands.testBit 4 = true → Gives (.bootComplete []) s fun t =>
    t.pwr.boot = [] ∧ t.disp.ready = true ∧ t.disp.booting = false) ∧
  (∀ n : Fin 6, s.pwr.vstby = true → s.bitO O.secTamperEnable n = true → Gives (.tamperDetect n) s fun t =>
    t.pwr.boot = [{ cause := 7, islands := 0x3F, classes := 0xF }] ∧ t.sec.hpnKey = none ∧ t.sec.tamperNew = true ∧
      t.sec.tamperRec = s.sec.tamperRec ||| (1#6 <<< n.val)) ∧
  (∀ r, Gives (.debugTapAccess r) s fun t => t.sent = .tap (s.tapAnswer r) :: s.sent)

/-- R434 to R440, R540 to R546, R548: the choice of the power state, entry to and exit from the deep states, and the thermal samples. -/
def Obligations.PowerAndThermalCommandsComplete : Prop := ∀ (s : State) (c : Cmd),
  (∀ vm vs : Nat, s.pwrRuns = true → s.pwr.entering = none → Gives (.powerStateChoice vm vs) s fun t =>
    t.getO O.pwrVmain = f32Of ((vm : Rat) / 1000) ∧ t.getO O.pwrVstby = f32Of ((vs : Rat) / 1000) ∧ t.getO O.pwrTarget = s.pwrChoose.1 ∧ t.getO O.pwrLimit = s.pwrChoose.2 ∧
      (s.pwrChoose.1 < s.getO O.pwrState → t.getO O.pwrState = s.pwrChoose.1)) ∧
  (∀ a, s.pwrRuns = true → s.pwr.entering = none → s.pwr.dwellAt = some a → 4 ≤ s.getO O.pwrTarget →
    a + s.getO O.pwrDwell * msTicks ≤ s.now → Gives .dwellExpiry s fun t => t.pwr.entering = some (s.getO O.pwrTarget) ∧ t.pwr.dwellAt = none) ∧
  (∀ st, s.pwr.entering = some st → s.pwr.wakePend = none → 4 ≤ s.pwrChoose.1 → Gives .deepEntryComplete s fun t =>
    t.pwr.asleep = true ∧ t.pwr.entering = none ∧ t.getO O.pwrState = st ∧ t.pwr.cycles = 0) ∧
  (s.pwr.asleep = true → s.getO O.pwrState = 4 → s.wakeMask 1 = true → s.pwr.boot = [] → Gives (.wakeEvent 1) s fun t =>
    t.pwr.asleep = false ∧ t.getO O.pwrWakeCause = 1 ∧ t.pwr.boot = [{ cause := 0x14, islands := 0x3F, classes := 3 }] ∧
      t.axt = s.axt + BitVec.ofNat 64 (s.pwr.cycles * 24415)) ∧
  (s.pwr.asleep = true → s.getO O.pwrState = 5 → s.wakeMask 10 = true → s.getO O.pwrWakeAfter * 32768 ≤ s.pwr.cycles → s.pwr.boot = [] →
    Gives .wakeTimer s fun t => t.pwr.asleep = false ∧ t.getO O.pwrWakeCause = 10 ∧
      t.pwr.boot = [{ cause := 0x15, islands := 0x3F, classes := 3 }]) ∧
  (∀ a, s.pwr.holdUntil = some a → a ≤ s.now → Gives .wakeHoldEnd s fun t => t.pwr.holdUntil = none) ∧
  (∀ a, Front s 0x0201 c → c.payload = [] → Permits s c none 1 → s.pwr.holdUntil = some a →
    Gives .pwrEndHold s fun t => Answered t c .ok ∧ t.pwr.holdUntil = none) ∧
  (∀ kab, s.pwr.asleep = true → s.rpkPath = 0 → kab < s.getO O.rpkSrcVLow * 100 → Gives (.plinthPackHandover kab) s fun t => t.rpkPath = 2) ∧
  (∀ m : Fin 4, s.getO O.pwrState = 3 → s.pwr.asleep = false → s.onObserver m = false → s.portSpeedOk m = true →
    Gives (.napSpeedSample m) s fun t => t.trx[m].speedOk = true ∧
      t.trx[m].speed = if s.getO (O.trxAngleInvert m) = 1 then -s.getQ (O.posSpeed (s.port m)) else s.getQ (O.posSpeed (s.port m))) ∧
  (∀ (n : Fin 16) (v : Int), s.sampleDue n = true → -500 ≤ v → v ≤ 2000 → s.bst.suspect.getLsbD n = false → Gives (.thermalSample n v) s fun t =>
    t.thm.sensors[n].valid = true ∧ t.thm.sensors[n].tenths = v ∧ t.getO (O.thmT n) = f32Of ((v : Rat) / 10)) ∧
  (∀ (n : Fin 16) (v : Int), s.sampleDue n = true → 2000 < v → Gives (.thermalSample n v) s fun t =>
    t.thm.sensors[n].valid = false ∧ t.thm.sensors[n].tenths = s.thm.sensors[n].tenths ∧ t.getO (O.thmT n) = f32NaN) ∧
  (∀ (n : Fin 16) (a : Nat), s.thm.sensors[n].farAt = some a → a + 10 * msTicks ≤ s.now → Gives (.sampleRateRelax n) s fun t =>
    t.thm.sensors[n].fast = false ∧ t.thm.sensors[n].valid = s.thm.sensors[n].valid) ∧
  (s.thm.pause[0] ≤ s.now → Gives (.pauseEnd .dispatch) s fun t => t.thm.pause[0] = 0) ∧
  (s.thm.pause[1] ≤ s.now → Gives (.pauseEnd .activation) s fun t => t.thm.pause[1] = 0) ∧
  (s.thm.pause[2] ≤ s.now → Gives (.pauseEnd .flash) s fun t => t.thm.pause[2] = 0) ∧
  (s.thm.pause[3] ≤ s.now → Gives (.pauseEnd .burst) s fun t => t.thm.pause[3] = 0) ∧
  (∀ p : Fin 8, s.thm.pauseNet[p] ≤ s.now → Gives (.pauseEnd .network) s fun t => t.thm.pauseNet[p] = 0)

/-- R460 to R465, R467 to R474, R476 to R478: what the networks do when a frame, a bus event or a time of theirs arrives. `nwUp` says that NW runs, `portReady` that
a port may send. A Request for the claim is the frame shown for CAN, a datagram from a known partner for Ethernet; bytes of the transport protocol are log 80. -/
def Obligations.NetworkEventsComplete : Prop := ∀ (s : State), s.nwUp = true →
  (∀ n (id : BitVec 29), s.canMode n ≠ 0 → s.net.can[n].busOff = false → s.net.can[n].claim = .claimed → idPgn id.toNat = pgnRequest → idDest id.toNat = 0xFF →
    (∀ e ∈ s.mapEntries, e.pgn ≠ pgnRequest) → s.net.loadAt + sTicks ≤ s.now ∨ s.net.loadN < 60000 → Gives (.canFrameReceived n true .classic id (toLe 3 pgnClaim)) s fun t =>
    ∃ m ∈ t.net.tx, m.port = canPort n ∧ m.pgn = pgnClaim ∧ m.sa = s.net.can[n].addr ∧ m.da = 0xFF ∧ m.data = toLe 8 (s.getO O.netName)) ∧
  (∀ n (id : BitVec 29) data, s.canMode n ≠ 0 → s.net.can[n].busOff = false → id.toNat < 2048 → data.length ≤ 8 → Gives (.canFrameReceived n false .classic id data) s fun t =>
    t.getO O.netRxDropped = min (s.getO O.netRxDropped + 1) 0xFFFFFFFF ∧ t.net = s.net) ∧
  (∀ e node (mac : BitVec 48) ip name a al q, s.ethReady e = true → s.mapEntries = [] → s.net.loadAt + sTicks ≤ s.now ∨ s.net.loadN < 60000 → name ≠ 0 → name < 2 ^ 64 →
    s.aliasMac (ethPort e) mac.toNat = some a → s.pGet a = some al → al.link ≠ a → s.pGet al.link = some q → q.id = name →
    Gives (.pgDatagramReceived e node mac ip (toLe 4 1 ++ toLe 4 pgnRequest ++ toLe 8 name)) s fun t =>
      ∃ x, t.pGet a = some x ∧ x.last = (s.followerStamp .nw).toNat ∧ x.count = min (al.count + 1) 0xFFFFFFFF ∧ x.ipv4 = ip.toNat % 65536 ∧ x.link = al.link) ∧
  (∀ e node mac ip data, s.ethReady e = true → data.length < 16 → Gives (.pgDatagramReceived e node mac ip data) s fun t =>
    t.getO O.netRxDropped = min (s.getO O.netRxDropped + 1) 0xFFFFFFFF ∧ t.net = s.net) ∧
  (∀ n tec rxc, s.canMode n ≠ 0 → s.net.can[n].busOff = false → 128 ≤ tec.toNat ∨ 128 ≤ rxc.toNat → Gives (.canErrorPassive n tec rxc) s fun t =>
    t.bitO (O.netCanStatus n) 1 = true ∧ bitsOf (t.getO (O.netCanStatus n)) 31 24 = tec.toNat ∧ bitsOf (t.getO (O.netCanStatus n)) 23 16 = rxc.toNat) ∧
  (∀ n, s.canMode n ≠ 0 → s.net.can[n].busOff = false → Gives (.canBusOff n) s fun t =>
    t.net.can[n].busOff = true ∧ t.net.can[n].claim = .off ∧ t.bitO (O.netCanStatus n) 2 = true ∧ t.bitO (O.netCanStatus n) 0 = false ∧ t.getO (O.netCanAddr n) = 0xFE ∧
    (s.getO (O.netCanAutoRecover n) = 0 → t.net.can[n].heldOff = true)) ∧
  (∀ n, s.canMode n ≠ 0 → s.getO O.netName ≠ 0 → s.net.can[n].busOff = true → s.net.can[n].heldOff = false → Gives (.canBusOffRecovery n) s fun t =>
    t.net.can[n].busOff = false ∧ t.net.can[n].claim = .waiting ∧ t.net.can[n].addr = s.getO (O.netCanAddrPref n) ∧ bitsOf (t.getO (O.netCanStatus n)) 31 16 = 0 ∧
    t.bitO (O.netCanStatus n) 2 = s.bitO (O.netCanStatus n) 2) ∧
  (∀ n, s.net.can[n].claim = .waiting → s.net.can[n].at_ + 250 * msTicks ≤ s.now → Gives (.claimWaitEnd n) s fun t =>
    t.net.can[n].claim = .claimed ∧ t.getO (O.netCanAddr n) = s.net.can[n].addr ∧ t.bitO (O.netCanStatus n) 0 = true) ∧
  (∀ n, s.net.can[n].claim = .delay → Gives (.cannotClaimDelay n) s fun t =>
    t.net.can[n].claim = .silent ∧ ∃ m ∈ t.net.tx, m.port = canPort n ∧ m.pgn = pgnClaim ∧ m.sa = 254) ∧
  (∀ p, s.portReady p = true → s.net.annAt[p] + 5 * sTicks ≤ s.now → s.mismatched p 0xFF = false → Gives (.ilAnnounce p) s fun t =>
    t.net.annAt[p] = s.now ∧ ∃ m ∈ t.net.tx, m.port = p ∧ m.pgn = pgnAnnounce ∧ fieldAt m.data 0 1 = s.getO O.updIl % 256) ∧
  (∀ e : Fin 4, s.bitO (O.netEthCfg e) 0 = true → s.bitO (O.netEthStatus e) 0 = false → Gives (.ethLinkChange e true) s fun t => t.bitO (O.netEthStatus e) 0 = true) ∧
  (∀ e : Fin 4, s.bitO (O.netEthCfg e) 0 = true → s.bitO (O.netEthStatus e) 0 = true → Gives (.ethLinkChange e false) s fun t =>
    t.bitO (O.netEthStatus e) 0 = false ∧ t.bitO (O.netEthStatus e) 1 = true) ∧
  (∀ e, s.plcaFollower e = true → s.net.csma[e] = false → Gives (.plcaBeaconLoss e) s fun t =>
    t.net.csma[e] = true ∧ t.bitO (O.netEthStatus (2 + e.val)) 2 = true) ∧
  (∀ e, s.plcaFollower e = true → s.net.csma[e] = true → Gives (.plcaBeaconRegained e) s fun t => t.net.csma[e] = false) ∧
  (∀ i al, s.pGet i = some al → al.kind = 2 → al.flags.testBit 4 = false → al.last + s.getO O.netPartnerTimeout * msTicks ≤ s.now →
    Gives (.partnerTimeout i) s fun t => ∃ x, t.pGet i = some x ∧ x.flags.testBit 4 = true) ∧
  (∀ k x, s.net.sess.find? (fun (y : Session) => y.key == k) = some x → x.due ≤ s.now → x.wait ≠ .sending → k < s.net.nextKey → Gives (.tpTimeout k) s fun t =>
    (∀ y ∈ t.net.sess, y.key ≠ k) ∧ (x.bam = false → ∃ m ∈ t.net.tx, m.port = x.port ∧ m.pgn = State.tpCm x.ext ∧ m.data.take 2 = [255#8, 3#8])) ∧
  (∀ i : Fin 256, (s.mapEntry i).on = true → (s.mapEntry i).tx = true → (s.mapEntry i).period ≠ 0 → s.txLeads (s.mapEntry i) = true →
    (kGet s.net.mapAt i).getD s.net.startAt + (s.mapEntry i).period * msTicks ≤ s.now → Gives (.mapTxCycle i) s fun t => kGet t.net.mapAt i = some s.now) ∧
  (∀ i : Fin 256, Gives (.mapTxExpired i) s fun t => (∀ m ∈ t.net.tx ++ t.net.wait, m.who = .map i.val → s.txStale m = false) ∧
    (∀ x ∈ t.net.sess, s.sessStale (fun m => m.who == .map i.val) x = false) ∧
    (∀ m ∈ s.net.tx, m.who ≠ .map i.val ∨ s.txStale m = false →
      (∀ x ∈ s.net.sess, m.who = .tp x.key → s.sessStale (fun y => y.who == .map i.val) x = false) → m ∈ t.net.tx) ∧
    (∀ m ∈ s.net.tx, m.who = .map i.val → s.txStale m = true → t.bitO O.sysLateFlags 5 = true)) ∧
  (∀ i : Fin 256, (s.mapEntry i).on = true → (s.mapEntry i).tx = false → (s.mapEntry i).period ≠ 0 → s.net.rxDead.contains i.val = false →
    (kGet s.net.mapAt i).getD s.net.startAt + (s.mapEntry i).period * msTicks ≤ s.now → Gives (.mapRxTimeout i) s fun t =>
    i.val ∈ t.net.rxDead ∧ t.bitO O.netFlags 1 = true ∧ t.getO O.netRxTimeouts = min (s.getO O.netRxTimeouts + 1) 0xFFFFFFFF) ∧
  (∀ p n m, portCan p = some n → (s.txWithdraw fun x => x.port == p).txNext p = some m → m.who = .own → Gives (.netTxDone p true) s fun t =>
    t.net.tx = (s.txWithdraw fun x => x.port == p).net.tx.erase m ∧ Sent.can n (State.canWire m).1 (canId m) (State.canWire m).2 ∈ t.sent) ∧
  (∀ e icmp target mac ip data, s.ethReady e = true → target.toNat = s.getO (O.netEthIpv4 e) → Gives (.arpOrIcmpEchoRequest e icmp target mac ip data) s fun t =>
    ∃ body, t.sent = .eth e (if icmp then 1 else 0) mac.toNat ip.toNat body :: s.sent)

/-- R474, R479: the mailbox commands of the networks. What their own words leave open is log 96. -/
def Obligations.NetworkCommandsComplete : Prop := ∀ (s : State) (c : Cmd),
  (∀ n : Fin 4, Front s 0x0901 c → c.payload = [BitVec.ofNat 8 n, 0, 0, 0] → Permits s c (some 10) 2 → s.canMode n ≠ 0 → s.getO O.netName ≠ 0 →
    Gives .netCanRestart s fun t => Answered t c .ok ∧ t.net.can[n].busOff = false ∧ t.net.can[n].heldOff = false ∧ t.net.can[n].claim = .waiting ∧
      t.net.can[n].addr = s.getO (O.netCanAddrPref n)) ∧
  (∀ (n : Fin 4) (a : Fin 254), Front s 0x0902 c → c.payload = [BitVec.ofNat 8 n, BitVec.ofNat 8 a, 0, 0] → Permits s c (some 10) 2 → s.canMode n ≠ 0 →
    s.getO O.netName ≠ 0 → s.net.can[n].busOff = false → Gives .netClaim s fun t => Answered t c .pending ∧ IsHeld t c ∧ t.net.can[n].claim = .waiting ∧
      t.net.can[n].addr = a.val ∧ t.getO (O.netCanAddr n) = 0xFE) ∧
  (∀ a n, Front s 0x0903 c → c.payload = toLe 2 a ++ toLe 2 n → 0 < n → n ≤ 127 → a + n ≤ 6144 → s.lc ≠ 4 → s.ilShort (some 10) false = none →
    Gives .netPartnerRead s fun t => Answered t c (.ok (toLe 2 (a + n) ++ [0, 0] ++ (List.range n).flatMap fun i => s.entryBytes (a + i)))) ∧
  (∀ i p (pin : Fin 2), Front s 0x0904 c → c.payload = toLe 2 i ++ [BitVec.ofNat 8 pin, 0] → i < 6144 → Permits s c (some 10) 2 → s.pGet i = some p → p.kind = 1 →
    Gives .netPartnerPin s fun t => Answered t c .ok ∧ ∃ q, t.pGet i = some q ∧ q.flags.testBit 0 = (pin == 1)) ∧
  (∀ (n : Fin 4) (prio : Fin 8) (da : BitVec 8) (pgn : BitVec 18) (data : List (BitVec 8)), Front s 0x0905 c →
    c.payload = [BitVec.ofNat 8 (2 ^ n.val), BitVec.ofNat 8 prio, da, 0] ++ toLe 4 pgn.toNat ++ data → 1 ≤ data.length → data.length ≤ 8 → Permits s c (some 10) 2 →
    s.canReady n = true → isEzdal pgn.toNat = false → Gives .netSend s fun t => Answered t c .pending ∧ IsHeld t c ∧
      ∃ m ∈ t.net.tx, m.port = canPort n ∧ m.prio = prio.val ∧ m.pgn = pgn.toNat ∧ m.da = da.toNat ∧ m.data = data ∧ m.who = .cmd c.host c.tag)

/-- R67: while READY is 0 no slot that is POSTED leaves that state, and the dispatcher accepts the posted slots of a host, oldest first, once READY is 1. In keep-alive
operation SC serves HPC instead (R400), and while SLEEP is entered, or the thermal pause of R438 holds, nothing is accepted. -/
def Obligations.PostedWaitForReady : Prop := ∀ (s : State), s.pwr.keepAlive = false →
  (s.disp.ready = false → Gives .commandAccept s fun t => ∀ (h : Fin 4) (k : Fin 8), (s.hosts[h].slots[k]).st = .posted → (t.hosts[h].slots[k]).st = .posted) ∧
  (∀ (h : Fin 4) k rest, s.disp.ready = true → s.pwr.entering = none → s.pwr.asleep = false → s.paused h = false → s.hosts[h].bells = k :: rest →
    (∀ g : Fin 4, g ≠ h → s.hosts[g].bells = []) → Gives .commandAccept s fun t =>
      t.hosts[h].bells = rest ∧ t.disp.last = h ∧ ((t.hosts[h].slots[k]).st = .accepted ∨ (t.hosts[h].slots[k]).st = .done))

/-- R50: after EV_LATE has been raised for a consumer, each further miss of it that comes less than a millisecond of axle time later only sets its sticky flag, whatever
the device has done in between that raises no event; a miss a millisecond later or more raises EV_LATE again (log 9). What counts as one consumer is the model's choice (log 102): `who` tells the consumers of one source apart. -/
def Obligations.LateEventLimited : Prop := ∀ (s s2 : State) (bit src deadline deadline2 who : Nat), s.evFresh (0x0043, src, bit + 8 * who) = true →
  s2.evLast = (s.raiseLate bit src deadline who).evLast →
  (s.now ≤ s2.now → s2.now < s.now + msTicks → s2.raiseLate bit src deadline2 who = s2.orO O.sysLateFlags (2 ^ bit)) ∧
  (s.now + msTicks ≤ s2.now → ((0x0043, src, bit + 8 * who), s2.now) ∈ (s2.raiseLate bit src deadline2 who).evLast ∧
    (s2.raiseLate bit src deadline2 who).bitO O.sysLateFlags bit = true)

/-- R118, R582: a placed edge ends at the latest symbol boundary no later than its instant less the latency estimate, its remainder is the rest, and the frame of the edge
before it on the same link ends at least 50 ticks earlier. Instants are in fine steps, boundaries in ticks. -/
def Obligations.EdgePlacement : Prop := ∀ (e target lim : Nat),
  (e ≤ target → (∀ b, b % 10 = 0 → 8 * b + e ≤ target → b ≤ lim) →
    ∃ b r, placeOne e lim target = some (b, r) ∧ b % 10 = 0 ∧ r < 80 ∧ 8 * b + e + r = target ∧ ∀ b', b' % 10 = 0 → 8 * b' + e ≤ target → b' ≤ b) ∧
  (target < e → placeOne e lim target = none) ∧
  (∀ l p x y, placeDesc e lim l [] = .inl p → [x, y] <:+: p → 50 < y.2.1 → x.2.1 + 50 ≤ y.2.1)
end

