-- ==== Sys2Proof/Laws/Store.lean ====
section
/-! SUPPORT. The laws of the keyed store, of byte memory and of the exchange memory: read after write, and the canonical form that
every operation keeps. -/

namespace Sys2Proof.Machine

variable {β : Type}

/-! ### The keyed store -/

@[simp] theorem kGet_nil (k : Nat) : kGet ([] : List (Nat × β)) k = none := rfl

theorem kGet_append (l t : List (Nat × β)) (k : Nat) : kGet (l ++ t) k = (kGet l k).or (kGet t k) := by
  simp only [kGet, List.find?_append]
  cases l.find? fun p => p.1 == k <;> rfl

theorem kGet_cons (a : Nat) (b : β) (t : List (Nat × β)) (k : Nat) :
    kGet ((a, b) :: t) k = if a = k then some b else kGet t k := by
  by_cases h : a = k <;> simp [kGet, h]

@[simp] theorem kGet_kDel_same (l : List (Nat × β)) (k : Nat) : kGet (kDel l k) k = none := by
  simp [kGet, kDel]

theorem kGet_kDel_ne (l : List (Nat × β)) {k j : Nat} (h : j ≠ k) : kGet (kDel l k) j = kGet l j := by
  rw [kGet, kDel, List.find?_filter, kGet]
  congr 2
  funext p
  by_cases e : p.1 = j <;> simp [e, h]

/-- The keys before the place of `k` are below it. -/
theorem lt_of_mem_before {l : List (Nat × β)} {k : Nat} {p : Nat × β} (h : p ∈ l.takeWhile fun p => p.1 < k) : p.1 < k := by
  simpa using List.all_eq_true.mp List.all_takeWhile p h

@[simp] theorem kGet_kPut_same (l : List (Nat × β)) (k : Nat) (v : β) : kGet (kPut l k v) k = some v := by
  have h : kGet (l.takeWhile fun p => p.1 < k) k = none := by
    simpa [kGet] using fun a b hp => Nat.ne_of_lt (lt_of_mem_before hp)
  rw [kPut, kGet_append, h, kGet_cons, if_pos rfl, Option.none_or]

theorem kGet_kPut_ne (l : List (Nat × β)) {k j : Nat} (v : β) (h : j ≠ k) : kGet (kPut l k v) j = kGet l j := by
  rw [kPut, kGet_append, kGet_cons, if_neg (Ne.symm h), kGet_kDel_ne _ h, ← kGet_append, List.takeWhile_append_dropWhile]

@[simp] theorem kGet_kSet_same [DecidableEq β] (l : List (Nat × β)) (d : β) (k : Nat) (v : β) : (kGet (kSet l d k v) k).getD d = v := by
  by_cases h : v = d <;> simp [kSet, h]

theorem kGet_kSet_ne [DecidableEq β] (l : List (Nat × β)) (d : β) {k j : Nat} (v : β) (h : j ≠ k) :
    kGet (kSet l d k v) j = kGet l j := by
  by_cases e : v = d
  · simp [kSet, e, kGet_kDel_ne l h]
  · simp [kSet, e, kGet_kPut_ne l v h]

/-- Keys strictly rising. -/
abbrev Rising (l : List (Nat × β)) : Prop := l.Pairwise fun p q => p.1 < q.1

theorem mem_kPut {l : List (Nat × β)} {k : Nat} {v : β} {p : Nat × β} (h : p ∈ kPut l k v) : p = (k, v) ∨ p ∈ l := by
  simp only [kPut, kDel, List.mem_append, List.mem_cons, List.mem_filter] at h
  exact h.elim (fun b => .inr ((List.takeWhile_prefix _).subset b))
    (.imp_right fun b => (List.dropWhile_suffix _).subset b.1)

theorem rising_kDel {l : List (Nat × β)} (k : Nat) (h : Rising l) : Rising (kDel l k) := h.filter _

/-- What stands from the place of `k` on has no key below it. -/
theorem Rising.not_lt_after {l : List (Nat × β)} {k : Nat} (h : Rising l) : ∀ p ∈ l.dropWhile fun p => p.1 < k, k ≤ p.1 := by
  cases e : l.dropWhile fun p => p.1 < k with
  | nil => simp
  | cons q t =>
    have hq : k ≤ q.1 := by
      have := List.head_dropWhile_not (p := fun p : Nat × β => decide (p.1 < k)) (l := l) (by simp [e])
      simpa [e] using this
    have hr : Rising (q :: t) := e ▸ h.sublist (List.dropWhile_sublist _)
    exact List.forall_mem_cons.mpr ⟨hq, fun p hp => Nat.le_trans hq (Nat.le_of_lt ((List.pairwise_cons.mp hr).1 p hp))⟩

theorem rising_kPut {l : List (Nat × β)} (k : Nat) (v : β) (h : Rising l) : Rising (kPut l k v) := by
  have after : ∀ p ∈ kDel (l.dropWhile fun p => p.1 < k) k, k < p.1 := fun p hp => by
    have hp := List.mem_filter.mp hp
    exact Nat.lt_of_le_of_ne (h.not_lt_after p hp.1) (by simpa using Ne.symm (bne_iff_ne.mp hp.2))
  refine List.pairwise_append.mpr ⟨h.sublist (List.takeWhile_sublist _),
    List.Pairwise.cons after (rising_kDel k (h.sublist (List.dropWhile_sublist _))), fun p hp q hq => ?_⟩
  have hp := lt_of_mem_before hp
  exact (List.mem_cons.mp hq).elim (fun e => e ▸ hp) fun hq => Nat.lt_trans hp (after q hq)

theorem rising_kSet [DecidableEq β] {l : List (Nat × β)} (d : β) (k : Nat) (v : β) (h : Rising l) : Rising (kSet l d k v) := by
  by_cases e : v = d
  · simpa [kSet, e] using rising_kDel k h
  · simpa [kSet, e] using rising_kPut k v h

/-! ### Byte memory -/

theorem Mem.wf_nil : Mem.wf [] := ⟨List.Pairwise.nil, fun _ h => by cases h⟩

/-- A write of one byte keeps the canonical form. -/
theorem Mem.wf_write {m : Mem} (a : Nat) (b : Byte) (h : m.wf) : (m.write a b).wf := by
  refine ⟨rising_kSet 0 a b h.1, fun p hp => ?_⟩
  by_cases e : b = 0
  · rw [Mem.write, kSet, if_pos e, kDel] at hp
    exact h.2 p (List.mem_filter.mp hp).1
  · rw [Mem.write, kSet, if_neg e] at hp
    rcases mem_kPut hp with c | c
    · rw [c]; exact e
    · exact h.2 p c

/-- A write of a byte string keeps the canonical form. -/
theorem Mem.wf_writeL {m : Mem} (a : Nat) (bs : List Byte) (h : m.wf) : (m.writeL a bs).wf := by
  induction bs generalizing m a with
  | nil => exact h
  | cons b t ih => exact ih (a + 1) (Mem.wf_write a b h)

@[simp] theorem Mem.read_write_same (m : Mem) (a : Nat) (b : Byte) : (m.write a b).read a = b := kGet_kSet_same m 0 a b

theorem Mem.read_write_ne (m : Mem) {a j : Nat} (b : Byte) (h : j ≠ a) : (m.write a b).read j = m.read j := by
  simp only [Mem.read, Mem.write, kGet_kSet_ne m 0 b h]

/-- Bytes below the string written read as before. -/
theorem Mem.read_writeL_lt (m : Mem) {a j : Nat} (bs : List Byte) (h : j < a) : (m.writeL a bs).read j = m.read j := by
  induction bs generalizing m a with
  | nil => rfl
  | cons b t ih =>
    rw [Mem.writeL, ih _ (Nat.lt_succ_of_lt h), Mem.read_write_ne m b (Nat.ne_of_lt h)]

/-- Bytes beyond the string written read as before. -/
theorem Mem.read_writeL_ge (m : Mem) {a j : Nat} (bs : List Byte) (h : a + bs.length ≤ j) : (m.writeL a bs).read j = m.read j := by
  induction bs generalizing m a with
  | nil => rfl
  | cons b t ih =>
    simp only [List.length_cons] at h
    rw [Mem.writeL, ih _ (by omega), Mem.read_write_ne m b (by omega)]

/-- The bytes of the string written. -/
theorem Mem.read_writeL (m : Mem) (a i : Nat) (bs : List Byte) (h : i < bs.length) : (m.writeL a bs).read (a + i) = bs[i] := by
  induction bs generalizing m a i with
  | nil => cases h
  | cons b t ih =>
    cases i with
    | zero =>
      show ((m.write a b).writeL (a + 1) t).read a = b
      rw [Mem.read_writeL_lt _ _ (show a < a + 1 by omega)]; simp
    | succ n =>
      have := ih (m.write a b) (a + 1) n (by simpa using h)
      rw [Mem.writeL, show a + (n + 1) = a + 1 + n by omega, this]; simp

/-- What is written reads back. -/
theorem Mem.readN_writeL (m : Mem) (a : Nat) (bs : List Byte) : (m.writeL a bs).readN a bs.length = bs := by
  apply List.ext_getElem
  · simp [Mem.readN]
  · intro i h1 h2
    simp only [Mem.readN, List.getElem_map, List.getElem_range]
    exact Mem.read_writeL m a i bs h2

/-! ### The exchange memory -/

@[simp] theorem XMem.writeL_epoch (x : XMem) (a : Nat) (bs : List Byte) : (x.writeL a bs).epoch = x.epoch := by
  induction bs generalizing x a with
  | nil => rfl
  | cons b t ih => rw [XMem.writeL, ih]

/-- A write keeps the canonical form of the exchange memory. -/
theorem XMem.wf_writeL {x : XMem} (a : Nat) (bs : List Byte) (h : x.wf) : (x.writeL a bs).wf := by
  induction bs generalizing x a with
  | nil => exact h
  | cons b t ih =>
    refine ih (a + 1) ⟨rising_kSet _ a b h.1, fun p hp => ?_⟩
    show p.2 ≠ x.dflt p.1
    by_cases e : b = x.dflt a
    · simp only [kSet, if_pos e, kDel] at hp
      exact h.2 p (List.mem_filter.mp hp).1
    · simp only [kSet, if_neg e] at hp
      rcases mem_kPut hp with c | c
      · rw [c]; exact e
      · exact h.2 p c

end Sys2Proof.Machine
end

