-- ==== Sys2Proof/Laws/State.lean ====
section
/-! SUPPORT. One lemma per field and update of the state, each true by definition, and the laws of the object store: what a
read gives after a write. -/

namespace Sys2Proof.Machine

namespace State

/-! ### Fields after an update -/

@[simp] theorem setO_axt (s : State) (id v : Nat) : (s.setO id v).axt = s.axt := rfl
@[simp] theorem setO_follow (s : State) (id v : Nat) : (s.setO id v).follow = s.follow := rfl
@[simp] theorem setO_xing (s : State) (id v : Nat) : (s.setO id v).xing = s.xing := rfl
@[simp] theorem setO_pending (s : State) (id v : Nat) : (s.setO id v).pending = s.pending := rfl
@[simp] theorem setO_objs (s : State) (id v : Nat) : (s.setO id v).objs = kSet s.objs (objDefault id) id v := rfl
@[simp] theorem setO_flash (s : State) (id v : Nat) : (s.setO id v).flash = s.flash := rfl
@[simp] theorem setO_dirty (s : State) (id v : Nat) : (s.setO id v).dirty = s.dirty := rfl
@[simp] theorem setO_free (s : State) (id v : Nat) : (s.setO id v).free = s.free := rfl
@[simp] theorem setO_evLast (s : State) (id v : Nat) : (s.setO id v).evLast = s.evLast := rfl
@[simp] theorem setO_sent (s : State) (id v : Nat) : (s.setO id v).sent = s.sent := rfl
@[simp] theorem setO_clk (s : State) (id v : Nat) : (s.setO id v).clk = s.clk := rfl
@[simp] theorem setO_hosts (s : State) (id v : Nat) : (s.setO id v).hosts = s.hosts := rfl
@[simp] theorem setO_disp (s : State) (id v : Nat) : (s.setO id v).disp = s.disp := rfl
@[simp] theorem setO_later (s : State) (id v : Nat) : (s.setO id v).later = s.later := rfl
@[simp] theorem setO_xmem (s : State) (id v : Nat) : (s.setO id v).xmem = s.xmem := rfl
@[simp] theorem setO_forceA (s : State) (id v : Nat) : (s.setO id v).forceA = s.forceA := rfl
@[simp] theorem setO_forceB (s : State) (id v : Nat) : (s.setO id v).forceB = s.forceB := rfl
@[simp] theorem setO_links (s : State) (id v : Nat) : (s.setO id v).links = s.links := rfl
@[simp] theorem setO_cgs (s : State) (id v : Nat) : (s.setO id v).cgs = s.cgs := rfl
@[simp] theorem setO_trx (s : State) (id v : Nat) : (s.setO id v).trx = s.trx := rfl
@[simp] theorem setO_ctx (s : State) (id v : Nat) : (s.setO id v).ctx = s.ctx := rfl
@[simp] theorem setO_tb (s : State) (id v : Nat) : (s.setO id v).tb = s.tb := rfl
@[simp] theorem setO_traceReads (s : State) (id v : Nat) : (s.setO id v).traceReads = s.traceReads := rfl
@[simp] theorem setO_dcl (s : State) (id v : Nat) : (s.setO id v).dcl = s.dcl := rfl
@[simp] theorem setO_ptg (s : State) (id v : Nat) : (s.setO id v).ptg = s.ptg := rfl
@[simp] theorem setO_adc (s : State) (id v : Nat) : (s.setO id v).adc = s.adc := rfl
@[simp] theorem setO_pos (s : State) (id v : Nat) : (s.setO id v).pos = s.pos := rfl
@[simp] theorem setO_prb (s : State) (id v : Nat) : (s.setO id v).prb = s.prb := rfl
@[simp] theorem setO_chg (s : State) (id v : Nat) : (s.setO id v).chg = s.chg := rfl
@[simp] theorem setO_aux (s : State) (id v : Nat) : (s.setO id v).aux = s.aux := rfl
@[simp] theorem setO_amc (s : State) (id v : Nat) : (s.setO id v).amc = s.amc := rfl
@[simp] theorem setO_rpk (s : State) (id v : Nat) : (s.setO id v).rpk = s.rpk := rfl
@[simp] theorem setO_hpn (s : State) (id v : Nat) : (s.setO id v).hpn = s.hpn := rfl
@[simp] theorem setO_sec (s : State) (id v : Nat) : (s.setO id v).sec = s.sec := rfl
@[simp] theorem setO_upd (s : State) (id v : Nat) : (s.setO id v).upd = s.upd := rfl
@[simp] theorem setO_thm (s : State) (id v : Nat) : (s.setO id v).thm = s.thm := rfl
@[simp] theorem setO_bst (s : State) (id v : Nat) : (s.setO id v).bst = s.bst := rfl
@[simp] theorem setO_patina (s : State) (id v : Nat) : (s.setO id v).patina = s.patina := rfl
@[simp] theorem setO_pwr (s : State) (id v : Nat) : (s.setO id v).pwr = s.pwr := rfl
@[simp] theorem setO_net (s : State) (id v : Nat) : (s.setO id v).net = s.net := rfl
@[simp] theorem takeFree_axt (s : State) : s.takeFree.axt = s.axt := rfl
@[simp] theorem takeFree_follow (s : State) : s.takeFree.follow = s.follow := rfl
@[simp] theorem takeFree_xing (s : State) : s.takeFree.xing = s.xing := rfl
@[simp] theorem takeFree_pending (s : State) : s.takeFree.pending = s.pending := rfl
@[simp] theorem takeFree_objs (s : State) : s.takeFree.objs = s.objs := rfl
@[simp] theorem takeFree_flash (s : State) : s.takeFree.flash = s.flash := rfl
@[simp] theorem takeFree_dirty (s : State) : s.takeFree.dirty = s.dirty := rfl
@[simp] theorem takeFree_free (s : State) : s.takeFree.free = s.free + 1 := rfl
@[simp] theorem takeFree_evLast (s : State) : s.takeFree.evLast = s.evLast := rfl
@[simp] theorem takeFree_sent (s : State) : s.takeFree.sent = s.sent := rfl
@[simp] theorem takeFree_clk (s : State) : s.takeFree.clk = s.clk := rfl
@[simp] theorem takeFree_hosts (s : State) : s.takeFree.hosts = s.hosts := rfl
@[simp] theorem takeFree_disp (s : State) : s.takeFree.disp = s.disp := rfl
@[simp] theorem takeFree_later (s : State) : s.takeFree.later = s.later := rfl
@[simp] theorem takeFree_xmem (s : State) : s.takeFree.xmem = s.xmem := rfl
@[simp] theorem takeFree_forceA (s : State) : s.takeFree.forceA = s.forceA := rfl
@[simp] theorem takeFree_forceB (s : State) : s.takeFree.forceB = s.forceB := rfl
@[simp] theorem takeFree_links (s : State) : s.takeFree.links = s.links := rfl
@[simp] theorem takeFree_cgs (s : State) : s.takeFree.cgs = s.cgs := rfl
@[simp] theorem takeFree_trx (s : State) : s.takeFree.trx = s.trx := rfl
@[simp] theorem takeFree_ctx (s : State) : s.takeFree.ctx = s.ctx := rfl
@[simp] theorem takeFree_tb (s : State) : s.takeFree.tb = s.tb := rfl
@[simp] theorem takeFree_traceReads (s : State) : s.takeFree.traceReads = s.traceReads := rfl
@[simp] theorem takeFree_dcl (s : State) : s.takeFree.dcl = s.dcl := rfl
@[simp] theorem takeFree_ptg (s : State) : s.takeFree.ptg = s.ptg := rfl
@[simp] theorem takeFree_adc (s : State) : s.takeFree.adc = s.adc := rfl
@[simp] theorem takeFree_pos (s : State) : s.takeFree.pos = s.pos := rfl
@[simp] theorem takeFree_prb (s : State) : s.takeFree.prb = s.prb := rfl
@[simp] theorem takeFree_chg (s : State) : s.takeFree.chg = s.chg := rfl
@[simp] theorem takeFree_aux (s : State) : s.takeFree.aux = s.aux := rfl
@[simp] theorem takeFree_amc (s : State) : s.takeFree.amc = s.amc := rfl
@[simp] theorem takeFree_rpk (s : State) : s.takeFree.rpk = s.rpk := rfl
@[simp] theorem takeFree_hpn (s : State) : s.takeFree.hpn = s.hpn := rfl
@[simp] theorem takeFree_sec (s : State) : s.takeFree.sec = s.sec := rfl
@[simp] theorem takeFree_upd (s : State) : s.takeFree.upd = s.upd := rfl
@[simp] theorem takeFree_thm (s : State) : s.takeFree.thm = s.thm := rfl
@[simp] theorem takeFree_bst (s : State) : s.takeFree.bst = s.bst := rfl
@[simp] theorem takeFree_patina (s : State) : s.takeFree.patina = s.patina := rfl
@[simp] theorem takeFree_pwr (s : State) : s.takeFree.pwr = s.pwr := rfl
@[simp] theorem takeFree_net (s : State) : s.takeFree.net = s.net := rfl
@[simp] theorem send_axt (s : State) (x : Sent) : (s.send x).axt = s.axt := rfl
@[simp] theorem send_follow (s : State) (x : Sent) : (s.send x).follow = s.follow := rfl
@[simp] theorem send_xing (s : State) (x : Sent) : (s.send x).xing = s.xing := rfl
@[simp] theorem send_pending (s : State) (x : Sent) : (s.send x).pending = s.pending := rfl
@[simp] theorem send_objs (s : State) (x : Sent) : (s.send x).objs = s.objs := rfl
@[simp] theorem send_flash (s : State) (x : Sent) : (s.send x).flash = s.flash := rfl
@[simp] theorem send_dirty (s : State) (x : Sent) : (s.send x).dirty = s.dirty := rfl
@[simp] theorem send_free (s : State) (x : Sent) : (s.send x).free = s.free := rfl
@[simp] theorem send_evLast (s : State) (x : Sent) : (s.send x).evLast = s.evLast := rfl
@[simp] theorem send_sent (s : State) (x : Sent) : (s.send x).sent = x :: s.sent := rfl
@[simp] theorem send_clk (s : State) (x : Sent) : (s.send x).clk = s.clk := rfl
@[simp] theorem send_hosts (s : State) (x : Sent) : (s.send x).hosts = s.hosts := rfl
@[simp] theorem send_disp (s : State) (x : Sent) : (s.send x).disp = s.disp := rfl
@[simp] theorem send_later (s : State) (x : Sent) : (s.send x).later = s.later := rfl
@[simp] theorem send_xmem (s : State) (x : Sent) : (s.send x).xmem = s.xmem := rfl
@[simp] theorem send_forceA (s : State) (x : Sent) : (s.send x).forceA = s.forceA := rfl
@[simp] theorem send_forceB (s : State) (x : Sent) : (s.send x).forceB = s.forceB := rfl
@[simp] theorem send_links (s : State) (x : Sent) : (s.send x).links = s.links := rfl
@[simp] theorem send_cgs (s : State) (x : Sent) : (s.send x).cgs = s.cgs := rfl
@[simp] theorem send_trx (s : State) (x : Sent) : (s.send x).trx = s.trx := rfl
@[simp] theorem send_ctx (s : State) (x : Sent) : (s.send x).ctx = s.ctx := rfl
@[simp] theorem send_tb (s : State) (x : Sent) : (s.send x).tb = s.tb := rfl
@[simp] theorem send_traceReads (s : State) (x : Sent) : (s.send x).traceReads = s.traceReads := rfl
@[simp] theorem send_dcl (s : State) (x : Sent) : (s.send x).dcl = s.dcl := rfl
@[simp] theorem send_ptg (s : State) (x : Sent) : (s.send x).ptg = s.ptg := rfl
@[simp] theorem send_adc (s : State) (x : Sent) : (s.send x).adc = s.adc := rfl
@[simp] theorem send_pos (s : State) (x : Sent) : (s.send x).pos = s.pos := rfl
@[simp] theorem send_prb (s : State) (x : Sent) : (s.send x).prb = s.prb := rfl
@[simp] theorem send_chg (s : State) (x : Sent) : (s.send x).chg = s.chg := rfl
@[simp] theorem send_aux (s : State) (x : Sent) : (s.send x).aux = s.aux := rfl
@[simp] theorem send_amc (s : State) (x : Sent) : (s.send x).amc = s.amc := rfl
@[simp] theorem send_rpk (s : State) (x : Sent) : (s.send x).rpk = s.rpk := rfl
@[simp] theorem send_hpn (s : State) (x : Sent) : (s.send x).hpn = s.hpn := rfl
@[simp] theorem send_sec (s : State) (x : Sent) : (s.send x).sec = s.sec := rfl
@[simp] theorem send_upd (s : State) (x : Sent) : (s.send x).upd = s.upd := rfl
@[simp] theorem send_thm (s : State) (x : Sent) : (s.send x).thm = s.thm := rfl
@[simp] theorem send_bst (s : State) (x : Sent) : (s.send x).bst = s.bst := rfl
@[simp] theorem send_patina (s : State) (x : Sent) : (s.send x).patina = s.patina := rfl
@[simp] theorem send_pwr (s : State) (x : Sent) : (s.send x).pwr = s.pwr := rfl
@[simp] theorem send_net (s : State) (x : Sent) : (s.send x).net = s.net := rfl
@[simp] theorem modHost_axt (s : State) (h : Fin 4) (f : HostPort → HostPort) : (s.modHost h f).axt = s.axt := rfl
@[simp] theorem modHost_follow (s : State) (h : Fin 4) (f : HostPort → HostPort) : (s.modHost h f).follow = s.follow := rfl
@[simp] theorem modHost_xing (s : State) (h : Fin 4) (f : HostPort → HostPort) : (s.modHost h f).xing = s.xing := rfl
@[simp] theorem modHost_pending (s : State) (h : Fin 4) (f : HostPort → HostPort) : (s.modHost h f).pending = s.pending := rfl
@[simp] theorem modHost_objs (s : State) (h : Fin 4) (f : HostPort → HostPort) : (s.modHost h f).objs = s.objs := rfl
@[simp] theorem modHost_flash (s : State) (h : Fin 4) (f : HostPort → HostPort) : (s.modHost h f).flash = s.flash := rfl
@[simp] theorem modHost_dirty (s : State) (h : Fin 4) (f : HostPort → HostPort) : (s.modHost h f).dirty = s.dirty := rfl
@[simp] theorem modHost_free (s : State) (h : Fin 4) (f : HostPort → HostPort) : (s.modHost h f).free = s.free := rfl
@[simp] theorem modHost_evLast (s : State) (h : Fin 4) (f : HostPort → HostPort) : (s.modHost h f).evLast = s.evLast := rfl
@[simp] theorem modHost_sent (s : State) (h : Fin 4) (f : HostPort → HostPort) : (s.modHost h f).sent = s.sent := rfl
@[simp] theorem modHost_clk (s : State) (h : Fin 4) (f : HostPort → HostPort) : (s.modHost h f).clk = s.clk := rfl
@[simp] theorem modHost_hosts (s : State) (h : Fin 4) (f : HostPort → HostPort) : (s.modHost h f).hosts = s.hosts.set h (f s.hosts[h]) := rfl
@[simp] theorem modHost_disp (s : State) (h : Fin 4) (f : HostPort → HostPort) : (s.modHost h f).disp = s.disp := rfl
@[simp] theorem modHost_later (s : State) (h : Fin 4) (f : HostPort → HostPort) : (s.modHost h f).later = s.later := rfl
@[simp] theorem modHost_xmem (s : State) (h : Fin 4) (f : HostPort → HostPort) : (s.modHost h f).xmem = s.xmem := rfl
@[simp] theorem modHost_forceA (s : State) (h : Fin 4) (f : HostPort → HostPort) : (s.modHost h f).forceA = s.forceA := rfl
@[simp] theorem modHost_forceB (s : State) (h : Fin 4) (f : HostPort → HostPort) : (s.modHost h f).forceB = s.forceB := rfl
@[simp] theorem modHost_links (s : State) (h : Fin 4) (f : HostPort → HostPort) : (s.modHost h f).links = s.links := rfl
@[simp] theorem modHost_cgs (s : State) (h : Fin 4) (f : HostPort → HostPort) : (s.modHost h f).cgs = s.cgs := rfl
@[simp] theorem modHost_trx (s : State) (h : Fin 4) (f : HostPort → HostPort) : (s.modHost h f).trx = s.trx := rfl
@[simp] theorem modHost_ctx (s : State) (h : Fin 4) (f : HostPort → HostPort) : (s.modHost h f).ctx = s.ctx := rfl
@[simp] theorem modHost_tb (s : State) (h : Fin 4) (f : HostPort → HostPort) : (s.modHost h f).tb = s.tb := rfl
@[simp] theorem modHost_traceReads (s : State) (h : Fin 4) (f : HostPort → HostPort) : (s.modHost h f).traceReads = s.traceReads := rfl
@[simp] theorem modHost_dcl (s : State) (h : Fin 4) (f : HostPort → HostPort) : (s.modHost h f).dcl = s.dcl := rfl
@[simp] theorem modHost_ptg (s : State) (h : Fin 4) (f : HostPort → HostPort) : (s.modHost h f).ptg = s.ptg := rfl
@[simp] theorem modHost_adc (s : State) (h : Fin 4) (f : HostPort → HostPort) : (s.modHost h f).adc = s.adc := rfl
@[simp] theorem modHost_pos (s : State) (h : Fin 4) (f : HostPort → HostPort) : (s.modHost h f).pos = s.pos := rfl
@[simp] theorem modHost_prb (s : State) (h : Fin 4) (f : HostPort → HostPort) : (s.modHost h f).prb = s.prb := rfl
@[simp] theorem modHost_chg (s : State) (h : Fin 4) (f : HostPort → HostPort) : (s.modHost h f).chg = s.chg := rfl
@[simp] theorem modHost_aux (s : State) (h : Fin 4) (f : HostPort → HostPort) : (s.modHost h f).aux = s.aux := rfl
@[simp] theorem modHost_amc (s : State) (h : Fin 4) (f : HostPort → HostPort) : (s.modHost h f).amc = s.amc := rfl
@[simp] theorem modHost_rpk (s : State) (h : Fin 4) (f : HostPort → HostPort) : (s.modHost h f).rpk = s.rpk := rfl
@[simp] theorem modHost_hpn (s : State) (h : Fin 4) (f : HostPort → HostPort) : (s.modHost h f).hpn = s.hpn := rfl
@[simp] theorem modHost_sec (s : State) (h : Fin 4) (f : HostPort → HostPort) : (s.modHost h f).sec = s.sec := rfl
@[simp] theorem modHost_upd (s : State) (h : Fin 4) (f : HostPort → HostPort) : (s.modHost h f).upd = s.upd := rfl
@[simp] theorem modHost_thm (s : State) (h : Fin 4) (f : HostPort → HostPort) : (s.modHost h f).thm = s.thm := rfl
@[simp] theorem modHost_bst (s : State) (h : Fin 4) (f : HostPort → HostPort) : (s.modHost h f).bst = s.bst := rfl
@[simp] theorem modHost_patina (s : State) (h : Fin 4) (f : HostPort → HostPort) : (s.modHost h f).patina = s.patina := rfl
@[simp] theorem modHost_pwr (s : State) (h : Fin 4) (f : HostPort → HostPort) : (s.modHost h f).pwr = s.pwr := rfl
@[simp] theorem modHost_net (s : State) (h : Fin 4) (f : HostPort → HostPort) : (s.modHost h f).net = s.net := rfl
@[simp] theorem modSlot_axt (s : State) (h : Fin 4) (k : Fin 8) (f : Slot → Slot) : (s.modSlot h k f).axt = s.axt := rfl
@[simp] theorem modSlot_follow (s : State) (h : Fin 4) (k : Fin 8) (f : Slot → Slot) : (s.modSlot h k f).follow = s.follow := rfl
@[simp] theorem modSlot_xing (s : State) (h : Fin 4) (k : Fin 8) (f : Slot → Slot) : (s.modSlot h k f).xing = s.xing := rfl
@[simp] theorem modSlot_pending (s : State) (h : Fin 4) (k : Fin 8) (f : Slot → Slot) : (s.modSlot h k f).pending = s.pending := rfl
@[simp] theorem modSlot_objs (s : State) (h : Fin 4) (k : Fin 8) (f : Slot → Slot) : (s.modSlot h k f).objs = s.objs := rfl
@[simp] theorem modSlot_flash (s : State) (h : Fin 4) (k : Fin 8) (f : Slot → Slot) : (s.modSlot h k f).flash = s.flash := rfl
@[simp] theorem modSlot_dirty (s : State) (h : Fin 4) (k : Fin 8) (f : Slot → Slot) : (s.modSlot h k f).dirty = s.dirty := rfl
@[simp] theorem modSlot_free (s : State) (h : Fin 4) (k : Fin 8) (f : Slot → Slot) : (s.modSlot h k f).free = s.free := rfl
@[simp] theorem modSlot_evLast (s : State) (h : Fin 4) (k : Fin 8) (f : Slot → Slot) : (s.modSlot h k f).evLast = s.evLast := rfl
@[simp] theorem modSlot_sent (s : State) (h : Fin 4) (k : Fin 8) (f : Slot → Slot) : (s.modSlot h k f).sent = s.sent := rfl
@[simp] theorem modSlot_clk (s : State) (h : Fin 4) (k : Fin 8) (f : Slot → Slot) : (s.modSlot h k f).clk = s.clk := rfl
@[simp] theorem modSlot_hosts (s : State) (h : Fin 4) (k : Fin 8) (f : Slot → Slot) : (s.modSlot h k f).hosts = s.hosts.set h { s.hosts[h] with slots := (s.hosts[h]).slots.set k (f (s.hosts[h]).slots[k]) } := rfl
@[simp] theorem modSlot_disp (s : State) (h : Fin 4) (k : Fin 8) (f : Slot → Slot) : (s.modSlot h k f).disp = s.disp := rfl
@[simp] theorem modSlot_later (s : State) (h : Fin 4) (k : Fin 8) (f : Slot → Slot) : (s.modSlot h k f).later = s.later := rfl
@[simp] theorem modSlot_xmem (s : State) (h : Fin 4) (k : Fin 8) (f : Slot → Slot) : (s.modSlot h k f).xmem = s.xmem := rfl
@[simp] theorem modSlot_forceA (s : State) (h : Fin 4) (k : Fin 8) (f : Slot → Slot) : (s.modSlot h k f).forceA = s.forceA := rfl
@[simp] theorem modSlot_forceB (s : State) (h : Fin 4) (k : Fin 8) (f : Slot → Slot) : (s.modSlot h k f).forceB = s.forceB := rfl
@[simp] theorem modSlot_links (s : State) (h : Fin 4) (k : Fin 8) (f : Slot → Slot) : (s.modSlot h k f).links = s.links := rfl
@[simp] theorem modSlot_cgs (s : State) (h : Fin 4) (k : Fin 8) (f : Slot → Slot) : (s.modSlot h k f).cgs = s.cgs := rfl
@[simp] theorem modSlot_trx (s : State) (h : Fin 4) (k : Fin 8) (f : Slot → Slot) : (s.modSlot h k f).trx = s.trx := rfl
@[simp] theorem modSlot_ctx (s : State) (h : Fin 4) (k : Fin 8) (f : Slot → Slot) : (s.modSlot h k f).ctx = s.ctx := rfl
@[simp] theorem modSlot_tb (s : State) (h : Fin 4) (k : Fin 8) (f : Slot → Slot) : (s.modSlot h k f).tb = s.tb := rfl
@[simp] theorem modSlot_traceReads (s : State) (h : Fin 4) (k : Fin 8) (f : Slot → Slot) : (s.modSlot h k f).traceReads = s.traceReads := rfl
@[simp] theorem modSlot_dcl (s : State) (h : Fin 4) (k : Fin 8) (f : Slot → Slot) : (s.modSlot h k f).dcl = s.dcl := rfl
@[simp] theorem modSlot_ptg (s : State) (h : Fin 4) (k : Fin 8) (f : Slot → Slot) : (s.modSlot h k f).ptg = s.ptg := rfl
@[simp] theorem modSlot_adc (s : State) (h : Fin 4) (k : Fin 8) (f : Slot → Slot) : (s.modSlot h k f).adc = s.adc := rfl
@[simp] theorem modSlot_pos (s : State) (h : Fin 4) (k : Fin 8) (f : Slot → Slot) : (s.modSlot h k f).pos = s.pos := rfl
@[simp] theorem modSlot_prb (s : State) (h : Fin 4) (k : Fin 8) (f : Slot → Slot) : (s.modSlot h k f).prb = s.prb := rfl
@[simp] theorem modSlot_chg (s : State) (h : Fin 4) (k : Fin 8) (f : Slot → Slot) : (s.modSlot h k f).chg = s.chg := rfl
@[simp] theorem modSlot_aux (s : State) (h : Fin 4) (k : Fin 8) (f : Slot → Slot) : (s.modSlot h k f).aux = s.aux := rfl
@[simp] theorem modSlot_amc (s : State) (h : Fin 4) (k : Fin 8) (f : Slot → Slot) : (s.modSlot h k f).amc = s.amc := rfl
@[simp] theorem modSlot_rpk (s : State) (h : Fin 4) (k : Fin 8) (f : Slot → Slot) : (s.modSlot h k f).rpk = s.rpk := rfl
@[simp] theorem modSlot_hpn (s : State) (h : Fin 4) (k : Fin 8) (f : Slot → Slot) : (s.modSlot h k f).hpn = s.hpn := rfl
@[simp] theorem modSlot_sec (s : State) (h : Fin 4) (k : Fin 8) (f : Slot → Slot) : (s.modSlot h k f).sec = s.sec := rfl
@[simp] theorem modSlot_upd (s : State) (h : Fin 4) (k : Fin 8) (f : Slot → Slot) : (s.modSlot h k f).upd = s.upd := rfl
@[simp] theorem modSlot_thm (s : State) (h : Fin 4) (k : Fin 8) (f : Slot → Slot) : (s.modSlot h k f).thm = s.thm := rfl
@[simp] theorem modSlot_bst (s : State) (h : Fin 4) (k : Fin 8) (f : Slot → Slot) : (s.modSlot h k f).bst = s.bst := rfl
@[simp] theorem modSlot_patina (s : State) (h : Fin 4) (k : Fin 8) (f : Slot → Slot) : (s.modSlot h k f).patina = s.patina := rfl
@[simp] theorem modSlot_pwr (s : State) (h : Fin 4) (k : Fin 8) (f : Slot → Slot) : (s.modSlot h k f).pwr = s.pwr := rfl
@[simp] theorem modSlot_net (s : State) (h : Fin 4) (k : Fin 8) (f : Slot → Slot) : (s.modSlot h k f).net = s.net := rfl
@[simp] theorem modDisp_axt (s : State) (f : Disp → Disp) : (s.modDisp f).axt = s.axt := rfl
@[simp] theorem modDisp_follow (s : State) (f : Disp → Disp) : (s.modDisp f).follow = s.follow := rfl
@[simp] theorem modDisp_xing (s : State) (f : Disp → Disp) : (s.modDisp f).xing = s.xing := rfl
@[simp] theorem modDisp_pending (s : State) (f : Disp → Disp) : (s.modDisp f).pending = s.pending := rfl
@[simp] theorem modDisp_objs (s : State) (f : Disp → Disp) : (s.modDisp f).objs = s.objs := rfl
@[simp] theorem modDisp_flash (s : State) (f : Disp → Disp) : (s.modDisp f).flash = s.flash := rfl
@[simp] theorem modDisp_dirty (s : State) (f : Disp → Disp) : (s.modDisp f).dirty = s.dirty := rfl
@[simp] theorem modDisp_free (s : State) (f : Disp → Disp) : (s.modDisp f).free = s.free := rfl
@[simp] theorem modDisp_evLast (s : State) (f : Disp → Disp) : (s.modDisp f).evLast = s.evLast := rfl
@[simp] theorem modDisp_sent (s : State) (f : Disp → Disp) : (s.modDisp f).sent = s.sent := rfl
@[simp] theorem modDisp_clk (s : State) (f : Disp → Disp) : (s.modDisp f).clk = s.clk := rfl
@[simp] theorem modDisp_hosts (s : State) (f : Disp → Disp) : (s.modDisp f).hosts = s.hosts := rfl
@[simp] theorem modDisp_disp (s : State) (f : Disp → Disp) : (s.modDisp f).disp = f s.disp := rfl
@[simp] theorem modDisp_later (s : State) (f : Disp → Disp) : (s.modDisp f).later = s.later := rfl
@[simp] theorem modDisp_xmem (s : State) (f : Disp → Disp) : (s.modDisp f).xmem = s.xmem := rfl
@[simp] theorem modDisp_forceA (s : State) (f : Disp → Disp) : (s.modDisp f).forceA = s.forceA := rfl
@[simp] theorem modDisp_forceB (s : State) (f : Disp → Disp) : (s.modDisp f).forceB = s.forceB := rfl
@[simp] theorem modDisp_links (s : State) (f : Disp → Disp) : (s.modDisp f).links = s.links := rfl
@[simp] theorem modDisp_cgs (s : State) (f : Disp → Disp) : (s.modDisp f).cgs = s.cgs := rfl
@[simp] theorem modDisp_trx (s : State) (f : Disp → Disp) : (s.modDisp f).trx = s.trx := rfl
@[simp] theorem modDisp_ctx (s : State) (f : Disp → Disp) : (s.modDisp f).ctx = s.ctx := rfl
@[simp] theorem modDisp_tb (s : State) (f : Disp → Disp) : (s.modDisp f).tb = s.tb := rfl
@[simp] theorem modDisp_traceReads (s : State) (f : Disp → Disp) : (s.modDisp f).traceReads = s.traceReads := rfl
@[simp] theorem modDisp_dcl (s : State) (f : Disp → Disp) : (s.modDisp f).dcl = s.dcl := rfl
@[simp] theorem modDisp_ptg (s : State) (f : Disp → Disp) : (s.modDisp f).ptg = s.ptg := rfl
@[simp] theorem modDisp_adc (s : State) (f : Disp → Disp) : (s.modDisp f).adc = s.adc := rfl
@[simp] theorem modDisp_pos (s : State) (f : Disp → Disp) : (s.modDisp f).pos = s.pos := rfl
@[simp] theorem modDisp_prb (s : State) (f : Disp → Disp) : (s.modDisp f).prb = s.prb := rfl
@[simp] theorem modDisp_chg (s : State) (f : Disp → Disp) : (s.modDisp f).chg = s.chg := rfl
@[simp] theorem modDisp_aux (s : State) (f : Disp → Disp) : (s.modDisp f).aux = s.aux := rfl
@[simp] theorem modDisp_amc (s : State) (f : Disp → Disp) : (s.modDisp f).amc = s.amc := rfl
@[simp] theorem modDisp_rpk (s : State) (f : Disp → Disp) : (s.modDisp f).rpk = s.rpk := rfl
@[simp] theorem modDisp_hpn (s : State) (f : Disp → Disp) : (s.modDisp f).hpn = s.hpn := rfl
@[simp] theorem modDisp_sec (s : State) (f : Disp → Disp) : (s.modDisp f).sec = s.sec := rfl
@[simp] theorem modDisp_upd (s : State) (f : Disp → Disp) : (s.modDisp f).upd = s.upd := rfl
@[simp] theorem modDisp_thm (s : State) (f : Disp → Disp) : (s.modDisp f).thm = s.thm := rfl
@[simp] theorem modDisp_bst (s : State) (f : Disp → Disp) : (s.modDisp f).bst = s.bst := rfl
@[simp] theorem modDisp_patina (s : State) (f : Disp → Disp) : (s.modDisp f).patina = s.patina := rfl
@[simp] theorem modDisp_pwr (s : State) (f : Disp → Disp) : (s.modDisp f).pwr = s.pwr := rfl
@[simp] theorem modDisp_net (s : State) (f : Disp → Disp) : (s.modDisp f).net = s.net := rfl
@[simp] theorem popCmd_axt (s : State) : s.popCmd.axt = s.axt := rfl
@[simp] theorem popCmd_follow (s : State) : s.popCmd.follow = s.follow := rfl
@[simp] theorem popCmd_xing (s : State) : s.popCmd.xing = s.xing := rfl
@[simp] theorem popCmd_pending (s : State) : s.popCmd.pending = s.pending := rfl
@[simp] theorem popCmd_objs (s : State) : s.popCmd.objs = s.objs := rfl
@[simp] theorem popCmd_flash (s : State) : s.popCmd.flash = s.flash := rfl
@[simp] theorem popCmd_dirty (s : State) : s.popCmd.dirty = s.dirty := rfl
@[simp] theorem popCmd_free (s : State) : s.popCmd.free = s.free := rfl
@[simp] theorem popCmd_evLast (s : State) : s.popCmd.evLast = s.evLast := rfl
@[simp] theorem popCmd_sent (s : State) : s.popCmd.sent = s.sent := rfl
@[simp] theorem popCmd_clk (s : State) : s.popCmd.clk = s.clk := rfl
@[simp] theorem popCmd_hosts (s : State) : s.popCmd.hosts = s.hosts := rfl
@[simp] theorem popCmd_disp (s : State) : s.popCmd.disp = { s.disp with accepted := s.nextCmd.elim s.disp.accepted s.disp.accepted.erase } := rfl
@[simp] theorem popCmd_later (s : State) : s.popCmd.later = s.later := rfl
@[simp] theorem popCmd_xmem (s : State) : s.popCmd.xmem = s.xmem := rfl
@[simp] theorem popCmd_forceA (s : State) : s.popCmd.forceA = s.forceA := rfl
@[simp] theorem popCmd_forceB (s : State) : s.popCmd.forceB = s.forceB := rfl
@[simp] theorem popCmd_links (s : State) : s.popCmd.links = s.links := rfl
@[simp] theorem popCmd_cgs (s : State) : s.popCmd.cgs = s.cgs := rfl
@[simp] theorem popCmd_trx (s : State) : s.popCmd.trx = s.trx := rfl
@[simp] theorem popCmd_ctx (s : State) : s.popCmd.ctx = s.ctx := rfl
@[simp] theorem popCmd_tb (s : State) : s.popCmd.tb = s.tb := rfl
@[simp] theorem popCmd_traceReads (s : State) : s.popCmd.traceReads = s.traceReads := rfl
@[simp] theorem popCmd_dcl (s : State) : s.popCmd.dcl = s.dcl := rfl
@[simp] theorem popCmd_ptg (s : State) : s.popCmd.ptg = s.ptg := rfl
@[simp] theorem popCmd_adc (s : State) : s.popCmd.adc = s.adc := rfl
@[simp] theorem popCmd_pos (s : State) : s.popCmd.pos = s.pos := rfl
@[simp] theorem popCmd_prb (s : State) : s.popCmd.prb = s.prb := rfl
@[simp] theorem popCmd_chg (s : State) : s.popCmd.chg = s.chg := rfl
@[simp] theorem popCmd_aux (s : State) : s.popCmd.aux = s.aux := rfl
@[simp] theorem popCmd_amc (s : State) : s.popCmd.amc = s.amc := rfl
@[simp] theorem popCmd_rpk (s : State) : s.popCmd.rpk = s.rpk := rfl
@[simp] theorem popCmd_hpn (s : State) : s.popCmd.hpn = s.hpn := rfl
@[simp] theorem popCmd_sec (s : State) : s.popCmd.sec = s.sec := rfl
@[simp] theorem popCmd_upd (s : State) : s.popCmd.upd = s.upd := rfl
@[simp] theorem popCmd_thm (s : State) : s.popCmd.thm = s.thm := rfl
@[simp] theorem popCmd_bst (s : State) : s.popCmd.bst = s.bst := rfl
@[simp] theorem popCmd_patina (s : State) : s.popCmd.patina = s.patina := rfl
@[simp] theorem popCmd_pwr (s : State) : s.popCmd.pwr = s.pwr := rfl
@[simp] theorem popCmd_net (s : State) : s.popCmd.net = s.net := rfl
@[simp] theorem modClk_axt (s : State) (f : Clk → Clk) : (s.modClk f).axt = s.axt := rfl
@[simp] theorem modClk_follow (s : State) (f : Clk → Clk) : (s.modClk f).follow = s.follow := rfl
@[simp] theorem modClk_xing (s : State) (f : Clk → Clk) : (s.modClk f).xing = s.xing := rfl
@[simp] theorem modClk_pending (s : State) (f : Clk → Clk) : (s.modClk f).pending = s.pending := rfl
@[simp] theorem modClk_objs (s : State) (f : Clk → Clk) : (s.modClk f).objs = s.objs := rfl
@[simp] theorem modClk_flash (s : State) (f : Clk → Clk) : (s.modClk f).flash = s.flash := rfl
@[simp] theorem modClk_dirty (s : State) (f : Clk → Clk) : (s.modClk f).dirty = s.dirty := rfl
@[simp] theorem modClk_free (s : State) (f : Clk → Clk) : (s.modClk f).free = s.free := rfl
@[simp] theorem modClk_evLast (s : State) (f : Clk → Clk) : (s.modClk f).evLast = s.evLast := rfl
@[simp] theorem modClk_sent (s : State) (f : Clk → Clk) : (s.modClk f).sent = s.sent := rfl
@[simp] theorem modClk_clk (s : State) (f : Clk → Clk) : (s.modClk f).clk = f s.clk := rfl
@[simp] theorem modClk_hosts (s : State) (f : Clk → Clk) : (s.modClk f).hosts = s.hosts := rfl
@[simp] theorem modClk_disp (s : State) (f : Clk → Clk) : (s.modClk f).disp = s.disp := rfl
@[simp] theorem modClk_later (s : State) (f : Clk → Clk) : (s.modClk f).later = s.later := rfl
@[simp] theorem modClk_xmem (s : State) (f : Clk → Clk) : (s.modClk f).xmem = s.xmem := rfl
@[simp] theorem modClk_forceA (s : State) (f : Clk → Clk) : (s.modClk f).forceA = s.forceA := rfl
@[simp] theorem modClk_forceB (s : State) (f : Clk → Clk) : (s.modClk f).forceB = s.forceB := rfl
@[simp] theorem modClk_links (s : State) (f : Clk → Clk) : (s.modClk f).links = s.links := rfl
@[simp] theorem modClk_cgs (s : State) (f : Clk → Clk) : (s.modClk f).cgs = s.cgs := rfl
@[simp] theorem modClk_trx (s : State) (f : Clk → Clk) : (s.modClk f).trx = s.trx := rfl
@[simp] theorem modClk_ctx (s : State) (f : Clk → Clk) : (s.modClk f).ctx = s.ctx := rfl
@[simp] theorem modClk_tb (s : State) (f : Clk → Clk) : (s.modClk f).tb = s.tb := rfl
@[simp] theorem modClk_traceReads (s : State) (f : Clk → Clk) : (s.modClk f).traceReads = s.traceReads := rfl
@[simp] theorem modClk_dcl (s : State) (f : Clk → Clk) : (s.modClk f).dcl = s.dcl := rfl
@[simp] theorem modClk_ptg (s : State) (f : Clk → Clk) : (s.modClk f).ptg = s.ptg := rfl
@[simp] theorem modClk_adc (s : State) (f : Clk → Clk) : (s.modClk f).adc = s.adc := rfl
@[simp] theorem modClk_pos (s : State) (f : Clk → Clk) : (s.modClk f).pos = s.pos := rfl
@[simp] theorem modClk_prb (s : State) (f : Clk → Clk) : (s.modClk f).prb = s.prb := rfl
@[simp] theorem modClk_chg (s : State) (f : Clk → Clk) : (s.modClk f).chg = s.chg := rfl
@[simp] theorem modClk_aux (s : State) (f : Clk → Clk) : (s.modClk f).aux = s.aux := rfl
@[simp] theorem modClk_amc (s : State) (f : Clk → Clk) : (s.modClk f).amc = s.amc := rfl
@[simp] theorem modClk_rpk (s : State) (f : Clk → Clk) : (s.modClk f).rpk = s.rpk := rfl
@[simp] theorem modClk_hpn (s : State) (f : Clk → Clk) : (s.modClk f).hpn = s.hpn := rfl
@[simp] theorem modClk_sec (s : State) (f : Clk → Clk) : (s.modClk f).sec = s.sec := rfl
@[simp] theorem modClk_upd (s : State) (f : Clk → Clk) : (s.modClk f).upd = s.upd := rfl
@[simp] theorem modClk_thm (s : State) (f : Clk → Clk) : (s.modClk f).thm = s.thm := rfl
@[simp] theorem modClk_bst (s : State) (f : Clk → Clk) : (s.modClk f).bst = s.bst := rfl
@[simp] theorem modClk_patina (s : State) (f : Clk → Clk) : (s.modClk f).patina = s.patina := rfl
@[simp] theorem modClk_pwr (s : State) (f : Clk → Clk) : (s.modClk f).pwr = s.pwr := rfl
@[simp] theorem modClk_net (s : State) (f : Clk → Clk) : (s.modClk f).net = s.net := rfl
@[simp] theorem modLink_axt (s : State) (l : Fin 40) (f : Link → Link) : (s.modLink l f).axt = s.axt := rfl
@[simp] theorem modLink_follow (s : State) (l : Fin 40) (f : Link → Link) : (s.modLink l f).follow = s.follow := rfl
@[simp] theorem modLink_xing (s : State) (l : Fin 40) (f : Link → Link) : (s.modLink l f).xing = s.xing := rfl
@[simp] theorem modLink_pending (s : State) (l : Fin 40) (f : Link → Link) : (s.modLink l f).pending = s.pending := rfl
@[simp] theorem modLink_objs (s : State) (l : Fin 40) (f : Link → Link) : (s.modLink l f).objs = s.objs := rfl
@[simp] theorem modLink_flash (s : State) (l : Fin 40) (f : Link → Link) : (s.modLink l f).flash = s.flash := rfl
@[simp] theorem modLink_dirty (s : State) (l : Fin 40) (f : Link → Link) : (s.modLink l f).dirty = s.dirty := rfl
@[simp] theorem modLink_free (s : State) (l : Fin 40) (f : Link → Link) : (s.modLink l f).free = s.free := rfl
@[simp] theorem modLink_evLast (s : State) (l : Fin 40) (f : Link → Link) : (s.modLink l f).evLast = s.evLast := rfl
@[simp] theorem modLink_sent (s : State) (l : Fin 40) (f : Link → Link) : (s.modLink l f).sent = s.sent := rfl
@[simp] theorem modLink_clk (s : State) (l : Fin 40) (f : Link → Link) : (s.modLink l f).clk = s.clk := rfl
@[simp] theorem modLink_hosts (s : State) (l : Fin 40) (f : Link → Link) : (s.modLink l f).hosts = s.hosts := rfl
@[simp] theorem modLink_disp (s : State) (l : Fin 40) (f : Link → Link) : (s.modLink l f).disp = s.disp := rfl
@[simp] theorem modLink_later (s : State) (l : Fin 40) (f : Link → Link) : (s.modLink l f).later = s.later := rfl
@[simp] theorem modLink_xmem (s : State) (l : Fin 40) (f : Link → Link) : (s.modLink l f).xmem = s.xmem := rfl
@[simp] theorem modLink_forceA (s : State) (l : Fin 40) (f : Link → Link) : (s.modLink l f).forceA = s.forceA := rfl
@[simp] theorem modLink_forceB (s : State) (l : Fin 40) (f : Link → Link) : (s.modLink l f).forceB = s.forceB := rfl
@[simp] theorem modLink_links (s : State) (l : Fin 40) (f : Link → Link) : (s.modLink l f).links = s.links.set l (f s.links[l]) := rfl
@[simp] theorem modLink_cgs (s : State) (l : Fin 40) (f : Link → Link) : (s.modLink l f).cgs = s.cgs := rfl
@[simp] theorem modLink_trx (s : State) (l : Fin 40) (f : Link → Link) : (s.modLink l f).trx = s.trx := rfl
@[simp] theorem modLink_ctx (s : State) (l : Fin 40) (f : Link → Link) : (s.modLink l f).ctx = s.ctx := rfl
@[simp] theorem modLink_tb (s : State) (l : Fin 40) (f : Link → Link) : (s.modLink l f).tb = s.tb := rfl
@[simp] theorem modLink_traceReads (s : State) (l : Fin 40) (f : Link → Link) : (s.modLink l f).traceReads = s.traceReads := rfl
@[simp] theorem modLink_dcl (s : State) (l : Fin 40) (f : Link → Link) : (s.modLink l f).dcl = s.dcl := rfl
@[simp] theorem modLink_ptg (s : State) (l : Fin 40) (f : Link → Link) : (s.modLink l f).ptg = s.ptg := rfl
@[simp] theorem modLink_adc (s : State) (l : Fin 40) (f : Link → Link) : (s.modLink l f).adc = s.adc := rfl
@[simp] theorem modLink_pos (s : State) (l : Fin 40) (f : Link → Link) : (s.modLink l f).pos = s.pos := rfl
@[simp] theorem modLink_prb (s : State) (l : Fin 40) (f : Link → Link) : (s.modLink l f).prb = s.prb := rfl
@[simp] theorem modLink_chg (s : State) (l : Fin 40) (f : Link → Link) : (s.modLink l f).chg = s.chg := rfl
@[simp] theorem modLink_aux (s : State) (l : Fin 40) (f : Link → Link) : (s.modLink l f).aux = s.aux := rfl
@[simp] theorem modLink_amc (s : State) (l : Fin 40) (f : Link → Link) : (s.modLink l f).amc = s.amc := rfl
@[simp] theorem modLink_rpk (s : State) (l : Fin 40) (f : Link → Link) : (s.modLink l f).rpk = s.rpk := rfl
@[simp] theorem modLink_hpn (s : State) (l : Fin 40) (f : Link → Link) : (s.modLink l f).hpn = s.hpn := rfl
@[simp] theorem modLink_sec (s : State) (l : Fin 40) (f : Link → Link) : (s.modLink l f).sec = s.sec := rfl
@[simp] theorem modLink_upd (s : State) (l : Fin 40) (f : Link → Link) : (s.modLink l f).upd = s.upd := rfl
@[simp] theorem modLink_thm (s : State) (l : Fin 40) (f : Link → Link) : (s.modLink l f).thm = s.thm := rfl
@[simp] theorem modLink_bst (s : State) (l : Fin 40) (f : Link → Link) : (s.modLink l f).bst = s.bst := rfl
@[simp] theorem modLink_patina (s : State) (l : Fin 40) (f : Link → Link) : (s.modLink l f).patina = s.patina := rfl
@[simp] theorem modLink_pwr (s : State) (l : Fin 40) (f : Link → Link) : (s.modLink l f).pwr = s.pwr := rfl
@[simp] theorem modLink_net (s : State) (l : Fin 40) (f : Link → Link) : (s.modLink l f).net = s.net := rfl
@[simp] theorem modCg_axt (s : State) (g : Fin 8) (f : Carrier → Carrier) : (s.modCg g f).axt = s.axt := rfl
@[simp] theorem modCg_follow (s : State) (g : Fin 8) (f : Carrier → Carrier) : (s.modCg g f).follow = s.follow := rfl
@[simp] theorem modCg_xing (s : State) (g : Fin 8) (f : Carrier → Carrier) : (s.modCg g f).xing = s.xing := rfl
@[simp] theorem modCg_pending (s : State) (g : Fin 8) (f : Carrier → Carrier) : (s.modCg g f).pending = s.pending := rfl
@[simp] theorem modCg_objs (s : State) (g : Fin 8) (f : Carrier → Carrier) : (s.modCg g f).objs = s.objs := rfl
@[simp] theorem modCg_flash (s : State) (g : Fin 8) (f : Carrier → Carrier) : (s.modCg g f).flash = s.flash := rfl
@[simp] theorem modCg_dirty (s : State) (g : Fin 8) (f : Carrier → Carrier) : (s.modCg g f).dirty = s.dirty := rfl
@[simp] theorem modCg_free (s : State) (g : Fin 8) (f : Carrier → Carrier) : (s.modCg g f).free = s.free := rfl
@[simp] theorem modCg_evLast (s : State) (g : Fin 8) (f : Carrier → Carrier) : (s.modCg g f).evLast = s.evLast := rfl
@[simp] theorem modCg_sent (s : State) (g : Fin 8) (f : Carrier → Carrier) : (s.modCg g f).sent = s.sent := rfl
@[simp] theorem modCg_clk (s : State) (g : Fin 8) (f : Carrier → Carrier) : (s.modCg g f).clk = s.clk := rfl
@[simp] theorem modCg_hosts (s : State) (g : Fin 8) (f : Carrier → Carrier) : (s.modCg g f).hosts = s.hosts := rfl
@[simp] theorem modCg_disp (s : State) (g : Fin 8) (f : Carrier → Carrier) : (s.modCg g f).disp = s.disp := rfl
@[simp] theorem modCg_later (s : State) (g : Fin 8) (f : Carrier → Carrier) : (s.modCg g f).later = s.later := rfl
@[simp] theorem modCg_xmem (s : State) (g : Fin 8) (f : Carrier → Carrier) : (s.modCg g f).xmem = s.xmem := rfl
@[simp] theorem modCg_forceA (s : State) (g : Fin 8) (f : Carrier → Carrier) : (s.modCg g f).forceA = s.forceA := rfl
@[simp] theorem modCg_forceB (s : State) (g : Fin 8) (f : Carrier → Carrier) : (s.modCg g f).forceB = s.forceB := rfl
@[simp] theorem modCg_links (s : State) (g : Fin 8) (f : Carrier → Carrier) : (s.modCg g f).links = s.links := rfl
@[simp] theorem modCg_cgs (s : State) (g : Fin 8) (f : Carrier → Carrier) : (s.modCg g f).cgs = s.cgs.set g (f s.cgs[g]) := rfl
@[simp] theorem modCg_trx (s : State) (g : Fin 8) (f : Carrier → Carrier) : (s.modCg g f).trx = s.trx := rfl
@[simp] theorem modCg_ctx (s : State) (g : Fin 8) (f : Carrier → Carrier) : (s.modCg g f).ctx = s.ctx := rfl
@[simp] theorem modCg_tb (s : State) (g : Fin 8) (f : Carrier → Carrier) : (s.modCg g f).tb = s.tb := rfl
@[simp] theorem modCg_traceReads (s : State) (g : Fin 8) (f : Carrier → Carrier) : (s.modCg g f).traceReads = s.traceReads := rfl
@[simp] theorem modCg_dcl (s : State) (g : Fin 8) (f : Carrier → Carrier) : (s.modCg g f).dcl = s.dcl := rfl
@[simp] theorem modCg_ptg (s : State) (g : Fin 8) (f : Carrier → Carrier) : (s.modCg g f).ptg = s.ptg := rfl
@[simp] theorem modCg_adc (s : State) (g : Fin 8) (f : Carrier → Carrier) : (s.modCg g f).adc = s.adc := rfl
@[simp] theorem modCg_pos (s : State) (g : Fin 8) (f : Carrier → Carrier) : (s.modCg g f).pos = s.pos := rfl
@[simp] theorem modCg_prb (s : State) (g : Fin 8) (f : Carrier → Carrier) : (s.modCg g f).prb = s.prb := rfl
@[simp] theorem modCg_chg (s : State) (g : Fin 8) (f : Carrier → Carrier) : (s.modCg g f).chg = s.chg := rfl
@[simp] theorem modCg_aux (s : State) (g : Fin 8) (f : Carrier → Carrier) : (s.modCg g f).aux = s.aux := rfl
@[simp] theorem modCg_amc (s : State) (g : Fin 8) (f : Carrier → Carrier) : (s.modCg g f).amc = s.amc := rfl
@[simp] theorem modCg_rpk (s : State) (g : Fin 8) (f : Carrier → Carrier) : (s.modCg g f).rpk = s.rpk := rfl
@[simp] theorem modCg_hpn (s : State) (g : Fin 8) (f : Carrier → Carrier) : (s.modCg g f).hpn = s.hpn := rfl
@[simp] theorem modCg_sec (s : State) (g : Fin 8) (f : Carrier → Carrier) : (s.modCg g f).sec = s.sec := rfl
@[simp] theorem modCg_upd (s : State) (g : Fin 8) (f : Carrier → Carrier) : (s.modCg g f).upd = s.upd := rfl
@[simp] theorem modCg_thm (s : State) (g : Fin 8) (f : Carrier → Carrier) : (s.modCg g f).thm = s.thm := rfl
@[simp] theorem modCg_bst (s : State) (g : Fin 8) (f : Carrier → Carrier) : (s.modCg g f).bst = s.bst := rfl
@[simp] theorem modCg_patina (s : State) (g : Fin 8) (f : Carrier → Carrier) : (s.modCg g f).patina = s.patina := rfl
@[simp] theorem modCg_pwr (s : State) (g : Fin 8) (f : Carrier → Carrier) : (s.modCg g f).pwr = s.pwr := rfl
@[simp] theorem modCg_net (s : State) (g : Fin 8) (f : Carrier → Carrier) : (s.modCg g f).net = s.net := rfl
@[simp] theorem modTrx_axt (s : State) (m : Fin 4) (f : Trx → Trx) : (s.modTrx m f).axt = s.axt := rfl
@[simp] theorem modTrx_follow (s : State) (m : Fin 4) (f : Trx → Trx) : (s.modTrx m f).follow = s.follow := rfl
@[simp] theorem modTrx_xing (s : State) (m : Fin 4) (f : Trx → Trx) : (s.modTrx m f).xing = s.xing := rfl
@[simp] theorem modTrx_pending (s : State) (m : Fin 4) (f : Trx → Trx) : (s.modTrx m f).pending = s.pending := rfl
@[simp] theorem modTrx_objs (s : State) (m : Fin 4) (f : Trx → Trx) : (s.modTrx m f).objs = s.objs := rfl
@[simp] theorem modTrx_flash (s : State) (m : Fin 4) (f : Trx → Trx) : (s.modTrx m f).flash = s.flash := rfl
@[simp] theorem modTrx_dirty (s : State) (m : Fin 4) (f : Trx → Trx) : (s.modTrx m f).dirty = s.dirty := rfl
@[simp] theorem modTrx_free (s : State) (m : Fin 4) (f : Trx → Trx) : (s.modTrx m f).free = s.free := rfl
@[simp] theorem modTrx_evLast (s : State) (m : Fin 4) (f : Trx → Trx) : (s.modTrx m f).evLast = s.evLast := rfl
@[simp] theorem modTrx_sent (s : State) (m : Fin 4) (f : Trx → Trx) : (s.modTrx m f).sent = s.sent := rfl
@[simp] theorem modTrx_clk (s : State) (m : Fin 4) (f : Trx → Trx) : (s.modTrx m f).clk = s.clk := rfl
@[simp] theorem modTrx_hosts (s : State) (m : Fin 4) (f : Trx → Trx) : (s.modTrx m f).hosts = s.hosts := rfl
@[simp] theorem modTrx_disp (s : State) (m : Fin 4) (f : Trx → Trx) : (s.modTrx m f).disp = s.disp := rfl
@[simp] theorem modTrx_later (s : State) (m : Fin 4) (f : Trx → Trx) : (s.modTrx m f).later = s.later := rfl
@[simp] theorem modTrx_xmem (s : State) (m : Fin 4) (f : Trx → Trx) : (s.modTrx m f).xmem = s.xmem := rfl
@[simp] theorem modTrx_forceA (s : State) (m : Fin 4) (f : Trx → Trx) : (s.modTrx m f).forceA = s.forceA := rfl
@[simp] theorem modTrx_forceB (s : State) (m : Fin 4) (f : Trx → Trx) : (s.modTrx m f).forceB = s.forceB := rfl
@[simp] theorem modTrx_links (s : State) (m : Fin 4) (f : Trx → Trx) : (s.modTrx m f).links = s.links := rfl
@[simp] theorem modTrx_cgs (s : State) (m : Fin 4) (f : Trx → Trx) : (s.modTrx m f).cgs = s.cgs := rfl
@[simp] theorem modTrx_trx (s : State) (m : Fin 4) (f : Trx → Trx) : (s.modTrx m f).trx = s.trx.set m (f s.trx[m]) := rfl
@[simp] theorem modTrx_ctx (s : State) (m : Fin 4) (f : Trx → Trx) : (s.modTrx m f).ctx = s.ctx := rfl
@[simp] theorem modTrx_tb (s : State) (m : Fin 4) (f : Trx → Trx) : (s.modTrx m f).tb = s.tb := rfl
@[simp] theorem modTrx_traceReads (s : State) (m : Fin 4) (f : Trx → Trx) : (s.modTrx m f).traceReads = s.traceReads := rfl
@[simp] theorem modTrx_dcl (s : State) (m : Fin 4) (f : Trx → Trx) : (s.modTrx m f).dcl = s.dcl := rfl
@[simp] theorem modTrx_ptg (s : State) (m : Fin 4) (f : Trx → Trx) : (s.modTrx m f).ptg = s.ptg := rfl
@[simp] theorem modTrx_adc (s : State) (m : Fin 4) (f : Trx → Trx) : (s.modTrx m f).adc = s.adc := rfl
@[simp] theorem modTrx_pos (s : State) (m : Fin 4) (f : Trx → Trx) : (s.modTrx m f).pos = s.pos := rfl
@[simp] theorem modTrx_prb (s : State) (m : Fin 4) (f : Trx → Trx) : (s.modTrx m f).prb = s.prb := rfl
@[simp] theorem modTrx_chg (s : State) (m : Fin 4) (f : Trx → Trx) : (s.modTrx m f).chg = s.chg := rfl
@[simp] theorem modTrx_aux (s : State) (m : Fin 4) (f : Trx → Trx) : (s.modTrx m f).aux = s.aux := rfl
@[simp] theorem modTrx_amc (s : State) (m : Fin 4) (f : Trx → Trx) : (s.modTrx m f).amc = s.amc := rfl
@[simp] theorem modTrx_rpk (s : State) (m : Fin 4) (f : Trx → Trx) : (s.modTrx m f).rpk = s.rpk := rfl
@[simp] theorem modTrx_hpn (s : State) (m : Fin 4) (f : Trx → Trx) : (s.modTrx m f).hpn = s.hpn := rfl
@[simp] theorem modTrx_sec (s : State) (m : Fin 4) (f : Trx → Trx) : (s.modTrx m f).sec = s.sec := rfl
@[simp] theorem modTrx_upd (s : State) (m : Fin 4) (f : Trx → Trx) : (s.modTrx m f).upd = s.upd := rfl
@[simp] theorem modTrx_thm (s : State) (m : Fin 4) (f : Trx → Trx) : (s.modTrx m f).thm = s.thm := rfl
@[simp] theorem modTrx_bst (s : State) (m : Fin 4) (f : Trx → Trx) : (s.modTrx m f).bst = s.bst := rfl
@[simp] theorem modTrx_patina (s : State) (m : Fin 4) (f : Trx → Trx) : (s.modTrx m f).patina = s.patina := rfl
@[simp] theorem modTrx_pwr (s : State) (m : Fin 4) (f : Trx → Trx) : (s.modTrx m f).pwr = s.pwr := rfl
@[simp] theorem modTrx_net (s : State) (m : Fin 4) (f : Trx → Trx) : (s.modTrx m f).net = s.net := rfl
@[simp] theorem modSet_axt (s : State) (m : Fin 4) (k : Fin 2) (f : TrxSet → TrxSet) : (s.modSet m k f).axt = s.axt := rfl
@[simp] theorem modSet_follow (s : State) (m : Fin 4) (k : Fin 2) (f : TrxSet → TrxSet) : (s.modSet m k f).follow = s.follow := rfl
@[simp] theorem modSet_xing (s : State) (m : Fin 4) (k : Fin 2) (f : TrxSet → TrxSet) : (s.modSet m k f).xing = s.xing := rfl
@[simp] theorem modSet_pending (s : State) (m : Fin 4) (k : Fin 2) (f : TrxSet → TrxSet) : (s.modSet m k f).pending = s.pending := rfl
@[simp] theorem modSet_objs (s : State) (m : Fin 4) (k : Fin 2) (f : TrxSet → TrxSet) : (s.modSet m k f).objs = s.objs := rfl
@[simp] theorem modSet_flash (s : State) (m : Fin 4) (k : Fin 2) (f : TrxSet → TrxSet) : (s.modSet m k f).flash = s.flash := rfl
@[simp] theorem modSet_dirty (s : State) (m : Fin 4) (k : Fin 2) (f : TrxSet → TrxSet) : (s.modSet m k f).dirty = s.dirty := rfl
@[simp] theorem modSet_free (s : State) (m : Fin 4) (k : Fin 2) (f : TrxSet → TrxSet) : (s.modSet m k f).free = s.free := rfl
@[simp] theorem modSet_evLast (s : State) (m : Fin 4) (k : Fin 2) (f : TrxSet → TrxSet) : (s.modSet m k f).evLast = s.evLast := rfl
@[simp] theorem modSet_sent (s : State) (m : Fin 4) (k : Fin 2) (f : TrxSet → TrxSet) : (s.modSet m k f).sent = s.sent := rfl
@[simp] theorem modSet_clk (s : State) (m : Fin 4) (k : Fin 2) (f : TrxSet → TrxSet) : (s.modSet m k f).clk = s.clk := rfl
@[simp] theorem modSet_hosts (s : State) (m : Fin 4) (k : Fin 2) (f : TrxSet → TrxSet) : (s.modSet m k f).hosts = s.hosts := rfl
@[simp] theorem modSet_disp (s : State) (m : Fin 4) (k : Fin 2) (f : TrxSet → TrxSet) : (s.modSet m k f).disp = s.disp := rfl
@[simp] theorem modSet_later (s : State) (m : Fin 4) (k : Fin 2) (f : TrxSet → TrxSet) : (s.modSet m k f).later = s.later := rfl
@[simp] theorem modSet_xmem (s : State) (m : Fin 4) (k : Fin 2) (f : TrxSet → TrxSet) : (s.modSet m k f).xmem = s.xmem := rfl
@[simp] theorem modSet_forceA (s : State) (m : Fin 4) (k : Fin 2) (f : TrxSet → TrxSet) : (s.modSet m k f).forceA = s.forceA := rfl
@[simp] theorem modSet_forceB (s : State) (m : Fin 4) (k : Fin 2) (f : TrxSet → TrxSet) : (s.modSet m k f).forceB = s.forceB := rfl
@[simp] theorem modSet_links (s : State) (m : Fin 4) (k : Fin 2) (f : TrxSet → TrxSet) : (s.modSet m k f).links = s.links := rfl
@[simp] theorem modSet_cgs (s : State) (m : Fin 4) (k : Fin 2) (f : TrxSet → TrxSet) : (s.modSet m k f).cgs = s.cgs := rfl
@[simp] theorem modSet_trx (s : State) (m : Fin 4) (k : Fin 2) (f : TrxSet → TrxSet) : (s.modSet m k f).trx = s.trx.set m { s.trx[m] with sets := (s.trx[m]).sets.set k (f (s.trx[m]).sets[k]) } := rfl
@[simp] theorem modSet_ctx (s : State) (m : Fin 4) (k : Fin 2) (f : TrxSet → TrxSet) : (s.modSet m k f).ctx = s.ctx := rfl
@[simp] theorem modSet_tb (s : State) (m : Fin 4) (k : Fin 2) (f : TrxSet → TrxSet) : (s.modSet m k f).tb = s.tb := rfl
@[simp] theorem modSet_traceReads (s : State) (m : Fin 4) (k : Fin 2) (f : TrxSet → TrxSet) : (s.modSet m k f).traceReads = s.traceReads := rfl
@[simp] theorem modSet_dcl (s : State) (m : Fin 4) (k : Fin 2) (f : TrxSet → TrxSet) : (s.modSet m k f).dcl = s.dcl := rfl
@[simp] theorem modSet_ptg (s : State) (m : Fin 4) (k : Fin 2) (f : TrxSet → TrxSet) : (s.modSet m k f).ptg = s.ptg := rfl
@[simp] theorem modSet_adc (s : State) (m : Fin 4) (k : Fin 2) (f : TrxSet → TrxSet) : (s.modSet m k f).adc = s.adc := rfl
@[simp] theorem modSet_pos (s : State) (m : Fin 4) (k : Fin 2) (f : TrxSet → TrxSet) : (s.modSet m k f).pos = s.pos := rfl
@[simp] theorem modSet_prb (s : State) (m : Fin 4) (k : Fin 2) (f : TrxSet → TrxSet) : (s.modSet m k f).prb = s.prb := rfl
@[simp] theorem modSet_chg (s : State) (m : Fin 4) (k : Fin 2) (f : TrxSet → TrxSet) : (s.modSet m k f).chg = s.chg := rfl
@[simp] theorem modSet_aux (s : State) (m : Fin 4) (k : Fin 2) (f : TrxSet → TrxSet) : (s.modSet m k f).aux = s.aux := rfl
@[simp] theorem modSet_amc (s : State) (m : Fin 4) (k : Fin 2) (f : TrxSet → TrxSet) : (s.modSet m k f).amc = s.amc := rfl
@[simp] theorem modSet_rpk (s : State) (m : Fin 4) (k : Fin 2) (f : TrxSet → TrxSet) : (s.modSet m k f).rpk = s.rpk := rfl
@[simp] theorem modSet_hpn (s : State) (m : Fin 4) (k : Fin 2) (f : TrxSet → TrxSet) : (s.modSet m k f).hpn = s.hpn := rfl
@[simp] theorem modSet_sec (s : State) (m : Fin 4) (k : Fin 2) (f : TrxSet → TrxSet) : (s.modSet m k f).sec = s.sec := rfl
@[simp] theorem modSet_upd (s : State) (m : Fin 4) (k : Fin 2) (f : TrxSet → TrxSet) : (s.modSet m k f).upd = s.upd := rfl
@[simp] theorem modSet_thm (s : State) (m : Fin 4) (k : Fin 2) (f : TrxSet → TrxSet) : (s.modSet m k f).thm = s.thm := rfl
@[simp] theorem modSet_bst (s : State) (m : Fin 4) (k : Fin 2) (f : TrxSet → TrxSet) : (s.modSet m k f).bst = s.bst := rfl
@[simp] theorem modSet_patina (s : State) (m : Fin 4) (k : Fin 2) (f : TrxSet → TrxSet) : (s.modSet m k f).patina = s.patina := rfl
@[simp] theorem modSet_pwr (s : State) (m : Fin 4) (k : Fin 2) (f : TrxSet → TrxSet) : (s.modSet m k f).pwr = s.pwr := rfl
@[simp] theorem modSet_net (s : State) (m : Fin 4) (k : Fin 2) (f : TrxSet → TrxSet) : (s.modSet m k f).net = s.net := rfl
@[simp] theorem modCtx_axt (s : State) (c : Fin 64) (f : Ctx → Ctx) : (s.modCtx c f).axt = s.axt := rfl
@[simp] theorem modCtx_follow (s : State) (c : Fin 64) (f : Ctx → Ctx) : (s.modCtx c f).follow = s.follow := rfl
@[simp] theorem modCtx_xing (s : State) (c : Fin 64) (f : Ctx → Ctx) : (s.modCtx c f).xing = s.xing := rfl
@[simp] theorem modCtx_pending (s : State) (c : Fin 64) (f : Ctx → Ctx) : (s.modCtx c f).pending = s.pending := rfl
@[simp] theorem modCtx_objs (s : State) (c : Fin 64) (f : Ctx → Ctx) : (s.modCtx c f).objs = s.objs := rfl
@[simp] theorem modCtx_flash (s : State) (c : Fin 64) (f : Ctx → Ctx) : (s.modCtx c f).flash = s.flash := rfl
@[simp] theorem modCtx_dirty (s : State) (c : Fin 64) (f : Ctx → Ctx) : (s.modCtx c f).dirty = s.dirty := rfl
@[simp] theorem modCtx_free (s : State) (c : Fin 64) (f : Ctx → Ctx) : (s.modCtx c f).free = s.free := rfl
@[simp] theorem modCtx_evLast (s : State) (c : Fin 64) (f : Ctx → Ctx) : (s.modCtx c f).evLast = s.evLast := rfl
@[simp] theorem modCtx_sent (s : State) (c : Fin 64) (f : Ctx → Ctx) : (s.modCtx c f).sent = s.sent := rfl
@[simp] theorem modCtx_clk (s : State) (c : Fin 64) (f : Ctx → Ctx) : (s.modCtx c f).clk = s.clk := rfl
@[simp] theorem modCtx_hosts (s : State) (c : Fin 64) (f : Ctx → Ctx) : (s.modCtx c f).hosts = s.hosts := rfl
@[simp] theorem modCtx_disp (s : State) (c : Fin 64) (f : Ctx → Ctx) : (s.modCtx c f).disp = s.disp := rfl
@[simp] theorem modCtx_later (s : State) (c : Fin 64) (f : Ctx → Ctx) : (s.modCtx c f).later = s.later := rfl
@[simp] theorem modCtx_xmem (s : State) (c : Fin 64) (f : Ctx → Ctx) : (s.modCtx c f).xmem = s.xmem := rfl
@[simp] theorem modCtx_forceA (s : State) (c : Fin 64) (f : Ctx → Ctx) : (s.modCtx c f).forceA = s.forceA := rfl
@[simp] theorem modCtx_forceB (s : State) (c : Fin 64) (f : Ctx → Ctx) : (s.modCtx c f).forceB = s.forceB := rfl
@[simp] theorem modCtx_links (s : State) (c : Fin 64) (f : Ctx → Ctx) : (s.modCtx c f).links = s.links := rfl
@[simp] theorem modCtx_cgs (s : State) (c : Fin 64) (f : Ctx → Ctx) : (s.modCtx c f).cgs = s.cgs := rfl
@[simp] theorem modCtx_trx (s : State) (c : Fin 64) (f : Ctx → Ctx) : (s.modCtx c f).trx = s.trx := rfl
@[simp] theorem modCtx_ctx (s : State) (c : Fin 64) (f : Ctx → Ctx) : (s.modCtx c f).ctx = s.ctx.set c (f s.ctx[c]) := rfl
@[simp] theorem modCtx_tb (s : State) (c : Fin 64) (f : Ctx → Ctx) : (s.modCtx c f).tb = s.tb := rfl
@[simp] theorem modCtx_traceReads (s : State) (c : Fin 64) (f : Ctx → Ctx) : (s.modCtx c f).traceReads = s.traceReads := rfl
@[simp] theorem modCtx_dcl (s : State) (c : Fin 64) (f : Ctx → Ctx) : (s.modCtx c f).dcl = s.dcl := rfl
@[simp] theorem modCtx_ptg (s : State) (c : Fin 64) (f : Ctx → Ctx) : (s.modCtx c f).ptg = s.ptg := rfl
@[simp] theorem modCtx_adc (s : State) (c : Fin 64) (f : Ctx → Ctx) : (s.modCtx c f).adc = s.adc := rfl
@[simp] theorem modCtx_pos (s : State) (c : Fin 64) (f : Ctx → Ctx) : (s.modCtx c f).pos = s.pos := rfl
@[simp] theorem modCtx_prb (s : State) (c : Fin 64) (f : Ctx → Ctx) : (s.modCtx c f).prb = s.prb := rfl
@[simp] theorem modCtx_chg (s : State) (c : Fin 64) (f : Ctx → Ctx) : (s.modCtx c f).chg = s.chg := rfl
@[simp] theorem modCtx_aux (s : State) (c : Fin 64) (f : Ctx → Ctx) : (s.modCtx c f).aux = s.aux := rfl
@[simp] theorem modCtx_amc (s : State) (c : Fin 64) (f : Ctx → Ctx) : (s.modCtx c f).amc = s.amc := rfl
@[simp] theorem modCtx_rpk (s : State) (c : Fin 64) (f : Ctx → Ctx) : (s.modCtx c f).rpk = s.rpk := rfl
@[simp] theorem modCtx_hpn (s : State) (c : Fin 64) (f : Ctx → Ctx) : (s.modCtx c f).hpn = s.hpn := rfl
@[simp] theorem modCtx_sec (s : State) (c : Fin 64) (f : Ctx → Ctx) : (s.modCtx c f).sec = s.sec := rfl
@[simp] theorem modCtx_upd (s : State) (c : Fin 64) (f : Ctx → Ctx) : (s.modCtx c f).upd = s.upd := rfl
@[simp] theorem modCtx_thm (s : State) (c : Fin 64) (f : Ctx → Ctx) : (s.modCtx c f).thm = s.thm := rfl
@[simp] theorem modCtx_bst (s : State) (c : Fin 64) (f : Ctx → Ctx) : (s.modCtx c f).bst = s.bst := rfl
@[simp] theorem modCtx_patina (s : State) (c : Fin 64) (f : Ctx → Ctx) : (s.modCtx c f).patina = s.patina := rfl
@[simp] theorem modCtx_pwr (s : State) (c : Fin 64) (f : Ctx → Ctx) : (s.modCtx c f).pwr = s.pwr := rfl
@[simp] theorem modCtx_net (s : State) (c : Fin 64) (f : Ctx → Ctx) : (s.modCtx c f).net = s.net := rfl
@[simp] theorem modDcl_axt (s : State) (f : Dcl → Dcl) : (s.modDcl f).axt = s.axt := rfl
@[simp] theorem modDcl_follow (s : State) (f : Dcl → Dcl) : (s.modDcl f).follow = s.follow := rfl
@[simp] theorem modDcl_xing (s : State) (f : Dcl → Dcl) : (s.modDcl f).xing = s.xing := rfl
@[simp] theorem modDcl_pending (s : State) (f : Dcl → Dcl) : (s.modDcl f).pending = s.pending := rfl
@[simp] theorem modDcl_objs (s : State) (f : Dcl → Dcl) : (s.modDcl f).objs = s.objs := rfl
@[simp] theorem modDcl_flash (s : State) (f : Dcl → Dcl) : (s.modDcl f).flash = s.flash := rfl
@[simp] theorem modDcl_dirty (s : State) (f : Dcl → Dcl) : (s.modDcl f).dirty = s.dirty := rfl
@[simp] theorem modDcl_free (s : State) (f : Dcl → Dcl) : (s.modDcl f).free = s.free := rfl
@[simp] theorem modDcl_evLast (s : State) (f : Dcl → Dcl) : (s.modDcl f).evLast = s.evLast := rfl
@[simp] theorem modDcl_sent (s : State) (f : Dcl → Dcl) : (s.modDcl f).sent = s.sent := rfl
@[simp] theorem modDcl_clk (s : State) (f : Dcl → Dcl) : (s.modDcl f).clk = s.clk := rfl
@[simp] theorem modDcl_hosts (s : State) (f : Dcl → Dcl) : (s.modDcl f).hosts = s.hosts := rfl
@[simp] theorem modDcl_disp (s : State) (f : Dcl → Dcl) : (s.modDcl f).disp = s.disp := rfl
@[simp] theorem modDcl_later (s : State) (f : Dcl → Dcl) : (s.modDcl f).later = s.later := rfl
@[simp] theorem modDcl_xmem (s : State) (f : Dcl → Dcl) : (s.modDcl f).xmem = s.xmem := rfl
@[simp] theorem modDcl_forceA (s : State) (f : Dcl → Dcl) : (s.modDcl f).forceA = s.forceA := rfl
@[simp] theorem modDcl_forceB (s : State) (f : Dcl → Dcl) : (s.modDcl f).forceB = s.forceB := rfl
@[simp] theorem modDcl_links (s : State) (f : Dcl → Dcl) : (s.modDcl f).links = s.links := rfl
@[simp] theorem modDcl_cgs (s : State) (f : Dcl → Dcl) : (s.modDcl f).cgs = s.cgs := rfl
@[simp] theorem modDcl_trx (s : State) (f : Dcl → Dcl) : (s.modDcl f).trx = s.trx := rfl
@[simp] theorem modDcl_ctx (s : State) (f : Dcl → Dcl) : (s.modDcl f).ctx = s.ctx := rfl
@[simp] theorem modDcl_tb (s : State) (f : Dcl → Dcl) : (s.modDcl f).tb = s.tb := rfl
@[simp] theorem modDcl_traceReads (s : State) (f : Dcl → Dcl) : (s.modDcl f).traceReads = s.traceReads := rfl
@[simp] theorem modDcl_dcl (s : State) (f : Dcl → Dcl) : (s.modDcl f).dcl = f s.dcl := rfl
@[simp] theorem modDcl_ptg (s : State) (f : Dcl → Dcl) : (s.modDcl f).ptg = s.ptg := rfl
@[simp] theorem modDcl_adc (s : State) (f : Dcl → Dcl) : (s.modDcl f).adc = s.adc := rfl
@[simp] theorem modDcl_pos (s : State) (f : Dcl → Dcl) : (s.modDcl f).pos = s.pos := rfl
@[simp] theorem modDcl_prb (s : State) (f : Dcl → Dcl) : (s.modDcl f).prb = s.prb := rfl
@[simp] theorem modDcl_chg (s : State) (f : Dcl → Dcl) : (s.modDcl f).chg = s.chg := rfl
@[simp] theorem modDcl_aux (s : State) (f : Dcl → Dcl) : (s.modDcl f).aux = s.aux := rfl
@[simp] theorem modDcl_amc (s : State) (f : Dcl → Dcl) : (s.modDcl f).amc = s.amc := rfl
@[simp] theorem modDcl_rpk (s : State) (f : Dcl → Dcl) : (s.modDcl f).rpk = s.rpk := rfl
@[simp] theorem modDcl_hpn (s : State) (f : Dcl → Dcl) : (s.modDcl f).hpn = s.hpn := rfl
@[simp] theorem modDcl_sec (s : State) (f : Dcl → Dcl) : (s.modDcl f).sec = s.sec := rfl
@[simp] theorem modDcl_upd (s : State) (f : Dcl → Dcl) : (s.modDcl f).upd = s.upd := rfl
@[simp] theorem modDcl_thm (s : State) (f : Dcl → Dcl) : (s.modDcl f).thm = s.thm := rfl
@[simp] theorem modDcl_bst (s : State) (f : Dcl → Dcl) : (s.modDcl f).bst = s.bst := rfl
@[simp] theorem modDcl_patina (s : State) (f : Dcl → Dcl) : (s.modDcl f).patina = s.patina := rfl
@[simp] theorem modDcl_pwr (s : State) (f : Dcl → Dcl) : (s.modDcl f).pwr = s.pwr := rfl
@[simp] theorem modDcl_net (s : State) (f : Dcl → Dcl) : (s.modDcl f).net = s.net := rfl
@[simp] theorem modPtg_axt (s : State) (f : Ptg → Ptg) : (s.modPtg f).axt = s.axt := rfl
@[simp] theorem modPtg_follow (s : State) (f : Ptg → Ptg) : (s.modPtg f).follow = s.follow := rfl
@[simp] theorem modPtg_xing (s : State) (f : Ptg → Ptg) : (s.modPtg f).xing = s.xing := rfl
@[simp] theorem modPtg_pending (s : State) (f : Ptg → Ptg) : (s.modPtg f).pending = s.pending := rfl
@[simp] theorem modPtg_objs (s : State) (f : Ptg → Ptg) : (s.modPtg f).objs = s.objs := rfl
@[simp] theorem modPtg_flash (s : State) (f : Ptg → Ptg) : (s.modPtg f).flash = s.flash := rfl
@[simp] theorem modPtg_dirty (s : State) (f : Ptg → Ptg) : (s.modPtg f).dirty = s.dirty := rfl
@[simp] theorem modPtg_free (s : State) (f : Ptg → Ptg) : (s.modPtg f).free = s.free := rfl
@[simp] theorem modPtg_evLast (s : State) (f : Ptg → Ptg) : (s.modPtg f).evLast = s.evLast := rfl
@[simp] theorem modPtg_sent (s : State) (f : Ptg → Ptg) : (s.modPtg f).sent = s.sent := rfl
@[simp] theorem modPtg_clk (s : State) (f : Ptg → Ptg) : (s.modPtg f).clk = s.clk := rfl
@[simp] theorem modPtg_hosts (s : State) (f : Ptg → Ptg) : (s.modPtg f).hosts = s.hosts := rfl
@[simp] theorem modPtg_disp (s : State) (f : Ptg → Ptg) : (s.modPtg f).disp = s.disp := rfl
@[simp] theorem modPtg_later (s : State) (f : Ptg → Ptg) : (s.modPtg f).later = s.later := rfl
@[simp] theorem modPtg_xmem (s : State) (f : Ptg → Ptg) : (s.modPtg f).xmem = s.xmem := rfl
@[simp] theorem modPtg_forceA (s : State) (f : Ptg → Ptg) : (s.modPtg f).forceA = s.forceA := rfl
@[simp] theorem modPtg_forceB (s : State) (f : Ptg → Ptg) : (s.modPtg f).forceB = s.forceB := rfl
@[simp] theorem modPtg_links (s : State) (f : Ptg → Ptg) : (s.modPtg f).links = s.links := rfl
@[simp] theorem modPtg_cgs (s : State) (f : Ptg → Ptg) : (s.modPtg f).cgs = s.cgs := rfl
@[simp] theorem modPtg_trx (s : State) (f : Ptg → Ptg) : (s.modPtg f).trx = s.trx := rfl
@[simp] theorem modPtg_ctx (s : State) (f : Ptg → Ptg) : (s.modPtg f).ctx = s.ctx := rfl
@[simp] theorem modPtg_tb (s : State) (f : Ptg → Ptg) : (s.modPtg f).tb = s.tb := rfl
@[simp] theorem modPtg_traceReads (s : State) (f : Ptg → Ptg) : (s.modPtg f).traceReads = s.traceReads := rfl
@[simp] theorem modPtg_dcl (s : State) (f : Ptg → Ptg) : (s.modPtg f).dcl = s.dcl := rfl
@[simp] theorem modPtg_ptg (s : State) (f : Ptg → Ptg) : (s.modPtg f).ptg = f s.ptg := rfl
@[simp] theorem modPtg_adc (s : State) (f : Ptg → Ptg) : (s.modPtg f).adc = s.adc := rfl
@[simp] theorem modPtg_pos (s : State) (f : Ptg → Ptg) : (s.modPtg f).pos = s.pos := rfl
@[simp] theorem modPtg_prb (s : State) (f : Ptg → Ptg) : (s.modPtg f).prb = s.prb := rfl
@[simp] theorem modPtg_chg (s : State) (f : Ptg → Ptg) : (s.modPtg f).chg = s.chg := rfl
@[simp] theorem modPtg_aux (s : State) (f : Ptg → Ptg) : (s.modPtg f).aux = s.aux := rfl
@[simp] theorem modPtg_amc (s : State) (f : Ptg → Ptg) : (s.modPtg f).amc = s.amc := rfl
@[simp] theorem modPtg_rpk (s : State) (f : Ptg → Ptg) : (s.modPtg f).rpk = s.rpk := rfl
@[simp] theorem modPtg_hpn (s : State) (f : Ptg → Ptg) : (s.modPtg f).hpn = s.hpn := rfl
@[simp] theorem modPtg_sec (s : State) (f : Ptg → Ptg) : (s.modPtg f).sec = s.sec := rfl
@[simp] theorem modPtg_upd (s : State) (f : Ptg → Ptg) : (s.modPtg f).upd = s.upd := rfl
@[simp] theorem modPtg_thm (s : State) (f : Ptg → Ptg) : (s.modPtg f).thm = s.thm := rfl
@[simp] theorem modPtg_bst (s : State) (f : Ptg → Ptg) : (s.modPtg f).bst = s.bst := rfl
@[simp] theorem modPtg_patina (s : State) (f : Ptg → Ptg) : (s.modPtg f).patina = s.patina := rfl
@[simp] theorem modPtg_pwr (s : State) (f : Ptg → Ptg) : (s.modPtg f).pwr = s.pwr := rfl
@[simp] theorem modPtg_net (s : State) (f : Ptg → Ptg) : (s.modPtg f).net = s.net := rfl
@[simp] theorem modAdc_axt (s : State) (f : AdcAll → AdcAll) : (s.modAdc f).axt = s.axt := rfl
@[simp] theorem modAdc_follow (s : State) (f : AdcAll → AdcAll) : (s.modAdc f).follow = s.follow := rfl
@[simp] theorem modAdc_xing (s : State) (f : AdcAll → AdcAll) : (s.modAdc f).xing = s.xing := rfl
@[simp] theorem modAdc_pending (s : State) (f : AdcAll → AdcAll) : (s.modAdc f).pending = s.pending := rfl
@[simp] theorem modAdc_objs (s : State) (f : AdcAll → AdcAll) : (s.modAdc f).objs = s.objs := rfl
@[simp] theorem modAdc_flash (s : State) (f : AdcAll → AdcAll) : (s.modAdc f).flash = s.flash := rfl
@[simp] theorem modAdc_dirty (s : State) (f : AdcAll → AdcAll) : (s.modAdc f).dirty = s.dirty := rfl
@[simp] theorem modAdc_free (s : State) (f : AdcAll → AdcAll) : (s.modAdc f).free = s.free := rfl
@[simp] theorem modAdc_evLast (s : State) (f : AdcAll → AdcAll) : (s.modAdc f).evLast = s.evLast := rfl
@[simp] theorem modAdc_sent (s : State) (f : AdcAll → AdcAll) : (s.modAdc f).sent = s.sent := rfl
@[simp] theorem modAdc_clk (s : State) (f : AdcAll → AdcAll) : (s.modAdc f).clk = s.clk := rfl
@[simp] theorem modAdc_hosts (s : State) (f : AdcAll → AdcAll) : (s.modAdc f).hosts = s.hosts := rfl
@[simp] theorem modAdc_disp (s : State) (f : AdcAll → AdcAll) : (s.modAdc f).disp = s.disp := rfl
@[simp] theorem modAdc_later (s : State) (f : AdcAll → AdcAll) : (s.modAdc f).later = s.later := rfl
@[simp] theorem modAdc_xmem (s : State) (f : AdcAll → AdcAll) : (s.modAdc f).xmem = s.xmem := rfl
@[simp] theorem modAdc_forceA (s : State) (f : AdcAll → AdcAll) : (s.modAdc f).forceA = s.forceA := rfl
@[simp] theorem modAdc_forceB (s : State) (f : AdcAll → AdcAll) : (s.modAdc f).forceB = s.forceB := rfl
@[simp] theorem modAdc_links (s : State) (f : AdcAll → AdcAll) : (s.modAdc f).links = s.links := rfl
@[simp] theorem modAdc_cgs (s : State) (f : AdcAll → AdcAll) : (s.modAdc f).cgs = s.cgs := rfl
@[simp] theorem modAdc_trx (s : State) (f : AdcAll → AdcAll) : (s.modAdc f).trx = s.trx := rfl
@[simp] theorem modAdc_ctx (s : State) (f : AdcAll → AdcAll) : (s.modAdc f).ctx = s.ctx := rfl
@[simp] theorem modAdc_tb (s : State) (f : AdcAll → AdcAll) : (s.modAdc f).tb = s.tb := rfl
@[simp] theorem modAdc_traceReads (s : State) (f : AdcAll → AdcAll) : (s.modAdc f).traceReads = s.traceReads := rfl
@[simp] theorem modAdc_dcl (s : State) (f : AdcAll → AdcAll) : (s.modAdc f).dcl = s.dcl := rfl
@[simp] theorem modAdc_ptg (s : State) (f : AdcAll → AdcAll) : (s.modAdc f).ptg = s.ptg := rfl
@[simp] theorem modAdc_adc (s : State) (f : AdcAll → AdcAll) : (s.modAdc f).adc = f s.adc := rfl
@[simp] theorem modAdc_pos (s : State) (f : AdcAll → AdcAll) : (s.modAdc f).pos = s.pos := rfl
@[simp] theorem modAdc_prb (s : State) (f : AdcAll → AdcAll) : (s.modAdc f).prb = s.prb := rfl
@[simp] theorem modAdc_chg (s : State) (f : AdcAll → AdcAll) : (s.modAdc f).chg = s.chg := rfl
@[simp] theorem modAdc_aux (s : State) (f : AdcAll → AdcAll) : (s.modAdc f).aux = s.aux := rfl
@[simp] theorem modAdc_amc (s : State) (f : AdcAll → AdcAll) : (s.modAdc f).amc = s.amc := rfl
@[simp] theorem modAdc_rpk (s : State) (f : AdcAll → AdcAll) : (s.modAdc f).rpk = s.rpk := rfl
@[simp] theorem modAdc_hpn (s : State) (f : AdcAll → AdcAll) : (s.modAdc f).hpn = s.hpn := rfl
@[simp] theorem modAdc_sec (s : State) (f : AdcAll → AdcAll) : (s.modAdc f).sec = s.sec := rfl
@[simp] theorem modAdc_upd (s : State) (f : AdcAll → AdcAll) : (s.modAdc f).upd = s.upd := rfl
@[simp] theorem modAdc_thm (s : State) (f : AdcAll → AdcAll) : (s.modAdc f).thm = s.thm := rfl
@[simp] theorem modAdc_bst (s : State) (f : AdcAll → AdcAll) : (s.modAdc f).bst = s.bst := rfl
@[simp] theorem modAdc_patina (s : State) (f : AdcAll → AdcAll) : (s.modAdc f).patina = s.patina := rfl
@[simp] theorem modAdc_pwr (s : State) (f : AdcAll → AdcAll) : (s.modAdc f).pwr = s.pwr := rfl
@[simp] theorem modAdc_net (s : State) (f : AdcAll → AdcAll) : (s.modAdc f).net = s.net := rfl
@[simp] theorem modConv_axt (s : State) (k : Fin 12) (f : Adc → Adc) : (s.modConv k f).axt = s.axt := rfl
@[simp] theorem modConv_follow (s : State) (k : Fin 12) (f : Adc → Adc) : (s.modConv k f).follow = s.follow := rfl
@[simp] theorem modConv_xing (s : State) (k : Fin 12) (f : Adc → Adc) : (s.modConv k f).xing = s.xing := rfl
@[simp] theorem modConv_pending (s : State) (k : Fin 12) (f : Adc → Adc) : (s.modConv k f).pending = s.pending := rfl
@[simp] theorem modConv_objs (s : State) (k : Fin 12) (f : Adc → Adc) : (s.modConv k f).objs = s.objs := rfl
@[simp] theorem modConv_flash (s : State) (k : Fin 12) (f : Adc → Adc) : (s.modConv k f).flash = s.flash := rfl
@[simp] theorem modConv_dirty (s : State) (k : Fin 12) (f : Adc → Adc) : (s.modConv k f).dirty = s.dirty := rfl
@[simp] theorem modConv_free (s : State) (k : Fin 12) (f : Adc → Adc) : (s.modConv k f).free = s.free := rfl
@[simp] theorem modConv_evLast (s : State) (k : Fin 12) (f : Adc → Adc) : (s.modConv k f).evLast = s.evLast := rfl
@[simp] theorem modConv_sent (s : State) (k : Fin 12) (f : Adc → Adc) : (s.modConv k f).sent = s.sent := rfl
@[simp] theorem modConv_clk (s : State) (k : Fin 12) (f : Adc → Adc) : (s.modConv k f).clk = s.clk := rfl
@[simp] theorem modConv_hosts (s : State) (k : Fin 12) (f : Adc → Adc) : (s.modConv k f).hosts = s.hosts := rfl
@[simp] theorem modConv_disp (s : State) (k : Fin 12) (f : Adc → Adc) : (s.modConv k f).disp = s.disp := rfl
@[simp] theorem modConv_later (s : State) (k : Fin 12) (f : Adc → Adc) : (s.modConv k f).later = s.later := rfl
@[simp] theorem modConv_xmem (s : State) (k : Fin 12) (f : Adc → Adc) : (s.modConv k f).xmem = s.xmem := rfl
@[simp] theorem modConv_forceA (s : State) (k : Fin 12) (f : Adc → Adc) : (s.modConv k f).forceA = s.forceA := rfl
@[simp] theorem modConv_forceB (s : State) (k : Fin 12) (f : Adc → Adc) : (s.modConv k f).forceB = s.forceB := rfl
@[simp] theorem modConv_links (s : State) (k : Fin 12) (f : Adc → Adc) : (s.modConv k f).links = s.links := rfl
@[simp] theorem modConv_cgs (s : State) (k : Fin 12) (f : Adc → Adc) : (s.modConv k f).cgs = s.cgs := rfl
@[simp] theorem modConv_trx (s : State) (k : Fin 12) (f : Adc → Adc) : (s.modConv k f).trx = s.trx := rfl
@[simp] theorem modConv_ctx (s : State) (k : Fin 12) (f : Adc → Adc) : (s.modConv k f).ctx = s.ctx := rfl
@[simp] theorem modConv_tb (s : State) (k : Fin 12) (f : Adc → Adc) : (s.modConv k f).tb = s.tb := rfl
@[simp] theorem modConv_traceReads (s : State) (k : Fin 12) (f : Adc → Adc) : (s.modConv k f).traceReads = s.traceReads := rfl
@[simp] theorem modConv_dcl (s : State) (k : Fin 12) (f : Adc → Adc) : (s.modConv k f).dcl = s.dcl := rfl
@[simp] theorem modConv_ptg (s : State) (k : Fin 12) (f : Adc → Adc) : (s.modConv k f).ptg = s.ptg := rfl
@[simp] theorem modConv_adc (s : State) (k : Fin 12) (f : Adc → Adc) : (s.modConv k f).adc = { s.adc with conv := s.adc.conv.set k (f s.adc.conv[k]) } := rfl
@[simp] theorem modConv_pos (s : State) (k : Fin 12) (f : Adc → Adc) : (s.modConv k f).pos = s.pos := rfl
@[simp] theorem modConv_prb (s : State) (k : Fin 12) (f : Adc → Adc) : (s.modConv k f).prb = s.prb := rfl
@[simp] theorem modConv_chg (s : State) (k : Fin 12) (f : Adc → Adc) : (s.modConv k f).chg = s.chg := rfl
@[simp] theorem modConv_aux (s : State) (k : Fin 12) (f : Adc → Adc) : (s.modConv k f).aux = s.aux := rfl
@[simp] theorem modConv_amc (s : State) (k : Fin 12) (f : Adc → Adc) : (s.modConv k f).amc = s.amc := rfl
@[simp] theorem modConv_rpk (s : State) (k : Fin 12) (f : Adc → Adc) : (s.modConv k f).rpk = s.rpk := rfl
@[simp] theorem modConv_hpn (s : State) (k : Fin 12) (f : Adc → Adc) : (s.modConv k f).hpn = s.hpn := rfl
@[simp] theorem modConv_sec (s : State) (k : Fin 12) (f : Adc → Adc) : (s.modConv k f).sec = s.sec := rfl
@[simp] theorem modConv_upd (s : State) (k : Fin 12) (f : Adc → Adc) : (s.modConv k f).upd = s.upd := rfl
@[simp] theorem modConv_thm (s : State) (k : Fin 12) (f : Adc → Adc) : (s.modConv k f).thm = s.thm := rfl
@[simp] theorem modConv_bst (s : State) (k : Fin 12) (f : Adc → Adc) : (s.modConv k f).bst = s.bst := rfl
@[simp] theorem modConv_patina (s : State) (k : Fin 12) (f : Adc → Adc) : (s.modConv k f).patina = s.patina := rfl
@[simp] theorem modConv_pwr (s : State) (k : Fin 12) (f : Adc → Adc) : (s.modConv k f).pwr = s.pwr := rfl
@[simp] theorem modConv_net (s : State) (k : Fin 12) (f : Adc → Adc) : (s.modConv k f).net = s.net := rfl
@[simp] theorem modPair_axt (s : State) (p : Fin 6) (f : AdcPair → AdcPair) : (s.modPair p f).axt = s.axt := rfl
@[simp] theorem modPair_follow (s : State) (p : Fin 6) (f : AdcPair → AdcPair) : (s.modPair p f).follow = s.follow := rfl
@[simp] theorem modPair_xing (s : State) (p : Fin 6) (f : AdcPair → AdcPair) : (s.modPair p f).xing = s.xing := rfl
@[simp] theorem modPair_pending (s : State) (p : Fin 6) (f : AdcPair → AdcPair) : (s.modPair p f).pending = s.pending := rfl
@[simp] theorem modPair_objs (s : State) (p : Fin 6) (f : AdcPair → AdcPair) : (s.modPair p f).objs = s.objs := rfl
@[simp] theorem modPair_flash (s : State) (p : Fin 6) (f : AdcPair → AdcPair) : (s.modPair p f).flash = s.flash := rfl
@[simp] theorem modPair_dirty (s : State) (p : Fin 6) (f : AdcPair → AdcPair) : (s.modPair p f).dirty = s.dirty := rfl
@[simp] theorem modPair_free (s : State) (p : Fin 6) (f : AdcPair → AdcPair) : (s.modPair p f).free = s.free := rfl
@[simp] theorem modPair_evLast (s : State) (p : Fin 6) (f : AdcPair → AdcPair) : (s.modPair p f).evLast = s.evLast := rfl
@[simp] theorem modPair_sent (s : State) (p : Fin 6) (f : AdcPair → AdcPair) : (s.modPair p f).sent = s.sent := rfl
@[simp] theorem modPair_clk (s : State) (p : Fin 6) (f : AdcPair → AdcPair) : (s.modPair p f).clk = s.clk := rfl
@[simp] theorem modPair_hosts (s : State) (p : Fin 6) (f : AdcPair → AdcPair) : (s.modPair p f).hosts = s.hosts := rfl
@[simp] theorem modPair_disp (s : State) (p : Fin 6) (f : AdcPair → AdcPair) : (s.modPair p f).disp = s.disp := rfl
@[simp] theorem modPair_later (s : State) (p : Fin 6) (f : AdcPair → AdcPair) : (s.modPair p f).later = s.later := rfl
@[simp] theorem modPair_xmem (s : State) (p : Fin 6) (f : AdcPair → AdcPair) : (s.modPair p f).xmem = s.xmem := rfl
@[simp] theorem modPair_forceA (s : State) (p : Fin 6) (f : AdcPair → AdcPair) : (s.modPair p f).forceA = s.forceA := rfl
@[simp] theorem modPair_forceB (s : State) (p : Fin 6) (f : AdcPair → AdcPair) : (s.modPair p f).forceB = s.forceB := rfl
@[simp] theorem modPair_links (s : State) (p : Fin 6) (f : AdcPair → AdcPair) : (s.modPair p f).links = s.links := rfl
@[simp] theorem modPair_cgs (s : State) (p : Fin 6) (f : AdcPair → AdcPair) : (s.modPair p f).cgs = s.cgs := rfl
@[simp] theorem modPair_trx (s : State) (p : Fin 6) (f : AdcPair → AdcPair) : (s.modPair p f).trx = s.trx := rfl
@[simp] theorem modPair_ctx (s : State) (p : Fin 6) (f : AdcPair → AdcPair) : (s.modPair p f).ctx = s.ctx := rfl
@[simp] theorem modPair_tb (s : State) (p : Fin 6) (f : AdcPair → AdcPair) : (s.modPair p f).tb = s.tb := rfl
@[simp] theorem modPair_traceReads (s : State) (p : Fin 6) (f : AdcPair → AdcPair) : (s.modPair p f).traceReads = s.traceReads := rfl
@[simp] theorem modPair_dcl (s : State) (p : Fin 6) (f : AdcPair → AdcPair) : (s.modPair p f).dcl = s.dcl := rfl
@[simp] theorem modPair_ptg (s : State) (p : Fin 6) (f : AdcPair → AdcPair) : (s.modPair p f).ptg = s.ptg := rfl
@[simp] theorem modPair_adc (s : State) (p : Fin 6) (f : AdcPair → AdcPair) : (s.modPair p f).adc = { s.adc with pair := s.adc.pair.set p (f s.adc.pair[p]) } := rfl
@[simp] theorem modPair_pos (s : State) (p : Fin 6) (f : AdcPair → AdcPair) : (s.modPair p f).pos = s.pos := rfl
@[simp] theorem modPair_prb (s : State) (p : Fin 6) (f : AdcPair → AdcPair) : (s.modPair p f).prb = s.prb := rfl
@[simp] theorem modPair_chg (s : State) (p : Fin 6) (f : AdcPair → AdcPair) : (s.modPair p f).chg = s.chg := rfl
@[simp] theorem modPair_aux (s : State) (p : Fin 6) (f : AdcPair → AdcPair) : (s.modPair p f).aux = s.aux := rfl
@[simp] theorem modPair_amc (s : State) (p : Fin 6) (f : AdcPair → AdcPair) : (s.modPair p f).amc = s.amc := rfl
@[simp] theorem modPair_rpk (s : State) (p : Fin 6) (f : AdcPair → AdcPair) : (s.modPair p f).rpk = s.rpk := rfl
@[simp] theorem modPair_hpn (s : State) (p : Fin 6) (f : AdcPair → AdcPair) : (s.modPair p f).hpn = s.hpn := rfl
@[simp] theorem modPair_sec (s : State) (p : Fin 6) (f : AdcPair → AdcPair) : (s.modPair p f).sec = s.sec := rfl
@[simp] theorem modPair_upd (s : State) (p : Fin 6) (f : AdcPair → AdcPair) : (s.modPair p f).upd = s.upd := rfl
@[simp] theorem modPair_thm (s : State) (p : Fin 6) (f : AdcPair → AdcPair) : (s.modPair p f).thm = s.thm := rfl
@[simp] theorem modPair_bst (s : State) (p : Fin 6) (f : AdcPair → AdcPair) : (s.modPair p f).bst = s.bst := rfl
@[simp] theorem modPair_patina (s : State) (p : Fin 6) (f : AdcPair → AdcPair) : (s.modPair p f).patina = s.patina := rfl
@[simp] theorem modPair_pwr (s : State) (p : Fin 6) (f : AdcPair → AdcPair) : (s.modPair p f).pwr = s.pwr := rfl
@[simp] theorem modPair_net (s : State) (p : Fin 6) (f : AdcPair → AdcPair) : (s.modPair p f).net = s.net := rfl
@[simp] theorem putRes_axt (s : State) (j : Nat) (r : ResSt) : (s.putRes j r).axt = s.axt := rfl
@[simp] theorem putRes_follow (s : State) (j : Nat) (r : ResSt) : (s.putRes j r).follow = s.follow := rfl
@[simp] theorem putRes_xing (s : State) (j : Nat) (r : ResSt) : (s.putRes j r).xing = s.xing := rfl
@[simp] theorem putRes_pending (s : State) (j : Nat) (r : ResSt) : (s.putRes j r).pending = s.pending := rfl
@[simp] theorem putRes_objs (s : State) (j : Nat) (r : ResSt) : (s.putRes j r).objs = s.objs := rfl
@[simp] theorem putRes_flash (s : State) (j : Nat) (r : ResSt) : (s.putRes j r).flash = s.flash := rfl
@[simp] theorem putRes_dirty (s : State) (j : Nat) (r : ResSt) : (s.putRes j r).dirty = s.dirty := rfl
@[simp] theorem putRes_free (s : State) (j : Nat) (r : ResSt) : (s.putRes j r).free = s.free := rfl
@[simp] theorem putRes_evLast (s : State) (j : Nat) (r : ResSt) : (s.putRes j r).evLast = s.evLast := rfl
@[simp] theorem putRes_sent (s : State) (j : Nat) (r : ResSt) : (s.putRes j r).sent = s.sent := rfl
@[simp] theorem putRes_clk (s : State) (j : Nat) (r : ResSt) : (s.putRes j r).clk = s.clk := rfl
@[simp] theorem putRes_hosts (s : State) (j : Nat) (r : ResSt) : (s.putRes j r).hosts = s.hosts := rfl
@[simp] theorem putRes_disp (s : State) (j : Nat) (r : ResSt) : (s.putRes j r).disp = s.disp := rfl
@[simp] theorem putRes_later (s : State) (j : Nat) (r : ResSt) : (s.putRes j r).later = s.later := rfl
@[simp] theorem putRes_xmem (s : State) (j : Nat) (r : ResSt) : (s.putRes j r).xmem = s.xmem := rfl
@[simp] theorem putRes_forceA (s : State) (j : Nat) (r : ResSt) : (s.putRes j r).forceA = s.forceA := rfl
@[simp] theorem putRes_forceB (s : State) (j : Nat) (r : ResSt) : (s.putRes j r).forceB = s.forceB := rfl
@[simp] theorem putRes_links (s : State) (j : Nat) (r : ResSt) : (s.putRes j r).links = s.links := rfl
@[simp] theorem putRes_cgs (s : State) (j : Nat) (r : ResSt) : (s.putRes j r).cgs = s.cgs := rfl
@[simp] theorem putRes_trx (s : State) (j : Nat) (r : ResSt) : (s.putRes j r).trx = s.trx := rfl
@[simp] theorem putRes_ctx (s : State) (j : Nat) (r : ResSt) : (s.putRes j r).ctx = s.ctx := rfl
@[simp] theorem putRes_tb (s : State) (j : Nat) (r : ResSt) : (s.putRes j r).tb = s.tb := rfl
@[simp] theorem putRes_traceReads (s : State) (j : Nat) (r : ResSt) : (s.putRes j r).traceReads = s.traceReads := rfl
@[simp] theorem putRes_dcl (s : State) (j : Nat) (r : ResSt) : (s.putRes j r).dcl = s.dcl := rfl
@[simp] theorem putRes_ptg (s : State) (j : Nat) (r : ResSt) : (s.putRes j r).ptg = s.ptg := rfl
@[simp] theorem putRes_adc (s : State) (j : Nat) (r : ResSt) : (s.putRes j r).adc = { s.adc with res := kSet s.adc.res ResSt.idle j r } := rfl
@[simp] theorem putRes_pos (s : State) (j : Nat) (r : ResSt) : (s.putRes j r).pos = s.pos := rfl
@[simp] theorem putRes_prb (s : State) (j : Nat) (r : ResSt) : (s.putRes j r).prb = s.prb := rfl
@[simp] theorem putRes_chg (s : State) (j : Nat) (r : ResSt) : (s.putRes j r).chg = s.chg := rfl
@[simp] theorem putRes_aux (s : State) (j : Nat) (r : ResSt) : (s.putRes j r).aux = s.aux := rfl
@[simp] theorem putRes_amc (s : State) (j : Nat) (r : ResSt) : (s.putRes j r).amc = s.amc := rfl
@[simp] theorem putRes_rpk (s : State) (j : Nat) (r : ResSt) : (s.putRes j r).rpk = s.rpk := rfl
@[simp] theorem putRes_hpn (s : State) (j : Nat) (r : ResSt) : (s.putRes j r).hpn = s.hpn := rfl
@[simp] theorem putRes_sec (s : State) (j : Nat) (r : ResSt) : (s.putRes j r).sec = s.sec := rfl
@[simp] theorem putRes_upd (s : State) (j : Nat) (r : ResSt) : (s.putRes j r).upd = s.upd := rfl
@[simp] theorem putRes_thm (s : State) (j : Nat) (r : ResSt) : (s.putRes j r).thm = s.thm := rfl
@[simp] theorem putRes_bst (s : State) (j : Nat) (r : ResSt) : (s.putRes j r).bst = s.bst := rfl
@[simp] theorem putRes_patina (s : State) (j : Nat) (r : ResSt) : (s.putRes j r).patina = s.patina := rfl
@[simp] theorem putRes_pwr (s : State) (j : Nat) (r : ResSt) : (s.putRes j r).pwr = s.pwr := rfl
@[simp] theorem putRes_net (s : State) (j : Nat) (r : ResSt) : (s.putRes j r).net = s.net := rfl
@[simp] theorem modPos_axt (s : State) (p : Fin 4) (f : Pos → Pos) : (s.modPos p f).axt = s.axt := rfl
@[simp] theorem modPos_follow (s : State) (p : Fin 4) (f : Pos → Pos) : (s.modPos p f).follow = s.follow := rfl
@[simp] theorem modPos_xing (s : State) (p : Fin 4) (f : Pos → Pos) : (s.modPos p f).xing = s.xing := rfl
@[simp] theorem modPos_pending (s : State) (p : Fin 4) (f : Pos → Pos) : (s.modPos p f).pending = s.pending := rfl
@[simp] theorem modPos_objs (s : State) (p : Fin 4) (f : Pos → Pos) : (s.modPos p f).objs = s.objs := rfl
@[simp] theorem modPos_flash (s : State) (p : Fin 4) (f : Pos → Pos) : (s.modPos p f).flash = s.flash := rfl
@[simp] theorem modPos_dirty (s : State) (p : Fin 4) (f : Pos → Pos) : (s.modPos p f).dirty = s.dirty := rfl
@[simp] theorem modPos_free (s : State) (p : Fin 4) (f : Pos → Pos) : (s.modPos p f).free = s.free := rfl
@[simp] theorem modPos_evLast (s : State) (p : Fin 4) (f : Pos → Pos) : (s.modPos p f).evLast = s.evLast := rfl
@[simp] theorem modPos_sent (s : State) (p : Fin 4) (f : Pos → Pos) : (s.modPos p f).sent = s.sent := rfl
@[simp] theorem modPos_clk (s : State) (p : Fin 4) (f : Pos → Pos) : (s.modPos p f).clk = s.clk := rfl
@[simp] theorem modPos_hosts (s : State) (p : Fin 4) (f : Pos → Pos) : (s.modPos p f).hosts = s.hosts := rfl
@[simp] theorem modPos_disp (s : State) (p : Fin 4) (f : Pos → Pos) : (s.modPos p f).disp = s.disp := rfl
@[simp] theorem modPos_later (s : State) (p : Fin 4) (f : Pos → Pos) : (s.modPos p f).later = s.later := rfl
@[simp] theorem modPos_xmem (s : State) (p : Fin 4) (f : Pos → Pos) : (s.modPos p f).xmem = s.xmem := rfl
@[simp] theorem modPos_forceA (s : State) (p : Fin 4) (f : Pos → Pos) : (s.modPos p f).forceA = s.forceA := rfl
@[simp] theorem modPos_forceB (s : State) (p : Fin 4) (f : Pos → Pos) : (s.modPos p f).forceB = s.forceB := rfl
@[simp] theorem modPos_links (s : State) (p : Fin 4) (f : Pos → Pos) : (s.modPos p f).links = s.links := rfl
@[simp] theorem modPos_cgs (s : State) (p : Fin 4) (f : Pos → Pos) : (s.modPos p f).cgs = s.cgs := rfl
@[simp] theorem modPos_trx (s : State) (p : Fin 4) (f : Pos → Pos) : (s.modPos p f).trx = s.trx := rfl
@[simp] theorem modPos_ctx (s : State) (p : Fin 4) (f : Pos → Pos) : (s.modPos p f).ctx = s.ctx := rfl
@[simp] theorem modPos_tb (s : State) (p : Fin 4) (f : Pos → Pos) : (s.modPos p f).tb = s.tb := rfl
@[simp] theorem modPos_traceReads (s : State) (p : Fin 4) (f : Pos → Pos) : (s.modPos p f).traceReads = s.traceReads := rfl
@[simp] theorem modPos_dcl (s : State) (p : Fin 4) (f : Pos → Pos) : (s.modPos p f).dcl = s.dcl := rfl
@[simp] theorem modPos_ptg (s : State) (p : Fin 4) (f : Pos → Pos) : (s.modPos p f).ptg = s.ptg := rfl
@[simp] theorem modPos_adc (s : State) (p : Fin 4) (f : Pos → Pos) : (s.modPos p f).adc = s.adc := rfl
@[simp] theorem modPos_pos (s : State) (p : Fin 4) (f : Pos → Pos) : (s.modPos p f).pos = s.pos.set p (f s.pos[p]) := rfl
@[simp] theorem modPos_prb (s : State) (p : Fin 4) (f : Pos → Pos) : (s.modPos p f).prb = s.prb := rfl
@[simp] theorem modPos_chg (s : State) (p : Fin 4) (f : Pos → Pos) : (s.modPos p f).chg = s.chg := rfl
@[simp] theorem modPos_aux (s : State) (p : Fin 4) (f : Pos → Pos) : (s.modPos p f).aux = s.aux := rfl
@[simp] theorem modPos_amc (s : State) (p : Fin 4) (f : Pos → Pos) : (s.modPos p f).amc = s.amc := rfl
@[simp] theorem modPos_rpk (s : State) (p : Fin 4) (f : Pos → Pos) : (s.modPos p f).rpk = s.rpk := rfl
@[simp] theorem modPos_hpn (s : State) (p : Fin 4) (f : Pos → Pos) : (s.modPos p f).hpn = s.hpn := rfl
@[simp] theorem modPos_sec (s : State) (p : Fin 4) (f : Pos → Pos) : (s.modPos p f).sec = s.sec := rfl
@[simp] theorem modPos_upd (s : State) (p : Fin 4) (f : Pos → Pos) : (s.modPos p f).upd = s.upd := rfl
@[simp] theorem modPos_thm (s : State) (p : Fin 4) (f : Pos → Pos) : (s.modPos p f).thm = s.thm := rfl
@[simp] theorem modPos_bst (s : State) (p : Fin 4) (f : Pos → Pos) : (s.modPos p f).bst = s.bst := rfl
@[simp] theorem modPos_patina (s : State) (p : Fin 4) (f : Pos → Pos) : (s.modPos p f).patina = s.patina := rfl
@[simp] theorem modPos_pwr (s : State) (p : Fin 4) (f : Pos → Pos) : (s.modPos p f).pwr = s.pwr := rfl
@[simp] theorem modPos_net (s : State) (p : Fin 4) (f : Pos → Pos) : (s.modPos p f).net = s.net := rfl
@[simp] theorem modPatina_axt (s : State) (m : Fin 4) (f : Patina → Patina) : (s.modPatina m f).axt = s.axt := rfl
@[simp] theorem modPatina_follow (s : State) (m : Fin 4) (f : Patina → Patina) : (s.modPatina m f).follow = s.follow := rfl
@[simp] theorem modPatina_xing (s : State) (m : Fin 4) (f : Patina → Patina) : (s.modPatina m f).xing = s.xing := rfl
@[simp] theorem modPatina_pending (s : State) (m : Fin 4) (f : Patina → Patina) : (s.modPatina m f).pending = s.pending := rfl
@[simp] theorem modPatina_objs (s : State) (m : Fin 4) (f : Patina → Patina) : (s.modPatina m f).objs = s.objs := rfl
@[simp] theorem modPatina_flash (s : State) (m : Fin 4) (f : Patina → Patina) : (s.modPatina m f).flash = s.flash := rfl
@[simp] theorem modPatina_dirty (s : State) (m : Fin 4) (f : Patina → Patina) : (s.modPatina m f).dirty = s.dirty := rfl
@[simp] theorem modPatina_free (s : State) (m : Fin 4) (f : Patina → Patina) : (s.modPatina m f).free = s.free := rfl
@[simp] theorem modPatina_evLast (s : State) (m : Fin 4) (f : Patina → Patina) : (s.modPatina m f).evLast = s.evLast := rfl
@[simp] theorem modPatina_sent (s : State) (m : Fin 4) (f : Patina → Patina) : (s.modPatina m f).sent = s.sent := rfl
@[simp] theorem modPatina_clk (s : State) (m : Fin 4) (f : Patina → Patina) : (s.modPatina m f).clk = s.clk := rfl
@[simp] theorem modPatina_hosts (s : State) (m : Fin 4) (f : Patina → Patina) : (s.modPatina m f).hosts = s.hosts := rfl
@[simp] theorem modPatina_disp (s : State) (m : Fin 4) (f : Patina → Patina) : (s.modPatina m f).disp = s.disp := rfl
@[simp] theorem modPatina_later (s : State) (m : Fin 4) (f : Patina → Patina) : (s.modPatina m f).later = s.later := rfl
@[simp] theorem modPatina_xmem (s : State) (m : Fin 4) (f : Patina → Patina) : (s.modPatina m f).xmem = s.xmem := rfl
@[simp] theorem modPatina_forceA (s : State) (m : Fin 4) (f : Patina → Patina) : (s.modPatina m f).forceA = s.forceA := rfl
@[simp] theorem modPatina_forceB (s : State) (m : Fin 4) (f : Patina → Patina) : (s.modPatina m f).forceB = s.forceB := rfl
@[simp] theorem modPatina_links (s : State) (m : Fin 4) (f : Patina → Patina) : (s.modPatina m f).links = s.links := rfl
@[simp] theorem modPatina_cgs (s : State) (m : Fin 4) (f : Patina → Patina) : (s.modPatina m f).cgs = s.cgs := rfl
@[simp] theorem modPatina_trx (s : State) (m : Fin 4) (f : Patina → Patina) : (s.modPatina m f).trx = s.trx := rfl
@[simp] theorem modPatina_ctx (s : State) (m : Fin 4) (f : Patina → Patina) : (s.modPatina m f).ctx = s.ctx := rfl
@[simp] theorem modPatina_tb (s : State) (m : Fin 4) (f : Patina → Patina) : (s.modPatina m f).tb = s.tb := rfl
@[simp] theorem modPatina_traceReads (s : State) (m : Fin 4) (f : Patina → Patina) : (s.modPatina m f).traceReads = s.traceReads := rfl
@[simp] theorem modPatina_dcl (s : State) (m : Fin 4) (f : Patina → Patina) : (s.modPatina m f).dcl = s.dcl := rfl
@[simp] theorem modPatina_ptg (s : State) (m : Fin 4) (f : Patina → Patina) : (s.modPatina m f).ptg = s.ptg := rfl
@[simp] theorem modPatina_adc (s : State) (m : Fin 4) (f : Patina → Patina) : (s.modPatina m f).adc = s.adc := rfl
@[simp] theorem modPatina_pos (s : State) (m : Fin 4) (f : Patina → Patina) : (s.modPatina m f).pos = s.pos := rfl
@[simp] theorem modPatina_prb (s : State) (m : Fin 4) (f : Patina → Patina) : (s.modPatina m f).prb = s.prb := rfl
@[simp] theorem modPatina_chg (s : State) (m : Fin 4) (f : Patina → Patina) : (s.modPatina m f).chg = s.chg := rfl
@[simp] theorem modPatina_aux (s : State) (m : Fin 4) (f : Patina → Patina) : (s.modPatina m f).aux = s.aux := rfl
@[simp] theorem modPatina_amc (s : State) (m : Fin 4) (f : Patina → Patina) : (s.modPatina m f).amc = s.amc := rfl
@[simp] theorem modPatina_rpk (s : State) (m : Fin 4) (f : Patina → Patina) : (s.modPatina m f).rpk = s.rpk := rfl
@[simp] theorem modPatina_hpn (s : State) (m : Fin 4) (f : Patina → Patina) : (s.modPatina m f).hpn = s.hpn := rfl
@[simp] theorem modPatina_sec (s : State) (m : Fin 4) (f : Patina → Patina) : (s.modPatina m f).sec = s.sec := rfl
@[simp] theorem modPatina_upd (s : State) (m : Fin 4) (f : Patina → Patina) : (s.modPatina m f).upd = s.upd := rfl
@[simp] theorem modPatina_thm (s : State) (m : Fin 4) (f : Patina → Patina) : (s.modPatina m f).thm = s.thm := rfl
@[simp] theorem modPatina_bst (s : State) (m : Fin 4) (f : Patina → Patina) : (s.modPatina m f).bst = s.bst := rfl
@[simp] theorem modPatina_patina (s : State) (m : Fin 4) (f : Patina → Patina) : (s.modPatina m f).patina = s.patina.set m (f s.patina[m]) := rfl
@[simp] theorem modPatina_pwr (s : State) (m : Fin 4) (f : Patina → Patina) : (s.modPatina m f).pwr = s.pwr := rfl
@[simp] theorem modPatina_net (s : State) (m : Fin 4) (f : Patina → Patina) : (s.modPatina m f).net = s.net := rfl
@[simp] theorem modChg_axt (s : State) (f : Chg → Chg) : (s.modChg f).axt = s.axt := rfl
@[simp] theorem modChg_follow (s : State) (f : Chg → Chg) : (s.modChg f).follow = s.follow := rfl
@[simp] theorem modChg_xing (s : State) (f : Chg → Chg) : (s.modChg f).xing = s.xing := rfl
@[simp] theorem modChg_pending (s : State) (f : Chg → Chg) : (s.modChg f).pending = s.pending := rfl
@[simp] theorem modChg_objs (s : State) (f : Chg → Chg) : (s.modChg f).objs = s.objs := rfl
@[simp] theorem modChg_flash (s : State) (f : Chg → Chg) : (s.modChg f).flash = s.flash := rfl
@[simp] theorem modChg_dirty (s : State) (f : Chg → Chg) : (s.modChg f).dirty = s.dirty := rfl
@[simp] theorem modChg_free (s : State) (f : Chg → Chg) : (s.modChg f).free = s.free := rfl
@[simp] theorem modChg_evLast (s : State) (f : Chg → Chg) : (s.modChg f).evLast = s.evLast := rfl
@[simp] theorem modChg_sent (s : State) (f : Chg → Chg) : (s.modChg f).sent = s.sent := rfl
@[simp] theorem modChg_clk (s : State) (f : Chg → Chg) : (s.modChg f).clk = s.clk := rfl
@[simp] theorem modChg_hosts (s : State) (f : Chg → Chg) : (s.modChg f).hosts = s.hosts := rfl
@[simp] theorem modChg_disp (s : State) (f : Chg → Chg) : (s.modChg f).disp = s.disp := rfl
@[simp] theorem modChg_later (s : State) (f : Chg → Chg) : (s.modChg f).later = s.later := rfl
@[simp] theorem modChg_xmem (s : State) (f : Chg → Chg) : (s.modChg f).xmem = s.xmem := rfl
@[simp] theorem modChg_forceA (s : State) (f : Chg → Chg) : (s.modChg f).forceA = s.forceA := rfl
@[simp] theorem modChg_forceB (s : State) (f : Chg → Chg) : (s.modChg f).forceB = s.forceB := rfl
@[simp] theorem modChg_links (s : State) (f : Chg → Chg) : (s.modChg f).links = s.links := rfl
@[simp] theorem modChg_cgs (s : State) (f : Chg → Chg) : (s.modChg f).cgs = s.cgs := rfl
@[simp] theorem modChg_trx (s : State) (f : Chg → Chg) : (s.modChg f).trx = s.trx := rfl
@[simp] theorem modChg_ctx (s : State) (f : Chg → Chg) : (s.modChg f).ctx = s.ctx := rfl
@[simp] theorem modChg_tb (s : State) (f : Chg → Chg) : (s.modChg f).tb = s.tb := rfl
@[simp] theorem modChg_traceReads (s : State) (f : Chg → Chg) : (s.modChg f).traceReads = s.traceReads := rfl
@[simp] theorem modChg_dcl (s : State) (f : Chg → Chg) : (s.modChg f).dcl = s.dcl := rfl
@[simp] theorem modChg_ptg (s : State) (f : Chg → Chg) : (s.modChg f).ptg = s.ptg := rfl
@[simp] theorem modChg_adc (s : State) (f : Chg → Chg) : (s.modChg f).adc = s.adc := rfl
@[simp] theorem modChg_pos (s : State) (f : Chg → Chg) : (s.modChg f).pos = s.pos := rfl
@[simp] theorem modChg_prb (s : State) (f : Chg → Chg) : (s.modChg f).prb = s.prb := rfl
@[simp] theorem modChg_chg (s : State) (f : Chg → Chg) : (s.modChg f).chg = f s.chg := rfl
@[simp] theorem modChg_aux (s : State) (f : Chg → Chg) : (s.modChg f).aux = s.aux := rfl
@[simp] theorem modChg_amc (s : State) (f : Chg → Chg) : (s.modChg f).amc = s.amc := rfl
@[simp] theorem modChg_rpk (s : State) (f : Chg → Chg) : (s.modChg f).rpk = s.rpk := rfl
@[simp] theorem modChg_hpn (s : State) (f : Chg → Chg) : (s.modChg f).hpn = s.hpn := rfl
@[simp] theorem modChg_sec (s : State) (f : Chg → Chg) : (s.modChg f).sec = s.sec := rfl
@[simp] theorem modChg_upd (s : State) (f : Chg → Chg) : (s.modChg f).upd = s.upd := rfl
@[simp] theorem modChg_thm (s : State) (f : Chg → Chg) : (s.modChg f).thm = s.thm := rfl
@[simp] theorem modChg_bst (s : State) (f : Chg → Chg) : (s.modChg f).bst = s.bst := rfl
@[simp] theorem modChg_patina (s : State) (f : Chg → Chg) : (s.modChg f).patina = s.patina := rfl
@[simp] theorem modChg_pwr (s : State) (f : Chg → Chg) : (s.modChg f).pwr = s.pwr := rfl
@[simp] theorem modChg_net (s : State) (f : Chg → Chg) : (s.modChg f).net = s.net := rfl
@[simp] theorem modPilot_axt (s : State) (f : Pilot → Pilot) : (s.modPilot f).axt = s.axt := rfl
@[simp] theorem modPilot_follow (s : State) (f : Pilot → Pilot) : (s.modPilot f).follow = s.follow := rfl
@[simp] theorem modPilot_xing (s : State) (f : Pilot → Pilot) : (s.modPilot f).xing = s.xing := rfl
@[simp] theorem modPilot_pending (s : State) (f : Pilot → Pilot) : (s.modPilot f).pending = s.pending := rfl
@[simp] theorem modPilot_objs (s : State) (f : Pilot → Pilot) : (s.modPilot f).objs = s.objs := rfl
@[simp] theorem modPilot_flash (s : State) (f : Pilot → Pilot) : (s.modPilot f).flash = s.flash := rfl
@[simp] theorem modPilot_dirty (s : State) (f : Pilot → Pilot) : (s.modPilot f).dirty = s.dirty := rfl
@[simp] theorem modPilot_free (s : State) (f : Pilot → Pilot) : (s.modPilot f).free = s.free := rfl
@[simp] theorem modPilot_evLast (s : State) (f : Pilot → Pilot) : (s.modPilot f).evLast = s.evLast := rfl
@[simp] theorem modPilot_sent (s : State) (f : Pilot → Pilot) : (s.modPilot f).sent = s.sent := rfl
@[simp] theorem modPilot_clk (s : State) (f : Pilot → Pilot) : (s.modPilot f).clk = s.clk := rfl
@[simp] theorem modPilot_hosts (s : State) (f : Pilot → Pilot) : (s.modPilot f).hosts = s.hosts := rfl
@[simp] theorem modPilot_disp (s : State) (f : Pilot → Pilot) : (s.modPilot f).disp = s.disp := rfl
@[simp] theorem modPilot_later (s : State) (f : Pilot → Pilot) : (s.modPilot f).later = s.later := rfl
@[simp] theorem modPilot_xmem (s : State) (f : Pilot → Pilot) : (s.modPilot f).xmem = s.xmem := rfl
@[simp] theorem modPilot_forceA (s : State) (f : Pilot → Pilot) : (s.modPilot f).forceA = s.forceA := rfl
@[simp] theorem modPilot_forceB (s : State) (f : Pilot → Pilot) : (s.modPilot f).forceB = s.forceB := rfl
@[simp] theorem modPilot_links (s : State) (f : Pilot → Pilot) : (s.modPilot f).links = s.links := rfl
@[simp] theorem modPilot_cgs (s : State) (f : Pilot → Pilot) : (s.modPilot f).cgs = s.cgs := rfl
@[simp] theorem modPilot_trx (s : State) (f : Pilot → Pilot) : (s.modPilot f).trx = s.trx := rfl
@[simp] theorem modPilot_ctx (s : State) (f : Pilot → Pilot) : (s.modPilot f).ctx = s.ctx := rfl
@[simp] theorem modPilot_tb (s : State) (f : Pilot → Pilot) : (s.modPilot f).tb = s.tb := rfl
@[simp] theorem modPilot_traceReads (s : State) (f : Pilot → Pilot) : (s.modPilot f).traceReads = s.traceReads := rfl
@[simp] theorem modPilot_dcl (s : State) (f : Pilot → Pilot) : (s.modPilot f).dcl = s.dcl := rfl
@[simp] theorem modPilot_ptg (s : State) (f : Pilot → Pilot) : (s.modPilot f).ptg = s.ptg := rfl
@[simp] theorem modPilot_adc (s : State) (f : Pilot → Pilot) : (s.modPilot f).adc = s.adc := rfl
@[simp] theorem modPilot_pos (s : State) (f : Pilot → Pilot) : (s.modPilot f).pos = s.pos := rfl
@[simp] theorem modPilot_prb (s : State) (f : Pilot → Pilot) : (s.modPilot f).prb = s.prb := rfl
@[simp] theorem modPilot_chg (s : State) (f : Pilot → Pilot) : (s.modPilot f).chg = { s.chg with pilot := f s.chg.pilot } := rfl
@[simp] theorem modPilot_aux (s : State) (f : Pilot → Pilot) : (s.modPilot f).aux = s.aux := rfl
@[simp] theorem modPilot_amc (s : State) (f : Pilot → Pilot) : (s.modPilot f).amc = s.amc := rfl
@[simp] theorem modPilot_rpk (s : State) (f : Pilot → Pilot) : (s.modPilot f).rpk = s.rpk := rfl
@[simp] theorem modPilot_hpn (s : State) (f : Pilot → Pilot) : (s.modPilot f).hpn = s.hpn := rfl
@[simp] theorem modPilot_sec (s : State) (f : Pilot → Pilot) : (s.modPilot f).sec = s.sec := rfl
@[simp] theorem modPilot_upd (s : State) (f : Pilot → Pilot) : (s.modPilot f).upd = s.upd := rfl
@[simp] theorem modPilot_thm (s : State) (f : Pilot → Pilot) : (s.modPilot f).thm = s.thm := rfl
@[simp] theorem modPilot_bst (s : State) (f : Pilot → Pilot) : (s.modPilot f).bst = s.bst := rfl
@[simp] theorem modPilot_patina (s : State) (f : Pilot → Pilot) : (s.modPilot f).patina = s.patina := rfl
@[simp] theorem modPilot_pwr (s : State) (f : Pilot → Pilot) : (s.modPilot f).pwr = s.pwr := rfl
@[simp] theorem modPilot_net (s : State) (f : Pilot → Pilot) : (s.modPilot f).net = s.net := rfl
@[simp] theorem modAux_axt (s : State) (f : Aux → Aux) : (s.modAux f).axt = s.axt := rfl
@[simp] theorem modAux_follow (s : State) (f : Aux → Aux) : (s.modAux f).follow = s.follow := rfl
@[simp] theorem modAux_xing (s : State) (f : Aux → Aux) : (s.modAux f).xing = s.xing := rfl
@[simp] theorem modAux_pending (s : State) (f : Aux → Aux) : (s.modAux f).pending = s.pending := rfl
@[simp] theorem modAux_objs (s : State) (f : Aux → Aux) : (s.modAux f).objs = s.objs := rfl
@[simp] theorem modAux_flash (s : State) (f : Aux → Aux) : (s.modAux f).flash = s.flash := rfl
@[simp] theorem modAux_dirty (s : State) (f : Aux → Aux) : (s.modAux f).dirty = s.dirty := rfl
@[simp] theorem modAux_free (s : State) (f : Aux → Aux) : (s.modAux f).free = s.free := rfl
@[simp] theorem modAux_evLast (s : State) (f : Aux → Aux) : (s.modAux f).evLast = s.evLast := rfl
@[simp] theorem modAux_sent (s : State) (f : Aux → Aux) : (s.modAux f).sent = s.sent := rfl
@[simp] theorem modAux_clk (s : State) (f : Aux → Aux) : (s.modAux f).clk = s.clk := rfl
@[simp] theorem modAux_hosts (s : State) (f : Aux → Aux) : (s.modAux f).hosts = s.hosts := rfl
@[simp] theorem modAux_disp (s : State) (f : Aux → Aux) : (s.modAux f).disp = s.disp := rfl
@[simp] theorem modAux_later (s : State) (f : Aux → Aux) : (s.modAux f).later = s.later := rfl
@[simp] theorem modAux_xmem (s : State) (f : Aux → Aux) : (s.modAux f).xmem = s.xmem := rfl
@[simp] theorem modAux_forceA (s : State) (f : Aux → Aux) : (s.modAux f).forceA = s.forceA := rfl
@[simp] theorem modAux_forceB (s : State) (f : Aux → Aux) : (s.modAux f).forceB = s.forceB := rfl
@[simp] theorem modAux_links (s : State) (f : Aux → Aux) : (s.modAux f).links = s.links := rfl
@[simp] theorem modAux_cgs (s : State) (f : Aux → Aux) : (s.modAux f).cgs = s.cgs := rfl
@[simp] theorem modAux_trx (s : State) (f : Aux → Aux) : (s.modAux f).trx = s.trx := rfl
@[simp] theorem modAux_ctx (s : State) (f : Aux → Aux) : (s.modAux f).ctx = s.ctx := rfl
@[simp] theorem modAux_tb (s : State) (f : Aux → Aux) : (s.modAux f).tb = s.tb := rfl
@[simp] theorem modAux_traceReads (s : State) (f : Aux → Aux) : (s.modAux f).traceReads = s.traceReads := rfl
@[simp] theorem modAux_dcl (s : State) (f : Aux → Aux) : (s.modAux f).dcl = s.dcl := rfl
@[simp] theorem modAux_ptg (s : State) (f : Aux → Aux) : (s.modAux f).ptg = s.ptg := rfl
@[simp] theorem modAux_adc (s : State) (f : Aux → Aux) : (s.modAux f).adc = s.adc := rfl
@[simp] theorem modAux_pos (s : State) (f : Aux → Aux) : (s.modAux f).pos = s.pos := rfl
@[simp] theorem modAux_prb (s : State) (f : Aux → Aux) : (s.modAux f).prb = s.prb := rfl
@[simp] theorem modAux_chg (s : State) (f : Aux → Aux) : (s.modAux f).chg = s.chg := rfl
@[simp] theorem modAux_aux (s : State) (f : Aux → Aux) : (s.modAux f).aux = f s.aux := rfl
@[simp] theorem modAux_amc (s : State) (f : Aux → Aux) : (s.modAux f).amc = s.amc := rfl
@[simp] theorem modAux_rpk (s : State) (f : Aux → Aux) : (s.modAux f).rpk = s.rpk := rfl
@[simp] theorem modAux_hpn (s : State) (f : Aux → Aux) : (s.modAux f).hpn = s.hpn := rfl
@[simp] theorem modAux_sec (s : State) (f : Aux → Aux) : (s.modAux f).sec = s.sec := rfl
@[simp] theorem modAux_upd (s : State) (f : Aux → Aux) : (s.modAux f).upd = s.upd := rfl
@[simp] theorem modAux_thm (s : State) (f : Aux → Aux) : (s.modAux f).thm = s.thm := rfl
@[simp] theorem modAux_bst (s : State) (f : Aux → Aux) : (s.modAux f).bst = s.bst := rfl
@[simp] theorem modAux_patina (s : State) (f : Aux → Aux) : (s.modAux f).patina = s.patina := rfl
@[simp] theorem modAux_pwr (s : State) (f : Aux → Aux) : (s.modAux f).pwr = s.pwr := rfl
@[simp] theorem modAux_net (s : State) (f : Aux → Aux) : (s.modAux f).net = s.net := rfl
@[simp] theorem modAmc_axt (s : State) (k : Fin 6) (f : Amc → Amc) : (s.modAmc k f).axt = s.axt := rfl
@[simp] theorem modAmc_follow (s : State) (k : Fin 6) (f : Amc → Amc) : (s.modAmc k f).follow = s.follow := rfl
@[simp] theorem modAmc_xing (s : State) (k : Fin 6) (f : Amc → Amc) : (s.modAmc k f).xing = s.xing := rfl
@[simp] theorem modAmc_pending (s : State) (k : Fin 6) (f : Amc → Amc) : (s.modAmc k f).pending = s.pending := rfl
@[simp] theorem modAmc_objs (s : State) (k : Fin 6) (f : Amc → Amc) : (s.modAmc k f).objs = s.objs := rfl
@[simp] theorem modAmc_flash (s : State) (k : Fin 6) (f : Amc → Amc) : (s.modAmc k f).flash = s.flash := rfl
@[simp] theorem modAmc_dirty (s : State) (k : Fin 6) (f : Amc → Amc) : (s.modAmc k f).dirty = s.dirty := rfl
@[simp] theorem modAmc_free (s : State) (k : Fin 6) (f : Amc → Amc) : (s.modAmc k f).free = s.free := rfl
@[simp] theorem modAmc_evLast (s : State) (k : Fin 6) (f : Amc → Amc) : (s.modAmc k f).evLast = s.evLast := rfl
@[simp] theorem modAmc_sent (s : State) (k : Fin 6) (f : Amc → Amc) : (s.modAmc k f).sent = s.sent := rfl
@[simp] theorem modAmc_clk (s : State) (k : Fin 6) (f : Amc → Amc) : (s.modAmc k f).clk = s.clk := rfl
@[simp] theorem modAmc_hosts (s : State) (k : Fin 6) (f : Amc → Amc) : (s.modAmc k f).hosts = s.hosts := rfl
@[simp] theorem modAmc_disp (s : State) (k : Fin 6) (f : Amc → Amc) : (s.modAmc k f).disp = s.disp := rfl
@[simp] theorem modAmc_later (s : State) (k : Fin 6) (f : Amc → Amc) : (s.modAmc k f).later = s.later := rfl
@[simp] theorem modAmc_xmem (s : State) (k : Fin 6) (f : Amc → Amc) : (s.modAmc k f).xmem = s.xmem := rfl
@[simp] theorem modAmc_forceA (s : State) (k : Fin 6) (f : Amc → Amc) : (s.modAmc k f).forceA = s.forceA := rfl
@[simp] theorem modAmc_forceB (s : State) (k : Fin 6) (f : Amc → Amc) : (s.modAmc k f).forceB = s.forceB := rfl
@[simp] theorem modAmc_links (s : State) (k : Fin 6) (f : Amc → Amc) : (s.modAmc k f).links = s.links := rfl
@[simp] theorem modAmc_cgs (s : State) (k : Fin 6) (f : Amc → Amc) : (s.modAmc k f).cgs = s.cgs := rfl
@[simp] theorem modAmc_trx (s : State) (k : Fin 6) (f : Amc → Amc) : (s.modAmc k f).trx = s.trx := rfl
@[simp] theorem modAmc_ctx (s : State) (k : Fin 6) (f : Amc → Amc) : (s.modAmc k f).ctx = s.ctx := rfl
@[simp] theorem modAmc_tb (s : State) (k : Fin 6) (f : Amc → Amc) : (s.modAmc k f).tb = s.tb := rfl
@[simp] theorem modAmc_traceReads (s : State) (k : Fin 6) (f : Amc → Amc) : (s.modAmc k f).traceReads = s.traceReads := rfl
@[simp] theorem modAmc_dcl (s : State) (k : Fin 6) (f : Amc → Amc) : (s.modAmc k f).dcl = s.dcl := rfl
@[simp] theorem modAmc_ptg (s : State) (k : Fin 6) (f : Amc → Amc) : (s.modAmc k f).ptg = s.ptg := rfl
@[simp] theorem modAmc_adc (s : State) (k : Fin 6) (f : Amc → Amc) : (s.modAmc k f).adc = s.adc := rfl
@[simp] theorem modAmc_pos (s : State) (k : Fin 6) (f : Amc → Amc) : (s.modAmc k f).pos = s.pos := rfl
@[simp] theorem modAmc_prb (s : State) (k : Fin 6) (f : Amc → Amc) : (s.modAmc k f).prb = s.prb := rfl
@[simp] theorem modAmc_chg (s : State) (k : Fin 6) (f : Amc → Amc) : (s.modAmc k f).chg = s.chg := rfl
@[simp] theorem modAmc_aux (s : State) (k : Fin 6) (f : Amc → Amc) : (s.modAmc k f).aux = s.aux := rfl
@[simp] theorem modAmc_amc (s : State) (k : Fin 6) (f : Amc → Amc) : (s.modAmc k f).amc = s.amc.set k (f s.amc[k]) := rfl
@[simp] theorem modAmc_rpk (s : State) (k : Fin 6) (f : Amc → Amc) : (s.modAmc k f).rpk = s.rpk := rfl
@[simp] theorem modAmc_hpn (s : State) (k : Fin 6) (f : Amc → Amc) : (s.modAmc k f).hpn = s.hpn := rfl
@[simp] theorem modAmc_sec (s : State) (k : Fin 6) (f : Amc → Amc) : (s.modAmc k f).sec = s.sec := rfl
@[simp] theorem modAmc_upd (s : State) (k : Fin 6) (f : Amc → Amc) : (s.modAmc k f).upd = s.upd := rfl
@[simp] theorem modAmc_thm (s : State) (k : Fin 6) (f : Amc → Amc) : (s.modAmc k f).thm = s.thm := rfl
@[simp] theorem modAmc_bst (s : State) (k : Fin 6) (f : Amc → Amc) : (s.modAmc k f).bst = s.bst := rfl
@[simp] theorem modAmc_patina (s : State) (k : Fin 6) (f : Amc → Amc) : (s.modAmc k f).patina = s.patina := rfl
@[simp] theorem modAmc_pwr (s : State) (k : Fin 6) (f : Amc → Amc) : (s.modAmc k f).pwr = s.pwr := rfl
@[simp] theorem modAmc_net (s : State) (k : Fin 6) (f : Amc → Amc) : (s.modAmc k f).net = s.net := rfl
@[simp] theorem modRpk_axt (s : State) (f : Rpk → Rpk) : (s.modRpk f).axt = s.axt := rfl
@[simp] theorem modRpk_follow (s : State) (f : Rpk → Rpk) : (s.modRpk f).follow = s.follow := rfl
@[simp] theorem modRpk_xing (s : State) (f : Rpk → Rpk) : (s.modRpk f).xing = s.xing := rfl
@[simp] theorem modRpk_pending (s : State) (f : Rpk → Rpk) : (s.modRpk f).pending = s.pending := rfl
@[simp] theorem modRpk_objs (s : State) (f : Rpk → Rpk) : (s.modRpk f).objs = s.objs := rfl
@[simp] theorem modRpk_flash (s : State) (f : Rpk → Rpk) : (s.modRpk f).flash = s.flash := rfl
@[simp] theorem modRpk_dirty (s : State) (f : Rpk → Rpk) : (s.modRpk f).dirty = s.dirty := rfl
@[simp] theorem modRpk_free (s : State) (f : Rpk → Rpk) : (s.modRpk f).free = s.free := rfl
@[simp] theorem modRpk_evLast (s : State) (f : Rpk → Rpk) : (s.modRpk f).evLast = s.evLast := rfl
@[simp] theorem modRpk_sent (s : State) (f : Rpk → Rpk) : (s.modRpk f).sent = s.sent := rfl
@[simp] theorem modRpk_clk (s : State) (f : Rpk → Rpk) : (s.modRpk f).clk = s.clk := rfl
@[simp] theorem modRpk_hosts (s : State) (f : Rpk → Rpk) : (s.modRpk f).hosts = s.hosts := rfl
@[simp] theorem modRpk_disp (s : State) (f : Rpk → Rpk) : (s.modRpk f).disp = s.disp := rfl
@[simp] theorem modRpk_later (s : State) (f : Rpk → Rpk) : (s.modRpk f).later = s.later := rfl
@[simp] theorem modRpk_xmem (s : State) (f : Rpk → Rpk) : (s.modRpk f).xmem = s.xmem := rfl
@[simp] theorem modRpk_forceA (s : State) (f : Rpk → Rpk) : (s.modRpk f).forceA = s.forceA := rfl
@[simp] theorem modRpk_forceB (s : State) (f : Rpk → Rpk) : (s.modRpk f).forceB = s.forceB := rfl
@[simp] theorem modRpk_links (s : State) (f : Rpk → Rpk) : (s.modRpk f).links = s.links := rfl
@[simp] theorem modRpk_cgs (s : State) (f : Rpk → Rpk) : (s.modRpk f).cgs = s.cgs := rfl
@[simp] theorem modRpk_trx (s : State) (f : Rpk → Rpk) : (s.modRpk f).trx = s.trx := rfl
@[simp] theorem modRpk_ctx (s : State) (f : Rpk → Rpk) : (s.modRpk f).ctx = s.ctx := rfl
@[simp] theorem modRpk_tb (s : State) (f : Rpk → Rpk) : (s.modRpk f).tb = s.tb := rfl
@[simp] theorem modRpk_traceReads (s : State) (f : Rpk → Rpk) : (s.modRpk f).traceReads = s.traceReads := rfl
@[simp] theorem modRpk_dcl (s : State) (f : Rpk → Rpk) : (s.modRpk f).dcl = s.dcl := rfl
@[simp] theorem modRpk_ptg (s : State) (f : Rpk → Rpk) : (s.modRpk f).ptg = s.ptg := rfl
@[simp] theorem modRpk_adc (s : State) (f : Rpk → Rpk) : (s.modRpk f).adc = s.adc := rfl
@[simp] theorem modRpk_pos (s : State) (f : Rpk → Rpk) : (s.modRpk f).pos = s.pos := rfl
@[simp] theorem modRpk_prb (s : State) (f : Rpk → Rpk) : (s.modRpk f).prb = s.prb := rfl
@[simp] theorem modRpk_chg (s : State) (f : Rpk → Rpk) : (s.modRpk f).chg = s.chg := rfl
@[simp] theorem modRpk_aux (s : State) (f : Rpk → Rpk) : (s.modRpk f).aux = s.aux := rfl
@[simp] theorem modRpk_amc (s : State) (f : Rpk → Rpk) : (s.modRpk f).amc = s.amc := rfl
@[simp] theorem modRpk_rpk (s : State) (f : Rpk → Rpk) : (s.modRpk f).rpk = f s.rpk := rfl
@[simp] theorem modRpk_hpn (s : State) (f : Rpk → Rpk) : (s.modRpk f).hpn = s.hpn := rfl
@[simp] theorem modRpk_sec (s : State) (f : Rpk → Rpk) : (s.modRpk f).sec = s.sec := rfl
@[simp] theorem modRpk_upd (s : State) (f : Rpk → Rpk) : (s.modRpk f).upd = s.upd := rfl
@[simp] theorem modRpk_thm (s : State) (f : Rpk → Rpk) : (s.modRpk f).thm = s.thm := rfl
@[simp] theorem modRpk_bst (s : State) (f : Rpk → Rpk) : (s.modRpk f).bst = s.bst := rfl
@[simp] theorem modRpk_patina (s : State) (f : Rpk → Rpk) : (s.modRpk f).patina = s.patina := rfl
@[simp] theorem modRpk_pwr (s : State) (f : Rpk → Rpk) : (s.modRpk f).pwr = s.pwr := rfl
@[simp] theorem modRpk_net (s : State) (f : Rpk → Rpk) : (s.modRpk f).net = s.net := rfl
@[simp] theorem modSec_axt (s : State) (f : Sec → Sec) : (s.modSec f).axt = s.axt := rfl
@[simp] theorem modSec_follow (s : State) (f : Sec → Sec) : (s.modSec f).follow = s.follow := rfl
@[simp] theorem modSec_xing (s : State) (f : Sec → Sec) : (s.modSec f).xing = s.xing := rfl
@[simp] theorem modSec_pending (s : State) (f : Sec → Sec) : (s.modSec f).pending = s.pending := rfl
@[simp] theorem modSec_objs (s : State) (f : Sec → Sec) : (s.modSec f).objs = s.objs := rfl
@[simp] theorem modSec_flash (s : State) (f : Sec → Sec) : (s.modSec f).flash = s.flash := rfl
@[simp] theorem modSec_dirty (s : State) (f : Sec → Sec) : (s.modSec f).dirty = s.dirty := rfl
@[simp] theorem modSec_free (s : State) (f : Sec → Sec) : (s.modSec f).free = s.free := rfl
@[simp] theorem modSec_evLast (s : State) (f : Sec → Sec) : (s.modSec f).evLast = s.evLast := rfl
@[simp] theorem modSec_sent (s : State) (f : Sec → Sec) : (s.modSec f).sent = s.sent := rfl
@[simp] theorem modSec_clk (s : State) (f : Sec → Sec) : (s.modSec f).clk = s.clk := rfl
@[simp] theorem modSec_hosts (s : State) (f : Sec → Sec) : (s.modSec f).hosts = s.hosts := rfl
@[simp] theorem modSec_disp (s : State) (f : Sec → Sec) : (s.modSec f).disp = s.disp := rfl
@[simp] theorem modSec_later (s : State) (f : Sec → Sec) : (s.modSec f).later = s.later := rfl
@[simp] theorem modSec_xmem (s : State) (f : Sec → Sec) : (s.modSec f).xmem = s.xmem := rfl
@[simp] theorem modSec_forceA (s : State) (f : Sec → Sec) : (s.modSec f).forceA = s.forceA := rfl
@[simp] theorem modSec_forceB (s : State) (f : Sec → Sec) : (s.modSec f).forceB = s.forceB := rfl
@[simp] theorem modSec_links (s : State) (f : Sec → Sec) : (s.modSec f).links = s.links := rfl
@[simp] theorem modSec_cgs (s : State) (f : Sec → Sec) : (s.modSec f).cgs = s.cgs := rfl
@[simp] theorem modSec_trx (s : State) (f : Sec → Sec) : (s.modSec f).trx = s.trx := rfl
@[simp] theorem modSec_ctx (s : State) (f : Sec → Sec) : (s.modSec f).ctx = s.ctx := rfl
@[simp] theorem modSec_tb (s : State) (f : Sec → Sec) : (s.modSec f).tb = s.tb := rfl
@[simp] theorem modSec_traceReads (s : State) (f : Sec → Sec) : (s.modSec f).traceReads = s.traceReads := rfl
@[simp] theorem modSec_dcl (s : State) (f : Sec → Sec) : (s.modSec f).dcl = s.dcl := rfl
@[simp] theorem modSec_ptg (s : State) (f : Sec → Sec) : (s.modSec f).ptg = s.ptg := rfl
@[simp] theorem modSec_adc (s : State) (f : Sec → Sec) : (s.modSec f).adc = s.adc := rfl
@[simp] theorem modSec_pos (s : State) (f : Sec → Sec) : (s.modSec f).pos = s.pos := rfl
@[simp] theorem modSec_prb (s : State) (f : Sec → Sec) : (s.modSec f).prb = s.prb := rfl
@[simp] theorem modSec_chg (s : State) (f : Sec → Sec) : (s.modSec f).chg = s.chg := rfl
@[simp] theorem modSec_aux (s : State) (f : Sec → Sec) : (s.modSec f).aux = s.aux := rfl
@[simp] theorem modSec_amc (s : State) (f : Sec → Sec) : (s.modSec f).amc = s.amc := rfl
@[simp] theorem modSec_rpk (s : State) (f : Sec → Sec) : (s.modSec f).rpk = s.rpk := rfl
@[simp] theorem modSec_hpn (s : State) (f : Sec → Sec) : (s.modSec f).hpn = s.hpn := rfl
@[simp] theorem modSec_sec (s : State) (f : Sec → Sec) : (s.modSec f).sec = f s.sec := rfl
@[simp] theorem modSec_upd (s : State) (f : Sec → Sec) : (s.modSec f).upd = s.upd := rfl
@[simp] theorem modSec_thm (s : State) (f : Sec → Sec) : (s.modSec f).thm = s.thm := rfl
@[simp] theorem modSec_bst (s : State) (f : Sec → Sec) : (s.modSec f).bst = s.bst := rfl
@[simp] theorem modSec_patina (s : State) (f : Sec → Sec) : (s.modSec f).patina = s.patina := rfl
@[simp] theorem modSec_pwr (s : State) (f : Sec → Sec) : (s.modSec f).pwr = s.pwr := rfl
@[simp] theorem modSec_net (s : State) (f : Sec → Sec) : (s.modSec f).net = s.net := rfl
@[simp] theorem modUpd_axt (s : State) (i : Fin 6) (f : UpdIsl → UpdIsl) : (s.modUpd i f).axt = s.axt := rfl
@[simp] theorem modUpd_follow (s : State) (i : Fin 6) (f : UpdIsl → UpdIsl) : (s.modUpd i f).follow = s.follow := rfl
@[simp] theorem modUpd_xing (s : State) (i : Fin 6) (f : UpdIsl → UpdIsl) : (s.modUpd i f).xing = s.xing := rfl
@[simp] theorem modUpd_pending (s : State) (i : Fin 6) (f : UpdIsl → UpdIsl) : (s.modUpd i f).pending = s.pending := rfl
@[simp] theorem modUpd_objs (s : State) (i : Fin 6) (f : UpdIsl → UpdIsl) : (s.modUpd i f).objs = s.objs := rfl
@[simp] theorem modUpd_flash (s : State) (i : Fin 6) (f : UpdIsl → UpdIsl) : (s.modUpd i f).flash = s.flash := rfl
@[simp] theorem modUpd_dirty (s : State) (i : Fin 6) (f : UpdIsl → UpdIsl) : (s.modUpd i f).dirty = s.dirty := rfl
@[simp] theorem modUpd_free (s : State) (i : Fin 6) (f : UpdIsl → UpdIsl) : (s.modUpd i f).free = s.free := rfl
@[simp] theorem modUpd_evLast (s : State) (i : Fin 6) (f : UpdIsl → UpdIsl) : (s.modUpd i f).evLast = s.evLast := rfl
@[simp] theorem modUpd_sent (s : State) (i : Fin 6) (f : UpdIsl → UpdIsl) : (s.modUpd i f).sent = s.sent := rfl
@[simp] theorem modUpd_clk (s : State) (i : Fin 6) (f : UpdIsl → UpdIsl) : (s.modUpd i f).clk = s.clk := rfl
@[simp] theorem modUpd_hosts (s : State) (i : Fin 6) (f : UpdIsl → UpdIsl) : (s.modUpd i f).hosts = s.hosts := rfl
@[simp] theorem modUpd_disp (s : State) (i : Fin 6) (f : UpdIsl → UpdIsl) : (s.modUpd i f).disp = s.disp := rfl
@[simp] theorem modUpd_later (s : State) (i : Fin 6) (f : UpdIsl → UpdIsl) : (s.modUpd i f).later = s.later := rfl
@[simp] theorem modUpd_xmem (s : State) (i : Fin 6) (f : UpdIsl → UpdIsl) : (s.modUpd i f).xmem = s.xmem := rfl
@[simp] theorem modUpd_forceA (s : State) (i : Fin 6) (f : UpdIsl → UpdIsl) : (s.modUpd i f).forceA = s.forceA := rfl
@[simp] theorem modUpd_forceB (s : State) (i : Fin 6) (f : UpdIsl → UpdIsl) : (s.modUpd i f).forceB = s.forceB := rfl
@[simp] theorem modUpd_links (s : State) (i : Fin 6) (f : UpdIsl → UpdIsl) : (s.modUpd i f).links = s.links := rfl
@[simp] theorem modUpd_cgs (s : State) (i : Fin 6) (f : UpdIsl → UpdIsl) : (s.modUpd i f).cgs = s.cgs := rfl
@[simp] theorem modUpd_trx (s : State) (i : Fin 6) (f : UpdIsl → UpdIsl) : (s.modUpd i f).trx = s.trx := rfl
@[simp] theorem modUpd_ctx (s : State) (i : Fin 6) (f : UpdIsl → UpdIsl) : (s.modUpd i f).ctx = s.ctx := rfl
@[simp] theorem modUpd_tb (s : State) (i : Fin 6) (f : UpdIsl → UpdIsl) : (s.modUpd i f).tb = s.tb := rfl
@[simp] theorem modUpd_traceReads (s : State) (i : Fin 6) (f : UpdIsl → UpdIsl) : (s.modUpd i f).traceReads = s.traceReads := rfl
@[simp] theorem modUpd_dcl (s : State) (i : Fin 6) (f : UpdIsl → UpdIsl) : (s.modUpd i f).dcl = s.dcl := rfl
@[simp] theorem modUpd_ptg (s : State) (i : Fin 6) (f : UpdIsl → UpdIsl) : (s.modUpd i f).ptg = s.ptg := rfl
@[simp] theorem modUpd_adc (s : State) (i : Fin 6) (f : UpdIsl → UpdIsl) : (s.modUpd i f).adc = s.adc := rfl
@[simp] theorem modUpd_pos (s : State) (i : Fin 6) (f : UpdIsl → UpdIsl) : (s.modUpd i f).pos = s.pos := rfl
@[simp] theorem modUpd_prb (s : State) (i : Fin 6) (f : UpdIsl → UpdIsl) : (s.modUpd i f).prb = s.prb := rfl
@[simp] theorem modUpd_chg (s : State) (i : Fin 6) (f : UpdIsl → UpdIsl) : (s.modUpd i f).chg = s.chg := rfl
@[simp] theorem modUpd_aux (s : State) (i : Fin 6) (f : UpdIsl → UpdIsl) : (s.modUpd i f).aux = s.aux := rfl
@[simp] theorem modUpd_amc (s : State) (i : Fin 6) (f : UpdIsl → UpdIsl) : (s.modUpd i f).amc = s.amc := rfl
@[simp] theorem modUpd_rpk (s : State) (i : Fin 6) (f : UpdIsl → UpdIsl) : (s.modUpd i f).rpk = s.rpk := rfl
@[simp] theorem modUpd_hpn (s : State) (i : Fin 6) (f : UpdIsl → UpdIsl) : (s.modUpd i f).hpn = s.hpn := rfl
@[simp] theorem modUpd_sec (s : State) (i : Fin 6) (f : UpdIsl → UpdIsl) : (s.modUpd i f).sec = s.sec := rfl
@[simp] theorem modUpd_upd (s : State) (i : Fin 6) (f : UpdIsl → UpdIsl) : (s.modUpd i f).upd = s.upd.set i (f s.upd[i]) := rfl
@[simp] theorem modUpd_thm (s : State) (i : Fin 6) (f : UpdIsl → UpdIsl) : (s.modUpd i f).thm = s.thm := rfl
@[simp] theorem modUpd_bst (s : State) (i : Fin 6) (f : UpdIsl → UpdIsl) : (s.modUpd i f).bst = s.bst := rfl
@[simp] theorem modUpd_patina (s : State) (i : Fin 6) (f : UpdIsl → UpdIsl) : (s.modUpd i f).patina = s.patina := rfl
@[simp] theorem modUpd_pwr (s : State) (i : Fin 6) (f : UpdIsl → UpdIsl) : (s.modUpd i f).pwr = s.pwr := rfl
@[simp] theorem modUpd_net (s : State) (i : Fin 6) (f : UpdIsl → UpdIsl) : (s.modUpd i f).net = s.net := rfl
@[simp] theorem modThm_axt (s : State) (f : Thm → Thm) : (s.modThm f).axt = s.axt := rfl
@[simp] theorem modThm_follow (s : State) (f : Thm → Thm) : (s.modThm f).follow = s.follow := rfl
@[simp] theorem modThm_xing (s : State) (f : Thm → Thm) : (s.modThm f).xing = s.xing := rfl
@[simp] theorem modThm_pending (s : State) (f : Thm → Thm) : (s.modThm f).pending = s.pending := rfl
@[simp] theorem modThm_objs (s : State) (f : Thm → Thm) : (s.modThm f).objs = s.objs := rfl
@[simp] theorem modThm_flash (s : State) (f : Thm → Thm) : (s.modThm f).flash = s.flash := rfl
@[simp] theorem modThm_dirty (s : State) (f : Thm → Thm) : (s.modThm f).dirty = s.dirty := rfl
@[simp] theorem modThm_free (s : State) (f : Thm → Thm) : (s.modThm f).free = s.free := rfl
@[simp] theorem modThm_evLast (s : State) (f : Thm → Thm) : (s.modThm f).evLast = s.evLast := rfl
@[simp] theorem modThm_sent (s : State) (f : Thm → Thm) : (s.modThm f).sent = s.sent := rfl
@[simp] theorem modThm_clk (s : State) (f : Thm → Thm) : (s.modThm f).clk = s.clk := rfl
@[simp] theorem modThm_hosts (s : State) (f : Thm → Thm) : (s.modThm f).hosts = s.hosts := rfl
@[simp] theorem modThm_disp (s : State) (f : Thm → Thm) : (s.modThm f).disp = s.disp := rfl
@[simp] theorem modThm_later (s : State) (f : Thm → Thm) : (s.modThm f).later = s.later := rfl
@[simp] theorem modThm_xmem (s : State) (f : Thm → Thm) : (s.modThm f).xmem = s.xmem := rfl
@[simp] theorem modThm_forceA (s : State) (f : Thm → Thm) : (s.modThm f).forceA = s.forceA := rfl
@[simp] theorem modThm_forceB (s : State) (f : Thm → Thm) : (s.modThm f).forceB = s.forceB := rfl
@[simp] theorem modThm_links (s : State) (f : Thm → Thm) : (s.modThm f).links = s.links := rfl
@[simp] theorem modThm_cgs (s : State) (f : Thm → Thm) : (s.modThm f).cgs = s.cgs := rfl
@[simp] theorem modThm_trx (s : State) (f : Thm → Thm) : (s.modThm f).trx = s.trx := rfl
@[simp] theorem modThm_ctx (s : State) (f : Thm → Thm) : (s.modThm f).ctx = s.ctx := rfl
@[simp] theorem modThm_tb (s : State) (f : Thm → Thm) : (s.modThm f).tb = s.tb := rfl
@[simp] theorem modThm_traceReads (s : State) (f : Thm → Thm) : (s.modThm f).traceReads = s.traceReads := rfl
@[simp] theorem modThm_dcl (s : State) (f : Thm → Thm) : (s.modThm f).dcl = s.dcl := rfl
@[simp] theorem modThm_ptg (s : State) (f : Thm → Thm) : (s.modThm f).ptg = s.ptg := rfl
@[simp] theorem modThm_adc (s : State) (f : Thm → Thm) : (s.modThm f).adc = s.adc := rfl
@[simp] theorem modThm_pos (s : State) (f : Thm → Thm) : (s.modThm f).pos = s.pos := rfl
@[simp] theorem modThm_prb (s : State) (f : Thm → Thm) : (s.modThm f).prb = s.prb := rfl
@[simp] theorem modThm_chg (s : State) (f : Thm → Thm) : (s.modThm f).chg = s.chg := rfl
@[simp] theorem modThm_aux (s : State) (f : Thm → Thm) : (s.modThm f).aux = s.aux := rfl
@[simp] theorem modThm_amc (s : State) (f : Thm → Thm) : (s.modThm f).amc = s.amc := rfl
@[simp] theorem modThm_rpk (s : State) (f : Thm → Thm) : (s.modThm f).rpk = s.rpk := rfl
@[simp] theorem modThm_hpn (s : State) (f : Thm → Thm) : (s.modThm f).hpn = s.hpn := rfl
@[simp] theorem modThm_sec (s : State) (f : Thm → Thm) : (s.modThm f).sec = s.sec := rfl
@[simp] theorem modThm_upd (s : State) (f : Thm → Thm) : (s.modThm f).upd = s.upd := rfl
@[simp] theorem modThm_thm (s : State) (f : Thm → Thm) : (s.modThm f).thm = f s.thm := rfl
@[simp] theorem modThm_bst (s : State) (f : Thm → Thm) : (s.modThm f).bst = s.bst := rfl
@[simp] theorem modThm_patina (s : State) (f : Thm → Thm) : (s.modThm f).patina = s.patina := rfl
@[simp] theorem modThm_pwr (s : State) (f : Thm → Thm) : (s.modThm f).pwr = s.pwr := rfl
@[simp] theorem modThm_net (s : State) (f : Thm → Thm) : (s.modThm f).net = s.net := rfl
@[simp] theorem modBst_axt (s : State) (f : Bst → Bst) : (s.modBst f).axt = s.axt := rfl
@[simp] theorem modBst_follow (s : State) (f : Bst → Bst) : (s.modBst f).follow = s.follow := rfl
@[simp] theorem modBst_xing (s : State) (f : Bst → Bst) : (s.modBst f).xing = s.xing := rfl
@[simp] theorem modBst_pending (s : State) (f : Bst → Bst) : (s.modBst f).pending = s.pending := rfl
@[simp] theorem modBst_objs (s : State) (f : Bst → Bst) : (s.modBst f).objs = s.objs := rfl
@[simp] theorem modBst_flash (s : State) (f : Bst → Bst) : (s.modBst f).flash = s.flash := rfl
@[simp] theorem modBst_dirty (s : State) (f : Bst → Bst) : (s.modBst f).dirty = s.dirty := rfl
@[simp] theorem modBst_free (s : State) (f : Bst → Bst) : (s.modBst f).free = s.free := rfl
@[simp] theorem modBst_evLast (s : State) (f : Bst → Bst) : (s.modBst f).evLast = s.evLast := rfl
@[simp] theorem modBst_sent (s : State) (f : Bst → Bst) : (s.modBst f).sent = s.sent := rfl
@[simp] theorem modBst_clk (s : State) (f : Bst → Bst) : (s.modBst f).clk = s.clk := rfl
@[simp] theorem modBst_hosts (s : State) (f : Bst → Bst) : (s.modBst f).hosts = s.hosts := rfl
@[simp] theorem modBst_disp (s : State) (f : Bst → Bst) : (s.modBst f).disp = s.disp := rfl
@[simp] theorem modBst_later (s : State) (f : Bst → Bst) : (s.modBst f).later = s.later := rfl
@[simp] theorem modBst_xmem (s : State) (f : Bst → Bst) : (s.modBst f).xmem = s.xmem := rfl
@[simp] theorem modBst_forceA (s : State) (f : Bst → Bst) : (s.modBst f).forceA = s.forceA := rfl
@[simp] theorem modBst_forceB (s : State) (f : Bst → Bst) : (s.modBst f).forceB = s.forceB := rfl
@[simp] theorem modBst_links (s : State) (f : Bst → Bst) : (s.modBst f).links = s.links := rfl
@[simp] theorem modBst_cgs (s : State) (f : Bst → Bst) : (s.modBst f).cgs = s.cgs := rfl
@[simp] theorem modBst_trx (s : State) (f : Bst → Bst) : (s.modBst f).trx = s.trx := rfl
@[simp] theorem modBst_ctx (s : State) (f : Bst → Bst) : (s.modBst f).ctx = s.ctx := rfl
@[simp] theorem modBst_tb (s : State) (f : Bst → Bst) : (s.modBst f).tb = s.tb := rfl
@[simp] theorem modBst_traceReads (s : State) (f : Bst → Bst) : (s.modBst f).traceReads = s.traceReads := rfl
@[simp] theorem modBst_dcl (s : State) (f : Bst → Bst) : (s.modBst f).dcl = s.dcl := rfl
@[simp] theorem modBst_ptg (s : State) (f : Bst → Bst) : (s.modBst f).ptg = s.ptg := rfl
@[simp] theorem modBst_adc (s : State) (f : Bst → Bst) : (s.modBst f).adc = s.adc := rfl
@[simp] theorem modBst_pos (s : State) (f : Bst → Bst) : (s.modBst f).pos = s.pos := rfl
@[simp] theorem modBst_prb (s : State) (f : Bst → Bst) : (s.modBst f).prb = s.prb := rfl
@[simp] theorem modBst_chg (s : State) (f : Bst → Bst) : (s.modBst f).chg = s.chg := rfl
@[simp] theorem modBst_aux (s : State) (f : Bst → Bst) : (s.modBst f).aux = s.aux := rfl
@[simp] theorem modBst_amc (s : State) (f : Bst → Bst) : (s.modBst f).amc = s.amc := rfl
@[simp] theorem modBst_rpk (s : State) (f : Bst → Bst) : (s.modBst f).rpk = s.rpk := rfl
@[simp] theorem modBst_hpn (s : State) (f : Bst → Bst) : (s.modBst f).hpn = s.hpn := rfl
@[simp] theorem modBst_sec (s : State) (f : Bst → Bst) : (s.modBst f).sec = s.sec := rfl
@[simp] theorem modBst_upd (s : State) (f : Bst → Bst) : (s.modBst f).upd = s.upd := rfl
@[simp] theorem modBst_thm (s : State) (f : Bst → Bst) : (s.modBst f).thm = s.thm := rfl
@[simp] theorem modBst_bst (s : State) (f : Bst → Bst) : (s.modBst f).bst = f s.bst := rfl
@[simp] theorem modBst_patina (s : State) (f : Bst → Bst) : (s.modBst f).patina = s.patina := rfl
@[simp] theorem modBst_pwr (s : State) (f : Bst → Bst) : (s.modBst f).pwr = s.pwr := rfl
@[simp] theorem modBst_net (s : State) (f : Bst → Bst) : (s.modBst f).net = s.net := rfl
@[simp] theorem modPwr_axt (s : State) (f : Pwr → Pwr) : (s.modPwr f).axt = s.axt := rfl
@[simp] theorem modPwr_follow (s : State) (f : Pwr → Pwr) : (s.modPwr f).follow = s.follow := rfl
@[simp] theorem modPwr_xing (s : State) (f : Pwr → Pwr) : (s.modPwr f).xing = s.xing := rfl
@[simp] theorem modPwr_pending (s : State) (f : Pwr → Pwr) : (s.modPwr f).pending = s.pending := rfl
@[simp] theorem modPwr_objs (s : State) (f : Pwr → Pwr) : (s.modPwr f).objs = s.objs := rfl
@[simp] theorem modPwr_flash (s : State) (f : Pwr → Pwr) : (s.modPwr f).flash = s.flash := rfl
@[simp] theorem modPwr_dirty (s : State) (f : Pwr → Pwr) : (s.modPwr f).dirty = s.dirty := rfl
@[simp] theorem modPwr_free (s : State) (f : Pwr → Pwr) : (s.modPwr f).free = s.free := rfl
@[simp] theorem modPwr_evLast (s : State) (f : Pwr → Pwr) : (s.modPwr f).evLast = s.evLast := rfl
@[simp] theorem modPwr_sent (s : State) (f : Pwr → Pwr) : (s.modPwr f).sent = s.sent := rfl
@[simp] theorem modPwr_clk (s : State) (f : Pwr → Pwr) : (s.modPwr f).clk = s.clk := rfl
@[simp] theorem modPwr_hosts (s : State) (f : Pwr → Pwr) : (s.modPwr f).hosts = s.hosts := rfl
@[simp] theorem modPwr_disp (s : State) (f : Pwr → Pwr) : (s.modPwr f).disp = s.disp := rfl
@[simp] theorem modPwr_later (s : State) (f : Pwr → Pwr) : (s.modPwr f).later = s.later := rfl
@[simp] theorem modPwr_xmem (s : State) (f : Pwr → Pwr) : (s.modPwr f).xmem = s.xmem := rfl
@[simp] theorem modPwr_forceA (s : State) (f : Pwr → Pwr) : (s.modPwr f).forceA = s.forceA := rfl
@[simp] theorem modPwr_forceB (s : State) (f : Pwr → Pwr) : (s.modPwr f).forceB = s.forceB := rfl
@[simp] theorem modPwr_links (s : State) (f : Pwr → Pwr) : (s.modPwr f).links = s.links := rfl
@[simp] theorem modPwr_cgs (s : State) (f : Pwr → Pwr) : (s.modPwr f).cgs = s.cgs := rfl
@[simp] theorem modPwr_trx (s : State) (f : Pwr → Pwr) : (s.modPwr f).trx = s.trx := rfl
@[simp] theorem modPwr_ctx (s : State) (f : Pwr → Pwr) : (s.modPwr f).ctx = s.ctx := rfl
@[simp] theorem modPwr_tb (s : State) (f : Pwr → Pwr) : (s.modPwr f).tb = s.tb := rfl
@[simp] theorem modPwr_traceReads (s : State) (f : Pwr → Pwr) : (s.modPwr f).traceReads = s.traceReads := rfl
@[simp] theorem modPwr_dcl (s : State) (f : Pwr → Pwr) : (s.modPwr f).dcl = s.dcl := rfl
@[simp] theorem modPwr_ptg (s : State) (f : Pwr → Pwr) : (s.modPwr f).ptg = s.ptg := rfl
@[simp] theorem modPwr_adc (s : State) (f : Pwr → Pwr) : (s.modPwr f).adc = s.adc := rfl
@[simp] theorem modPwr_pos (s : State) (f : Pwr → Pwr) : (s.modPwr f).pos = s.pos := rfl
@[simp] theorem modPwr_prb (s : State) (f : Pwr → Pwr) : (s.modPwr f).prb = s.prb := rfl
@[simp] theorem modPwr_chg (s : State) (f : Pwr → Pwr) : (s.modPwr f).chg = s.chg := rfl
@[simp] theorem modPwr_aux (s : State) (f : Pwr → Pwr) : (s.modPwr f).aux = s.aux := rfl
@[simp] theorem modPwr_amc (s : State) (f : Pwr → Pwr) : (s.modPwr f).amc = s.amc := rfl
@[simp] theorem modPwr_rpk (s : State) (f : Pwr → Pwr) : (s.modPwr f).rpk = s.rpk := rfl
@[simp] theorem modPwr_hpn (s : State) (f : Pwr → Pwr) : (s.modPwr f).hpn = s.hpn := rfl
@[simp] theorem modPwr_sec (s : State) (f : Pwr → Pwr) : (s.modPwr f).sec = s.sec := rfl
@[simp] theorem modPwr_upd (s : State) (f : Pwr → Pwr) : (s.modPwr f).upd = s.upd := rfl
@[simp] theorem modPwr_thm (s : State) (f : Pwr → Pwr) : (s.modPwr f).thm = s.thm := rfl
@[simp] theorem modPwr_bst (s : State) (f : Pwr → Pwr) : (s.modPwr f).bst = s.bst := rfl
@[simp] theorem modPwr_patina (s : State) (f : Pwr → Pwr) : (s.modPwr f).patina = s.patina := rfl
@[simp] theorem modPwr_pwr (s : State) (f : Pwr → Pwr) : (s.modPwr f).pwr = f s.pwr := rfl
@[simp] theorem modPwr_net (s : State) (f : Pwr → Pwr) : (s.modPwr f).net = s.net := rfl
@[simp] theorem modNet_axt (s : State) (f : Net → Net) : (s.modNet f).axt = s.axt := rfl
@[simp] theorem modNet_follow (s : State) (f : Net → Net) : (s.modNet f).follow = s.follow := rfl
@[simp] theorem modNet_xing (s : State) (f : Net → Net) : (s.modNet f).xing = s.xing := rfl
@[simp] theorem modNet_pending (s : State) (f : Net → Net) : (s.modNet f).pending = s.pending := rfl
@[simp] theorem modNet_objs (s : State) (f : Net → Net) : (s.modNet f).objs = s.objs := rfl
@[simp] theorem modNet_flash (s : State) (f : Net → Net) : (s.modNet f).flash = s.flash := rfl
@[simp] theorem modNet_dirty (s : State) (f : Net → Net) : (s.modNet f).dirty = s.dirty := rfl
@[simp] theorem modNet_free (s : State) (f : Net → Net) : (s.modNet f).free = s.free := rfl
@[simp] theorem modNet_evLast (s : State) (f : Net → Net) : (s.modNet f).evLast = s.evLast := rfl
@[simp] theorem modNet_sent (s : State) (f : Net → Net) : (s.modNet f).sent = s.sent := rfl
@[simp] theorem modNet_clk (s : State) (f : Net → Net) : (s.modNet f).clk = s.clk := rfl
@[simp] theorem modNet_hosts (s : State) (f : Net → Net) : (s.modNet f).hosts = s.hosts := rfl
@[simp] theorem modNet_disp (s : State) (f : Net → Net) : (s.modNet f).disp = s.disp := rfl
@[simp] theorem modNet_later (s : State) (f : Net → Net) : (s.modNet f).later = s.later := rfl
@[simp] theorem modNet_xmem (s : State) (f : Net → Net) : (s.modNet f).xmem = s.xmem := rfl
@[simp] theorem modNet_forceA (s : State) (f : Net → Net) : (s.modNet f).forceA = s.forceA := rfl
@[simp] theorem modNet_forceB (s : State) (f : Net → Net) : (s.modNet f).forceB = s.forceB := rfl
@[simp] theorem modNet_links (s : State) (f : Net → Net) : (s.modNet f).links = s.links := rfl
@[simp] theorem modNet_cgs (s : State) (f : Net → Net) : (s.modNet f).cgs = s.cgs := rfl
@[simp] theorem modNet_trx (s : State) (f : Net → Net) : (s.modNet f).trx = s.trx := rfl
@[simp] theorem modNet_ctx (s : State) (f : Net → Net) : (s.modNet f).ctx = s.ctx := rfl
@[simp] theorem modNet_tb (s : State) (f : Net → Net) : (s.modNet f).tb = s.tb := rfl
@[simp] theorem modNet_traceReads (s : State) (f : Net → Net) : (s.modNet f).traceReads = s.traceReads := rfl
@[simp] theorem modNet_dcl (s : State) (f : Net → Net) : (s.modNet f).dcl = s.dcl := rfl
@[simp] theorem modNet_ptg (s : State) (f : Net → Net) : (s.modNet f).ptg = s.ptg := rfl
@[simp] theorem modNet_adc (s : State) (f : Net → Net) : (s.modNet f).adc = s.adc := rfl
@[simp] theorem modNet_pos (s : State) (f : Net → Net) : (s.modNet f).pos = s.pos := rfl
@[simp] theorem modNet_prb (s : State) (f : Net → Net) : (s.modNet f).prb = s.prb := rfl
@[simp] theorem modNet_chg (s : State) (f : Net → Net) : (s.modNet f).chg = s.chg := rfl
@[simp] theorem modNet_aux (s : State) (f : Net → Net) : (s.modNet f).aux = s.aux := rfl
@[simp] theorem modNet_amc (s : State) (f : Net → Net) : (s.modNet f).amc = s.amc := rfl
@[simp] theorem modNet_rpk (s : State) (f : Net → Net) : (s.modNet f).rpk = s.rpk := rfl
@[simp] theorem modNet_hpn (s : State) (f : Net → Net) : (s.modNet f).hpn = s.hpn := rfl
@[simp] theorem modNet_sec (s : State) (f : Net → Net) : (s.modNet f).sec = s.sec := rfl
@[simp] theorem modNet_upd (s : State) (f : Net → Net) : (s.modNet f).upd = s.upd := rfl
@[simp] theorem modNet_thm (s : State) (f : Net → Net) : (s.modNet f).thm = s.thm := rfl
@[simp] theorem modNet_bst (s : State) (f : Net → Net) : (s.modNet f).bst = s.bst := rfl
@[simp] theorem modNet_patina (s : State) (f : Net → Net) : (s.modNet f).patina = s.patina := rfl
@[simp] theorem modNet_pwr (s : State) (f : Net → Net) : (s.modNet f).pwr = s.pwr := rfl
@[simp] theorem modNet_net (s : State) (f : Net → Net) : (s.modNet f).net = f s.net := rfl
@[simp] theorem modCan_axt (s : State) (n : Fin 4) (f : CanPort → CanPort) : (s.modCan n f).axt = s.axt := rfl
@[simp] theorem modCan_follow (s : State) (n : Fin 4) (f : CanPort → CanPort) : (s.modCan n f).follow = s.follow := rfl
@[simp] theorem modCan_xing (s : State) (n : Fin 4) (f : CanPort → CanPort) : (s.modCan n f).xing = s.xing := rfl
@[simp] theorem modCan_pending (s : State) (n : Fin 4) (f : CanPort → CanPort) : (s.modCan n f).pending = s.pending := rfl
@[simp] theorem modCan_objs (s : State) (n : Fin 4) (f : CanPort → CanPort) : (s.modCan n f).objs = s.objs := rfl
@[simp] theorem modCan_flash (s : State) (n : Fin 4) (f : CanPort → CanPort) : (s.modCan n f).flash = s.flash := rfl
@[simp] theorem modCan_dirty (s : State) (n : Fin 4) (f : CanPort → CanPort) : (s.modCan n f).dirty = s.dirty := rfl
@[simp] theorem modCan_free (s : State) (n : Fin 4) (f : CanPort → CanPort) : (s.modCan n f).free = s.free := rfl
@[simp] theorem modCan_evLast (s : State) (n : Fin 4) (f : CanPort → CanPort) : (s.modCan n f).evLast = s.evLast := rfl
@[simp] theorem modCan_sent (s : State) (n : Fin 4) (f : CanPort → CanPort) : (s.modCan n f).sent = s.sent := rfl
@[simp] theorem modCan_clk (s : State) (n : Fin 4) (f : CanPort → CanPort) : (s.modCan n f).clk = s.clk := rfl
@[simp] theorem modCan_hosts (s : State) (n : Fin 4) (f : CanPort → CanPort) : (s.modCan n f).hosts = s.hosts := rfl
@[simp] theorem modCan_disp (s : State) (n : Fin 4) (f : CanPort → CanPort) : (s.modCan n f).disp = s.disp := rfl
@[simp] theorem modCan_later (s : State) (n : Fin 4) (f : CanPort → CanPort) : (s.modCan n f).later = s.later := rfl
@[simp] theorem modCan_xmem (s : State) (n : Fin 4) (f : CanPort → CanPort) : (s.modCan n f).xmem = s.xmem := rfl
@[simp] theorem modCan_forceA (s : State) (n : Fin 4) (f : CanPort → CanPort) : (s.modCan n f).forceA = s.forceA := rfl
@[simp] theorem modCan_forceB (s : State) (n : Fin 4) (f : CanPort → CanPort) : (s.modCan n f).forceB = s.forceB := rfl
@[simp] theorem modCan_links (s : State) (n : Fin 4) (f : CanPort → CanPort) : (s.modCan n f).links = s.links := rfl
@[simp] theorem modCan_cgs (s : State) (n : Fin 4) (f : CanPort → CanPort) : (s.modCan n f).cgs = s.cgs := rfl
@[simp] theorem modCan_trx (s : State) (n : Fin 4) (f : CanPort → CanPort) : (s.modCan n f).trx = s.trx := rfl
@[simp] theorem modCan_ctx (s : State) (n : Fin 4) (f : CanPort → CanPort) : (s.modCan n f).ctx = s.ctx := rfl
@[simp] theorem modCan_tb (s : State) (n : Fin 4) (f : CanPort → CanPort) : (s.modCan n f).tb = s.tb := rfl
@[simp] theorem modCan_traceReads (s : State) (n : Fin 4) (f : CanPort → CanPort) : (s.modCan n f).traceReads = s.traceReads := rfl
@[simp] theorem modCan_dcl (s : State) (n : Fin 4) (f : CanPort → CanPort) : (s.modCan n f).dcl = s.dcl := rfl
@[simp] theorem modCan_ptg (s : State) (n : Fin 4) (f : CanPort → CanPort) : (s.modCan n f).ptg = s.ptg := rfl
@[simp] theorem modCan_adc (s : State) (n : Fin 4) (f : CanPort → CanPort) : (s.modCan n f).adc = s.adc := rfl
@[simp] theorem modCan_pos (s : State) (n : Fin 4) (f : CanPort → CanPort) : (s.modCan n f).pos = s.pos := rfl
@[simp] theorem modCan_prb (s : State) (n : Fin 4) (f : CanPort → CanPort) : (s.modCan n f).prb = s.prb := rfl
@[simp] theorem modCan_chg (s : State) (n : Fin 4) (f : CanPort → CanPort) : (s.modCan n f).chg = s.chg := rfl
@[simp] theorem modCan_aux (s : State) (n : Fin 4) (f : CanPort → CanPort) : (s.modCan n f).aux = s.aux := rfl
@[simp] theorem modCan_amc (s : State) (n : Fin 4) (f : CanPort → CanPort) : (s.modCan n f).amc = s.amc := rfl
@[simp] theorem modCan_rpk (s : State) (n : Fin 4) (f : CanPort → CanPort) : (s.modCan n f).rpk = s.rpk := rfl
@[simp] theorem modCan_hpn (s : State) (n : Fin 4) (f : CanPort → CanPort) : (s.modCan n f).hpn = s.hpn := rfl
@[simp] theorem modCan_sec (s : State) (n : Fin 4) (f : CanPort → CanPort) : (s.modCan n f).sec = s.sec := rfl
@[simp] theorem modCan_upd (s : State) (n : Fin 4) (f : CanPort → CanPort) : (s.modCan n f).upd = s.upd := rfl
@[simp] theorem modCan_thm (s : State) (n : Fin 4) (f : CanPort → CanPort) : (s.modCan n f).thm = s.thm := rfl
@[simp] theorem modCan_bst (s : State) (n : Fin 4) (f : CanPort → CanPort) : (s.modCan n f).bst = s.bst := rfl
@[simp] theorem modCan_patina (s : State) (n : Fin 4) (f : CanPort → CanPort) : (s.modCan n f).patina = s.patina := rfl
@[simp] theorem modCan_pwr (s : State) (n : Fin 4) (f : CanPort → CanPort) : (s.modCan n f).pwr = s.pwr := rfl
@[simp] theorem modCan_net (s : State) (n : Fin 4) (f : CanPort → CanPort) : (s.modCan n f).net = { s.net with can := s.net.can.set n (f s.net.can[n]) } := rfl

/-! ### The object store -/

theorem getO_congr {s t : State} (h : t.objs = s.objs) (id : Nat) : t.getO id = s.getO id := by simp only [getO, h]

@[simp] theorem getO_setO_same (s : State) (id v : Nat) : (s.setO id v).getO id = v := kGet_kSet_same s.objs (objDefault id) id v

theorem getO_setO_ne (s : State) {id j : Nat} (v : Nat) (h : j ≠ id) : (s.setO id v).getO j = s.getO j := by
  simp only [getO, setO, kGet_kSet_ne s.objs (objDefault id) v h]

/-- A write of another object leaves an object as it is, and the write of the object gives the value. -/
theorem getO_setO (s : State) (id j v : Nat) : (s.setO id v).getO j = if j = id then v else s.getO j := by
  by_cases h : j = id
  · subst h; simp
  · rw [getO_setO_ne s v h, if_neg h]

end State

end Sys2Proof.Machine
end

