-- ==== Sys2Proof/Laws/Frame.lean ====
section
/-! SUPPORT. What each operation of the machine leaves unchanged: one lemma per operation, which lists the parts it may
change. -/

set_option Elab.async false

namespace Sys2Proof.Machine

theorem Keeps.refl (l : List Part) (s : State) : Keeps l s s := ⟨fun p _ => by cases p <;> first | rfl | trivial | exact fun _ => rfl, fun _ _ => rfl⟩

/-- The pair a body answers keeps what its state keeps. -/
def KeepsP {β : Type} (l : List Part) (s : State) (x : State × β) : Prop := Keeps l s x.1

theorem KeepsP.fst {β : Type} {l : List Part} {s : State} {x : State × β} (h : KeepsP l s x) : Keeps l s x.1 := h
theorem KeepsP.mk {β : Type} {l : List Part} {s u : State} {r : β} (h : Keeps l s u) : KeepsP l s (u, r) := h
theorem Keeps.ite {l : List Part} {s a b : State} {c : Prop} {_ : Decidable c} (ha : Keeps l s a) (hb : Keeps l s b) :
    Keeps l s (if c then a else b) := by split <;> assumption
theorem Keeps.dite {l : List Part} {s : State} {c : Prop} {_ : Decidable c} {a : c → State} {b : ¬c → State}
    (ha : ∀ h, Keeps l s (a h)) (hb : ∀ h, Keeps l s (b h)) : Keeps l s (if h : c then a h else b h) := by
  split <;> apply_assumption
theorem KeepsP.ite {β : Type} {l : List Part} {s : State} {a b : State × β} {c : Prop} {_ : Decidable c} (ha : KeepsP l s a)
    (hb : KeepsP l s b) : KeepsP l s (if c then a else b) := by split <;> assumption
theorem KeepsP.dite {β : Type} {l : List Part} {s : State} {c : Prop} {_ : Decidable c} {a : c → State × β} {b : ¬c → State × β}
    (ha : ∀ h, KeepsP l s (a h)) (hb : ∀ h, KeepsP l s (b h)) : KeepsP l s (if h : c then a h else b h) := by
  split <;> apply_assumption
theorem inL {l l' : List Part} {p : Part} (hl : l' ⊆ l) (h : p ∈ l') : p ∈ l := hl h
theorem Keeps.foldl {α : Type} {l : List Part} {s u : State} {f : State → α → State} {xs : List α} (h : Keeps l s u)
    (hf : ∀ u a, a ∈ xs → Keeps l s u → Keeps l s (f u a)) : Keeps l s (xs.foldl f u) := by
  induction xs generalizing u with
  | nil => exact h
  | cons a t ih => exact ih (hf u a (by simp) h) fun u b hb => hf u b (by simp [hb])
theorem KeepsP.foldl {α β : Type} {l : List Part} {s : State} {x : State × β} {f : State × β → α → State × β} {xs : List α} (h : KeepsP l s x)
    (hf : ∀ u a, a ∈ xs → KeepsP l s u → KeepsP l s (f u a)) : KeepsP l s (xs.foldl f x) := by
  induction xs generalizing x with
  | nil => exact h
  | cons a t ih => exact ih (hf x a (by simp) h) fun u b hb => hf u b (by simp [hb])
theorem Keeps.trans {l : List Part} {s t u : State} (h : Keeps l s t) (k : Keeps l t u) : Keeps l s u :=
  ⟨fun p hp => by have := h.1 p hp; have := k.1 p hp; cases p <;> simp_all [Part.same], fun id hid => (k.2 id hid).trans (h.2 id hid)⟩
theorem Keeps.mono {l l' : List Part} {s t : State} (h : Keeps l s t) (hl : l ⊆ l') : Keeps l' s t :=
  ⟨fun p hp => h.1 p fun hq => hp (hl hq), fun id hid => h.2 id fun p hp => hid p (hl hp)⟩

theorem allObjs_has (id : Nat) : Part.allObjs.has id := trivial

/-- A state that keeps nothing but the queue. -/
theorem Keeps.of_pending {l : List Part} {s u t : State} (h : Keeps l s u) (hp : t.pending = u.pending)
    (hl : ∀ p : Part, p ≠ .pending → (∀ b k n, p ≠ .objs b k n) → p ∈ l) : Keeps l s t :=
  ⟨fun p hn => by
    have h0 := h.1 p hn
    cases p <;> first | exact hp.trans h0 | trivial | exact (hn (hl _ (by simp) (by simp))).elim,
   fun i hi => absurd trivial (hi _ (hl .allObjs (by simp) (by simp)))⟩

theorem HostPort.post_slots (p : HostPort) (e : Evt) : (p.post e).slots = p.slots := by unfold HostPort.post; split <;> rfl
theorem HostPort.settle_slots (p : HostPort) (t : Axt) : (p.settle t).slots = p.slots := by unfold HostPort.settle; split <;> rfl
theorem HostPort.post2_slots (p : HostPort) (e f : Evt) : (p.post2 e f).slots = p.slots := by
  unfold HostPort.post2; split
  · exact HostPort.settle_slots _ _
  · rfl

/-! ### One field set -/


theorem Keeps.set_adc {l : List Part} {s u : State} {x0 : _} (h : Keeps l s u) (h0 : Part.adc ∈ l) :
    Keeps l s { u with adc := x0 } :=
  ⟨fun p hp => by have := h.1 p hp; cases p <;> first | exact this | contradiction, h.2⟩

theorem Keeps.set_adc_prb_amc {l : List Part} {s u : State} {x0 : _} {x1 : _} {x2 : _} (h : Keeps l s u) (h0 : Part.adc ∈ l) (h1 : Part.prb ∈ l) (h2 : Part.amc ∈ l) :
    Keeps l s { u with adc := x0, prb := x1, amc := x2 } :=
  ⟨fun p hp => by have := h.1 p hp; cases p <;> first | exact this | contradiction, h.2⟩

theorem Keeps.set_amc {l : List Part} {s u : State} {x0 : _} (h : Keeps l s u) (h0 : Part.amc ∈ l) :
    Keeps l s { u with amc := x0 } :=
  ⟨fun p hp => by have := h.1 p hp; cases p <;> first | exact this | contradiction, h.2⟩

theorem Keeps.set_aux {l : List Part} {s u : State} {x0 : _} (h : Keeps l s u) (h0 : Part.aux ∈ l) :
    Keeps l s { u with aux := x0 } :=
  ⟨fun p hp => by have := h.1 p hp; cases p <;> first | exact this | contradiction, h.2⟩

theorem Keeps.set_axt_follow {l : List Part} {s u : State} {x0 : _} {x1 : _} (h : Keeps l s u) (h0 : Part.axt ∈ l) (h1 : Part.follow ∈ l) :
    Keeps l s { u with axt := x0, follow := x1 } :=
  ⟨fun p hp => by have := h.1 p hp; cases p <;> first | exact this | contradiction, h.2⟩

theorem Keeps.set_axt_follow_clk_rpk_pwr {l : List Part} {s u : State} {x0 : _} {x1 : _} {x2 : _} {x3 : _} {x4 : _} (h : Keeps l s u) (h0 : Part.axt ∈ l) (h1 : Part.follow ∈ l) (h2 : Part.clk ∈ l) (h3 : Part.rpk ∈ l) (h4 : Part.pwr ∈ l) :
    Keeps l s { u with axt := x0, follow := x1, clk := x2, rpk := x3, pwr := x4 } :=
  ⟨fun p hp => by have := h.1 p hp; cases p <;> first | exact this | contradiction, h.2⟩

theorem Keeps.set_bst {l : List Part} {s u : State} {x0 : _} (h : Keeps l s u) (h0 : Part.bst ∈ l) :
    Keeps l s { u with bst := x0 } :=
  ⟨fun p hp => by have := h.1 p hp; cases p <;> first | exact this | contradiction, h.2⟩

theorem Keeps.set_cgs {l : List Part} {s u : State} {x0 : _} (h : Keeps l s u) (h0 : Part.cgs ∈ l) :
    Keeps l s { u with cgs := x0 } :=
  ⟨fun p hp => by have := h.1 p hp; cases p <;> first | exact this | contradiction, h.2⟩

theorem Keeps.set_cgs_ctx_tb_traceReads {l : List Part} {s u : State} {x0 : _} {x1 : _} {x2 : _} {x3 : _} (h : Keeps l s u) (h0 : Part.cgs ∈ l) (h1 : Part.ctx ∈ l) (h2 : Part.tb ∈ l) (h3 : Part.traceReads ∈ l) :
    Keeps l s { u with cgs := x0, ctx := x1, tb := x2, traceReads := x3 } :=
  ⟨fun p hp => by have := h.1 p hp; cases p <;> first | exact this | contradiction, h.2⟩

theorem Keeps.set_chg {l : List Part} {s u : State} {x0 : _} (h : Keeps l s u) (h0 : Part.chg ∈ l) :
    Keeps l s { u with chg := x0 } :=
  ⟨fun p hp => by have := h.1 p hp; cases p <;> first | exact this | contradiction, h.2⟩

theorem Keeps.set_clk {l : List Part} {s u : State} {x0 : _} (h : Keeps l s u) (h0 : Part.clk ∈ l) :
    Keeps l s { u with clk := x0 } :=
  ⟨fun p hp => by have := h.1 p hp; cases p <;> first | exact this | contradiction, h.2⟩

theorem Keeps.set_ctx {l : List Part} {s u : State} {x0 : _} (h : Keeps l s u) (h0 : Part.ctx ∈ l) :
    Keeps l s { u with ctx := x0 } :=
  ⟨fun p hp => by have := h.1 p hp; cases p <;> first | exact this | contradiction, h.2⟩

theorem Keeps.set_dcl {l : List Part} {s u : State} {x0 : _} (h : Keeps l s u) (h0 : Part.dcl ∈ l) :
    Keeps l s { u with dcl := x0 } :=
  ⟨fun p hp => by have := h.1 p hp; cases p <;> first | exact this | contradiction, h.2⟩

theorem Keeps.set_dcl_ptg {l : List Part} {s u : State} {x0 : _} {x1 : _} (h : Keeps l s u) (h0 : Part.dcl ∈ l) (h1 : Part.ptg ∈ l) :
    Keeps l s { u with dcl := x0, ptg := x1 } :=
  ⟨fun p hp => by have := h.1 p hp; cases p <;> first | exact this | contradiction, h.2⟩

theorem Keeps.set_dirty {l : List Part} {s u : State} {x0 : _} (h : Keeps l s u) (h0 : Part.dirty ∈ l) :
    Keeps l s { u with dirty := x0 } :=
  ⟨fun p hp => by have := h.1 p hp; cases p <;> first | exact this | contradiction, h.2⟩

theorem Keeps.set_disp {l : List Part} {s u : State} {x0 : _} (h : Keeps l s u) (h0 : Part.disp ∈ l) :
    Keeps l s { u with disp := x0 } :=
  ⟨fun p hp => by have := h.1 p hp; cases p <;> first | exact this | contradiction, h.2⟩

theorem Keeps.set_disp_sec {l : List Part} {s u : State} {x0 : _} {x1 : _} (h : Keeps l s u) (h0 : Part.disp ∈ l) (h1 : Part.sec ∈ l) :
    Keeps l s { u with disp := x0, sec := x1 } :=
  ⟨fun p hp => by have := h.1 p hp; cases p <;> first | exact this | contradiction, h.2⟩

theorem Keeps.set_evLast {l : List Part} {s u : State} {x0 : _} (h : Keeps l s u) (h0 : Part.evLast ∈ l) :
    Keeps l s { u with evLast := x0 } :=
  ⟨fun p hp => by have := h.1 p hp; cases p <;> first | exact this | contradiction, h.2⟩

theorem Keeps.set_flash {l : List Part} {s u : State} {x0 : _} (h : Keeps l s u) (h0 : Part.flash ∈ l) :
    Keeps l s { u with flash := x0 } :=
  ⟨fun p hp => by have := h.1 p hp; cases p <;> first | exact this | contradiction, h.2⟩

theorem Keeps.set_flash_dirty {l : List Part} {s u : State} {x0 : _} {x1 : _} (h : Keeps l s u) (h0 : Part.flash ∈ l) (h1 : Part.dirty ∈ l) :
    Keeps l s { u with flash := x0, dirty := x1 } :=
  ⟨fun p hp => by have := h.1 p hp; cases p <;> first | exact this | contradiction, h.2⟩

theorem Keeps.set_forceA_forceB {l : List Part} {s u : State} {x0 : _} {x1 : _} (h : Keeps l s u) (h0 : Part.forceA ∈ l) (h1 : Part.forceB ∈ l) :
    Keeps l s { u with forceA := x0, forceB := x1 } :=
  ⟨fun p hp => by have := h.1 p hp; cases p <;> first | exact this | contradiction, h.2⟩

theorem Keeps.set_free {l : List Part} {s u : State} {x0 : _} (h : Keeps l s u) (h0 : Part.free ∈ l) :
    Keeps l s { u with free := x0 } :=
  ⟨fun p hp => by have := h.1 p hp; cases p <;> first | exact this | contradiction, h.2⟩

theorem Keeps.set_hosts {l : List Part} {s u : State} {x0 : _} (h : Keeps l s u) (h0 : Part.hosts ∈ l) (hsl : Part.slots ∈ l) :
    Keeps l s { u with hosts := x0 } :=
  ⟨fun p hp => by have := h.1 p hp; cases p <;> first | exact this | contradiction, h.2⟩

theorem Keeps.set_hosts_disp {l : List Part} {s u : State} {x0 : _} {x1 : _} (h : Keeps l s u) (h0 : Part.hosts ∈ l) (h1 : Part.disp ∈ l) (hsl : Part.slots ∈ l) :
    Keeps l s { u with hosts := x0, disp := x1 } :=
  ⟨fun p hp => by have := h.1 p hp; cases p <;> first | exact this | contradiction, h.2⟩

theorem Keeps.set_hosts_disp_later {l : List Part} {s u : State} {x0 : _} {x1 : _} {x2 : _} (h : Keeps l s u) (h0 : Part.hosts ∈ l) (h1 : Part.disp ∈ l) (h2 : Part.later ∈ l) (hsl : Part.slots ∈ l) :
    Keeps l s { u with hosts := x0, disp := x1, later := x2 } :=
  ⟨fun p hp => by have := h.1 p hp; cases p <;> first | exact this | contradiction, h.2⟩

theorem Keeps.set_hosts_disp_trx_dcl_amc_thm_pwr {l : List Part} {s u : State} {x0 : _} {x1 : _} {x2 : _} {x3 : _} {x4 : _} {x5 : _} {x6 : _} (h : Keeps l s u) (h0 : Part.hosts ∈ l) (h1 : Part.disp ∈ l) (h2 : Part.trx ∈ l) (h3 : Part.dcl ∈ l) (h4 : Part.amc ∈ l) (h5 : Part.thm ∈ l) (h6 : Part.pwr ∈ l) (hsl : Part.slots ∈ l) :
    Keeps l s { u with hosts := x0, disp := x1, trx := x2, dcl := x3, amc := x4, thm := x5, pwr := x6 } :=
  ⟨fun p hp => by have := h.1 p hp; cases p <;> first | exact this | contradiction, h.2⟩

theorem Keeps.set_hpn {l : List Part} {s u : State} {x0 : _} (h : Keeps l s u) (h0 : Part.hpn ∈ l) :
    Keeps l s { u with hpn := x0 } :=
  ⟨fun p hp => by have := h.1 p hp; cases p <;> first | exact this | contradiction, h.2⟩

theorem Keeps.set_later {l : List Part} {s u : State} {x0 : _} (h : Keeps l s u) (h0 : Part.later ∈ l) :
    Keeps l s { u with later := x0 } :=
  ⟨fun p hp => by have := h.1 p hp; cases p <;> first | exact this | contradiction, h.2⟩

theorem Keeps.set_links {l : List Part} {s u : State} {x0 : _} (h : Keeps l s u) (h0 : Part.links ∈ l) :
    Keeps l s { u with links := x0 } :=
  ⟨fun p hp => by have := h.1 p hp; cases p <;> first | exact this | contradiction, h.2⟩

theorem Keeps.set_links_cgs_ctx_tb_traceReads {l : List Part} {s u : State} {x0 : _} {x1 : _} {x2 : _} {x3 : _} {x4 : _} (h : Keeps l s u) (h0 : Part.links ∈ l) (h1 : Part.cgs ∈ l) (h2 : Part.ctx ∈ l) (h3 : Part.tb ∈ l) (h4 : Part.traceReads ∈ l) :
    Keeps l s { u with links := x0, cgs := x1, ctx := x2, tb := x3, traceReads := x4 } :=
  ⟨fun p hp => by have := h.1 p hp; cases p <;> first | exact this | contradiction, h.2⟩

theorem Keeps.set_net {l : List Part} {s u : State} {x0 : _} (h : Keeps l s u) (h0 : Part.net ∈ l) :
    Keeps l s { u with net := x0 } :=
  ⟨fun p hp => by have := h.1 p hp; cases p <;> first | exact this | contradiction, h.2⟩

theorem Keeps.set_objs {l : List Part} {s u : State} {x0 : _} (h : Keeps l s u) (h0 : Part.allObjs ∈ l) :
    Keeps l s { u with objs := x0 } :=
  ⟨fun p hp => by have := h.1 p hp; cases p <;> first | exact this | contradiction, fun i hi => absurd trivial (hi _ h0)⟩

theorem Keeps.set_objs_flash_dirty {l : List Part} {s u : State} {x0 : _} {x1 : _} {x2 : _} (h : Keeps l s u) (h0 : Part.allObjs ∈ l) (h1 : Part.flash ∈ l) (h2 : Part.dirty ∈ l) :
    Keeps l s { u with objs := x0, flash := x1, dirty := x2 } :=
  ⟨fun p hp => by have := h.1 p hp; cases p <;> first | exact this | contradiction, fun i hi => absurd trivial (hi _ h0)⟩

theorem Keeps.set_objs_flash_dirty_sec {l : List Part} {s u : State} {x0 : _} {x1 : _} {x2 : _} {x3 : _} (h : Keeps l s u) (h0 : Part.allObjs ∈ l) (h1 : Part.flash ∈ l) (h2 : Part.dirty ∈ l) (h3 : Part.sec ∈ l) :
    Keeps l s { u with objs := x0, flash := x1, dirty := x2, sec := x3 } :=
  ⟨fun p hp => by have := h.1 p hp; cases p <;> first | exact this | contradiction, fun i hi => absurd trivial (hi _ h0)⟩

theorem Keeps.set_patina {l : List Part} {s u : State} {x0 : _} (h : Keeps l s u) (h0 : Part.patina ∈ l) :
    Keeps l s { u with patina := x0 } :=
  ⟨fun p hp => by have := h.1 p hp; cases p <;> first | exact this | contradiction, h.2⟩

theorem Keeps.set_pos {l : List Part} {s u : State} {x0 : _} (h : Keeps l s u) (h0 : Part.pos ∈ l) :
    Keeps l s { u with pos := x0 } :=
  ⟨fun p hp => by have := h.1 p hp; cases p <;> first | exact this | contradiction, h.2⟩

theorem Keeps.set_prb {l : List Part} {s u : State} {x0 : _} (h : Keeps l s u) (h0 : Part.prb ∈ l) :
    Keeps l s { u with prb := x0 } :=
  ⟨fun p hp => by have := h.1 p hp; cases p <;> first | exact this | contradiction, h.2⟩

theorem Keeps.set_ptg {l : List Part} {s u : State} {x0 : _} (h : Keeps l s u) (h0 : Part.ptg ∈ l) :
    Keeps l s { u with ptg := x0 } :=
  ⟨fun p hp => by have := h.1 p hp; cases p <;> first | exact this | contradiction, h.2⟩

theorem Keeps.set_pwr {l : List Part} {s u : State} {x0 : _} (h : Keeps l s u) (h0 : Part.pwr ∈ l) :
    Keeps l s { u with pwr := x0 } :=
  ⟨fun p hp => by have := h.1 p hp; cases p <;> first | exact this | contradiction, h.2⟩

theorem Keeps.set_rpk {l : List Part} {s u : State} {x0 : _} (h : Keeps l s u) (h0 : Part.rpk ∈ l) :
    Keeps l s { u with rpk := x0 } :=
  ⟨fun p hp => by have := h.1 p hp; cases p <;> first | exact this | contradiction, h.2⟩

theorem Keeps.set_sec {l : List Part} {s u : State} {x0 : _} (h : Keeps l s u) (h0 : Part.sec ∈ l) :
    Keeps l s { u with sec := x0 } :=
  ⟨fun p hp => by have := h.1 p hp; cases p <;> first | exact this | contradiction, h.2⟩

theorem Keeps.set_sent {l : List Part} {s u : State} {x0 : _} (h : Keeps l s u) (h0 : Part.sent ∈ l) :
    Keeps l s { u with sent := x0 } :=
  ⟨fun p hp => by have := h.1 p hp; cases p <;> first | exact this | contradiction, h.2⟩

theorem Keeps.set_tb {l : List Part} {s u : State} {x0 : _} (h : Keeps l s u) (h0 : Part.tb ∈ l) :
    Keeps l s { u with tb := x0 } :=
  ⟨fun p hp => by have := h.1 p hp; cases p <;> first | exact this | contradiction, h.2⟩

theorem Keeps.set_thm {l : List Part} {s u : State} {x0 : _} (h : Keeps l s u) (h0 : Part.thm ∈ l) :
    Keeps l s { u with thm := x0 } :=
  ⟨fun p hp => by have := h.1 p hp; cases p <;> first | exact this | contradiction, h.2⟩

theorem Keeps.set_traceReads {l : List Part} {s u : State} {x0 : _} (h : Keeps l s u) (h0 : Part.traceReads ∈ l) :
    Keeps l s { u with traceReads := x0 } :=
  ⟨fun p hp => by have := h.1 p hp; cases p <;> first | exact this | contradiction, h.2⟩

theorem Keeps.set_trx {l : List Part} {s u : State} {x0 : _} (h : Keeps l s u) (h0 : Part.trx ∈ l) :
    Keeps l s { u with trx := x0 } :=
  ⟨fun p hp => by have := h.1 p hp; cases p <;> first | exact this | contradiction, h.2⟩

theorem Keeps.set_upd {l : List Part} {s u : State} {x0 : _} (h : Keeps l s u) (h0 : Part.upd ∈ l) :
    Keeps l s { u with upd := x0 } :=
  ⟨fun p hp => by have := h.1 p hp; cases p <;> first | exact this | contradiction, h.2⟩

theorem Keeps.set_xing {l : List Part} {s u : State} {x0 : _} (h : Keeps l s u) (h0 : Part.xing ∈ l) :
    Keeps l s { u with xing := x0 } :=
  ⟨fun p hp => by have := h.1 p hp; cases p <;> first | exact this | contradiction, h.2⟩

theorem Keeps.set_xmem {l : List Part} {s u : State} {x0 : _} (h : Keeps l s u) (h0 : Part.xmem ∈ l) :
    Keeps l s { u with xmem := x0 } :=
  ⟨fun p hp => by have := h.1 p hp; cases p <;> first | exact this | contradiction, h.2⟩

/-! ### Objects -/

theorem O.sysClkStatus_has : (Part.one O.sysClkStatus).has O.sysClkStatus := ⟨0, by decide, rfl⟩
theorem O.sysXingDropFlags_has : (Part.one O.sysXingDropFlags).has O.sysXingDropFlags := ⟨0, by decide, rfl⟩
theorem O.sysLateFlags_has : (Part.one O.sysLateFlags).has O.sysLateFlags := ⟨0, by decide, rfl⟩
theorem O.sysHostPresent_has : (Part.one O.sysHostPresent).has O.sysHostPresent := ⟨0, by decide, rfl⟩
theorem O.sysHostLeaseOwner_has : (Part.one O.sysHostLeaseOwner).has O.sysHostLeaseOwner := ⟨0, by decide, rfl⟩
theorem O.sysHostOverride_has : (Part.one O.sysHostOverride).has O.sysHostOverride := ⟨0, by decide, rfl⟩
theorem O.pwrState_has : (Part.one O.pwrState).has O.pwrState := ⟨0, by decide, rfl⟩
theorem O.pwrTarget_has : (Part.one O.pwrTarget).has O.pwrTarget := ⟨0, by decide, rfl⟩
theorem O.pwrLimit_has : (Part.one O.pwrLimit).has O.pwrLimit := ⟨0, by decide, rfl⟩
theorem O.pwrResetCause_has : (Part.one O.pwrResetCause).has O.pwrResetCause := ⟨0, by decide, rfl⟩
theorem O.pwrWakeCause_has : (Part.one O.pwrWakeCause).has O.pwrWakeCause := ⟨0, by decide, rfl⟩
theorem O.pwrVmain_has : (Part.one O.pwrVmain).has O.pwrVmain := ⟨0, by decide, rfl⟩
theorem O.pwrVstby_has : (Part.one O.pwrVstby).has O.pwrVstby := ⟨0, by decide, rfl⟩
theorem O.thmState_has : (Part.one O.thmState).has O.thmState := ⟨0, by decide, rfl⟩
theorem O.thmFlags_has : (Part.one O.thmFlags).has O.thmFlags := ⟨0, by decide, rfl⟩
theorem O.thmJunction_has : (Part.one O.thmJunction).has O.thmJunction := ⟨0, by decide, rfl⟩
theorem O.thmTripLatch_has : (Part.one O.thmTripLatch).has O.thmTripLatch := ⟨0, by decide, rfl⟩
theorem O.thmFactor_has : (Part.one O.thmFactor).has O.thmFactor := ⟨0, by decide, rfl⟩
theorem O.thmT_has (i : Nat) (h : i < 72) : (Part.fam O.thmT 72).has (O.thmT i) := ⟨i, h, by simp only [O.thmT] <;> omega⟩
theorem O.secLc_has : (Part.one O.secLc).has O.secLc := ⟨0, by decide, rfl⟩
theorem O.secSession_has : (Part.one O.secSession).has O.secSession := ⟨0, by decide, rfl⟩
theorem O.secTetasSerial_has : (Part.one O.secTetasSerial).has O.secTetasSerial := ⟨0, by decide, rfl⟩
theorem O.secAttPub_has : (Part.one O.secAttPub).has O.secAttPub := ⟨0, by decide, rfl⟩
theorem O.secAttEpoch_has : (Part.one O.secAttEpoch).has O.secAttEpoch := ⟨0, by decide, rfl⟩
theorem O.secAttNext_has : (Part.one O.secAttNext).has O.secAttNext := ⟨0, by decide, rfl⟩
theorem O.secIdNext_has : (Part.one O.secIdNext).has O.secIdNext := ⟨0, by decide, rfl⟩
theorem O.secTamperCause_has : (Part.one O.secTamperCause).has O.secTamperCause := ⟨0, by decide, rfl⟩
theorem O.logHead_has : (Part.one O.logHead).has O.logHead := ⟨0, by decide, rfl⟩
theorem O.logChain_has : (Part.one O.logChain).has O.logChain := ⟨0, by decide, rfl⟩
theorem O.logCount_has : (Part.one O.logCount).has O.logCount := ⟨0, by decide, rfl⟩
theorem O.logQueued_has : (Part.one O.logQueued).has O.logQueued := ⟨0, by decide, rfl⟩
theorem O.updIl_has : (Part.one O.updIl).has O.updIl := ⟨0, by decide, rfl⟩
theorem O.updBusy_has : (Part.one O.updBusy).has O.updBusy := ⟨0, by decide, rfl⟩
theorem O.updRunning_has (i : Nat) (h : i < 6) : (Part.fam O.updRunning 6).has (O.updRunning i) := ⟨i, h, by simp only [O.updRunning] <;> omega⟩
theorem O.updSpare_has (i : Nat) (h : i < 6) : (Part.fam O.updSpare 6).has (O.updSpare i) := ⟨i, h, by simp only [O.updSpare] <;> omega⟩
theorem O.updState_has (i : Nat) (h : i < 6) : (Part.fam O.updState 6).has (O.updState i) := ⟨i, h, by simp only [O.updState] <;> omega⟩
theorem O.updReceived_has (i : Nat) (h : i < 6) : (Part.fam O.updReceived 6).has (O.updReceived i) := ⟨i, h, by simp only [O.updReceived] <;> omega⟩
theorem O.updSecFloor_has (i : Nat) (h : i < 6) : (Part.fam O.updSecFloor 6).has (O.updSecFloor i) := ⟨i, h, by simp only [O.updSecFloor] <;> omega⟩
theorem O.netFlags_has : (Part.one O.netFlags).has O.netFlags := ⟨0, by decide, rfl⟩
theorem O.netPartners_has : (Part.one O.netPartners).has O.netPartners := ⟨0, by decide, rfl⟩
theorem O.netEntries_has : (Part.one O.netEntries).has O.netEntries := ⟨0, by decide, rfl⟩
theorem O.netSessions_has : (Part.one O.netSessions).has O.netSessions := ⟨0, by decide, rfl⟩
theorem O.netCycSkipped_has : (Part.one O.netCycSkipped).has O.netCycSkipped := ⟨0, by decide, rfl⟩
theorem O.netRxTimeouts_has : (Part.one O.netRxTimeouts).has O.netRxTimeouts := ⟨0, by decide, rfl⟩
theorem O.netRxDropped_has : (Part.one O.netRxDropped).has O.netRxDropped := ⟨0, by decide, rfl⟩
theorem O.netCanAddr_has (i : Nat) (h : i < 4) : (Part.fam O.netCanAddr 4).has (O.netCanAddr i) := ⟨i, h, by simp only [O.netCanAddr] <;> omega⟩
theorem O.netCanStatus_has (i : Nat) (h : i < 4) : (Part.fam O.netCanStatus 4).has (O.netCanStatus i) := ⟨i, h, by simp only [O.netCanStatus] <;> omega⟩
theorem O.netEthStatus_has (i : Nat) (h : i < 4) : (Part.fam O.netEthStatus 4).has (O.netEthStatus i) := ⟨i, h, by simp only [O.netEthStatus] <;> omega⟩
theorem O.glkStatus_has (i : Nat) (h : i < 40) : (Part.fam O.glkStatus 40).has (O.glkStatus i) := ⟨i, h, by simp only [O.glkStatus] <;> omega⟩
theorem O.glkLatency_has (i : Nat) (h : i < 40) : (Part.fam O.glkLatency 40).has (O.glkLatency i) := ⟨i, h, by simp only [O.glkLatency] <;> omega⟩
theorem O.glkRxCtle_has (i : Nat) (h : i < 40) : (Part.fam O.glkRxCtle 40).has (O.glkRxCtle i) := ⟨i, h, by simp only [O.glkRxCtle] <;> omega⟩
theorem O.glkDriver_has (i : Nat) (h : i < 40) : (Part.fam O.glkDriver 40).has (O.glkDriver i) := ⟨i, h, by simp only [O.glkDriver] <;> omega⟩
theorem O.glkLDrv_has (i : Nat) (h : i < 40) : (Part.fam O.glkLDrv 40).has (O.glkLDrv i) := ⟨i, h, by simp only [O.glkLDrv] <;> omega⟩
theorem O.pwmDtTrimPos_has (i : Nat) (h : i < 40) : (Part.fam O.pwmDtTrimPos 40).has (O.pwmDtTrimPos i) := ⟨i, h, by simp only [O.pwmDtTrimPos] <;> omega⟩
theorem O.pwmDtTrimNeg_has (i : Nat) (h : i < 40) : (Part.fam O.pwmDtTrimNeg 40).has (O.pwmDtTrimNeg i) := ⟨i, h, by simp only [O.pwmDtTrimNeg] <;> omega⟩
theorem O.pwmDriveTable_has (i : Nat) (h : i < 40) : (Part.fam O.pwmDriveTable 40).has (O.pwmDriveTable i) := ⟨i, h, by simp only [O.pwmDriveTable] <;> omega⟩
theorem O.trxTorqueReq_has (i : Nat) (h : i < 4) : (Part.fam O.trxTorqueReq 4).has (O.trxTorqueReq i) := ⟨i, h, by simp only [O.trxTorqueReq] <;> omega⟩
theorem O.trxIdReq_has (i : Nat) (h : i < 4) : (Part.fam O.trxIdReq 4).has (O.trxIdReq i) := ⟨i, h, by simp only [O.trxIdReq] <;> omega⟩
theorem O.trxIqReq_has (i : Nat) (h : i < 4) : (Part.fam O.trxIqReq 4).has (O.trxIqReq i) := ⟨i, h, by simp only [O.trxIqReq] <;> omega⟩
theorem O.trxSpeedReq_has (i : Nat) (h : i < 4) : (Part.fam O.trxSpeedReq 4).has (O.trxSpeedReq i) := ⟨i, h, by simp only [O.trxSpeedReq] <;> omega⟩
theorem O.trxState_has (i : Nat) (h : i < 4) : (Part.fam O.trxState 4).has (O.trxState i) := ⟨i, h, by simp only [O.trxState] <;> omega⟩
theorem O.trxEnvPos_has (i : Nat) (h : i < 4) : (Part.fam O.trxEnvPos 4).has (O.trxEnvPos i) := ⟨i, h, by simp only [O.trxEnvPos] <;> omega⟩
theorem O.trxEnvNeg_has (i : Nat) (h : i < 4) : (Part.fam O.trxEnvNeg 4).has (O.trxEnvNeg i) := ⟨i, h, by simp only [O.trxEnvNeg] <;> omega⟩
theorem O.trxEnvSrc_has (i : Nat) (h : i < 4) : (Part.fam O.trxEnvSrc 4).has (O.trxEnvSrc i) := ⟨i, h, by simp only [O.trxEnvSrc] <;> omega⟩
theorem O.trxTorqueOut_has (i : Nat) (h : i < 4) : (Part.fam O.trxTorqueOut 4).has (O.trxTorqueOut i) := ⟨i, h, by simp only [O.trxTorqueOut] <;> omega⟩
theorem O.trxTorqueEst_has (i : Nat) (h : i < 4) : (Part.fam O.trxTorqueEst 4).has (O.trxTorqueEst i) := ⟨i, h, by simp only [O.trxTorqueEst] <;> omega⟩
theorem O.trxSpeed_has (i : Nat) (h : i < 4) : (Part.fam O.trxSpeed 4).has (O.trxSpeed i) := ⟨i, h, by simp only [O.trxSpeed] <;> omega⟩
theorem O.trxRule_has (i : Nat) (h : i < 4) : (Part.fam O.trxRule 4).has (O.trxRule i) := ⟨i, h, by simp only [O.trxRule] <;> omega⟩
theorem O.trxFlags_has (i : Nat) (h : i < 4) : (Part.fam O.trxFlags 4).has (O.trxFlags i) := ⟨i, h, by simp only [O.trxFlags] <;> omega⟩
theorem O.trxFault_has (i : Nat) (h : i < 4) : (Part.fam O.trxFault 4).has (O.trxFault i) := ⟨i, h, by simp only [O.trxFault] <;> omega⟩
theorem O.trxAngleSrc_has (i : Nat) (h : i < 4) : (Part.fam O.trxAngleSrc 4).has (O.trxAngleSrc i) := ⟨i, h, by simp only [O.trxAngleSrc] <;> omega⟩
theorem O.trxSsState_has (i : Nat) (h : i < 4) : (Part.fam O.trxSsState 4).has (O.trxSsState i) := ⟨i, h, by simp only [O.trxSsState] <;> omega⟩
theorem O.trxSsLosses_has (i : Nat) (h : i < 4) : (Part.fam O.trxSsLosses 4).has (O.trxSsLosses i) := ⟨i, h, by simp only [O.trxSsLosses] <;> omega⟩
theorem O.dclState_has : (Part.one O.dclState).has O.dclState := ⟨0, by decide, rfl⟩
theorem O.dclFlags_has : (Part.one O.dclFlags).has O.dclFlags := ⟨0, by decide, rfl⟩
theorem O.dclVLink_has : (Part.one O.dclVLink).has O.dclVLink := ⟨0, by decide, rfl⟩
theorem O.dclVBat_has : (Part.one O.dclVBat).has O.dclVBat := ⟨0, by decide, rfl⟩
theorem O.dclChopEnergy_has : (Part.one O.dclChopEnergy).has O.dclChopEnergy := ⟨0, by decide, rfl⟩
theorem O.dclBmsOpen_has : (Part.one O.dclBmsOpen).has O.dclBmsOpen := ⟨0, by decide, rfl⟩
theorem O.lpeInputs_has (i : Nat) (h : i < 64) : (Part.fam O.lpeInputs 64).has (O.lpeInputs i) := ⟨i, h, by simp only [O.lpeInputs] <;> omega⟩
theorem O.lpeUnits_has (i : Nat) (h : i < 64) : (Part.fam O.lpeUnits 64).has (O.lpeUnits i) := ⟨i, h, by simp only [O.lpeUnits] <;> omega⟩
theorem O.lpeBankB_has (i : Nat) (h : i < 64) : (Part.fam O.lpeBankB 64).has (O.lpeBankB i) := ⟨i, h, by simp only [O.lpeBankB] <;> omega⟩
theorem O.lpeOut_has (i : Nat) (h : i < 64) : (Part.fam O.lpeOut 64).has (O.lpeOut i) := ⟨i, h, by simp only [O.lpeOut] <;> omega⟩
theorem O.lpeInteg_has (i : Nat) (h : i < 64) : (Part.fam O.lpeInteg 64).has (O.lpeInteg i) := ⟨i, h, by simp only [O.lpeInteg] <;> omega⟩
theorem O.lpeStatus_has (i : Nat) (h : i < 64) : (Part.fam O.lpeStatus 64).has (O.lpeStatus i) := ⟨i, h, by simp only [O.lpeStatus] <;> omega⟩
theorem O.lpeResidual_has (i : Nat) (h : i < 64) : (Part.fam O.lpeResidual 64).has (O.lpeResidual i) := ⟨i, h, by simp only [O.lpeResidual] <;> omega⟩
theorem O.lpeRunMax_has (i : Nat) (h : i < 64) : (Part.fam O.lpeRunMax 64).has (O.lpeRunMax i) := ⟨i, h, by simp only [O.lpeRunMax] <;> omega⟩
theorem O.lpeLateCount_has (i : Nat) (h : i < 64) : (Part.fam O.lpeLateCount 64).has (O.lpeLateCount i) := ⟨i, h, by simp only [O.lpeLateCount] <;> omega⟩
theorem O.lpeTrState_has (i : Nat) (h : i < 4) : (Part.fam O.lpeTrState 4).has (O.lpeTrState i) := ⟨i, h, by simp only [O.lpeTrState] <;> omega⟩
theorem O.lpeTrTrigAxt_has (i : Nat) (h : i < 4) : (Part.fam O.lpeTrTrigAxt 4).has (O.lpeTrTrigAxt i) := ⟨i, h, by simp only [O.lpeTrTrigAxt] <;> omega⟩
theorem O.lpeTrCount_has (i : Nat) (h : i < 4) : (Part.fam O.lpeTrCount 4).has (O.lpeTrCount i) := ⟨i, h, by simp only [O.lpeTrCount] <;> omega⟩
theorem O.lpeTrTrigIndex_has (i : Nat) (h : i < 4) : (Part.fam O.lpeTrTrigIndex 4).has (O.lpeTrTrigIndex i) := ⟨i, h, by simp only [O.lpeTrTrigIndex] <;> omega⟩
theorem O.adcStatus_has (i : Nat) (h : i < 12) : (Part.fam O.adcStatus 12).has (O.adcStatus i) := ⟨i, h, by simp only [O.adcStatus] <;> omega⟩
theorem O.adcPasses_has (i : Nat) (h : i < 12) : (Part.fam O.adcPasses 12).has (O.adcPasses i) := ⟨i, h, by simp only [O.adcPasses] <;> omega⟩
theorem O.adcAbandons_has (i : Nat) (h : i < 12) : (Part.fam O.adcAbandons 12).has (O.adcAbandons i) := ⟨i, h, by simp only [O.adcAbandons] <;> omega⟩
theorem O.adcInjFree_has (i : Nat) (h : i < 12) : (Part.fam O.adcInjFree 12).has (O.adcInjFree i) := ⟨i, h, by simp only [O.adcInjFree] <;> omega⟩
theorem O.adcCalResult_has : (Part.one O.adcCalResult).has O.adcCalResult := ⟨0, by decide, rfl⟩
theorem O.adcResCal_has (i : Nat) (h : i < 384) : (Part.fam O.adcResCal 384).has (O.adcResCal i) := ⟨i, h, by simp only [O.adcResCal] <;> omega⟩
theorem O.adcResValue_has (i : Nat) (h : i < 384) : (Part.fam O.adcResValue 384).has (O.adcResValue i) := ⟨i, h, by simp only [O.adcResValue] <;> omega⟩
theorem O.posAngle_has (i : Nat) (h : i < 4) : (Part.fam O.posAngle 4).has (O.posAngle i) := ⟨i, h, by simp only [O.posAngle] <;> omega⟩
theorem O.posCount_has (i : Nat) (h : i < 4) : (Part.fam O.posCount 4).has (O.posCount i) := ⟨i, h, by simp only [O.posCount] <;> omega⟩
theorem O.posSpeed_has (i : Nat) (h : i < 4) : (Part.fam O.posSpeed 4).has (O.posSpeed i) := ⟨i, h, by simp only [O.posSpeed] <;> omega⟩
theorem O.posStatus_has (i : Nat) (h : i < 4) : (Part.fam O.posStatus 4).has (O.posStatus i) := ⟨i, h, by simp only [O.posStatus] <;> omega⟩
theorem O.posQerr_has (i : Nat) (h : i < 4) : (Part.fam O.posQerr 4).has (O.posQerr i) := ⟨i, h, by simp only [O.posQerr] <;> omega⟩
theorem O.posSlow_has (i : Nat) (h : i < 4) : (Part.fam O.posSlow 4).has (O.posSlow i) := ⟨i, h, by simp only [O.posSlow] <;> omega⟩
theorem O.posPrbStatus_has (i : Nat) (h : i < 4) : (Part.fam O.posPrbStatus 4).has (O.posPrbStatus i) := ⟨i, h, by simp only [O.posPrbStatus] <;> omega⟩
theorem O.chgState_has : (Part.one O.chgState).has O.chgState := ⟨0, by decide, rfl⟩
theorem O.chgInput_has : (Part.one O.chgInput).has O.chgInput := ⟨0, by decide, rfl⟩
theorem O.chgFlags_has : (Part.one O.chgFlags).has O.chgFlags := ⟨0, by decide, rfl⟩
theorem O.chgCause_has : (Part.one O.chgCause).has O.chgCause := ⟨0, by decide, rfl⟩
theorem O.chgCpState_has : (Part.one O.chgCpState).has O.chgCpState := ⟨0, by decide, rfl⟩
theorem O.chgCpDuty_has : (Part.one O.chgCpDuty).has O.chgCpDuty := ⟨0, by decide, rfl⟩
theorem O.chgIPilot_has : (Part.one O.chgIPilot).has O.chgIPilot := ⟨0, by decide, rfl⟩
theorem O.chgICable_has : (Part.one O.chgICable).has O.chgICable := ⟨0, by decide, rfl⟩
theorem O.chgIInLim_has : (Part.one O.chgIInLim).has O.chgIInLim := ⟨0, by decide, rfl⟩
theorem O.chgV0_has : (Part.one O.chgV0).has O.chgV0 := ⟨0, by decide, rfl⟩
theorem O.chgF0_has : (Part.one O.chgF0).has O.chgF0 := ⟨0, by decide, rfl⟩
theorem O.chgPIn_has : (Part.one O.chgPIn).has O.chgPIn := ⟨0, by decide, rfl⟩
theorem O.chgVPvRef_has : (Part.one O.chgVPvRef).has O.chgVPvRef := ⟨0, by decide, rfl⟩
theorem O.chgVOc_has : (Part.one O.chgVOc).has O.chgVOc := ⟨0, by decide, rfl⟩
theorem O.auxState_has : (Part.one O.auxState).has O.auxState := ⟨0, by decide, rfl⟩
theorem O.auxFlags_has : (Part.one O.auxFlags).has O.auxFlags := ⟨0, by decide, rfl⟩
theorem O.auxCause_has : (Part.one O.auxCause).has O.auxCause := ⟨0, by decide, rfl⟩
theorem O.auxVOut_has : (Part.one O.auxVOut).has O.auxVOut := ⟨0, by decide, rfl⟩
theorem O.auxIOut_has : (Part.one O.auxIOut).has O.auxIOut := ⟨0, by decide, rfl⟩
theorem O.auxPOut_has : (Part.one O.auxPOut).has O.auxPOut := ⟨0, by decide, rfl⟩
theorem O.auxVRef_has : (Part.one O.auxVRef).has O.auxVRef := ⟨0, by decide, rfl⟩
theorem O.auxPhaseState_has : (Part.one O.auxPhaseState).has O.auxPhaseState := ⟨0, by decide, rfl⟩
theorem O.auxRestarts_has : (Part.one O.auxRestarts).has O.auxRestarts := ⟨0, by decide, rfl⟩
theorem O.auxSyncFreq_has : (Part.one O.auxSyncFreq).has O.auxSyncFreq := ⟨0, by decide, rfl⟩
theorem O.amcSpeedReq_has (i : Nat) (h : i < 6) : (Part.fam O.amcSpeedReq 6).has (O.amcSpeedReq i) := ⟨i, h, by simp only [O.amcSpeedReq] <;> omega⟩
theorem O.amcState_has (i : Nat) (h : i < 6) : (Part.fam O.amcState 6).has (O.amcState i) := ⟨i, h, by simp only [O.amcState] <;> omega⟩
theorem O.amcSpeed_has (i : Nat) (h : i < 6) : (Part.fam O.amcSpeed 6).has (O.amcSpeed i) := ⟨i, h, by simp only [O.amcSpeed] <;> omega⟩
theorem O.amcPosition_has (i : Nat) (h : i < 6) : (Part.fam O.amcPosition 6).has (O.amcPosition i) := ⟨i, h, by simp only [O.amcPosition] <;> omega⟩
theorem O.amcFlags_has (i : Nat) (h : i < 6) : (Part.fam O.amcFlags 6).has (O.amcFlags i) := ⟨i, h, by simp only [O.amcFlags] <;> omega⟩
theorem O.amcFault_has (i : Nat) (h : i < 6) : (Part.fam O.amcFault 6).has (O.amcFault i) := ⟨i, h, by simp only [O.amcFault] <;> omega⟩
theorem O.amcParkState_has : (Part.one O.amcParkState).has O.amcParkState := ⟨0, by decide, rfl⟩
theorem O.rpkState_has : (Part.one O.rpkState).has O.rpkState := ⟨0, by decide, rfl⟩
theorem O.rpkPath_has : (Part.one O.rpkPath).has O.rpkPath := ⟨0, by decide, rfl⟩
theorem O.rpkFlags_has : (Part.one O.rpkFlags).has O.rpkFlags := ⟨0, by decide, rfl⟩
theorem O.rpkEnd_has : (Part.one O.rpkEnd).has O.rpkEnd := ⟨0, by decide, rfl⟩
theorem O.rpkVPack_has : (Part.one O.rpkVPack).has O.rpkVPack := ⟨0, by decide, rfl⟩
theorem O.rpkIPack_has : (Part.one O.rpkIPack).has O.rpkIPack := ⟨0, by decide, rfl⟩
theorem O.rpkTPack_has : (Part.one O.rpkTPack).has O.rpkTPack := ⟨0, by decide, rfl⟩
theorem O.rpkChgTime_has : (Part.one O.rpkChgTime).has O.rpkChgTime := ⟨0, by decide, rfl⟩
theorem O.ptgState_has : (Part.one O.ptgState).has O.ptgState := ⟨0, by decide, rfl⟩
theorem O.ptgFlags_has : (Part.one O.ptgFlags).has O.ptgFlags := ⟨0, by decide, rfl⟩
theorem O.ptgFaultCause_has : (Part.one O.ptgFaultCause).has O.ptgFaultCause := ⟨0, by decide, rfl⟩
theorem O.ptgSoftCount_has : (Part.one O.ptgSoftCount).has O.ptgSoftCount := ⟨0, by decide, rfl⟩
theorem O.ptgWindows_has : (Part.one O.ptgWindows).has O.ptgWindows := ⟨0, by decide, rfl⟩
theorem O.ptgMisses_has : (Part.one O.ptgMisses).has O.ptgMisses := ⟨0, by decide, rfl⟩
theorem O.ptgLastSig_has : (Part.one O.ptgLastSig).has O.ptgLastSig := ⟨0, by decide, rfl⟩
theorem O.ptgSplitCopy_has : (Part.one O.ptgSplitCopy).has O.ptgSplitCopy := ⟨0, by decide, rfl⟩
theorem O.bstState_has : (Part.one O.bstState).has O.bstState := ⟨0, by decide, rfl⟩
theorem O.bstCycles_has : (Part.one O.bstCycles).has O.bstCycles := ⟨0, by decide, rfl⟩
theorem O.bstFailed_has : (Part.one O.bstFailed).has O.bstFailed := ⟨0, by decide, rfl⟩
theorem O.bstLast_has : (Part.one O.bstLast).has O.bstLast := ⟨0, by decide, rfl⟩
theorem O.memStatus_has (i : Nat) (h : i < 4) : (Part.fam O.memStatus 4).has (O.memStatus i) := ⟨i, h, by simp only [O.memStatus] <;> omega⟩
theorem O.memPasses_has (i : Nat) (h : i < 4) : (Part.fam O.memPasses 4).has (O.memPasses i) := ⟨i, h, by simp only [O.memPasses] <;> omega⟩
theorem O.memSparesFree_has : (Part.one O.memSparesFree).has O.memSparesFree := ⟨0, by decide, rfl⟩
theorem O.memLastUe_has : (Part.one O.memLastUe).has O.memLastUe := ⟨0, by decide, rfl⟩
theorem O.memWipeCause_has : (Part.one O.memWipeCause).has O.memWipeCause := ⟨0, by decide, rfl⟩

namespace State

theorem setO_keeps {l : List Part} {s u : State} {id v : Nat} (h : Keeps l s u) (hid : ∃ p ∈ l, p.has id) : Keeps l s (u.setO id v) := by
  refine ⟨fun p hp => by have := h.1 p hp; cases p <;> exact this, fun i hi => ?_⟩
  have hne : i ≠ id := fun e => by subst e; obtain ⟨p, hp, hh⟩ := hid; exact hi p hp hh
  rw [getO_setO_ne _ _ hne]; exact h.2 i hi
theorem setQ_keeps {l : List Part} {s u : State} {id : Nat} {q : Rat} (h : Keeps l s u) (hid : ∃ p ∈ l, p.has id) : Keeps l s (u.setQ id q) := setO_keeps h hid
theorem orO_keeps {l : List Part} {s u : State} {id m : Nat} (h : Keeps l s u) (hid : ∃ p ∈ l, p.has id) : Keeps l s (u.orO id m) := setO_keeps h hid
theorem clrO_keeps {l : List Part} {s u : State} {id m : Nat} (h : Keeps l s u) (hid : ∃ p ∈ l, p.has id) : Keeps l s (u.clrO id m) := setO_keeps h hid
theorem incSat_keeps {l : List Part} {s u : State} {id m : Nat} (h : Keeps l s u) (hid : ∃ p ∈ l, p.has id) : Keeps l s (u.incSat id m) := setO_keeps h hid
theorem incMod_keeps {l : List Part} {s u : State} {id m : Nat} (h : Keeps l s u) (hid : ∃ p ∈ l, p.has id) : Keeps l s (u.incMod id m) := setO_keeps h hid

/-- A host's port changed. -/
theorem modHost_keeps {l : List Part} {s : State} {a0 : State} {a1 : Fin 4} {a2 : HostPort → HostPort} (h : Keeps l s a0)
    (hl : ([.hosts, .slots] : List Part) ⊆ l) : Keeps l s (State.modHost a0 a1 a2) :=
  Keeps.set_hosts h (inL hl (by decide)) (inL hl (by decide))

/-- The ports changed, the slots as they are. -/
theorem setHosts_keeps {l : List Part} {s u : State} {x : Vector HostPort 4} (h : Keeps l s u) (hx : ∀ j : Fin 4, x[j].slots = u.hosts[j].slots)
    (hl : Part.hosts ∈ l) : Keeps l s { u with hosts := x } :=
  ⟨fun p hp => by
    have h0 := h.1 p hp
    cases p <;> first | exact fun j => (hx j).trans (h0 j) | exact (hp hl).elim | exact h0, h.2⟩

/-- A host's port changed, its slots as they are. -/
theorem modHost_keepsR {l : List Part} {s : State} {a0 : State} {a1 : Fin 4} {a2 : HostPort → HostPort} (h : Keeps l s a0)
    (hf : ∀ p, (a2 p).slots = p.slots) (hl : ([.hosts] : List Part) ⊆ l) : Keeps l s (State.modHost a0 a1 a2) :=
  setHosts_keeps h (fun j => by
    by_cases e : a1 = j
    · subst e; simp [hf]
    · have : a1.val ≠ j.val := fun h => e (Fin.ext h)
      simp [Vector.getElem_set_ne, this]) (inL hl (by decide))

theorem renew_keeps {l : List Part} {s : State} {a0 : State} {a1 : _} (h : Keeps l s a0)
    (hl : ([.hosts, .disp, .one O.sysHostPresent] : List Part) ⊆ l) : Keeps l s (@State.renew a0 a1) := by
  unfold State.renew
  repeat' first
    | with_reducible assumption
    | with_reducible refine Keeps.ite ?_ ?_
    | ((with_reducible refine State.modHost_keepsR ?_ ?_ (List.Subset.trans ?_ hl)); rotate_right; decide +kernel; rotate_right; (intro p; first | rfl | exact hf _ | exact HostPort.post_slots _ _ | exact HostPort.post2_slots _ _ _ | exact HostPort.settle_slots _ _ | (split <;> first | rfl | exact hf _ | exact HostPort.post_slots _ _ | exact HostPort.post2_slots _ _ _ | exact HostPort.settle_slots _ _)))
    | (with_reducible refine State.orO_keeps ?_ ⟨_, inL hl ?_, O.sysHostPresent_has⟩; rotate_right; decide +kernel)
    | intro x
    | lift_lets
    | (with_reducible refine Keeps.set_disp ?_ (inL hl ?_); rotate_right; decide +kernel)

theorem modSlot_keeps {l : List Part} {s : State} {a0 : State} {a1 : _} {a2 : _} {a3 : _} (h : Keeps l s a0)
    (hl : ([.hosts, .slots] : List Part) ⊆ l) : Keeps l s (@State.modSlot a0 a1 a2 a3) := by
  unfold State.modSlot
  repeat' first
    | with_reducible assumption
    | (with_reducible refine State.modHost_keeps ?_ (List.Subset.trans ?_ hl); rotate_right; decide +kernel)

theorem send_keeps {l : List Part} {s : State} {a0 : State} {a1 : _} (h : Keeps l s a0)
    (hl : ([.sent] : List Part) ⊆ l) : Keeps l s (@State.send a0 a1) := by
  unfold State.send
  repeat' first
    | with_reducible assumption
    | (with_reducible refine Keeps.set_sent ?_ (inL hl ?_); rotate_right; decide +kernel)

theorem sendHpn_keeps {l : List Part} {s : State} {a0 : State} {a1 : _} {a2 : _} {a3 : _} (h : Keeps l s a0)
    (hl : ([.sent, .hpn] : List Part) ⊆ l) : Keeps l s (@State.sendHpn a0 a1 a2 a3) := by
  unfold State.sendHpn
  repeat' first
    | with_reducible assumption
    | with_reducible refine Keeps.ite ?_ ?_
    | (with_reducible refine State.send_keeps ?_ (List.Subset.trans ?_ hl); rotate_right; decide +kernel)
    | intro x
    | lift_lets
    | (with_reducible refine Keeps.set_hpn ?_ (inL hl ?_); rotate_right; decide +kernel)

theorem hpnEvent_keeps {l : List Part} {s : State} {a0 : State} {a1 : _} (h : Keeps l s a0)
    (hl : ([.sent, .hpn] : List Part) ⊆ l) : Keeps l s (@State.hpnEvent a0 a1) := by
  unfold State.hpnEvent
  repeat' first
    | with_reducible assumption
    | with_reducible refine Keeps.dite ?_ ?_
    | (with_reducible refine State.sendHpn_keeps ?_ (List.Subset.trans ?_ hl); rotate_right; decide +kernel)
    | intro x
    | lift_lets
    | (with_reducible refine Keeps.set_hpn ?_ (inL hl ?_); rotate_right; decide +kernel)

theorem hpnNew_keeps {l : List Part} {s : State} {a0 : State} {a1 : _} (h : Keeps l s a0)
    (hl : ([.sent, .hpn] : List Part) ⊆ l) : Keeps l s (@State.hpnNew a0 a1) := by
  unfold State.hpnNew
  repeat' first
    | with_reducible assumption
    | (with_reducible refine State.hpnEvent_keeps ?_ (List.Subset.trans ?_ hl); rotate_right; decide +kernel)
    | with_reducible refine Keeps.foldl ?_ ?_
    | intro x

theorem onPorts_keeps {l : List Part} {s : State} {a0 : State} {a1 : Fin 4 → HostPort → HostPort} (h : Keeps l s a0)
    (hf : ∀ j p, (a1 j p).slots = p.slots) (hl : ([.sent, .hosts, .hpn] : List Part) ⊆ l) : Keeps l s (State.onPorts a0 a1) := by
  unfold State.onPorts
  refine hpnNew_keeps (setHosts_keeps h (fun j => ?_) (inL hl (by decide +kernel))) (List.Subset.trans (by decide +kernel) hl)
  simp only [Fin.getElem_fin, Vector.getElem_ofFn]
  exact hf _ _

theorem postTo_keeps {l : List Part} {s : State} {a0 : State} {a1 : _} {a2 : _} {a3 : _} (h : Keeps l s a0)
    (hl : ([.sent, .hosts, .hpn] : List Part) ⊆ l) : Keeps l s (@State.postTo a0 a1 a2 a3) := by
  unfold State.postTo
  repeat' first
    | with_reducible assumption
    | ((with_reducible refine State.onPorts_keeps ?_ ?_ (List.Subset.trans ?_ hl)); rotate_right; decide +kernel; rotate_right; (intro j p; first | rfl | exact hf _ | exact HostPort.post_slots _ _ | exact HostPort.post2_slots _ _ _ | exact HostPort.settle_slots _ _ | (split <;> first | rfl | exact hf _ | exact HostPort.post_slots _ _ | exact HostPort.post2_slots _ _ _ | exact HostPort.settle_slots _ _)))

theorem postDone_keeps {l : List Part} {s : State} {a0 : State} {a1 : _} {a2 : _} {a3 : _} {a4 : _} {a5 : _} (h : Keeps l s a0)
    (hl : ([.sent, .hosts, .hpn] : List Part) ⊆ l) : Keeps l s (@State.postDone a0 a1 a2 a3 a4 a5) := by
  unfold State.postDone
  repeat' first
    | with_reducible assumption
    | ((with_reducible refine State.onPorts_keeps ?_ ?_ (List.Subset.trans ?_ hl)); rotate_right; decide +kernel; rotate_right; (intro j p; first | rfl | exact hf _ | exact HostPort.post_slots _ _ | exact HostPort.post2_slots _ _ _ | exact HostPort.settle_slots _ _ | (split <;> first | rfl | exact hf _ | exact HostPort.post_slots _ _ | exact HostPort.post2_slots _ _ _ | exact HostPort.settle_slots _ _)))
    | (with_reducible refine State.postTo_keeps ?_ (List.Subset.trans ?_ hl); rotate_right; decide +kernel)
    | intro x
    | lift_lets
    | split

theorem when_keeps {l : List Part} {s : State} {a0 : State} {a1 : _} {a2 : _} (h : Keeps l s a0) (hf : ∀ u, Keeps l s u → Keeps l s (a2 u))
    (hl : ([] : List Part) ⊆ l) : Keeps l s (@State.when a0 a1 a2) := by
  unfold State.when
  repeat' first
    | with_reducible assumption
    | with_reducible refine hf _ ?_
    | with_reducible refine Keeps.ite ?_ ?_

theorem writeResponse_keeps {l : List Part} {s : State} {a0 : State} {a1 : _} {a2 : _} {a3 : _} (h : Keeps l s a0)
    (hl : ([.sent, .hosts, .slots, .hpn] : List Part) ⊆ l) : Keeps l s (@State.writeResponse a0 a1 a2 a3) := by
  unfold State.writeResponse
  repeat' first
    | with_reducible assumption
    | (with_reducible refine State.modSlot_keeps ?_ (List.Subset.trans ?_ hl); rotate_right; decide +kernel)
    | (with_reducible refine State.sendHpn_keeps ?_ (List.Subset.trans ?_ hl); rotate_right; decide +kernel)
    | (with_reducible refine State.when_keeps ?_ ?_ (List.Subset.trans ?_ hl); rotate_right; decide +kernel)
    | intro x

theorem pauseFrom_keeps {l : List Part} {s : State} {a0 : State} {a1 : _} {a2 : _} (h : Keeps l s a0)
    (hl : ([.thm] : List Part) ⊆ l) : Keeps l s (@State.pauseFrom a0 a1 a2) := by
  unfold State.pauseFrom
  repeat' first
    | with_reducible assumption
    | with_reducible refine Keeps.ite ?_ ?_
    | intro x
    | lift_lets
    | (with_reducible refine Keeps.set_thm ?_ (inL hl ?_); rotate_right; decide +kernel)

theorem cmdPause_keeps {l : List Part} {s : State} {a0 : State} {a1 : _} (h : Keeps l s a0)
    (hl : ([.thm] : List Part) ⊆ l) : Keeps l s (@State.cmdPause a0 a1) := by
  unfold State.cmdPause
  repeat' first
    | with_reducible assumption
    | (with_reducible refine State.pauseFrom_keeps ?_ (List.Subset.trans ?_ hl); rotate_right; decide +kernel)
    | (with_reducible refine State.when_keeps ?_ ?_ (List.Subset.trans ?_ hl); rotate_right; decide +kernel)
    | intro x

theorem respond_keeps {l : List Part} {s : State} {a0 : State} {a1 : _} {a2 : _} (h : Keeps l s a0)
    (hl : ([.sent, .hosts, .slots, .hpn, .thm] : List Part) ⊆ l) : Keeps l s (@State.respond a0 a1 a2) := by
  unfold State.respond
  repeat' first
    | with_reducible assumption
    | with_reducible refine Keeps.ite ?_ ?_
    | (with_reducible refine State.postDone_keeps ?_ (List.Subset.trans ?_ hl); rotate_right; decide +kernel)
    | (with_reducible refine State.writeResponse_keeps ?_ (List.Subset.trans ?_ hl); rotate_right; decide +kernel)
    | (with_reducible refine State.cmdPause_keeps ?_ (List.Subset.trans ?_ hl); rotate_right; decide +kernel)
    | (with_reducible refine State.when_keeps ?_ ?_ (List.Subset.trans ?_ hl); rotate_right; decide +kernel)
    | intro x

theorem accept_keeps {l : List Part} {s : State} {a0 : State} (h : Keeps l s a0)
    (hl : ([.sent, .hosts, .slots, .disp, .hpn, .sec, .thm, .one O.sysHostPresent] : List Part) ⊆ l) : Keeps l s (@State.accept a0) := by
  unfold State.accept
  split
  · exact h
  · rename_i hst _
    split
    · exact h
    · rename_i k rest _
      lift_lets
      intro x hd len c s1 d1 d2 s2
      have h1 : Keeps l s s1 := modSlot_keeps (modHost_keeps h (List.Subset.trans (by decide +kernel) hl)) (List.Subset.trans (by decide +kernel) hl)
      clear_value s1
      have h2 : Keeps l s s2 := renew_keeps (Keeps.set_disp_sec h1 (inL hl (by decide +kernel)) (inL hl (by decide +kernel))) (List.Subset.trans (by decide +kernel) hl)
      clear_value s2
      split
      · exact respond_keeps h2 (List.Subset.trans (by decide +kernel) hl)
      · exact Keeps.set_disp h2 (inL hl (by decide +kernel))

theorem updShow_keeps {l : List Part} {s : State} {a0 : State} {a1 : _} (h : Keeps l s a0)
    (hl : ([.one O.updIl, .fam O.updRunning 6, .fam O.updSpare 6] : List Part) ⊆ l) : Keeps l s (@State.updShow a0 a1) := by
  unfold State.updShow
  repeat' first
    | with_reducible assumption
    | (with_reducible refine State.setO_keeps ?_ ⟨_, inL hl ?_, O.updIl_has⟩; rotate_right; decide +kernel)
    | (with_reducible refine State.setO_keeps ?_ ⟨_, inL hl ?_, O.updRunning_has _ ?_⟩; rotate_right; (first | exact Fin.isLt _ | omega | (simp only [List.mem_range] at *; omega)); rotate_right; decide +kernel)
    | (with_reducible refine State.setO_keeps ?_ ⟨_, inL hl ?_, O.updSpare_has _ ?_⟩; rotate_right; (first | exact Fin.isLt _ | omega | (simp only [List.mem_range] at *; omega)); rotate_right; decide +kernel)

theorem modUpd_keeps {l : List Part} {s : State} {a0 : State} {a1 : _} {a2 : _} (h : Keeps l s a0)
    (hl : ([.upd] : List Part) ⊆ l) : Keeps l s (@State.modUpd a0 a1 a2) := by
  unfold State.modUpd
  repeat' first
    | with_reducible assumption
    | (with_reducible refine Keeps.set_upd ?_ (inL hl ?_); rotate_right; decide +kernel)

theorem onMasked_keeps {l : List Part} {s : State} {a0 : State} {a1 : Evt} {a2 : HostPort → HostPort} (h : Keeps l s a0)
    (hf : ∀ p, (a2 p).slots = p.slots) (hl : ([.sent, .hosts, .hpn] : List Part) ⊆ l) : Keeps l s (State.onMasked a0 a1 a2) := by
  unfold State.onMasked
  refine onPorts_keeps h (fun j p => ?_) (List.Subset.trans (by decide +kernel) hl)
  split
  · exact hf p
  · rfl

theorem postEvt_keeps {l : List Part} {s : State} {a0 : State} {a1 : _} (h : Keeps l s a0)
    (hl : ([.sent, .hosts, .hpn] : List Part) ⊆ l) : Keeps l s (@State.postEvt a0 a1) := by
  unfold State.postEvt
  repeat' first
    | with_reducible assumption
    | ((with_reducible refine State.onMasked_keeps ?_ ?_ (List.Subset.trans ?_ hl)); rotate_right; decide +kernel; rotate_right; (intro p; first | rfl | exact hf _ | exact HostPort.post_slots _ _ | exact HostPort.post2_slots _ _ _ | exact HostPort.settle_slots _ _ | (split <;> first | rfl | exact hf _ | exact HostPort.post_slots _ _ | exact HostPort.post2_slots _ _ _ | exact HostPort.settle_slots _ _)))

theorem postLater_keeps {l : List Part} {s : State} {a0 : State} {a1 : _} (h : Keeps l s a0)
    (hl : ([.sent, .hosts, .later, .hpn] : List Part) ⊆ l) : Keeps l s (@State.postLater a0 a1) := by
  unfold State.postLater
  repeat' first
    | with_reducible assumption
    | with_reducible refine Keeps.ite ?_ ?_
    | ((with_reducible refine State.onMasked_keeps ?_ ?_ (List.Subset.trans ?_ hl)); rotate_right; decide +kernel; rotate_right; (intro p; first | rfl | exact hf _ | exact HostPort.post_slots _ _ | exact HostPort.post2_slots _ _ _ | exact HostPort.settle_slots _ _ | (split <;> first | rfl | exact hf _ | exact HostPort.post_slots _ _ | exact HostPort.post2_slots _ _ _ | exact HostPort.settle_slots _ _)))
    | (with_reducible refine Keeps.set_later ?_ (inL hl ?_); rotate_right; decide +kernel)

theorem postMasked_keeps {l : List Part} {s : State} {a0 : State} {a1 : _} {a2 : _} {a3 : _} (h : Keeps l s a0)
    (hl : ([.sent, .hosts, .later, .hpn] : List Part) ⊆ l) : Keeps l s (@State.postMasked a0 a1 a2 a3) := by
  unfold State.postMasked
  repeat' first
    | with_reducible assumption
    | with_reducible refine Keeps.ite ?_ ?_
    | (with_reducible refine State.postEvt_keeps ?_ (List.Subset.trans ?_ hl); rotate_right; decide +kernel)
    | (with_reducible refine State.postLater_keeps ?_ (List.Subset.trans ?_ hl); rotate_right; decide +kernel)

theorem raise_keeps {l : List Part} {s : State} {a0 : State} {a1 : _} {a2 : _} {a3 : _} {a4 : _} (h : Keeps l s a0)
    (hl : ([.evLast, .sent, .hosts, .later, .hpn] : List Part) ⊆ l) : Keeps l s (@State.raise a0 a1 a2 a3 a4) := by
  unfold State.raise
  repeat' first
    | with_reducible assumption
    | with_reducible refine Keeps.ite ?_ ?_
    | (with_reducible refine State.postMasked_keeps ?_ (List.Subset.trans ?_ hl); rotate_right; decide +kernel)
    | (with_reducible refine Keeps.set_evLast ?_ (inL hl ?_); rotate_right; decide +kernel)

theorem updEvent_keeps {l : List Part} {s : State} {a0 : State} {a1 : _} {a2 : _} (h : Keeps l s a0)
    (hl : ([.evLast, .sent, .hosts, .later, .hpn] : List Part) ⊆ l) : Keeps l s (@State.updEvent a0 a1 a2) := by
  unfold State.updEvent
  repeat' first
    | with_reducible assumption
    | (with_reducible refine State.raise_keeps ?_ (List.Subset.trans ?_ hl); rotate_right; decide +kernel)

theorem trialBegin_keeps {l : List Part} {s : State} {a0 : State} {a1 : _} (h : Keeps l s a0)
    (hl : ([.evLast, .sent, .hosts, .later, .hpn, .upd, .one O.updIl, .one O.updBusy, .fam O.updRunning 6, .fam O.updSpare 6, .fam O.updState 6] : List Part) ⊆ l) : Keeps l s (@State.trialBegin a0 a1) := by
  unfold State.trialBegin
  repeat' first
    | with_reducible assumption
    | (with_reducible refine State.updShow_keeps ?_ (List.Subset.trans ?_ hl); rotate_right; decide +kernel)
    | (with_reducible refine State.setO_keeps ?_ ⟨_, inL hl ?_, O.updBusy_has⟩; rotate_right; decide +kernel)
    | (with_reducible refine State.setO_keeps ?_ ⟨_, inL hl ?_, O.updState_has _ ?_⟩; rotate_right; (first | exact Fin.isLt _ | omega | (simp only [List.mem_range] at *; omega)); rotate_right; decide +kernel)
    | (with_reducible refine State.modUpd_keeps ?_ (List.Subset.trans ?_ hl); rotate_right; decide +kernel)
    | (with_reducible refine State.updEvent_keeps ?_ (List.Subset.trans ?_ hl); rotate_right; decide +kernel)

theorem amcFlagsBack_keeps {l : List Part} {s : State} {a0 : State} {a1 : State} {a2 : _} (h : Keeps l s a0)
    (hl : ([.fam O.amcFlags 6] : List Part) ⊆ l) : Keeps l s (@State.amcFlagsBack a0 a1 a2) := by
  unfold State.amcFlagsBack
  repeat' first
    | with_reducible assumption
    | (with_reducible refine State.setO_keeps ?_ ⟨_, inL hl ?_, O.amcFlags_has _ ?_⟩; rotate_right; (first | exact Fin.isLt _ | omega | (simp only [List.mem_range] at *; omega)); rotate_right; decide +kernel)
    | with_reducible refine Keeps.foldl ?_ ?_
    | intro x

theorem endHeld_keeps {l : List Part} {s : State} {a0 : State} {a1 : _} {a2 : _} {a3 : _} (h : Keeps l s a0)
    (hl : ([.disp] : List Part) ⊆ l) : Keeps l s (@State.endHeld a0 a1 a2 a3) := by
  unfold State.endHeld
  repeat' first
    | with_reducible assumption
    | with_reducible refine Keeps.ite ?_ ?_
    | intro x
    | lift_lets
    | (with_reducible refine Keeps.set_disp ?_ (inL hl ?_); rotate_right; decide +kernel)

theorem endAll_keeps {l : List Part} {s : State} {a0 : State} {a1 : _} {a2 : _} {a3 : _} (h : Keeps l s a0)
    (hl : ([.disp] : List Part) ⊆ l) : Keeps l s (@State.endAll a0 a1 a2 a3) := by
  unfold State.endAll
  repeat' first
    | with_reducible assumption
    | (with_reducible refine State.endHeld_keeps ?_ (List.Subset.trans ?_ hl); rotate_right; decide +kernel)
    | with_reducible refine Keeps.foldl ?_ ?_
    | intro x
    | lift_lets
    | (with_reducible refine Keeps.set_disp ?_ (inL hl ?_); rotate_right; decide +kernel)

theorem modDisp_keeps {l : List Part} {s : State} {a0 : State} {a1 : _} (h : Keeps l s a0)
    (hl : ([.disp] : List Part) ⊆ l) : Keeps l s (@State.modDisp a0 a1) := by
  unfold State.modDisp
  repeat' first
    | with_reducible assumption
    | (with_reducible refine Keeps.set_disp ?_ (inL hl ?_); rotate_right; decide +kernel)

theorem txOutcome_keeps {l : List Part} {s : State} {a0 : State} {a1 : _} {a2 : _} (h : Keeps l s a0)
    (hl : ([.disp] : List Part) ⊆ l) : Keeps l s (@State.txOutcome a0 a1 a2) := by
  unfold State.txOutcome
  repeat' first
    | with_reducible assumption
    | with_reducible refine Keeps.ite ?_ ?_
    | (with_reducible refine State.endAll_keeps ?_ (List.Subset.trans ?_ hl); rotate_right; decide +kernel)
    | (with_reducible refine State.modDisp_keeps ?_ (List.Subset.trans ?_ hl); rotate_right; decide +kernel)
    | intro x
    | lift_lets
    | split

theorem showSess_keeps {l : List Part} {s : State} {a0 : State} (h : Keeps l s a0)
    (hl : ([.one O.netSessions] : List Part) ⊆ l) : Keeps l s (@State.showSess a0) := by
  unfold State.showSess
  repeat' first
    | with_reducible assumption
    | (with_reducible refine State.setO_keeps ?_ ⟨_, inL hl ?_, O.netSessions_has⟩; rotate_right; decide +kernel)

theorem modNet_keeps {l : List Part} {s : State} {a0 : State} {a1 : _} (h : Keeps l s a0)
    (hl : ([.net] : List Part) ⊆ l) : Keeps l s (@State.modNet a0 a1) := by
  unfold State.modNet
  repeat' first
    | with_reducible assumption
    | (with_reducible refine Keeps.set_net ?_ (inL hl ?_); rotate_right; decide +kernel)

theorem cycSkip_keeps {l : List Part} {s : State} {a0 : State} (h : Keeps l s a0)
    (hl : ([.one O.sysLateFlags, .one O.netCycSkipped] : List Part) ⊆ l) : Keeps l s (@State.cycSkip a0) := by
  unfold State.cycSkip
  repeat' first
    | with_reducible assumption
    | (with_reducible refine State.incSat_keeps ?_ ⟨_, inL hl ?_, O.netCycSkipped_has⟩; rotate_right; decide +kernel)
    | (with_reducible refine State.orO_keeps ?_ ⟨_, inL hl ?_, O.sysLateFlags_has⟩; rotate_right; decide +kernel)

theorem queueTx_keeps {l : List Part} {s : State} {a0 : State} {a1 : _} (h : Keeps l s a0)
    (hl : ([.net] : List Part) ⊆ l) : Keeps l s (@State.queueTx a0 a1) := by
  unfold State.queueTx
  repeat' first
    | with_reducible assumption
    | (with_reducible refine State.modNet_keeps ?_ (List.Subset.trans ?_ hl); rotate_right; decide +kernel)

theorem tpSend_keeps {l : List Part} {s : State} {a0 : State} {a1 : _} {a2 : _} {a3 : _} (h : Keeps l s a0)
    (hl : ([.net] : List Part) ⊆ l) : Keeps l s (@State.tpSend a0 a1 a2 a3) := by
  unfold State.tpSend
  repeat' first
    | with_reducible assumption
    | (with_reducible refine State.queueTx_keeps ?_ (List.Subset.trans ?_ hl); rotate_right; decide +kernel)
    | with_reducible refine Keeps.foldl ?_ ?_
    | intro x

theorem ownFrame_keeps {l : List Part} {s : State} {a0 : State} {a1 : _} {a2 : _} {a3 : _} {a4 : _} {a5 : _} {a6 : _} {a7 : _} (h : Keeps l s a0)
    (hl : ([.net] : List Part) ⊆ l) : Keeps l s (@State.ownFrame a0 a1 a2 a3 a4 a5 a6 a7) := by
  unfold State.ownFrame
  repeat' first
    | with_reducible assumption
    | (with_reducible refine State.queueTx_keeps ?_ (List.Subset.trans ?_ hl); rotate_right; decide +kernel)

theorem tpOpen_keeps {l : List Part} {s : State} {a0 : State} {a1 : _} (h : Keeps l s a0)
    (hl : ([.net, .one O.netSessions] : List Part) ⊆ l) : Keeps l s (@State.tpOpen a0 a1) := by
  unfold State.tpOpen
  repeat' first
    | with_reducible assumption
    | with_reducible refine Keeps.ite ?_ ?_
    | (with_reducible refine State.showSess_keeps ?_ (List.Subset.trans ?_ hl); rotate_right; decide +kernel)
    | (with_reducible refine State.tpSend_keeps ?_ (List.Subset.trans ?_ hl); rotate_right; decide +kernel)
    | (with_reducible refine State.ownFrame_keeps ?_ (List.Subset.trans ?_ hl); rotate_right; decide +kernel)
    | (with_reducible refine State.modNet_keeps ?_ (List.Subset.trans ?_ hl); rotate_right; decide +kernel)

theorem tpTake_keeps {l : List Part} {s : State} {a0 : State} {a1 : _} (h : Keeps l s a0)
    (hl : ([.net, .one O.sysLateFlags, .one O.netSessions, .one O.netCycSkipped] : List Part) ⊆ l) : Keeps l s (@State.tpTake a0 a1) := by
  unfold State.tpTake
  repeat' first
    | with_reducible assumption
    | with_reducible refine Keeps.ite ?_ ?_
    | (with_reducible refine State.cycSkip_keeps ?_ (List.Subset.trans ?_ hl); rotate_right; decide +kernel)
    | (with_reducible refine State.tpOpen_keeps ?_ (List.Subset.trans ?_ hl); rotate_right; decide +kernel)

theorem tpWaiting_keeps {l : List Part} {s : State} {a0 : State} (h : Keeps l s a0)
    (hl : ([.net, .one O.sysLateFlags, .one O.netSessions, .one O.netCycSkipped] : List Part) ⊆ l) : Keeps l s (@State.tpWaiting a0) := by
  unfold State.tpWaiting
  repeat' first
    | with_reducible assumption
    | with_reducible refine Keeps.ite ?_ ?_
    | (with_reducible refine State.tpTake_keeps ?_ (List.Subset.trans ?_ hl); rotate_right; decide +kernel)
    | (with_reducible refine State.modNet_keeps ?_ (List.Subset.trans ?_ hl); rotate_right; decide +kernel)
    | with_reducible refine Keeps.foldl ?_ ?_
    | intro x

theorem portFlush_keeps {l : List Part} {s : State} {a0 : State} {a1 : _} (h : Keeps l s a0)
    (hl : ([.disp, .net, .one O.sysLateFlags, .one O.netSessions, .one O.netCycSkipped] : List Part) ⊆ l) : Keeps l s (@State.portFlush a0 a1) := by
  unfold State.portFlush
  repeat' first
    | with_reducible assumption
    | (with_reducible refine State.txOutcome_keeps ?_ (List.Subset.trans ?_ hl); rotate_right; decide +kernel)
    | (with_reducible refine State.showSess_keeps ?_ (List.Subset.trans ?_ hl); rotate_right; decide +kernel)
    | (with_reducible refine State.modNet_keeps ?_ (List.Subset.trans ?_ hl); rotate_right; decide +kernel)
    | (with_reducible refine State.tpWaiting_keeps ?_ (List.Subset.trans ?_ hl); rotate_right; decide +kernel)
    | with_reducible refine Keeps.foldl ?_ ?_
    | intro x

theorem modCan_keeps {l : List Part} {s : State} {a0 : State} {a1 : _} {a2 : _} (h : Keeps l s a0)
    (hl : ([.net] : List Part) ⊆ l) : Keeps l s (@State.modCan a0 a1 a2) := by
  unfold State.modCan
  repeat' first
    | with_reducible assumption
    | (with_reducible refine State.modNet_keeps ?_ (List.Subset.trans ?_ hl); rotate_right; decide +kernel)

theorem addrNone_keeps {l : List Part} {s : State} {a0 : State} {a1 : _} (h : Keeps l s a0)
    (hl : ([.fam O.netCanAddr 4, .fam O.netCanStatus 4] : List Part) ⊆ l) : Keeps l s (@State.addrNone a0 a1) := by
  unfold State.addrNone
  repeat' first
    | with_reducible assumption
    | (with_reducible refine State.setO_keeps ?_ ⟨_, inL hl ?_, O.netCanAddr_has _ ?_⟩; rotate_right; (first | exact Fin.isLt _ | omega | (simp only [List.mem_range] at *; omega)); rotate_right; decide +kernel)
    | (with_reducible refine State.clrO_keeps ?_ ⟨_, inL hl ?_, O.netCanStatus_has _ ?_⟩; rotate_right; (first | exact Fin.isLt _ | omega | (simp only [List.mem_range] at *; omega)); rotate_right; decide +kernel)

theorem claimFrame_keeps {l : List Part} {s : State} {a0 : State} {a1 : _} {a2 : _} (h : Keeps l s a0)
    (hl : ([.net] : List Part) ⊆ l) : Keeps l s (@State.claimFrame a0 a1 a2) := by
  unfold State.claimFrame
  repeat' first
    | with_reducible assumption
    | (with_reducible refine State.ownFrame_keeps ?_ (List.Subset.trans ?_ hl); rotate_right; decide +kernel)

theorem claimStart_keeps {l : List Part} {s : State} {a0 : State} {a1 : _} {a2 : _} (h : Keeps l s a0)
    (hl : ([.net, .fam O.netCanAddr 4, .fam O.netCanStatus 4] : List Part) ⊆ l) : Keeps l s (@State.claimStart a0 a1 a2) := by
  unfold State.claimStart
  repeat' first
    | with_reducible assumption
    | with_reducible refine Keeps.ite ?_ ?_
    | (with_reducible refine State.modCan_keeps ?_ (List.Subset.trans ?_ hl); rotate_right; decide +kernel)
    | (with_reducible refine State.addrNone_keeps ?_ (List.Subset.trans ?_ hl); rotate_right; decide +kernel)
    | (with_reducible refine State.claimFrame_keeps ?_ (List.Subset.trans ?_ hl); rotate_right; decide +kernel)

theorem canStart_keeps {l : List Part} {s : State} {a0 : State} {a1 : _} (h : Keeps l s a0)
    (hl : ([.disp, .net, .one O.sysLateFlags, .one O.netSessions, .one O.netCycSkipped, .fam O.netCanAddr 4, .fam O.netCanStatus 4] : List Part) ⊆ l) : Keeps l s (@State.canStart a0 a1) := by
  unfold State.canStart
  repeat' first
    | with_reducible assumption
    | (with_reducible refine State.portFlush_keeps ?_ (List.Subset.trans ?_ hl); rotate_right; decide +kernel)
    | (with_reducible refine State.modCan_keeps ?_ (List.Subset.trans ?_ hl); rotate_right; decide +kernel)
    | (with_reducible refine State.claimStart_keeps ?_ (List.Subset.trans ?_ hl); rotate_right; decide +kernel)

theorem netStart_keeps {l : List Part} {s : State} {a0 : State} (h : Keeps l s a0)
    (hl : ([.disp, .net, .one O.sysLateFlags, .one O.netSessions, .one O.netCycSkipped, .fam O.netCanAddr 4, .fam O.netCanStatus 4] : List Part) ⊆ l) : Keeps l s (@State.netStart a0) := by
  unfold State.netStart
  repeat' first
    | with_reducible assumption
    | (with_reducible refine State.canStart_keeps ?_ (List.Subset.trans ?_ hl); rotate_right; decide +kernel)
    | (with_reducible refine State.modNet_keeps ?_ (List.Subset.trans ?_ hl); rotate_right; decide +kernel)
    | with_reducible refine Keeps.foldl ?_ ?_
    | intro x

theorem modLink_keeps {l : List Part} {s : State} {a0 : State} {a1 : _} {a2 : _} (h : Keeps l s a0)
    (hl : ([.links] : List Part) ⊆ l) : Keeps l s (@State.modLink a0 a1 a2) := by
  unfold State.modLink
  repeat' first
    | with_reducible assumption
    | (with_reducible refine Keeps.set_links ?_ (inL hl ?_); rotate_right; decide +kernel)

theorem cancelEdges_keeps {l : List Part} {s : State} {a0 : State} {a1 : _} (h : Keeps l s a0)
    (hl : ([.sent, .links] : List Part) ⊆ l) : Keeps l s (@State.cancelEdges a0 a1) := by
  unfold State.cancelEdges
  repeat' first
    | with_reducible assumption
    | (with_reducible refine State.modLink_keeps ?_ (List.Subset.trans ?_ hl); rotate_right; decide +kernel)
    | lift_lets
    | (with_reducible refine Keeps.set_sent ?_ (inL hl ?_); rotate_right; decide +kernel)

theorem clearLine_keeps {l : List Part} {s : State} {a0 : State} {a1 : _} (h : Keeps l s a0)
    (hl : ([.sent, .links] : List Part) ⊆ l) : Keeps l s (@State.clearLine a0 a1) := by
  unfold State.clearLine
  repeat' first
    | with_reducible assumption
    | (with_reducible refine State.modLink_keeps ?_ (List.Subset.trans ?_ hl); rotate_right; decide +kernel)
    | (with_reducible refine State.cancelEdges_keeps ?_ (List.Subset.trans ?_ hl); rotate_right; decide +kernel)
    | lift_lets
    | (with_reducible refine Keeps.set_sent ?_ (inL hl ?_); rotate_right; decide +kernel)

theorem putFrame_keeps {l : List Part} {s : State} {a0 : State} {a1 : _} {a2 : _} {a3 : _} {a4 : _} (h : Keeps l s a0)
    (hl : ([.sent, .links] : List Part) ⊆ l) : Keeps l s (@State.putFrame a0 a1 a2 a3 a4) := by
  unfold State.putFrame
  repeat' first
    | with_reducible assumption
    | with_reducible refine Keeps.ite ?_ ?_
    | (with_reducible refine State.modLink_keeps ?_ (List.Subset.trans ?_ hl); rotate_right; decide +kernel)
    | (with_reducible refine State.send_keeps ?_ (List.Subset.trans ?_ hl); rotate_right; decide +kernel)

theorem forceAtB_keeps {l : List Part} {s : State} {a0 : State} {a1 : _} {a2 : _} (h : Keeps l s a0)
    (hl : ([.sent, .links] : List Part) ⊆ l) : Keeps l s (@State.forceAtB a0 a1 a2) := by
  unfold State.forceAtB
  repeat' first
    | with_reducible assumption
    | (with_reducible refine State.modLink_keeps ?_ (List.Subset.trans ?_ hl); rotate_right; decide +kernel)
    | (with_reducible refine State.putFrame_keeps ?_ (List.Subset.trans ?_ hl); rotate_right; decide +kernel)

theorem sendForce_keeps {l : List Part} {s : State} {a0 : State} {a1 : _} (h : Keeps l s a0)
    (hl : ([.sent, .links] : List Part) ⊆ l) : Keeps l s (@State.sendForce a0 a1) := by
  unfold State.sendForce
  repeat' first
    | with_reducible assumption
    | with_reducible refine Keeps.ite ?_ ?_
    | (with_reducible refine State.clearLine_keeps ?_ (List.Subset.trans ?_ hl); rotate_right; decide +kernel)
    | (with_reducible refine State.forceAtB_keeps ?_ (List.Subset.trans ?_ hl); rotate_right; decide +kernel)

theorem releaseLegs_keeps {l : List Part} {s : State} {a0 : State} {a1 : _} {a2 : _} (h : Keeps l s a0)
    (hl : ([.links] : List Part) ⊆ l) : Keeps l s (@State.releaseLegs a0 a1 a2) := by
  unfold State.releaseLegs
  repeat' first
    | with_reducible assumption
    | with_reducible refine Keeps.ite ?_ ?_
    | (with_reducible refine State.modLink_keeps ?_ (List.Subset.trans ?_ hl); rotate_right; decide +kernel)
    | with_reducible refine Keeps.foldl ?_ ?_
    | intro x

theorem forceChanged_keeps {l : List Part} {s : State} {a0 : State} {a1 : _} {a2 : _} (h : Keeps l s a0)
    (hl : ([.sent, .links] : List Part) ⊆ l) : Keeps l s (@State.forceChanged a0 a1 a2) := by
  unfold State.forceChanged
  repeat' first
    | with_reducible assumption
    | with_reducible refine Keeps.ite ?_ ?_
    | (with_reducible refine State.modLink_keeps ?_ (List.Subset.trans ?_ hl); rotate_right; decide +kernel)
    | (with_reducible refine State.sendForce_keeps ?_ (List.Subset.trans ?_ hl); rotate_right; decide +kernel)
    | (with_reducible refine State.cancelEdges_keeps ?_ (List.Subset.trans ?_ hl); rotate_right; decide +kernel)
    | (with_reducible refine State.releaseLegs_keeps ?_ (List.Subset.trans ?_ hl); rotate_right; decide +kernel)

theorem putForces_keeps {l : List Part} {s : State} {a0 : State} {a1 : _} {a2 : _} (h : Keeps l s a0)
    (hl : ([.sent, .forceA, .forceB, .links] : List Part) ⊆ l) : Keeps l s (@State.putForces a0 a1 a2) := by
  unfold State.putForces
  repeat' first
    | with_reducible assumption
    | (with_reducible refine State.forceChanged_keeps ?_ (List.Subset.trans ?_ hl); rotate_right; decide +kernel)
    | with_reducible refine Keeps.foldl ?_ ?_
    | intro x
    | lift_lets
    | (with_reducible refine Keeps.set_forceA_forceB ?_ (inL hl ?_) (inL hl ?_); rotate_right; decide +kernel; rotate_right; decide +kernel)

theorem applySc_keeps {l : List Part} {s : State} {a0 : State} (h : Keeps l s a0)
    (hl : ([.sent, .forceA, .forceB, .links] : List Part) ⊆ l) : Keeps l s (@State.applySc a0) := by
  unfold State.applySc
  repeat' first
    | with_reducible assumption
    | (with_reducible refine State.putForces_keeps ?_ (List.Subset.trans ?_ hl); rotate_right; decide +kernel)

theorem modAux_keeps {l : List Part} {s : State} {a0 : State} {a1 : _} (h : Keeps l s a0)
    (hl : ([.aux] : List Part) ⊆ l) : Keeps l s (@State.modAux a0 a1) := by
  unfold State.modAux
  repeat' first
    | with_reducible assumption
    | (with_reducible refine Keeps.set_aux ?_ (inL hl ?_); rotate_right; decide +kernel)

theorem auxPeakLoad_keeps {l : List Part} {s : State} {a0 : State} (h : Keeps l s a0)
    (hl : ([.aux] : List Part) ⊆ l) : Keeps l s (@State.auxPeakLoad a0) := by
  unfold State.auxPeakLoad
  repeat' first
    | with_reducible assumption
    | (with_reducible refine State.modAux_keeps ?_ (List.Subset.trans ?_ hl); rotate_right; decide +kernel)

theorem ctHalt_keeps {l : List Part} {s : State} {a0 : State} (h : Keeps l s a0)
    (hl : ([.sent, .links, .cgs, .ctx, .tb, .traceReads] : List Part) ⊆ l) : Keeps l s (@State.ctHalt a0) := by
  unfold State.ctHalt
  repeat' first
    | with_reducible assumption
    | (intro x; have hx : Keeps l s x := ?_; clear_value x)
    | (with_reducible refine State.modLink_keeps ?_ (List.Subset.trans ?_ hl); rotate_right; decide +kernel)
    | (with_reducible refine State.cancelEdges_keeps ?_ (List.Subset.trans ?_ hl); rotate_right; decide +kernel)
    | with_reducible refine Keeps.foldl ?_ ?_
    | intro x
    | lift_lets
    | (with_reducible refine Keeps.set_cgs_ctx_tb_traceReads ?_ (inL hl ?_) (inL hl ?_) (inL hl ?_) (inL hl ?_); rotate_right; decide +kernel; rotate_right; decide +kernel; rotate_right; decide +kernel; rotate_right; decide +kernel)

theorem showClk_keeps {l : List Part} {s : State} {a0 : State} (h : Keeps l s a0)
    (hl : ([.one O.sysClkStatus] : List Part) ⊆ l) : Keeps l s (@State.showClk a0) := by
  unfold State.showClk
  repeat' first
    | with_reducible assumption
    | (with_reducible refine State.setO_keeps ?_ ⟨_, inL hl ?_, O.sysClkStatus_has⟩; rotate_right; decide +kernel)

theorem postAll_keeps {l : List Part} {s : State} {a0 : State} {a1 : _} {a2 : _} {a3 : _} (h : Keeps l s a0)
    (hl : ([.sent, .hosts, .hpn] : List Part) ⊆ l) : Keeps l s (@State.postAll a0 a1 a2 a3) := by
  unfold State.postAll
  repeat' first
    | with_reducible assumption
    | ((with_reducible refine State.onPorts_keeps ?_ ?_ (List.Subset.trans ?_ hl)); rotate_right; decide +kernel; rotate_right; (intro j p; first | rfl | exact hf _ | exact HostPort.post_slots _ _ | exact HostPort.post2_slots _ _ _ | exact HostPort.settle_slots _ _ | (split <;> first | rfl | exact hf _ | exact HostPort.post_slots _ _ | exact HostPort.post2_slots _ _ _ | exact HostPort.settle_slots _ _)))

theorem newWatch_keeps {l : List Part} {s : State} {a0 : State} (h : Keeps l s a0)
    (hl : ([.hosts] : List Part) ⊆ l) : Keeps l s (@State.newWatch a0) := by
  unfold State.newWatch
  exact setHosts_keeps h (fun j => by simp) (inL hl (by decide +kernel))

theorem takeFree_keeps {l : List Part} {s : State} {a0 : State} (h : Keeps l s a0)
    (hl : ([.free] : List Part) ⊆ l) : Keeps l s (@State.takeFree a0) := by
  unfold State.takeFree
  repeat' first
    | with_reducible assumption
    | (with_reducible refine Keeps.set_free ?_ (inL hl ?_); rotate_right; decide +kernel)

theorem undefX_keeps {l : List Part} {s : State} {a0 : State} (h : Keeps l s a0)
    (hl : ([.free, .xmem] : List Part) ⊆ l) : Keeps l s (@State.undefX a0) := by
  unfold State.undefX
  repeat' first
    | with_reducible assumption
    | (intro x; have hx : Keeps l s x := ?_; clear_value x)
    | (with_reducible refine State.takeFree_keeps ?_ (List.Subset.trans ?_ hl); rotate_right; decide +kernel)
    | intro x
    | lift_lets
    | (with_reducible refine Keeps.set_xmem ?_ (inL hl ?_); rotate_right; decide +kernel)

theorem dropHeld_keeps {l : List Part} {s : State} {a0 : State} {a1 : _} {a2 : _} (h : Keeps l s a0)
    (hl : ([.disp] : List Part) ⊆ l) : Keeps l s (@State.dropHeld a0 a1 a2) := by
  unfold State.dropHeld
  repeat' first
    | with_reducible assumption
    | (with_reducible refine State.endAll_keeps ?_ (List.Subset.trans ?_ hl); rotate_right; decide +kernel)

theorem modPos_keeps {l : List Part} {s : State} {a0 : State} {a1 : _} {a2 : _} (h : Keeps l s a0)
    (hl : ([.pos] : List Part) ⊆ l) : Keeps l s (@State.modPos a0 a1 a2) := by
  unfold State.modPos
  repeat' first
    | with_reducible assumption
    | (with_reducible refine Keeps.set_pos ?_ (inL hl ?_); rotate_right; decide +kernel)

theorem excDrive_keeps {l : List Part} {s : State} {a0 : State} {a1 : _} (h : Keeps l s a0)
    (hl : ([.pos] : List Part) ⊆ l) : Keeps l s (@State.excDrive a0 a1) := by
  unfold State.excDrive
  repeat' first
    | with_reducible assumption
    | (with_reducible refine State.modPos_keeps ?_ (List.Subset.trans ?_ hl); rotate_right; decide +kernel)

theorem portStart_keeps {l : List Part} {s : State} {a0 : State} {a1 : _} (h : Keeps l s a0)
    (hl : ([.pos, .fam O.posAngle 4, .fam O.posCount 4, .fam O.posSpeed 4, .fam O.posStatus 4] : List Part) ⊆ l) : Keeps l s (@State.portStart a0 a1) := by
  unfold State.portStart
  repeat' first
    | with_reducible assumption
    | (with_reducible refine State.setO_keeps ?_ ⟨_, inL hl ?_, O.posAngle_has _ ?_⟩; rotate_right; (first | exact Fin.isLt _ | omega | (simp only [List.mem_range] at *; omega)); rotate_right; decide +kernel)
    | (with_reducible refine State.setO_keeps ?_ ⟨_, inL hl ?_, O.posCount_has _ ?_⟩; rotate_right; (first | exact Fin.isLt _ | omega | (simp only [List.mem_range] at *; omega)); rotate_right; decide +kernel)
    | (with_reducible refine State.setO_keeps ?_ ⟨_, inL hl ?_, O.posSpeed_has _ ?_⟩; rotate_right; (first | exact Fin.isLt _ | omega | (simp only [List.mem_range] at *; omega)); rotate_right; decide +kernel)
    | (with_reducible refine State.setO_keeps ?_ ⟨_, inL hl ?_, O.posStatus_has _ ?_⟩; rotate_right; (first | exact Fin.isLt _ | omega | (simp only [List.mem_range] at *; omega)); rotate_right; decide +kernel)
    | (with_reducible refine State.excDrive_keeps ?_ (List.Subset.trans ?_ hl); rotate_right; decide +kernel)
    | (with_reducible refine State.modPos_keeps ?_ (List.Subset.trans ?_ hl); rotate_right; decide +kernel)

theorem portsStart_keeps {l : List Part} {s : State} {a0 : State} (h : Keeps l s a0)
    (hl : ([.pos, .fam O.posAngle 4, .fam O.posCount 4, .fam O.posSpeed 4, .fam O.posStatus 4] : List Part) ⊆ l) : Keeps l s (@State.portsStart a0) := by
  unfold State.portsStart
  repeat' first
    | with_reducible assumption
    | (with_reducible refine State.portStart_keeps ?_ (List.Subset.trans ?_ hl); rotate_right; decide +kernel)
    | with_reducible refine Keeps.foldl ?_ ?_
    | intro x

theorem cvLost_keeps {l : List Part} {s : State} {a0 : State} (h : Keeps l s a0)
    (hl : ([.adc, .pos, .prb, .amc, .fam O.posAngle 4, .fam O.posCount 4, .fam O.posSpeed 4, .fam O.posStatus 4] : List Part) ⊆ l) : Keeps l s (@State.cvLost a0) := by
  unfold State.cvLost
  repeat' first
    | with_reducible assumption
    | (with_reducible refine State.portsStart_keeps ?_ (List.Subset.trans ?_ hl); rotate_right; decide +kernel)
    | intro x
    | lift_lets
    | (with_reducible refine Keeps.set_adc_prb_amc ?_ (inL hl ?_) (inL hl ?_) (inL hl ?_); rotate_right; decide +kernel; rotate_right; decide +kernel; rotate_right; decide +kernel)

theorem drvTempGone_keeps {l : List Part} {s : State} {a0 : State} {a1 : _} (h : Keeps l s a0)
    (hl : ([.fam O.thmT 72] : List Part) ⊆ l) : Keeps l s (@State.drvTempGone a0 a1) := by
  unfold State.drvTempGone
  repeat' first
    | with_reducible assumption
    | (with_reducible refine State.setO_keeps ?_ ⟨_, inL hl ?_, O.thmT_has _ ?_⟩; rotate_right; (first | exact Fin.isLt _ | omega | (simp only [List.mem_range] at *; omega)); rotate_right; decide +kernel)

theorem modTrx_keeps {l : List Part} {s : State} {a0 : State} {a1 : _} {a2 : _} (h : Keeps l s a0)
    (hl : ([.trx] : List Part) ⊆ l) : Keeps l s (@State.modTrx a0 a1 a2) := by
  unfold State.modTrx
  repeat' first
    | with_reducible assumption
    | (with_reducible refine Keeps.set_trx ?_ (inL hl ?_); rotate_right; decide +kernel)

theorem modSet_keeps {l : List Part} {s : State} {a0 : State} {a1 : _} {a2 : _} {a3 : _} (h : Keeps l s a0)
    (hl : ([.trx] : List Part) ⊆ l) : Keeps l s (@State.modSet a0 a1 a2 a3) := by
  unfold State.modSet
  repeat' first
    | with_reducible assumption
    | (with_reducible refine State.modTrx_keeps ?_ (List.Subset.trans ?_ hl); rotate_right; decide +kernel)

theorem eligStep_keeps {l : List Part} {s : State} {a0 : State} {a1 : _} (h : Keeps l s a0)
    (hl : ([.trx] : List Part) ⊆ l) : Keeps l s (@State.eligStep a0 a1) := by
  unfold State.eligStep
  repeat' first
    | with_reducible assumption
    | (with_reducible refine State.modSet_keeps ?_ (List.Subset.trans ?_ hl); rotate_right; decide +kernel)
    | with_reducible refine Keeps.foldl ?_ ?_
    | intro x

theorem eligLink_keeps {l : List Part} {s : State} {a0 : State} {a1 : _} (h : Keeps l s a0)
    (hl : ([.trx] : List Part) ⊆ l) : Keeps l s (@State.eligLink a0 a1) := by
  unfold State.eligLink
  repeat' first
    | with_reducible assumption
    | (with_reducible refine State.eligStep_keeps ?_ (List.Subset.trans ?_ hl); rotate_right; decide +kernel)
    | intro x
    | split

theorem linkOff_keeps {l : List Part} {s : State} {a0 : State} {a1 : _} (h : Keeps l s a0)
    (hl : ([.sent, .links, .trx, .fam O.thmT 72] : List Part) ⊆ l) : Keeps l s (@State.linkOff a0 a1) := by
  unfold State.linkOff
  repeat' first
    | with_reducible assumption
    | (with_reducible refine State.modLink_keeps ?_ (List.Subset.trans ?_ hl); rotate_right; decide +kernel)
    | (with_reducible refine State.drvTempGone_keeps ?_ (List.Subset.trans ?_ hl); rotate_right; decide +kernel)
    | (with_reducible refine State.clearLine_keeps ?_ (List.Subset.trans ?_ hl); rotate_right; decide +kernel)
    | (with_reducible refine State.eligLink_keeps ?_ (List.Subset.trans ?_ hl); rotate_right; decide +kernel)

theorem ctLost_keeps {l : List Part} {s : State} {a0 : State} (h : Keeps l s a0)
    (hl : ([.sent, .links, .cgs, .trx, .ctx, .tb, .traceReads, .fam O.thmT 72] : List Part) ⊆ l) : Keeps l s (@State.ctLost a0) := by
  unfold State.ctLost
  repeat' first
    | with_reducible assumption
    | (intro x; have hx : Keeps l s x := ?_; clear_value x)
    | (with_reducible refine State.linkOff_keeps ?_ (List.Subset.trans ?_ hl); rotate_right; decide +kernel)
    | with_reducible refine Keeps.foldl ?_ ?_
    | intro x
    | lift_lets
    | (with_reducible refine Keeps.set_links_cgs_ctx_tb_traceReads ?_ (inL hl ?_) (inL hl ?_) (inL hl ?_) (inL hl ?_) (inL hl ?_); rotate_right; decide +kernel; rotate_right; decide +kernel; rotate_right; decide +kernel; rotate_right; decide +kernel; rotate_right; decide +kernel)

theorem attRenew_keeps {l : List Part} {s : State} {a0 : State} (h : Keeps l s a0)
    (hl : ([.sec, .one O.secAttEpoch, .one O.secAttNext] : List Part) ⊆ l) : Keeps l s (@State.attRenew a0) := by
  unfold State.attRenew
  repeat' first
    | with_reducible assumption
    | (with_reducible refine State.setO_keeps ?_ ⟨_, inL hl ?_, O.secAttEpoch_has⟩; rotate_right; decide +kernel)
    | (with_reducible refine State.setO_keeps ?_ ⟨_, inL hl ?_, O.secAttNext_has⟩; rotate_right; decide +kernel)
    | intro x
    | lift_lets
    | (with_reducible refine Keeps.set_sec ?_ (inL hl ?_); rotate_right; decide +kernel)

theorem seLost_keeps {l : List Part} {s : State} {a0 : State} (h : Keeps l s a0)
    (hl : ([.sec, .upd, .one O.secAttEpoch, .one O.secAttNext, .one O.secIdNext] : List Part) ⊆ l) : Keeps l s (@State.seLost a0) := by
  unfold State.seLost
  repeat' first
    | with_reducible assumption
    | (with_reducible refine State.setO_keeps ?_ ⟨_, inL hl ?_, O.secAttNext_has⟩; rotate_right; decide +kernel)
    | (with_reducible refine State.setO_keeps ?_ ⟨_, inL hl ?_, O.secIdNext_has⟩; rotate_right; decide +kernel)
    | (with_reducible refine State.attRenew_keeps ?_ (List.Subset.trans ?_ hl); rotate_right; decide +kernel)
    | (with_reducible refine State.when_keeps ?_ ?_ (List.Subset.trans ?_ hl); rotate_right; decide +kernel)
    | intro x
    | lift_lets
    | (with_reducible refine Keeps.set_sec ?_ (inL hl ?_); rotate_right; decide +kernel)
    | (with_reducible refine Keeps.set_upd ?_ (inL hl ?_); rotate_right; decide +kernel)

theorem scLost_keeps {l : List Part} {s : State} {a0 : State} (h : Keeps l s a0)
    (hl : ([.dcl, .ptg] : List Part) ⊆ l) : Keeps l s (@State.scLost a0) := by
  unfold State.scLost
  repeat' first
    | with_reducible assumption
    | intro x
    | lift_lets
    | (with_reducible refine Keeps.set_dcl_ptg ?_ (inL hl ?_) (inL hl ?_); rotate_right; decide +kernel; rotate_right; decide +kernel)

theorem islandLost_keeps {l : List Part} {s : State} {a0 : State} {a1 : _} (h : Keeps l s a0)
    (hl : ([.sent, .disp, .links, .cgs, .trx, .ctx, .tb, .traceReads, .dcl, .ptg, .adc, .pos, .prb, .amc, .sec, .upd, .net, .fam O.thmT 72, .one O.secAttEpoch, .one O.secAttNext, .one O.secIdNext, .fam O.posAngle 4, .fam O.posCount 4, .fam O.posSpeed 4, .fam O.posStatus 4] : List Part) ⊆ l) : Keeps l s (@State.islandLost a0 a1) := by
  unfold State.islandLost
  repeat' first
    | with_reducible assumption
    | (with_reducible refine State.cvLost_keeps ?_ (List.Subset.trans ?_ hl); rotate_right; decide +kernel)
    | (with_reducible refine State.ctLost_keeps ?_ (List.Subset.trans ?_ hl); rotate_right; decide +kernel)
    | (with_reducible refine State.dropHeld_keeps ?_ (List.Subset.trans ?_ hl); rotate_right; decide +kernel)
    | (with_reducible refine State.modDisp_keeps ?_ (List.Subset.trans ?_ hl); rotate_right; decide +kernel)
    | (with_reducible refine State.seLost_keeps ?_ (List.Subset.trans ?_ hl); rotate_right; decide +kernel)
    | (with_reducible refine State.scLost_keeps ?_ (List.Subset.trans ?_ hl); rotate_right; decide +kernel)
    | split
    | (with_reducible refine Keeps.set_net ?_ (inL hl ?_); rotate_right; decide +kernel)

theorem returnObjs_keeps {l : List Part} {s : State} {a0 : State} {a1 : _} {a2 : _} {a3 : _} {a4 : _} (h : Keeps l s a0)
    (hl : ([.allObjs] : List Part) ⊆ l) : Keeps l s (@State.returnObjs a0 a1 a2 a3 a4) := by
  unfold State.returnObjs
  exact Keeps.ite (Keeps.foldl (Keeps.set_objs h (inL hl (by decide +kernel))) fun u _ _ hu => setO_keeps hu ⟨.allObjs, (inL hl (by decide +kernel)), trivial⟩) (Keeps.set_objs h (inL hl (by decide +kernel)))

theorem setAdcSt_keeps {l : List Part} {s : State} {a0 : State} {a1 : _} {a2 : _} (h : Keeps l s a0)
    (hl : ([.fam O.adcStatus 12] : List Part) ⊆ l) : Keeps l s (@State.setAdcSt a0 a1 a2) := by
  unfold State.setAdcSt
  repeat' first
    | with_reducible assumption
    | (with_reducible refine State.setO_keeps ?_ ⟨_, inL hl ?_, O.adcStatus_has _ ?_⟩; rotate_right; (first | exact Fin.isLt _ | omega | (simp only [List.mem_range] at *; omega)); rotate_right; decide +kernel)

theorem adcIdle_keeps {l : List Part} {s : State} {a0 : State} {a1 : _} (h : Keeps l s a0)
    (hl : ([.fam O.adcStatus 12] : List Part) ⊆ l) : Keeps l s (@State.adcIdle a0 a1) := by
  unfold State.adcIdle
  repeat' first
    | with_reducible assumption
    | (with_reducible refine State.setAdcSt_keeps ?_ (List.Subset.trans ?_ hl); rotate_right; decide +kernel)

theorem redefault_keeps {l : List Part} {s : State} {a0 : State} {a1 : _} {a2 : _} {a3 : _} (h : Keeps l s a0)
    (hl : ([.fam O.pwmDriveTable 40, .fam O.trxRule 4, .fam O.trxSsState 4, .fam O.lpeUnits 64, .fam O.lpeBankB 64, .fam O.adcStatus 12] : List Part) ⊆ l) : Keeps l s (@State.redefault a0 a1 a2 a3) := by
  unfold State.redefault
  repeat' first
    | with_reducible assumption
    | with_reducible refine Keeps.ite ?_ ?_
    | (with_reducible refine State.adcIdle_keeps ?_ (List.Subset.trans ?_ hl); rotate_right; decide +kernel)
    | (with_reducible refine State.setO_keeps ?_ ⟨_, inL hl ?_, O.lpeBankB_has _ ?_⟩; rotate_right; (first | exact Fin.isLt _ | omega | (simp only [List.mem_range] at *; omega)); rotate_right; decide +kernel)
    | (with_reducible refine State.setO_keeps ?_ ⟨_, inL hl ?_, O.lpeUnits_has _ ?_⟩; rotate_right; (first | exact Fin.isLt _ | omega | (simp only [List.mem_range] at *; omega)); rotate_right; decide +kernel)
    | (with_reducible refine State.setO_keeps ?_ ⟨_, inL hl ?_, O.pwmDriveTable_has _ ?_⟩; rotate_right; (first | exact Fin.isLt _ | omega | (simp only [List.mem_range] at *; omega)); rotate_right; decide +kernel)
    | (with_reducible refine State.setO_keeps ?_ ⟨_, inL hl ?_, O.trxRule_has _ ?_⟩; rotate_right; (first | exact Fin.isLt _ | omega | (simp only [List.mem_range] at *; omega)); rotate_right; decide +kernel)
    | (with_reducible refine State.setO_keeps ?_ ⟨_, inL hl ?_, O.trxSsState_has _ ?_⟩; rotate_right; (first | exact Fin.isLt _ | omega | (simp only [List.mem_range] at *; omega)); rotate_right; decide +kernel)
    | with_reducible refine Keeps.foldl ?_ ?_
    | intro x

theorem restartEnd_keeps {l : List Part} {s : State} {a0 : State} {a1 : _} (h : Keeps l s a0)
    (hl : ([.free, .sent, .hosts, .disp, .xmem, .forceA, .forceB, .links, .cgs, .trx, .ctx, .tb, .traceReads, .dcl, .ptg, .adc, .pos, .prb, .aux, .amc, .hpn, .sec, .upd, .net, .allObjs, .one O.sysClkStatus, .one O.sysLateFlags, .fam O.thmT 72, .one O.secAttEpoch, .one O.secAttNext, .one O.secIdNext, .one O.netSessions, .one O.netCycSkipped, .fam O.netCanAddr 4, .fam O.netCanStatus 4, .fam O.pwmDriveTable 40, .fam O.trxRule 4, .fam O.trxSsState 4, .fam O.lpeUnits 64, .fam O.lpeBankB 64, .fam O.adcStatus 12, .fam O.posAngle 4, .fam O.posCount 4, .fam O.posSpeed 4, .fam O.posStatus 4, .fam O.amcFlags 6] : List Part) ⊆ l) : Keeps l s (@State.restartEnd a0 a1) := by
  unfold State.restartEnd
  repeat' first
    | with_reducible assumption
    | with_reducible refine Keeps.ite ?_ ?_
    | (with_reducible refine State.amcFlagsBack_keeps ?_ (List.Subset.trans ?_ hl); rotate_right; decide +kernel)
    | (with_reducible refine State.netStart_keeps ?_ (List.Subset.trans ?_ hl); rotate_right; decide +kernel)
    | (with_reducible refine State.applySc_keeps ?_ (List.Subset.trans ?_ hl); rotate_right; decide +kernel)
    | (with_reducible refine State.auxPeakLoad_keeps ?_ (List.Subset.trans ?_ hl); rotate_right; decide +kernel)
    | (with_reducible refine State.ctHalt_keeps ?_ (List.Subset.trans ?_ hl); rotate_right; decide +kernel)
    | (with_reducible refine State.showClk_keeps ?_ (List.Subset.trans ?_ hl); rotate_right; decide +kernel)
    | (with_reducible refine State.postAll_keeps ?_ (List.Subset.trans ?_ hl); rotate_right; decide +kernel)
    | (with_reducible refine State.newWatch_keeps ?_ (List.Subset.trans ?_ hl); rotate_right; decide +kernel)
    | (with_reducible refine State.undefX_keeps ?_ (List.Subset.trans ?_ hl); rotate_right; decide +kernel)
    | (with_reducible refine State.dropHeld_keeps ?_ (List.Subset.trans ?_ hl); rotate_right; decide +kernel)
    | (with_reducible refine State.modDisp_keeps ?_ (List.Subset.trans ?_ hl); rotate_right; decide +kernel)
    | (with_reducible refine State.islandLost_keeps ?_ (List.Subset.trans ?_ hl); rotate_right; decide +kernel)
    | (with_reducible refine State.when_keeps ?_ ?_ (List.Subset.trans ?_ hl); rotate_right; decide +kernel)
    | (with_reducible refine State.returnObjs_keeps ?_ (List.Subset.trans ?_ hl); rotate_right; decide +kernel)
    | (with_reducible refine State.redefault_keeps ?_ (List.Subset.trans ?_ hl); rotate_right; decide +kernel)
    | intro x
    | lift_lets
    | split

theorem postHeldEvents_keeps {l : List Part} {s : State} {a0 : State} (h : Keeps l s a0)
    (hl : ([.sent, .hosts, .later, .hpn] : List Part) ⊆ l) : Keeps l s (@State.postHeldEvents a0) := by
  unfold State.postHeldEvents
  repeat' first
    | with_reducible assumption
    | (with_reducible refine State.postEvt_keeps ?_ (List.Subset.trans ?_ hl); rotate_right; decide +kernel)
    | with_reducible refine Keeps.foldl ?_ ?_
    | intro x
    | (with_reducible refine Keeps.set_later ?_ (inL hl ?_); rotate_right; decide +kernel)

theorem trialBack_keeps {l : List Part} {s : State} {a0 : State} {a1 : _} {a2 : _} (h : Keeps l s a0)
    (hl : ([.evLast, .sent, .hosts, .later, .hpn, .upd, .one O.updIl, .one O.updBusy, .fam O.updRunning 6, .fam O.updSpare 6, .fam O.updState 6] : List Part) ⊆ l) : Keeps l s (@State.trialBack a0 a1 a2) := by
  unfold State.trialBack
  repeat' first
    | with_reducible assumption
    | (with_reducible refine State.updShow_keeps ?_ (List.Subset.trans ?_ hl); rotate_right; decide +kernel)
    | (with_reducible refine State.setO_keeps ?_ ⟨_, inL hl ?_, O.updBusy_has⟩; rotate_right; decide +kernel)
    | (with_reducible refine State.setO_keeps ?_ ⟨_, inL hl ?_, O.updState_has _ ?_⟩; rotate_right; (first | exact Fin.isLt _ | omega | (simp only [List.mem_range] at *; omega)); rotate_right; decide +kernel)
    | (with_reducible refine State.modUpd_keeps ?_ (List.Subset.trans ?_ hl); rotate_right; decide +kernel)
    | (with_reducible refine State.updEvent_keeps ?_ (List.Subset.trans ?_ hl); rotate_right; decide +kernel)

theorem logWrite_keeps {l : List Part} {s : State} {a0 : State} {a1 : _} (h : Keeps l s a0)
    (hl : ([.sec, .one O.logHead, .one O.logChain, .one O.logCount] : List Part) ⊆ l) : Keeps l s (@State.logWrite a0 a1) := by
  unfold State.logWrite
  repeat' first
    | with_reducible assumption
    | (intro x; have hx : Keeps l s x := ?_; clear_value x)
    | (with_reducible refine State.setO_keeps ?_ ⟨_, inL hl ?_, O.logChain_has⟩; rotate_right; decide +kernel)
    | (with_reducible refine State.setO_keeps ?_ ⟨_, inL hl ?_, O.logCount_has⟩; rotate_right; decide +kernel)
    | (with_reducible refine State.setO_keeps ?_ ⟨_, inL hl ?_, O.logHead_has⟩; rotate_right; decide +kernel)
    | intro x
    | lift_lets
    | (with_reducible refine Keeps.set_sec ?_ (inL hl ?_); rotate_right; decide +kernel)

theorem flashPause_keeps {l : List Part} {s : State} {a0 : State} (h : Keeps l s a0)
    (hl : ([.thm] : List Part) ⊆ l) : Keeps l s (@State.flashPause a0) := by
  unfold State.flashPause
  repeat' first
    | with_reducible assumption
    | (with_reducible refine State.pauseFrom_keeps ?_ (List.Subset.trans ?_ hl); rotate_right; decide +kernel)

theorem audit_keeps {l : List Part} {s : State} {a0 : State} {a1 : _} {a2 : _} {a3 : _} {a4 : _} {a5 : _} {a6 : _} {a7 : _} {a8 : _} (h : Keeps l s a0)
    (hl : ([.evLast, .sent, .hosts, .later, .hpn, .sec, .thm, .one O.logHead, .one O.logChain, .one O.logCount, .one O.logQueued] : List Part) ⊆ l) : Keeps l s (@State.audit a0 a1 a2 a3 a4 a5 a6 a7 a8) := by
  unfold State.audit
  repeat' first
    | with_reducible assumption
    | with_reducible refine Keeps.ite ?_ ?_
    | (with_reducible refine State.logWrite_keeps ?_ (List.Subset.trans ?_ hl); rotate_right; decide +kernel)
    | (with_reducible refine State.setO_keeps ?_ ⟨_, inL hl ?_, O.logQueued_has⟩; rotate_right; decide +kernel)
    | (with_reducible refine State.raise_keeps ?_ (List.Subset.trans ?_ hl); rotate_right; decide +kernel)
    | (with_reducible refine State.flashPause_keeps ?_ (List.Subset.trans ?_ hl); rotate_right; decide +kernel)
    | intro x
    | lift_lets
    | (with_reducible refine Keeps.set_sec ?_ (inL hl ?_); rotate_right; decide +kernel)

theorem keyEvent_keeps {l : List Part} {s : State} {a0 : State} {a1 : _} {a2 : _} (h : Keeps l s a0)
    (hl : ([.evLast, .sent, .hosts, .later, .hpn, .sec, .thm, .one O.logHead, .one O.logChain, .one O.logCount, .one O.logQueued] : List Part) ⊆ l) : Keeps l s (@State.keyEvent a0 a1 a2) := by
  unfold State.keyEvent
  repeat' first
    | with_reducible assumption
    | (with_reducible refine State.raise_keeps ?_ (List.Subset.trans ?_ hl); rotate_right; decide +kernel)
    | (with_reducible refine State.audit_keeps ?_ (List.Subset.trans ?_ hl); rotate_right; decide +kernel)

theorem bootImage_keeps {l : List Part} {s : State} {a0 : State} {a1 : _} {a2 : _} {a3 : _} (h : Keeps l s a0)
    (hl : ([.evLast, .sent, .hosts, .later, .hpn, .sec, .upd, .thm, .pwr, .one O.logHead, .one O.logChain, .one O.logCount, .one O.logQueued, .one O.updIl, .one O.updBusy, .fam O.updRunning 6, .fam O.updSpare 6, .fam O.updState 6, .fam O.updReceived 6] : List Part) ⊆ l) : Keeps l s (@State.bootImage a0 a1 a2 a3) := by
  unfold State.bootImage
  repeat' first
    | with_reducible assumption
    | with_reducible refine Keeps.ite ?_ ?_
    | (with_reducible refine State.updShow_keeps ?_ (List.Subset.trans ?_ hl); rotate_right; decide +kernel)
    | (with_reducible refine State.setO_keeps ?_ ⟨_, inL hl ?_, O.updBusy_has⟩; rotate_right; decide +kernel)
    | (with_reducible refine State.setO_keeps ?_ ⟨_, inL hl ?_, O.updReceived_has _ ?_⟩; rotate_right; (first | exact Fin.isLt _ | omega | (simp only [List.mem_range] at *; omega)); rotate_right; decide +kernel)
    | (with_reducible refine State.setO_keeps ?_ ⟨_, inL hl ?_, O.updState_has _ ?_⟩; rotate_right; (first | exact Fin.isLt _ | omega | (simp only [List.mem_range] at *; omega)); rotate_right; decide +kernel)
    | (with_reducible refine State.keyEvent_keeps ?_ (List.Subset.trans ?_ hl); rotate_right; decide +kernel)
    | (with_reducible refine State.trialBack_keeps ?_ (List.Subset.trans ?_ hl); rotate_right; decide +kernel)
    | (with_reducible refine State.modUpd_keeps ?_ (List.Subset.trans ?_ hl); rotate_right; decide +kernel)
    | (with_reducible refine State.updEvent_keeps ?_ (List.Subset.trans ?_ hl); rotate_right; decide +kernel)
    | intro x
    | lift_lets
    | (with_reducible refine Keeps.set_pwr ?_ (inL hl ?_); rotate_right; decide +kernel)

theorem activationDone_keeps {l : List Part} {s : State} {a0 : State} {a1 : _} {a2 : _} (h : Keeps l s a0)
    (hl : ([.free, .evLast, .sent, .hosts, .disp, .later, .xmem, .forceA, .forceB, .links, .cgs, .trx, .ctx, .tb, .traceReads, .dcl, .ptg, .adc, .pos, .prb, .aux, .amc, .hpn, .sec, .upd, .thm, .pwr, .net, .allObjs, .one O.sysClkStatus, .one O.sysLateFlags, .fam O.thmT 72, .one O.secAttEpoch, .one O.secAttNext, .one O.secIdNext, .one O.logHead, .one O.logChain, .one O.logCount, .one O.logQueued, .one O.updIl, .one O.updBusy, .fam O.updRunning 6, .fam O.updSpare 6, .fam O.updState 6, .fam O.updReceived 6, .one O.netSessions, .one O.netCycSkipped, .fam O.netCanAddr 4, .fam O.netCanStatus 4, .fam O.pwmDriveTable 40, .fam O.trxRule 4, .fam O.trxSsState 4, .fam O.lpeUnits 64, .fam O.lpeBankB 64, .fam O.adcStatus 12, .fam O.posAngle 4, .fam O.posCount 4, .fam O.posSpeed 4, .fam O.posStatus 4, .fam O.amcFlags 6] : List Part) ⊆ l) : Keeps l s (@State.activationDone a0 a1 a2) := by
  unfold State.activationDone
  repeat' first
    | with_reducible assumption
    | with_reducible refine Keeps.ite ?_ ?_
    | (with_reducible refine State.updShow_keeps ?_ (List.Subset.trans ?_ hl); rotate_right; decide +kernel)
    | (with_reducible refine State.trialBegin_keeps ?_ (List.Subset.trans ?_ hl); rotate_right; decide +kernel)
    | (with_reducible refine State.setO_keeps ?_ ⟨.allObjs, inL hl ?_, allObjs_has _⟩; rotate_right; decide +kernel)
    | (with_reducible refine State.restartEnd_keeps ?_ (List.Subset.trans ?_ hl); rotate_right; decide +kernel)
    | (with_reducible refine State.endAll_keeps ?_ (List.Subset.trans ?_ hl); rotate_right; decide +kernel)
    | (with_reducible refine State.postHeldEvents_keeps ?_ (List.Subset.trans ?_ hl); rotate_right; decide +kernel)
    | (with_reducible refine State.trialBack_keeps ?_ (List.Subset.trans ?_ hl); rotate_right; decide +kernel)
    | (with_reducible refine State.bootImage_keeps ?_ (List.Subset.trans ?_ hl); rotate_right; decide +kernel)
    | (with_reducible refine State.updEvent_keeps ?_ (List.Subset.trans ?_ hl); rotate_right; decide +kernel)

theorem modAdc_keeps {l : List Part} {s : State} {a0 : State} {a1 : _} (h : Keeps l s a0)
    (hl : ([.adc] : List Part) ⊆ l) : Keeps l s (@State.modAdc a0 a1) := by
  unfold State.modAdc
  repeat' first
    | with_reducible assumption
    | (with_reducible refine Keeps.set_adc ?_ (inL hl ?_); rotate_right; decide +kernel)

theorem modConv_keeps {l : List Part} {s : State} {a0 : State} {a1 : _} {a2 : _} (h : Keeps l s a0)
    (hl : ([.adc] : List Part) ⊆ l) : Keeps l s (@State.modConv a0 a1 a2) := by
  unfold State.modConv
  repeat' first
    | with_reducible assumption
    | (with_reducible refine State.modAdc_keeps ?_ (List.Subset.trans ?_ hl); rotate_right; decide +kernel)

theorem raiseLate_keeps {l : List Part} {s : State} {a0 : State} {a1 : _} {a2 : _} {a3 : _} {a4 : _} (h : Keeps l s a0)
    (hl : ([.evLast, .sent, .hosts, .later, .hpn, .one O.sysLateFlags] : List Part) ⊆ l) : Keeps l s (@State.raiseLate a0 a1 a2 a3 a4) := by
  unfold State.raiseLate
  repeat' first
    | with_reducible assumption
    | (with_reducible refine State.raise_keeps ?_ (List.Subset.trans ?_ hl); rotate_right; decide +kernel)
    | (with_reducible refine State.orO_keeps ?_ ⟨_, inL hl ?_, O.sysLateFlags_has⟩; rotate_right; decide +kernel)

theorem adcLate_keeps {l : List Part} {s : State} {a0 : State} {a1 : _} {a2 : _} (h : Keeps l s a0)
    (hl : ([.evLast, .sent, .hosts, .later, .hpn, .one O.sysLateFlags] : List Part) ⊆ l) : Keeps l s (@State.adcLate a0 a1 a2) := by
  unfold State.adcLate
  repeat' first
    | with_reducible assumption
    | (with_reducible refine State.raiseLate_keeps ?_ (List.Subset.trans ?_ hl); rotate_right; decide +kernel)

theorem adcAbandon_keeps {l : List Part} {s : State} {a0 : State} {a1 : _} {a2 : _} (h : Keeps l s a0)
    (hl : ([.evLast, .sent, .hosts, .later, .adc, .hpn, .one O.sysLateFlags, .fam O.adcStatus 12, .fam O.adcAbandons 12] : List Part) ⊆ l) : Keeps l s (@State.adcAbandon a0 a1 a2) := by
  unfold State.adcAbandon
  repeat' first
    | with_reducible assumption
    | with_reducible refine Keeps.ite ?_ ?_
    | (with_reducible refine State.incSat_keeps ?_ ⟨_, inL hl ?_, O.adcAbandons_has _ ?_⟩; rotate_right; (first | exact Fin.isLt _ | omega | (simp only [List.mem_range] at *; omega)); rotate_right; decide +kernel)
    | (with_reducible refine State.modConv_keeps ?_ (List.Subset.trans ?_ hl); rotate_right; decide +kernel)
    | (with_reducible refine State.adcLate_keeps ?_ (List.Subset.trans ?_ hl); rotate_right; decide +kernel)
    | (with_reducible refine State.orO_keeps ?_ ⟨_, inL hl ?_, O.adcStatus_has _ ?_⟩; rotate_right; (first | exact Fin.isLt _ | omega | (simp only [List.mem_range] at *; omega)); rotate_right; decide +kernel)

theorem underWay_keeps {l : List Part} {s : State} {a0 : State} {a1 : _} (h : Keeps l s a0)
    (hl : ([.disp] : List Part) ⊆ l) : Keeps l s (@State.underWay a0 a1) := by
  unfold State.underWay
  repeat' first
    | with_reducible assumption
    | (with_reducible refine State.modDisp_keeps ?_ (List.Subset.trans ?_ hl); rotate_right; decide +kernel)

theorem modPair_keeps {l : List Part} {s : State} {a0 : State} {a1 : _} {a2 : _} (h : Keeps l s a0)
    (hl : ([.adc] : List Part) ⊆ l) : Keeps l s (@State.modPair a0 a1 a2) := by
  unfold State.modPair
  repeat' first
    | with_reducible assumption
    | (with_reducible refine State.modAdc_keeps ?_ (List.Subset.trans ?_ hl); rotate_right; decide +kernel)

theorem calBegin_keeps {l : List Part} {s : State} {a0 : State} {a1 : _} {a2 : _} (h : Keeps l s a0)
    (hl : ([.disp, .adc, .fam O.adcStatus 12] : List Part) ⊆ l) : Keeps l s (@State.calBegin a0 a1 a2) := by
  unfold State.calBegin
  repeat' first
    | with_reducible assumption
    | with_reducible refine Keeps.ite ?_ ?_
    | (with_reducible refine State.underWay_keeps ?_ (List.Subset.trans ?_ hl); rotate_right; decide +kernel)
    | (with_reducible refine State.setAdcSt_keeps ?_ (List.Subset.trans ?_ hl); rotate_right; decide +kernel)
    | (with_reducible refine State.modPair_keeps ?_ (List.Subset.trans ?_ hl); rotate_right; decide +kernel)

theorem guarded_keeps {l : List Part} {s : State} {a0 : State} {a1 : _} {a2 : _} (h : Keeps l s a0) (hf : ∀ u, Keeps l s u → KeepsP l s (a2 u))
    (hl : ([] : List Part) ⊆ l) : KeepsP l s (@State.guarded a0 a1 a2) := by
  unfold State.guarded
  repeat' first
    | with_reducible assumption
    | with_reducible refine hf _ ?_
    | split
    | with_reducible refine KeepsP.mk ?_

theorem hold_keeps {l : List Part} {s : State} {a0 : State} {a1 : _} {a2 : _} {a3 : _} {a4 : _} {a5 : _} (h : Keeps l s a0)
    (hl : ([.disp] : List Part) ⊆ l) : Keeps l s (@State.hold a0 a1 a2 a3 a4 a5) := by
  unfold State.hold
  repeat' first
    | with_reducible assumption
    | intro x
    | lift_lets
    | (with_reducible refine Keeps.set_disp ?_ (inL hl ?_); rotate_right; decide +kernel)

theorem adcCal_keeps {l : List Part} {s : State} {a0 : _} {a1 : State} (h : Keeps l s a1)
    (hl : ([.disp, .adc, .fam O.adcStatus 12] : List Part) ⊆ l) : KeepsP l s (@State.adcCal a0 a1) := by
  unfold State.adcCal
  repeat' first
    | with_reducible assumption
    | (intro x; have hx : Keeps l s x := ?_; clear_value x)
    | with_reducible refine KeepsP.ite ?_ ?_
    | with_reducible refine KeepsP.dite ?_ ?_
    | (with_reducible refine State.calBegin_keeps ?_ (List.Subset.trans ?_ hl); rotate_right; decide +kernel)
    | (with_reducible refine State.guarded_keeps ?_ ?_ (List.Subset.trans ?_ hl); rotate_right; decide +kernel)
    | (with_reducible refine State.hold_keeps ?_ (List.Subset.trans ?_ hl); rotate_right; decide +kernel)
    | (with_reducible refine State.modPair_keeps ?_ (List.Subset.trans ?_ hl); rotate_right; decide +kernel)
    | intro x
    | lift_lets
    | split
    | with_reducible refine KeepsP.mk ?_

theorem putRes_keeps {l : List Part} {s : State} {a0 : State} {a1 : _} {a2 : _} (h : Keeps l s a0)
    (hl : ([.adc] : List Part) ⊆ l) : Keeps l s (@State.putRes a0 a1 a2) := by
  unfold State.putRes
  repeat' first
    | with_reducible assumption
    | (with_reducible refine State.modAdc_keeps ?_ (List.Subset.trans ?_ hl); rotate_right; decide +kernel)

theorem applyMarks_keeps {l : List Part} {s : State} {a0 : State} {a1 : _} (h : Keeps l s a0)
    (hl : ([.adc] : List Part) ⊆ l) : Keeps l s (@State.applyMarks a0 a1) := by
  unfold State.applyMarks
  repeat' first
    | with_reducible assumption
    | with_reducible refine Keeps.ite ?_ ?_
    | (with_reducible refine State.putRes_keeps ?_ (List.Subset.trans ?_ hl); rotate_right; decide +kernel)

theorem startPass_keeps {l : List Part} {s : State} {a0 : State} {a1 : _} {a2 : _} (h : Keeps l s a0)
    (hl : ([.adc, .fam O.adcStatus 12] : List Part) ⊆ l) : Keeps l s (@State.startPass a0 a1 a2) := by
  unfold State.startPass
  repeat' first
    | with_reducible assumption
    | with_reducible refine Keeps.ite ?_ ?_
    | (with_reducible refine State.adcIdle_keeps ?_ (List.Subset.trans ?_ hl); rotate_right; decide +kernel)
    | (with_reducible refine State.modConv_keeps ?_ (List.Subset.trans ?_ hl); rotate_right; decide +kernel)
    | (with_reducible refine State.setAdcSt_keeps ?_ (List.Subset.trans ?_ hl); rotate_right; decide +kernel)
    | (with_reducible refine State.applyMarks_keeps ?_ (List.Subset.trans ?_ hl); rotate_right; decide +kernel)
    | with_reducible refine Keeps.foldl ?_ ?_
    | intro x

theorem adcRest_keeps {l : List Part} {s : State} {a0 : State} {a1 : _} {a2 : _} (h : Keeps l s a0)
    (hl : ([.disp, .adc, .fam O.adcStatus 12] : List Part) ⊆ l) : Keeps l s (@State.adcRest a0 a1 a2) := by
  unfold State.adcRest
  repeat' first
    | with_reducible assumption
    | with_reducible refine Keeps.ite ?_ ?_
    | (with_reducible refine State.adcIdle_keeps ?_ (List.Subset.trans ?_ hl); rotate_right; decide +kernel)
    | (with_reducible refine State.modConv_keeps ?_ (List.Subset.trans ?_ hl); rotate_right; decide +kernel)
    | (with_reducible refine State.calBegin_keeps ?_ (List.Subset.trans ?_ hl); rotate_right; decide +kernel)
    | (with_reducible refine State.setAdcSt_keeps ?_ (List.Subset.trans ?_ hl); rotate_right; decide +kernel)
    | (with_reducible refine State.startPass_keeps ?_ (List.Subset.trans ?_ hl); rotate_right; decide +kernel)

theorem adcFire_keeps {l : List Part} {s : State} {a0 : State} {a1 : _} {a2 : _} (h : Keeps l s a0)
    (hl : ([.evLast, .sent, .hosts, .disp, .later, .adc, .hpn, .one O.sysLateFlags, .fam O.adcStatus 12, .fam O.adcAbandons 12] : List Part) ⊆ l) : Keeps l s (@State.adcFire a0 a1 a2) := by
  unfold State.adcFire
  repeat' first
    | with_reducible assumption
    | with_reducible refine Keeps.ite ?_ ?_
    | (with_reducible refine State.adcAbandon_keeps ?_ (List.Subset.trans ?_ hl); rotate_right; decide +kernel)
    | (with_reducible refine State.modConv_keeps ?_ (List.Subset.trans ?_ hl); rotate_right; decide +kernel)
    | (with_reducible refine State.startPass_keeps ?_ (List.Subset.trans ?_ hl); rotate_right; decide +kernel)
    | (with_reducible refine State.adcRest_keeps ?_ (List.Subset.trans ?_ hl); rotate_right; decide +kernel)

theorem adcInject_keeps {l : List Part} {s : State} {a0 : _} {a1 : State} (h : Keeps l s a1)
    (hl : ([.adc] : List Part) ⊆ l) : KeepsP l s (@State.adcInject a0 a1) := by
  unfold State.adcInject
  repeat' first
    | with_reducible assumption
    | with_reducible refine KeepsP.ite ?_ ?_
    | with_reducible refine KeepsP.dite ?_ ?_
    | (with_reducible refine State.modConv_keeps ?_ (List.Subset.trans ?_ hl); rotate_right; decide +kernel)
    | (with_reducible refine State.guarded_keeps ?_ ?_ (List.Subset.trans ?_ hl); rotate_right; decide +kernel)
    | intro x
    | lift_lets
    | with_reducible refine KeepsP.mk ?_

theorem showFree_keeps {l : List Part} {s : State} {a0 : State} {a1 : _} (h : Keeps l s a0)
    (hl : ([.fam O.adcInjFree 12] : List Part) ⊆ l) : Keeps l s (@State.showFree a0 a1) := by
  unfold State.showFree
  repeat' first
    | with_reducible assumption
    | (with_reducible refine State.setO_keeps ?_ ⟨_, inL hl ?_, O.adcInjFree_has _ ?_⟩; rotate_right; (first | exact Fin.isLt _ | omega | (simp only [List.mem_range] at *; omega)); rotate_right; decide +kernel)

theorem calEnd_keeps {l : List Part} {s : State} {a0 : State} {a1 : _} {a2 : _} {a3 : _} (h : Keeps l s a0)
    (hl : ([.evLast, .sent, .hosts, .disp, .later, .adc, .hpn, .fam O.adcStatus 12, .one O.adcCalResult] : List Part) ⊆ l) : Keeps l s (@State.calEnd a0 a1 a2 a3) := by
  unfold State.calEnd
  repeat' first
    | with_reducible assumption
    | (with_reducible refine State.setO_keeps ?_ ⟨_, inL hl ?_, O.adcCalResult_has⟩; rotate_right; decide +kernel)
    | (with_reducible refine State.endAll_keeps ?_ (List.Subset.trans ?_ hl); rotate_right; decide +kernel)
    | (with_reducible refine State.raise_keeps ?_ (List.Subset.trans ?_ hl); rotate_right; decide +kernel)
    | (with_reducible refine State.when_keeps ?_ ?_ (List.Subset.trans ?_ hl); rotate_right; decide +kernel)
    | (with_reducible refine State.modPair_keeps ?_ (List.Subset.trans ?_ hl); rotate_right; decide +kernel)
    | (with_reducible refine State.orO_keeps ?_ ⟨_, inL hl ?_, O.adcStatus_has _ ?_⟩; rotate_right; (first | exact Fin.isLt _ | omega | (simp only [List.mem_range] at *; omega)); rotate_right; decide +kernel)
    | intro x

theorem calPreempt_keeps {l : List Part} {s : State} {a0 : State} {a1 : _} {a2 : _} (h : Keeps l s a0)
    (hl : ([.evLast, .sent, .hosts, .disp, .later, .adc, .hpn, .fam O.adcStatus 12, .one O.adcCalResult] : List Part) ⊆ l) : Keeps l s (@State.calPreempt a0 a1 a2) := by
  unfold State.calPreempt
  repeat' first
    | with_reducible assumption
    | (intro x; have hx : Keeps l s x := ?_; clear_value x)
    | with_reducible refine Keeps.ite ?_ ?_
    | (with_reducible refine State.adcIdle_keeps ?_ (List.Subset.trans ?_ hl); rotate_right; decide +kernel)
    | (with_reducible refine State.calEnd_keeps ?_ (List.Subset.trans ?_ hl); rotate_right; decide +kernel)
    | (with_reducible refine State.adcRest_keeps ?_ (List.Subset.trans ?_ hl); rotate_right; decide +kernel)
    | (with_reducible refine State.modPair_keeps ?_ (List.Subset.trans ?_ hl); rotate_right; decide +kernel)
    | intro x
    | lift_lets
    | split

theorem injArrive_keeps {l : List Part} {s : State} {a0 : State} {a1 : _} {a2 : _} (h : Keeps l s a0)
    (hl : ([.evLast, .sent, .hosts, .slots, .disp, .later, .adc, .hpn, .thm, .fam O.adcStatus 12, .fam O.adcInjFree 12, .one O.adcCalResult] : List Part) ⊆ l) : Keeps l s (@State.injArrive a0 a1 a2) := by
  unfold State.injArrive
  repeat' first
    | with_reducible assumption
    | (intro x; have hx : Keeps l s x := ?_; clear_value x)
    | with_reducible refine Keeps.ite ?_ ?_
    | (with_reducible refine State.showFree_keeps ?_ (List.Subset.trans ?_ hl); rotate_right; decide +kernel)
    | (with_reducible refine State.modConv_keeps ?_ (List.Subset.trans ?_ hl); rotate_right; decide +kernel)
    | (with_reducible refine State.calPreempt_keeps ?_ (List.Subset.trans ?_ hl); rotate_right; decide +kernel)
    | (with_reducible refine State.raise_keeps ?_ (List.Subset.trans ?_ hl); rotate_right; decide +kernel)
    | (with_reducible refine State.respond_keeps ?_ (List.Subset.trans ?_ hl); rotate_right; decide +kernel)
    | (with_reducible refine State.adcRest_keeps ?_ (List.Subset.trans ?_ hl); rotate_right; decide +kernel)
    | (with_reducible refine State.orO_keeps ?_ ⟨_, inL hl ?_, O.adcStatus_has _ ?_⟩; rotate_right; (first | exact Fin.isLt _ | omega | (simp only [List.mem_range] at *; omega)); rotate_right; decide +kernel)
    | intro x
    | lift_lets
    | split

theorem moveQueue_keeps {l : List Part} {s : State} {a0 : State} {a1 : _} (h : Keeps l s a0)
    (hl : ([.evLast, .sent, .hosts, .slots, .disp, .later, .adc, .hpn, .thm, .fam O.adcStatus 12, .fam O.adcInjFree 12, .one O.adcCalResult] : List Part) ⊆ l) : Keeps l s (@State.moveQueue a0 a1) := by
  unfold State.moveQueue
  repeat' first
    | with_reducible assumption
    | with_reducible refine Keeps.ite ?_ ?_
    | (with_reducible refine State.showFree_keeps ?_ (List.Subset.trans ?_ hl); rotate_right; decide +kernel)
    | (with_reducible refine State.modConv_keeps ?_ (List.Subset.trans ?_ hl); rotate_right; decide +kernel)
    | (with_reducible refine State.injArrive_keeps ?_ (List.Subset.trans ?_ hl); rotate_right; decide +kernel)
    | with_reducible refine Keeps.foldl ?_ ?_
    | intro x

theorem adcOffline_keeps {l : List Part} {s : State} {a0 : State} {a1 : _} (h : Keeps l s a0)
    (hl : ([.evLast, .sent, .hosts, .slots, .disp, .later, .adc, .hpn, .thm, .fam O.adcStatus 12, .fam O.adcInjFree 12, .one O.adcCalResult] : List Part) ⊆ l) : Keeps l s (@State.adcOffline a0 a1) := by
  unfold State.adcOffline
  repeat' first
    | with_reducible assumption
    | (with_reducible refine State.modConv_keeps ?_ (List.Subset.trans ?_ hl); rotate_right; decide +kernel)
    | (with_reducible refine State.moveQueue_keeps ?_ (List.Subset.trans ?_ hl); rotate_right; decide +kernel)
    | (with_reducible refine State.setAdcSt_keeps ?_ (List.Subset.trans ?_ hl); rotate_right; decide +kernel)

theorem coverShow_keeps {l : List Part} {s : State} {a0 : State} {a1 : _} (h : Keeps l s a0)
    (hl : ([.evLast, .sent, .hosts, .later, .adc, .hpn, .fam O.adcStatus 12] : List Part) ⊆ l) : Keeps l s (@State.coverShow a0 a1) := by
  unfold State.coverShow
  repeat' first
    | with_reducible assumption
    | with_reducible refine Keeps.ite ?_ ?_
    | (with_reducible refine State.modConv_keeps ?_ (List.Subset.trans ?_ hl); rotate_right; decide +kernel)
    | (with_reducible refine State.raise_keeps ?_ (List.Subset.trans ?_ hl); rotate_right; decide +kernel)
    | (with_reducible refine State.orO_keeps ?_ ⟨_, inL hl ?_, O.adcStatus_has _ ?_⟩; rotate_right; (first | exact Fin.isLt _ | omega | (simp only [List.mem_range] at *; omega)); rotate_right; decide +kernel)

theorem coverStep_keeps {l : List Part} {s : State} {a0 : State} {a1 : _} {a2 : _} (h : Keeps l s a0)
    (hl : ([.evLast, .sent, .hosts, .slots, .disp, .later, .adc, .hpn, .thm, .one O.sysLateFlags, .fam O.adcStatus 12, .fam O.adcAbandons 12, .fam O.adcInjFree 12, .one O.adcCalResult] : List Part) ⊆ l) : Keeps l s (@State.coverStep a0 a1 a2) := by
  unfold State.coverStep
  repeat' first
    | with_reducible assumption
    | (with_reducible refine State.adcAbandon_keeps ?_ (List.Subset.trans ?_ hl); rotate_right; decide +kernel)
    | (with_reducible refine State.modConv_keeps ?_ (List.Subset.trans ?_ hl); rotate_right; decide +kernel)
    | (with_reducible refine State.raise_keeps ?_ (List.Subset.trans ?_ hl); rotate_right; decide +kernel)
    | (with_reducible refine State.coverShow_keeps ?_ (List.Subset.trans ?_ hl); rotate_right; decide +kernel)
    | (with_reducible refine State.setAdcSt_keeps ?_ (List.Subset.trans ?_ hl); rotate_right; decide +kernel)
    | (with_reducible refine State.adcOffline_keeps ?_ (List.Subset.trans ?_ hl); rotate_right; decide +kernel)
    | (with_reducible refine State.adcRest_keeps ?_ (List.Subset.trans ?_ hl); rotate_right; decide +kernel)
    | (with_reducible refine State.clrO_keeps ?_ ⟨_, inL hl ?_, O.adcStatus_has _ ?_⟩; rotate_right; (first | exact Fin.isLt _ | omega | (simp only [List.mem_range] at *; omega)); rotate_right; decide +kernel)
    | (with_reducible refine State.when_keeps ?_ ?_ (List.Subset.trans ?_ hl); rotate_right; decide +kernel)
    | intro x

theorem adcSeqStart_keeps {l : List Part} {s : State} {a0 : _} {a1 : State} (h : Keeps l s a1)
    (hl : ([.evLast, .sent, .hosts, .slots, .disp, .later, .adc, .hpn, .thm, .one O.sysLateFlags, .fam O.adcStatus 12, .fam O.adcAbandons 12, .fam O.adcInjFree 12, .one O.adcCalResult] : List Part) ⊆ l) : KeepsP l s (@State.adcSeqStart a0 a1) := by
  unfold State.adcSeqStart
  repeat' first
    | with_reducible assumption
    | (with_reducible refine State.adcFire_keeps ?_ (List.Subset.trans ?_ hl); rotate_right; decide +kernel)
    | (with_reducible refine State.guarded_keeps ?_ ?_ (List.Subset.trans ?_ hl); rotate_right; decide +kernel)
    | (with_reducible refine State.coverStep_keeps ?_ (List.Subset.trans ?_ hl); rotate_right; decide +kernel)
    | with_reducible refine Keeps.foldl ?_ ?_
    | intro x
    | lift_lets
    | with_reducible refine KeepsP.mk ?_

theorem modAmc_keeps {l : List Part} {s : State} {a0 : State} {a1 : _} {a2 : _} (h : Keeps l s a0)
    (hl : ([.amc] : List Part) ⊆ l) : Keeps l s (@State.modAmc a0 a1 a2) := by
  unfold State.modAmc
  repeat' first
    | with_reducible assumption
    | (with_reducible refine Keeps.set_amc ?_ (inL hl ?_); rotate_right; decide +kernel)

theorem traceEnd_keeps {l : List Part} {s : State} {a0 : State} {a1 : _} {a2 : _} (h : Keeps l s a0)
    (hl : ([.evLast, .sent, .hosts, .later, .hpn, .fam O.lpeTrState 4, .fam O.lpeTrCount 4] : List Part) ⊆ l) : Keeps l s (@State.traceEnd a0 a1 a2) := by
  unfold State.traceEnd
  repeat' first
    | with_reducible assumption
    | (with_reducible refine State.setO_keeps ?_ ⟨_, inL hl ?_, O.lpeTrCount_has _ ?_⟩; rotate_right; (first | exact Fin.isLt _ | omega | (simp only [List.mem_range] at *; omega)); rotate_right; decide +kernel)
    | (with_reducible refine State.setO_keeps ?_ ⟨_, inL hl ?_, O.lpeTrState_has _ ?_⟩; rotate_right; (first | exact Fin.isLt _ | omega | (simp only [List.mem_range] at *; omega)); rotate_right; decide +kernel)
    | (with_reducible refine State.raise_keeps ?_ (List.Subset.trans ?_ hl); rotate_right; decide +kernel)

theorem modCtx_keeps {l : List Part} {s : State} {a0 : State} {a1 : _} {a2 : _} (h : Keeps l s a0)
    (hl : ([.ctx] : List Part) ⊆ l) : Keeps l s (@State.modCtx a0 a1 a2) := by
  unfold State.modCtx
  repeat' first
    | with_reducible assumption
    | (with_reducible refine Keeps.set_ctx ?_ (inL hl ?_); rotate_right; decide +kernel)

theorem ctxStop_keeps {l : List Part} {s : State} {a0 : State} {a1 : _} (h : Keeps l s a0)
    (hl : ([.evLast, .sent, .hosts, .later, .ctx, .hpn, .fam O.lpeStatus 64, .fam O.lpeTrState 4, .fam O.lpeTrCount 4] : List Part) ⊆ l) : Keeps l s (@State.ctxStop a0 a1) := by
  unfold State.ctxStop
  repeat' first
    | with_reducible assumption
    | with_reducible refine Keeps.ite ?_ ?_
    | (with_reducible refine State.traceEnd_keeps ?_ (List.Subset.trans ?_ hl); rotate_right; decide +kernel)
    | (with_reducible refine State.modCtx_keeps ?_ (List.Subset.trans ?_ hl); rotate_right; decide +kernel)
    | (with_reducible refine State.clrO_keeps ?_ ⟨_, inL hl ?_, O.lpeStatus_has _ ?_⟩; rotate_right; (first | exact Fin.isLt _ | omega | (simp only [List.mem_range] at *; omega)); rotate_right; decide +kernel)
    | (with_reducible refine State.when_keeps ?_ ?_ (List.Subset.trans ?_ hl); rotate_right; decide +kernel)
    | with_reducible refine Keeps.foldl ?_ ?_
    | intro x

theorem amcTo_keeps {l : List Part} {s : State} {a0 : State} {a1 : _} {a2 : _} {a3 : _} (h : Keeps l s a0)
    (hl : ([.evLast, .sent, .hosts, .later, .ctx, .amc, .hpn, .fam O.lpeStatus 64, .fam O.lpeTrState 4, .fam O.lpeTrCount 4, .fam O.amcState 6, .fam O.amcSpeed 6] : List Part) ⊆ l) : Keeps l s (@State.amcTo a0 a1 a2 a3) := by
  unfold State.amcTo
  repeat' first
    | with_reducible assumption
    | with_reducible refine Keeps.ite ?_ ?_
    | (with_reducible refine State.ctxStop_keeps ?_ (List.Subset.trans ?_ hl); rotate_right; decide +kernel)
    | (with_reducible refine State.setO_keeps ?_ ⟨_, inL hl ?_, O.amcSpeed_has _ ?_⟩; rotate_right; (first | exact Fin.isLt _ | omega | (simp only [List.mem_range] at *; omega)); rotate_right; decide +kernel)
    | (with_reducible refine State.setO_keeps ?_ ⟨_, inL hl ?_, O.amcState_has _ ?_⟩; rotate_right; (first | exact Fin.isLt _ | omega | (simp only [List.mem_range] at *; omega)); rotate_right; decide +kernel)
    | (with_reducible refine State.raise_keeps ?_ (List.Subset.trans ?_ hl); rotate_right; decide +kernel)
    | (with_reducible refine State.modAmc_keeps ?_ (List.Subset.trans ?_ hl); rotate_right; decide +kernel)

theorem amcListen_keeps {l : List Part} {s : State} {a0 : State} {a1 : _} {a2 : _} (h : Keeps l s a0)
    (hl : ([.evLast, .sent, .hosts, .later, .ctx, .amc, .hpn, .fam O.lpeStatus 64, .fam O.lpeTrState 4, .fam O.lpeTrCount 4, .fam O.amcState 6, .fam O.amcSpeed 6] : List Part) ⊆ l) : Keeps l s (@State.amcListen a0 a1 a2) := by
  unfold State.amcListen
  repeat' first
    | with_reducible assumption
    | (with_reducible refine State.amcTo_keeps ?_ (List.Subset.trans ?_ hl); rotate_right; decide +kernel)
    | (with_reducible refine State.modAmc_keeps ?_ (List.Subset.trans ?_ hl); rotate_right; decide +kernel)

theorem amcGo_keeps {l : List Part} {s : State} {a0 : State} {a1 : _} {a2 : _} {a3 : _} (h : Keeps l s a0)
    (hl : ([.evLast, .sent, .hosts, .later, .ctx, .amc, .hpn, .fam O.lpeStatus 64, .fam O.lpeTrState 4, .fam O.lpeTrCount 4, .fam O.amcState 6, .fam O.amcSpeed 6] : List Part) ⊆ l) : Keeps l s (@State.amcGo a0 a1 a2 a3) := by
  unfold State.amcGo
  repeat' first
    | with_reducible assumption
    | (with_reducible refine State.modAmc_keeps ?_ (List.Subset.trans ?_ hl); rotate_right; decide +kernel)
    | (with_reducible refine State.amcListen_keeps ?_ (List.Subset.trans ?_ hl); rotate_right; decide +kernel)

theorem amcTarget_keeps {l : List Part} {s : State} {a0 : State} {a1 : _} {a2 : _} (h : Keeps l s a0)
    (hl : ([.evLast, .sent, .hosts, .later, .ctx, .amc, .hpn, .fam O.lpeStatus 64, .fam O.lpeTrState 4, .fam O.lpeTrCount 4, .fam O.amcState 6, .fam O.amcSpeed 6] : List Part) ⊆ l) : Keeps l s (@State.amcTarget a0 a1 a2) := by
  unfold State.amcTarget
  repeat' first
    | with_reducible assumption
    | with_reducible refine Keeps.ite ?_ ?_
    | (with_reducible refine State.amcGo_keeps ?_ (List.Subset.trans ?_ hl); rotate_right; decide +kernel)
    | (with_reducible refine State.modAmc_keeps ?_ (List.Subset.trans ?_ hl); rotate_right; decide +kernel)

theorem amcDropHeld_keeps {l : List Part} {s : State} {a0 : State} {a1 : _} (h : Keeps l s a0)
    (hl : ([.disp, .amc, .fam O.amcFlags 6] : List Part) ⊆ l) : Keeps l s (@State.amcDropHeld a0 a1) := by
  unfold State.amcDropHeld
  repeat' first
    | with_reducible assumption
    | with_reducible refine Keeps.ite ?_ ?_
    | (with_reducible refine State.endAll_keeps ?_ (List.Subset.trans ?_ hl); rotate_right; decide +kernel)
    | (with_reducible refine State.modAmc_keeps ?_ (List.Subset.trans ?_ hl); rotate_right; decide +kernel)
    | (with_reducible refine State.clrO_keeps ?_ ⟨_, inL hl ?_, O.amcFlags_has _ ?_⟩; rotate_right; (first | exact Fin.isLt _ | omega | (simp only [List.mem_range] at *; omega)); rotate_right; decide +kernel)

theorem afterAmc_keeps {l : List Part} {s : State} {a0 : State} {a1 : _} {a2 : _} {a3 : _} (h : Keeps l s a0)
    (hl : ([.evLast, .sent, .hosts, .disp, .later, .ctx, .amc, .hpn, .fam O.lpeUnits 64, .fam O.lpeStatus 64, .fam O.lpeTrState 4, .fam O.lpeTrCount 4, .fam O.amcState 6, .fam O.amcSpeed 6, .fam O.amcFlags 6] : List Part) ⊆ l) : Keeps l s (@State.afterAmc a0 a1 a2 a3) := by
  unfold State.afterAmc
  repeat' first
    | with_reducible assumption
    | with_reducible refine Keeps.ite ?_ ?_
    | (with_reducible refine State.amcTarget_keeps ?_ (List.Subset.trans ?_ hl); rotate_right; decide +kernel)
    | (with_reducible refine State.amcTo_keeps ?_ (List.Subset.trans ?_ hl); rotate_right; decide +kernel)
    | (with_reducible refine State.setO_keeps ?_ ⟨_, inL hl ?_, O.lpeUnits_has _ ?_⟩; rotate_right; (first | exact Fin.isLt _ | omega | (simp only [List.mem_range] at *; omega)); rotate_right; decide +kernel)
    | (with_reducible refine State.modAmc_keeps ?_ (List.Subset.trans ?_ hl); rotate_right; decide +kernel)
    | (with_reducible refine State.amcDropHeld_keeps ?_ (List.Subset.trans ?_ hl); rotate_right; decide +kernel)

theorem endTrx_keeps {l : List Part} {s : State} {a0 : State} {a1 : _} {a2 : _} {a3 : _} (h : Keeps l s a0)
    (hl : ([.disp] : List Part) ⊆ l) : Keeps l s (@State.endTrx a0 a1 a2 a3) := by
  unfold State.endTrx
  repeat' first
    | with_reducible assumption
    | (with_reducible refine State.endAll_keeps ?_ (List.Subset.trans ?_ hl); rotate_right; decide +kernel)

theorem endLossAct_keeps {l : List Part} {s : State} {a0 : State} {a1 : _} (h : Keeps l s a0)
    (hl : ([.sent, .links] : List Part) ⊆ l) : Keeps l s (@State.endLossAct a0 a1) := by
  unfold State.endLossAct
  repeat' first
    | with_reducible assumption
    | with_reducible refine Keeps.ite ?_ ?_
    | (with_reducible refine State.modLink_keeps ?_ (List.Subset.trans ?_ hl); rotate_right; decide +kernel)
    | (with_reducible refine State.sendForce_keeps ?_ (List.Subset.trans ?_ hl); rotate_right; decide +kernel)

theorem ctxStops_keeps {l : List Part} {s : State} {a0 : State} {a1 : _} (h : Keeps l s a0)
    (hl : ([.evLast, .sent, .hosts, .later, .ctx, .hpn, .fam O.lpeStatus 64, .fam O.lpeTrState 4, .fam O.lpeTrCount 4] : List Part) ⊆ l) : Keeps l s (@State.ctxStops a0 a1) := by
  unfold State.ctxStops
  repeat' first
    | with_reducible assumption
    | (with_reducible refine State.ctxStop_keeps ?_ (List.Subset.trans ?_ hl); rotate_right; decide +kernel)
    | with_reducible refine Keeps.foldl ?_ ?_
    | intro x

theorem trxStop_keeps {l : List Part} {s : State} {a0 : State} {a1 : _} (h : Keeps l s a0)
    (hl : ([.evLast, .sent, .hosts, .disp, .later, .links, .trx, .ctx, .hpn, .fam O.trxAngleSrc 4, .fam O.lpeStatus 64, .fam O.lpeTrState 4, .fam O.lpeTrCount 4] : List Part) ⊆ l) : Keeps l s (@State.trxStop a0 a1) := by
  unfold State.trxStop
  repeat' first
    | with_reducible assumption
    | (with_reducible refine State.endTrx_keeps ?_ (List.Subset.trans ?_ hl); rotate_right; decide +kernel)
    | (with_reducible refine State.endLossAct_keeps ?_ (List.Subset.trans ?_ hl); rotate_right; decide +kernel)
    | (with_reducible refine State.setO_keeps ?_ ⟨_, inL hl ?_, O.trxAngleSrc_has _ ?_⟩; rotate_right; (first | exact Fin.isLt _ | omega | (simp only [List.mem_range] at *; omega)); rotate_right; decide +kernel)
    | (with_reducible refine State.modTrx_keeps ?_ (List.Subset.trans ?_ hl); rotate_right; decide +kernel)
    | (with_reducible refine State.ctxStops_keeps ?_ (List.Subset.trans ?_ hl); rotate_right; decide +kernel)
    | with_reducible refine Keeps.foldl ?_ ?_
    | intro x

theorem xingDrop_keeps {l : List Part} {s : State} {a0 : State} {a1 : _} (h : Keeps l s a0)
    (hl : ([.sent, .hosts, .later, .hpn, .one O.sysXingDropFlags] : List Part) ⊆ l) : Keeps l s (@State.xingDrop a0 a1) := by
  unfold State.xingDrop
  repeat' first
    | with_reducible assumption
    | (with_reducible refine State.postMasked_keeps ?_ (List.Subset.trans ?_ hl); rotate_right; decide +kernel)
    | (with_reducible refine State.orO_keeps ?_ ⟨_, inL hl ?_, O.sysXingDropFlags_has⟩; rotate_right; decide +kernel)

theorem modPtg_keeps {l : List Part} {s : State} {a0 : State} {a1 : _} (h : Keeps l s a0)
    (hl : ([.ptg] : List Part) ⊆ l) : Keeps l s (@State.modPtg a0 a1) := by
  unfold State.modPtg
  repeat' first
    | with_reducible assumption
    | (with_reducible refine Keeps.set_ptg ?_ (inL hl ?_); rotate_right; decide +kernel)

theorem sendSafe_keeps {l : List Part} {s : State} {a0 : State} (h : Keeps l s a0)
    (hl : ([.sent, .hosts, .later, .ptg, .hpn, .one O.sysXingDropFlags] : List Part) ⊆ l) : Keeps l s (@State.sendSafe a0) := by
  unfold State.sendSafe
  repeat' first
    | with_reducible assumption
    | (with_reducible refine State.xingDrop_keeps ?_ (List.Subset.trans ?_ hl); rotate_right; decide +kernel)
    | (with_reducible refine State.when_keeps ?_ ?_ (List.Subset.trans ?_ hl); rotate_right; decide +kernel)
    | (with_reducible refine State.modPtg_keeps ?_ (List.Subset.trans ?_ hl); rotate_right; decide +kernel)
    | intro x

theorem trxSet_keeps {l : List Part} {s : State} {a0 : State} {a1 : _} {a2 : _} (h : Keeps l s a0)
    (hl : ([.evLast, .sent, .hosts, .later, .ptg, .hpn, .one O.sysXingDropFlags, .fam O.trxState 4] : List Part) ⊆ l) : Keeps l s (@State.trxSet a0 a1 a2) := by
  unfold State.trxSet
  repeat' first
    | with_reducible assumption
    | with_reducible refine Keeps.ite ?_ ?_
    | (with_reducible refine State.setO_keeps ?_ ⟨_, inL hl ?_, O.trxState_has _ ?_⟩; rotate_right; (first | exact Fin.isLt _ | omega | (simp only [List.mem_range] at *; omega)); rotate_right; decide +kernel)
    | (with_reducible refine State.raise_keeps ?_ (List.Subset.trans ?_ hl); rotate_right; decide +kernel)
    | (with_reducible refine State.sendSafe_keeps ?_ (List.Subset.trans ?_ hl); rotate_right; decide +kernel)

theorem trxDisable_keeps {l : List Part} {s : State} {a0 : State} {a1 : _} (h : Keeps l s a0)
    (hl : ([.evLast, .sent, .hosts, .disp, .later, .links, .trx, .ctx, .ptg, .hpn, .one O.sysXingDropFlags, .fam O.trxState 4, .fam O.trxAngleSrc 4, .fam O.lpeStatus 64, .fam O.lpeTrState 4, .fam O.lpeTrCount 4] : List Part) ⊆ l) : Keeps l s (@State.trxDisable a0 a1) := by
  unfold State.trxDisable
  repeat' first
    | with_reducible assumption
    | (with_reducible refine State.trxStop_keeps ?_ (List.Subset.trans ?_ hl); rotate_right; decide +kernel)
    | (with_reducible refine State.endTrx_keeps ?_ (List.Subset.trans ?_ hl); rotate_right; decide +kernel)
    | (with_reducible refine State.trxSet_keeps ?_ (List.Subset.trans ?_ hl); rotate_right; decide +kernel)

theorem trxStopReq_keeps {l : List Part} {s : State} {a0 : State} {a1 : _} (h : Keeps l s a0)
    (hl : ([.evLast, .sent, .hosts, .disp, .later, .links, .trx, .ctx, .ptg, .hpn, .one O.sysXingDropFlags, .fam O.trxState 4, .fam O.trxAngleSrc 4, .fam O.lpeStatus 64, .fam O.lpeTrState 4, .fam O.lpeTrCount 4] : List Part) ⊆ l) : Keeps l s (@State.trxStopReq a0 a1) := by
  unfold State.trxStopReq
  repeat' first
    | with_reducible assumption
    | with_reducible refine Keeps.ite ?_ ?_
    | (with_reducible refine State.trxDisable_keeps ?_ (List.Subset.trans ?_ hl); rotate_right; decide +kernel)
    | (with_reducible refine State.trxSet_keeps ?_ (List.Subset.trans ?_ hl); rotate_right; decide +kernel)

theorem modChg_keeps {l : List Part} {s : State} {a0 : State} {a1 : _} (h : Keeps l s a0)
    (hl : ([.chg] : List Part) ⊆ l) : Keeps l s (@State.modChg a0 a1) := by
  unfold State.modChg
  repeat' first
    | with_reducible assumption
    | (with_reducible refine Keeps.set_chg ?_ (inL hl ?_); rotate_right; decide +kernel)

theorem chgTo_keeps {l : List Part} {s : State} {a0 : State} {a1 : _} {a2 : _} (h : Keeps l s a0)
    (hl : ([.evLast, .sent, .hosts, .later, .hpn, .one O.chgState, .one O.chgFlags] : List Part) ⊆ l) : Keeps l s (@State.chgTo a0 a1 a2) := by
  unfold State.chgTo
  repeat' first
    | with_reducible assumption
    | with_reducible refine Keeps.ite ?_ ?_
    | (with_reducible refine State.setO_keeps ?_ ⟨_, inL hl ?_, O.chgState_has⟩; rotate_right; decide +kernel)
    | (with_reducible refine State.raise_keeps ?_ (List.Subset.trans ?_ hl); rotate_right; decide +kernel)
    | (with_reducible refine State.clrO_keeps ?_ ⟨_, inL hl ?_, O.chgFlags_has⟩; rotate_right; decide +kernel)
    | (with_reducible refine State.orO_keeps ?_ ⟨_, inL hl ?_, O.chgFlags_has⟩; rotate_right; decide +kernel)

theorem chgEnter_keeps {l : List Part} {s : State} {a0 : State} {a1 : _} {a2 : _} (h : Keeps l s a0)
    (hl : ([.evLast, .sent, .hosts, .disp, .later, .chg, .hpn, .one O.chgState, .one O.chgInput, .one O.chgFlags, .one O.chgCause, .one O.chgIInLim, .one O.chgPIn] : List Part) ⊆ l) : Keeps l s (@State.chgEnter a0 a1 a2) := by
  unfold State.chgEnter
  repeat' first
    | with_reducible assumption
    | with_reducible refine Keeps.ite ?_ ?_
    | (with_reducible refine State.setO_keeps ?_ ⟨_, inL hl ?_, O.chgCause_has⟩; rotate_right; decide +kernel)
    | (with_reducible refine State.setO_keeps ?_ ⟨_, inL hl ?_, O.chgIInLim_has⟩; rotate_right; decide +kernel)
    | (with_reducible refine State.setO_keeps ?_ ⟨_, inL hl ?_, O.chgInput_has⟩; rotate_right; decide +kernel)
    | (with_reducible refine State.setO_keeps ?_ ⟨_, inL hl ?_, O.chgPIn_has⟩; rotate_right; decide +kernel)
    | (with_reducible refine State.endAll_keeps ?_ (List.Subset.trans ?_ hl); rotate_right; decide +kernel)
    | (with_reducible refine State.modChg_keeps ?_ (List.Subset.trans ?_ hl); rotate_right; decide +kernel)
    | (with_reducible refine State.when_keeps ?_ ?_ (List.Subset.trans ?_ hl); rotate_right; decide +kernel)
    | (with_reducible refine State.chgTo_keeps ?_ (List.Subset.trans ?_ hl); rotate_right; decide +kernel)
    | intro x

theorem forceLegs_keeps {l : List Part} {s : State} {a0 : State} {a1 : _} {a2 : _} (h : Keeps l s a0)
    (hl : ([.sent, .links] : List Part) ⊆ l) : Keeps l s (@State.forceLegs a0 a1 a2) := by
  unfold State.forceLegs
  repeat' first
    | with_reducible assumption
    | (with_reducible refine State.modLink_keeps ?_ (List.Subset.trans ?_ hl); rotate_right; decide +kernel)
    | (with_reducible refine State.sendForce_keeps ?_ (List.Subset.trans ?_ hl); rotate_right; decide +kernel)
    | (with_reducible refine State.cancelEdges_keeps ?_ (List.Subset.trans ?_ hl); rotate_right; decide +kernel)
    | with_reducible refine Keeps.foldl ?_ ?_
    | intro x

theorem chgLegsOff_keeps {l : List Part} {s : State} {a0 : State} (h : Keeps l s a0)
    (hl : ([.evLast, .sent, .hosts, .later, .links, .ctx, .hpn, .fam O.lpeStatus 64, .fam O.lpeTrState 4, .fam O.lpeTrCount 4] : List Part) ⊆ l) : Keeps l s (@State.chgLegsOff a0) := by
  unfold State.chgLegsOff
  repeat' first
    | with_reducible assumption
    | (with_reducible refine State.forceLegs_keeps ?_ (List.Subset.trans ?_ hl); rotate_right; decide +kernel)
    | (with_reducible refine State.ctxStops_keeps ?_ (List.Subset.trans ?_ hl); rotate_right; decide +kernel)

theorem chgStopFor_keeps {l : List Part} {s : State} {a0 : State} {a1 : _} (h : Keeps l s a0)
    (hl : ([.evLast, .sent, .hosts, .disp, .later, .links, .ctx, .chg, .hpn, .fam O.lpeStatus 64, .fam O.lpeTrState 4, .fam O.lpeTrCount 4, .one O.chgState, .one O.chgInput, .one O.chgFlags, .one O.chgCause, .one O.chgIInLim, .one O.chgPIn] : List Part) ⊆ l) : Keeps l s (@State.chgStopFor a0 a1) := by
  unfold State.chgStopFor
  repeat' first
    | with_reducible assumption
    | (intro x; have hx : Keeps l s x := ?_; clear_value x)
    | with_reducible refine Keeps.ite ?_ ?_
    | (with_reducible refine State.chgEnter_keeps ?_ (List.Subset.trans ?_ hl); rotate_right; decide +kernel)
    | (with_reducible refine State.modChg_keeps ?_ (List.Subset.trans ?_ hl); rotate_right; decide +kernel)
    | (with_reducible refine State.chgLegsOff_keeps ?_ (List.Subset.trans ?_ hl); rotate_right; decide +kernel)
    | (with_reducible refine State.chgTo_keeps ?_ (List.Subset.trans ?_ hl); rotate_right; decide +kernel)
    | (with_reducible refine State.orO_keeps ?_ ⟨_, inL hl ?_, O.chgFlags_has⟩; rotate_right; decide +kernel)
    | intro x
    | lift_lets
    | split

theorem openStops_keeps {l : List Part} {s : State} {a0 : State} (h : Keeps l s a0)
    (hl : ([.evLast, .sent, .hosts, .disp, .later, .links, .trx, .ctx, .ptg, .chg, .hpn, .one O.sysXingDropFlags, .fam O.trxState 4, .fam O.trxAngleSrc 4, .fam O.lpeStatus 64, .fam O.lpeTrState 4, .fam O.lpeTrCount 4, .one O.chgState, .one O.chgInput, .one O.chgFlags, .one O.chgCause, .one O.chgIInLim, .one O.chgPIn] : List Part) ⊆ l) : Keeps l s (@State.openStops a0) := by
  unfold State.openStops
  repeat' first
    | with_reducible assumption
    | (with_reducible refine State.trxStopReq_keeps ?_ (List.Subset.trans ?_ hl); rotate_right; decide +kernel)
    | (with_reducible refine State.chgStopFor_keeps ?_ (List.Subset.trans ?_ hl); rotate_right; decide +kernel)
    | with_reducible refine Keeps.foldl ?_ ?_
    | intro x

theorem modDcl_keeps {l : List Part} {s : State} {a0 : State} {a1 : _} (h : Keeps l s a0)
    (hl : ([.dcl] : List Part) ⊆ l) : Keeps l s (@State.modDcl a0 a1) := by
  unfold State.modDcl
  repeat' first
    | with_reducible assumption
    | (with_reducible refine Keeps.set_dcl ?_ (inL hl ?_); rotate_right; decide +kernel)

theorem dclOut_keeps {l : List Part} {s : State} {a0 : State} {a1 : _} {a2 : _} {a3 : _} (h : Keeps l s a0)
    (hl : ([.dcl] : List Part) ⊆ l) : Keeps l s (@State.dclOut a0 a1 a2 a3) := by
  unfold State.dclOut
  repeat' first
    | with_reducible assumption
    | (with_reducible refine State.modDcl_keeps ?_ (List.Subset.trans ?_ hl); rotate_right; decide +kernel)

theorem openNow_keeps {l : List Part} {s : State} {a0 : State} (h : Keeps l s a0)
    (hl : ([.dcl] : List Part) ⊆ l) : Keeps l s (@State.openNow a0) := by
  unfold State.openNow
  repeat' first
    | with_reducible assumption
    | (with_reducible refine State.dclOut_keeps ?_ (List.Subset.trans ?_ hl); rotate_right; decide +kernel)
    | (with_reducible refine State.modDcl_keeps ?_ (List.Subset.trans ?_ hl); rotate_right; decide +kernel)

theorem dclTo_keeps {l : List Part} {s : State} {a0 : State} {a1 : _} {a2 : _} (h : Keeps l s a0)
    (hl : ([.evLast, .sent, .hosts, .later, .hpn, .one O.dclState] : List Part) ⊆ l) : Keeps l s (@State.dclTo a0 a1 a2) := by
  unfold State.dclTo
  repeat' first
    | with_reducible assumption
    | with_reducible refine Keeps.ite ?_ ?_
    | (with_reducible refine State.setO_keeps ?_ ⟨_, inL hl ?_, O.dclState_has⟩; rotate_right; decide +kernel)
    | (with_reducible refine State.raise_keeps ?_ (List.Subset.trans ?_ hl); rotate_right; decide +kernel)

theorem dclLeave_keeps {l : List Part} {s : State} {a0 : State} {a1 : _} {a2 : _} (h : Keeps l s a0)
    (hl : ([.evLast, .sent, .hosts, .disp, .later, .links, .trx, .ctx, .dcl, .ptg, .chg, .hpn, .one O.sysXingDropFlags, .fam O.trxState 4, .fam O.trxAngleSrc 4, .one O.dclState, .fam O.lpeStatus 64, .fam O.lpeTrState 4, .fam O.lpeTrCount 4, .one O.chgState, .one O.chgInput, .one O.chgFlags, .one O.chgCause, .one O.chgIInLim, .one O.chgPIn] : List Part) ⊆ l) : Keeps l s (@State.dclLeave a0 a1 a2) := by
  unfold State.dclLeave
  repeat' first
    | with_reducible assumption
    | with_reducible refine Keeps.ite ?_ ?_
    | (with_reducible refine State.openStops_keeps ?_ (List.Subset.trans ?_ hl); rotate_right; decide +kernel)
    | (with_reducible refine State.openNow_keeps ?_ (List.Subset.trans ?_ hl); rotate_right; decide +kernel)
    | (with_reducible refine State.endAll_keeps ?_ (List.Subset.trans ?_ hl); rotate_right; decide +kernel)
    | (with_reducible refine State.modDcl_keeps ?_ (List.Subset.trans ?_ hl); rotate_right; decide +kernel)
    | (with_reducible refine State.dclTo_keeps ?_ (List.Subset.trans ?_ hl); rotate_right; decide +kernel)

theorem bmsOpenWritten_keeps {l : List Part} {s : State} {a0 : State} (h : Keeps l s a0)
    (hl : ([.evLast, .sent, .hosts, .disp, .later, .links, .trx, .ctx, .dcl, .ptg, .chg, .hpn, .one O.sysXingDropFlags, .fam O.trxState 4, .fam O.trxAngleSrc 4, .one O.dclState, .fam O.lpeStatus 64, .fam O.lpeTrState 4, .fam O.lpeTrCount 4, .one O.chgState, .one O.chgInput, .one O.chgFlags, .one O.chgCause, .one O.chgIInLim, .one O.chgPIn] : List Part) ⊆ l) : Keeps l s (@State.bmsOpenWritten a0) := by
  unfold State.bmsOpenWritten
  repeat' first
    | with_reducible assumption
    | with_reducible refine Keeps.ite ?_ ?_
    | (with_reducible refine State.dclLeave_keeps ?_ (List.Subset.trans ?_ hl); rotate_right; decide +kernel)
    | (with_reducible refine State.raise_keeps ?_ (List.Subset.trans ?_ hl); rotate_right; decide +kernel)

theorem bmsWritten_keeps {l : List Part} {s : State} {a0 : State} (h : Keeps l s a0)
    (hl : ([.dcl] : List Part) ⊆ l) : Keeps l s (@State.bmsWritten a0) := by
  unfold State.bmsWritten
  repeat' first
    | with_reducible assumption
    | (with_reducible refine State.modDcl_keeps ?_ (List.Subset.trans ?_ hl); rotate_right; decide +kernel)

theorem hwThreshold_keeps {l : List Part} {s : State} {a0 : State} (h : Keeps l s a0)
    (hl : ([.dcl] : List Part) ⊆ l) : Keeps l s (@State.hwThreshold a0) := by
  unfold State.hwThreshold
  repeat' first
    | with_reducible assumption
    | intro x
    | lift_lets
    | (with_reducible refine Keeps.set_dcl ?_ (inL hl ?_); rotate_right; decide +kernel)

theorem linkGovern_keeps {l : List Part} {s : State} {a0 : State} (h : Keeps l s a0)
    (hl : ([.dcl, .one O.dclVLink] : List Part) ⊆ l) : Keeps l s (@State.linkGovern a0) := by
  unfold State.linkGovern
  repeat' first
    | with_reducible assumption
    | (intro x; have hx : Keeps l s x := ?_; clear_value x)
    | (with_reducible refine State.modDcl_keeps ?_ (List.Subset.trans ?_ hl); rotate_right; decide +kernel)
    | (with_reducible refine State.setQ_keeps ?_ ⟨_, inL hl ?_, O.dclVLink_has⟩; rotate_right; decide +kernel)
    | (intro x; clear_value x)
    | split
    | lift_lets

theorem linkTake_keeps {l : List Part} {s : State} {a0 : State} (h : Keeps l s a0)
    (hl : ([.dcl, .one O.dclVBat] : List Part) ⊆ l) : Keeps l s (@State.linkTake a0) := by
  unfold State.linkTake
  repeat' first
    | with_reducible assumption
    | with_reducible refine Keeps.ite ?_ ?_
    | (with_reducible refine State.modDcl_keeps ?_ (List.Subset.trans ?_ hl); rotate_right; decide +kernel)
    | (with_reducible refine State.setQ_keeps ?_ ⟨_, inL hl ?_, O.dclVBat_has⟩; rotate_right; decide +kernel)

theorem linkRename_keeps {l : List Part} {s : State} {a0 : State} {a1 : _} (h : Keeps l s a0)
    (hl : ([.dcl, .one O.dclVLink, .one O.dclVBat] : List Part) ⊆ l) : Keeps l s (@State.linkRename a0 a1) := by
  unfold State.linkRename
  repeat' first
    | with_reducible assumption
    | (with_reducible refine State.linkGovern_keeps ?_ (List.Subset.trans ?_ hl); rotate_right; decide +kernel)
    | (with_reducible refine State.linkTake_keeps ?_ (List.Subset.trans ?_ hl); rotate_right; decide +kernel)
    | (with_reducible refine State.modDcl_keeps ?_ (List.Subset.trans ?_ hl); rotate_right; decide +kernel)

theorem chgOkStep_keeps {l : List Part} {s : State} {a0 : State} (h : Keeps l s a0)
    (hl : ([.chg] : List Part) ⊆ l) : Keeps l s (@State.chgOkStep a0) := by
  unfold State.chgOkStep
  repeat' first
    | with_reducible assumption
    | with_reducible refine Keeps.ite ?_ ?_
    | (with_reducible refine State.modChg_keeps ?_ (List.Subset.trans ?_ hl); rotate_right; decide +kernel)

theorem chgJudge_keeps {l : List Part} {s : State} {a0 : State} (h : Keeps l s a0)
    (hl : ([.evLast, .sent, .hosts, .disp, .later, .links, .ctx, .chg, .hpn, .fam O.lpeStatus 64, .fam O.lpeTrState 4, .fam O.lpeTrCount 4, .one O.chgState, .one O.chgInput, .one O.chgFlags, .one O.chgCause, .one O.chgIInLim, .one O.chgPIn] : List Part) ⊆ l) : Keeps l s (@State.chgJudge a0) := by
  unfold State.chgJudge
  repeat' first
    | with_reducible assumption
    | with_reducible refine Keeps.ite ?_ ?_
    | (with_reducible refine State.when_keeps ?_ ?_ (List.Subset.trans ?_ hl); rotate_right; decide +kernel)
    | (with_reducible refine State.chgStopFor_keeps ?_ (List.Subset.trans ?_ hl); rotate_right; decide +kernel)
    | (with_reducible refine State.orO_keeps ?_ ⟨_, inL hl ?_, O.chgFlags_has⟩; rotate_right; decide +kernel)
    | intro x

theorem batJudge_keeps {l : List Part} {s : State} {a0 : State} (h : Keeps l s a0)
    (hl : ([.evLast, .sent, .hosts, .disp, .later, .links, .ctx, .chg, .hpn, .fam O.lpeStatus 64, .fam O.lpeTrState 4, .fam O.lpeTrCount 4, .one O.chgState, .one O.chgInput, .one O.chgFlags, .one O.chgCause, .one O.chgIInLim, .one O.chgPIn] : List Part) ⊆ l) : Keeps l s (@State.batJudge a0) := by
  unfold State.batJudge
  repeat' first
    | with_reducible assumption
    | (with_reducible refine State.chgOkStep_keeps ?_ (List.Subset.trans ?_ hl); rotate_right; decide +kernel)
    | (with_reducible refine State.chgJudge_keeps ?_ (List.Subset.trans ?_ hl); rotate_right; decide +kernel)

theorem batWritten_keeps {l : List Part} {s : State} {a0 : State} (h : Keeps l s a0)
    (hl : ([.evLast, .sent, .hosts, .disp, .later, .links, .ctx, .chg, .hpn, .fam O.lpeStatus 64, .fam O.lpeTrState 4, .fam O.lpeTrCount 4, .one O.chgState, .one O.chgInput, .one O.chgFlags, .one O.chgCause, .one O.chgIInLim, .one O.chgPIn] : List Part) ⊆ l) : Keeps l s (@State.batWritten a0) := by
  unfold State.batWritten
  repeat' first
    | with_reducible assumption
    | (with_reducible refine State.modChg_keeps ?_ (List.Subset.trans ?_ hl); rotate_right; decide +kernel)
    | (with_reducible refine State.batJudge_keeps ?_ (List.Subset.trans ?_ hl); rotate_right; decide +kernel)

theorem auxFollowV_keeps {l : List Part} {s : State} {a0 : State} (h : Keeps l s a0)
    (hl : ([.fam O.lpeUnits 64] : List Part) ⊆ l) : Keeps l s (@State.auxFollowV a0) := by
  unfold State.auxFollowV
  repeat' first
    | with_reducible assumption
    | (with_reducible refine State.setO_keeps ?_ ⟨_, inL hl ?_, O.lpeUnits_has _ ?_⟩; rotate_right; (first | exact Fin.isLt _ | omega | (simp only [List.mem_range] at *; omega)); rotate_right; decide +kernel)

theorem auxFollowI_keeps {l : List Part} {s : State} {a0 : State} (h : Keeps l s a0)
    (hl : ([.aux, .fam O.lpeUnits 64] : List Part) ⊆ l) : Keeps l s (@State.auxFollowI a0) := by
  unfold State.auxFollowI
  repeat' first
    | with_reducible assumption
    | (with_reducible refine State.auxPeakLoad_keeps ?_ (List.Subset.trans ?_ hl); rotate_right; decide +kernel)
    | (with_reducible refine State.setO_keeps ?_ ⟨_, inL hl ?_, O.lpeUnits_has _ ?_⟩; rotate_right; (first | exact Fin.isLt _ | omega | (simp only [List.mem_range] at *; omega)); rotate_right; decide +kernel)
    | with_reducible refine Keeps.foldl ?_ ?_
    | intro x

theorem modRpk_keeps {l : List Part} {s : State} {a0 : State} {a1 : _} (h : Keeps l s a0)
    (hl : ([.rpk] : List Part) ⊆ l) : Keeps l s (@State.modRpk a0 a1) := by
  unfold State.modRpk
  repeat' first
    | with_reducible assumption
    | (with_reducible refine Keeps.set_rpk ?_ (inL hl ?_); rotate_right; decide +kernel)

theorem rpkTo_keeps {l : List Part} {s : State} {a0 : State} {a1 : _} (h : Keeps l s a0)
    (hl : ([.evLast, .sent, .hosts, .later, .ctx, .rpk, .hpn, .fam O.lpeStatus 64, .fam O.lpeTrState 4, .fam O.lpeTrCount 4, .one O.rpkState] : List Part) ⊆ l) : Keeps l s (@State.rpkTo a0 a1) := by
  unfold State.rpkTo
  repeat' first
    | with_reducible assumption
    | with_reducible refine Keeps.ite ?_ ?_
    | (with_reducible refine State.modRpk_keeps ?_ (List.Subset.trans ?_ hl); rotate_right; decide +kernel)
    | (with_reducible refine State.ctxStop_keeps ?_ (List.Subset.trans ?_ hl); rotate_right; decide +kernel)
    | (with_reducible refine State.setO_keeps ?_ ⟨_, inL hl ?_, O.rpkState_has⟩; rotate_right; decide +kernel)
    | (with_reducible refine State.raise_keeps ?_ (List.Subset.trans ?_ hl); rotate_right; decide +kernel)

theorem rpkEnabled_keeps {l : List Part} {s : State} {a0 : State} (h : Keeps l s a0)
    (hl : ([.evLast, .sent, .hosts, .later, .ctx, .rpk, .hpn, .fam O.lpeStatus 64, .fam O.lpeTrState 4, .fam O.lpeTrCount 4, .one O.rpkState] : List Part) ⊆ l) : Keeps l s (@State.rpkEnabled a0) := by
  unfold State.rpkEnabled
  repeat' first
    | with_reducible assumption
    | with_reducible refine Keeps.ite ?_ ?_
    | (with_reducible refine State.rpkTo_keeps ?_ (List.Subset.trans ?_ hl); rotate_right; decide +kernel)

theorem afterPower_keeps {l : List Part} {s : State} {a0 : State} {a1 : _} {a2 : _} (h : Keeps l s a0)
    (hl : ([.evLast, .sent, .hosts, .disp, .later, .links, .trx, .ctx, .dcl, .ptg, .chg, .aux, .rpk, .hpn, .one O.sysXingDropFlags, .fam O.trxState 4, .fam O.trxAngleSrc 4, .one O.dclState, .one O.dclVLink, .one O.dclVBat, .fam O.lpeUnits 64, .fam O.lpeStatus 64, .fam O.lpeTrState 4, .fam O.lpeTrCount 4, .one O.chgState, .one O.chgInput, .one O.chgFlags, .one O.chgCause, .one O.chgIInLim, .one O.chgPIn, .one O.auxFlags, .one O.rpkState] : List Part) ⊆ l) : Keeps l s (@State.afterPower a0 a1 a2) := by
  unfold State.afterPower
  repeat' first
    | with_reducible assumption
    | with_reducible refine Keeps.ite ?_ ?_
    | (with_reducible refine State.bmsOpenWritten_keeps ?_ (List.Subset.trans ?_ hl); rotate_right; decide +kernel)
    | (with_reducible refine State.bmsWritten_keeps ?_ (List.Subset.trans ?_ hl); rotate_right; decide +kernel)
    | (with_reducible refine State.auxPeakLoad_keeps ?_ (List.Subset.trans ?_ hl); rotate_right; decide +kernel)
    | (with_reducible refine State.dclOut_keeps ?_ (List.Subset.trans ?_ hl); rotate_right; decide +kernel)
    | (with_reducible refine State.hwThreshold_keeps ?_ (List.Subset.trans ?_ hl); rotate_right; decide +kernel)
    | (with_reducible refine State.linkRename_keeps ?_ (List.Subset.trans ?_ hl); rotate_right; decide +kernel)
    | (with_reducible refine State.batWritten_keeps ?_ (List.Subset.trans ?_ hl); rotate_right; decide +kernel)
    | (with_reducible refine State.auxFollowV_keeps ?_ (List.Subset.trans ?_ hl); rotate_right; decide +kernel)
    | (with_reducible refine State.auxFollowI_keeps ?_ (List.Subset.trans ?_ hl); rotate_right; decide +kernel)
    | (with_reducible refine State.modDcl_keeps ?_ (List.Subset.trans ?_ hl); rotate_right; decide +kernel)
    | (with_reducible refine State.modAux_keeps ?_ (List.Subset.trans ?_ hl); rotate_right; decide +kernel)
    | (with_reducible refine State.rpkEnabled_keeps ?_ (List.Subset.trans ?_ hl); rotate_right; decide +kernel)
    | (with_reducible refine State.batJudge_keeps ?_ (List.Subset.trans ?_ hl); rotate_right; decide +kernel)
    | (with_reducible refine State.clrO_keeps ?_ ⟨_, inL hl ?_, O.auxFlags_has⟩; rotate_right; decide +kernel)

theorem gainWrite_keeps {l : List Part} {s : State} {a0 : State} {a1 : _} {a2 : _} (h : Keeps l s a0)
    (hl : ([.adc] : List Part) ⊆ l) : Keeps l s (@State.gainWrite a0 a1 a2) := by
  unfold State.gainWrite
  repeat' first
    | with_reducible assumption
    | with_reducible refine Keeps.ite ?_ ?_
    | (with_reducible refine State.modAdc_keeps ?_ (List.Subset.trans ?_ hl); rotate_right; decide +kernel)
    | (with_reducible refine State.putRes_keeps ?_ (List.Subset.trans ?_ hl); rotate_right; decide +kernel)
    | with_reducible refine Keeps.foldl ?_ ?_
    | intro x

theorem trigWritten_keeps {l : List Part} {s : State} {a0 : State} {a1 : _} (h : Keeps l s a0)
    (hl : ([.adc] : List Part) ⊆ l) : Keeps l s (@State.trigWritten a0 a1) := by
  unfold State.trigWritten
  repeat' first
    | with_reducible assumption
    | (with_reducible refine State.modConv_keeps ?_ (List.Subset.trans ?_ hl); rotate_right; decide +kernel)

theorem keepOld_keeps {l : List Part} {s : State} {a0 : State} {a1 : _} {a2 : _} {a3 : _} (h : Keeps l s a0)
    (hl : ([.adc] : List Part) ⊆ l) : Keeps l s (@State.keepOld a0 a1 a2 a3) := by
  unfold State.keepOld
  repeat' first
    | with_reducible assumption
    | with_reducible refine Keeps.ite ?_ ?_
    | (with_reducible refine State.modConv_keeps ?_ (List.Subset.trans ?_ hl); rotate_right; decide +kernel)

theorem keepPair_keeps {l : List Part} {s : State} {a0 : State} {a1 : _} {a2 : _} {a3 : _} (h : Keeps l s a0)
    (hl : ([.adc] : List Part) ⊆ l) : Keeps l s (@State.keepPair a0 a1 a2 a3) := by
  unfold State.keepPair
  repeat' first
    | with_reducible assumption
    | (with_reducible refine State.keepOld_keeps ?_ (List.Subset.trans ?_ hl); rotate_right; decide +kernel)

theorem afterSense_keeps {l : List Part} {s : State} {a0 : State} {a1 : _} {a2 : _} {a3 : _} {a4 : _} (h : Keeps l s a0)
    (hl : ([.dcl, .adc, .pos, .fam O.adcStatus 12, .fam O.posAngle 4, .fam O.posCount 4, .fam O.posSpeed 4, .fam O.posStatus 4] : List Part) ⊆ l) : Keeps l s (@State.afterSense a0 a1 a2 a3 a4) := by
  unfold State.afterSense
  repeat' first
    | with_reducible assumption
    | with_reducible refine Keeps.ite ?_ ?_
    | with_reducible refine Keeps.dite ?_ ?_
    | (with_reducible refine State.adcIdle_keeps ?_ (List.Subset.trans ?_ hl); rotate_right; decide +kernel)
    | (with_reducible refine State.gainWrite_keeps ?_ (List.Subset.trans ?_ hl); rotate_right; decide +kernel)
    | (with_reducible refine State.hwThreshold_keeps ?_ (List.Subset.trans ?_ hl); rotate_right; decide +kernel)
    | (with_reducible refine State.trigWritten_keeps ?_ (List.Subset.trans ?_ hl); rotate_right; decide +kernel)
    | (with_reducible refine State.excDrive_keeps ?_ (List.Subset.trans ?_ hl); rotate_right; decide +kernel)
    | (with_reducible refine State.modPos_keeps ?_ (List.Subset.trans ?_ hl); rotate_right; decide +kernel)
    | (with_reducible refine State.keepPair_keeps ?_ (List.Subset.trans ?_ hl); rotate_right; decide +kernel)
    | (with_reducible refine State.putRes_keeps ?_ (List.Subset.trans ?_ hl); rotate_right; decide +kernel)
    | (with_reducible refine State.portStart_keeps ?_ (List.Subset.trans ?_ hl); rotate_right; decide +kernel)
    | intro x

theorem ntcUnknown_keeps {l : List Part} {s : State} {a0 : State} {a1 : _} (h : Keeps l s a0)
    (hl : ([.fam O.thmT 72] : List Part) ⊆ l) : Keeps l s (@State.ntcUnknown a0 a1) := by
  unfold State.ntcUnknown
  repeat' first
    | with_reducible assumption
    | (with_reducible refine State.setO_keeps ?_ ⟨_, inL hl ?_, O.thmT_has _ ?_⟩; rotate_right; (first | exact Fin.isLt _ | omega | (simp only [List.mem_range] at *; omega)); rotate_right; decide +kernel)

theorem safetyNamed_keeps {l : List Part} {s : State} {a0 : State} {a1 : _} (h : Keeps l s a0)
    (hl : ([.hosts, .disp] : List Part) ⊆ l) : Keeps l s (@State.safetyNamed a0 a1) := by
  unfold State.safetyNamed
  repeat' first
    | with_reducible assumption
    | with_reducible refine Keeps.ite ?_ ?_
    | with_reducible refine Keeps.dite ?_ ?_
    | (with_reducible refine State.modDisp_keeps ?_ (List.Subset.trans ?_ hl); rotate_right; decide +kernel)
    | ((with_reducible refine State.modHost_keepsR ?_ ?_ (List.Subset.trans ?_ hl)); rotate_right; decide +kernel; rotate_right; (intro p; first | rfl | exact hf _ | exact HostPort.post_slots _ _ | exact HostPort.post2_slots _ _ _ | exact HostPort.settle_slots _ _ | (split <;> first | rfl | exact hf _ | exact HostPort.post_slots _ _ | exact HostPort.post2_slots _ _ _ | exact HostPort.settle_slots _ _)))
    | intro x

theorem afterSys_keeps {l : List Part} {s : State} {a0 : State} {a1 : _} {a2 : _} {a3 : _} {a4 : _} (h : Keeps l s a0)
    (hl : ([.hosts, .disp, .sec, .net, .one O.sysLateFlags, .fam O.thmT 72, .one O.netSessions, .one O.netCycSkipped, .fam O.netCanAddr 4, .fam O.netCanStatus 4, .fam O.netEthStatus 4] : List Part) ⊆ l) : Keeps l s (@State.afterSys a0 a1 a2 a3 a4) := by
  unfold State.afterSys
  repeat' first
    | with_reducible assumption
    | with_reducible refine Keeps.ite ?_ ?_
    | with_reducible refine Keeps.dite ?_ ?_
    | (with_reducible refine State.canStart_keeps ?_ (List.Subset.trans ?_ hl); rotate_right; decide +kernel)
    | (with_reducible refine State.ntcUnknown_keeps ?_ (List.Subset.trans ?_ hl); rotate_right; decide +kernel)
    | (with_reducible refine State.safetyNamed_keeps ?_ (List.Subset.trans ?_ hl); rotate_right; decide +kernel)
    | (with_reducible refine State.clrO_keeps ?_ ⟨_, inL hl ?_, O.netEthStatus_has _ ?_⟩; rotate_right; (first | exact Fin.isLt _ | omega | (simp only [List.mem_range] at *; omega)); rotate_right; decide +kernel)
    | (with_reducible refine State.modNet_keeps ?_ (List.Subset.trans ?_ hl); rotate_right; decide +kernel)
    | with_reducible refine Keeps.foldl ?_ ?_
    | intro x
    | lift_lets
    | (with_reducible refine Keeps.set_sec ?_ (inL hl ?_); rotate_right; decide +kernel)

theorem putSetSt_keeps {l : List Part} {s : State} {a0 : State} {a1 : _} {a2 : _} {a3 : _} (h : Keeps l s a0)
    (hl : ([.fam O.trxSsState 4] : List Part) ⊆ l) : Keeps l s (@State.putSetSt a0 a1 a2 a3) := by
  unfold State.putSetSt
  repeat' first
    | with_reducible assumption
    | (with_reducible refine State.setO_keeps ?_ ⟨_, inL hl ?_, O.trxSsState_has _ ?_⟩; rotate_right; (first | exact Fin.isLt _ | omega | (simp only [List.mem_range] at *; omega)); rotate_right; decide +kernel)

theorem sendLink_keeps {l : List Part} {s : State} {a0 : State} {a1 : _} {a2 : _} {a3 : _} (h : Keeps l s a0)
    (hl : ([.sent, .links] : List Part) ⊆ l) : Keeps l s (@State.sendLink a0 a1 a2 a3) := by
  unfold State.sendLink
  repeat' first
    | with_reducible assumption
    | (with_reducible refine State.putFrame_keeps ?_ (List.Subset.trans ?_ hl); rotate_right; decide +kernel)

theorem regSend_keeps {l : List Part} {s : State} {a0 : State} {a1 : _} {a2 : _} {a3 : _} (h : Keeps l s a0)
    (hl : ([.sent, .links] : List Part) ⊆ l) : Keeps l s (@State.regSend a0 a1 a2 a3) := by
  unfold State.regSend
  repeat' first
    | with_reducible assumption
    | with_reducible refine Keeps.ite ?_ ?_
    | (with_reducible refine State.modLink_keeps ?_ (List.Subset.trans ?_ hl); rotate_right; decide +kernel)
    | (with_reducible refine State.sendLink_keeps ?_ (List.Subset.trans ?_ hl); rotate_right; decide +kernel)

theorem bySpeed_keeps {l : List Part} {s : State} {a0 : State} {a1 : _} (h : Keeps l s a0)
    (hl : ([.sent, .links] : List Part) ⊆ l) : Keeps l s (@State.bySpeed a0 a1) := by
  unfold State.bySpeed
  repeat' first
    | with_reducible assumption
    | with_reducible refine Keeps.ite ?_ ?_
    | (with_reducible refine State.regSend_keeps ?_ (List.Subset.trans ?_ hl); rotate_right; decide +kernel)
    | with_reducible refine Keeps.foldl ?_ ?_
    | intro x

theorem newRequest_keeps {l : List Part} {s : State} {a0 : State} {a1 : _} (h : Keeps l s a0)
    (hl : ([.disp, .trx] : List Part) ⊆ l) : Keeps l s (@State.newRequest a0 a1) := by
  unfold State.newRequest
  repeat' first
    | with_reducible assumption
    | (with_reducible refine State.endAll_keeps ?_ (List.Subset.trans ?_ hl); rotate_right; decide +kernel)
    | (with_reducible refine State.modTrx_keeps ?_ (List.Subset.trans ?_ hl); rotate_right; decide +kernel)

theorem afterTrx_keeps {l : List Part} {s : State} {a0 : State} {a1 : _} {a2 : _} {a3 : _} (h : Keeps l s a0)
    (hl : ([.sent, .disp, .forceA, .forceB, .links, .trx, .fam O.trxSpeedReq 4, .fam O.trxRule 4, .fam O.trxSsState 4] : List Part) ⊆ l) : Keeps l s (@State.afterTrx a0 a1 a2 a3) := by
  unfold State.afterTrx
  repeat' first
    | with_reducible assumption
    | with_reducible refine Keeps.ite ?_ ?_
    | (with_reducible refine State.putSetSt_keeps ?_ (List.Subset.trans ?_ hl); rotate_right; decide +kernel)
    | (with_reducible refine State.applySc_keeps ?_ (List.Subset.trans ?_ hl); rotate_right; decide +kernel)
    | (with_reducible refine State.bySpeed_keeps ?_ (List.Subset.trans ?_ hl); rotate_right; decide +kernel)
    | (with_reducible refine State.setO_keeps ?_ ⟨_, inL hl ?_, O.trxRule_has _ ?_⟩; rotate_right; (first | exact Fin.isLt _ | omega | (simp only [List.mem_range] at *; omega)); rotate_right; decide +kernel)
    | (with_reducible refine State.setQ_keeps ?_ ⟨_, inL hl ?_, O.trxSpeedReq_has _ ?_⟩; rotate_right; (first | exact Fin.isLt _ | omega | (simp only [List.mem_range] at *; omega)); rotate_right; decide +kernel)
    | (with_reducible refine State.newRequest_keeps ?_ (List.Subset.trans ?_ hl); rotate_right; decide +kernel)

theorem trainStart_keeps {l : List Part} {s : State} {a0 : State} {a1 : _} (h : Keeps l s a0)
    (hl : ([.sent, .links, .trx, .fam O.thmT 72] : List Part) ⊆ l) : Keeps l s (@State.trainStart a0 a1) := by
  unfold State.trainStart
  repeat' first
    | with_reducible assumption
    | with_reducible refine Keeps.ite ?_ ?_
    | (with_reducible refine State.modLink_keeps ?_ (List.Subset.trans ?_ hl); rotate_right; decide +kernel)
    | (with_reducible refine State.drvTempGone_keeps ?_ (List.Subset.trans ?_ hl); rotate_right; decide +kernel)
    | (with_reducible refine State.clearLine_keeps ?_ (List.Subset.trans ?_ hl); rotate_right; decide +kernel)
    | (with_reducible refine State.eligLink_keeps ?_ (List.Subset.trans ?_ hl); rotate_right; decide +kernel)
    | (with_reducible refine State.send_keeps ?_ (List.Subset.trans ?_ hl); rotate_right; decide +kernel)

theorem trainEnds_keeps {l : List Part} {s : State} {a0 : State} (h : Keeps l s a0)
    (hl : ([.disp] : List Part) ⊆ l) : Keeps l s (@State.trainEnds a0) := by
  unfold State.trainEnds
  repeat' first
    | with_reducible assumption
    | (intro x; have hx : Keeps l s x := ?_; clear_value x)
    | with_reducible refine Keeps.ite ?_ ?_
    | (with_reducible refine State.endHeld_keeps ?_ (List.Subset.trans ?_ hl); rotate_right; decide +kernel)
    | (with_reducible refine State.modDisp_keeps ?_ (List.Subset.trans ?_ hl); rotate_right; decide +kernel)
    | with_reducible refine Keeps.foldl ?_ ?_
    | intro x
    | lift_lets
    | split

theorem linksSet_keeps {l : List Part} {s : State} {a0 : State} {a1 : _} {a2 : _} (h : Keeps l s a0)
    (hl : ([.sent, .disp, .links, .trx, .fam O.thmT 72] : List Part) ⊆ l) : Keeps l s (@State.linksSet a0 a1 a2) := by
  unfold State.linksSet
  repeat' first
    | with_reducible assumption
    | with_reducible refine Keeps.ite ?_ ?_
    | (with_reducible refine State.modLink_keeps ?_ (List.Subset.trans ?_ hl); rotate_right; decide +kernel)
    | (with_reducible refine State.linkOff_keeps ?_ (List.Subset.trans ?_ hl); rotate_right; decide +kernel)
    | (with_reducible refine State.trainStart_keeps ?_ (List.Subset.trans ?_ hl); rotate_right; decide +kernel)
    | (with_reducible refine State.trainEnds_keeps ?_ (List.Subset.trans ?_ hl); rotate_right; decide +kernel)
    | with_reducible refine Keeps.foldl ?_ ?_
    | intro x

theorem afterWrite_keeps {l : List Part} {s : State} {a0 : State} {a1 : _} {a2 : _} (h : Keeps l s a0)
    (hl : ([.evLast, .sent, .hosts, .disp, .later, .forceA, .forceB, .links, .trx, .ctx, .dcl, .ptg, .adc, .pos, .chg, .aux, .amc, .rpk, .hpn, .sec, .net, .one O.sysXingDropFlags, .one O.sysLateFlags, .fam O.thmT 72, .one O.netSessions, .one O.netCycSkipped, .fam O.netCanAddr 4, .fam O.netCanStatus 4, .fam O.netEthStatus 4, .fam O.trxSpeedReq 4, .fam O.trxState 4, .fam O.trxRule 4, .fam O.trxAngleSrc 4, .fam O.trxSsState 4, .one O.dclState, .one O.dclVLink, .one O.dclVBat, .fam O.lpeUnits 64, .fam O.lpeStatus 64, .fam O.lpeTrState 4, .fam O.lpeTrCount 4, .fam O.adcStatus 12, .fam O.posAngle 4, .fam O.posCount 4, .fam O.posSpeed 4, .fam O.posStatus 4, .one O.chgState, .one O.chgInput, .one O.chgFlags, .one O.chgCause, .one O.chgIInLim, .one O.chgPIn, .one O.auxFlags, .fam O.amcState 6, .fam O.amcSpeed 6, .fam O.amcFlags 6, .one O.rpkState] : List Part) ⊆ l) : Keeps l s (@State.afterWrite a0 a1 a2) := by
  unfold State.afterWrite
  repeat' first
    | with_reducible assumption
    | with_reducible refine Keeps.ite ?_ ?_
    | with_reducible refine Keeps.dite ?_ ?_
    | (with_reducible refine State.afterAmc_keeps ?_ (List.Subset.trans ?_ hl); rotate_right; decide +kernel)
    | (with_reducible refine State.linksSet_keeps ?_ (List.Subset.trans ?_ hl); rotate_right; decide +kernel)
    | (with_reducible refine State.afterSense_keeps ?_ (List.Subset.trans ?_ hl); rotate_right; decide +kernel)
    | (with_reducible refine State.afterPower_keeps ?_ (List.Subset.trans ?_ hl); rotate_right; decide +kernel)
    | (with_reducible refine State.afterSys_keeps ?_ (List.Subset.trans ?_ hl); rotate_right; decide +kernel)
    | (with_reducible refine State.afterTrx_keeps ?_ (List.Subset.trans ?_ hl); rotate_right; decide +kernel)
    | intro x

theorem chopAct_keeps {l : List Part} {s : State} {a0 : State} (h : Keeps l s a0)
    (hl : ([.sent, .links, .dcl] : List Part) ⊆ l) : Keeps l s (@State.chopAct a0) := by
  unfold State.chopAct
  repeat' first
    | with_reducible assumption
    | with_reducible refine Keeps.ite ?_ ?_
    | (with_reducible refine State.forceLegs_keeps ?_ (List.Subset.trans ?_ hl); rotate_right; decide +kernel)
    | (with_reducible refine State.modDcl_keeps ?_ (List.Subset.trans ?_ hl); rotate_right; decide +kernel)
    | (with_reducible refine State.when_keeps ?_ ?_ (List.Subset.trans ?_ hl); rotate_right; decide +kernel)
    | intro x

theorem chopFault_keeps {l : List Part} {s : State} {a0 : State} {a1 : _} (h : Keeps l s a0)
    (hl : ([.evLast, .sent, .hosts, .later, .links, .dcl, .hpn, .one O.dclFlags] : List Part) ⊆ l) : Keeps l s (@State.chopFault a0 a1) := by
  unfold State.chopFault
  repeat' first
    | with_reducible assumption
    | with_reducible refine Keeps.ite ?_ ?_
    | (with_reducible refine State.raise_keeps ?_ (List.Subset.trans ?_ hl); rotate_right; decide +kernel)
    | (with_reducible refine State.chopAct_keeps ?_ (List.Subset.trans ?_ hl); rotate_right; decide +kernel)
    | (with_reducible refine State.orO_keeps ?_ ⟨_, inL hl ?_, O.dclFlags_has⟩; rotate_right; decide +kernel)

theorem auxTo_keeps {l : List Part} {s : State} {a0 : State} {a1 : _} {a2 : _} (h : Keeps l s a0)
    (hl : ([.evLast, .sent, .hosts, .later, .aux, .hpn, .one O.auxState, .one O.auxFlags] : List Part) ⊆ l) : Keeps l s (@State.auxTo a0 a1 a2) := by
  unfold State.auxTo
  repeat' first
    | with_reducible assumption
    | with_reducible refine Keeps.ite ?_ ?_
    | (with_reducible refine State.setO_keeps ?_ ⟨_, inL hl ?_, O.auxState_has⟩; rotate_right; decide +kernel)
    | (with_reducible refine State.raise_keeps ?_ (List.Subset.trans ?_ hl); rotate_right; decide +kernel)
    | (with_reducible refine State.modAux_keeps ?_ (List.Subset.trans ?_ hl); rotate_right; decide +kernel)
    | (with_reducible refine State.clrO_keeps ?_ ⟨_, inL hl ?_, O.auxFlags_has⟩; rotate_right; decide +kernel)
    | (with_reducible refine State.orO_keeps ?_ ⟨_, inL hl ?_, O.auxFlags_has⟩; rotate_right; decide +kernel)

theorem auxLegsOff_keeps {l : List Part} {s : State} {a0 : State} (h : Keeps l s a0)
    (hl : ([.evLast, .sent, .hosts, .later, .links, .ctx, .aux, .hpn, .fam O.lpeStatus 64, .fam O.lpeTrState 4, .fam O.lpeTrCount 4, .one O.auxFlags] : List Part) ⊆ l) : Keeps l s (@State.auxLegsOff a0) := by
  unfold State.auxLegsOff
  repeat' first
    | with_reducible assumption
    | (with_reducible refine State.ctxStop_keeps ?_ (List.Subset.trans ?_ hl); rotate_right; decide +kernel)
    | (with_reducible refine State.forceLegs_keeps ?_ (List.Subset.trans ?_ hl); rotate_right; decide +kernel)
    | (with_reducible refine State.modAux_keeps ?_ (List.Subset.trans ?_ hl); rotate_right; decide +kernel)
    | (with_reducible refine State.clrO_keeps ?_ ⟨_, inL hl ?_, O.auxFlags_has⟩; rotate_right; decide +kernel)
    | (with_reducible refine State.ctxStops_keeps ?_ (List.Subset.trans ?_ hl); rotate_right; decide +kernel)

theorem auxEnd_keeps {l : List Part} {s : State} {a0 : State} {a1 : _} {a2 : _} (h : Keeps l s a0)
    (hl : ([.evLast, .sent, .hosts, .disp, .later, .links, .ctx, .aux, .hpn, .fam O.lpeStatus 64, .fam O.lpeTrState 4, .fam O.lpeTrCount 4, .one O.auxState, .one O.auxFlags, .one O.auxCause, .one O.auxPhaseState] : List Part) ⊆ l) : Keeps l s (@State.auxEnd a0 a1 a2) := by
  unfold State.auxEnd
  repeat' first
    | with_reducible assumption
    | with_reducible refine Keeps.ite ?_ ?_
    | (with_reducible refine State.auxTo_keeps ?_ (List.Subset.trans ?_ hl); rotate_right; decide +kernel)
    | (with_reducible refine State.auxLegsOff_keeps ?_ (List.Subset.trans ?_ hl); rotate_right; decide +kernel)
    | (with_reducible refine State.setO_keeps ?_ ⟨_, inL hl ?_, O.auxCause_has⟩; rotate_right; decide +kernel)
    | (with_reducible refine State.setO_keeps ?_ ⟨_, inL hl ?_, O.auxPhaseState_has⟩; rotate_right; decide +kernel)
    | (with_reducible refine State.endAll_keeps ?_ (List.Subset.trans ?_ hl); rotate_right; decide +kernel)
    | (with_reducible refine State.modAux_keeps ?_ (List.Subset.trans ?_ hl); rotate_right; decide +kernel)

theorem putPh_keeps {l : List Part} {s : State} {a0 : State} {a1 : _} {a2 : _} (h : Keeps l s a0)
    (hl : ([.one O.auxPhaseState] : List Part) ⊆ l) : Keeps l s (@State.putPh a0 a1 a2) := by
  unfold State.putPh
  repeat' first
    | with_reducible assumption
    | (with_reducible refine State.setO_keeps ?_ ⟨_, inL hl ?_, O.auxPhaseState_has⟩; rotate_right; decide +kernel)

theorem auxShedEvent_keeps {l : List Part} {s : State} {a0 : State} {a1 : _} (h : Keeps l s a0)
    (hl : ([.evLast, .sent, .hosts, .later, .hpn] : List Part) ⊆ l) : Keeps l s (@State.auxShedEvent a0 a1) := by
  unfold State.auxShedEvent
  repeat' first
    | with_reducible assumption
    | (with_reducible refine State.raise_keeps ?_ (List.Subset.trans ?_ hl); rotate_right; decide +kernel)

theorem auxLost_keeps {l : List Part} {s : State} {a0 : State} {a1 : _} (h : Keeps l s a0)
    (hl : ([.evLast, .sent, .hosts, .disp, .later, .links, .ctx, .aux, .hpn, .fam O.lpeStatus 64, .fam O.lpeTrState 4, .fam O.lpeTrCount 4, .one O.auxState, .one O.auxFlags, .one O.auxCause, .one O.auxPhaseState] : List Part) ⊆ l) : Keeps l s (@State.auxLost a0 a1) := by
  unfold State.auxLost
  repeat' first
    | with_reducible assumption
    | with_reducible refine Keeps.ite ?_ ?_
    | (with_reducible refine State.auxEnd_keeps ?_ (List.Subset.trans ?_ hl); rotate_right; decide +kernel)
    | (with_reducible refine State.ctxStop_keeps ?_ (List.Subset.trans ?_ hl); rotate_right; decide +kernel)
    | (with_reducible refine State.raise_keeps ?_ (List.Subset.trans ?_ hl); rotate_right; decide +kernel)
    | (with_reducible refine State.forceLegs_keeps ?_ (List.Subset.trans ?_ hl); rotate_right; decide +kernel)
    | (with_reducible refine State.modAux_keeps ?_ (List.Subset.trans ?_ hl); rotate_right; decide +kernel)
    | (with_reducible refine State.putPh_keeps ?_ (List.Subset.trans ?_ hl); rotate_right; decide +kernel)
    | (with_reducible refine State.when_keeps ?_ ?_ (List.Subset.trans ?_ hl); rotate_right; decide +kernel)
    | (with_reducible refine State.auxShedEvent_keeps ?_ (List.Subset.trans ?_ hl); rotate_right; decide +kernel)
    | (with_reducible refine State.orO_keeps ?_ ⟨_, inL hl ?_, O.auxFlags_has⟩; rotate_right; decide +kernel)
    | intro x

theorem returnAbort_keeps {l : List Part} {s : State} {a0 : State} {a1 : _} {a2 : _} (h : Keeps l s a0)
    (hl : ([.evLast, .sent, .hosts, .disp, .later, .hpn] : List Part) ⊆ l) : Keeps l s (@State.returnAbort a0 a1 a2) := by
  unfold State.returnAbort
  repeat' first
    | with_reducible assumption
    | (with_reducible refine State.endAll_keeps ?_ (List.Subset.trans ?_ hl); rotate_right; decide +kernel)
    | (with_reducible refine State.raise_keeps ?_ (List.Subset.trans ?_ hl); rotate_right; decide +kernel)

theorem trxFail_keeps {l : List Part} {s : State} {a0 : State} {a1 : _} {a2 : _} {a3 : _} (h : Keeps l s a0)
    (hl : ([.evLast, .sent, .hosts, .disp, .later, .links, .trx, .ctx, .ptg, .hpn, .one O.sysXingDropFlags, .fam O.trxState 4, .fam O.trxFault 4, .fam O.trxAngleSrc 4, .fam O.lpeStatus 64, .fam O.lpeTrState 4, .fam O.lpeTrCount 4] : List Part) ⊆ l) : Keeps l s (@State.trxFail a0 a1 a2 a3) := by
  unfold State.trxFail
  repeat' first
    | with_reducible assumption
    | (with_reducible refine State.trxStop_keeps ?_ (List.Subset.trans ?_ hl); rotate_right; decide +kernel)
    | (with_reducible refine State.endTrx_keeps ?_ (List.Subset.trans ?_ hl); rotate_right; decide +kernel)
    | (with_reducible refine State.setO_keeps ?_ ⟨_, inL hl ?_, O.trxFault_has _ ?_⟩; rotate_right; (first | exact Fin.isLt _ | omega | (simp only [List.mem_range] at *; omega)); rotate_right; decide +kernel)
    | (with_reducible refine State.modTrx_keeps ?_ (List.Subset.trans ?_ hl); rotate_right; decide +kernel)
    | (with_reducible refine State.trxSet_keeps ?_ (List.Subset.trans ?_ hl); rotate_right; decide +kernel)

theorem putSet_keeps {l : List Part} {s : State} {a0 : State} {a1 : _} {a2 : _} {a3 : _} {a4 : _} {a5 : _} (h : Keeps l s a0)
    (hl : ([.fam O.trxSsState 4] : List Part) ⊆ l) : Keeps l s (@State.putSet a0 a1 a2 a3 a4 a5) := by
  unfold State.putSet
  repeat' first
    | with_reducible assumption
    | (with_reducible refine State.setO_keeps ?_ ⟨_, inL hl ?_, O.trxSsState_has _ ?_⟩; rotate_right; (first | exact Fin.isLt _ | omega | (simp only [List.mem_range] at *; omega)); rotate_right; decide +kernel)

theorem recordLoss_keeps {l : List Part} {s : State} {a0 : State} {a1 : _} {a2 : _} {a3 : _} {a4 : _} {a5 : _} (h : Keeps l s a0)
    (hl : ([.evLast, .sent, .hosts, .later, .trx, .hpn, .fam O.trxFlags 4, .fam O.trxSsState 4, .fam O.trxSsLosses 4] : List Part) ⊆ l) : Keeps l s (@State.recordLoss a0 a1 a2 a3 a4 a5) := by
  unfold State.recordLoss
  repeat' first
    | with_reducible assumption
    | (with_reducible refine State.incSat_keeps ?_ ⟨_, inL hl ?_, O.trxSsLosses_has _ ?_⟩; rotate_right; (first | exact Fin.isLt _ | omega | (simp only [List.mem_range] at *; omega)); rotate_right; decide +kernel)
    | (with_reducible refine State.putSet_keeps ?_ (List.Subset.trans ?_ hl); rotate_right; decide +kernel)
    | (with_reducible refine State.modSet_keeps ?_ (List.Subset.trans ?_ hl); rotate_right; decide +kernel)
    | (with_reducible refine State.raise_keeps ?_ (List.Subset.trans ?_ hl); rotate_right; decide +kernel)
    | (with_reducible refine State.orO_keeps ?_ ⟨_, inL hl ?_, O.trxFlags_has _ ?_⟩; rotate_right; (first | exact Fin.isLt _ | omega | (simp only [List.mem_range] at *; omega)); rotate_right; decide +kernel)

theorem setLost_keeps {l : List Part} {s : State} {a0 : State} {a1 : _} {a2 : _} {a3 : _} {a4 : _} {a5 : _} (h : Keeps l s a0)
    (hl : ([.evLast, .sent, .hosts, .disp, .later, .links, .trx, .ctx, .ptg, .hpn, .one O.sysXingDropFlags, .fam O.trxState 4, .fam O.trxFlags 4, .fam O.trxFault 4, .fam O.trxAngleSrc 4, .fam O.trxSsState 4, .fam O.trxSsLosses 4, .fam O.lpeStatus 64, .fam O.lpeTrState 4, .fam O.lpeTrCount 4] : List Part) ⊆ l) : Keeps l s (@State.setLost a0 a1 a2 a3 a4 a5) := by
  unfold State.setLost
  repeat' first
    | with_reducible assumption
    | with_reducible refine Keeps.ite ?_ ?_
    | (with_reducible refine State.returnAbort_keeps ?_ (List.Subset.trans ?_ hl); rotate_right; decide +kernel)
    | (with_reducible refine State.trxFail_keeps ?_ (List.Subset.trans ?_ hl); rotate_right; decide +kernel)
    | (with_reducible refine State.ctxStop_keeps ?_ (List.Subset.trans ?_ hl); rotate_right; decide +kernel)
    | (with_reducible refine State.modTrx_keeps ?_ (List.Subset.trans ?_ hl); rotate_right; decide +kernel)
    | (with_reducible refine State.recordLoss_keeps ?_ (List.Subset.trans ?_ hl); rotate_right; decide +kernel)
    | (with_reducible refine State.forceLegs_keeps ?_ (List.Subset.trans ?_ hl); rotate_right; decide +kernel)
    | (with_reducible refine State.when_keeps ?_ ?_ (List.Subset.trans ?_ hl); rotate_right; decide +kernel)
    | (with_reducible refine State.sendSafe_keeps ?_ (List.Subset.trans ?_ hl); rotate_right; decide +kernel)
    | intro x

theorem setLostByLink_keeps {l : List Part} {s : State} {a0 : State} {a1 : _} {a2 : _} {a3 : _} (h : Keeps l s a0)
    (hl : ([.evLast, .sent, .hosts, .disp, .later, .links, .trx, .ctx, .ptg, .hpn, .one O.sysXingDropFlags, .fam O.trxState 4, .fam O.trxFlags 4, .fam O.trxFault 4, .fam O.trxAngleSrc 4, .fam O.trxSsState 4, .fam O.trxSsLosses 4, .fam O.lpeStatus 64, .fam O.lpeTrState 4, .fam O.lpeTrCount 4] : List Part) ⊆ l) : Keeps l s (@State.setLostByLink a0 a1 a2 a3) := by
  unfold State.setLostByLink
  repeat' first
    | with_reducible assumption
    | (with_reducible refine State.setLost_keeps ?_ (List.Subset.trans ?_ hl); rotate_right; decide +kernel)
    | split

theorem linkFault_keeps {l : List Part} {s : State} {a0 : State} {a1 : _} {a2 : _} (h : Keeps l s a0)
    (hl : ([.evLast, .sent, .hosts, .disp, .later, .links, .trx, .ctx, .dcl, .ptg, .chg, .aux, .hpn, .one O.sysXingDropFlags, .fam O.trxState 4, .fam O.trxFlags 4, .fam O.trxFault 4, .fam O.trxAngleSrc 4, .fam O.trxSsState 4, .fam O.trxSsLosses 4, .one O.dclFlags, .fam O.lpeStatus 64, .fam O.lpeTrState 4, .fam O.lpeTrCount 4, .one O.chgState, .one O.chgInput, .one O.chgFlags, .one O.chgCause, .one O.chgIInLim, .one O.chgPIn, .one O.auxState, .one O.auxFlags, .one O.auxCause, .one O.auxPhaseState] : List Part) ⊆ l) : Keeps l s (@State.linkFault a0 a1 a2) := by
  unfold State.linkFault
  repeat' first
    | with_reducible assumption
    | with_reducible refine Keeps.ite ?_ ?_
    | (with_reducible refine State.chopFault_keeps ?_ (List.Subset.trans ?_ hl); rotate_right; decide +kernel)
    | (with_reducible refine State.auxLost_keeps ?_ (List.Subset.trans ?_ hl); rotate_right; decide +kernel)
    | (with_reducible refine State.setLostByLink_keeps ?_ (List.Subset.trans ?_ hl); rotate_right; decide +kernel)
    | (with_reducible refine State.chgStopFor_keeps ?_ (List.Subset.trans ?_ hl); rotate_right; decide +kernel)

theorem auxMark_keeps {l : List Part} {s : State} {a0 : State} {a1 : _} (h : Keeps l s a0)
    (hl : ([.aux] : List Part) ⊆ l) : Keeps l s (@State.auxMark a0 a1) := by
  unfold State.auxMark
  repeat' first
    | with_reducible assumption
    | with_reducible refine Keeps.ite ?_ ?_
    | (with_reducible refine State.modAux_keeps ?_ (List.Subset.trans ?_ hl); rotate_right; decide +kernel)

theorem alarm_keeps {l : List Part} {s : State} {a0 : State} {a1 : _} {a2 : _} (h : Keeps l s a0)
    (hl : ([.evLast, .sent, .hosts, .disp, .later, .links, .trx, .ctx, .dcl, .ptg, .chg, .aux, .hpn, .one O.sysXingDropFlags, .fam O.glkStatus 40, .fam O.trxState 4, .fam O.trxFlags 4, .fam O.trxFault 4, .fam O.trxAngleSrc 4, .fam O.trxSsState 4, .fam O.trxSsLosses 4, .one O.dclFlags, .fam O.lpeStatus 64, .fam O.lpeTrState 4, .fam O.lpeTrCount 4, .one O.chgState, .one O.chgInput, .one O.chgFlags, .one O.chgCause, .one O.chgIInLim, .one O.chgPIn, .one O.auxState, .one O.auxFlags, .one O.auxCause, .one O.auxPhaseState] : List Part) ⊆ l) : Keeps l s (@State.alarm a0 a1 a2) := by
  unfold State.alarm
  repeat' first
    | with_reducible assumption
    | with_reducible refine Keeps.ite ?_ ?_
    | (with_reducible refine State.modLink_keeps ?_ (List.Subset.trans ?_ hl); rotate_right; decide +kernel)
    | (with_reducible refine State.cancelEdges_keeps ?_ (List.Subset.trans ?_ hl); rotate_right; decide +kernel)
    | (with_reducible refine State.raise_keeps ?_ (List.Subset.trans ?_ hl); rotate_right; decide +kernel)
    | (with_reducible refine State.linkFault_keeps ?_ (List.Subset.trans ?_ hl); rotate_right; decide +kernel)
    | (with_reducible refine State.eligLink_keeps ?_ (List.Subset.trans ?_ hl); rotate_right; decide +kernel)
    | (with_reducible refine State.orO_keeps ?_ ⟨_, inL hl ?_, O.glkStatus_has _ ?_⟩; rotate_right; (first | exact Fin.isLt _ | omega | (simp only [List.mem_range] at *; omega)); rotate_right; decide +kernel)
    | (with_reducible refine State.auxMark_keeps ?_ (List.Subset.trans ?_ hl); rotate_right; decide +kernel)

theorem alignEnd_keeps {l : List Part} {s : State} {a0 : State} {a1 : _} (h : Keeps l s a0)
    (hl : ([.evLast, .sent, .hosts, .later, .ctx, .amc, .hpn, .fam O.lpeStatus 64, .fam O.lpeTrState 4, .fam O.lpeTrCount 4, .fam O.amcState 6, .fam O.amcSpeed 6] : List Part) ⊆ l) : Keeps l s (@State.alignEnd a0 a1) := by
  unfold State.alignEnd
  repeat' first
    | with_reducible assumption
    | with_reducible refine Keeps.ite ?_ ?_
    | (with_reducible refine State.amcTo_keeps ?_ (List.Subset.trans ?_ hl); rotate_right; decide +kernel)
    | (with_reducible refine State.modAmc_keeps ?_ (List.Subset.trans ?_ hl); rotate_right; decide +kernel)

theorem amcBrake_keeps {l : List Part} {s : State} {a0 : State} {a1 : _} {a2 : _} (h : Keeps l s a0)
    (hl : ([.evLast, .sent, .hosts, .later, .ctx, .amc, .hpn, .fam O.lpeStatus 64, .fam O.lpeTrState 4, .fam O.lpeTrCount 4, .fam O.amcState 6, .fam O.amcSpeed 6] : List Part) ⊆ l) : Keeps l s (@State.amcBrake a0 a1 a2) := by
  unfold State.amcBrake
  repeat' first
    | with_reducible assumption
    | (with_reducible refine State.amcTo_keeps ?_ (List.Subset.trans ?_ hl); rotate_right; decide +kernel)
    | (with_reducible refine State.modAmc_keeps ?_ (List.Subset.trans ?_ hl); rotate_right; decide +kernel)

theorem onChan_keeps {l : List Part} {s : State} {a0 : _} {a1 : State} {a2 : _} (h : Keeps l s a1) (hf : ∀ i, KeepsP l s (a2 i))
    (hl : ([] : List Part) ⊆ l) : KeepsP l s (@State.onChan a0 a1 a2) := by
  unfold State.onChan
  repeat' first
    | with_reducible assumption
    | with_reducible exact hf _
    | with_reducible refine KeepsP.dite ?_ ?_
    | intro x
    | with_reducible refine KeepsP.mk ?_

theorem amcClear_keeps {l : List Part} {s : State} {a0 : _} {a1 : State} (h : Keeps l s a1)
    (hl : ([.evLast, .sent, .hosts, .later, .ctx, .amc, .hpn, .fam O.lpeStatus 64, .fam O.lpeTrState 4, .fam O.lpeTrCount 4, .fam O.amcState 6, .fam O.amcSpeed 6] : List Part) ⊆ l) : KeepsP l s (@State.amcClear a0 a1) := by
  unfold State.amcClear
  repeat' first
    | with_reducible assumption
    | with_reducible refine KeepsP.ite ?_ ?_
    | (with_reducible refine State.onChan_keeps ?_ ?_ (List.Subset.trans ?_ hl); rotate_right; decide +kernel)
    | (with_reducible refine State.amcTo_keeps ?_ (List.Subset.trans ?_ hl); rotate_right; decide +kernel)
    | (with_reducible refine State.guarded_keeps ?_ ?_ (List.Subset.trans ?_ hl); rotate_right; decide +kernel)
    | intro x
    | with_reducible refine KeepsP.mk ?_

theorem amcEndCmds_keeps {l : List Part} {s : State} {a0 : State} {a1 : _} {a2 : _} {a3 : _} (h : Keeps l s a0)
    (hl : ([.disp, .amc, .fam O.amcFlags 6] : List Part) ⊆ l) : Keeps l s (@State.amcEndCmds a0 a1 a2 a3) := by
  unfold State.amcEndCmds
  repeat' first
    | with_reducible assumption
    | (with_reducible refine State.endAll_keeps ?_ (List.Subset.trans ?_ hl); rotate_right; decide +kernel)
    | (with_reducible refine State.modAmc_keeps ?_ (List.Subset.trans ?_ hl); rotate_right; decide +kernel)
    | (with_reducible refine State.clrO_keeps ?_ ⟨_, inL hl ?_, O.amcFlags_has _ ?_⟩; rotate_right; (first | exact Fin.isLt _ | omega | (simp only [List.mem_range] at *; omega)); rotate_right; decide +kernel)

theorem parkTo_keeps {l : List Part} {s : State} {a0 : State} {a1 : _} (h : Keeps l s a0)
    (hl : ([.evLast, .sent, .hosts, .later, .hpn, .one O.amcParkState] : List Part) ⊆ l) : Keeps l s (@State.parkTo a0 a1) := by
  unfold State.parkTo
  repeat' first
    | with_reducible assumption
    | with_reducible refine Keeps.ite ?_ ?_
    | (with_reducible refine State.setO_keeps ?_ ⟨_, inL hl ?_, O.amcParkState_has⟩; rotate_right; decide +kernel)
    | (with_reducible refine State.raise_keeps ?_ (List.Subset.trans ?_ hl); rotate_right; decide +kernel)

theorem amcFault_keeps {l : List Part} {s : State} {a0 : State} {a1 : _} {a2 : _} (h : Keeps l s a0)
    (hl : ([.evLast, .sent, .hosts, .disp, .later, .ctx, .amc, .hpn, .fam O.lpeStatus 64, .fam O.lpeTrState 4, .fam O.lpeTrCount 4, .fam O.amcState 6, .fam O.amcSpeed 6, .fam O.amcFlags 6, .fam O.amcFault 6, .one O.amcParkState] : List Part) ⊆ l) : Keeps l s (@State.amcFault a0 a1 a2) := by
  unfold State.amcFault
  repeat' first
    | with_reducible assumption
    | (with_reducible refine State.amcEndCmds_keeps ?_ (List.Subset.trans ?_ hl); rotate_right; decide +kernel)
    | (with_reducible refine State.amcTo_keeps ?_ (List.Subset.trans ?_ hl); rotate_right; decide +kernel)
    | (with_reducible refine State.parkTo_keeps ?_ (List.Subset.trans ?_ hl); rotate_right; decide +kernel)
    | (with_reducible refine State.setO_keeps ?_ ⟨_, inL hl ?_, O.amcFault_has _ ?_⟩; rotate_right; (first | exact Fin.isLt _ | omega | (simp only [List.mem_range] at *; omega)); rotate_right; decide +kernel)
    | (with_reducible refine State.modAmc_keeps ?_ (List.Subset.trans ?_ hl); rotate_right; decide +kernel)
    | (with_reducible refine State.when_keeps ?_ ?_ (List.Subset.trans ?_ hl); rotate_right; decide +kernel)
    | intro x

theorem amcClock_keeps {l : List Part} {s : State} {a0 : State} (h : Keeps l s a0)
    (hl : ([.evLast, .sent, .hosts, .disp, .later, .ctx, .amc, .hpn, .fam O.lpeStatus 64, .fam O.lpeTrState 4, .fam O.lpeTrCount 4, .fam O.amcState 6, .fam O.amcSpeed 6, .fam O.amcFlags 6, .fam O.amcFault 6, .one O.amcParkState] : List Part) ⊆ l) : Keeps l s (@State.amcClock a0) := by
  unfold State.amcClock
  repeat' first
    | with_reducible assumption
    | with_reducible refine Keeps.ite ?_ ?_
    | (with_reducible refine State.amcFault_keeps ?_ (List.Subset.trans ?_ hl); rotate_right; decide +kernel)
    | with_reducible refine Keeps.foldl ?_ ?_
    | intro x

theorem amcDutyKeep_keeps {l : List Part} {s : State} {a0 : State} {a1 : _} (h : Keeps l s a0)
    (hl : ([.amc] : List Part) ⊆ l) : Keeps l s (@State.amcDutyKeep a0 a1) := by
  unfold State.amcDutyKeep
  repeat' first
    | with_reducible assumption
    | (with_reducible refine State.modAmc_keeps ?_ (List.Subset.trans ?_ hl); rotate_right; decide +kernel)

theorem ctxStart_keeps {l : List Part} {s : State} {a0 : State} {a1 : _} (h : Keeps l s a0)
    (hl : ([.ctx, .fam O.lpeStatus 64] : List Part) ⊆ l) : Keeps l s (@State.ctxStart a0 a1) := by
  unfold State.ctxStart
  repeat' first
    | with_reducible assumption
    | (with_reducible refine State.modCtx_keeps ?_ (List.Subset.trans ?_ hl); rotate_right; decide +kernel)
    | (with_reducible refine State.orO_keeps ?_ ⟨_, inL hl ?_, O.lpeStatus_has _ ?_⟩; rotate_right; (first | exact Fin.isLt _ | omega | (simp only [List.mem_range] at *; omega)); rotate_right; decide +kernel)

theorem showOut_keeps {l : List Part} {s : State} {a0 : State} {a1 : _} (h : Keeps l s a0)
    (hl : ([.fam O.lpeOut 64, .fam O.lpeInteg 64] : List Part) ⊆ l) : Keeps l s (@State.showOut a0 a1) := by
  unfold State.showOut
  repeat' first
    | with_reducible assumption
    | (with_reducible refine State.setO_keeps ?_ ⟨_, inL hl ?_, O.lpeInteg_has _ ?_⟩; rotate_right; (first | exact Fin.isLt _ | omega | (simp only [List.mem_range] at *; omega)); rotate_right; decide +kernel)
    | (with_reducible refine State.setO_keeps ?_ ⟨_, inL hl ?_, O.lpeOut_has _ ?_⟩; rotate_right; (first | exact Fin.isLt _ | omega | (simp only [List.mem_range] at *; omega)); rotate_right; decide +kernel)

theorem amcRun_keeps {l : List Part} {s : State} {a0 : State} {a1 : _} {a2 : _} {a3 : _} {a4 : _} {a5 : _} (h : Keeps l s a0)
    (hl : ([.evLast, .sent, .hosts, .later, .ctx, .amc, .hpn, .fam O.lpeOut 64, .fam O.lpeInteg 64, .fam O.lpeStatus 64, .fam O.lpeTrState 4, .fam O.lpeTrCount 4, .fam O.amcState 6, .fam O.amcSpeed 6] : List Part) ⊆ l) : Keeps l s (@State.amcRun a0 a1 a2 a3 a4 a5) := by
  unfold State.amcRun
  repeat' first
    | with_reducible assumption
    | (with_reducible refine State.ctxStart_keeps ?_ (List.Subset.trans ?_ hl); rotate_right; decide +kernel)
    | (with_reducible refine State.showOut_keeps ?_ (List.Subset.trans ?_ hl); rotate_right; decide +kernel)
    | (with_reducible refine State.amcTo_keeps ?_ (List.Subset.trans ?_ hl); rotate_right; decide +kernel)
    | (with_reducible refine State.setQ_keeps ?_ ⟨_, inL hl ?_, O.amcSpeed_has _ ?_⟩; rotate_right; (first | exact Fin.isLt _ | omega | (simp only [List.mem_range] at *; omega)); rotate_right; decide +kernel)
    | (with_reducible refine State.modCtx_keeps ?_ (List.Subset.trans ?_ hl); rotate_right; decide +kernel)
    | (with_reducible refine State.modAmc_keeps ?_ (List.Subset.trans ?_ hl); rotate_right; decide +kernel)

theorem amcMoveEnd_keeps {l : List Part} {s : State} {a0 : State} {a1 : _} {a2 : _} {a3 : _} (h : Keeps l s a0)
    (hl : ([.evLast, .sent, .hosts, .disp, .later, .ctx, .amc, .hpn, .thm, .fam O.lpeStatus 64, .fam O.lpeTrState 4, .fam O.lpeTrCount 4, .fam O.amcState 6, .fam O.amcSpeed 6] : List Part) ⊆ l) : Keeps l s (@State.amcMoveEnd a0 a1 a2 a3) := by
  unfold State.amcMoveEnd
  repeat' first
    | with_reducible assumption
    | (with_reducible refine State.amcTo_keeps ?_ (List.Subset.trans ?_ hl); rotate_right; decide +kernel)
    | (with_reducible refine State.endAll_keeps ?_ (List.Subset.trans ?_ hl); rotate_right; decide +kernel)
    | (with_reducible refine State.pauseFrom_keeps ?_ (List.Subset.trans ?_ hl); rotate_right; decide +kernel)
    | (with_reducible refine State.modAmc_keeps ?_ (List.Subset.trans ?_ hl); rotate_right; decide +kernel)
    | (with_reducible refine State.when_keeps ?_ ?_ (List.Subset.trans ?_ hl); rotate_right; decide +kernel)
    | intro x

theorem amcStandstill_keeps {l : List Part} {s : State} {a0 : State} {a1 : _} (h : Keeps l s a0)
    (hl : ([.evLast, .sent, .hosts, .disp, .later, .ctx, .amc, .hpn, .thm, .fam O.lpeStatus 64, .fam O.lpeTrState 4, .fam O.lpeTrCount 4, .fam O.amcState 6, .fam O.amcSpeed 6, .fam O.amcFault 6] : List Part) ⊆ l) : Keeps l s (@State.amcStandstill a0 a1) := by
  unfold State.amcStandstill
  repeat' first
    | with_reducible assumption
    | with_reducible refine Keeps.ite ?_ ?_
    | (with_reducible refine State.amcMoveEnd_keeps ?_ (List.Subset.trans ?_ hl); rotate_right; decide +kernel)
    | (with_reducible refine State.amcTo_keeps ?_ (List.Subset.trans ?_ hl); rotate_right; decide +kernel)
    | (with_reducible refine State.amcGo_keeps ?_ (List.Subset.trans ?_ hl); rotate_right; decide +kernel)
    | (with_reducible refine State.setO_keeps ?_ ⟨_, inL hl ?_, O.amcFault_has _ ?_⟩; rotate_right; (first | exact Fin.isLt _ | omega | (simp only [List.mem_range] at *; omega)); rotate_right; decide +kernel)
    | split

theorem setAmcPos_keeps {l : List Part} {s : State} {a0 : State} {a1 : _} {a2 : _} (h : Keeps l s a0)
    (hl : ([.fam O.amcPosition 6] : List Part) ⊆ l) : Keeps l s (@State.setAmcPos a0 a1 a2) := by
  unfold State.setAmcPos
  repeat' first
    | with_reducible assumption
    | (with_reducible refine State.setO_keeps ?_ ⟨_, inL hl ?_, O.amcPosition_has _ ?_⟩; rotate_right; (first | exact Fin.isLt _ | omega | (simp only [List.mem_range] at *; omega)); rotate_right; decide +kernel)

theorem amcMoveBrake_keeps {l : List Part} {s : State} {a0 : State} {a1 : _} (h : Keeps l s a0)
    (hl : ([.evLast, .sent, .hosts, .later, .ctx, .amc, .hpn, .fam O.lpeStatus 64, .fam O.lpeTrState 4, .fam O.lpeTrCount 4, .fam O.amcState 6, .fam O.amcSpeed 6, .fam O.amcPosition 6] : List Part) ⊆ l) : Keeps l s (@State.amcMoveBrake a0 a1) := by
  unfold State.amcMoveBrake
  repeat' first
    | with_reducible assumption
    | (with_reducible refine State.setAmcPos_keeps ?_ (List.Subset.trans ?_ hl); rotate_right; decide +kernel)
    | (with_reducible refine State.amcBrake_keeps ?_ (List.Subset.trans ?_ hl); rotate_right; decide +kernel)

theorem amcHeard_keeps {l : List Part} {s : State} {a0 : State} {a1 : _} {a2 : _} {a3 : _} (h : Keeps l s a0)
    (hl : ([.evLast, .sent, .hosts, .disp, .later, .ctx, .amc, .hpn, .thm, .fam O.lpeOut 64, .fam O.lpeInteg 64, .fam O.lpeStatus 64, .fam O.lpeTrState 4, .fam O.lpeTrCount 4, .fam O.amcState 6, .fam O.amcSpeed 6, .fam O.amcPosition 6, .fam O.amcFlags 6, .fam O.amcFault 6, .one O.amcParkState] : List Part) ⊆ l) : Keeps l s (@State.amcHeard a0 a1 a2 a3) := by
  unfold State.amcHeard
  repeat' first
    | with_reducible assumption
    | with_reducible refine Keeps.ite ?_ ?_
    | (with_reducible refine State.amcTo_keeps ?_ (List.Subset.trans ?_ hl); rotate_right; decide +kernel)
    | (with_reducible refine State.amcRun_keeps ?_ (List.Subset.trans ?_ hl); rotate_right; decide +kernel)
    | (with_reducible refine State.amcStandstill_keeps ?_ (List.Subset.trans ?_ hl); rotate_right; decide +kernel)
    | (with_reducible refine State.amcFault_keeps ?_ (List.Subset.trans ?_ hl); rotate_right; decide +kernel)
    | (with_reducible refine State.raise_keeps ?_ (List.Subset.trans ?_ hl); rotate_right; decide +kernel)
    | (with_reducible refine State.amcBrake_keeps ?_ (List.Subset.trans ?_ hl); rotate_right; decide +kernel)
    | (with_reducible refine State.amcMoveBrake_keeps ?_ (List.Subset.trans ?_ hl); rotate_right; decide +kernel)
    | (with_reducible refine State.modAmc_keeps ?_ (List.Subset.trans ?_ hl); rotate_right; decide +kernel)
    | (with_reducible refine State.orO_keeps ?_ ⟨_, inL hl ?_, O.amcFlags_has _ ?_⟩; rotate_right; (first | exact Fin.isLt _ | omega | (simp only [List.mem_range] at *; omega)); rotate_right; decide +kernel)
    | intro x
    | lift_lets
    | split

theorem amcHome_keeps {l : List Part} {s : State} {a0 : _} {a1 : State} (h : Keeps l s a1)
    (hl : ([.evLast, .sent, .hosts, .disp, .later, .ctx, .amc, .hpn, .fam O.lpeStatus 64, .fam O.lpeTrState 4, .fam O.lpeTrCount 4, .fam O.amcState 6, .fam O.amcSpeed 6] : List Part) ⊆ l) : KeepsP l s (@State.amcHome a0 a1) := by
  unfold State.amcHome
  repeat' first
    | with_reducible assumption
    | with_reducible refine KeepsP.ite ?_ ?_
    | (with_reducible refine State.onChan_keeps ?_ ?_ (List.Subset.trans ?_ hl); rotate_right; decide +kernel)
    | (with_reducible refine State.amcGo_keeps ?_ (List.Subset.trans ?_ hl); rotate_right; decide +kernel)
    | (with_reducible refine State.guarded_keeps ?_ ?_ (List.Subset.trans ?_ hl); rotate_right; decide +kernel)
    | (with_reducible refine State.hold_keeps ?_ (List.Subset.trans ?_ hl); rotate_right; decide +kernel)
    | intro x
    | with_reducible refine KeepsP.mk ?_

theorem amcLate_keeps {l : List Part} {s : State} {a0 : State} {a1 : _} (h : Keeps l s a0)
    (hl : ([.evLast, .sent, .hosts, .disp, .later, .ctx, .amc, .hpn, .fam O.lpeStatus 64, .fam O.lpeTrState 4, .fam O.lpeTrCount 4, .fam O.amcState 6, .fam O.amcSpeed 6, .fam O.amcFlags 6, .fam O.amcFault 6, .one O.amcParkState] : List Part) ⊆ l) : Keeps l s (@State.amcLate a0 a1) := by
  unfold State.amcLate
  repeat' first
    | with_reducible assumption
    | with_reducible refine Keeps.ite ?_ ?_
    | with_reducible refine Keeps.dite ?_ ?_
    | (with_reducible refine State.amcFault_keeps ?_ (List.Subset.trans ?_ hl); rotate_right; decide +kernel)
    | (with_reducible refine State.orO_keeps ?_ ⟨_, inL hl ?_, O.amcFlags_has _ ?_⟩; rotate_right; (first | exact Fin.isLt _ | omega | (simp only [List.mem_range] at *; omega)); rotate_right; decide +kernel)
    | intro x

theorem amcMoveBegin_keeps {l : List Part} {s : State} {a0 : State} {a1 : _} {a2 : _} (h : Keeps l s a0)
    (hl : ([.evLast, .sent, .hosts, .later, .ctx, .amc, .hpn, .fam O.lpeStatus 64, .fam O.lpeTrState 4, .fam O.lpeTrCount 4, .fam O.amcState 6, .fam O.amcSpeed 6] : List Part) ⊆ l) : Keeps l s (@State.amcMoveBegin a0 a1 a2) := by
  unfold State.amcMoveBegin
  repeat' first
    | with_reducible assumption
    | with_reducible refine Keeps.ite ?_ ?_
    | (with_reducible refine State.amcGo_keeps ?_ (List.Subset.trans ?_ hl); rotate_right; decide +kernel)
    | (with_reducible refine State.modAmc_keeps ?_ (List.Subset.trans ?_ hl); rotate_right; decide +kernel)

theorem amcMove_keeps {l : List Part} {s : State} {a0 : _} {a1 : State} (h : Keeps l s a1)
    (hl : ([.evLast, .sent, .hosts, .disp, .later, .ctx, .amc, .hpn, .fam O.lpeStatus 64, .fam O.lpeTrState 4, .fam O.lpeTrCount 4, .fam O.amcState 6, .fam O.amcSpeed 6, .fam O.amcFlags 6] : List Part) ⊆ l) : KeepsP l s (@State.amcMove a0 a1) := by
  unfold State.amcMove
  repeat' first
    | with_reducible assumption
    | (intro x; have hx : Keeps l s x := ?_; clear_value x)
    | with_reducible refine KeepsP.ite ?_ ?_
    | (with_reducible refine State.onChan_keeps ?_ ?_ (List.Subset.trans ?_ hl); rotate_right; decide +kernel)
    | (with_reducible refine State.endAll_keeps ?_ (List.Subset.trans ?_ hl); rotate_right; decide +kernel)
    | (with_reducible refine State.guarded_keeps ?_ ?_ (List.Subset.trans ?_ hl); rotate_right; decide +kernel)
    | (with_reducible refine State.amcMoveBegin_keeps ?_ (List.Subset.trans ?_ hl); rotate_right; decide +kernel)
    | (with_reducible refine State.modAmc_keeps ?_ (List.Subset.trans ?_ hl); rotate_right; decide +kernel)
    | (with_reducible refine State.hold_keeps ?_ (List.Subset.trans ?_ hl); rotate_right; decide +kernel)
    | (with_reducible refine State.orO_keeps ?_ ⟨_, inL hl ?_, O.amcFlags_has _ ?_⟩; rotate_right; (first | exact Fin.isLt _ | omega | (simp only [List.mem_range] at *; omega)); rotate_right; decide +kernel)
    | intro x
    | lift_lets
    | with_reducible refine KeepsP.mk ?_

theorem amcPeak_keeps {l : List Part} {s : State} {a0 : State} {a1 : _} {a2 : _} {a3 : _} (h : Keeps l s a0)
    (hl : ([.evLast, .sent, .hosts, .disp, .later, .ctx, .amc, .hpn, .fam O.lpeStatus 64, .fam O.lpeTrState 4, .fam O.lpeTrCount 4, .fam O.amcState 6, .fam O.amcSpeed 6, .fam O.amcFlags 6, .fam O.amcFault 6, .one O.amcParkState] : List Part) ⊆ l) : Keeps l s (@State.amcPeak a0 a1 a2 a3) := by
  unfold State.amcPeak
  repeat' first
    | with_reducible assumption
    | with_reducible refine Keeps.ite ?_ ?_
    | (with_reducible refine State.amcFault_keeps ?_ (List.Subset.trans ?_ hl); rotate_right; decide +kernel)
    | (with_reducible refine State.modAmc_keeps ?_ (List.Subset.trans ?_ hl); rotate_right; decide +kernel)
    | (with_reducible refine State.orO_keeps ?_ ⟨_, inL hl ?_, O.amcFlags_has _ ?_⟩; rotate_right; (first | exact Fin.isLt _ | omega | (simp only [List.mem_range] at *; omega)); rotate_right; decide +kernel)

theorem amcUnderWay_keeps {l : List Part} {s : State} {a0 : State} {a1 : _} (h : Keeps l s a0)
    (hl : ([.disp] : List Part) ⊆ l) : Keeps l s (@State.amcUnderWay a0 a1) := by
  unfold State.amcUnderWay
  repeat' first
    | with_reducible assumption
    | (with_reducible refine State.underWay_keeps ?_ (List.Subset.trans ?_ hl); rotate_right; decide +kernel)

theorem parkRun_keeps {l : List Part} {s : State} {a0 : State} {a1 : _} (h : Keeps l s a0)
    (hl : ([.evLast, .sent, .hosts, .later, .ctx, .amc, .hpn, .fam O.lpeStatus 64, .fam O.lpeTrState 4, .fam O.lpeTrCount 4, .fam O.amcState 6, .fam O.amcSpeed 6, .one O.amcParkState] : List Part) ⊆ l) : Keeps l s (@State.parkRun a0 a1) := by
  unfold State.parkRun
  repeat' first
    | with_reducible assumption
    | (with_reducible refine State.amcGo_keeps ?_ (List.Subset.trans ?_ hl); rotate_right; decide +kernel)
    | (with_reducible refine State.parkTo_keeps ?_ (List.Subset.trans ?_ hl); rotate_right; decide +kernel)
    | (with_reducible refine State.modAmc_keeps ?_ (List.Subset.trans ?_ hl); rotate_right; decide +kernel)

theorem amcRelease_keeps {l : List Part} {s : State} {a0 : State} {a1 : _} (h : Keeps l s a0)
    (hl : ([.evLast, .sent, .hosts, .disp, .later, .ctx, .amc, .hpn, .fam O.lpeStatus 64, .fam O.lpeTrState 4, .fam O.lpeTrCount 4, .fam O.amcSpeedReq 6, .fam O.amcState 6, .fam O.amcSpeed 6, .fam O.amcFlags 6, .one O.amcParkState] : List Part) ⊆ l) : Keeps l s (@State.amcRelease a0 a1) := by
  unfold State.amcRelease
  repeat' first
    | with_reducible assumption
    | with_reducible refine Keeps.ite ?_ ?_
    | (with_reducible refine State.amcUnderWay_keeps ?_ (List.Subset.trans ?_ hl); rotate_right; decide +kernel)
    | (with_reducible refine State.parkRun_keeps ?_ (List.Subset.trans ?_ hl); rotate_right; decide +kernel)
    | (with_reducible refine State.amcGo_keeps ?_ (List.Subset.trans ?_ hl); rotate_right; decide +kernel)
    | (with_reducible refine State.endAll_keeps ?_ (List.Subset.trans ?_ hl); rotate_right; decide +kernel)
    | (with_reducible refine State.amcMoveBegin_keeps ?_ (List.Subset.trans ?_ hl); rotate_right; decide +kernel)
    | (with_reducible refine State.setQ_keeps ?_ ⟨_, inL hl ?_, O.amcSpeedReq_has _ ?_⟩; rotate_right; (first | exact Fin.isLt _ | omega | (simp only [List.mem_range] at *; omega)); rotate_right; decide +kernel)
    | (with_reducible refine State.modAmc_keeps ?_ (List.Subset.trans ?_ hl); rotate_right; decide +kernel)
    | (with_reducible refine State.clrO_keeps ?_ ⟨_, inL hl ?_, O.amcFlags_has _ ?_⟩; rotate_right; (first | exact Fin.isLt _ | omega | (simp only [List.mem_range] at *; omega)); rotate_right; decide +kernel)
    | split

theorem amcRunDown_keeps {l : List Part} {s : State} {a0 : State} {a1 : _} (h : Keeps l s a0)
    (hl : ([.evLast, .sent, .hosts, .disp, .later, .ctx, .amc, .hpn, .fam O.lpeStatus 64, .fam O.lpeTrState 4, .fam O.lpeTrCount 4, .fam O.amcState 6, .fam O.amcSpeed 6, .fam O.amcFlags 6, .fam O.amcFault 6, .one O.amcParkState] : List Part) ⊆ l) : Keeps l s (@State.amcRunDown a0 a1) := by
  unfold State.amcRunDown
  repeat' first
    | with_reducible assumption
    | (with_reducible refine State.amcEndCmds_keeps ?_ (List.Subset.trans ?_ hl); rotate_right; decide +kernel)
    | (with_reducible refine State.amcTo_keeps ?_ (List.Subset.trans ?_ hl); rotate_right; decide +kernel)
    | (with_reducible refine State.parkTo_keeps ?_ (List.Subset.trans ?_ hl); rotate_right; decide +kernel)
    | (with_reducible refine State.setO_keeps ?_ ⟨_, inL hl ?_, O.amcFault_has _ ?_⟩; rotate_right; (first | exact Fin.isLt _ | omega | (simp only [List.mem_range] at *; omega)); rotate_right; decide +kernel)
    | (with_reducible refine State.modAmc_keeps ?_ (List.Subset.trans ?_ hl); rotate_right; decide +kernel)
    | (with_reducible refine State.when_keeps ?_ ?_ (List.Subset.trans ?_ hl); rotate_right; decide +kernel)
    | intro x

theorem amcSafe_keeps {l : List Part} {s : State} {a0 : State} {a1 : _} (h : Keeps l s a0)
    (hl : ([.evLast, .sent, .hosts, .disp, .later, .ctx, .amc, .hpn, .fam O.lpeStatus 64, .fam O.lpeTrState 4, .fam O.lpeTrCount 4, .fam O.amcState 6, .fam O.amcSpeed 6, .fam O.amcFlags 6, .fam O.amcFault 6, .one O.amcParkState] : List Part) ⊆ l) : Keeps l s (@State.amcSafe a0 a1) := by
  unfold State.amcSafe
  repeat' first
    | with_reducible assumption
    | with_reducible refine Keeps.ite ?_ ?_
    | (with_reducible refine State.amcFault_keeps ?_ (List.Subset.trans ?_ hl); rotate_right; decide +kernel)
    | with_reducible refine Keeps.foldl ?_ ?_
    | intro x

theorem amcSample_keeps {l : List Part} {s : State} {a0 : State} {a1 : _} (h : Keeps l s a0)
    (hl : ([.evLast, .sent, .hosts, .disp, .later, .ctx, .amc, .hpn, .fam O.lpeStatus 64, .fam O.lpeTrState 4, .fam O.lpeTrCount 4, .fam O.amcSpeedReq 6, .fam O.amcState 6, .fam O.amcSpeed 6, .fam O.amcFlags 6, .fam O.amcFault 6, .one O.amcParkState] : List Part) ⊆ l) : Keeps l s (@State.amcSample a0 a1) := by
  unfold State.amcSample
  repeat' first
    | with_reducible assumption
    | with_reducible refine Keeps.ite ?_ ?_
    | (with_reducible refine State.amcRunDown_keeps ?_ (List.Subset.trans ?_ hl); rotate_right; decide +kernel)
    | (with_reducible refine State.amcRelease_keeps ?_ (List.Subset.trans ?_ hl); rotate_right; decide +kernel)
    | (with_reducible refine State.modAmc_keeps ?_ (List.Subset.trans ?_ hl); rotate_right; decide +kernel)

theorem amcStartFail_keeps {l : List Part} {s : State} {a0 : State} {a1 : _} (h : Keeps l s a0)
    (hl : ([.evLast, .sent, .hosts, .disp, .later, .ctx, .amc, .hpn, .fam O.lpeStatus 64, .fam O.lpeTrState 4, .fam O.lpeTrCount 4, .fam O.amcState 6, .fam O.amcSpeed 6, .fam O.amcFlags 6, .fam O.amcFault 6, .one O.amcParkState] : List Part) ⊆ l) : Keeps l s (@State.amcStartFail a0 a1) := by
  unfold State.amcStartFail
  repeat' first
    | with_reducible assumption
    | with_reducible refine Keeps.ite ?_ ?_
    | (with_reducible refine State.amcTo_keeps ?_ (List.Subset.trans ?_ hl); rotate_right; decide +kernel)
    | (with_reducible refine State.amcFault_keeps ?_ (List.Subset.trans ?_ hl); rotate_right; decide +kernel)
    | (with_reducible refine State.modAmc_keeps ?_ (List.Subset.trans ?_ hl); rotate_right; decide +kernel)
    | (with_reducible refine State.orO_keeps ?_ ⟨_, inL hl ?_, O.amcFlags_has _ ?_⟩; rotate_right; (first | exact Fin.isLt _ | omega | (simp only [List.mem_range] at *; omega)); rotate_right; decide +kernel)

theorem parkStall_keeps {l : List Part} {s : State} {a0 : State} (h : Keeps l s a0)
    (hl : ([.evLast, .sent, .hosts, .disp, .later, .ctx, .amc, .hpn, .fam O.lpeStatus 64, .fam O.lpeTrState 4, .fam O.lpeTrCount 4, .fam O.amcState 6, .fam O.amcSpeed 6, .fam O.amcPosition 6, .fam O.amcFlags 6, .one O.amcParkState] : List Part) ⊆ l) : Keeps l s (@State.parkStall a0) := by
  unfold State.parkStall
  repeat' first
    | with_reducible assumption
    | with_reducible refine Keeps.ite ?_ ?_
    | (with_reducible refine State.setAmcPos_keeps ?_ (List.Subset.trans ?_ hl); rotate_right; decide +kernel)
    | (with_reducible refine State.amcTo_keeps ?_ (List.Subset.trans ?_ hl); rotate_right; decide +kernel)
    | (with_reducible refine State.parkTo_keeps ?_ (List.Subset.trans ?_ hl); rotate_right; decide +kernel)
    | (with_reducible refine State.endAll_keeps ?_ (List.Subset.trans ?_ hl); rotate_right; decide +kernel)
    | (with_reducible refine State.modAmc_keeps ?_ (List.Subset.trans ?_ hl); rotate_right; decide +kernel)
    | (with_reducible refine State.orO_keeps ?_ ⟨_, inL hl ?_, O.amcFlags_has _ ?_⟩; rotate_right; (first | exact Fin.isLt _ | omega | (simp only [List.mem_range] at *; omega)); rotate_right; decide +kernel)

theorem amcStall_keeps {l : List Part} {s : State} {a0 : State} {a1 : _} (h : Keeps l s a0)
    (hl : ([.evLast, .sent, .hosts, .disp, .later, .ctx, .amc, .hpn, .thm, .fam O.lpeStatus 64, .fam O.lpeTrState 4, .fam O.lpeTrCount 4, .fam O.amcSpeedReq 6, .fam O.amcState 6, .fam O.amcSpeed 6, .fam O.amcPosition 6, .fam O.amcFlags 6, .fam O.amcFault 6, .one O.amcParkState] : List Part) ⊆ l) : Keeps l s (@State.amcStall a0 a1) := by
  unfold State.amcStall
  repeat' first
    | with_reducible assumption
    | (intro x; have hx : Keeps l s x := ?_; clear_value x)
    | (with_reducible refine State.amcMoveEnd_keeps ?_ (List.Subset.trans ?_ hl); rotate_right; decide +kernel)
    | (with_reducible refine State.setAmcPos_keeps ?_ (List.Subset.trans ?_ hl); rotate_right; decide +kernel)
    | (with_reducible refine State.amcStartFail_keeps ?_ (List.Subset.trans ?_ hl); rotate_right; decide +kernel)
    | (with_reducible refine State.amcRelease_keeps ?_ (List.Subset.trans ?_ hl); rotate_right; decide +kernel)
    | (with_reducible refine State.parkStall_keeps ?_ (List.Subset.trans ?_ hl); rotate_right; decide +kernel)
    | (with_reducible refine State.orO_keeps ?_ ⟨_, inL hl ?_, O.amcFlags_has _ ?_⟩; rotate_right; (first | exact Fin.isLt _ | omega | (simp only [List.mem_range] at *; omega)); rotate_right; decide +kernel)
    | lift_lets
    | split

theorem amcStart_keeps {l : List Part} {s : State} {a0 : _} {a1 : State} (h : Keeps l s a1)
    (hl : ([.evLast, .sent, .hosts, .later, .ctx, .amc, .hpn, .fam O.lpeStatus 64, .fam O.lpeTrState 4, .fam O.lpeTrCount 4, .fam O.amcState 6, .fam O.amcSpeed 6] : List Part) ⊆ l) : KeepsP l s (@State.amcStart a0 a1) := by
  unfold State.amcStart
  repeat' first
    | with_reducible assumption
    | (with_reducible refine State.onChan_keeps ?_ ?_ (List.Subset.trans ?_ hl); rotate_right; decide +kernel)
    | (with_reducible refine State.amcTarget_keeps ?_ (List.Subset.trans ?_ hl); rotate_right; decide +kernel)
    | (with_reducible refine State.amcTo_keeps ?_ (List.Subset.trans ?_ hl); rotate_right; decide +kernel)
    | (with_reducible refine State.guarded_keeps ?_ ?_ (List.Subset.trans ?_ hl); rotate_right; decide +kernel)
    | (with_reducible refine State.modAmc_keeps ?_ (List.Subset.trans ?_ hl); rotate_right; decide +kernel)
    | intro x
    | with_reducible refine KeepsP.mk ?_

theorem amcStop_keeps {l : List Part} {s : State} {a0 : _} {a1 : State} (h : Keeps l s a1)
    (hl : ([.evLast, .sent, .hosts, .disp, .later, .ctx, .amc, .hpn, .fam O.lpeStatus 64, .fam O.lpeTrState 4, .fam O.lpeTrCount 4, .fam O.amcState 6, .fam O.amcSpeed 6, .fam O.amcFlags 6, .fam O.amcFault 6, .one O.amcParkState] : List Part) ⊆ l) : KeepsP l s (@State.amcStop a0 a1) := by
  unfold State.amcStop
  repeat' first
    | with_reducible assumption
    | with_reducible refine KeepsP.ite ?_ ?_
    | (with_reducible refine State.onChan_keeps ?_ ?_ (List.Subset.trans ?_ hl); rotate_right; decide +kernel)
    | (with_reducible refine State.amcEndCmds_keeps ?_ (List.Subset.trans ?_ hl); rotate_right; decide +kernel)
    | (with_reducible refine State.amcTo_keeps ?_ (List.Subset.trans ?_ hl); rotate_right; decide +kernel)
    | (with_reducible refine State.parkTo_keeps ?_ (List.Subset.trans ?_ hl); rotate_right; decide +kernel)
    | (with_reducible refine State.setO_keeps ?_ ⟨_, inL hl ?_, O.amcFault_has _ ?_⟩; rotate_right; (first | exact Fin.isLt _ | omega | (simp only [List.mem_range] at *; omega)); rotate_right; decide +kernel)
    | (with_reducible refine State.guarded_keeps ?_ ?_ (List.Subset.trans ?_ hl); rotate_right; decide +kernel)
    | (with_reducible refine State.amcBrake_keeps ?_ (List.Subset.trans ?_ hl); rotate_right; decide +kernel)
    | (with_reducible refine State.modAmc_keeps ?_ (List.Subset.trans ?_ hl); rotate_right; decide +kernel)
    | (with_reducible refine State.when_keeps ?_ ?_ (List.Subset.trans ?_ hl); rotate_right; decide +kernel)
    | intro x
    | lift_lets
    | with_reducible refine KeepsP.mk ?_

theorem amcStopAll_keeps {l : List Part} {s : State} {a0 : State} {a1 : _} (h : Keeps l s a0)
    (hl : ([.evLast, .sent, .hosts, .disp, .later, .ctx, .amc, .hpn, .fam O.lpeStatus 64, .fam O.lpeTrState 4, .fam O.lpeTrCount 4, .fam O.amcState 6, .fam O.amcSpeed 6, .fam O.amcFlags 6, .fam O.amcFault 6, .one O.amcParkState] : List Part) ⊆ l) : Keeps l s (@State.amcStopAll a0 a1) := by
  unfold State.amcStopAll
  repeat' first
    | with_reducible assumption
    | with_reducible refine Keeps.ite ?_ ?_
    | (with_reducible refine State.amcRunDown_keeps ?_ (List.Subset.trans ?_ hl); rotate_right; decide +kernel)
    | (with_reducible refine State.modAmc_keeps ?_ (List.Subset.trans ?_ hl); rotate_right; decide +kernel)
    | with_reducible refine Keeps.foldl ?_ ?_
    | intro x

theorem parkWatch_keeps {l : List Part} {s : State} {a0 : State} (h : Keeps l s a0)
    (hl : ([.amc] : List Part) ⊆ l) : Keeps l s (@State.parkWatch a0) := by
  unfold State.parkWatch
  repeat' first
    | with_reducible assumption
    | with_reducible refine Keeps.ite ?_ ?_
    | (with_reducible refine State.modAmc_keeps ?_ (List.Subset.trans ?_ hl); rotate_right; decide +kernel)

theorem takeSpeed_keeps {l : List Part} {s : State} {a0 : State} {a1 : _} (h : Keeps l s a0)
    (hl : ([.trx, .amc, .fam O.trxSpeed 4] : List Part) ⊆ l) : Keeps l s (@State.takeSpeed a0 a1) := by
  unfold State.takeSpeed
  repeat' first
    | with_reducible assumption
    | (with_reducible refine State.modTrx_keeps ?_ (List.Subset.trans ?_ hl); rotate_right; decide +kernel)
    | (with_reducible refine State.setQ_keeps ?_ ⟨_, inL hl ?_, O.trxSpeed_has _ ?_⟩; rotate_right; (first | exact Fin.isLt _ | omega | (simp only [List.mem_range] at *; omega)); rotate_right; decide +kernel)
    | (with_reducible refine State.parkWatch_keeps ?_ (List.Subset.trans ?_ hl); rotate_right; decide +kernel)

theorem angleWatch_keeps {l : List Part} {s : State} {a0 : State} {a1 : _} (h : Keeps l s a0)
    (hl : ([.evLast, .sent, .hosts, .disp, .later, .links, .trx, .ctx, .ptg, .amc, .hpn, .one O.sysXingDropFlags, .fam O.trxState 4, .fam O.trxTorqueOut 4, .fam O.trxSpeed 4, .fam O.trxFlags 4, .fam O.trxFault 4, .fam O.trxAngleSrc 4, .fam O.lpeStatus 64, .fam O.lpeTrState 4, .fam O.lpeTrCount 4] : List Part) ⊆ l) : Keeps l s (@State.angleWatch a0 a1) := by
  unfold State.angleWatch
  repeat' first
    | with_reducible assumption
    | with_reducible refine Keeps.ite ?_ ?_
    | (with_reducible refine State.trxFail_keeps ?_ (List.Subset.trans ?_ hl); rotate_right; decide +kernel)
    | (with_reducible refine State.setO_keeps ?_ ⟨_, inL hl ?_, O.trxAngleSrc_has _ ?_⟩; rotate_right; (first | exact Fin.isLt _ | omega | (simp only [List.mem_range] at *; omega)); rotate_right; decide +kernel)
    | (with_reducible refine State.setO_keeps ?_ ⟨_, inL hl ?_, O.trxTorqueOut_has _ ?_⟩; rotate_right; (first | exact Fin.isLt _ | omega | (simp only [List.mem_range] at *; omega)); rotate_right; decide +kernel)
    | (with_reducible refine State.modTrx_keeps ?_ (List.Subset.trans ?_ hl); rotate_right; decide +kernel)
    | (with_reducible refine State.raise_keeps ?_ (List.Subset.trans ?_ hl); rotate_right; decide +kernel)
    | (with_reducible refine State.takeSpeed_keeps ?_ (List.Subset.trans ?_ hl); rotate_right; decide +kernel)
    | (with_reducible refine State.orO_keeps ?_ ⟨_, inL hl ?_, O.trxFlags_has _ ?_⟩; rotate_right; (first | exact Fin.isLt _ | omega | (simp only [List.mem_range] at *; omega)); rotate_right; decide +kernel)

theorem sendPg_keeps {l : List Part} {s : State} {a0 : State} {a1 : _} (h : Keeps l s a0)
    (hl : ([.disp, .net, .one O.sysLateFlags, .one O.netSessions, .one O.netCycSkipped] : List Part) ⊆ l) : Keeps l s (@State.sendPg a0 a1) := by
  unfold State.sendPg
  repeat' first
    | with_reducible assumption
    | with_reducible refine Keeps.ite ?_ ?_
    | (with_reducible refine State.txOutcome_keeps ?_ (List.Subset.trans ?_ hl); rotate_right; decide +kernel)
    | (with_reducible refine State.tpTake_keeps ?_ (List.Subset.trans ?_ hl); rotate_right; decide +kernel)
    | (with_reducible refine State.queueTx_keeps ?_ (List.Subset.trans ?_ hl); rotate_right; decide +kernel)
    | (with_reducible refine State.modNet_keeps ?_ (List.Subset.trans ?_ hl); rotate_right; decide +kernel)
    | split

theorem announce_keeps {l : List Part} {s : State} {a0 : State} {a1 : _} (h : Keeps l s a0)
    (hl : ([.disp, .net, .one O.sysLateFlags, .one O.netSessions, .one O.netCycSkipped] : List Part) ⊆ l) : Keeps l s (@State.announce a0 a1) := by
  unfold State.announce
  repeat' first
    | with_reducible assumption
    | (with_reducible refine State.sendPg_keeps ?_ (List.Subset.trans ?_ hl); rotate_right; decide +kernel)
    | (with_reducible refine State.modNet_keeps ?_ (List.Subset.trans ?_ hl); rotate_right; decide +kernel)

theorem announceDue_keeps {l : List Part} {s : State} {a0 : State} {a1 : _} (h : Keeps l s a0)
    (hl : ([.disp, .net, .one O.sysLateFlags, .one O.netSessions, .one O.netCycSkipped] : List Part) ⊆ l) : Keeps l s (@State.announceDue a0 a1) := by
  unfold State.announceDue
  repeat' first
    | with_reducible assumption
    | with_reducible refine Keeps.ite ?_ ?_
    | (with_reducible refine State.announce_keeps ?_ (List.Subset.trans ?_ hl); rotate_right; decide +kernel)

theorem pMod_keeps {l : List Part} {s : State} {a0 : State} {a1 : _} {a2 : _} (h : Keeps l s a0)
    (hl : ([.net] : List Part) ⊆ l) : Keeps l s (@State.pMod a0 a1 a2) := by
  unfold State.pMod
  repeat' first
    | with_reducible assumption
    | (with_reducible refine State.modNet_keeps ?_ (List.Subset.trans ?_ hl); rotate_right; decide +kernel)
    | split

theorem announceRx_keeps {l : List Part} {s : State} {a0 : State} {a1 : _} {a2 : _} (h : Keeps l s a0)
    (hl : ([.evLast, .sent, .hosts, .later, .hpn, .net, .one O.netFlags] : List Part) ⊆ l) : Keeps l s (@State.announceRx a0 a1 a2) := by
  unfold State.announceRx
  repeat' first
    | with_reducible assumption
    | with_reducible refine Keeps.ite ?_ ?_
    | (with_reducible refine State.raise_keeps ?_ (List.Subset.trans ?_ hl); rotate_right; decide +kernel)
    | (with_reducible refine State.pMod_keeps ?_ (List.Subset.trans ?_ hl); rotate_right; decide +kernel)
    | (with_reducible refine State.orO_keeps ?_ ⟨_, inL hl ?_, O.netFlags_has⟩; rotate_right; decide +kernel)
    | intro x
    | lift_lets
    | split

theorem sweepStep_keeps {l : List Part} {s : State} {a0 : State} (h : Keeps l s a0)
    (hl : ([.chg, .one O.chgVPvRef, .one O.chgVOc] : List Part) ⊆ l) : Keeps l s (@State.sweepStep a0) := by
  unfold State.sweepStep
  repeat' first
    | with_reducible assumption
    | with_reducible refine Keeps.ite ?_ ?_
    | (with_reducible refine State.modChg_keeps ?_ (List.Subset.trans ?_ hl); rotate_right; decide +kernel)
    | (with_reducible refine State.setQ_keeps ?_ ⟨_, inL hl ?_, O.chgVOc_has⟩; rotate_right; decide +kernel)
    | (with_reducible refine State.setQ_keeps ?_ ⟨_, inL hl ?_, O.chgVPvRef_has⟩; rotate_right; decide +kernel)

theorem arraySample_keeps {l : List Part} {s : State} {a0 : State} (h : Keeps l s a0)
    (hl : ([.evLast, .sent, .hosts, .disp, .later, .links, .ctx, .chg, .hpn, .fam O.lpeStatus 64, .fam O.lpeTrState 4, .fam O.lpeTrCount 4, .one O.chgState, .one O.chgInput, .one O.chgFlags, .one O.chgCause, .one O.chgIInLim, .one O.chgPIn, .one O.chgVPvRef, .one O.chgVOc] : List Part) ⊆ l) : Keeps l s (@State.arraySample a0) := by
  unfold State.arraySample
  repeat' first
    | with_reducible assumption
    | with_reducible refine Keeps.ite ?_ ?_
    | (with_reducible refine State.modChg_keeps ?_ (List.Subset.trans ?_ hl); rotate_right; decide +kernel)
    | (with_reducible refine State.when_keeps ?_ ?_ (List.Subset.trans ?_ hl); rotate_right; decide +kernel)
    | (with_reducible refine State.chgStopFor_keeps ?_ (List.Subset.trans ?_ hl); rotate_right; decide +kernel)
    | (with_reducible refine State.sweepStep_keeps ?_ (List.Subset.trans ?_ hl); rotate_right; decide +kernel)
    | intro x
    | lift_lets
    | split

theorem arrive_keeps {l : List Part} {s : State} {a0 : State} (h : Keeps l s a0)
    (hl : ([.ctx] : List Part) ⊆ l) : Keeps l s (@State.arrive a0) := by
  unfold State.arrive
  repeat' first
    | with_reducible assumption
    | lift_lets
    | (with_reducible refine Keeps.set_ctx ?_ (inL hl ?_); rotate_right; decide +kernel)

theorem modSec_keeps {l : List Part} {s : State} {a0 : State} {a1 : _} (h : Keeps l s a0)
    (hl : ([.sec] : List Part) ⊆ l) : Keeps l s (@State.modSec a0 a1) := by
  unfold State.modSec
  repeat' first
    | with_reducible assumption
    | (with_reducible refine Keeps.set_sec ?_ (inL hl ?_); rotate_right; decide +kernel)

theorem attestDone_keeps {l : List Part} {s : State} {a0 : State} (h : Keeps l s a0)
    (hl : ([.evLast, .sent, .hosts, .slots, .disp, .later, .hpn, .sec, .thm, .one O.secAttEpoch, .one O.secAttNext, .one O.logHead, .one O.logChain, .one O.logCount, .one O.logQueued] : List Part) ⊆ l) : Keeps l s (@State.attestDone a0) := by
  unfold State.attestDone
  repeat' first
    | with_reducible assumption
    | (intro x; have hx : Keeps l s x := ?_; clear_value x)
    | with_reducible refine Keeps.ite ?_ ?_
    | with_reducible refine Keeps.dite ?_ ?_
    | (with_reducible refine State.writeResponse_keeps ?_ (List.Subset.trans ?_ hl); rotate_right; decide +kernel)
    | (with_reducible refine State.modSec_keeps ?_ (List.Subset.trans ?_ hl); rotate_right; decide +kernel)
    | (with_reducible refine State.setO_keeps ?_ ⟨_, inL hl ?_, O.secAttNext_has⟩; rotate_right; decide +kernel)
    | (with_reducible refine State.endAll_keeps ?_ (List.Subset.trans ?_ hl); rotate_right; decide +kernel)
    | (with_reducible refine State.keyEvent_keeps ?_ (List.Subset.trans ?_ hl); rotate_right; decide +kernel)
    | (with_reducible refine State.attRenew_keeps ?_ (List.Subset.trans ?_ hl); rotate_right; decide +kernel)
    | (with_reducible refine State.when_keeps ?_ ?_ (List.Subset.trans ?_ hl); rotate_right; decide +kernel)
    | with_reducible refine Keeps.foldl ?_ ?_
    | intro x
    | lift_lets
    | split

theorem auditObj_keeps {l : List Part} {s : State} {a0 : State} {a1 : _} {a2 : _} {a3 : _} {a4 : _} {a5 : _} {a6 : _} (h : Keeps l s a0)
    (hl : ([.evLast, .sent, .hosts, .later, .hpn, .sec, .thm, .one O.logHead, .one O.logChain, .one O.logCount, .one O.logQueued] : List Part) ⊆ l) : Keeps l s (@State.auditObj a0 a1 a2 a3 a4 a5 a6) := by
  unfold State.auditObj
  repeat' first
    | with_reducible assumption
    | with_reducible refine Keeps.ite ?_ ?_
    | (with_reducible refine State.audit_keeps ?_ (List.Subset.trans ?_ hl); rotate_right; decide +kernel)

theorem auxPreset_keeps {l : List Part} {s : State} {a0 : State} {a1 : _} (h : Keeps l s a0)
    (hl : ([.ctx, .fam O.lpeOut 64, .fam O.lpeInteg 64, .fam O.lpeStatus 64] : List Part) ⊆ l) : Keeps l s (@State.auxPreset a0 a1) := by
  unfold State.auxPreset
  repeat' first
    | with_reducible assumption
    | (with_reducible refine State.ctxStart_keeps ?_ (List.Subset.trans ?_ hl); rotate_right; decide +kernel)
    | (with_reducible refine State.showOut_keeps ?_ (List.Subset.trans ?_ hl); rotate_right; decide +kernel)
    | (with_reducible refine State.modCtx_keeps ?_ (List.Subset.trans ?_ hl); rotate_right; decide +kernel)

theorem auxSoft_keeps {l : List Part} {s : State} {a0 : State} (h : Keeps l s a0)
    (hl : ([.evLast, .sent, .hosts, .later, .links, .ctx, .aux, .hpn, .fam O.lpeOut 64, .fam O.lpeInteg 64, .fam O.lpeStatus 64, .one O.auxState, .one O.auxFlags, .one O.auxVRef, .one O.auxPhaseState] : List Part) ⊆ l) : Keeps l s (@State.auxSoft a0) := by
  unfold State.auxSoft
  repeat' first
    | with_reducible assumption
    | (with_reducible refine State.auxTo_keeps ?_ (List.Subset.trans ?_ hl); rotate_right; decide +kernel)
    | (with_reducible refine State.auxPreset_keeps ?_ (List.Subset.trans ?_ hl); rotate_right; decide +kernel)
    | (with_reducible refine State.modAux_keeps ?_ (List.Subset.trans ?_ hl); rotate_right; decide +kernel)
    | (with_reducible refine State.setQ_keeps ?_ ⟨_, inL hl ?_, O.auxVRef_has⟩; rotate_right; decide +kernel)
    | (with_reducible refine State.putPh_keeps ?_ (List.Subset.trans ?_ hl); rotate_right; decide +kernel)
    | (with_reducible refine State.releaseLegs_keeps ?_ (List.Subset.trans ?_ hl); rotate_right; decide +kernel)
    | with_reducible refine Keeps.foldl ?_ ?_
    | intro x

theorem auxBegin_keeps {l : List Part} {s : State} {a0 : State} (h : Keeps l s a0)
    (hl : ([.evLast, .sent, .hosts, .later, .links, .ctx, .aux, .hpn, .fam O.lpeOut 64, .fam O.lpeInteg 64, .fam O.lpeStatus 64, .one O.auxState, .one O.auxFlags, .one O.auxVRef, .one O.auxPhaseState] : List Part) ⊆ l) : Keeps l s (@State.auxBegin a0) := by
  unfold State.auxBegin
  repeat' first
    | with_reducible assumption
    | with_reducible refine Keeps.ite ?_ ?_
    | (with_reducible refine State.setO_keeps ?_ ⟨_, inL hl ?_, O.auxPhaseState_has⟩; rotate_right; decide +kernel)
    | (with_reducible refine State.auxSoft_keeps ?_ (List.Subset.trans ?_ hl); rotate_right; decide +kernel)
    | (with_reducible refine State.modAux_keeps ?_ (List.Subset.trans ?_ hl); rotate_right; decide +kernel)
    | (with_reducible refine State.putPh_keeps ?_ (List.Subset.trans ?_ hl); rotate_right; decide +kernel)
    | with_reducible refine Keeps.foldl ?_ ?_
    | intro x

theorem autoRestart_keeps {l : List Part} {s : State} {a0 : State} (h : Keeps l s a0)
    (hl : ([.evLast, .sent, .hosts, .later, .links, .ctx, .aux, .hpn, .fam O.lpeOut 64, .fam O.lpeInteg 64, .fam O.lpeStatus 64, .one O.auxState, .one O.auxFlags, .one O.auxVRef, .one O.auxPhaseState] : List Part) ⊆ l) : Keeps l s (@State.autoRestart a0) := by
  unfold State.autoRestart
  repeat' first
    | with_reducible assumption
    | with_reducible refine Keeps.ite ?_ ?_
    | (with_reducible refine State.auxBegin_keeps ?_ (List.Subset.trans ?_ hl); rotate_right; decide +kernel)
    | split

theorem returnStart_keeps {l : List Part} {s : State} {a0 : State} {a1 : _} {a2 : _} (h : Keeps l s a0)
    (hl : ([.evLast, .sent, .hosts, .later, .trx, .hpn, .fam O.trxSsState 4] : List Part) ⊆ l) : Keeps l s (@State.returnStart a0 a1 a2) := by
  unfold State.returnStart
  repeat' first
    | with_reducible assumption
    | (with_reducible refine State.putSetSt_keeps ?_ (List.Subset.trans ?_ hl); rotate_right; decide +kernel)
    | (with_reducible refine State.modSet_keeps ?_ (List.Subset.trans ?_ hl); rotate_right; decide +kernel)
    | (with_reducible refine State.raise_keeps ?_ (List.Subset.trans ?_ hl); rotate_right; decide +kernel)

theorem autoReturn_keeps {l : List Part} {s : State} {a0 : State} {a1 : _} {a2 : _} (h : Keeps l s a0)
    (hl : ([.evLast, .sent, .hosts, .later, .trx, .hpn, .fam O.trxSsState 4] : List Part) ⊆ l) : Keeps l s (@State.autoReturn a0 a1 a2) := by
  unfold State.autoReturn
  repeat' first
    | with_reducible assumption
    | with_reducible refine Keeps.ite ?_ ?_
    | (with_reducible refine State.returnStart_keeps ?_ (List.Subset.trans ?_ hl); rotate_right; decide +kernel)
    | intro x
    | lift_lets
    | split

theorem auxRun_keeps {l : List Part} {s : State} {a0 : State} (h : Keeps l s a0)
    (hl : ([.evLast, .sent, .hosts, .disp, .later, .aux, .hpn, .one O.auxState, .one O.auxFlags] : List Part) ⊆ l) : Keeps l s (@State.auxRun a0) := by
  unfold State.auxRun
  repeat' first
    | with_reducible assumption
    | (with_reducible refine State.auxTo_keeps ?_ (List.Subset.trans ?_ hl); rotate_right; decide +kernel)
    | (with_reducible refine State.endAll_keeps ?_ (List.Subset.trans ?_ hl); rotate_right; decide +kernel)
    | (with_reducible refine State.modAux_keeps ?_ (List.Subset.trans ?_ hl); rotate_right; decide +kernel)
    | (with_reducible refine State.when_keeps ?_ ?_ (List.Subset.trans ?_ hl); rotate_right; decide +kernel)
    | intro x

theorem auxBurstLeave_keeps {l : List Part} {s : State} {a0 : State} (h : Keeps l s a0)
    (hl : ([.evLast, .sent, .hosts, .disp, .later, .ctx, .aux, .hpn, .fam O.lpeOut 64, .fam O.lpeInteg 64, .fam O.lpeStatus 64, .one O.auxState, .one O.auxFlags] : List Part) ⊆ l) : Keeps l s (@State.auxBurstLeave a0) := by
  unfold State.auxBurstLeave
  repeat' first
    | with_reducible assumption
    | (with_reducible refine State.auxRun_keeps ?_ (List.Subset.trans ?_ hl); rotate_right; decide +kernel)
    | (with_reducible refine State.auxPreset_keeps ?_ (List.Subset.trans ?_ hl); rotate_right; decide +kernel)

theorem auxClear_keeps {l : List Part} {s : State} {a0 : _} {a1 : State} (h : Keeps l s a1)
    (hl : ([.evLast, .sent, .hosts, .later, .aux, .hpn, .one O.auxState, .one O.auxFlags, .one O.auxRestarts] : List Part) ⊆ l) : KeepsP l s (@State.auxClear a0 a1) := by
  unfold State.auxClear
  repeat' first
    | with_reducible assumption
    | (with_reducible refine State.auxTo_keeps ?_ (List.Subset.trans ?_ hl); rotate_right; decide +kernel)
    | (with_reducible refine State.setO_keeps ?_ ⟨_, inL hl ?_, O.auxRestarts_has⟩; rotate_right; decide +kernel)
    | (with_reducible refine State.guarded_keeps ?_ ?_ (List.Subset.trans ?_ hl); rotate_right; decide +kernel)
    | intro x
    | with_reducible refine KeepsP.mk ?_

theorem auxCredit_keeps {l : List Part} {s : State} {a0 : State} {a1 : _} {a2 : State} (h : Keeps l s a0)
    (hl : ([.ctx] : List Part) ⊆ l) : Keeps l s (@State.auxCredit a0 a1 a2) := by
  unfold State.auxCredit
  exact Keeps.ite h (modCtx_keeps h (List.Subset.trans (by decide +kernel) hl))

theorem commitEdges_keeps {l : List Part} {s : State} {a0 : State} {a1 : _} {a2 : _} (h : Keeps l s a0)
    (hl : ([.sent, .links] : List Part) ⊆ l) : Keeps l s (@State.commitEdges a0 a1 a2) := by
  unfold State.commitEdges
  repeat' first
    | with_reducible assumption
    | (with_reducible refine State.modLink_keeps ?_ (List.Subset.trans ?_ hl); rotate_right; decide +kernel)
    | (with_reducible refine State.send_keeps ?_ (List.Subset.trans ?_ hl); rotate_right; decide +kernel)
    | with_reducible refine Keeps.foldl ?_ ?_
    | intro x

theorem edgesAt_keeps {l : List Part} {s : State} {a0 : State} {a1 : _} {a2 : _} {a3 : _} (h : Keeps l s a0)
    (hl : ([.sent, .links] : List Part) ⊆ l) : Keeps l s (@State.edgesAt a0 a1 a2 a3) := by
  unfold State.edgesAt
  repeat' first
    | with_reducible assumption
    | (with_reducible refine State.commitEdges_keeps ?_ (List.Subset.trans ?_ hl); rotate_right; decide +kernel)
    | intro x
    | lift_lets
    | split

theorem pruneEdges_keeps {l : List Part} {s : State} {a0 : State} {a1 : _} (h : Keeps l s a0)
    (hl : ([.links] : List Part) ⊆ l) : Keeps l s (@State.pruneEdges a0 a1) := by
  unfold State.pruneEdges
  repeat' first
    | with_reducible assumption
    | (with_reducible refine State.modLink_keeps ?_ (List.Subset.trans ?_ hl); rotate_right; decide +kernel)

theorem edgesNow_keeps {l : List Part} {s : State} {a0 : State} {a1 : _} {a2 : _} (h : Keeps l s a0)
    (hl : ([.sent, .links] : List Part) ⊆ l) : KeepsP l s (@State.edgesNow a0 a1 a2) := by
  unfold State.edgesNow
  repeat' first
    | with_reducible assumption
    | (intro x; have hx : Keeps l s x := ?_; clear_value x)
    | (with_reducible refine State.edgesAt_keeps ?_ (List.Subset.trans ?_ hl); rotate_right; decide +kernel)
    | (with_reducible refine State.pruneEdges_keeps ?_ (List.Subset.trans ?_ hl); rotate_right; decide +kernel)
    | lift_lets
    | with_reducible refine KeepsP.mk ?_

theorem auxCutShort_keeps {l : List Part} {s : State} {a0 : State} {a1 : _} {a2 : _} (h : Keeps l s a0)
    (hl : ([.sent, .links] : List Part) ⊆ l) : Keeps l s (@State.auxCutShort a0 a1 a2) := by
  unfold State.auxCutShort
  repeat' first
    | with_reducible assumption
    | with_reducible refine Keeps.ite ?_ ?_
    | (with_reducible refine KeepsP.fst (State.edgesNow_keeps ?_ (List.Subset.trans ?_ hl)); rotate_right; decide +kernel)

theorem auxTrimJoin_keeps {l : List Part} {s : State} {a0 : State} {a1 : _} (h : Keeps l s a0)
    (hl : ([.ctx, .fam O.lpeStatus 64] : List Part) ⊆ l) : Keeps l s (@State.auxTrimJoin a0 a1) := by
  unfold State.auxTrimJoin
  repeat' first
    | with_reducible assumption
    | (with_reducible refine State.ctxStart_keeps ?_ (List.Subset.trans ?_ hl); rotate_right; decide +kernel)
    | (with_reducible refine State.when_keeps ?_ ?_ (List.Subset.trans ?_ hl); rotate_right; decide +kernel)
    | intro x

theorem auxJoin_keeps {l : List Part} {s : State} {a0 : State} {a1 : _} (h : Keeps l s a0)
    (hl : ([.sent, .links, .ctx, .aux, .fam O.lpeStatus 64, .one O.auxPhaseState] : List Part) ⊆ l) : Keeps l s (@State.auxJoin a0 a1) := by
  unfold State.auxJoin
  repeat' first
    | with_reducible assumption
    | with_reducible refine Keeps.ite ?_ ?_
    | (with_reducible refine KeepsP.fst (State.edgesNow_keeps ?_ (List.Subset.trans ?_ hl)); rotate_right; decide +kernel)
    | (with_reducible refine State.modAux_keeps ?_ (List.Subset.trans ?_ hl); rotate_right; decide +kernel)
    | (with_reducible refine State.putPh_keeps ?_ (List.Subset.trans ?_ hl); rotate_right; decide +kernel)
    | (with_reducible refine State.auxTrimJoin_keeps ?_ (List.Subset.trans ?_ hl); rotate_right; decide +kernel)

theorem replay_keeps {l : List Part} {s : State} {a0 : State} {a1 : _} {a2 : _} {a3 : _} (h : Keeps l s a0)
    (hl : ([.sent, .links] : List Part) ⊆ l) : Keeps l s (@State.replay a0 a1 a2 a3) := by
  induction a3 with
  | nil => exact h
  | cons e t ih =>
    unfold State.replay
    refine Keeps.ite ih ?_
    split
    · exact commitEdges_keeps h (List.Subset.trans (by decide +kernel) hl)
    · exact ih

theorem auxFirePhase_keeps {l : List Part} {s : State} {a0 : State} {a1 : _} (h : Keeps l s a0)
    (hl : ([.sent, .links, .ctx, .aux, .fam O.lpeStatus 64, .one O.auxPhaseState] : List Part) ⊆ l) : Keeps l s (@State.auxFirePhase a0 a1) := by
  unfold State.auxFirePhase
  lift_lets
  intro k s1 len on tail seq base s2
  have h1 : Keeps l s s1 := pruneEdges_keeps (cancelEdges_keeps (auxTrimJoin_keeps h (List.Subset.trans (by decide +kernel) hl)) (List.Subset.trans (by decide +kernel) hl)) (List.Subset.trans (by decide +kernel) hl)
  clear_value s1
  have h2 : Keeps l s s2 := replay_keeps (edgesAt_keeps h1 (List.Subset.trans (by decide +kernel) hl)) (List.Subset.trans (by decide +kernel) hl)
  clear_value s2
  exact modAux_keeps (putPh_keeps (auxCredit_keeps h2 (List.Subset.trans (by decide +kernel) hl)) (List.Subset.trans (by decide +kernel) hl)) (List.Subset.trans (by decide +kernel) hl)

theorem auxFire_keeps {l : List Part} {s : State} {a0 : State} (h : Keeps l s a0)
    (hl : ([.evLast, .sent, .hosts, .disp, .later, .links, .ctx, .aux, .hpn, .fam O.lpeOut 64, .fam O.lpeInteg 64, .fam O.lpeStatus 64, .one O.auxState, .one O.auxFlags, .one O.auxPhaseState] : List Part) ⊆ l) : Keeps l s (@State.auxFire a0) := by
  unfold State.auxFire
  repeat' first
    | with_reducible assumption
    | with_reducible refine Keeps.ite ?_ ?_
    | (with_reducible refine State.auxJoin_keeps ?_ (List.Subset.trans ?_ hl); rotate_right; decide +kernel)
    | (with_reducible refine State.raise_keeps ?_ (List.Subset.trans ?_ hl); rotate_right; decide +kernel)
    | (with_reducible refine State.auxFirePhase_keeps ?_ (List.Subset.trans ?_ hl); rotate_right; decide +kernel)
    | (with_reducible refine State.modAux_keeps ?_ (List.Subset.trans ?_ hl); rotate_right; decide +kernel)
    | (with_reducible refine State.auxBurstLeave_keeps ?_ (List.Subset.trans ?_ hl); rotate_right; decide +kernel)
    | (with_reducible refine State.putPh_keeps ?_ (List.Subset.trans ?_ hl); rotate_right; decide +kernel)
    | (with_reducible refine State.auxTrimJoin_keeps ?_ (List.Subset.trans ?_ hl); rotate_right; decide +kernel)
    | (with_reducible refine State.when_keeps ?_ ?_ (List.Subset.trans ?_ hl); rotate_right; decide +kernel)
    | (with_reducible refine State.auxShedEvent_keeps ?_ (List.Subset.trans ?_ hl); rotate_right; decide +kernel)
    | (with_reducible refine State.orO_keeps ?_ ⟨_, inL hl ?_, O.auxFlags_has⟩; rotate_right; decide +kernel)
    | with_reducible refine Keeps.foldl ?_ ?_
    | intro x

theorem auxGiveBack_keeps {l : List Part} {s : State} {a0 : State} {a1 : _} (h : Keeps l s a0)
    (hl : ([.sent, .links, .ctx, .aux] : List Part) ⊆ l) : Keeps l s (@State.auxGiveBack a0 a1) := by
  unfold State.auxGiveBack
  repeat' first
    | with_reducible assumption
    | (with_reducible refine State.replay_keeps ?_ (List.Subset.trans ?_ hl); rotate_right; decide +kernel)
    | (with_reducible refine State.auxCredit_keeps ?_ (List.Subset.trans ?_ hl); rotate_right; decide +kernel)
    | (with_reducible refine State.modAux_keeps ?_ (List.Subset.trans ?_ hl); rotate_right; decide +kernel)
    | (with_reducible refine State.pruneEdges_keeps ?_ (List.Subset.trans ?_ hl); rotate_right; decide +kernel)

theorem auxHiccup_keeps {l : List Part} {s : State} {a0 : State} {a1 : _} (h : Keeps l s a0)
    (hl : ([.evLast, .sent, .hosts, .disp, .later, .links, .ctx, .aux, .hpn, .fam O.lpeStatus 64, .fam O.lpeTrState 4, .fam O.lpeTrCount 4, .one O.auxState, .one O.auxFlags, .one O.auxCause, .one O.auxPhaseState, .one O.auxRestarts] : List Part) ⊆ l) : Keeps l s (@State.auxHiccup a0 a1) := by
  unfold State.auxHiccup
  repeat' first
    | with_reducible assumption
    | with_reducible refine Keeps.ite ?_ ?_
    | (with_reducible refine State.auxTo_keeps ?_ (List.Subset.trans ?_ hl); rotate_right; decide +kernel)
    | (with_reducible refine State.auxEnd_keeps ?_ (List.Subset.trans ?_ hl); rotate_right; decide +kernel)
    | (with_reducible refine State.auxLegsOff_keeps ?_ (List.Subset.trans ?_ hl); rotate_right; decide +kernel)
    | (with_reducible refine State.setO_keeps ?_ ⟨_, inL hl ?_, O.auxCause_has⟩; rotate_right; decide +kernel)
    | (with_reducible refine State.setO_keeps ?_ ⟨_, inL hl ?_, O.auxRestarts_has⟩; rotate_right; decide +kernel)
    | (with_reducible refine State.putPh_keeps ?_ (List.Subset.trans ?_ hl); rotate_right; decide +kernel)
    | (with_reducible refine State.orO_keeps ?_ ⟨_, inL hl ?_, O.auxFlags_has⟩; rotate_right; decide +kernel)
    | with_reducible refine Keeps.foldl ?_ ?_
    | intro x

theorem auxKeepBack_keeps {l : List Part} {s : State} {a0 : State} {a1 : _} (h : Keeps l s a0)
    (hl : ([.sent, .links, .ctx, .aux] : List Part) ⊆ l) : Keeps l s (@State.auxKeepBack a0 a1) := by
  unfold State.auxKeepBack
  repeat' first
    | with_reducible assumption
    | (with_reducible refine State.auxCredit_keeps ?_ (List.Subset.trans ?_ hl); rotate_right; decide +kernel)
    | (with_reducible refine State.cancelEdges_keeps ?_ (List.Subset.trans ?_ hl); rotate_right; decide +kernel)
    | (with_reducible refine State.auxCutShort_keeps ?_ (List.Subset.trans ?_ hl); rotate_right; decide +kernel)
    | (with_reducible refine State.modAux_keeps ?_ (List.Subset.trans ?_ hl); rotate_right; decide +kernel)

theorem auxLate_keeps {l : List Part} {s : State} {a0 : State} (h : Keeps l s a0)
    (hl : ([.evLast, .sent, .hosts, .disp, .later, .links, .ctx, .aux, .hpn, .fam O.lpeStatus 64, .fam O.lpeTrState 4, .fam O.lpeTrCount 4, .one O.auxState, .one O.auxFlags, .one O.auxCause, .one O.auxPhaseState, .one O.auxRestarts] : List Part) ⊆ l) : Keeps l s (@State.auxLate a0) := by
  unfold State.auxLate
  repeat' first
    | with_reducible assumption
    | with_reducible refine Keeps.ite ?_ ?_
    | (with_reducible refine State.auxHiccup_keeps ?_ (List.Subset.trans ?_ hl); rotate_right; decide +kernel)

theorem auxLinkVolt_keeps {l : List Part} {s : State} {a0 : State} (h : Keeps l s a0)
    (hl : ([.aux] : List Part) ⊆ l) : Keeps l s (@State.auxLinkVolt a0) := by
  unfold State.auxLinkVolt
  repeat' first
    | with_reducible assumption
    | (with_reducible refine State.modAux_keeps ?_ (List.Subset.trans ?_ hl); rotate_right; decide +kernel)

theorem auxPhaseOff_keeps {l : List Part} {s : State} {a0 : State} {a1 : _} (h : Keeps l s a0)
    (hl : ([.sent, .links, .aux] : List Part) ⊆ l) : Keeps l s (@State.auxPhaseOff a0 a1) := by
  unfold State.auxPhaseOff
  repeat' first
    | with_reducible assumption
    | (with_reducible refine KeepsP.fst (State.edgesNow_keeps ?_ (List.Subset.trans ?_ hl)); rotate_right; decide +kernel)
    | (with_reducible refine State.cancelEdges_keeps ?_ (List.Subset.trans ?_ hl); rotate_right; decide +kernel)
    | (with_reducible refine State.modAux_keeps ?_ (List.Subset.trans ?_ hl); rotate_right; decide +kernel)

theorem auxPackets_keeps {l : List Part} {s : State} {a0 : State} (h : Keeps l s a0)
    (hl : ([.evLast, .sent, .hosts, .disp, .later, .links, .ctx, .aux, .hpn, .thm, .fam O.lpeOut 64, .fam O.lpeInteg 64, .fam O.lpeStatus 64, .one O.auxState, .one O.auxFlags] : List Part) ⊆ l) : Keeps l s (@State.auxPackets a0) := by
  unfold State.auxPackets
  repeat' first
    | with_reducible assumption
    | with_reducible refine Keeps.ite ?_ ?_
    | (with_reducible refine State.pauseFrom_keeps ?_ (List.Subset.trans ?_ hl); rotate_right; decide +kernel)
    | (with_reducible refine State.modAux_keeps ?_ (List.Subset.trans ?_ hl); rotate_right; decide +kernel)
    | (with_reducible refine State.auxBurstLeave_keeps ?_ (List.Subset.trans ?_ hl); rotate_right; decide +kernel)
    | (with_reducible refine State.auxPhaseOff_keeps ?_ (List.Subset.trans ?_ hl); rotate_right; decide +kernel)
    | with_reducible refine Keeps.foldl ?_ ?_
    | intro x

theorem auxMeasure_keeps {l : List Part} {s : State} {a0 : State} {a1 : _} (h : Keeps l s a0)
    (hl : ([.evLast, .sent, .hosts, .disp, .later, .links, .ctx, .aux, .hpn, .thm, .fam O.lpeOut 64, .fam O.lpeInteg 64, .fam O.lpeStatus 64, .one O.auxState, .one O.auxFlags, .one O.auxVOut, .one O.auxIOut, .one O.auxPOut] : List Part) ⊆ l) : Keeps l s (@State.auxMeasure a0 a1) := by
  unfold State.auxMeasure
  repeat' first
    | with_reducible assumption
    | with_reducible refine Keeps.ite ?_ ?_
    | (with_reducible refine State.auxPackets_keeps ?_ (List.Subset.trans ?_ hl); rotate_right; decide +kernel)
    | (with_reducible refine State.modAux_keeps ?_ (List.Subset.trans ?_ hl); rotate_right; decide +kernel)
    | (with_reducible refine State.setQ_keeps ?_ ⟨_, inL hl ?_, O.auxIOut_has⟩; rotate_right; decide +kernel)
    | (with_reducible refine State.setQ_keeps ?_ ⟨_, inL hl ?_, O.auxPOut_has⟩; rotate_right; decide +kernel)
    | (with_reducible refine State.setQ_keeps ?_ ⟨_, inL hl ?_, O.auxVOut_has⟩; rotate_right; decide +kernel)

theorem auxShedDone_keeps {l : List Part} {s : State} {a0 : State} {a1 : _} (h : Keeps l s a0)
    (hl : ([.evLast, .sent, .hosts, .later, .links, .aux, .hpn, .one O.auxPhaseState] : List Part) ⊆ l) : Keeps l s (@State.auxShedDone a0 a1) := by
  unfold State.auxShedDone
  repeat' first
    | with_reducible assumption
    | (with_reducible refine State.modAux_keeps ?_ (List.Subset.trans ?_ hl); rotate_right; decide +kernel)
    | (with_reducible refine State.putPh_keeps ?_ (List.Subset.trans ?_ hl); rotate_right; decide +kernel)
    | (with_reducible refine State.auxPhaseOff_keeps ?_ (List.Subset.trans ?_ hl); rotate_right; decide +kernel)
    | (with_reducible refine State.auxShedEvent_keeps ?_ (List.Subset.trans ?_ hl); rotate_right; decide +kernel)

theorem auxPeriod_keeps {l : List Part} {s : State} {a0 : State} {a1 : _} (h : Keeps l s a0)
    (hl : ([.evLast, .sent, .hosts, .later, .links, .aux, .hpn, .one O.auxPhaseState] : List Part) ⊆ l) : Keeps l s (@State.auxPeriod a0 a1) := by
  unfold State.auxPeriod
  repeat' first
    | with_reducible assumption
    | with_reducible refine Keeps.ite ?_ ?_
    | (with_reducible refine State.modAux_keeps ?_ (List.Subset.trans ?_ hl); rotate_right; decide +kernel)
    | (with_reducible refine State.putPh_keeps ?_ (List.Subset.trans ?_ hl); rotate_right; decide +kernel)
    | (with_reducible refine State.auxShedDone_keeps ?_ (List.Subset.trans ?_ hl); rotate_right; decide +kernel)
    | with_reducible refine Keeps.foldl ?_ ?_
    | intro x
    | lift_lets
    | split

theorem auxRef_keeps {l : List Part} {s : State} {a0 : State} (h : Keeps l s a0)
    (hl : ([.evLast, .sent, .hosts, .disp, .later, .aux, .hpn, .one O.auxState, .one O.auxFlags, .one O.auxVRef] : List Part) ⊆ l) : Keeps l s (@State.auxRef a0) := by
  unfold State.auxRef
  repeat' first
    | with_reducible assumption
    | with_reducible refine Keeps.ite ?_ ?_
    | (with_reducible refine State.auxRun_keeps ?_ (List.Subset.trans ?_ hl); rotate_right; decide +kernel)
    | (with_reducible refine State.modAux_keeps ?_ (List.Subset.trans ?_ hl); rotate_right; decide +kernel)
    | (with_reducible refine State.setQ_keeps ?_ ⟨_, inL hl ?_, O.auxVRef_has⟩; rotate_right; decide +kernel)

theorem auxWindow_keeps {l : List Part} {s : State} {a0 : State} (h : Keeps l s a0)
    (hl : ([.aux] : List Part) ⊆ l) : Keeps l s (@State.auxWindow a0) := by
  unfold State.auxWindow
  repeat' first
    | with_reducible assumption
    | (with_reducible refine State.modAux_keeps ?_ (List.Subset.trans ?_ hl); rotate_right; decide +kernel)

theorem auxSample_keeps {l : List Part} {s : State} {a0 : State} (h : Keeps l s a0)
    (hl : ([.evLast, .sent, .hosts, .disp, .later, .links, .ctx, .aux, .hpn, .fam O.lpeStatus 64, .one O.auxState, .one O.auxFlags, .one O.auxVRef, .one O.auxPhaseState] : List Part) ⊆ l) : Keeps l s (@State.auxSample a0) := by
  unfold State.auxSample
  repeat' first
    | with_reducible assumption
    | with_reducible refine Keeps.ite ?_ ?_
    | (with_reducible refine State.auxWindow_keeps ?_ (List.Subset.trans ?_ hl); rotate_right; decide +kernel)
    | (with_reducible refine State.auxJoin_keeps ?_ (List.Subset.trans ?_ hl); rotate_right; decide +kernel)
    | (with_reducible refine State.auxRef_keeps ?_ (List.Subset.trans ?_ hl); rotate_right; decide +kernel)
    | (with_reducible refine State.modAux_keeps ?_ (List.Subset.trans ?_ hl); rotate_right; decide +kernel)
    | (with_reducible refine State.auxShedEvent_keeps ?_ (List.Subset.trans ?_ hl); rotate_right; decide +kernel)
    | intro x
    | lift_lets
    | split

theorem auxStart_keeps {l : List Part} {s : State} {a0 : _} {a1 : State} (h : Keeps l s a1)
    (hl : ([.evLast, .sent, .hosts, .disp, .later, .links, .ctx, .aux, .hpn, .fam O.lpeOut 64, .fam O.lpeInteg 64, .fam O.lpeStatus 64, .one O.auxState, .one O.auxFlags, .one O.auxVRef, .one O.auxPhaseState] : List Part) ⊆ l) : KeepsP l s (@State.auxStart a0 a1) := by
  unfold State.auxStart
  repeat' first
    | with_reducible assumption
    | (with_reducible refine State.auxBegin_keeps ?_ (List.Subset.trans ?_ hl); rotate_right; decide +kernel)
    | (with_reducible refine State.guarded_keeps ?_ ?_ (List.Subset.trans ?_ hl); rotate_right; decide +kernel)
    | (with_reducible refine State.hold_keeps ?_ (List.Subset.trans ?_ hl); rotate_right; decide +kernel)
    | intro x
    | with_reducible refine KeepsP.mk ?_

theorem auxStop_keeps {l : List Part} {s : State} {a0 : _} {a1 : State} (h : Keeps l s a1)
    (hl : ([.evLast, .sent, .hosts, .disp, .later, .links, .ctx, .aux, .hpn, .fam O.lpeStatus 64, .fam O.lpeTrState 4, .fam O.lpeTrCount 4, .one O.auxState, .one O.auxFlags, .one O.auxCause, .one O.auxPhaseState] : List Part) ⊆ l) : KeepsP l s (@State.auxStop a0 a1) := by
  unfold State.auxStop
  repeat' first
    | with_reducible assumption
    | with_reducible refine Keeps.ite ?_ ?_
    | (with_reducible refine State.auxEnd_keeps ?_ (List.Subset.trans ?_ hl); rotate_right; decide +kernel)
    | (with_reducible refine State.setO_keeps ?_ ⟨_, inL hl ?_, O.auxCause_has⟩; rotate_right; decide +kernel)
    | (with_reducible refine State.guarded_keeps ?_ ?_ (List.Subset.trans ?_ hl); rotate_right; decide +kernel)
    | intro x
    | with_reducible refine KeepsP.mk ?_

theorem auxSyncLost_keeps {l : List Part} {s : State} {a0 : State} (h : Keeps l s a0)
    (hl : ([.evLast, .sent, .hosts, .later, .aux, .hpn, .one O.auxFlags, .one O.auxSyncFreq] : List Part) ⊆ l) : Keeps l s (@State.auxSyncLost a0) := by
  unfold State.auxSyncLost
  repeat' first
    | with_reducible assumption
    | with_reducible refine Keeps.ite ?_ ?_
    | (with_reducible refine State.setO_keeps ?_ ⟨_, inL hl ?_, O.auxSyncFreq_has⟩; rotate_right; decide +kernel)
    | (with_reducible refine State.raise_keeps ?_ (List.Subset.trans ?_ hl); rotate_right; decide +kernel)
    | (with_reducible refine State.modAux_keeps ?_ (List.Subset.trans ?_ hl); rotate_right; decide +kernel)
    | (with_reducible refine State.clrO_keeps ?_ ⟨_, inL hl ?_, O.auxFlags_has⟩; rotate_right; decide +kernel)
    | (with_reducible refine State.orO_keeps ?_ ⟨_, inL hl ?_, O.auxFlags_has⟩; rotate_right; decide +kernel)

theorem auxTruncate_keeps {l : List Part} {s : State} {a0 : State} {a1 : _} (h : Keeps l s a0)
    (hl : ([.sent, .links, .ctx] : List Part) ⊆ l) : Keeps l s (@State.auxTruncate a0 a1) := by
  unfold State.auxTruncate
  repeat' first
    | with_reducible assumption
    | (with_reducible refine State.replay_keeps ?_ (List.Subset.trans ?_ hl); rotate_right; decide +kernel)
    | (with_reducible refine State.auxCredit_keeps ?_ (List.Subset.trans ?_ hl); rotate_right; decide +kernel)
    | (with_reducible refine State.cancelEdges_keeps ?_ (List.Subset.trans ?_ hl); rotate_right; decide +kernel)
    | (with_reducible refine State.auxCutShort_keeps ?_ (List.Subset.trans ?_ hl); rotate_right; decide +kernel)

theorem crossHeard_keeps {l : List Part} {s : State} {a0 : State} {a1 : _} {a2 : _} {a3 : _} (h : Keeps l s a0)
    (hl : ([.evLast, .sent, .hosts, .disp, .later, .ctx, .amc, .hpn, .thm, .fam O.lpeOut 64, .fam O.lpeInteg 64, .fam O.lpeStatus 64, .fam O.lpeTrState 4, .fam O.lpeTrCount 4, .fam O.amcState 6, .fam O.amcSpeed 6, .fam O.amcPosition 6, .fam O.amcFlags 6, .fam O.amcFault 6, .one O.amcParkState] : List Part) ⊆ l) : Keeps l s (@State.crossHeard a0 a1 a2 a3) := by
  unfold State.crossHeard
  repeat' first
    | with_reducible assumption
    | with_reducible refine Keeps.ite ?_ ?_
    | (with_reducible refine State.amcHeard_keeps ?_ (List.Subset.trans ?_ hl); rotate_right; decide +kernel)
    | (with_reducible refine State.modAmc_keeps ?_ (List.Subset.trans ?_ hl); rotate_right; decide +kernel)
    | split

theorem bemf_keeps {l : List Part} {s : State} {a0 : State} {a1 : _} {a2 : _} {a3 : _} (h : Keeps l s a0)
    (hl : ([.evLast, .sent, .hosts, .disp, .later, .ctx, .amc, .hpn, .thm, .fam O.lpeOut 64, .fam O.lpeInteg 64, .fam O.lpeStatus 64, .fam O.lpeTrState 4, .fam O.lpeTrCount 4, .fam O.amcState 6, .fam O.amcSpeed 6, .fam O.amcPosition 6, .fam O.amcFlags 6, .fam O.amcFault 6, .one O.amcParkState] : List Part) ⊆ l) : Keeps l s (@State.bemf a0 a1 a2 a3) := by
  unfold State.bemf
  repeat' first
    | with_reducible assumption
    | with_reducible refine Keeps.ite ?_ ?_
    | (with_reducible refine State.amcRun_keeps ?_ (List.Subset.trans ?_ hl); rotate_right; decide +kernel)
    | (with_reducible refine State.crossHeard_keeps ?_ (List.Subset.trans ?_ hl); rotate_right; decide +kernel)
    | (with_reducible refine State.modAmc_keeps ?_ (List.Subset.trans ?_ hl); rotate_right; decide +kernel)

theorem putTable_keeps {l : List Part} {s : State} {a0 : State} {a1 : _} (h : Keeps l s a0)
    (hl : ([.net, .one O.netPartners, .one O.netEntries] : List Part) ⊆ l) : Keeps l s (@State.putTable a0 a1) := by
  unfold State.putTable
  repeat' first
    | with_reducible assumption
    | (with_reducible refine State.setO_keeps ?_ ⟨_, inL hl ?_, O.netEntries_has⟩; rotate_right; decide +kernel)
    | (with_reducible refine State.setO_keeps ?_ ⟨_, inL hl ?_, O.netPartners_has⟩; rotate_right; decide +kernel)
    | (with_reducible refine State.modNet_keeps ?_ (List.Subset.trans ?_ hl); rotate_right; decide +kernel)

theorem pPut_keeps {l : List Part} {s : State} {a0 : State} {a1 : _} {a2 : _} (h : Keeps l s a0)
    (hl : ([.net, .one O.netPartners, .one O.netEntries] : List Part) ⊆ l) : Keeps l s (@State.pPut a0 a1 a2) := by
  unfold State.pPut
  repeat' first
    | with_reducible assumption
    | (with_reducible refine State.putTable_keeps ?_ (List.Subset.trans ?_ hl); rotate_right; decide +kernel)

theorem newEntry_keeps {l : List Part} {s : State} {a0 : State} {a1 : _} (h : Keeps l s a0)
    (hl : ([.net, .one O.netPartners, .one O.netEntries] : List Part) ⊆ l) : KeepsP l s (@State.newEntry a0 a1) := by
  unfold State.newEntry
  repeat' first
    | with_reducible assumption
    | (with_reducible refine State.pPut_keeps ?_ (List.Subset.trans ?_ hl); rotate_right; decide +kernel)
    | intro x
    | lift_lets
    | with_reducible refine KeepsP.mk ?_

theorem netEvent_keeps {l : List Part} {s : State} {a0 : State} {a1 : _} {a2 : _} {a3 : _} (h : Keeps l s a0)
    (hl : ([.evLast, .sent, .hosts, .later, .hpn] : List Part) ⊆ l) : Keeps l s (@State.netEvent a0 a1 a2 a3) := by
  unfold State.netEvent
  repeat' first
    | with_reducible assumption
    | (with_reducible refine State.raise_keeps ?_ (List.Subset.trans ?_ hl); rotate_right; decide +kernel)

theorem partnerDrop_keeps {l : List Part} {s : State} {a0 : State} {a1 : _} (h : Keeps l s a0)
    (hl : ([.net, .one O.netPartners, .one O.netEntries] : List Part) ⊆ l) : Keeps l s (@State.partnerDrop a0 a1) := by
  unfold State.partnerDrop
  repeat' first
    | with_reducible assumption
    | (with_reducible refine State.putTable_keeps ?_ (List.Subset.trans ?_ hl); rotate_right; decide +kernel)

theorem makeRoom_keeps {l : List Part} {s : State} {a0 : State} {a1 : _} (h : Keeps l s a0)
    (hl : ([.evLast, .sent, .hosts, .later, .hpn, .net, .one O.netFlags, .one O.netPartners, .one O.netEntries] : List Part) ⊆ l) : KeepsP l s (@State.makeRoom a0 a1) := by
  unfold State.makeRoom
  repeat' first
    | with_reducible assumption
    | (intro x; have hx : Keeps l s x := ?_; clear_value x)
    | with_reducible refine KeepsP.ite ?_ ?_
    | (with_reducible refine State.netEvent_keeps ?_ (List.Subset.trans ?_ hl); rotate_right; decide +kernel)
    | (with_reducible refine State.partnerDrop_keeps ?_ (List.Subset.trans ?_ hl); rotate_right; decide +kernel)
    | (with_reducible refine State.orO_keeps ?_ ⟨_, inL hl ?_, O.netFlags_has⟩; rotate_right; decide +kernel)
    | lift_lets
    | split
    | with_reducible refine KeepsP.mk ?_

theorem bindAlias_keeps {l : List Part} {s : State} {a0 : State} {a1 : _} {a2 : _} {a3 : _} {a4 : _} {a5 : _} (h : Keeps l s a0)
    (hl : ([.evLast, .sent, .hosts, .later, .hpn, .net, .one O.netFlags, .one O.netPartners, .one O.netEntries] : List Part) ⊆ l) : KeepsP l s (@State.bindAlias a0 a1 a2 a3 a4 a5) := by
  unfold State.bindAlias
  have hr : KeepsP l s (a0.makeRoom false) := makeRoom_keeps h (List.Subset.trans (by decide +kernel) hl)
  revert hr
  generalize a0.makeRoom false = r
  intro hr
  refine KeepsP.ite ?_ (KeepsP.mk hr.fst)
  have he : KeepsP l s (r.1.newEntry { blankPartner a4 with kind := 2, port := a2, addr := a3, link := a1, ipv4 := a5 % 65536 }) :=
    newEntry_keeps hr.fst (List.Subset.trans (by decide +kernel) hl)
  exact KeepsP.mk (pMod_keeps he.fst (List.Subset.trans (by decide +kernel) hl))

theorem bmsAged_keeps {l : List Part} {s : State} {a0 : State} (h : Keeps l s a0)
    (hl : ([.evLast, .sent, .hosts, .disp, .later, .links, .ctx, .dcl, .chg, .hpn, .one O.dclFlags, .fam O.lpeStatus 64, .fam O.lpeTrState 4, .fam O.lpeTrCount 4, .one O.chgState, .one O.chgInput, .one O.chgFlags, .one O.chgCause, .one O.chgIInLim, .one O.chgPIn] : List Part) ⊆ l) : Keeps l s (@State.bmsAged a0) := by
  unfold State.bmsAged
  repeat' first
    | with_reducible assumption
    | with_reducible refine Keeps.ite ?_ ?_
    | (with_reducible refine State.raise_keeps ?_ (List.Subset.trans ?_ hl); rotate_right; decide +kernel)
    | (with_reducible refine State.modDcl_keeps ?_ (List.Subset.trans ?_ hl); rotate_right; decide +kernel)
    | (with_reducible refine State.chgStopFor_keeps ?_ (List.Subset.trans ?_ hl); rotate_right; decide +kernel)
    | (with_reducible refine State.orO_keeps ?_ ⟨_, inL hl ?_, O.dclFlags_has⟩; rotate_right; decide +kernel)

theorem modPwr_keeps {l : List Part} {s : State} {a0 : State} {a1 : _} (h : Keeps l s a0)
    (hl : ([.pwr] : List Part) ⊆ l) : Keeps l s (@State.modPwr a0 a1) := by
  unfold State.modPwr
  repeat' first
    | with_reducible assumption
    | (with_reducible refine Keeps.set_pwr ?_ (inL hl ?_); rotate_right; decide +kernel)

theorem bootBegin_keeps {l : List Part} {s : State} {a0 : State} {a1 : _} {a2 : _} {a3 : _} (h : Keeps l s a0)
    (hl : ([.pwr] : List Part) ⊆ l) : Keeps l s (@State.bootBegin a0 a1 a2 a3) := by
  unfold State.bootBegin
  repeat' first
    | with_reducible assumption
    | (with_reducible refine State.modPwr_keeps ?_ (List.Subset.trans ?_ hl); rotate_right; decide +kernel)

theorem spareDerive_keeps {l : List Part} {s : State} {a0 : State} {a1 : _} (h : Keeps l s a0)
    (hl : ([.upd, .one O.updIl, .fam O.updRunning 6, .fam O.updSpare 6, .fam O.updState 6, .fam O.updReceived 6] : List Part) ⊆ l) : Keeps l s (@State.spareDerive a0 a1) := by
  unfold State.spareDerive
  repeat' first
    | with_reducible assumption
    | (with_reducible refine State.updShow_keeps ?_ (List.Subset.trans ?_ hl); rotate_right; decide +kernel)
    | (with_reducible refine State.setO_keeps ?_ ⟨_, inL hl ?_, O.updReceived_has _ ?_⟩; rotate_right; (first | exact Fin.isLt _ | omega | (simp only [List.mem_range] at *; omega)); rotate_right; decide +kernel)
    | (with_reducible refine State.setO_keeps ?_ ⟨_, inL hl ?_, O.updState_has _ ?_⟩; rotate_right; (first | exact Fin.isLt _ | omega | (simp only [List.mem_range] at *; omega)); rotate_right; decide +kernel)
    | (with_reducible refine State.modUpd_keeps ?_ (List.Subset.trans ?_ hl); rotate_right; decide +kernel)
    | (with_reducible refine State.when_keeps ?_ ?_ (List.Subset.trans ?_ hl); rotate_right; decide +kernel)
    | intro x

theorem mordantWipe_keeps {l : List Part} {s : State} {a0 : State} {a1 : _} (h : Keeps l s a0)
    (hl : ([.free, .evLast, .sent, .hosts, .later, .hpn, .sec, .thm, .one O.logHead, .one O.logChain, .one O.logCount, .one O.logQueued, .fam O.memStatus 4, .one O.memWipeCause] : List Part) ⊆ l) : Keeps l s (@State.mordantWipe a0 a1) := by
  unfold State.mordantWipe
  repeat' first
    | with_reducible assumption
    | (intro x; have hx : Keeps l s x := ?_; clear_value x)
    | (with_reducible refine State.setO_keeps ?_ ⟨_, inL hl ?_, O.memWipeCause_has⟩; rotate_right; decide +kernel)
    | (with_reducible refine State.raise_keeps ?_ (List.Subset.trans ?_ hl); rotate_right; decide +kernel)
    | (with_reducible refine State.audit_keeps ?_ (List.Subset.trans ?_ hl); rotate_right; decide +kernel)
    | (with_reducible refine State.takeFree_keeps ?_ (List.Subset.trans ?_ hl); rotate_right; decide +kernel)
    | (with_reducible refine State.when_keeps ?_ ?_ (List.Subset.trans ?_ hl); rotate_right; decide +kernel)
    | (with_reducible refine State.orO_keeps ?_ ⟨_, inL hl ?_, O.memStatus_has _ ?_⟩; rotate_right; (first | exact Fin.isLt _ | omega | (simp only [List.mem_range] at *; omega)); rotate_right; decide +kernel)
    | intro x
    | lift_lets
    | (with_reducible refine Keeps.set_sec ?_ (inL hl ?_); rotate_right; decide +kernel)

theorem bootCold_keeps {l : List Part} {s : State} {a0 : State} (h : Keeps l s a0)
    (hl : ([.free, .evLast, .sent, .hosts, .later, .hpn, .sec, .upd, .thm, .one O.logHead, .one O.logChain, .one O.logCount, .one O.logQueued, .one O.updIl, .fam O.updRunning 6, .fam O.updSpare 6, .fam O.updState 6, .fam O.updReceived 6, .fam O.memStatus 4, .one O.memWipeCause] : List Part) ⊆ l) : Keeps l s (@State.bootCold a0) := by
  unfold State.bootCold
  repeat' first
    | with_reducible assumption
    | with_reducible refine Keeps.ite ?_ ?_
    | (with_reducible refine State.spareDerive_keeps ?_ (List.Subset.trans ?_ hl); rotate_right; decide +kernel)
    | (with_reducible refine State.mordantWipe_keeps ?_ (List.Subset.trans ?_ hl); rotate_right; decide +kernel)
    | (with_reducible refine State.modUpd_keeps ?_ (List.Subset.trans ?_ hl); rotate_right; decide +kernel)
    | (with_reducible refine State.updEvent_keeps ?_ (List.Subset.trans ?_ hl); rotate_right; decide +kernel)
    | with_reducible refine Keeps.foldl ?_ ?_
    | intro x

theorem bootTamper_keeps {l : List Part} {s : State} {a0 : State} (h : Keeps l s a0)
    (hl : ([.evLast, .sent, .hosts, .later, .hpn, .sec, .thm, .one O.secAttEpoch, .one O.secAttNext, .one O.secTamperCause, .one O.logHead, .one O.logChain, .one O.logCount, .one O.logQueued] : List Part) ⊆ l) : Keeps l s (@State.bootTamper a0) := by
  unfold State.bootTamper
  repeat' first
    | with_reducible assumption
    | with_reducible refine Keeps.ite ?_ ?_
    | (with_reducible refine State.setO_keeps ?_ ⟨_, inL hl ?_, O.secTamperCause_has⟩; rotate_right; decide +kernel)
    | (with_reducible refine State.raise_keeps ?_ (List.Subset.trans ?_ hl); rotate_right; decide +kernel)
    | (with_reducible refine State.audit_keeps ?_ (List.Subset.trans ?_ hl); rotate_right; decide +kernel)
    | (with_reducible refine State.attRenew_keeps ?_ (List.Subset.trans ?_ hl); rotate_right; decide +kernel)
    | intro x
    | lift_lets
    | (with_reducible refine Keeps.set_sec ?_ (inL hl ?_); rotate_right; decide +kernel)

theorem parkIdle_keeps {l : List Part} {s : State} {a0 : State} (h : Keeps l s a0)
    (hl : ([.evLast, .sent, .hosts, .later, .ctx, .amc, .hpn, .fam O.lpeStatus 64, .fam O.lpeTrState 4, .fam O.lpeTrCount 4, .fam O.amcState 6, .fam O.amcSpeed 6] : List Part) ⊆ l) : Keeps l s (@State.parkIdle a0) := by
  unfold State.parkIdle
  repeat' first
    | with_reducible assumption
    | with_reducible refine Keeps.ite ?_ ?_
    | (with_reducible refine State.amcTo_keeps ?_ (List.Subset.trans ?_ hl); rotate_right; decide +kernel)

theorem hfStarted_keeps {l : List Part} {s : State} {a0 : State} (h : Keeps l s a0)
    (hl : ([.evLast, .sent, .hosts, .disp, .later, .ctx, .dcl, .aux, .rpk, .hpn, .fam O.lpeStatus 64, .fam O.lpeTrState 4, .fam O.lpeTrCount 4, .one O.rpkState] : List Part) ⊆ l) : Keeps l s (@State.hfStarted a0) := by
  unfold State.hfStarted
  repeat' first
    | with_reducible assumption
    | (with_reducible refine State.auxPeakLoad_keeps ?_ (List.Subset.trans ?_ hl); rotate_right; decide +kernel)
    | (with_reducible refine State.hwThreshold_keeps ?_ (List.Subset.trans ?_ hl); rotate_right; decide +kernel)
    | (with_reducible refine State.newWatch_keeps ?_ (List.Subset.trans ?_ hl); rotate_right; decide +kernel)
    | (with_reducible refine State.rpkEnabled_keeps ?_ (List.Subset.trans ?_ hl); rotate_right; decide +kernel)
    | (with_reducible refine State.modDisp_keeps ?_ (List.Subset.trans ?_ hl); rotate_right; decide +kernel)

theorem bootWoken_keeps {l : List Part} {s : State} {a0 : State} (h : Keeps l s a0)
    (hl : ([.evLast, .sent, .hosts, .later, .hpn, .pwr] : List Part) ⊆ l) : Keeps l s (@State.bootWoken a0) := by
  unfold State.bootWoken
  repeat' first
    | with_reducible assumption
    | (with_reducible refine State.modPwr_keeps ?_ (List.Subset.trans ?_ hl); rotate_right; decide +kernel)
    | (with_reducible refine State.raise_keeps ?_ (List.Subset.trans ?_ hl); rotate_right; decide +kernel)

theorem bootLost_keeps {l : List Part} {s : State} {a0 : State} (h : Keeps l s a0)
    (hl : ([.evLast, .sent, .hosts, .later, .hpn, .sec, .thm, .one O.logHead, .one O.logChain, .one O.logCount, .one O.logQueued] : List Part) ⊆ l) : Keeps l s (@State.bootLost a0) := by
  unfold State.bootLost
  repeat' first
    | with_reducible assumption
    | with_reducible refine Keeps.ite ?_ ?_
    | (with_reducible refine State.raise_keeps ?_ (List.Subset.trans ?_ hl); rotate_right; decide +kernel)
    | (with_reducible refine State.audit_keeps ?_ (List.Subset.trans ?_ hl); rotate_right; decide +kernel)
    | intro x
    | lift_lets
    | (with_reducible refine Keeps.set_sec ?_ (inL hl ?_); rotate_right; decide +kernel)

theorem bootOne_keeps {l : List Part} {s : State} {a0 : State} {a1 : _} {a2 : _} (h : Keeps l s a0)
    (hl : ([.free, .evLast, .sent, .hosts, .disp, .later, .ctx, .dcl, .ptg, .aux, .amc, .rpk, .hpn, .sec, .upd, .thm, .pwr, .net, .one O.sysXingDropFlags, .one O.sysLateFlags, .one O.secAttEpoch, .one O.secAttNext, .one O.secTamperCause, .one O.logHead, .one O.logChain, .one O.logCount, .one O.logQueued, .one O.updIl, .one O.updBusy, .fam O.updRunning 6, .fam O.updSpare 6, .fam O.updState 6, .fam O.updReceived 6, .one O.netSessions, .one O.netCycSkipped, .fam O.netCanAddr 4, .fam O.netCanStatus 4, .fam O.lpeStatus 64, .fam O.lpeTrState 4, .fam O.lpeTrCount 4, .fam O.amcState 6, .fam O.amcSpeed 6, .one O.rpkState, .fam O.memStatus 4, .one O.memWipeCause] : List Part) ⊆ l) : Keeps l s (@State.bootOne a0 a1 a2) := by
  unfold State.bootOne
  repeat' first
    | with_reducible assumption
    | with_reducible refine Keeps.ite ?_ ?_
    | (with_reducible refine State.netStart_keeps ?_ (List.Subset.trans ?_ hl); rotate_right; decide +kernel)
    | (with_reducible refine State.modPwr_keeps ?_ (List.Subset.trans ?_ hl); rotate_right; decide +kernel)
    | (with_reducible refine State.bootTamper_keeps ?_ (List.Subset.trans ?_ hl); rotate_right; decide +kernel)
    | (with_reducible refine State.parkIdle_keeps ?_ (List.Subset.trans ?_ hl); rotate_right; decide +kernel)
    | (with_reducible refine State.postAll_keeps ?_ (List.Subset.trans ?_ hl); rotate_right; decide +kernel)
    | (with_reducible refine State.hfStarted_keeps ?_ (List.Subset.trans ?_ hl); rotate_right; decide +kernel)
    | (with_reducible refine State.bootCold_keeps ?_ (List.Subset.trans ?_ hl); rotate_right; decide +kernel)
    | (with_reducible refine State.bootImage_keeps ?_ (List.Subset.trans ?_ hl); rotate_right; decide +kernel)
    | (with_reducible refine State.bootWoken_keeps ?_ (List.Subset.trans ?_ hl); rotate_right; decide +kernel)
    | (with_reducible refine State.bootLost_keeps ?_ (List.Subset.trans ?_ hl); rotate_right; decide +kernel)
    | (with_reducible refine State.sendSafe_keeps ?_ (List.Subset.trans ?_ hl); rotate_right; decide +kernel)
    | with_reducible refine Keeps.foldl ?_ ?_
    | intro x

theorem rpkRun_keeps {l : List Part} {s : State} {a0 : State} (h : Keeps l s a0)
    (hl : ([.evLast, .sent, .hosts, .later, .ctx, .rpk, .hpn, .fam O.lpeStatus 64, .fam O.lpeTrState 4, .fam O.lpeTrCount 4, .one O.rpkState] : List Part) ⊆ l) : Keeps l s (@State.rpkRun a0) := by
  unfold State.rpkRun
  repeat' first
    | with_reducible assumption
    | (with_reducible refine State.ctxStart_keeps ?_ (List.Subset.trans ?_ hl); rotate_right; decide +kernel)
    | (with_reducible refine State.rpkTo_keeps ?_ (List.Subset.trans ?_ hl); rotate_right; decide +kernel)
    | (with_reducible refine State.modRpk_keeps ?_ (List.Subset.trans ?_ hl); rotate_right; decide +kernel)

theorem rpkTryResume_keeps {l : List Part} {s : State} {a0 : State} (h : Keeps l s a0)
    (hl : ([.evLast, .sent, .hosts, .later, .ctx, .rpk, .hpn, .fam O.lpeStatus 64, .fam O.lpeTrState 4, .fam O.lpeTrCount 4, .one O.rpkState] : List Part) ⊆ l) : Keeps l s (@State.rpkTryResume a0) := by
  unfold State.rpkTryResume
  repeat' first
    | with_reducible assumption
    | with_reducible refine Keeps.ite ?_ ?_
    | (with_reducible refine State.rpkRun_keeps ?_ (List.Subset.trans ?_ hl); rotate_right; decide +kernel)

theorem rpkPause_keeps {l : List Part} {s : State} {a0 : State} (h : Keeps l s a0)
    (hl : ([.evLast, .sent, .hosts, .later, .ctx, .rpk, .hpn, .fam O.lpeStatus 64, .fam O.lpeTrState 4, .fam O.lpeTrCount 4, .one O.rpkState] : List Part) ⊆ l) : Keeps l s (@State.rpkPause a0) := by
  unfold State.rpkPause
  repeat' first
    | with_reducible assumption
    | with_reducible refine Keeps.ite ?_ ?_
    | (with_reducible refine State.rpkTo_keeps ?_ (List.Subset.trans ?_ hl); rotate_right; decide +kernel)

theorem rpkPower_keeps {l : List Part} {s : State} {a0 : State} (h : Keeps l s a0)
    (hl : ([.evLast, .sent, .hosts, .later, .ctx, .rpk, .hpn, .fam O.lpeStatus 64, .fam O.lpeTrState 4, .fam O.lpeTrCount 4, .one O.rpkState] : List Part) ⊆ l) : Keeps l s (@State.rpkPower a0) := by
  unfold State.rpkPower
  repeat' first
    | with_reducible assumption
    | with_reducible refine Keeps.ite ?_ ?_
    | (with_reducible refine State.rpkTryResume_keeps ?_ (List.Subset.trans ?_ hl); rotate_right; decide +kernel)
    | (with_reducible refine State.rpkPause_keeps ?_ (List.Subset.trans ?_ hl); rotate_right; decide +kernel)

theorem bstPower_keeps {l : List Part} {s : State} {a0 : State} (h : Keeps l s a0)
    (hl : ([.one O.bstState] : List Part) ⊆ l) : Keeps l s (@State.bstPower a0) := by
  unfold State.bstPower
  repeat' first
    | with_reducible assumption
    | (with_reducible refine State.setO_keeps ?_ ⟨_, inL hl ?_, O.bstState_has⟩; rotate_right; decide +kernel)

theorem powerTo_keeps {l : List Part} {s : State} {a0 : State} {a1 : _} (h : Keeps l s a0)
    (hl : ([.evLast, .sent, .hosts, .later, .cgs, .ctx, .rpk, .hpn, .one O.pwrState, .fam O.lpeStatus 64, .fam O.lpeTrState 4, .fam O.lpeTrCount 4, .one O.rpkState, .one O.bstState] : List Part) ⊆ l) : Keeps l s (@State.powerTo a0 a1) := by
  unfold State.powerTo
  repeat' first
    | with_reducible assumption
    | with_reducible refine Keeps.ite ?_ ?_
    | (with_reducible refine State.rpkPower_keeps ?_ (List.Subset.trans ?_ hl); rotate_right; decide +kernel)
    | (with_reducible refine State.setO_keeps ?_ ⟨_, inL hl ?_, O.pwrState_has⟩; rotate_right; decide +kernel)
    | (with_reducible refine State.bstPower_keeps ?_ (List.Subset.trans ?_ hl); rotate_right; decide +kernel)
    | (with_reducible refine State.raise_keeps ?_ (List.Subset.trans ?_ hl); rotate_right; decide +kernel)
    | lift_lets
    | (with_reducible refine Keeps.set_cgs ?_ (inL hl ?_); rotate_right; decide +kernel)

theorem powerChoice_keeps {l : List Part} {s : State} {a0 : State} (h : Keeps l s a0)
    (hl : ([.evLast, .sent, .hosts, .later, .cgs, .ctx, .rpk, .hpn, .pwr, .one O.pwrState, .one O.pwrTarget, .one O.pwrLimit, .fam O.lpeStatus 64, .fam O.lpeTrState 4, .fam O.lpeTrCount 4, .one O.rpkState, .one O.bstState] : List Part) ⊆ l) : Keeps l s (@State.powerChoice a0) := by
  unfold State.powerChoice
  repeat' first
    | with_reducible assumption
    | with_reducible refine Keeps.ite ?_ ?_
    | (with_reducible refine State.modPwr_keeps ?_ (List.Subset.trans ?_ hl); rotate_right; decide +kernel)
    | (with_reducible refine State.powerTo_keeps ?_ (List.Subset.trans ?_ hl); rotate_right; decide +kernel)
    | (with_reducible refine State.setO_keeps ?_ ⟨_, inL hl ?_, O.pwrLimit_has⟩; rotate_right; decide +kernel)
    | (with_reducible refine State.setO_keeps ?_ ⟨_, inL hl ?_, O.pwrTarget_has⟩; rotate_right; decide +kernel)

theorem bootComplete_keeps {l : List Part} {s : State} {a0 : State} {a1 : _} (h : Keeps l s a0)
    (hl : ([.free, .evLast, .sent, .hosts, .disp, .later, .cgs, .ctx, .dcl, .ptg, .aux, .amc, .rpk, .hpn, .sec, .upd, .thm, .pwr, .net, .one O.sysXingDropFlags, .one O.sysLateFlags, .one O.pwrState, .one O.pwrTarget, .one O.pwrLimit, .one O.secAttEpoch, .one O.secAttNext, .one O.secTamperCause, .one O.logHead, .one O.logChain, .one O.logCount, .one O.logQueued, .one O.updIl, .one O.updBusy, .fam O.updRunning 6, .fam O.updSpare 6, .fam O.updState 6, .fam O.updReceived 6, .one O.netSessions, .one O.netCycSkipped, .fam O.netCanAddr 4, .fam O.netCanStatus 4, .fam O.lpeStatus 64, .fam O.lpeTrState 4, .fam O.lpeTrCount 4, .fam O.amcState 6, .fam O.amcSpeed 6, .one O.rpkState, .one O.bstState, .fam O.memStatus 4, .one O.memWipeCause] : List Part) ⊆ l) : Keeps l s (@State.bootComplete a0 a1) := by
  unfold State.bootComplete
  repeat' first
    | with_reducible assumption
    | with_reducible refine Keeps.ite ?_ ?_
    | (with_reducible refine State.modPwr_keeps ?_ (List.Subset.trans ?_ hl); rotate_right; decide +kernel)
    | (with_reducible refine State.bootOne_keeps ?_ (List.Subset.trans ?_ hl); rotate_right; decide +kernel)
    | (with_reducible refine State.powerChoice_keeps ?_ (List.Subset.trans ?_ hl); rotate_right; decide +kernel)
    | with_reducible refine Keeps.foldl ?_ ?_
    | intro x

theorem secKept_keeps {l : List Part} {s : State} {a0 : State} {a1 : _} (h : Keeps l s a0)
    (hl : ([.sec, .upd, .one O.secAttEpoch, .one O.secAttNext, .one O.secIdNext] : List Part) ⊆ l) : Keeps l s (@State.secKept a0 a1) := by
  unfold State.secKept
  repeat' first
    | with_reducible assumption
    | with_reducible refine Keeps.ite ?_ ?_
    | (with_reducible refine State.seLost_keeps ?_ (List.Subset.trans ?_ hl); rotate_right; decide +kernel)
    | intro x
    | lift_lets
    | (with_reducible refine Keeps.set_sec ?_ (inL hl ?_); rotate_right; decide +kernel)

theorem brownReset_keeps {l : List Part} {s : State} {a0 : State} (h : Keeps l s a0)
    (hl : ([.axt, .flash, .dirty, .free, .evLast, .sent, .follow, .xing, .clk, .hosts, .slots, .disp, .later, .xmem, .forceA, .forceB, .links, .cgs, .trx, .ctx, .tb, .traceReads, .dcl, .ptg, .adc, .pos, .prb, .chg, .aux, .amc, .rpk, .hpn, .sec, .upd, .thm, .bst, .patina, .pwr, .net, .allObjs, .one O.sysClkStatus, .one O.secAttEpoch, .one O.secAttNext, .one O.secIdNext, .fam O.pwmDriveTable 40, .fam O.trxRule 4, .fam O.trxSsState 4, .fam O.lpeUnits 64, .fam O.lpeBankB 64, .fam O.lpeStatus 64, .fam O.lpeTrState 4, .fam O.lpeTrCount 4, .fam O.adcStatus 12, .fam O.posAngle 4, .fam O.posCount 4, .fam O.posSpeed 4, .fam O.posStatus 4, .fam O.amcFlags 6, .one O.rpkState] : List Part) ⊆ l) : Keeps l s (@State.brownReset a0) := by
  unfold State.brownReset
  lift_lets
  intro s1 s2 s3
  have h1 : Keeps l s s1 := Keeps.foldl h fun u _ _ hu => cancelEdges_keeps hu (List.Subset.trans (by decide +kernel) hl)
  have h2 : Keeps l s s2 := amcFlagsBack_keeps (returnObjs_keeps h1 (List.Subset.trans (by decide +kernel) hl)) (List.Subset.trans (by decide +kernel) hl)
  have h3 : Keeps l s s3 := undefX_keeps (secKept_keeps h2 (List.Subset.trans (by decide +kernel) hl)) (List.Subset.trans (by decide +kernel) hl)
  clear_value s3
  lift_lets
  intro z x1 x2 x3 x4 x5 t
  have ht : Keeps l s t := Keeps.of_pending h3 rfl (fun p h1 h2 => hl (by cases p <;> first | decide +kernel | exact absurd rfl h1 | exact absurd rfl (h2 _ _ _)))
  clear_value t
  exact rpkPower_keeps (portsStart_keeps (redefault_keeps (showClk_keeps ht (List.Subset.trans (by decide +kernel) hl)) (List.Subset.trans (by decide +kernel) hl)) (List.Subset.trans (by decide +kernel) hl)) (List.Subset.trans (by decide +kernel) hl)

theorem setAxt_keeps {l : List Part} {s : State} {a0 : State} {a1 : _} (h : Keeps l s a0)
    (hl : ([.axt, .follow] : List Part) ⊆ l) : Keeps l s (@State.setAxt a0 a1) := by
  unfold State.setAxt
  repeat' first
    | with_reducible assumption
    | (with_reducible refine Keeps.set_axt_follow ?_ (inL hl ?_) (inL hl ?_); rotate_right; decide +kernel; rotate_right; decide +kernel)

theorem resumeAxt_keeps {l : List Part} {s : State} {a0 : State} (h : Keeps l s a0)
    (hl : ([.axt, .follow, .pwr] : List Part) ⊆ l) : Keeps l s (@State.resumeAxt a0) := by
  unfold State.resumeAxt
  repeat' first
    | with_reducible assumption
    | with_reducible refine Keeps.ite ?_ ?_
    | (with_reducible refine State.modPwr_keeps ?_ (List.Subset.trans ?_ hl); rotate_right; decide +kernel)
    | (with_reducible refine State.setAxt_keeps ?_ (List.Subset.trans ?_ hl); rotate_right; decide +kernel)

theorem parkAuto_keeps {l : List Part} {s : State} {a0 : State} (h : Keeps l s a0)
    (hl : ([.evLast, .sent, .hosts, .later, .ctx, .amc, .hpn, .fam O.lpeStatus 64, .fam O.lpeTrState 4, .fam O.lpeTrCount 4, .fam O.amcState 6, .fam O.amcSpeed 6, .one O.amcParkState] : List Part) ⊆ l) : Keeps l s (@State.parkAuto a0) := by
  unfold State.parkAuto
  repeat' first
    | with_reducible assumption
    | with_reducible refine Keeps.ite ?_ ?_
    | (with_reducible refine State.parkRun_keeps ?_ (List.Subset.trans ?_ hl); rotate_right; decide +kernel)
    | (with_reducible refine State.modAmc_keeps ?_ (List.Subset.trans ?_ hl); rotate_right; decide +kernel)

theorem brownout_keeps {l : List Part} {s : State} {a0 : State} (h : Keeps l s a0)
    (hl : ([.axt, .flash, .dirty, .free, .evLast, .sent, .follow, .xing, .clk, .hosts, .slots, .disp, .later, .xmem, .forceA, .forceB, .links, .cgs, .trx, .ctx, .tb, .traceReads, .dcl, .ptg, .adc, .pos, .prb, .chg, .aux, .amc, .rpk, .hpn, .sec, .upd, .thm, .bst, .patina, .pwr, .net, .allObjs, .one O.sysClkStatus, .one O.secAttEpoch, .one O.secAttNext, .one O.secIdNext, .fam O.pwmDriveTable 40, .fam O.trxRule 4, .fam O.trxSsState 4, .fam O.lpeUnits 64, .fam O.lpeBankB 64, .fam O.lpeStatus 64, .fam O.lpeTrState 4, .fam O.lpeTrCount 4, .fam O.adcStatus 12, .fam O.posAngle 4, .fam O.posCount 4, .fam O.posSpeed 4, .fam O.posStatus 4, .fam O.amcState 6, .fam O.amcSpeed 6, .fam O.amcFlags 6, .one O.amcParkState, .one O.rpkState] : List Part) ⊆ l) : Keeps l s (@State.brownout a0) := by
  unfold State.brownout
  repeat' first
    | with_reducible assumption
    | with_reducible refine Keeps.ite ?_ ?_
    | (with_reducible refine State.modPwr_keeps ?_ (List.Subset.trans ?_ hl); rotate_right; decide +kernel)
    | (with_reducible refine State.resumeAxt_keeps ?_ (List.Subset.trans ?_ hl); rotate_right; decide +kernel)
    | (with_reducible refine State.parkAuto_keeps ?_ (List.Subset.trans ?_ hl); rotate_right; decide +kernel)
    | (with_reducible refine State.brownReset_keeps ?_ (List.Subset.trans ?_ hl); rotate_right; decide +kernel)

theorem bstTell_keeps {l : List Part} {s : State} {a0 : State} {a1 : _} {a2 : _} {a3 : _} (h : Keeps l s a0)
    (hl : ([.evLast, .sent, .hosts, .later, .hpn, .one O.bstLast] : List Part) ⊆ l) : Keeps l s (@State.bstTell a0 a1 a2 a3) := by
  unfold State.bstTell
  repeat' first
    | with_reducible assumption
    | (with_reducible refine State.setO_keeps ?_ ⟨_, inL hl ?_, O.bstLast_has⟩; rotate_right; decide +kernel)
    | (with_reducible refine State.raise_keeps ?_ (List.Subset.trans ?_ hl); rotate_right; decide +kernel)

theorem modBst_keeps {l : List Part} {s : State} {a0 : State} {a1 : _} (h : Keeps l s a0)
    (hl : ([.bst] : List Part) ⊆ l) : Keeps l s (@State.modBst a0 a1) := by
  unfold State.modBst
  repeat' first
    | with_reducible assumption
    | (with_reducible refine Keeps.set_bst ?_ (inL hl ?_); rotate_right; decide +kernel)

theorem bstEnd_keeps {l : List Part} {s : State} {a0 : State} (h : Keeps l s a0)
    (hl : ([.thm, .bst, .one O.bstState] : List Part) ⊆ l) : Keeps l s (@State.bstEnd a0) := by
  unfold State.bstEnd
  repeat' first
    | with_reducible assumption
    | (with_reducible refine State.modBst_keeps ?_ (List.Subset.trans ?_ hl); rotate_right; decide +kernel)
    | (with_reducible refine State.setO_keeps ?_ ⟨_, inL hl ?_, O.bstState_has⟩; rotate_right; decide +kernel)
    | (with_reducible refine State.pauseFrom_keeps ?_ (List.Subset.trans ?_ hl); rotate_right; decide +kernel)

theorem bstReturn_keeps {l : List Part} {s : State} {a0 : State} {a1 : _} (h : Keeps l s a0)
    (hl : ([.disp, .adc, .fam O.adcStatus 12] : List Part) ⊆ l) : Keeps l s (@State.bstReturn a0 a1) := by
  unfold State.bstReturn
  repeat' first
    | with_reducible assumption
    | with_reducible refine Keeps.ite ?_ ?_
    | (with_reducible refine State.modConv_keeps ?_ (List.Subset.trans ?_ hl); rotate_right; decide +kernel)
    | (with_reducible refine State.setAdcSt_keeps ?_ (List.Subset.trans ?_ hl); rotate_right; decide +kernel)
    | (with_reducible refine State.adcRest_keeps ?_ (List.Subset.trans ?_ hl); rotate_right; decide +kernel)
    | with_reducible refine Keeps.foldl ?_ ?_
    | intro x

theorem bstAbort_keeps {l : List Part} {s : State} {a0 : State} (h : Keeps l s a0)
    (hl : ([.evLast, .sent, .hosts, .disp, .later, .ptg, .adc, .hpn, .thm, .bst, .fam O.adcStatus 12, .one O.bstState, .one O.bstLast] : List Part) ⊆ l) : Keeps l s (@State.bstAbort a0) := by
  unfold State.bstAbort
  repeat' first
    | with_reducible assumption
    | with_reducible refine Keeps.ite ?_ ?_
    | (with_reducible refine State.bstTell_keeps ?_ (List.Subset.trans ?_ hl); rotate_right; decide +kernel)
    | (with_reducible refine State.endAll_keeps ?_ (List.Subset.trans ?_ hl); rotate_right; decide +kernel)
    | (with_reducible refine State.bstEnd_keeps ?_ (List.Subset.trans ?_ hl); rotate_right; decide +kernel)
    | (with_reducible refine State.bstReturn_keeps ?_ (List.Subset.trans ?_ hl); rotate_right; decide +kernel)
    | (with_reducible refine State.when_keeps ?_ ?_ (List.Subset.trans ?_ hl); rotate_right; decide +kernel)
    | (with_reducible refine State.modPtg_keeps ?_ (List.Subset.trans ?_ hl); rotate_right; decide +kernel)
    | intro x
    | split

theorem bstAnswer_keeps {l : List Part} {s : State} {a0 : State} {a1 : _} (h : Keeps l s a0)
    (hl : ([.disp] : List Part) ⊆ l) : Keeps l s (@State.bstAnswer a0 a1) := by
  unfold State.bstAnswer
  repeat' first
    | with_reducible assumption
    | with_reducible refine Keeps.ite ?_ ?_
    | (with_reducible refine State.endAll_keeps ?_ (List.Subset.trans ?_ hl); rotate_right; decide +kernel)

theorem coverTry_keeps {l : List Part} {s : State} {a0 : State} {a1 : _} (h : Keeps l s a0)
    (hl : ([.evLast, .sent, .hosts, .slots, .disp, .later, .adc, .hpn, .thm, .fam O.adcStatus 12, .fam O.adcInjFree 12, .one O.adcCalResult] : List Part) ⊆ l) : Keeps l s (@State.coverTry a0 a1) := by
  unfold State.coverTry
  repeat' first
    | with_reducible assumption
    | (with_reducible refine State.coverShow_keeps ?_ (List.Subset.trans ?_ hl); rotate_right; decide +kernel)
    | (with_reducible refine State.adcOffline_keeps ?_ (List.Subset.trans ?_ hl); rotate_right; decide +kernel)
    | (with_reducible refine State.when_keeps ?_ ?_ (List.Subset.trans ?_ hl); rotate_right; decide +kernel)
    | intro x

theorem bstOffline_keeps {l : List Part} {s : State} {a0 : State} {a1 : _} (h : Keeps l s a0)
    (hl : ([.evLast, .sent, .hosts, .slots, .disp, .later, .adc, .hpn, .thm, .fam O.adcStatus 12, .fam O.adcInjFree 12, .one O.adcCalResult] : List Part) ⊆ l) : Keeps l s (@State.bstOffline a0 a1) := by
  unfold State.bstOffline
  repeat' first
    | with_reducible assumption
    | with_reducible refine Keeps.ite ?_ ?_
    | (with_reducible refine State.modConv_keeps ?_ (List.Subset.trans ?_ hl); rotate_right; decide +kernel)
    | (with_reducible refine State.coverTry_keeps ?_ (List.Subset.trans ?_ hl); rotate_right; decide +kernel)
    | (with_reducible refine State.adcOffline_keeps ?_ (List.Subset.trans ?_ hl); rotate_right; decide +kernel)
    | with_reducible refine Keeps.foldl ?_ ?_
    | intro x

theorem bstBegin_keeps {l : List Part} {s : State} {a0 : State} {a1 : _} {a2 : _} {a3 : _} (h : Keeps l s a0)
    (hl : ([.evLast, .sent, .hosts, .slots, .disp, .later, .ptg, .adc, .hpn, .thm, .bst, .fam O.adcStatus 12, .fam O.adcInjFree 12, .one O.adcCalResult, .one O.bstState] : List Part) ⊆ l) : Keeps l s (@State.bstBegin a0 a1 a2 a3) := by
  unfold State.bstBegin
  repeat' first
    | with_reducible assumption
    | with_reducible refine Keeps.ite ?_ ?_
    | (with_reducible refine State.modBst_keeps ?_ (List.Subset.trans ?_ hl); rotate_right; decide +kernel)
    | (with_reducible refine State.setO_keeps ?_ ⟨_, inL hl ?_, O.bstState_has⟩; rotate_right; decide +kernel)
    | (with_reducible refine State.bstOffline_keeps ?_ (List.Subset.trans ?_ hl); rotate_right; decide +kernel)
    | (with_reducible refine State.modPtg_keeps ?_ (List.Subset.trans ?_ hl); rotate_right; decide +kernel)

theorem bstNext_keeps {l : List Part} {s : State} {a0 : State} (h : Keeps l s a0)
    (hl : ([.evLast, .sent, .hosts, .slots, .disp, .later, .ptg, .adc, .hpn, .thm, .bst, .fam O.adcStatus 12, .fam O.adcInjFree 12, .one O.adcCalResult, .one O.bstState] : List Part) ⊆ l) : Keeps l s (@State.bstNext a0) := by
  unfold State.bstNext
  repeat' first
    | with_reducible assumption
    | with_reducible refine Keeps.ite ?_ ?_
    | (with_reducible refine State.bstBegin_keeps ?_ (List.Subset.trans ?_ hl); rotate_right; decide +kernel)
    | split

theorem bstCycle_keeps {l : List Part} {s : State} {a0 : State} (h : Keeps l s a0)
    (hl : ([.evLast, .sent, .hosts, .slots, .disp, .later, .ptg, .adc, .hpn, .thm, .bst, .fam O.adcStatus 12, .fam O.adcInjFree 12, .one O.adcCalResult, .one O.bstState, .one O.bstCycles, .one O.bstLast] : List Part) ⊆ l) : Keeps l s (@State.bstCycle a0) := by
  unfold State.bstCycle
  repeat' first
    | with_reducible assumption
    | with_reducible refine Keeps.ite ?_ ?_
    | (with_reducible refine State.modBst_keeps ?_ (List.Subset.trans ?_ hl); rotate_right; decide +kernel)
    | (with_reducible refine State.incMod_keeps ?_ ⟨_, inL hl ?_, O.bstCycles_has⟩; rotate_right; decide +kernel)
    | (with_reducible refine State.bstTell_keeps ?_ (List.Subset.trans ?_ hl); rotate_right; decide +kernel)
    | (with_reducible refine State.bstNext_keeps ?_ (List.Subset.trans ?_ hl); rotate_right; decide +kernel)
    | (with_reducible refine State.raise_keeps ?_ (List.Subset.trans ?_ hl); rotate_right; decide +kernel)
    | with_reducible refine Keeps.foldl ?_ ?_
    | intro x

theorem bstJoin_keeps {l : List Part} {s : State} {a0 : State} {a1 : _} (h : Keeps l s a0)
    (hl : ([.ptg] : List Part) ⊆ l) : Keeps l s (@State.bstJoin a0 a1) := by
  unfold State.bstJoin
  repeat' first
    | with_reducible assumption
    | with_reducible refine Keeps.ite ?_ ?_
    | (with_reducible refine State.modPtg_keeps ?_ (List.Subset.trans ?_ hl); rotate_right; decide +kernel)

theorem modThm_keeps {l : List Part} {s : State} {a0 : State} {a1 : _} (h : Keeps l s a0)
    (hl : ([.thm] : List Part) ⊆ l) : Keeps l s (@State.modThm a0 a1) := by
  unfold State.modThm
  repeat' first
    | with_reducible assumption
    | (with_reducible refine Keeps.set_thm ?_ (inL hl ?_); rotate_right; decide +kernel)

theorem tsensTake_keeps {l : List Part} {s : State} {a0 : State} (h : Keeps l s a0)
    (hl : ([.thm, .bst] : List Part) ⊆ l) : Keeps l s (@State.tsensTake a0) := by
  unfold State.tsensTake
  repeat' first
    | with_reducible assumption
    | (with_reducible refine State.modBst_keeps ?_ (List.Subset.trans ?_ hl); rotate_right; decide +kernel)
    | (with_reducible refine State.modThm_keeps ?_ (List.Subset.trans ?_ hl); rotate_right; decide +kernel)

theorem bstFail_keeps {l : List Part} {s : State} {a0 : State} {a1 : _} {a2 : _} (h : Keeps l s a0)
    (hl : ([.evLast, .sent, .hosts, .slots, .disp, .later, .ptg, .adc, .hpn, .thm, .bst, .fam O.adcStatus 12, .fam O.adcInjFree 12, .one O.adcCalResult] : List Part) ⊆ l) : Keeps l s (@State.bstFail a0 a1 a2) := by
  unfold State.bstFail
  repeat' first
    | with_reducible assumption
    | with_reducible refine Keeps.ite ?_ ?_
    | (with_reducible refine State.bstOffline_keeps ?_ (List.Subset.trans ?_ hl); rotate_right; decide +kernel)
    | (with_reducible refine State.tsensTake_keeps ?_ (List.Subset.trans ?_ hl); rotate_right; decide +kernel)
    | (with_reducible refine State.modPtg_keeps ?_ (List.Subset.trans ?_ hl); rotate_right; decide +kernel)

theorem bstPass_keeps {l : List Part} {s : State} {a0 : State} {a1 : _} {a2 : _} {a3 : _} (h : Keeps l s a0)
    (hl : ([.disp, .adc, .thm, .bst, .fam O.adcStatus 12, .one O.bstFailed] : List Part) ⊆ l) : Keeps l s (@State.bstPass a0 a1 a2 a3) := by
  unfold State.bstPass
  repeat' first
    | with_reducible assumption
    | with_reducible refine Keeps.ite ?_ ?_
    | (with_reducible refine State.bstReturn_keeps ?_ (List.Subset.trans ?_ hl); rotate_right; decide +kernel)
    | (with_reducible refine State.tsensTake_keeps ?_ (List.Subset.trans ?_ hl); rotate_right; decide +kernel)
    | (with_reducible refine State.clrO_keeps ?_ ⟨_, inL hl ?_, O.bstFailed_has⟩; rotate_right; decide +kernel)
    | (with_reducible refine State.when_keeps ?_ ?_ (List.Subset.trans ?_ hl); rotate_right; decide +kernel)
    | intro x

theorem bstDone_keeps {l : List Part} {s : State} {a0 : State} {a1 : _} {a2 : _} (h : Keeps l s a0)
    (hl : ([.evLast, .sent, .hosts, .slots, .disp, .later, .ptg, .adc, .hpn, .thm, .bst, .fam O.adcStatus 12, .fam O.adcInjFree 12, .one O.adcCalResult, .one O.bstState, .one O.bstFailed, .one O.bstLast] : List Part) ⊆ l) : Keeps l s (@State.bstDone a0 a1 a2) := by
  unfold State.bstDone
  repeat' first
    | with_reducible assumption
    | with_reducible refine Keeps.ite ?_ ?_
    | (with_reducible refine State.modBst_keeps ?_ (List.Subset.trans ?_ hl); rotate_right; decide +kernel)
    | (with_reducible refine State.bstTell_keeps ?_ (List.Subset.trans ?_ hl); rotate_right; decide +kernel)
    | (with_reducible refine State.bstNext_keeps ?_ (List.Subset.trans ?_ hl); rotate_right; decide +kernel)
    | (with_reducible refine State.bstJoin_keeps ?_ (List.Subset.trans ?_ hl); rotate_right; decide +kernel)
    | (with_reducible refine State.bstFail_keeps ?_ (List.Subset.trans ?_ hl); rotate_right; decide +kernel)
    | (with_reducible refine State.bstEnd_keeps ?_ (List.Subset.trans ?_ hl); rotate_right; decide +kernel)
    | (with_reducible refine State.bstPass_keeps ?_ (List.Subset.trans ?_ hl); rotate_right; decide +kernel)
    | (with_reducible refine State.bstAnswer_keeps ?_ (List.Subset.trans ?_ hl); rotate_right; decide +kernel)
    | (with_reducible refine State.orO_keeps ?_ ⟨_, inL hl ?_, O.bstFailed_has⟩; rotate_right; decide +kernel)
    | lift_lets
    | split

theorem bstRunCmd_keeps {l : List Part} {s : State} {a0 : _} {a1 : State} (h : Keeps l s a1)
    (hl : ([.evLast, .sent, .hosts, .slots, .disp, .later, .ptg, .adc, .hpn, .thm, .bst, .fam O.adcStatus 12, .fam O.adcInjFree 12, .one O.adcCalResult, .one O.bstState] : List Part) ⊆ l) : KeepsP l s (@State.bstRunCmd a0 a1) := by
  unfold State.bstRunCmd
  repeat' first
    | with_reducible assumption
    | (with_reducible refine State.bstBegin_keeps ?_ (List.Subset.trans ?_ hl); rotate_right; decide +kernel)
    | (with_reducible refine State.guarded_keeps ?_ ?_ (List.Subset.trans ?_ hl); rotate_right; decide +kernel)
    | (with_reducible refine State.hold_keeps ?_ (List.Subset.trans ?_ hl); rotate_right; decide +kernel)
    | intro x
    | lift_lets
    | with_reducible refine KeepsP.mk ?_

theorem burstEntry_keeps {l : List Part} {s : State} {a0 : State} (h : Keeps l s a0)
    (hl : ([.evLast, .sent, .hosts, .disp, .later, .links, .ctx, .aux, .hpn, .fam O.lpeStatus 64, .fam O.lpeTrState 4, .fam O.lpeTrCount 4, .one O.auxState, .one O.auxFlags, .one O.auxPhaseState] : List Part) ⊆ l) : Keeps l s (@State.burstEntry a0) := by
  unfold State.burstEntry
  repeat' first
    | with_reducible assumption
    | (intro x; have hx : Keeps l s x := ?_; clear_value x)
    | with_reducible refine Keeps.ite ?_ ?_
    | (with_reducible refine State.auxTo_keeps ?_ (List.Subset.trans ?_ hl); rotate_right; decide +kernel)
    | (with_reducible refine State.ctxStop_keeps ?_ (List.Subset.trans ?_ hl); rotate_right; decide +kernel)
    | (with_reducible refine State.endAll_keeps ?_ (List.Subset.trans ?_ hl); rotate_right; decide +kernel)
    | (with_reducible refine State.modAux_keeps ?_ (List.Subset.trans ?_ hl); rotate_right; decide +kernel)
    | (with_reducible refine State.putPh_keeps ?_ (List.Subset.trans ?_ hl); rotate_right; decide +kernel)
    | (with_reducible refine State.clrO_keeps ?_ ⟨_, inL hl ?_, O.auxFlags_has⟩; rotate_right; decide +kernel)
    | (with_reducible refine State.ctxStops_keeps ?_ (List.Subset.trans ?_ hl); rotate_right; decide +kernel)
    | (with_reducible refine State.auxPhaseOff_keeps ?_ (List.Subset.trans ?_ hl); rotate_right; decide +kernel)
    | (with_reducible refine State.orO_keeps ?_ ⟨_, inL hl ?_, O.auxFlags_has⟩; rotate_right; decide +kernel)
    | with_reducible refine Keeps.foldl ?_ ?_
    | intro x
    | lift_lets
    | split

theorem touch_keeps {l : List Part} {s : State} {a0 : State} {a1 : _} (h : Keeps l s a0)
    (hl : ([.hosts] : List Part) ⊆ l) : Keeps l s (@State.touch a0 a1) := by
  unfold State.touch
  repeat' first
    | with_reducible assumption
    | ((with_reducible refine State.modHost_keepsR ?_ ?_ (List.Subset.trans ?_ hl)); rotate_right; decide +kernel; rotate_right; (intro p; first | rfl | exact hf _ | exact HostPort.post_slots _ _ | exact HostPort.post2_slots _ _ _ | exact HostPort.settle_slots _ _ | (split <;> first | rfl | exact hf _ | exact HostPort.post_slots _ _ | exact HostPort.post2_slots _ _ _ | exact HostPort.settle_slots _ _)))

theorem swapSync_keeps {l : List Part} {s : State} {a0 : State} (h : Keeps l s a0)
    (hl : ([.ctx, .fam O.lpeStatus 64] : List Part) ⊆ l) : Keeps l s (@State.swapSync a0) := by
  unfold State.swapSync
  repeat' first
    | with_reducible assumption
    | with_reducible refine Keeps.ite ?_ ?_
    | (with_reducible refine State.modCtx_keeps ?_ (List.Subset.trans ?_ hl); rotate_right; decide +kernel)
    | (with_reducible refine State.clrO_keeps ?_ ⟨_, inL hl ?_, O.lpeStatus_has _ ?_⟩; rotate_right; (first | exact Fin.isLt _ | omega | (simp only [List.mem_range] at *; omega)); rotate_right; decide +kernel)
    | with_reducible refine Keeps.foldl ?_ ?_
    | intro x

theorem calSync_keeps {l : List Part} {s : State} {a0 : State} (h : Keeps l s a0)
    (hl : ([.adc] : List Part) ⊆ l) : Keeps l s (@State.calSync a0) := by
  unfold State.calSync
  repeat' first
    | with_reducible assumption
    | with_reducible refine Keeps.ite ?_ ?_
    | (with_reducible refine State.modPair_keeps ?_ (List.Subset.trans ?_ hl); rotate_right; decide +kernel)
    | with_reducible refine Keeps.foldl ?_ ?_
    | intro x

theorem ptgSync_keeps {l : List Part} {s : State} {a0 : State} (h : Keeps l s a0)
    (hl : ([.ptg] : List Part) ⊆ l) : Keeps l s (@State.ptgSync a0) := by
  unfold State.ptgSync
  repeat' first
    | with_reducible assumption
    | (with_reducible refine State.modPtg_keeps ?_ (List.Subset.trans ?_ hl); rotate_right; decide +kernel)

theorem heldSync_keeps {l : List Part} {s : State} {a0 : State} (h : Keeps l s a0)
    (hl : ([.ctx, .ptg, .adc, .amc, .fam O.lpeStatus 64, .fam O.amcFlags 6] : List Part) ⊆ l) : Keeps l s (@State.heldSync a0) := by
  unfold State.heldSync
  repeat' first
    | with_reducible assumption
    | with_reducible refine Keeps.ite ?_ ?_
    | (with_reducible refine State.swapSync_keeps ?_ (List.Subset.trans ?_ hl); rotate_right; decide +kernel)
    | (with_reducible refine State.calSync_keeps ?_ (List.Subset.trans ?_ hl); rotate_right; decide +kernel)
    | (with_reducible refine State.modAmc_keeps ?_ (List.Subset.trans ?_ hl); rotate_right; decide +kernel)
    | (with_reducible refine State.ptgSync_keeps ?_ (List.Subset.trans ?_ hl); rotate_right; decide +kernel)
    | (with_reducible refine State.clrO_keeps ?_ ⟨_, inL hl ?_, O.amcFlags_has _ ?_⟩; rotate_right; (first | exact Fin.isLt _ | omega | (simp only [List.mem_range] at *; omega)); rotate_right; decide +kernel)
    | with_reducible refine Keeps.foldl ?_ ?_
    | intro x

theorem setTail_keeps {l : List Part} {s : State} {a0 : State} {a1 : _} {a2 : _} (h : Keeps l s a0)
    (hl : ([.sent, .hosts, .hpn] : List Part) ⊆ l) : Keeps l s (@State.setTail a0 a1 a2) := by
  unfold State.setTail
  repeat' first
    | with_reducible assumption
    | with_reducible refine Keeps.ite ?_ ?_
    | (with_reducible refine State.hpnNew_keeps ?_ (List.Subset.trans ?_ hl); rotate_right; decide +kernel)
    | (with_reducible refine State.when_keeps ?_ ?_ (List.Subset.trans ?_ hl); rotate_right; decide +kernel)
    | ((with_reducible refine State.modHost_keepsR ?_ ?_ (List.Subset.trans ?_ hl)); rotate_right; decide +kernel; rotate_right; (intro p; first | rfl | exact hf _ | exact HostPort.post_slots _ _ | exact HostPort.post2_slots _ _ _ | exact HostPort.settle_slots _ _ | (split <;> first | rfl | exact hf _ | exact HostPort.post_slots _ _ | exact HostPort.post2_slots _ _ _ | exact HostPort.settle_slots _ _)))
    | intro x

theorem doorbell_keeps {l : List Part} {s : State} {a0 : State} {a1 : _} {a2 : _} (h : Keeps l s a0)
    (hl : ([.hosts, .slots] : List Part) ⊆ l) : Keeps l s (@State.doorbell a0 a1 a2) := by
  unfold State.doorbell
  repeat' first
    | with_reducible assumption
    | with_reducible refine Keeps.ite ?_ ?_
    | (with_reducible refine State.modSlot_keeps ?_ (List.Subset.trans ?_ hl); rotate_right; decide +kernel)
    | (with_reducible refine State.modHost_keeps ?_ (List.Subset.trans ?_ hl); rotate_right; decide +kernel)

theorem releaseSlot_keeps {l : List Part} {s : State} {a0 : State} {a1 : _} {a2 : _} (h : Keeps l s a0)
    (hl : ([.hosts, .slots] : List Part) ⊆ l) : Keeps l s (@State.releaseSlot a0 a1 a2) := by
  unfold State.releaseSlot
  repeat' first
    | with_reducible assumption
    | with_reducible refine Keeps.ite ?_ ?_
    | (with_reducible refine State.modSlot_keeps ?_ (List.Subset.trans ?_ hl); rotate_right; decide +kernel)

theorem orphanAdc_keeps {l : List Part} {s : State} {a0 : State} {a1 : _} (h : Keeps l s a0)
    (hl : ([.adc] : List Part) ⊆ l) : Keeps l s (@State.orphanAdc a0 a1) := by
  unfold State.orphanAdc
  repeat' first
    | with_reducible assumption
    | intro x
    | lift_lets
    | (with_reducible refine Keeps.set_adc ?_ (inL hl ?_); rotate_right; decide +kernel)

theorem setOwner_keeps {l : List Part} {s : State} {a0 : State} {a1 : _} {a2 : _} (h : Keeps l s a0)
    (hl : ([.one O.sysHostLeaseOwner] : List Part) ⊆ l) : Keeps l s (@State.setOwner a0 a1 a2) := by
  unfold State.setOwner
  repeat' first
    | with_reducible assumption
    | (with_reducible refine State.setO_keeps ?_ ⟨_, inL hl ?_, O.sysHostLeaseOwner_has⟩; rotate_right; decide +kernel)

theorem postActive_keeps {l : List Part} {s : State} {a0 : State} {a1 : _} {a2 : _} (h : Keeps l s a0)
    (hl : ([.sent, .hosts, .hpn] : List Part) ⊆ l) : Keeps l s (@State.postActive a0 a1 a2) := by
  unfold State.postActive
  repeat' first
    | with_reducible assumption
    | ((with_reducible refine State.onPorts_keeps ?_ ?_ (List.Subset.trans ?_ hl)); rotate_right; decide +kernel; rotate_right; (intro j p; first | rfl | exact hf _ | exact HostPort.post_slots _ _ | exact HostPort.post2_slots _ _ _ | exact HostPort.settle_slots _ _ | (split <;> first | rfl | exact hf _ | exact HostPort.post_slots _ _ | exact HostPort.post2_slots _ _ _ | exact HostPort.settle_slots _ _)))

theorem endLease_keeps {l : List Part} {s : State} {a0 : State} {a1 : _} {a2 : _} {a3 : _} (h : Keeps l s a0)
    (hl : ([.sent, .hosts, .slots, .disp, .hpn, .one O.sysHostLeaseOwner] : List Part) ⊆ l) : Keeps l s (@State.endLease a0 a1 a2 a3) := by
  unfold State.endLease
  repeat' first
    | with_reducible assumption
    | (intro x; have hx : Keeps l s x := ?_; clear_value x)
    | with_reducible refine Keeps.ite ?_ ?_
    | (with_reducible refine State.endAll_keeps ?_ (List.Subset.trans ?_ hl); rotate_right; decide +kernel)
    | (with_reducible refine State.setOwner_keeps ?_ (List.Subset.trans ?_ hl); rotate_right; decide +kernel)
    | (with_reducible refine State.postActive_keeps ?_ (List.Subset.trans ?_ hl); rotate_right; decide +kernel)
    | (with_reducible refine State.modHost_keeps ?_ (List.Subset.trans ?_ hl); rotate_right; decide +kernel)
    | lift_lets
    | split
    | (with_reducible refine Keeps.set_disp ?_ (inL hl ?_); rotate_right; decide +kernel)

theorem setSession_keeps {l : List Part} {s : State} {a0 : State} {a1 : _} {a2 : _} (h : Keeps l s a0)
    (hl : ([.one O.secSession] : List Part) ⊆ l) : Keeps l s (@State.setSession a0 a1 a2) := by
  unfold State.setSession
  repeat' first
    | with_reducible assumption
    | (with_reducible refine State.setO_keeps ?_ ⟨_, inL hl ?_, O.secSession_has⟩; rotate_right; decide +kernel)

theorem endSession_keeps {l : List Part} {s : State} {a0 : State} {a1 : _} {a2 : _} (h : Keeps l s a0)
    (hl : ([.evLast, .sent, .hosts, .later, .hpn, .sec, .thm, .one O.secSession, .one O.logHead, .one O.logChain, .one O.logCount, .one O.logQueued] : List Part) ⊆ l) : Keeps l s (@State.endSession a0 a1 a2) := by
  unfold State.endSession
  repeat' first
    | with_reducible assumption
    | with_reducible refine Keeps.ite ?_ ?_
    | (with_reducible refine State.setSession_keeps ?_ (List.Subset.trans ?_ hl); rotate_right; decide +kernel)
    | (with_reducible refine State.raise_keeps ?_ (List.Subset.trans ?_ hl); rotate_right; decide +kernel)
    | (with_reducible refine State.audit_keeps ?_ (List.Subset.trans ?_ hl); rotate_right; decide +kernel)

theorem hostReset_keeps {l : List Part} {s : State} {a0 : State} {a1 : _} (h : Keeps l s a0)
    (hl : ([.evLast, .sent, .hosts, .slots, .disp, .later, .adc, .hpn, .sec, .thm, .one O.sysHostPresent, .one O.sysHostLeaseOwner, .one O.secSession, .one O.logHead, .one O.logChain, .one O.logCount, .one O.logQueued] : List Part) ⊆ l) : Keeps l s (@State.hostReset a0 a1) := by
  unfold State.hostReset
  lift_lets
  intro s0 s1 s2 s3 s4 s5 s6
  have h1 : Keeps l s s1 := Keeps.foldl h fun u g _ hu => Keeps.ite (endLease_keeps hu (List.Subset.trans (by decide +kernel) hl)) hu
  clear_value s1
  have h2 : Keeps l s s2 := orphanAdc_keeps (endSession_keeps h1 (List.Subset.trans (by decide +kernel) hl)) (List.Subset.trans (by decide +kernel) hl)
  clear_value s2
  have h3 : Keeps l s s3 := modDisp_keeps h2 (List.Subset.trans (by decide +kernel) hl)
  clear_value s3
  have h4 : Keeps l s s4 := modHost_keeps h3 (List.Subset.trans (by decide +kernel) hl)
  clear_value s4
  have h5 : Keeps l s s5 := clrO_keeps h4 ⟨_, (inL hl (by decide +kernel)), O.sysHostPresent_has⟩
  clear_value s5
  have h6 : Keeps l s s6 := when_keeps h5 (fun u hu => Keeps.set_disp hu (inL hl (by decide +kernel))) (List.Subset.trans (by decide +kernel) hl)
  clear_value s6
  exact onPorts_keeps h6 (fun j p => by split <;> first | rfl | exact HostPort.post_slots _ _) (List.Subset.trans (by decide +kernel) hl)

theorem regSet_keeps {l : List Part} {s : State} {a0 : State} {a1 : _} {a2 : _} {a3 : _} (h : Keeps l s a0)
    (hl : ([.evLast, .sent, .hosts, .slots, .disp, .later, .ctx, .ptg, .adc, .amc, .hpn, .sec, .thm, .one O.sysHostPresent, .one O.sysHostLeaseOwner, .one O.secSession, .one O.logHead, .one O.logChain, .one O.logCount, .one O.logQueued, .fam O.lpeStatus 64, .fam O.amcFlags 6] : List Part) ⊆ l) : Keeps l s (@State.regSet a0 a1 a2 a3) := by
  unfold State.regSet
  repeat' first
    | with_reducible assumption
    | with_reducible refine Keeps.ite ?_ ?_
    | (with_reducible refine State.heldSync_keeps ?_ (List.Subset.trans ?_ hl); rotate_right; decide +kernel)
    | (with_reducible refine State.setTail_keeps ?_ (List.Subset.trans ?_ hl); rotate_right; decide +kernel)
    | (with_reducible refine State.renew_keeps ?_ (List.Subset.trans ?_ hl); rotate_right; decide +kernel)
    | (with_reducible refine State.doorbell_keeps ?_ (List.Subset.trans ?_ hl); rotate_right; decide +kernel)
    | (with_reducible refine State.releaseSlot_keeps ?_ (List.Subset.trans ?_ hl); rotate_right; decide +kernel)
    | (with_reducible refine State.hostReset_keeps ?_ (List.Subset.trans ?_ hl); rotate_right; decide +kernel)
    | (with_reducible refine State.modHost_keeps ?_ (List.Subset.trans ?_ hl); rotate_right; decide +kernel)
    | with_reducible refine Keeps.foldl ?_ ?_
    | intro x

theorem slotBytes_keeps {l : List Part} {s : State} {a0 : State} {a1 : _} {a2 : _} {a3 : _} {a4 : _} (h : Keeps l s a0)
    (hl : ([.hosts, .slots] : List Part) ⊆ l) : Keeps l s (@State.slotBytes a0 a1 a2 a3 a4) := by
  unfold State.slotBytes
  repeat' first
    | with_reducible assumption
    | with_reducible refine Keeps.ite ?_ ?_
    | (with_reducible refine State.modSlot_keeps ?_ (List.Subset.trans ?_ hl); rotate_right; decide +kernel)
    | (with_reducible refine State.modHost_keeps ?_ (List.Subset.trans ?_ hl); rotate_right; decide +kernel)

theorem busWrite_keeps {l : List Part} {s : State} {a0 : State} {a1 : _} {a2 : _} {a3 : _} (h : Keeps l s a0)
    (hl : ([.evLast, .sent, .hosts, .slots, .disp, .later, .ctx, .ptg, .adc, .amc, .hpn, .sec, .thm, .one O.sysHostPresent, .one O.sysHostLeaseOwner, .one O.secSession, .one O.logHead, .one O.logChain, .one O.logCount, .one O.logQueued, .fam O.lpeStatus 64, .fam O.amcFlags 6] : List Part) ⊆ l) : Keeps l s (@State.busWrite a0 a1 a2 a3) := by
  unfold State.busWrite
  repeat' first
    | with_reducible assumption
    | with_reducible refine Keeps.ite ?_ ?_
    | (with_reducible refine State.touch_keeps ?_ (List.Subset.trans ?_ hl); rotate_right; decide +kernel)
    | (with_reducible refine State.regSet_keeps ?_ (List.Subset.trans ?_ hl); rotate_right; decide +kernel)
    | (with_reducible refine State.slotBytes_keeps ?_ (List.Subset.trans ?_ hl); rotate_right; decide +kernel)
    | with_reducible refine Keeps.foldl ?_ ?_
    | intro x

theorem overrange_keeps {l : List Part} {s : State} {a0 : State} {a1 : _} {a2 : _} {a3 : _} (h : Keeps l s a0)
    (hl : ([.evLast, .sent, .hosts, .later, .hpn, .fam O.adcStatus 12] : List Part) ⊆ l) : Keeps l s (@State.overrange a0 a1 a2 a3) := by
  unfold State.overrange
  repeat' first
    | with_reducible assumption
    | with_reducible refine Keeps.ite ?_ ?_
    | (with_reducible refine State.raise_keeps ?_ (List.Subset.trans ?_ hl); rotate_right; decide +kernel)
    | (with_reducible refine State.orO_keeps ?_ ⟨_, inL hl ?_, O.adcStatus_has _ ?_⟩; rotate_right; (first | exact Fin.isLt _ | omega | (simp only [List.mem_range] at *; omega)); rotate_right; decide +kernel)

theorem calOver_keeps {l : List Part} {s : State} {a0 : State} {a1 : _} {a2 : _} {a3 : _} (h : Keeps l s a0)
    (hl : ([.evLast, .sent, .hosts, .later, .hpn, .fam O.adcStatus 12] : List Part) ⊆ l) : Keeps l s (@State.calOver a0 a1 a2 a3) := by
  unfold State.calOver
  repeat' first
    | with_reducible assumption
    | (with_reducible refine State.overrange_keeps ?_ (List.Subset.trans ?_ hl); rotate_right; decide +kernel)
    | split

theorem calDone_keeps {l : List Part} {s : State} {a0 : State} {a1 : _} {a2 : _} {a3 : _} (h : Keeps l s a0)
    (hl : ([.dirty, .evLast, .sent, .hosts, .disp, .later, .dcl, .adc, .hpn, .sec, .thm, .one O.logHead, .one O.logChain, .one O.logCount, .one O.logQueued, .fam O.adcStatus 12, .one O.adcCalResult, .fam O.adcResCal 384] : List Part) ⊆ l) : Keeps l s (@State.calDone a0 a1 a2 a3) := by
  unfold State.calDone
  split
  · exact h
  · refine Keeps.ite h ?_
    lift_lets
    intro le lo even odd clipEven clipOdd s1 s2
    have h1 : Keeps l s s1 := calOver_keeps (calOver_keeps h (List.Subset.trans (by decide +kernel) hl)) (List.Subset.trans (by decide +kernel) hl)
    clear_value s1
    have h2 : Keeps l s s2 := adcIdle_keeps (adcIdle_keeps h1 (List.Subset.trans (by decide +kernel) hl)) (List.Subset.trans (by decide +kernel) hl)
    clear_value s2
    refine Keeps.ite (calEnd_keeps h2 (List.Subset.trans (by decide +kernel) hl)) (Keeps.ite (calEnd_keeps (modAdc_keeps h2 (List.Subset.trans (by decide +kernel) hl)) (List.Subset.trans (by decide +kernel) hl)) ?_)
    split
    · exact calEnd_keeps h2 (List.Subset.trans (by decide +kernel) hl)
    · split
      · lift_lets
        intro own other v id s3
        have h3 : Keeps l s s3 := Keeps.set_dirty (auditObj_keeps h2 (List.Subset.trans (by decide +kernel) hl)) (inL hl (by decide +kernel))
        clear_value s3
        exact calEnd_keeps (hwThreshold_keeps (setO_keeps h3 ⟨_, (inL hl (by decide +kernel)), O.adcResCal_has _ (Nat.mod_lt _ (by decide))⟩) (List.Subset.trans (by decide +kernel) hl)) (List.Subset.trans (by decide +kernel) hl)
      · exact calEnd_keeps h2 (List.Subset.trans (by decide +kernel) hl)
      · exact calEnd_keeps h2 (List.Subset.trans (by decide +kernel) hl)

theorem canOff_keeps {l : List Part} {s : State} {a0 : State} {a1 : _} (h : Keeps l s a0)
    (hl : ([.evLast, .sent, .hosts, .disp, .later, .hpn, .net, .one O.sysLateFlags, .one O.netSessions, .one O.netCycSkipped, .fam O.netCanAddr 4, .fam O.netCanStatus 4] : List Part) ⊆ l) : Keeps l s (@State.canOff a0 a1) := by
  unfold State.canOff
  repeat' first
    | with_reducible assumption
    | with_reducible refine Keeps.ite ?_ ?_
    | (with_reducible refine State.portFlush_keeps ?_ (List.Subset.trans ?_ hl); rotate_right; decide +kernel)
    | (with_reducible refine State.modCan_keeps ?_ (List.Subset.trans ?_ hl); rotate_right; decide +kernel)
    | (with_reducible refine State.endAll_keeps ?_ (List.Subset.trans ?_ hl); rotate_right; decide +kernel)
    | (with_reducible refine State.raise_keeps ?_ (List.Subset.trans ?_ hl); rotate_right; decide +kernel)
    | (with_reducible refine State.addrNone_keeps ?_ (List.Subset.trans ?_ hl); rotate_right; decide +kernel)
    | (with_reducible refine State.when_keeps ?_ ?_ (List.Subset.trans ?_ hl); rotate_right; decide +kernel)
    | (with_reducible refine State.orO_keeps ?_ ⟨_, inL hl ?_, O.netCanStatus_has _ ?_⟩; rotate_right; (first | exact Fin.isLt _ | omega | (simp only [List.mem_range] at *; omega)); rotate_right; decide +kernel)
    | intro x

theorem canPassive_keeps {l : List Part} {s : State} {a0 : State} {a1 : _} {a2 : _} {a3 : _} (h : Keeps l s a0)
    (hl : ([.evLast, .sent, .hosts, .later, .hpn, .fam O.netCanStatus 4] : List Part) ⊆ l) : Keeps l s (@State.canPassive a0 a1 a2 a3) := by
  unfold State.canPassive
  repeat' first
    | with_reducible assumption
    | with_reducible refine Keeps.ite ?_ ?_
    | (with_reducible refine State.setO_keeps ?_ ⟨_, inL hl ?_, O.netCanStatus_has _ ?_⟩; rotate_right; (first | exact Fin.isLt _ | omega | (simp only [List.mem_range] at *; omega)); rotate_right; decide +kernel)
    | (with_reducible refine State.raise_keeps ?_ (List.Subset.trans ?_ hl); rotate_right; decide +kernel)

theorem claimLost_keeps {l : List Part} {s : State} {a0 : State} {a1 : _} (h : Keeps l s a0)
    (hl : ([.evLast, .sent, .hosts, .disp, .later, .hpn, .net, .one O.sysLateFlags, .one O.netSessions, .one O.netCycSkipped, .fam O.netCanAddr 4, .fam O.netCanStatus 4] : List Part) ⊆ l) : Keeps l s (@State.claimLost a0 a1) := by
  unfold State.claimLost
  repeat' first
    | with_reducible assumption
    | (intro x; have hx : Keeps l s x := ?_; clear_value x)
    | (with_reducible refine State.portFlush_keeps ?_ (List.Subset.trans ?_ hl); rotate_right; decide +kernel)
    | (with_reducible refine State.modCan_keeps ?_ (List.Subset.trans ?_ hl); rotate_right; decide +kernel)
    | (with_reducible refine State.claimStart_keeps ?_ (List.Subset.trans ?_ hl); rotate_right; decide +kernel)
    | (with_reducible refine State.raise_keeps ?_ (List.Subset.trans ?_ hl); rotate_right; decide +kernel)
    | (with_reducible refine State.addrNone_keeps ?_ (List.Subset.trans ?_ hl); rotate_right; decide +kernel)
    | intro x
    | lift_lets
    | split

theorem contest_keeps {l : List Part} {s : State} {a0 : State} {a1 : _} {a2 : _} {a3 : _} (h : Keeps l s a0)
    (hl : ([.evLast, .sent, .hosts, .disp, .later, .hpn, .net, .one O.sysLateFlags, .one O.netSessions, .one O.netCycSkipped, .fam O.netCanAddr 4, .fam O.netCanStatus 4] : List Part) ⊆ l) : Keeps l s (@State.contest a0 a1 a2 a3) := by
  unfold State.contest
  repeat' first
    | with_reducible assumption
    | with_reducible refine Keeps.ite ?_ ?_
    | (with_reducible refine State.modCan_keeps ?_ (List.Subset.trans ?_ hl); rotate_right; decide +kernel)
    | (with_reducible refine State.claimLost_keeps ?_ (List.Subset.trans ?_ hl); rotate_right; decide +kernel)
    | (with_reducible refine State.claimFrame_keeps ?_ (List.Subset.trans ?_ hl); rotate_right; decide +kernel)

theorem mapSend_keeps {l : List Part} {s : State} {a0 : State} {a1 : _} {a2 : _} (h : Keeps l s a0)
    (hl : ([.free, .disp, .net, .one O.sysLateFlags, .one O.netSessions, .one O.netCycSkipped] : List Part) ⊆ l) : Keeps l s (@State.mapSend a0 a1 a2) := by
  unfold State.mapSend
  repeat' first
    | with_reducible assumption
    | with_reducible refine Keeps.ite ?_ ?_
    | (with_reducible refine State.sendPg_keeps ?_ (List.Subset.trans ?_ hl); rotate_right; decide +kernel)
    | (with_reducible refine Keeps.set_free ?_ (inL hl ?_); rotate_right; decide +kernel)

theorem requestRx_keeps {l : List Part} {s : State} {a0 : State} {a1 : _} {a2 : _} (h : Keeps l s a0)
    (hl : ([.free, .disp, .net, .one O.sysLateFlags, .one O.netSessions, .one O.netCycSkipped] : List Part) ⊆ l) : Keeps l s (@State.requestRx a0 a1 a2) := by
  unfold State.requestRx
  repeat' first
    | with_reducible assumption
    | with_reducible refine Keeps.ite ?_ ?_
    | (with_reducible refine State.mapSend_keeps ?_ (List.Subset.trans ?_ hl); rotate_right; decide +kernel)
    | (with_reducible refine State.claimFrame_keeps ?_ (List.Subset.trans ?_ hl); rotate_right; decide +kernel)
    | with_reducible refine Keeps.foldl ?_ ?_
    | intro x
    | lift_lets
    | split

theorem store_keeps {l : List Part} {s : State} {a0 : State} {a1 : _} (h : Keeps l s a0)
    (hl : ([.allObjs] : List Part) ⊆ l) : Keeps l s (@State.store a0 a1) := by
  unfold State.store
  exact Keeps.ite h (setO_keeps h ⟨.allObjs, inL hl (by decide +kernel), trivial⟩)

theorem write1_keeps {l : List Part} {s : State} {a0 : State} {a1 : _} {a2 : _} (h : Keeps l s a0)
    (hl : ([.dirty, .evLast, .sent, .hosts, .disp, .later, .forceA, .forceB, .links, .trx, .ctx, .dcl, .ptg, .adc, .pos, .chg, .aux, .amc, .rpk, .hpn, .sec, .thm, .net, .allObjs, .one O.sysXingDropFlags, .one O.sysLateFlags, .fam O.thmT 72, .one O.logHead, .one O.logChain, .one O.logCount, .one O.logQueued, .one O.netSessions, .one O.netCycSkipped, .fam O.netCanAddr 4, .fam O.netCanStatus 4, .fam O.netEthStatus 4, .fam O.trxSpeedReq 4, .fam O.trxState 4, .fam O.trxRule 4, .fam O.trxAngleSrc 4, .fam O.trxSsState 4, .one O.dclState, .one O.dclVLink, .one O.dclVBat, .fam O.lpeUnits 64, .fam O.lpeStatus 64, .fam O.lpeTrState 4, .fam O.lpeTrCount 4, .fam O.adcStatus 12, .fam O.posAngle 4, .fam O.posCount 4, .fam O.posSpeed 4, .fam O.posStatus 4, .one O.chgState, .one O.chgInput, .one O.chgFlags, .one O.chgCause, .one O.chgIInLim, .one O.chgPIn, .one O.auxFlags, .fam O.amcState 6, .fam O.amcSpeed 6, .fam O.amcFlags 6, .one O.rpkState] : List Part) ⊆ l) : Keeps l s (@State.write1 a0 a1 a2) := by
  unfold State.write1
  repeat' first
    | with_reducible assumption
    | with_reducible refine Keeps.ite ?_ ?_
    | (with_reducible refine State.store_keeps ?_ (List.Subset.trans ?_ hl); rotate_right; decide +kernel)
    | (with_reducible refine State.afterWrite_keeps ?_ (List.Subset.trans ?_ hl); rotate_right; decide +kernel)
    | (with_reducible refine State.auditObj_keeps ?_ (List.Subset.trans ?_ hl); rotate_right; decide +kernel)
    | lift_lets
    | (with_reducible refine Keeps.set_dirty ?_ (inL hl ?_); rotate_right; decide +kernel)

theorem netWrite_keeps {l : List Part} {s : State} {a0 : State} {a1 : _} {a2 : _} (h : Keeps l s a0)
    (hl : ([.dirty, .evLast, .sent, .hosts, .disp, .later, .forceA, .forceB, .links, .trx, .ctx, .dcl, .ptg, .adc, .pos, .chg, .aux, .amc, .rpk, .hpn, .sec, .thm, .net, .allObjs, .one O.sysXingDropFlags, .one O.sysLateFlags, .fam O.thmT 72, .one O.logHead, .one O.logChain, .one O.logCount, .one O.logQueued, .one O.netSessions, .one O.netCycSkipped, .fam O.netCanAddr 4, .fam O.netCanStatus 4, .fam O.netEthStatus 4, .fam O.trxSpeedReq 4, .fam O.trxState 4, .fam O.trxRule 4, .fam O.trxAngleSrc 4, .fam O.trxSsState 4, .one O.dclState, .one O.dclVLink, .one O.dclVBat, .fam O.lpeUnits 64, .fam O.lpeStatus 64, .fam O.lpeTrState 4, .fam O.lpeTrCount 4, .fam O.adcStatus 12, .fam O.posAngle 4, .fam O.posCount 4, .fam O.posSpeed 4, .fam O.posStatus 4, .one O.chgState, .one O.chgInput, .one O.chgFlags, .one O.chgCause, .one O.chgIInLim, .one O.chgPIn, .one O.auxFlags, .fam O.amcState 6, .fam O.amcSpeed 6, .fam O.amcFlags 6, .one O.rpkState] : List Part) ⊆ l) : KeepsP l s (@State.netWrite a0 a1 a2) := by
  unfold State.netWrite
  repeat' first
    | with_reducible assumption
    | (with_reducible refine State.write1_keeps ?_ (List.Subset.trans ?_ hl); rotate_right; decide +kernel)
    | intro x
    | lift_lets
    | split
    | with_reducible refine KeepsP.mk ?_

theorem senderError_keeps {l : List Part} {s : State} {a0 : State} {a1 : _} (h : Keeps l s a0)
    (hl : ([.net] : List Part) ⊆ l) : Keeps l s (@State.senderError a0 a1) := by
  unfold State.senderError
  repeat' first
    | with_reducible assumption
    | (with_reducible refine State.pMod_keeps ?_ (List.Subset.trans ?_ hl); rotate_right; decide +kernel)
    | split

theorem mapFeed_keeps {l : List Part} {s : State} {a0 : State} {a1 : _} {a2 : _} {a3 : _} (h : Keeps l s a0)
    (hl : ([.dirty, .free, .evLast, .sent, .hosts, .disp, .later, .forceA, .forceB, .links, .trx, .ctx, .dcl, .ptg, .adc, .pos, .chg, .aux, .amc, .rpk, .hpn, .sec, .thm, .net, .allObjs, .one O.sysXingDropFlags, .one O.sysLateFlags, .fam O.thmT 72, .one O.logHead, .one O.logChain, .one O.logCount, .one O.logQueued, .one O.netSessions, .one O.netCycSkipped, .fam O.netCanAddr 4, .fam O.netCanStatus 4, .fam O.netEthStatus 4, .fam O.trxSpeedReq 4, .fam O.trxState 4, .fam O.trxRule 4, .fam O.trxAngleSrc 4, .fam O.trxSsState 4, .one O.dclState, .one O.dclVLink, .one O.dclVBat, .fam O.lpeUnits 64, .fam O.lpeStatus 64, .fam O.lpeTrState 4, .fam O.lpeTrCount 4, .fam O.adcStatus 12, .fam O.posAngle 4, .fam O.posCount 4, .fam O.posSpeed 4, .fam O.posStatus 4, .one O.chgState, .one O.chgInput, .one O.chgFlags, .one O.chgCause, .one O.chgIInLim, .one O.chgPIn, .one O.auxFlags, .fam O.amcState 6, .fam O.amcSpeed 6, .fam O.amcFlags 6, .one O.rpkState] : List Part) ⊆ l) : Keeps l s (@State.mapFeed a0 a1 a2 a3) := by
  unfold State.mapFeed
  repeat' first
    | with_reducible assumption
    | (intro x; have hx : Keeps l s x := ?_; clear_value x)
    | with_reducible refine Keeps.ite ?_ ?_
    | (with_reducible refine KeepsP.fst (State.netWrite_keeps ?_ (List.Subset.trans ?_ hl)); rotate_right; decide +kernel)
    | (with_reducible refine State.senderError_keeps ?_ (List.Subset.trans ?_ hl); rotate_right; decide +kernel)
    | (with_reducible refine State.takeFree_keeps ?_ (List.Subset.trans ?_ hl); rotate_right; decide +kernel)
    | (with_reducible refine State.modNet_keeps ?_ (List.Subset.trans ?_ hl); rotate_right; decide +kernel)
    | lift_lets
    | split

theorem mapRx_keeps {l : List Part} {s : State} {a0 : State} {a1 : _} {a2 : _} {a3 : _} {a4 : _} {a5 : _} (h : Keeps l s a0)
    (hl : ([.dirty, .free, .evLast, .sent, .hosts, .disp, .later, .forceA, .forceB, .links, .trx, .ctx, .dcl, .ptg, .adc, .pos, .chg, .aux, .amc, .rpk, .hpn, .sec, .thm, .net, .allObjs, .one O.sysXingDropFlags, .one O.sysLateFlags, .fam O.thmT 72, .one O.logHead, .one O.logChain, .one O.logCount, .one O.logQueued, .one O.netSessions, .one O.netCycSkipped, .fam O.netCanAddr 4, .fam O.netCanStatus 4, .fam O.netEthStatus 4, .fam O.trxSpeedReq 4, .fam O.trxState 4, .fam O.trxRule 4, .fam O.trxAngleSrc 4, .fam O.trxSsState 4, .one O.dclState, .one O.dclVLink, .one O.dclVBat, .fam O.lpeUnits 64, .fam O.lpeStatus 64, .fam O.lpeTrState 4, .fam O.lpeTrCount 4, .fam O.adcStatus 12, .fam O.posAngle 4, .fam O.posCount 4, .fam O.posSpeed 4, .fam O.posStatus 4, .one O.chgState, .one O.chgInput, .one O.chgFlags, .one O.chgCause, .one O.chgIInLim, .one O.chgPIn, .one O.auxFlags, .fam O.amcState 6, .fam O.amcSpeed 6, .fam O.amcFlags 6, .one O.rpkState] : List Part) ⊆ l) : Keeps l s (@State.mapRx a0 a1 a2 a3 a4 a5) := by
  unfold State.mapRx
  repeat' first
    | with_reducible assumption
    | (with_reducible refine State.mapFeed_keeps ?_ (List.Subset.trans ?_ hl); rotate_right; decide +kernel)
    | with_reducible refine Keeps.foldl ?_ ?_
    | intro x

theorem rxDrop_keeps {l : List Part} {s : State} {a0 : State} (h : Keeps l s a0)
    (hl : ([.one O.netRxDropped] : List Part) ⊆ l) : Keeps l s (@State.rxDrop a0) := by
  unfold State.rxDrop
  repeat' first
    | with_reducible assumption
    | (with_reducible refine State.incSat_keeps ?_ ⟨_, inL hl ?_, O.netRxDropped_has⟩; rotate_right; decide +kernel)

theorem commandedRx_keeps {l : List Part} {s : State} {a0 : State} {a1 : _} {a2 : _} (h : Keeps l s a0)
    (hl : ([.disp, .net, .one O.sysLateFlags, .one O.netSessions, .one O.netCycSkipped, .fam O.netCanAddr 4, .fam O.netCanStatus 4] : List Part) ⊆ l) : Keeps l s (@State.commandedRx a0 a1 a2) := by
  unfold State.commandedRx
  repeat' first
    | with_reducible assumption
    | with_reducible refine Keeps.ite ?_ ?_
    | (with_reducible refine State.portFlush_keeps ?_ (List.Subset.trans ?_ hl); rotate_right; decide +kernel)
    | (with_reducible refine State.claimStart_keeps ?_ (List.Subset.trans ?_ hl); rotate_right; decide +kernel)
    | split

theorem pgRx_keeps {l : List Part} {s : State} {a0 : State} {a1 : _} {a2 : _} {a3 : _} {a4 : _} {a5 : _} {a6 : _} (h : Keeps l s a0)
    (hl : ([.dirty, .free, .evLast, .sent, .hosts, .disp, .later, .forceA, .forceB, .links, .trx, .ctx, .dcl, .ptg, .adc, .pos, .chg, .aux, .amc, .rpk, .hpn, .sec, .thm, .net, .allObjs, .one O.sysXingDropFlags, .one O.sysLateFlags, .fam O.thmT 72, .one O.logHead, .one O.logChain, .one O.logCount, .one O.logQueued, .one O.netFlags, .one O.netSessions, .one O.netCycSkipped, .one O.netRxDropped, .fam O.netCanAddr 4, .fam O.netCanStatus 4, .fam O.netEthStatus 4, .fam O.trxSpeedReq 4, .fam O.trxState 4, .fam O.trxRule 4, .fam O.trxAngleSrc 4, .fam O.trxSsState 4, .one O.dclState, .one O.dclVLink, .one O.dclVBat, .fam O.lpeUnits 64, .fam O.lpeStatus 64, .fam O.lpeTrState 4, .fam O.lpeTrCount 4, .fam O.adcStatus 12, .fam O.posAngle 4, .fam O.posCount 4, .fam O.posSpeed 4, .fam O.posStatus 4, .one O.chgState, .one O.chgInput, .one O.chgFlags, .one O.chgCause, .one O.chgIInLim, .one O.chgPIn, .one O.auxFlags, .fam O.amcState 6, .fam O.amcSpeed 6, .fam O.amcFlags 6, .one O.rpkState] : List Part) ⊆ l) : Keeps l s (@State.pgRx a0 a1 a2 a3 a4 a5 a6) := by
  unfold State.pgRx
  repeat' first
    | with_reducible assumption
    | with_reducible refine Keeps.ite ?_ ?_
    | (with_reducible refine State.requestRx_keeps ?_ (List.Subset.trans ?_ hl); rotate_right; decide +kernel)
    | (with_reducible refine State.mapRx_keeps ?_ (List.Subset.trans ?_ hl); rotate_right; decide +kernel)
    | (with_reducible refine State.rxDrop_keeps ?_ (List.Subset.trans ?_ hl); rotate_right; decide +kernel)
    | (with_reducible refine State.senderError_keeps ?_ (List.Subset.trans ?_ hl); rotate_right; decide +kernel)
    | (with_reducible refine State.announceRx_keeps ?_ (List.Subset.trans ?_ hl); rotate_right; decide +kernel)
    | (with_reducible refine State.commandedRx_keeps ?_ (List.Subset.trans ?_ hl); rotate_right; decide +kernel)

theorem modSess_keeps {l : List Part} {s : State} {a0 : State} {a1 : _} {a2 : _} (h : Keeps l s a0)
    (hl : ([.net] : List Part) ⊆ l) : Keeps l s (@State.modSess a0 a1 a2) := by
  unfold State.modSess
  repeat' first
    | with_reducible assumption
    | (with_reducible refine State.modNet_keeps ?_ (List.Subset.trans ?_ hl); rotate_right; decide +kernel)

theorem tpCts_keeps {l : List Part} {s : State} {a0 : State} {a1 : _} {a2 : _} {a3 : _} (h : Keeps l s a0)
    (hl : ([.net] : List Part) ⊆ l) : Keeps l s (@State.tpCts a0 a1 a2 a3) := by
  unfold State.tpCts
  repeat' first
    | with_reducible assumption
    | with_reducible refine Keeps.ite ?_ ?_
    | (with_reducible refine State.modSess_keeps ?_ (List.Subset.trans ?_ hl); rotate_right; decide +kernel)
    | (with_reducible refine State.tpSend_keeps ?_ (List.Subset.trans ?_ hl); rotate_right; decide +kernel)
    | (with_reducible refine State.ownFrame_keeps ?_ (List.Subset.trans ?_ hl); rotate_right; decide +kernel)

theorem tpClose_keeps {l : List Part} {s : State} {a0 : State} {a1 : _} {a2 : _} (h : Keeps l s a0)
    (hl : ([.disp, .net, .one O.sysLateFlags, .one O.netSessions, .one O.netCycSkipped] : List Part) ⊆ l) : Keeps l s (@State.tpClose a0 a1 a2) := by
  unfold State.tpClose
  repeat' first
    | with_reducible assumption
    | with_reducible refine Keeps.ite ?_ ?_
    | (with_reducible refine State.txOutcome_keeps ?_ (List.Subset.trans ?_ hl); rotate_right; decide +kernel)
    | (with_reducible refine State.showSess_keeps ?_ (List.Subset.trans ?_ hl); rotate_right; decide +kernel)
    | (with_reducible refine State.modNet_keeps ?_ (List.Subset.trans ?_ hl); rotate_right; decide +kernel)
    | (with_reducible refine State.tpWaiting_keeps ?_ (List.Subset.trans ?_ hl); rotate_right; decide +kernel)

theorem tpClear_keeps {l : List Part} {s : State} {a0 : State} {a1 : _} (h : Keeps l s a0)
    (hl : ([.net] : List Part) ⊆ l) : Keeps l s (@State.tpClear a0 a1) := by
  unfold State.tpClear
  repeat' first
    | with_reducible assumption
    | (with_reducible refine State.modSess_keeps ?_ (List.Subset.trans ?_ hl); rotate_right; decide +kernel)
    | (with_reducible refine State.ownFrame_keeps ?_ (List.Subset.trans ?_ hl); rotate_right; decide +kernel)

theorem tpEnter_keeps {l : List Part} {s : State} {a0 : State} {a1 : _} {a2 : _} {a3 : _} {a4 : _} {a5 : _} {a6 : _} {a7 : _} {a8 : _} {a9 : _} (h : Keeps l s a0)
    (hl : ([.net, .one O.netSessions] : List Part) ⊆ l) : Keeps l s (@State.tpEnter a0 a1 a2 a3 a4 a5 a6 a7 a8 a9) := by
  unfold State.tpEnter
  repeat' first
    | with_reducible assumption
    | with_reducible refine Keeps.ite ?_ ?_
    | (with_reducible refine State.showSess_keeps ?_ (List.Subset.trans ?_ hl); rotate_right; decide +kernel)
    | (with_reducible refine State.tpClear_keeps ?_ (List.Subset.trans ?_ hl); rotate_right; decide +kernel)
    | (with_reducible refine State.modNet_keeps ?_ (List.Subset.trans ?_ hl); rotate_right; decide +kernel)

theorem partnerError_keeps {l : List Part} {s : State} {a0 : State} {a1 : _} {a2 : _} (h : Keeps l s a0)
    (hl : ([.net] : List Part) ⊆ l) : Keeps l s (@State.partnerError a0 a1 a2) := by
  unfold State.partnerError
  repeat' first
    | with_reducible assumption
    | (with_reducible refine State.pMod_keeps ?_ (List.Subset.trans ?_ hl); rotate_right; decide +kernel)
    | split

theorem tpFail_keeps {l : List Part} {s : State} {a0 : State} {a1 : _} (h : Keeps l s a0)
    (hl : ([.disp, .net, .one O.sysLateFlags, .one O.netSessions, .one O.netCycSkipped] : List Part) ⊆ l) : Keeps l s (@State.tpFail a0 a1) := by
  unfold State.tpFail
  repeat' first
    | with_reducible assumption
    | (with_reducible refine State.tpClose_keeps ?_ (List.Subset.trans ?_ hl); rotate_right; decide +kernel)
    | (with_reducible refine State.partnerError_keeps ?_ (List.Subset.trans ?_ hl); rotate_right; decide +kernel)

theorem tpAbort_keeps {l : List Part} {s : State} {a0 : State} {a1 : _} {a2 : _} {a3 : _} {a4 : _} {a5 : _} {a6 : _} (h : Keeps l s a0)
    (hl : ([.net] : List Part) ⊆ l) : Keeps l s (@State.tpAbort a0 a1 a2 a3 a4 a5 a6) := by
  unfold State.tpAbort
  repeat' first
    | with_reducible assumption
    | (with_reducible refine State.ownFrame_keeps ?_ (List.Subset.trans ?_ hl); rotate_right; decide +kernel)

theorem rxDropFrom_keeps {l : List Part} {s : State} {a0 : State} {a1 : _} {a2 : _} (h : Keeps l s a0)
    (hl : ([.net, .one O.netRxDropped] : List Part) ⊆ l) : Keeps l s (@State.rxDropFrom a0 a1 a2) := by
  unfold State.rxDropFrom
  repeat' first
    | with_reducible assumption
    | (with_reducible refine State.partnerError_keeps ?_ (List.Subset.trans ?_ hl); rotate_right; decide +kernel)
    | (with_reducible refine State.rxDrop_keeps ?_ (List.Subset.trans ?_ hl); rotate_right; decide +kernel)

theorem tpRequest_keeps {l : List Part} {s : State} {a0 : State} {a1 : _} {a2 : _} {a3 : _} {a4 : _} {a5 : _} {a6 : _} {a7 : _} {a8 : _} {a9 : _} (h : Keeps l s a0)
    (hl : ([.disp, .net, .one O.sysLateFlags, .one O.netSessions, .one O.netCycSkipped, .one O.netRxDropped] : List Part) ⊆ l) : Keeps l s (@State.tpRequest a0 a1 a2 a3 a4 a5 a6 a7 a8 a9) := by
  unfold State.tpRequest
  repeat' first
    | with_reducible assumption
    | with_reducible refine Keeps.ite ?_ ?_
    | (with_reducible refine State.tpAbort_keeps ?_ (List.Subset.trans ?_ hl); rotate_right; decide +kernel)
    | (with_reducible refine State.tpClose_keeps ?_ (List.Subset.trans ?_ hl); rotate_right; decide +kernel)
    | (with_reducible refine State.tpEnter_keeps ?_ (List.Subset.trans ?_ hl); rotate_right; decide +kernel)
    | (with_reducible refine State.rxDropFrom_keeps ?_ (List.Subset.trans ?_ hl); rotate_right; decide +kernel)
    | lift_lets
    | split

theorem tpControl_keeps {l : List Part} {s : State} {a0 : State} {a1 : _} {a2 : _} {a3 : _} {a4 : _} {a5 : _} {a6 : _} {a7 : _} (h : Keeps l s a0)
    (hl : ([.disp, .net, .one O.sysLateFlags, .one O.netSessions, .one O.netCycSkipped, .one O.netRxDropped] : List Part) ⊆ l) : Keeps l s (@State.tpControl a0 a1 a2 a3 a4 a5 a6 a7) := by
  unfold State.tpControl
  repeat' first
    | with_reducible assumption
    | with_reducible refine Keeps.ite ?_ ?_
    | (with_reducible refine State.tpCts_keeps ?_ (List.Subset.trans ?_ hl); rotate_right; decide +kernel)
    | (with_reducible refine State.modSess_keeps ?_ (List.Subset.trans ?_ hl); rotate_right; decide +kernel)
    | (with_reducible refine State.tpClose_keeps ?_ (List.Subset.trans ?_ hl); rotate_right; decide +kernel)
    | (with_reducible refine State.tpEnter_keeps ?_ (List.Subset.trans ?_ hl); rotate_right; decide +kernel)
    | (with_reducible refine State.tpFail_keeps ?_ (List.Subset.trans ?_ hl); rotate_right; decide +kernel)
    | (with_reducible refine State.tpRequest_keeps ?_ (List.Subset.trans ?_ hl); rotate_right; decide +kernel)
    | (with_reducible refine State.rxDropFrom_keeps ?_ (List.Subset.trans ?_ hl); rotate_right; decide +kernel)
    | lift_lets
    | split

theorem tpData_keeps {l : List Part} {s : State} {a0 : State} {a1 : _} {a2 : _} {a3 : _} {a4 : _} {a5 : _} (h : Keeps l s a0)
    (hl : ([.dirty, .free, .evLast, .sent, .hosts, .disp, .later, .forceA, .forceB, .links, .trx, .ctx, .dcl, .ptg, .adc, .pos, .chg, .aux, .amc, .rpk, .hpn, .sec, .thm, .net, .allObjs, .one O.sysXingDropFlags, .one O.sysLateFlags, .fam O.thmT 72, .one O.logHead, .one O.logChain, .one O.logCount, .one O.logQueued, .one O.netFlags, .one O.netSessions, .one O.netCycSkipped, .one O.netRxDropped, .fam O.netCanAddr 4, .fam O.netCanStatus 4, .fam O.netEthStatus 4, .fam O.trxSpeedReq 4, .fam O.trxState 4, .fam O.trxRule 4, .fam O.trxAngleSrc 4, .fam O.trxSsState 4, .one O.dclState, .one O.dclVLink, .one O.dclVBat, .fam O.lpeUnits 64, .fam O.lpeStatus 64, .fam O.lpeTrState 4, .fam O.lpeTrCount 4, .fam O.adcStatus 12, .fam O.posAngle 4, .fam O.posCount 4, .fam O.posSpeed 4, .fam O.posStatus 4, .one O.chgState, .one O.chgInput, .one O.chgFlags, .one O.chgCause, .one O.chgIInLim, .one O.chgPIn, .one O.auxFlags, .fam O.amcState 6, .fam O.amcSpeed 6, .fam O.amcFlags 6, .one O.rpkState] : List Part) ⊆ l) : Keeps l s (@State.tpData a0 a1 a2 a3 a4 a5) := by
  unfold State.tpData
  repeat' first
    | with_reducible assumption
    | with_reducible refine Keeps.ite ?_ ?_
    | (with_reducible refine State.modSess_keeps ?_ (List.Subset.trans ?_ hl); rotate_right; decide +kernel)
    | (with_reducible refine State.tpAbort_keeps ?_ (List.Subset.trans ?_ hl); rotate_right; decide +kernel)
    | (with_reducible refine State.tpClose_keeps ?_ (List.Subset.trans ?_ hl); rotate_right; decide +kernel)
    | (with_reducible refine State.pgRx_keeps ?_ (List.Subset.trans ?_ hl); rotate_right; decide +kernel)
    | (with_reducible refine State.tpFail_keeps ?_ (List.Subset.trans ?_ hl); rotate_right; decide +kernel)
    | (with_reducible refine State.ownFrame_keeps ?_ (List.Subset.trans ?_ hl); rotate_right; decide +kernel)
    | (with_reducible refine State.tpClear_keeps ?_ (List.Subset.trans ?_ hl); rotate_right; decide +kernel)
    | lift_lets
    | split

theorem freeAlias_keeps {l : List Part} {s : State} {a0 : State} {a1 : _} (h : Keeps l s a0)
    (hl : ([.net, .one O.netPartners, .one O.netEntries] : List Part) ⊆ l) : Keeps l s (@State.freeAlias a0 a1) := by
  unfold State.freeAlias
  repeat' first
    | with_reducible assumption
    | (intro x; have hx : Keeps l s x := ?_; clear_value x)
    | (with_reducible refine State.putTable_keeps ?_ (List.Subset.trans ?_ hl); rotate_right; decide +kernel)
    | (with_reducible refine State.pMod_keeps ?_ (List.Subset.trans ?_ hl); rotate_right; decide +kernel)
    | lift_lets
    | split

theorem claimFrees_keeps {l : List Part} {s : State} {a0 : State} {a1 : _} {a2 : _} {a3 : _} (h : Keeps l s a0)
    (hl : ([.evLast, .sent, .hosts, .later, .hpn, .net, .one O.netPartners, .one O.netEntries] : List Part) ⊆ l) : Keeps l s (@State.claimFrees a0 a1 a2 a3) := by
  unfold State.claimFrees
  repeat' first
    | with_reducible assumption
    | (intro x; have hx : Keeps l s x := ?_; clear_value x)
    | with_reducible refine Keeps.ite ?_ ?_
    | (with_reducible refine State.freeAlias_keeps ?_ (List.Subset.trans ?_ hl); rotate_right; decide +kernel)
    | (with_reducible refine State.raise_keeps ?_ (List.Subset.trans ?_ hl); rotate_right; decide +kernel)
    | (with_reducible refine State.pMod_keeps ?_ (List.Subset.trans ?_ hl); rotate_right; decide +kernel)
    | (with_reducible refine State.partnerDrop_keeps ?_ (List.Subset.trans ?_ hl); rotate_right; decide +kernel)
    | lift_lets
    | split

theorem newPartner_keeps {l : List Part} {s : State} {a0 : State} {a1 : _} {a2 : _} {a3 : _} {a4 : _} {a5 : _} (h : Keeps l s a0)
    (hl : ([.evLast, .sent, .hosts, .later, .hpn, .net, .one O.netFlags, .one O.netPartners, .one O.netEntries] : List Part) ⊆ l) : KeepsP l s (@State.newPartner a0 a1 a2 a3 a4 a5) := by
  unfold State.newPartner
  have hr : KeepsP l s (a0.makeRoom true) := makeRoom_keeps h (List.Subset.trans (by decide +kernel) hl)
  revert hr
  generalize a0.makeRoom true = r
  intro hr
  refine KeepsP.ite ?_ (KeepsP.mk hr.fst)
  have he : KeepsP l s (r.1.newEntry (blankPartner a1)) := newEntry_keeps hr.fst (List.Subset.trans (by decide +kernel) hl)
  exact bindAlias_keeps he.fst (List.Subset.trans (by decide +kernel) hl)

theorem claimBinds_keeps {l : List Part} {s : State} {a0 : State} {a1 : _} {a2 : _} {a3 : _} (h : Keeps l s a0)
    (hl : ([.evLast, .sent, .hosts, .later, .hpn, .net, .one O.netFlags, .one O.netPartners, .one O.netEntries] : List Part) ⊆ l) : Keeps l s (@State.claimBinds a0 a1 a2 a3) := by
  unfold State.claimBinds
  repeat' first
    | with_reducible assumption
    | (intro x; have hx : Keeps l s x := ?_; clear_value x)
    | (with_reducible refine KeepsP.fst (State.bindAlias_keeps ?_ (List.Subset.trans ?_ hl)); rotate_right; decide +kernel)
    | (with_reducible refine State.claimFrees_keeps ?_ (List.Subset.trans ?_ hl); rotate_right; decide +kernel)
    | (with_reducible refine State.pMod_keeps ?_ (List.Subset.trans ?_ hl); rotate_right; decide +kernel)
    | (with_reducible refine KeepsP.fst (State.newPartner_keeps ?_ (List.Subset.trans ?_ hl)); rotate_right; decide +kernel)
    | lift_lets
    | split

theorem heard_keeps {l : List Part} {s : State} {a0 : State} {a1 : _} {a2 : _} (h : Keeps l s a0)
    (hl : ([.evLast, .sent, .hosts, .later, .hpn, .net] : List Part) ⊆ l) : Keeps l s (@State.heard a0 a1 a2) := by
  unfold State.heard
  repeat' first
    | with_reducible assumption
    | with_reducible refine Keeps.ite ?_ ?_
    | (with_reducible refine State.netEvent_keeps ?_ (List.Subset.trans ?_ hl); rotate_right; decide +kernel)
    | (with_reducible refine State.pMod_keeps ?_ (List.Subset.trans ?_ hl); rotate_right; decide +kernel)
    | intro x
    | lift_lets
    | split

theorem trackCan_keeps {l : List Part} {s : State} {a0 : State} {a1 : _} {a2 : _} {a3 : _} (h : Keeps l s a0)
    (hl : ([.evLast, .sent, .hosts, .later, .hpn, .net, .one O.netFlags, .one O.netPartners, .one O.netEntries] : List Part) ⊆ l) : Keeps l s (@State.trackCan a0 a1 a2 a3) := by
  unfold State.trackCan
  repeat' first
    | with_reducible assumption
    | (intro x; have hx : KeepsP l s x := ?_; clear_value x)
    | with_reducible exact KeepsP.fst (by with_reducible assumption)
    | with_reducible refine Keeps.ite ?_ ?_
    | (with_reducible refine State.heard_keeps ?_ (List.Subset.trans ?_ hl); rotate_right; decide +kernel)
    | (with_reducible refine State.newPartner_keeps ?_ (List.Subset.trans ?_ hl); rotate_right; decide +kernel)
    | lift_lets
    | split

theorem loadTake_keeps {l : List Part} {s : State} {a0 : State} (h : Keeps l s a0)
    (hl : ([.net] : List Part) ⊆ l) : KeepsP l s (@State.loadTake a0) := by
  unfold State.loadTake
  repeat' first
    | with_reducible assumption
    | (intro x; have hx : Keeps l s x := ?_; clear_value x)
    | with_reducible refine Keeps.ite ?_ ?_
    | (with_reducible refine State.modNet_keeps ?_ (List.Subset.trans ?_ hl); rotate_right; decide +kernel)
    | lift_lets
    | with_reducible refine KeepsP.mk ?_

theorem canProcess_keeps {l : List Part} {s : State} {a0 : State} {a1 : _} {a2 : _} {a3 : _} {a4 : _} (h : Keeps l s a0)
    (hl : ([.dirty, .free, .evLast, .sent, .hosts, .disp, .later, .forceA, .forceB, .links, .trx, .ctx, .dcl, .ptg, .adc, .pos, .chg, .aux, .amc, .rpk, .hpn, .sec, .thm, .net, .allObjs, .one O.sysXingDropFlags, .one O.sysLateFlags, .fam O.thmT 72, .one O.logHead, .one O.logChain, .one O.logCount, .one O.logQueued, .one O.netFlags, .one O.netPartners, .one O.netEntries, .one O.netSessions, .one O.netCycSkipped, .one O.netRxDropped, .fam O.netCanAddr 4, .fam O.netCanStatus 4, .fam O.netEthStatus 4, .fam O.trxSpeedReq 4, .fam O.trxState 4, .fam O.trxRule 4, .fam O.trxAngleSrc 4, .fam O.trxSsState 4, .one O.dclState, .one O.dclVLink, .one O.dclVBat, .fam O.lpeUnits 64, .fam O.lpeStatus 64, .fam O.lpeTrState 4, .fam O.lpeTrCount 4, .fam O.adcStatus 12, .fam O.posAngle 4, .fam O.posCount 4, .fam O.posSpeed 4, .fam O.posStatus 4, .one O.chgState, .one O.chgInput, .one O.chgFlags, .one O.chgCause, .one O.chgIInLim, .one O.chgPIn, .one O.auxFlags, .fam O.amcState 6, .fam O.amcSpeed 6, .fam O.amcFlags 6, .one O.rpkState] : List Part) ⊆ l) : Keeps l s (@State.canProcess a0 a1 a2 a3 a4) := by
  unfold State.canProcess
  repeat' first
    | with_reducible assumption
    | with_reducible refine Keeps.ite ?_ ?_
    | (with_reducible refine State.contest_keeps ?_ (List.Subset.trans ?_ hl); rotate_right; decide +kernel)
    | (with_reducible refine State.pgRx_keeps ?_ (List.Subset.trans ?_ hl); rotate_right; decide +kernel)
    | (with_reducible refine State.tpControl_keeps ?_ (List.Subset.trans ?_ hl); rotate_right; decide +kernel)
    | (with_reducible refine State.tpData_keeps ?_ (List.Subset.trans ?_ hl); rotate_right; decide +kernel)
    | (with_reducible refine State.claimBinds_keeps ?_ (List.Subset.trans ?_ hl); rotate_right; decide +kernel)
    | (with_reducible refine State.trackCan_keeps ?_ (List.Subset.trans ?_ hl); rotate_right; decide +kernel)
    | (with_reducible refine State.rxDropFrom_keeps ?_ (List.Subset.trans ?_ hl); rotate_right; decide +kernel)
    | (with_reducible refine KeepsP.fst (State.loadTake_keeps ?_ (List.Subset.trans ?_ hl)); rotate_right; decide +kernel)

theorem canRecover_keeps {l : List Part} {s : State} {a0 : State} {a1 : _} (h : Keeps l s a0)
    (hl : ([.evLast, .sent, .hosts, .disp, .later, .hpn, .net, .one O.sysLateFlags, .one O.netSessions, .one O.netCycSkipped, .fam O.netCanAddr 4, .fam O.netCanStatus 4] : List Part) ⊆ l) : Keeps l s (@State.canRecover a0 a1) := by
  unfold State.canRecover
  repeat' first
    | with_reducible assumption
    | with_reducible refine Keeps.ite ?_ ?_
    | (with_reducible refine State.setO_keeps ?_ ⟨_, inL hl ?_, O.netCanStatus_has _ ?_⟩; rotate_right; (first | exact Fin.isLt _ | omega | (simp only [List.mem_range] at *; omega)); rotate_right; decide +kernel)
    | (with_reducible refine State.raise_keeps ?_ (List.Subset.trans ?_ hl); rotate_right; decide +kernel)
    | (with_reducible refine State.canStart_keeps ?_ (List.Subset.trans ?_ hl); rotate_right; decide +kernel)

theorem canRx_keeps {l : List Part} {s : State} {a0 : State} {a1 : _} {a2 : _} {a3 : _} {a4 : _} {a5 : _} (h : Keeps l s a0)
    (hl : ([.dirty, .free, .evLast, .sent, .hosts, .disp, .later, .forceA, .forceB, .links, .trx, .ctx, .dcl, .ptg, .adc, .pos, .chg, .aux, .amc, .rpk, .hpn, .sec, .thm, .net, .allObjs, .one O.sysXingDropFlags, .one O.sysLateFlags, .fam O.thmT 72, .one O.logHead, .one O.logChain, .one O.logCount, .one O.logQueued, .one O.netFlags, .one O.netPartners, .one O.netEntries, .one O.netSessions, .one O.netCycSkipped, .one O.netRxDropped, .fam O.netCanAddr 4, .fam O.netCanStatus 4, .fam O.netEthStatus 4, .fam O.trxSpeedReq 4, .fam O.trxState 4, .fam O.trxRule 4, .fam O.trxAngleSrc 4, .fam O.trxSsState 4, .one O.dclState, .one O.dclVLink, .one O.dclVBat, .fam O.lpeUnits 64, .fam O.lpeStatus 64, .fam O.lpeTrState 4, .fam O.lpeTrCount 4, .fam O.adcStatus 12, .fam O.posAngle 4, .fam O.posCount 4, .fam O.posSpeed 4, .fam O.posStatus 4, .one O.chgState, .one O.chgInput, .one O.chgFlags, .one O.chgCause, .one O.chgIInLim, .one O.chgPIn, .one O.auxFlags, .fam O.amcState 6, .fam O.amcSpeed 6, .fam O.amcFlags 6, .one O.rpkState] : List Part) ⊆ l) : Keeps l s (@State.canRx a0 a1 a2 a3 a4 a5) := by
  unfold State.canRx
  repeat' first
    | with_reducible assumption
    | with_reducible refine Keeps.ite ?_ ?_
    | (with_reducible refine State.canProcess_keeps ?_ (List.Subset.trans ?_ hl); rotate_right; decide +kernel)
    | (with_reducible refine State.rxDrop_keeps ?_ (List.Subset.trans ?_ hl); rotate_right; decide +kernel)
    | (with_reducible refine State.send_keeps ?_ (List.Subset.trans ?_ hl); rotate_right; decide +kernel)
    | lift_lets
    | split

theorem cannotClaim_keeps {l : List Part} {s : State} {a0 : State} {a1 : _} (h : Keeps l s a0)
    (hl : ([.evLast, .sent, .hosts, .disp, .later, .hpn, .net] : List Part) ⊆ l) : Keeps l s (@State.cannotClaim a0 a1) := by
  unfold State.cannotClaim
  repeat' first
    | with_reducible assumption
    | with_reducible refine Keeps.ite ?_ ?_
    | (with_reducible refine State.modCan_keeps ?_ (List.Subset.trans ?_ hl); rotate_right; decide +kernel)
    | (with_reducible refine State.endAll_keeps ?_ (List.Subset.trans ?_ hl); rotate_right; decide +kernel)
    | (with_reducible refine State.raise_keeps ?_ (List.Subset.trans ?_ hl); rotate_right; decide +kernel)
    | (with_reducible refine State.claimFrame_keeps ?_ (List.Subset.trans ?_ hl); rotate_right; decide +kernel)

theorem modCopy_keeps {l : List Part} {s : State} {a0 : State} {a1 : _} {a2 : _} (h : Keeps l s a0)
    (hl : ([.ptg] : List Part) ⊆ l) : Keeps l s (@State.modCopy a0 a1 a2) := by
  unfold State.modCopy
  repeat' first
    | with_reducible assumption
    | (with_reducible refine State.modPtg_keeps ?_ (List.Subset.trans ?_ hl); rotate_right; decide +kernel)

theorem setPins_keeps {l : List Part} {s : State} {a0 : State} {a1 : _} (h : Keeps l s a0)
    (hl : ([.ptg] : List Part) ⊆ l) : Keeps l s (@State.setPins a0 a1) := by
  unfold State.setPins
  repeat' first
    | with_reducible assumption
    | (with_reducible refine State.modCopy_keeps ?_ (List.Subset.trans ?_ hl); rotate_right; decide +kernel)

theorem safeSwitching_keeps {l : List Part} {s : State} {a0 : State} {a1 : _} (h : Keeps l s a0)
    (hl : ([.evLast, .sent, .hosts, .disp, .later, .links, .trx, .ctx, .ptg, .hpn, .one O.sysXingDropFlags, .fam O.trxState 4, .fam O.trxFault 4, .fam O.trxAngleSrc 4, .fam O.lpeStatus 64, .fam O.lpeTrState 4, .fam O.lpeTrCount 4] : List Part) ⊆ l) : Keeps l s (@State.safeSwitching a0 a1) := by
  unfold State.safeSwitching
  repeat' first
    | with_reducible assumption
    | with_reducible refine Keeps.ite ?_ ?_
    | (with_reducible refine State.trxFail_keeps ?_ (List.Subset.trans ?_ hl); rotate_right; decide +kernel)
    | with_reducible refine Keeps.foldl ?_ ?_
    | intro x

theorem ptgFault_keeps {l : List Part} {s : State} {a0 : State} {a1 : _} (h : Keeps l s a0)
    (hl : ([.evLast, .sent, .hosts, .disp, .later, .forceA, .forceB, .links, .trx, .ctx, .ptg, .adc, .chg, .hpn, .thm, .bst, .pwr, .one O.sysXingDropFlags, .fam O.trxState 4, .fam O.trxFault 4, .fam O.trxAngleSrc 4, .fam O.lpeStatus 64, .fam O.lpeTrState 4, .fam O.lpeTrCount 4, .fam O.adcStatus 12, .one O.chgState, .one O.chgInput, .one O.chgFlags, .one O.chgCause, .one O.chgIInLim, .one O.chgPIn, .one O.ptgState, .one O.ptgFlags, .one O.ptgFaultCause, .one O.ptgSplitCopy, .one O.bstState, .one O.bstLast] : List Part) ⊆ l) : Keeps l s (@State.ptgFault a0 a1) := by
  unfold State.ptgFault
  repeat' first
    | with_reducible assumption
    | with_reducible refine Keeps.ite ?_ ?_
    | (with_reducible refine State.modPwr_keeps ?_ (List.Subset.trans ?_ hl); rotate_right; decide +kernel)
    | (with_reducible refine State.applySc_keeps ?_ (List.Subset.trans ?_ hl); rotate_right; decide +kernel)
    | (with_reducible refine State.setPins_keeps ?_ (List.Subset.trans ?_ hl); rotate_right; decide +kernel)
    | (with_reducible refine State.safeSwitching_keeps ?_ (List.Subset.trans ?_ hl); rotate_right; decide +kernel)
    | (with_reducible refine State.setO_keeps ?_ ⟨_, inL hl ?_, O.ptgFaultCause_has⟩; rotate_right; decide +kernel)
    | (with_reducible refine State.setO_keeps ?_ ⟨_, inL hl ?_, O.ptgSplitCopy_has⟩; rotate_right; decide +kernel)
    | (with_reducible refine State.setO_keeps ?_ ⟨_, inL hl ?_, O.ptgState_has⟩; rotate_right; decide +kernel)
    | (with_reducible refine State.endAll_keeps ?_ (List.Subset.trans ?_ hl); rotate_right; decide +kernel)
    | (with_reducible refine State.raise_keeps ?_ (List.Subset.trans ?_ hl); rotate_right; decide +kernel)
    | (with_reducible refine State.chgStopFor_keeps ?_ (List.Subset.trans ?_ hl); rotate_right; decide +kernel)
    | (with_reducible refine State.modPtg_keeps ?_ (List.Subset.trans ?_ hl); rotate_right; decide +kernel)
    | (with_reducible refine State.bstAbort_keeps ?_ (List.Subset.trans ?_ hl); rotate_right; decide +kernel)
    | (with_reducible refine State.orO_keeps ?_ ⟨_, inL hl ?_, O.ptgFlags_has⟩; rotate_right; decide +kernel)

theorem checkMiss_keeps {l : List Part} {s : State} {a0 : State} {a1 : _} (h : Keeps l s a0)
    (hl : ([.evLast, .sent, .hosts, .disp, .later, .forceA, .forceB, .links, .trx, .ctx, .ptg, .adc, .chg, .hpn, .thm, .bst, .pwr, .one O.sysXingDropFlags, .one O.sysLateFlags, .fam O.trxState 4, .fam O.trxFault 4, .fam O.trxAngleSrc 4, .fam O.lpeStatus 64, .fam O.lpeTrState 4, .fam O.lpeTrCount 4, .fam O.adcStatus 12, .one O.chgState, .one O.chgInput, .one O.chgFlags, .one O.chgCause, .one O.chgIInLim, .one O.chgPIn, .one O.ptgState, .one O.ptgFlags, .one O.ptgFaultCause, .one O.ptgMisses, .one O.ptgSplitCopy, .one O.bstState, .one O.bstLast] : List Part) ⊆ l) : Keeps l s (@State.checkMiss a0 a1) := by
  unfold State.checkMiss
  repeat' first
    | with_reducible assumption
    | with_reducible refine Keeps.ite ?_ ?_
    | (with_reducible refine State.ptgFault_keeps ?_ (List.Subset.trans ?_ hl); rotate_right; decide +kernel)
    | (with_reducible refine State.setO_keeps ?_ ⟨_, inL hl ?_, O.ptgMisses_has⟩; rotate_right; decide +kernel)
    | (with_reducible refine State.modCopy_keeps ?_ (List.Subset.trans ?_ hl); rotate_right; decide +kernel)
    | (with_reducible refine State.orO_keeps ?_ ⟨_, inL hl ?_, O.ptgFlags_has⟩; rotate_right; decide +kernel)
    | (with_reducible refine State.orO_keeps ?_ ⟨_, inL hl ?_, O.sysLateFlags_has⟩; rotate_right; decide +kernel)

theorem copyFold_keeps {l : List Part} {s : State} {a0 : State} {a1 : _} {a2 : _} (h : Keeps l s a0)
    (hl : ([.ptg] : List Part) ⊆ l) : Keeps l s (@State.copyFold a0 a1 a2) := by
  unfold State.copyFold
  repeat' first
    | with_reducible assumption
    | (with_reducible refine State.modCopy_keeps ?_ (List.Subset.trans ?_ hl); rotate_right; decide +kernel)

theorem hvilSample_keeps {l : List Part} {s : State} {a0 : State} {a1 : _} {a2 : _} (h : Keeps l s a0)
    (hl : ([.dcl] : List Part) ⊆ l) : Keeps l s (@State.hvilSample a0 a1 a2) := by
  unfold State.hvilSample
  repeat' first
    | with_reducible assumption
    | with_reducible refine Keeps.ite ?_ ?_
    | (with_reducible refine State.modDcl_keeps ?_ (List.Subset.trans ?_ hl); rotate_right; decide +kernel)

theorem windowEnd_keeps {l : List Part} {s : State} {a0 : State} (h : Keeps l s a0)
    (hl : ([.ptg] : List Part) ⊆ l) : Keeps l s (@State.windowEnd a0) := by
  unfold State.windowEnd
  repeat' first
    | with_reducible assumption
    | (with_reducible refine State.modCopy_keeps ?_ (List.Subset.trans ?_ hl); rotate_right; decide +kernel)
    | (with_reducible refine State.modPtg_keeps ?_ (List.Subset.trans ?_ hl); rotate_right; decide +kernel)

theorem readWords_keeps {l : List Part} {s : State} {a0 : State} (h : Keeps l s a0)
    (hl : ([.ptg] : List Part) ⊆ l) : Keeps l s (@State.readWords a0) := by
  unfold State.readWords
  repeat' first
    | with_reducible assumption
    | (with_reducible refine State.modPtg_keeps ?_ (List.Subset.trans ?_ hl); rotate_right; decide +kernel)

theorem splitBegin_keeps {l : List Part} {s : State} {a0 : State} {a1 : _} (h : Keeps l s a0)
    (hl : ([.evLast, .sent, .hosts, .disp, .later, .ptg, .hpn, .one O.ptgState, .one O.ptgSplitCopy] : List Part) ⊆ l) : Keeps l s (@State.splitBegin a0 a1) := by
  unfold State.splitBegin
  repeat' first
    | with_reducible assumption
    | (with_reducible refine State.setO_keeps ?_ ⟨_, inL hl ?_, O.ptgSplitCopy_has⟩; rotate_right; decide +kernel)
    | (with_reducible refine State.setO_keeps ?_ ⟨_, inL hl ?_, O.ptgState_has⟩; rotate_right; decide +kernel)
    | (with_reducible refine State.endAll_keeps ?_ (List.Subset.trans ?_ hl); rotate_right; decide +kernel)
    | (with_reducible refine State.raise_keeps ?_ (List.Subset.trans ?_ hl); rotate_right; decide +kernel)
    | (with_reducible refine State.modPtg_keeps ?_ (List.Subset.trans ?_ hl); rotate_right; decide +kernel)

theorem joinBegin_keeps {l : List Part} {s : State} {a0 : State} (h : Keeps l s a0)
    (hl : ([.evLast, .sent, .hosts, .disp, .later, .forceA, .forceB, .links, .trx, .ctx, .ptg, .adc, .chg, .hpn, .thm, .bst, .pwr, .one O.sysXingDropFlags, .fam O.trxState 4, .fam O.trxFault 4, .fam O.trxAngleSrc 4, .fam O.lpeStatus 64, .fam O.lpeTrState 4, .fam O.lpeTrCount 4, .fam O.adcStatus 12, .one O.chgState, .one O.chgInput, .one O.chgFlags, .one O.chgCause, .one O.chgIInLim, .one O.chgPIn, .one O.ptgState, .one O.ptgFlags, .one O.ptgFaultCause, .one O.ptgSplitCopy, .one O.bstState, .one O.bstLast] : List Part) ⊆ l) : Keeps l s (@State.joinBegin a0) := by
  unfold State.joinBegin
  repeat' first
    | with_reducible assumption
    | with_reducible refine Keeps.ite ?_ ?_
    | (with_reducible refine State.ptgFault_keeps ?_ (List.Subset.trans ?_ hl); rotate_right; decide +kernel)
    | (with_reducible refine State.setO_keeps ?_ ⟨_, inL hl ?_, O.ptgState_has⟩; rotate_right; decide +kernel)
    | (with_reducible refine State.raise_keeps ?_ (List.Subset.trans ?_ hl); rotate_right; decide +kernel)
    | (with_reducible refine State.underWay_keeps ?_ (List.Subset.trans ?_ hl); rotate_right; decide +kernel)
    | (with_reducible refine State.modPtg_keeps ?_ (List.Subset.trans ?_ hl); rotate_right; decide +kernel)
    | (with_reducible refine State.orO_keeps ?_ ⟨_, inL hl ?_, O.ptgFlags_has⟩; rotate_right; decide +kernel)

theorem joinCopy_keeps {l : List Part} {s : State} {a0 : State} (h : Keeps l s a0)
    (hl : ([.trx, .dcl, .ptg] : List Part) ⊆ l) : Keeps l s (@State.joinCopy a0) := by
  unfold State.joinCopy
  repeat' first
    | with_reducible assumption
    | (with_reducible refine State.modDcl_keeps ?_ (List.Subset.trans ?_ hl); rotate_right; decide +kernel)
    | (with_reducible refine State.modPtg_keeps ?_ (List.Subset.trans ?_ hl); rotate_right; decide +kernel)
    | lift_lets
    | (with_reducible refine Keeps.set_trx ?_ (inL hl ?_); rotate_right; decide +kernel)

theorem windowBegin_keeps {l : List Part} {s : State} {a0 : State} (h : Keeps l s a0)
    (hl : ([.evLast, .sent, .hosts, .disp, .later, .forceA, .forceB, .links, .trx, .ctx, .dcl, .ptg, .adc, .chg, .hpn, .thm, .bst, .pwr, .one O.sysXingDropFlags, .fam O.trxState 4, .fam O.trxFault 4, .fam O.trxAngleSrc 4, .fam O.lpeStatus 64, .fam O.lpeTrState 4, .fam O.lpeTrCount 4, .fam O.adcStatus 12, .one O.chgState, .one O.chgInput, .one O.chgFlags, .one O.chgCause, .one O.chgIInLim, .one O.chgPIn, .one O.ptgState, .one O.ptgFlags, .one O.ptgFaultCause, .one O.ptgSplitCopy, .one O.bstState, .one O.bstLast] : List Part) ⊆ l) : Keeps l s (@State.windowBegin a0) := by
  unfold State.windowBegin
  repeat' first
    | with_reducible assumption
    | (intro x; have hx : Keeps l s x := ?_; clear_value x)
    | with_reducible refine Keeps.ite ?_ ?_
    | (with_reducible refine State.splitBegin_keeps ?_ (List.Subset.trans ?_ hl); rotate_right; decide +kernel)
    | (with_reducible refine State.joinBegin_keeps ?_ (List.Subset.trans ?_ hl); rotate_right; decide +kernel)
    | (with_reducible refine State.modPtg_keeps ?_ (List.Subset.trans ?_ hl); rotate_right; decide +kernel)
    | (with_reducible refine State.joinCopy_keeps ?_ (List.Subset.trans ?_ hl); rotate_right; decide +kernel)
    | lift_lets
    | split

theorem tripActs_keeps {l : List Part} {s : State} {a0 : State} {a1 : _} (h : Keeps l s a0)
    (hl : ([.evLast, .sent, .hosts, .disp, .later, .links, .trx, .ctx, .ptg, .hpn, .one O.sysXingDropFlags, .fam O.trxState 4, .fam O.trxFault 4, .fam O.trxAngleSrc 4, .fam O.lpeStatus 64, .fam O.lpeTrState 4, .fam O.lpeTrCount 4] : List Part) ⊆ l) : Keeps l s (@State.tripActs a0 a1) := by
  unfold State.tripActs
  repeat' first
    | with_reducible assumption
    | with_reducible refine Keeps.ite ?_ ?_
    | (with_reducible refine State.trxFail_keeps ?_ (List.Subset.trans ?_ hl); rotate_right; decide +kernel)
    | (with_reducible refine State.modTrx_keeps ?_ (List.Subset.trans ?_ hl); rotate_right; decide +kernel)
    | (with_reducible refine State.trxSet_keeps ?_ (List.Subset.trans ?_ hl); rotate_right; decide +kernel)

theorem copyRun_keeps {l : List Part} {s : State} {a0 : State} {a1 : _} {a2 : _} (h : Keeps l s a0)
    (hl : ([.trx, .ptg] : List Part) ⊆ l) : Keeps l s (@State.copyRun a0 a1 a2) := by
  unfold State.copyRun
  repeat' first
    | with_reducible assumption
    | (with_reducible refine State.modTrx_keeps ?_ (List.Subset.trans ?_ hl); rotate_right; decide +kernel)
    | (with_reducible refine State.modCopy_keeps ?_ (List.Subset.trans ?_ hl); rotate_right; decide +kernel)
    | with_reducible refine Keeps.foldl ?_ ?_
    | intro x

theorem copyWork_keeps {l : List Part} {s : State} {a0 : State} {a1 : _} {a2 : _} (h : Keeps l s a0)
    (hl : ([.evLast, .sent, .hosts, .disp, .later, .forceA, .forceB, .links, .trx, .ctx, .ptg, .adc, .chg, .hpn, .thm, .bst, .pwr, .one O.sysXingDropFlags, .one O.sysLateFlags, .fam O.trxState 4, .fam O.trxFault 4, .fam O.trxAngleSrc 4, .fam O.lpeStatus 64, .fam O.lpeTrState 4, .fam O.lpeTrCount 4, .fam O.adcStatus 12, .one O.chgState, .one O.chgInput, .one O.chgFlags, .one O.chgCause, .one O.chgIInLim, .one O.chgPIn, .one O.ptgState, .one O.ptgFlags, .one O.ptgFaultCause, .one O.ptgMisses, .one O.ptgSplitCopy, .one O.bstState, .one O.bstLast] : List Part) ⊆ l) : Keeps l s (@State.copyWork a0 a1 a2) := by
  unfold State.copyWork
  repeat' first
    | with_reducible assumption
    | with_reducible refine Keeps.ite ?_ ?_
    | (with_reducible refine State.checkMiss_keeps ?_ (List.Subset.trans ?_ hl); rotate_right; decide +kernel)
    | (with_reducible refine State.copyRun_keeps ?_ (List.Subset.trans ?_ hl); rotate_right; decide +kernel)
    | split

theorem hvilDrive_keeps {l : List Part} {s : State} {a0 : State} (h : Keeps l s a0)
    (hl : ([.dcl] : List Part) ⊆ l) : Keeps l s (@State.hvilDrive a0) := by
  unfold State.hvilDrive
  repeat' first
    | with_reducible assumption
    | (with_reducible refine State.modDcl_keeps ?_ (List.Subset.trans ?_ hl); rotate_right; decide +kernel)

theorem checkWork_keeps {l : List Part} {s : State} {a0 : State} {a1 : _} (h : Keeps l s a0)
    (hl : ([.evLast, .sent, .hosts, .disp, .later, .forceA, .forceB, .links, .trx, .ctx, .dcl, .ptg, .adc, .chg, .hpn, .thm, .bst, .pwr, .one O.sysXingDropFlags, .one O.sysLateFlags, .fam O.trxState 4, .fam O.trxFault 4, .fam O.trxAngleSrc 4, .fam O.lpeStatus 64, .fam O.lpeTrState 4, .fam O.lpeTrCount 4, .fam O.adcStatus 12, .one O.chgState, .one O.chgInput, .one O.chgFlags, .one O.chgCause, .one O.chgIInLim, .one O.chgPIn, .one O.ptgState, .one O.ptgFlags, .one O.ptgFaultCause, .one O.ptgMisses, .one O.ptgSplitCopy, .one O.bstState, .one O.bstLast] : List Part) ⊆ l) : Keeps l s (@State.checkWork a0 a1) := by
  unfold State.checkWork
  repeat' first
    | with_reducible assumption
    | with_reducible refine Keeps.ite ?_ ?_
    | (with_reducible refine State.copyFold_keeps ?_ (List.Subset.trans ?_ hl); rotate_right; decide +kernel)
    | (with_reducible refine State.hvilSample_keeps ?_ (List.Subset.trans ?_ hl); rotate_right; decide +kernel)
    | (with_reducible refine State.windowEnd_keeps ?_ (List.Subset.trans ?_ hl); rotate_right; decide +kernel)
    | (with_reducible refine State.readWords_keeps ?_ (List.Subset.trans ?_ hl); rotate_right; decide +kernel)
    | (with_reducible refine State.windowBegin_keeps ?_ (List.Subset.trans ?_ hl); rotate_right; decide +kernel)
    | (with_reducible refine State.tripActs_keeps ?_ (List.Subset.trans ?_ hl); rotate_right; decide +kernel)
    | (with_reducible refine State.copyWork_keeps ?_ (List.Subset.trans ?_ hl); rotate_right; decide +kernel)
    | (with_reducible refine State.putForces_keeps ?_ (List.Subset.trans ?_ hl); rotate_right; decide +kernel)
    | (with_reducible refine State.hvilDrive_keeps ?_ (List.Subset.trans ?_ hl); rotate_right; decide +kernel)
    | (with_reducible refine State.modPtg_keeps ?_ (List.Subset.trans ?_ hl); rotate_right; decide +kernel)
    | (with_reducible refine State.sendSafe_keeps ?_ (List.Subset.trans ?_ hl); rotate_right; decide +kernel)
    | with_reducible refine Keeps.foldl ?_ ?_
    | intro x

theorem checkpoint_keeps {l : List Part} {s : State} {a0 : State} {a1 : _} (h : Keeps l s a0)
    (hl : ([.evLast, .sent, .hosts, .disp, .later, .forceA, .forceB, .links, .trx, .ctx, .dcl, .ptg, .adc, .chg, .hpn, .thm, .bst, .pwr, .one O.sysXingDropFlags, .one O.sysLateFlags, .fam O.trxState 4, .fam O.trxFault 4, .fam O.trxAngleSrc 4, .fam O.lpeStatus 64, .fam O.lpeTrState 4, .fam O.lpeTrCount 4, .fam O.adcStatus 12, .one O.chgState, .one O.chgInput, .one O.chgFlags, .one O.chgCause, .one O.chgIInLim, .one O.chgPIn, .one O.ptgState, .one O.ptgFlags, .one O.ptgFaultCause, .one O.ptgMisses, .one O.ptgSplitCopy, .one O.bstState, .one O.bstLast] : List Part) ⊆ l) : Keeps l s (@State.checkpoint a0 a1) := by
  unfold State.checkpoint
  repeat' first
    | with_reducible assumption
    | with_reducible refine Keeps.ite ?_ ?_
    | (with_reducible refine State.checkWork_keeps ?_ (List.Subset.trans ?_ hl); rotate_right; decide +kernel)

theorem doSwap_keeps {l : List Part} {s : State} {a0 : State} {a1 : _} (h : Keeps l s a0)
    (hl : ([.evLast, .sent, .hosts, .disp, .later, .ctx, .hpn, .fam O.lpeOut 64, .fam O.lpeInteg 64, .fam O.lpeStatus 64] : List Part) ⊆ l) : Keeps l s (@State.doSwap a0 a1) := by
  unfold State.doSwap
  repeat' first
    | with_reducible assumption
    | (with_reducible refine State.showOut_keeps ?_ (List.Subset.trans ?_ hl); rotate_right; decide +kernel)
    | (with_reducible refine State.setO_keeps ?_ ⟨_, inL hl ?_, O.lpeStatus_has _ ?_⟩; rotate_right; (first | exact Fin.isLt _ | omega | (simp only [List.mem_range] at *; omega)); rotate_right; decide +kernel)
    | (with_reducible refine State.endAll_keeps ?_ (List.Subset.trans ?_ hl); rotate_right; decide +kernel)
    | (with_reducible refine State.raise_keeps ?_ (List.Subset.trans ?_ hl); rotate_right; decide +kernel)
    | (with_reducible refine State.modCtx_keeps ?_ (List.Subset.trans ?_ hl); rotate_right; decide +kernel)
    | (with_reducible refine State.modDisp_keeps ?_ (List.Subset.trans ?_ hl); rotate_right; decide +kernel)
    | (with_reducible refine State.clrO_keeps ?_ ⟨_, inL hl ?_, O.lpeStatus_has _ ?_⟩; rotate_right; (first | exact Fin.isLt _ | omega | (simp only [List.mem_range] at *; omega)); rotate_right; decide +kernel)
    | (with_reducible refine State.when_keeps ?_ ?_ (List.Subset.trans ?_ hl); rotate_right; decide +kernel)
    | (with_reducible refine State.orO_keeps ?_ ⟨_, inL hl ?_, O.lpeStatus_has _ ?_⟩; rotate_right; (first | exact Fin.isLt _ | omega | (simp only [List.mem_range] at *; omega)); rotate_right; decide +kernel)
    | intro x

theorem chgLoad_keeps {l : List Part} {s : State} {a0 : State} {a1 : _} (h : Keeps l s a0)
    (hl : ([.evLast, .sent, .hosts, .disp, .later, .ctx, .hpn, .fam O.lpeInputs 64, .fam O.lpeUnits 64, .fam O.lpeOut 64, .fam O.lpeInteg 64, .fam O.lpeStatus 64] : List Part) ⊆ l) : Keeps l s (@State.chgLoad a0 a1) := by
  unfold State.chgLoad
  repeat' first
    | with_reducible assumption
    | with_reducible refine Keeps.ite ?_ ?_
    | (with_reducible refine State.doSwap_keeps ?_ (List.Subset.trans ?_ hl); rotate_right; decide +kernel)
    | (with_reducible refine State.setO_keeps ?_ ⟨_, inL hl ?_, O.lpeInputs_has _ ?_⟩; rotate_right; (first | exact Fin.isLt _ | omega | (simp only [List.mem_range] at *; omega)); rotate_right; decide +kernel)
    | (with_reducible refine State.setO_keeps ?_ ⟨_, inL hl ?_, O.lpeUnits_has _ ?_⟩; rotate_right; (first | exact Fin.isLt _ | omega | (simp only [List.mem_range] at *; omega)); rotate_right; decide +kernel)
    | with_reducible refine Keeps.foldl ?_ ?_
    | intro x

theorem searchStart_keeps {l : List Part} {s : State} {a0 : State} {a1 : _} (h : Keeps l s a0)
    (hl : ([.chg] : List Part) ⊆ l) : Keeps l s (@State.searchStart a0 a1) := by
  unfold State.searchStart
  repeat' first
    | with_reducible assumption
    | (with_reducible refine State.modChg_keeps ?_ (List.Subset.trans ?_ hl); rotate_right; decide +kernel)

theorem chgCharging_keeps {l : List Part} {s : State} {a0 : State} (h : Keeps l s a0)
    (hl : ([.evLast, .sent, .hosts, .disp, .later, .chg, .hpn, .one O.chgState, .one O.chgFlags] : List Part) ⊆ l) : Keeps l s (@State.chgCharging a0) := by
  unfold State.chgCharging
  repeat' first
    | with_reducible assumption
    | (with_reducible refine State.endAll_keeps ?_ (List.Subset.trans ?_ hl); rotate_right; decide +kernel)
    | (with_reducible refine State.modChg_keeps ?_ (List.Subset.trans ?_ hl); rotate_right; decide +kernel)
    | (with_reducible refine State.chgTo_keeps ?_ (List.Subset.trans ?_ hl); rotate_right; decide +kernel)

theorem chgBegin_keeps {l : List Part} {s : State} {a0 : State} (h : Keeps l s a0)
    (hl : ([.evLast, .sent, .hosts, .disp, .later, .links, .ctx, .chg, .hpn, .fam O.lpeInputs 64, .fam O.lpeUnits 64, .fam O.lpeOut 64, .fam O.lpeInteg 64, .fam O.lpeStatus 64, .fam O.lpeTrState 4, .fam O.lpeTrCount 4, .one O.chgState, .one O.chgInput, .one O.chgFlags, .one O.chgCause, .one O.chgIInLim, .one O.chgPIn] : List Part) ⊆ l) : Keeps l s (@State.chgBegin a0) := by
  unfold State.chgBegin
  repeat' first
    | with_reducible assumption
    | with_reducible refine Keeps.ite ?_ ?_
    | (with_reducible refine State.ctxStart_keeps ?_ (List.Subset.trans ?_ hl); rotate_right; decide +kernel)
    | (with_reducible refine State.chgLoad_keeps ?_ (List.Subset.trans ?_ hl); rotate_right; decide +kernel)
    | (with_reducible refine State.searchStart_keeps ?_ (List.Subset.trans ?_ hl); rotate_right; decide +kernel)
    | (with_reducible refine State.chgCharging_keeps ?_ (List.Subset.trans ?_ hl); rotate_right; decide +kernel)
    | (with_reducible refine State.chgJudge_keeps ?_ (List.Subset.trans ?_ hl); rotate_right; decide +kernel)
    | (with_reducible refine State.chgTo_keeps ?_ (List.Subset.trans ?_ hl); rotate_right; decide +kernel)
    | (with_reducible refine State.releaseLegs_keeps ?_ (List.Subset.trans ?_ hl); rotate_right; decide +kernel)
    | with_reducible refine Keeps.foldl ?_ ?_
    | intro x

theorem pvBindStep_keeps {l : List Part} {s : State} {a0 : State} (h : Keeps l s a0)
    (hl : ([.evLast, .sent, .hosts, .later, .chg, .hpn, .one O.chgFlags] : List Part) ⊆ l) : Keeps l s (@State.pvBindStep a0) := by
  unfold State.pvBindStep
  repeat' first
    | with_reducible assumption
    | with_reducible refine Keeps.ite ?_ ?_
    | (with_reducible refine State.raise_keeps ?_ (List.Subset.trans ?_ hl); rotate_right; decide +kernel)
    | (with_reducible refine State.modChg_keeps ?_ (List.Subset.trans ?_ hl); rotate_right; decide +kernel)
    | (with_reducible refine State.orO_keeps ?_ ⟨_, inL hl ?_, O.chgFlags_has⟩; rotate_right; decide +kernel)

theorem chgCtxSample_keeps {l : List Part} {s : State} {a0 : State} {a1 : _} (h : Keeps l s a0)
    (hl : ([.evLast, .sent, .hosts, .later, .ctx, .chg, .hpn, .one O.chgFlags] : List Part) ⊆ l) : Keeps l s (@State.chgCtxSample a0 a1) := by
  unfold State.chgCtxSample
  repeat' first
    | with_reducible assumption
    | with_reducible refine Keeps.ite ?_ ?_
    | (with_reducible refine State.pvBindStep_keeps ?_ (List.Subset.trans ?_ hl); rotate_right; decide +kernel)
    | (with_reducible refine State.modCtx_keeps ?_ (List.Subset.trans ?_ hl); rotate_right; decide +kernel)

theorem chgDrive_keeps {l : List Part} {s : State} {a0 : State} {a1 : _} (h : Keeps l s a0)
    (hl : ([.evLast, .sent, .hosts, .disp, .later, .links, .ctx, .chg, .hpn, .fam O.lpeStatus 64, .fam O.lpeTrState 4, .fam O.lpeTrCount 4, .one O.chgState, .one O.chgInput, .one O.chgFlags, .one O.chgCause, .one O.chgIInLim, .one O.chgPIn] : List Part) ⊆ l) : Keeps l s (@State.chgDrive a0 a1) := by
  unfold State.chgDrive
  repeat' first
    | with_reducible assumption
    | with_reducible refine Keeps.ite ?_ ?_
    | (with_reducible refine State.chgStopFor_keeps ?_ (List.Subset.trans ?_ hl); rotate_right; decide +kernel)

theorem chgLate_keeps {l : List Part} {s : State} {a0 : State} {a1 : _} (h : Keeps l s a0)
    (hl : ([.evLast, .sent, .hosts, .disp, .later, .links, .ctx, .chg, .hpn, .fam O.lpeStatus 64, .fam O.lpeTrState 4, .fam O.lpeTrCount 4, .one O.chgState, .one O.chgInput, .one O.chgFlags, .one O.chgCause, .one O.chgIInLim, .one O.chgPIn] : List Part) ⊆ l) : Keeps l s (@State.chgLate a0 a1) := by
  unfold State.chgLate
  repeat' first
    | with_reducible assumption
    | with_reducible refine Keeps.ite ?_ ?_
    | (with_reducible refine State.modChg_keeps ?_ (List.Subset.trans ?_ hl); rotate_right; decide +kernel)
    | (with_reducible refine State.chgStopFor_keeps ?_ (List.Subset.trans ?_ hl); rotate_right; decide +kernel)

theorem chgSelTry_keeps {l : List Part} {s : State} {a0 : State} (h : Keeps l s a0)
    (hl : ([.chg] : List Part) ⊆ l) : Keeps l s (@State.chgSelTry a0) := by
  unfold State.chgSelTry
  repeat' first
    | with_reducible assumption
    | with_reducible refine Keeps.ite ?_ ?_
    | (with_reducible refine State.modChg_keeps ?_ (List.Subset.trans ?_ hl); rotate_right; decide +kernel)

theorem chgSelSet_keeps {l : List Part} {s : State} {a0 : State} {a1 : _} (h : Keeps l s a0)
    (hl : ([.chg] : List Part) ⊆ l) : Keeps l s (@State.chgSelSet a0 a1) := by
  unfold State.chgSelSet
  repeat' first
    | with_reducible assumption
    | (with_reducible refine State.chgSelTry_keeps ?_ (List.Subset.trans ?_ hl); rotate_right; decide +kernel)
    | (with_reducible refine State.modChg_keeps ?_ (List.Subset.trans ?_ hl); rotate_right; decide +kernel)

theorem chgShowInput_keeps {l : List Part} {s : State} {a0 : State} {a1 : _} (h : Keeps l s a0)
    (hl : ([.one O.chgInput] : List Part) ⊆ l) : Keeps l s (@State.chgShowInput a0 a1) := by
  unfold State.chgShowInput
  repeat' first
    | with_reducible assumption
    | (with_reducible refine State.setO_keeps ?_ ⟨_, inL hl ?_, O.chgInput_has⟩; rotate_right; decide +kernel)

theorem s2Close_keeps {l : List Part} {s : State} {a0 : State} (h : Keeps l s a0)
    (hl : ([.one O.chgFlags] : List Part) ⊆ l) : Keeps l s (@State.s2Close a0) := by
  unfold State.s2Close
  repeat' first
    | with_reducible assumption
    | with_reducible refine Keeps.ite ?_ ?_
    | (with_reducible refine State.orO_keeps ?_ ⟨_, inL hl ?_, O.chgFlags_has⟩; rotate_right; decide +kernel)

theorem chgQualify_keeps {l : List Part} {s : State} {a0 : State} {a1 : _} (h : Keeps l s a0)
    (hl : ([.evLast, .sent, .hosts, .later, .chg, .hpn, .one O.chgState, .one O.chgInput, .one O.chgFlags] : List Part) ⊆ l) : Keeps l s (@State.chgQualify a0 a1) := by
  unfold State.chgQualify
  repeat' first
    | with_reducible assumption
    | (with_reducible refine State.chgSelSet_keeps ?_ (List.Subset.trans ?_ hl); rotate_right; decide +kernel)
    | (with_reducible refine State.chgShowInput_keeps ?_ (List.Subset.trans ?_ hl); rotate_right; decide +kernel)
    | (with_reducible refine State.s2Close_keeps ?_ (List.Subset.trans ?_ hl); rotate_right; decide +kernel)
    | (with_reducible refine State.modChg_keeps ?_ (List.Subset.trans ?_ hl); rotate_right; decide +kernel)
    | (with_reducible refine State.clrO_keeps ?_ ⟨_, inL hl ?_, O.chgFlags_has⟩; rotate_right; decide +kernel)
    | (with_reducible refine State.when_keeps ?_ ?_ (List.Subset.trans ?_ hl); rotate_right; decide +kernel)
    | (with_reducible refine State.chgTo_keeps ?_ (List.Subset.trans ?_ hl); rotate_right; decide +kernel)
    | intro x

theorem chgReSearch_keeps {l : List Part} {s : State} {a0 : State} (h : Keeps l s a0)
    (hl : ([.evLast, .sent, .hosts, .later, .links, .ctx, .chg, .hpn, .fam O.lpeStatus 64, .fam O.lpeTrState 4, .fam O.lpeTrCount 4, .one O.chgState, .one O.chgInput, .one O.chgFlags] : List Part) ⊆ l) : Keeps l s (@State.chgReSearch a0) := by
  unfold State.chgReSearch
  repeat' first
    | with_reducible assumption
    | (with_reducible refine State.chgQualify_keeps ?_ (List.Subset.trans ?_ hl); rotate_right; decide +kernel)
    | (with_reducible refine State.modChg_keeps ?_ (List.Subset.trans ?_ hl); rotate_right; decide +kernel)
    | (with_reducible refine State.chgLegsOff_keeps ?_ (List.Subset.trans ?_ hl); rotate_right; decide +kernel)

theorem chgResearch_keeps {l : List Part} {s : State} {a0 : _} {a1 : State} (h : Keeps l s a1)
    (hl : ([.evLast, .sent, .hosts, .disp, .later, .links, .ctx, .chg, .hpn, .fam O.lpeStatus 64, .fam O.lpeTrState 4, .fam O.lpeTrCount 4, .one O.chgState, .one O.chgInput, .one O.chgFlags] : List Part) ⊆ l) : KeepsP l s (@State.chgResearch a0 a1) := by
  unfold State.chgResearch
  repeat' first
    | with_reducible assumption
    | with_reducible refine KeepsP.ite ?_ ?_
    | (with_reducible refine State.guarded_keeps ?_ ?_ (List.Subset.trans ?_ hl); rotate_right; decide +kernel)
    | (with_reducible refine State.modChg_keeps ?_ (List.Subset.trans ?_ hl); rotate_right; decide +kernel)
    | (with_reducible refine State.chgReSearch_keeps ?_ (List.Subset.trans ?_ hl); rotate_right; decide +kernel)
    | (with_reducible refine State.hold_keeps ?_ (List.Subset.trans ?_ hl); rotate_right; decide +kernel)
    | intro x
    | lift_lets
    | with_reducible refine KeepsP.mk ?_

theorem chgResume_keeps {l : List Part} {s : State} {a0 : State} (h : Keeps l s a0)
    (hl : ([.evLast, .sent, .hosts, .later, .chg, .hpn, .one O.chgState, .one O.chgInput, .one O.chgFlags] : List Part) ⊆ l) : Keeps l s (@State.chgResume a0) := by
  unfold State.chgResume
  repeat' first
    | with_reducible assumption
    | with_reducible refine Keeps.ite ?_ ?_
    | (with_reducible refine State.chgQualify_keeps ?_ (List.Subset.trans ?_ hl); rotate_right; decide +kernel)

theorem linesSample_keeps {l : List Part} {s : State} {a0 : State} {a1 : _} (h : Keeps l s a0)
    (hl : ([.chg] : List Part) ⊆ l) : Keeps l s (@State.linesSample a0 a1) := by
  unfold State.linesSample
  repeat' first
    | with_reducible assumption
    | (with_reducible refine State.modChg_keeps ?_ (List.Subset.trans ?_ hl); rotate_right; decide +kernel)

theorem chgSample_keeps {l : List Part} {s : State} {a0 : State} {a1 : _} (h : Keeps l s a0)
    (hl : ([.evLast, .sent, .hosts, .disp, .later, .links, .ctx, .chg, .hpn, .fam O.lpeStatus 64, .fam O.lpeTrState 4, .fam O.lpeTrCount 4, .one O.chgState, .one O.chgInput, .one O.chgFlags, .one O.chgCause, .one O.chgIInLim, .one O.chgPIn, .one O.chgVPvRef, .one O.chgVOc] : List Part) ⊆ l) : Keeps l s (@State.chgSample a0 a1) := by
  unfold State.chgSample
  repeat' first
    | with_reducible assumption
    | with_reducible refine Keeps.ite ?_ ?_
    | (with_reducible refine State.chgOkStep_keeps ?_ (List.Subset.trans ?_ hl); rotate_right; decide +kernel)
    | (with_reducible refine State.arraySample_keeps ?_ (List.Subset.trans ?_ hl); rotate_right; decide +kernel)
    | (with_reducible refine State.linesSample_keeps ?_ (List.Subset.trans ?_ hl); rotate_right; decide +kernel)
    | (with_reducible refine State.chgSelTry_keeps ?_ (List.Subset.trans ?_ hl); rotate_right; decide +kernel)
    | (with_reducible refine State.modChg_keeps ?_ (List.Subset.trans ?_ hl); rotate_right; decide +kernel)
    | (with_reducible refine State.when_keeps ?_ ?_ (List.Subset.trans ?_ hl); rotate_right; decide +kernel)
    | (with_reducible refine State.chgStopFor_keeps ?_ (List.Subset.trans ?_ hl); rotate_right; decide +kernel)
    | intro x

theorem chgStart_keeps {l : List Part} {s : State} {a0 : _} {a1 : State} (h : Keeps l s a1)
    (hl : ([.evLast, .sent, .hosts, .disp, .later, .chg, .hpn, .one O.chgState, .one O.chgInput, .one O.chgFlags] : List Part) ⊆ l) : KeepsP l s (@State.chgStart a0 a1) := by
  unfold State.chgStart
  repeat' first
    | with_reducible assumption
    | (with_reducible refine State.chgQualify_keeps ?_ (List.Subset.trans ?_ hl); rotate_right; decide +kernel)
    | (with_reducible refine State.guarded_keeps ?_ ?_ (List.Subset.trans ?_ hl); rotate_right; decide +kernel)
    | (with_reducible refine State.modChg_keeps ?_ (List.Subset.trans ?_ hl); rotate_right; decide +kernel)
    | (with_reducible refine State.hold_keeps ?_ (List.Subset.trans ?_ hl); rotate_right; decide +kernel)
    | intro x
    | lift_lets
    | with_reducible refine KeepsP.mk ?_

theorem chgStop_keeps {l : List Part} {s : State} {a0 : _} {a1 : State} (h : Keeps l s a1)
    (hl : ([.evLast, .sent, .hosts, .disp, .later, .links, .ctx, .chg, .hpn, .fam O.lpeStatus 64, .fam O.lpeTrState 4, .fam O.lpeTrCount 4, .one O.chgState, .one O.chgInput, .one O.chgFlags, .one O.chgCause, .one O.chgIInLim, .one O.chgPIn] : List Part) ⊆ l) : KeepsP l s (@State.chgStop a0 a1) := by
  unfold State.chgStop
  repeat' first
    | with_reducible assumption
    | (with_reducible refine State.chgEnter_keeps ?_ (List.Subset.trans ?_ hl); rotate_right; decide +kernel)
    | (with_reducible refine State.guarded_keeps ?_ ?_ (List.Subset.trans ?_ hl); rotate_right; decide +kernel)
    | (with_reducible refine State.modChg_keeps ?_ (List.Subset.trans ?_ hl); rotate_right; decide +kernel)
    | (with_reducible refine State.hold_keeps ?_ (List.Subset.trans ?_ hl); rotate_right; decide +kernel)
    | (with_reducible refine State.chgStopFor_keeps ?_ (List.Subset.trans ?_ hl); rotate_right; decide +kernel)
    | intro x
    | split
    | with_reducible refine KeepsP.mk ?_

theorem chgStopCut_keeps {l : List Part} {s : State} {a0 : State} (h : Keeps l s a0)
    (hl : ([.evLast, .sent, .hosts, .later, .links, .ctx, .chg, .hpn, .fam O.lpeStatus 64, .fam O.lpeTrState 4, .fam O.lpeTrCount 4] : List Part) ⊆ l) : Keeps l s (@State.chgStopCut a0) := by
  unfold State.chgStopCut
  repeat' first
    | with_reducible assumption
    | with_reducible refine Keeps.ite ?_ ?_
    | (with_reducible refine State.modChg_keeps ?_ (List.Subset.trans ?_ hl); rotate_right; decide +kernel)
    | (with_reducible refine State.chgLegsOff_keeps ?_ (List.Subset.trans ?_ hl); rotate_right; decide +kernel)

theorem chgStopDone_keeps {l : List Part} {s : State} {a0 : State} (h : Keeps l s a0)
    (hl : ([.evLast, .sent, .hosts, .disp, .later, .links, .ctx, .chg, .hpn, .fam O.lpeStatus 64, .fam O.lpeTrState 4, .fam O.lpeTrCount 4, .one O.chgState, .one O.chgInput, .one O.chgFlags, .one O.chgCause, .one O.chgIInLim, .one O.chgPIn] : List Part) ⊆ l) : Keeps l s (@State.chgStopDone a0) := by
  unfold State.chgStopDone
  repeat' first
    | with_reducible assumption
    | with_reducible refine Keeps.ite ?_ ?_
    | (with_reducible refine State.chgStopCut_keeps ?_ (List.Subset.trans ?_ hl); rotate_right; decide +kernel)
    | (with_reducible refine State.chgEnter_keeps ?_ (List.Subset.trans ?_ hl); rotate_right; decide +kernel)
    | (with_reducible refine State.modChg_keeps ?_ (List.Subset.trans ?_ hl); rotate_right; decide +kernel)
    | (with_reducible refine State.clrO_keeps ?_ ⟨_, inL hl ?_, O.chgFlags_has⟩; rotate_right; decide +kernel)

theorem chgTorqueTick_keeps {l : List Part} {s : State} {a0 : State} (h : Keeps l s a0)
    (hl : ([.chg] : List Part) ⊆ l) : Keeps l s (@State.chgTorqueTick a0) := by
  unfold State.chgTorqueTick
  repeat' first
    | with_reducible assumption
    | (with_reducible refine State.chgOkStep_keeps ?_ (List.Subset.trans ?_ hl); rotate_right; decide +kernel)
    | (with_reducible refine State.modChg_keeps ?_ (List.Subset.trans ?_ hl); rotate_right; decide +kernel)

theorem chiselEnd_keeps {l : List Part} {s : State} {a0 : State} (h : Keeps l s a0)
    (hl : ([.sent, .links, .ctx, .aux] : List Part) ⊆ l) : Keeps l s (@State.chiselEnd a0) := by
  unfold State.chiselEnd
  repeat' first
    | with_reducible assumption
    | with_reducible refine Keeps.ite ?_ ?_
    | (with_reducible refine State.auxWindow_keeps ?_ (List.Subset.trans ?_ hl); rotate_right; decide +kernel)
    | (with_reducible refine State.auxGiveBack_keeps ?_ (List.Subset.trans ?_ hl); rotate_right; decide +kernel)
    | (with_reducible refine State.modAux_keeps ?_ (List.Subset.trans ?_ hl); rotate_right; decide +kernel)
    | with_reducible refine Keeps.foldl ?_ ?_
    | intro x

theorem injAsk_keeps {l : List Part} {s : State} {a0 : State} {a1 : _} {a2 : _} {a3 : _} (h : Keeps l s a0)
    (hl : ([.adc] : List Part) ⊆ l) : Keeps l s (@State.injAsk a0 a1 a2 a3) := by
  unfold State.injAsk
  repeat' first
    | with_reducible assumption
    | with_reducible refine Keeps.dite ?_ ?_
    | (with_reducible refine State.modConv_keeps ?_ (List.Subset.trans ?_ hl); rotate_right; decide +kernel)
    | intro x

theorem chopAsk_keeps {l : List Part} {s : State} {a0 : State} {a1 : _} (h : Keeps l s a0)
    (hl : ([.adc] : List Part) ⊆ l) : Keeps l s (@State.chopAsk a0 a1) := by
  unfold State.chopAsk
  repeat' first
    | with_reducible assumption
    | with_reducible refine Keeps.ite ?_ ?_
    | (with_reducible refine State.injAsk_keeps ?_ (List.Subset.trans ?_ hl); rotate_right; decide +kernel)
    | with_reducible refine Keeps.foldl ?_ ?_
    | intro x

theorem chopBar_keeps {l : List Part} {s : State} {a0 : State} (h : Keeps l s a0)
    (hl : ([.dcl] : List Part) ⊆ l) : Keeps l s (@State.chopBar a0) := by
  unfold State.chopBar
  repeat' first
    | with_reducible assumption
    | (with_reducible refine State.modDcl_keeps ?_ (List.Subset.trans ?_ hl); rotate_right; decide +kernel)

theorem chopCurrent_keeps {l : List Part} {s : State} {a0 : State} {a1 : _} (h : Keeps l s a0)
    (hl : ([.evLast, .sent, .hosts, .later, .links, .dcl, .hpn, .one O.dclFlags] : List Part) ⊆ l) : Keeps l s (@State.chopCurrent a0 a1) := by
  unfold State.chopCurrent
  repeat' first
    | with_reducible assumption
    | with_reducible refine Keeps.ite ?_ ?_
    | (with_reducible refine State.chopFault_keeps ?_ (List.Subset.trans ?_ hl); rotate_right; decide +kernel)

theorem chopRise_keeps {l : List Part} {s : State} {a0 : State} (h : Keeps l s a0)
    (hl : ([.dcl] : List Part) ⊆ l) : Keeps l s (@State.chopRise a0) := by
  unfold State.chopRise
  repeat' first
    | with_reducible assumption
    | with_reducible refine Keeps.ite ?_ ?_
    | (with_reducible refine State.modDcl_keeps ?_ (List.Subset.trans ?_ hl); rotate_right; decide +kernel)

theorem chopEnergyStep_keeps {l : List Part} {s : State} {a0 : State} {a1 : _} (h : Keeps l s a0)
    (hl : ([.evLast, .sent, .hosts, .later, .links, .dcl, .hpn, .one O.dclFlags, .one O.dclChopEnergy] : List Part) ⊆ l) : Keeps l s (@State.chopEnergyStep a0 a1) := by
  unfold State.chopEnergyStep
  repeat' first
    | with_reducible assumption
    | with_reducible refine Keeps.ite ?_ ?_
    | (with_reducible refine State.chopRise_keeps ?_ (List.Subset.trans ?_ hl); rotate_right; decide +kernel)
    | (with_reducible refine State.raise_keeps ?_ (List.Subset.trans ?_ hl); rotate_right; decide +kernel)
    | (with_reducible refine State.modDcl_keeps ?_ (List.Subset.trans ?_ hl); rotate_right; decide +kernel)
    | (with_reducible refine State.setQ_keeps ?_ ⟨_, inL hl ?_, O.dclChopEnergy_has⟩; rotate_right; decide +kernel)
    | (with_reducible refine State.chopAct_keeps ?_ (List.Subset.trans ?_ hl); rotate_right; decide +kernel)
    | (with_reducible refine State.orO_keeps ?_ ⟨_, inL hl ?_, O.dclFlags_has⟩; rotate_right; decide +kernel)

theorem chopPeriod_keeps {l : List Part} {s : State} {a0 : State} {a1 : _} (h : Keeps l s a0)
    (hl : ([.evLast, .sent, .hosts, .later, .links, .dcl, .hpn, .one O.dclFlags, .one O.dclChopEnergy] : List Part) ⊆ l) : Keeps l s (@State.chopPeriod a0 a1) := by
  unfold State.chopPeriod
  repeat' first
    | with_reducible assumption
    | (with_reducible refine State.modDcl_keeps ?_ (List.Subset.trans ?_ hl); rotate_right; decide +kernel)
    | (with_reducible refine State.chopEnergyStep_keeps ?_ (List.Subset.trans ?_ hl); rotate_right; decide +kernel)

theorem chopStart_keeps {l : List Part} {s : State} {a0 : State} (h : Keeps l s a0)
    (hl : ([.links, .dcl] : List Part) ⊆ l) : Keeps l s (@State.chopStart a0) := by
  unfold State.chopStart
  repeat' first
    | with_reducible assumption
    | with_reducible refine Keeps.ite ?_ ?_
    | (with_reducible refine State.modDcl_keeps ?_ (List.Subset.trans ?_ hl); rotate_right; decide +kernel)
    | (with_reducible refine State.releaseLegs_keeps ?_ (List.Subset.trans ?_ hl); rotate_right; decide +kernel)

theorem chopSample_keeps {l : List Part} {s : State} {a0 : State} (h : Keeps l s a0)
    (hl : ([.links, .dcl] : List Part) ⊆ l) : Keeps l s (@State.chopSample a0) := by
  unfold State.chopSample
  repeat' first
    | with_reducible assumption
    | with_reducible refine Keeps.ite ?_ ?_
    | (with_reducible refine State.modDcl_keeps ?_ (List.Subset.trans ?_ hl); rotate_right; decide +kernel)
    | (with_reducible refine State.chopStart_keeps ?_ (List.Subset.trans ?_ hl); rotate_right; decide +kernel)

theorem claimDone_keeps {l : List Part} {s : State} {a0 : State} {a1 : _} (h : Keeps l s a0)
    (hl : ([.evLast, .sent, .hosts, .disp, .later, .hpn, .net, .one O.sysLateFlags, .one O.netSessions, .one O.netCycSkipped, .fam O.netCanAddr 4, .fam O.netCanStatus 4] : List Part) ⊆ l) : Keeps l s (@State.claimDone a0 a1) := by
  unfold State.claimDone
  repeat' first
    | with_reducible assumption
    | with_reducible refine Keeps.ite ?_ ?_
    | (with_reducible refine State.announce_keeps ?_ (List.Subset.trans ?_ hl); rotate_right; decide +kernel)
    | (with_reducible refine State.modCan_keeps ?_ (List.Subset.trans ?_ hl); rotate_right; decide +kernel)
    | (with_reducible refine State.setO_keeps ?_ ⟨_, inL hl ?_, O.netCanAddr_has _ ?_⟩; rotate_right; (first | exact Fin.isLt _ | omega | (simp only [List.mem_range] at *; omega)); rotate_right; decide +kernel)
    | (with_reducible refine State.endAll_keeps ?_ (List.Subset.trans ?_ hl); rotate_right; decide +kernel)
    | (with_reducible refine State.raise_keeps ?_ (List.Subset.trans ?_ hl); rotate_right; decide +kernel)
    | (with_reducible refine State.orO_keeps ?_ ⟨_, inL hl ?_, O.netCanStatus_has _ ?_⟩; rotate_right; (first | exact Fin.isLt _ | omega | (simp only [List.mem_range] at *; omega)); rotate_right; decide +kernel)

theorem grant_keeps {l : List Part} {s : State} {a0 : State} {a1 : _} {a2 : _} (h : Keeps l s a0)
    (hl : ([.sent, .hosts, .later, .hpn, .one O.sysHostLeaseOwner] : List Part) ⊆ l) : Keeps l s (@State.grant a0 a1 a2) := by
  unfold State.grant
  repeat' first
    | with_reducible assumption
    | (with_reducible refine State.setOwner_keeps ?_ (List.Subset.trans ?_ hl); rotate_right; decide +kernel)
    | (with_reducible refine State.postMasked_keeps ?_ (List.Subset.trans ?_ hl); rotate_right; decide +kernel)

theorem claimGroup_keeps {l : List Part} {s : State} {a0 : _} {a1 : State} (h : Keeps l s a1)
    (hl : ([.sent, .hosts, .slots, .disp, .later, .hpn, .one O.sysHostLeaseOwner] : List Part) ⊆ l) : KeepsP l s (@State.claimGroup a0 a1) := by
  unfold State.claimGroup
  repeat' first
    | with_reducible assumption
    | with_reducible refine KeepsP.ite ?_ ?_
    | (with_reducible refine State.grant_keeps ?_ (List.Subset.trans ?_ hl); rotate_right; decide +kernel)
    | (with_reducible refine State.endLease_keeps ?_ (List.Subset.trans ?_ hl); rotate_right; decide +kernel)
    | (with_reducible refine State.guarded_keeps ?_ ?_ (List.Subset.trans ?_ hl); rotate_right; decide +kernel)
    | intro x
    | lift_lets
    | split
    | with_reducible refine KeepsP.mk ?_

theorem clearN_keeps {l : List Part} {s : State} {a0 : State} (h : Keeps l s a0)
    (hl : ([.flash, .dirty, .allObjs] : List Part) ⊆ l) : Keeps l s (@State.clearN a0) := by
  unfold State.clearN
  repeat' first
    | with_reducible assumption
    | intro x
    | lift_lets
    | (with_reducible refine Keeps.set_objs_flash_dirty ?_ (inL hl ?_) (inL hl ?_) (inL hl ?_); rotate_right; decide +kernel; rotate_right; decide +kernel; rotate_right; decide +kernel)

theorem modClk_keeps {l : List Part} {s : State} {a0 : State} {a1 : _} (h : Keeps l s a0)
    (hl : ([.clk] : List Part) ⊆ l) : Keeps l s (@State.modClk a0 a1) := by
  unfold State.modClk
  repeat' first
    | with_reducible assumption
    | (with_reducible refine Keeps.set_clk ?_ (inL hl ?_); rotate_right; decide +kernel)

theorem clockLost_keeps {l : List Part} {s : State} {a0 : State} (h : Keeps l s a0)
    (hl : ([.evLast, .sent, .clk, .hosts, .disp, .later, .forceA, .forceB, .links, .cgs, .trx, .ctx, .dcl, .ptg, .adc, .chg, .aux, .amc, .hpn, .thm, .bst, .one O.sysXingDropFlags, .fam O.thmT 72, .fam O.trxState 4, .fam O.trxFault 4, .fam O.trxAngleSrc 4, .fam O.lpeStatus 64, .fam O.lpeTrState 4, .fam O.lpeTrCount 4, .fam O.adcStatus 12, .one O.chgState, .one O.chgInput, .one O.chgFlags, .one O.chgCause, .one O.chgIInLim, .one O.chgPIn, .one O.auxState, .one O.auxFlags, .one O.auxCause, .one O.auxPhaseState, .fam O.amcState 6, .fam O.amcSpeed 6, .fam O.amcFlags 6, .fam O.amcFault 6, .one O.amcParkState, .one O.bstState, .one O.bstLast] : List Part) ⊆ l) : Keeps l s (@State.clockLost a0) := by
  unfold State.clockLost
  repeat' first
    | with_reducible assumption
    | with_reducible refine Keeps.ite ?_ ?_
    | (with_reducible refine State.applySc_keeps ?_ (List.Subset.trans ?_ hl); rotate_right; decide +kernel)
    | (with_reducible refine State.linkOff_keeps ?_ (List.Subset.trans ?_ hl); rotate_right; decide +kernel)
    | (with_reducible refine State.auxEnd_keeps ?_ (List.Subset.trans ?_ hl); rotate_right; decide +kernel)
    | (with_reducible refine State.modClk_keeps ?_ (List.Subset.trans ?_ hl); rotate_right; decide +kernel)
    | (with_reducible refine State.setPins_keeps ?_ (List.Subset.trans ?_ hl); rotate_right; decide +kernel)
    | (with_reducible refine State.trxFail_keeps ?_ (List.Subset.trans ?_ hl); rotate_right; decide +kernel)
    | (with_reducible refine State.amcClock_keeps ?_ (List.Subset.trans ?_ hl); rotate_right; decide +kernel)
    | (with_reducible refine State.modDcl_keeps ?_ (List.Subset.trans ?_ hl); rotate_right; decide +kernel)
    | (with_reducible refine State.trainEnds_keeps ?_ (List.Subset.trans ?_ hl); rotate_right; decide +kernel)
    | (with_reducible refine State.chgStopFor_keeps ?_ (List.Subset.trans ?_ hl); rotate_right; decide +kernel)
    | (with_reducible refine State.bstAbort_keeps ?_ (List.Subset.trans ?_ hl); rotate_right; decide +kernel)
    | with_reducible refine Keeps.foldl ?_ ?_
    | intro x
    | lift_lets
    | (with_reducible refine Keeps.set_cgs ?_ (inL hl ?_); rotate_right; decide +kernel)

theorem closeDone_keeps {l : List Part} {s : State} {a0 : State} (h : Keeps l s a0)
    (hl : ([.evLast, .sent, .hosts, .disp, .later, .dcl, .hpn, .one O.dclState] : List Part) ⊆ l) : Keeps l s (@State.closeDone a0) := by
  unfold State.closeDone
  repeat' first
    | with_reducible assumption
    | (with_reducible refine State.dclOut_keeps ?_ (List.Subset.trans ?_ hl); rotate_right; decide +kernel)
    | (with_reducible refine State.endAll_keeps ?_ (List.Subset.trans ?_ hl); rotate_right; decide +kernel)
    | (with_reducible refine State.modDcl_keeps ?_ (List.Subset.trans ?_ hl); rotate_right; decide +kernel)
    | (with_reducible refine State.dclTo_keeps ?_ (List.Subset.trans ?_ hl); rotate_right; decide +kernel)

theorem closeFail_keeps {l : List Part} {s : State} {a0 : State} (h : Keeps l s a0)
    (hl : ([.evLast, .sent, .hosts, .disp, .later, .dcl, .hpn, .one O.dclState, .one O.dclFlags] : List Part) ⊆ l) : Keeps l s (@State.closeFail a0) := by
  unfold State.closeFail
  repeat' first
    | with_reducible assumption
    | (with_reducible refine State.dclOut_keeps ?_ (List.Subset.trans ?_ hl); rotate_right; decide +kernel)
    | (with_reducible refine State.endAll_keeps ?_ (List.Subset.trans ?_ hl); rotate_right; decide +kernel)
    | (with_reducible refine State.raise_keeps ?_ (List.Subset.trans ?_ hl); rotate_right; decide +kernel)
    | (with_reducible refine State.modDcl_keeps ?_ (List.Subset.trans ?_ hl); rotate_right; decide +kernel)
    | (with_reducible refine State.dclTo_keeps ?_ (List.Subset.trans ?_ hl); rotate_right; decide +kernel)
    | (with_reducible refine State.when_keeps ?_ ?_ (List.Subset.trans ?_ hl); rotate_right; decide +kernel)
    | (with_reducible refine State.orO_keeps ?_ ⟨_, inL hl ?_, O.dclFlags_has⟩; rotate_right; decide +kernel)
    | intro x

theorem weldSkipped_keeps {l : List Part} {s : State} {a0 : State} (h : Keeps l s a0)
    (hl : ([.evLast, .sent, .hosts, .later, .hpn, .one O.dclFlags] : List Part) ⊆ l) : Keeps l s (@State.weldSkipped a0) := by
  unfold State.weldSkipped
  repeat' first
    | with_reducible assumption
    | (with_reducible refine State.raise_keeps ?_ (List.Subset.trans ?_ hl); rotate_right; decide +kernel)
    | (with_reducible refine State.orO_keeps ?_ ⟨_, inL hl ?_, O.dclFlags_has⟩; rotate_right; decide +kernel)

theorem preCheck_keeps {l : List Part} {s : State} {a0 : State} (h : Keeps l s a0)
    (hl : ([.dcl] : List Part) ⊆ l) : Keeps l s (@State.preCheck a0) := by
  unfold State.preCheck
  repeat' first
    | with_reducible assumption
    | with_reducible refine Keeps.ite ?_ ?_
    | (with_reducible refine State.dclOut_keeps ?_ (List.Subset.trans ?_ hl); rotate_right; decide +kernel)
    | (with_reducible refine State.modDcl_keeps ?_ (List.Subset.trans ?_ hl); rotate_right; decide +kernel)

theorem closeStep3_keeps {l : List Part} {s : State} {a0 : State} (h : Keeps l s a0)
    (hl : ([.evLast, .sent, .hosts, .later, .dcl, .hpn, .one O.dclState] : List Part) ⊆ l) : Keeps l s (@State.closeStep3 a0) := by
  unfold State.closeStep3
  repeat' first
    | with_reducible assumption
    | (with_reducible refine State.dclOut_keeps ?_ (List.Subset.trans ?_ hl); rotate_right; decide +kernel)
    | (with_reducible refine State.modDcl_keeps ?_ (List.Subset.trans ?_ hl); rotate_right; decide +kernel)
    | (with_reducible refine State.dclTo_keeps ?_ (List.Subset.trans ?_ hl); rotate_right; decide +kernel)
    | (with_reducible refine State.preCheck_keeps ?_ (List.Subset.trans ?_ hl); rotate_right; decide +kernel)

theorem closeStep2_keeps {l : List Part} {s : State} {a0 : State} (h : Keeps l s a0)
    (hl : ([.evLast, .sent, .hosts, .later, .dcl, .hpn, .one O.dclState, .one O.dclFlags] : List Part) ⊆ l) : Keeps l s (@State.closeStep2 a0) := by
  unfold State.closeStep2
  repeat' first
    | with_reducible assumption
    | with_reducible refine Keeps.ite ?_ ?_
    | (with_reducible refine State.closeStep3_keeps ?_ (List.Subset.trans ?_ hl); rotate_right; decide +kernel)
    | (with_reducible refine State.weldSkipped_keeps ?_ (List.Subset.trans ?_ hl); rotate_right; decide +kernel)
    | (with_reducible refine State.dclOut_keeps ?_ (List.Subset.trans ?_ hl); rotate_right; decide +kernel)
    | (with_reducible refine State.modDcl_keeps ?_ (List.Subset.trans ?_ hl); rotate_right; decide +kernel)
    | (with_reducible refine State.dclTo_keeps ?_ (List.Subset.trans ?_ hl); rotate_right; decide +kernel)

theorem closeStep1_keeps {l : List Part} {s : State} {a0 : State} (h : Keeps l s a0)
    (hl : ([.evLast, .sent, .hosts, .later, .dcl, .hpn, .one O.dclState, .one O.dclFlags] : List Part) ⊆ l) : Keeps l s (@State.closeStep1 a0) := by
  unfold State.closeStep1
  repeat' first
    | with_reducible assumption
    | with_reducible refine Keeps.ite ?_ ?_
    | (with_reducible refine State.weldSkipped_keeps ?_ (List.Subset.trans ?_ hl); rotate_right; decide +kernel)
    | (with_reducible refine State.dclOut_keeps ?_ (List.Subset.trans ?_ hl); rotate_right; decide +kernel)
    | (with_reducible refine State.modDcl_keeps ?_ (List.Subset.trans ?_ hl); rotate_right; decide +kernel)
    | (with_reducible refine State.dclTo_keeps ?_ (List.Subset.trans ?_ hl); rotate_right; decide +kernel)
    | (with_reducible refine State.closeStep2_keeps ?_ (List.Subset.trans ?_ hl); rotate_right; decide +kernel)

theorem closeStart_keeps {l : List Part} {s : State} {a0 : State} (h : Keeps l s a0)
    (hl : ([.evLast, .sent, .hosts, .later, .dcl, .hpn, .one O.dclState, .one O.dclFlags] : List Part) ⊆ l) : Keeps l s (@State.closeStart a0) := by
  unfold State.closeStart
  repeat' first
    | with_reducible assumption
    | with_reducible refine Keeps.ite ?_ ?_
    | (with_reducible refine State.closeStep1_keeps ?_ (List.Subset.trans ?_ hl); rotate_right; decide +kernel)
    | (with_reducible refine State.modDcl_keeps ?_ (List.Subset.trans ?_ hl); rotate_right; decide +kernel)
    | (with_reducible refine State.dclTo_keeps ?_ (List.Subset.trans ?_ hl); rotate_right; decide +kernel)

theorem closeStepEnd_keeps {l : List Part} {s : State} {a0 : State} (h : Keeps l s a0)
    (hl : ([.evLast, .sent, .hosts, .disp, .later, .dcl, .hpn, .one O.dclState, .one O.dclFlags] : List Part) ⊆ l) : Keeps l s (@State.closeStepEnd a0) := by
  unfold State.closeStepEnd
  repeat' first
    | with_reducible assumption
    | with_reducible refine Keeps.ite ?_ ?_
    | (with_reducible refine State.closeFail_keeps ?_ (List.Subset.trans ?_ hl); rotate_right; decide +kernel)
    | (with_reducible refine State.closeStep3_keeps ?_ (List.Subset.trans ?_ hl); rotate_right; decide +kernel)
    | (with_reducible refine State.closeStep1_keeps ?_ (List.Subset.trans ?_ hl); rotate_right; decide +kernel)
    | (with_reducible refine State.closeDone_keeps ?_ (List.Subset.trans ?_ hl); rotate_right; decide +kernel)
    | (with_reducible refine State.closeStep2_keeps ?_ (List.Subset.trans ?_ hl); rotate_right; decide +kernel)

theorem coldReset_keeps {l : List Part} {s : State} {a0 : State} (h : Keeps l s a0)
    (hl : ([.axt, .follow, .sec, .pwr] : List Part) ⊆ l) : Keeps l s (@State.coldReset a0) := by
  unfold State.coldReset
  repeat' first
    | with_reducible assumption
    | with_reducible refine Keeps.ite ?_ ?_
    | (with_reducible refine State.bootBegin_keeps ?_ (List.Subset.trans ?_ hl); rotate_right; decide +kernel)
    | (with_reducible refine State.modPwr_keeps ?_ (List.Subset.trans ?_ hl); rotate_right; decide +kernel)
    | (with_reducible refine State.setAxt_keeps ?_ (List.Subset.trans ?_ hl); rotate_right; decide +kernel)
    | intro x
    | lift_lets
    | (with_reducible refine Keeps.set_sec ?_ (inL hl ?_); rotate_right; decide +kernel)

theorem commJob_keeps {l : List Part} {s : State} {a0 : State} {a1 : _} (h : Keeps l s a0)
    (hl : ([.evLast, .sent, .hosts, .disp, .later, .ctx, .amc, .hpn, .thm, .fam O.lpeStatus 64, .fam O.lpeTrState 4, .fam O.lpeTrCount 4, .fam O.amcState 6, .fam O.amcSpeed 6, .fam O.amcPosition 6] : List Part) ⊆ l) : Keeps l s (@State.commJob a0 a1) := by
  unfold State.commJob
  repeat' first
    | with_reducible assumption
    | with_reducible refine Keeps.ite ?_ ?_
    | (with_reducible refine State.amcMoveEnd_keeps ?_ (List.Subset.trans ?_ hl); rotate_right; decide +kernel)
    | (with_reducible refine State.amcMoveBrake_keeps ?_ (List.Subset.trans ?_ hl); rotate_right; decide +kernel)

theorem commStep_keeps {l : List Part} {s : State} {a0 : State} {a1 : _} (h : Keeps l s a0)
    (hl : ([.amc, .fam O.amcPosition 6] : List Part) ⊆ l) : Keeps l s (@State.commStep a0 a1) := by
  unfold State.commStep
  repeat' first
    | with_reducible assumption
    | with_reducible refine Keeps.ite ?_ ?_
    | (with_reducible refine State.setAmcPos_keeps ?_ (List.Subset.trans ?_ hl); rotate_right; decide +kernel)
    | (with_reducible refine State.modAmc_keeps ?_ (List.Subset.trans ?_ hl); rotate_right; decide +kernel)

theorem implausHooks_keeps {l : List Part} {s : State} {a0 : State} {a1 : _} (h : Keeps l s a0)
    (hl : ([.evLast, .sent, .hosts, .disp, .later, .links, .trx, .ctx, .ptg, .chg, .hpn, .one O.sysXingDropFlags, .fam O.trxState 4, .fam O.trxFlags 4, .fam O.trxFault 4, .fam O.trxAngleSrc 4, .fam O.trxSsState 4, .fam O.trxSsLosses 4, .fam O.lpeStatus 64, .fam O.lpeTrState 4, .fam O.lpeTrCount 4, .one O.chgState, .one O.chgInput, .one O.chgFlags, .one O.chgCause, .one O.chgIInLim, .one O.chgPIn] : List Part) ⊆ l) : Keeps l s (@State.implausHooks a0 a1) := by
  unfold State.implausHooks
  repeat' first
    | with_reducible assumption
    | with_reducible refine Keeps.ite ?_ ?_
    | with_reducible refine Keeps.dite ?_ ?_
    | (with_reducible refine State.chgStopFor_keeps ?_ (List.Subset.trans ?_ hl); rotate_right; decide +kernel)
    | (with_reducible refine State.setLost_keeps ?_ (List.Subset.trans ?_ hl); rotate_right; decide +kernel)
    | intro x

theorem xingSend_keeps {l : List Part} {s : State} {a0 : State} {a1 : _} {a2 : _} (h : Keeps l s a0) (hf : ∀ u, Keeps l s u → Keeps l s (a2 u))
    (hl : ([.sent, .xing, .hosts, .later, .hpn, .one O.sysXingDropFlags] : List Part) ⊆ l) : Keeps l s (@State.xingSend a0 a1 a2) := by
  unfold State.xingSend
  repeat' first
    | with_reducible assumption
    | with_reducible refine hf _ ?_
    | with_reducible refine Keeps.ite ?_ ?_
    | (with_reducible refine State.xingDrop_keeps ?_ (List.Subset.trans ?_ hl); rotate_right; decide +kernel)
    | (with_reducible refine Keeps.set_xing ?_ (inL hl ?_); rotate_right; decide +kernel)

theorem traceOne_keeps {l : List Part} {s : State} {a0 : State} {a1 : _} {a2 : _} {a3 : _} {a4 : _} {a5 : _} {a6 : _} {a7 : _} (h : Keeps l s a0)
    (hl : ([.evLast, .sent, .hosts, .later, .tb, .hpn, .fam O.lpeTrState 4, .fam O.lpeTrTrigAxt 4, .fam O.lpeTrCount 4, .fam O.lpeTrTrigIndex 4] : List Part) ⊆ l) : Keeps l s (@State.traceOne a0 a1 a2 a3 a4 a5 a6 a7) := by
  unfold State.traceOne
  repeat' first
    | with_reducible assumption
    | with_reducible refine Keeps.ite ?_ ?_
    | (with_reducible refine State.setO_keeps ?_ ⟨_, inL hl ?_, O.lpeTrCount_has _ ?_⟩; rotate_right; (first | exact Fin.isLt _ | omega | (simp only [List.mem_range] at *; omega)); rotate_right; decide +kernel)
    | (with_reducible refine State.setO_keeps ?_ ⟨_, inL hl ?_, O.lpeTrState_has _ ?_⟩; rotate_right; (first | exact Fin.isLt _ | omega | (simp only [List.mem_range] at *; omega)); rotate_right; decide +kernel)
    | (with_reducible refine State.setO_keeps ?_ ⟨_, inL hl ?_, O.lpeTrTrigAxt_has _ ?_⟩; rotate_right; (first | exact Fin.isLt _ | omega | (simp only [List.mem_range] at *; omega)); rotate_right; decide +kernel)
    | (with_reducible refine State.setO_keeps ?_ ⟨_, inL hl ?_, O.lpeTrTrigIndex_has _ ?_⟩; rotate_right; (first | exact Fin.isLt _ | omega | (simp only [List.mem_range] at *; omega)); rotate_right; decide +kernel)
    | (with_reducible refine State.traceEnd_keeps ?_ (List.Subset.trans ?_ hl); rotate_right; decide +kernel)
    | (with_reducible refine State.when_keeps ?_ ?_ (List.Subset.trans ?_ hl); rotate_right; decide +kernel)
    | intro x
    | lift_lets
    | (with_reducible refine Keeps.set_tb ?_ (inL hl ?_); rotate_right; decide +kernel)

theorem traceRun_keeps {l : List Part} {s : State} {a0 : State} {a1 : _} {a2 : _} {a3 : _} {a4 : _} {a5 : _} {a6 : _} (h : Keeps l s a0)
    (hl : ([.evLast, .sent, .hosts, .later, .tb, .hpn, .fam O.lpeTrState 4, .fam O.lpeTrTrigAxt 4, .fam O.lpeTrCount 4, .fam O.lpeTrTrigIndex 4] : List Part) ⊆ l) : Keeps l s (@State.traceRun a0 a1 a2 a3 a4 a5 a6) := by
  unfold State.traceRun
  repeat' first
    | with_reducible assumption
    | (with_reducible refine State.traceOne_keeps ?_ (List.Subset.trans ?_ hl); rotate_right; decide +kernel)
    | with_reducible refine Keeps.foldl ?_ ?_
    | intro x

theorem commitRun_keeps {l : List Part} {s : State} {a0 : State} {a1 : _} {a2 : _} (h : Keeps l s a0)
    (hl : ([.evLast, .sent, .xing, .hosts, .later, .ctx, .tb, .hpn, .one O.sysXingDropFlags, .fam O.lpeOut 64, .fam O.lpeInteg 64, .fam O.lpeStatus 64, .fam O.lpeResidual 64, .fam O.lpeTrState 4, .fam O.lpeTrTrigAxt 4, .fam O.lpeTrCount 4, .fam O.lpeTrTrigIndex 4] : List Part) ⊆ l) : KeepsP l s (@State.commitRun a0 a1 a2) := by
  unfold State.commitRun
  repeat' first
    | with_reducible assumption
    | (intro x; have hx : Keeps l s x := ?_; clear_value x)
    | (with_reducible refine State.showOut_keeps ?_ (List.Subset.trans ?_ hl); rotate_right; decide +kernel)
    | (with_reducible refine State.xingSend_keeps ?_ ?_ (List.Subset.trans ?_ hl); rotate_right; decide +kernel)
    | (with_reducible refine State.setO_keeps ?_ ⟨_, inL hl ?_, O.lpeResidual_has _ ?_⟩; rotate_right; (first | exact Fin.isLt _ | omega | (simp only [List.mem_range] at *; omega)); rotate_right; decide +kernel)
    | (with_reducible refine State.traceRun_keeps ?_ (List.Subset.trans ?_ hl); rotate_right; decide +kernel)
    | (with_reducible refine State.raise_keeps ?_ (List.Subset.trans ?_ hl); rotate_right; decide +kernel)
    | (with_reducible refine State.modCtx_keeps ?_ (List.Subset.trans ?_ hl); rotate_right; decide +kernel)
    | (with_reducible refine State.clrO_keeps ?_ ⟨_, inL hl ?_, O.lpeStatus_has _ ?_⟩; rotate_right; (first | exact Fin.isLt _ | omega | (simp only [List.mem_range] at *; omega)); rotate_right; decide +kernel)
    | (with_reducible refine State.when_keeps ?_ ?_ (List.Subset.trans ?_ hl); rotate_right; decide +kernel)
    | (with_reducible refine State.orO_keeps ?_ ⟨_, inL hl ?_, O.lpeStatus_has _ ?_⟩; rotate_right; (first | exact Fin.isLt _ | omega | (simp only [List.mem_range] at *; omega)); rotate_right; decide +kernel)
    | intro x
    | lift_lets
    | with_reducible refine KeepsP.mk ?_

theorem modCg_keeps {l : List Part} {s : State} {a0 : State} {a1 : _} {a2 : _} (h : Keeps l s a0)
    (hl : ([.cgs] : List Part) ⊆ l) : Keeps l s (@State.modCg a0 a1 a2) := by
  unfold State.modCg
  repeat' first
    | with_reducible assumption
    | (with_reducible refine Keeps.set_cgs ?_ (inL hl ?_); rotate_right; decide +kernel)

theorem putCmds_keeps {l : List Part} {s : State} {a0 : State} {a1 : _} {a2 : _} (h : Keeps l s a0)
    (hl : ([.cgs] : List Part) ⊆ l) : Keeps l s (@State.putCmds a0 a1 a2) := by
  unfold State.putCmds
  repeat' first
    | with_reducible assumption
    | (with_reducible refine State.modCg_keeps ?_ (List.Subset.trans ?_ hl); rotate_right; decide +kernel)

theorem trxUpdate_keeps {l : List Part} {s : State} {a0 : State} {a1 : _} {a2 : _} (h : Keeps l s a0)
    (hl : ([.cgs] : List Part) ⊆ l) : Keeps l s (@State.trxUpdate a0 a1 a2) := by
  unfold State.trxUpdate
  repeat' first
    | with_reducible assumption
    | (with_reducible refine State.putCmds_keeps ?_ (List.Subset.trans ?_ hl); rotate_right; decide +kernel)

theorem pfcUpdate_keeps {l : List Part} {s : State} {a0 : State} {a1 : _} (h : Keeps l s a0)
    (hl : ([.cgs] : List Part) ⊆ l) : Keeps l s (@State.pfcUpdate a0 a1) := by
  unfold State.pfcUpdate
  repeat' first
    | with_reducible assumption
    | (with_reducible refine State.putCmds_keeps ?_ (List.Subset.trans ?_ hl); rotate_right; decide +kernel)

theorem dabUpdate_keeps {l : List Part} {s : State} {a0 : State} (h : Keeps l s a0)
    (hl : ([.cgs] : List Part) ⊆ l) : Keeps l s (@State.dabUpdate a0) := by
  unfold State.dabUpdate
  repeat' first
    | with_reducible assumption
    | (with_reducible refine State.putCmds_keeps ?_ (List.Subset.trans ?_ hl); rotate_right; decide +kernel)

theorem planUpdate_keeps {l : List Part} {s : State} {a0 : State} {a1 : _} (h : Keeps l s a0)
    (hl : ([.cgs] : List Part) ⊆ l) : Keeps l s (@State.planUpdate a0 a1) := by
  unfold State.planUpdate
  repeat' first
    | with_reducible assumption
    | with_reducible refine Keeps.ite ?_ ?_
    | with_reducible refine Keeps.dite ?_ ?_
    | (with_reducible refine State.trxUpdate_keeps ?_ (List.Subset.trans ?_ hl); rotate_right; decide +kernel)
    | (with_reducible refine State.pfcUpdate_keeps ?_ (List.Subset.trans ?_ hl); rotate_right; decide +kernel)
    | (with_reducible refine State.dabUpdate_keeps ?_ (List.Subset.trans ?_ hl); rotate_right; decide +kernel)
    | (with_reducible refine State.when_keeps ?_ ?_ (List.Subset.trans ?_ hl); rotate_right; decide +kernel)
    | intro x
    | lift_lets
    | (with_reducible refine Keeps.set_cgs ?_ (inL hl ?_); rotate_right; decide +kernel)

theorem commit_keeps {l : List Part} {s : State} {a0 : State} {a1 : _} (h : Keeps l s a0)
    (hl : ([.evLast, .sent, .xing, .hosts, .disp, .later, .links, .cgs, .trx, .ctx, .tb, .ptg, .chg, .amc, .hpn, .one O.sysXingDropFlags, .fam O.trxState 4, .fam O.trxFlags 4, .fam O.trxFault 4, .fam O.trxAngleSrc 4, .fam O.trxSsState 4, .fam O.trxSsLosses 4, .fam O.lpeOut 64, .fam O.lpeInteg 64, .fam O.lpeStatus 64, .fam O.lpeResidual 64, .fam O.lpeRunMax 64, .fam O.lpeTrState 4, .fam O.lpeTrTrigAxt 4, .fam O.lpeTrCount 4, .fam O.lpeTrTrigIndex 4, .one O.chgState, .one O.chgInput, .one O.chgFlags, .one O.chgCause, .one O.chgIInLim, .one O.chgPIn] : List Part) ⊆ l) : Keeps l s (@State.commit a0 a1) := by
  unfold State.commit
  repeat' first
    | with_reducible assumption
    | dsimp only [List.foldl_cons, List.foldl_nil]
    | with_reducible refine Keeps.ite ?_ ?_
    | with_reducible refine Keeps.dite ?_ ?_
    | (with_reducible refine State.implausHooks_keeps ?_ (List.Subset.trans ?_ hl); rotate_right; decide +kernel)
    | (with_reducible refine State.setO_keeps ?_ ⟨_, inL hl ?_, O.lpeRunMax_has _ ?_⟩; rotate_right; (first | exact Fin.isLt _ | omega | (simp only [List.mem_range] at *; omega)); rotate_right; decide +kernel)
    | (with_reducible refine State.amcDutyKeep_keeps ?_ (List.Subset.trans ?_ hl); rotate_right; decide +kernel)
    | (with_reducible refine KeepsP.fst (State.commitRun_keeps ?_ (List.Subset.trans ?_ hl)); rotate_right; decide +kernel)
    | (with_reducible refine State.when_keeps ?_ ?_ (List.Subset.trans ?_ hl); rotate_right; decide +kernel)
    | (with_reducible refine State.sendSafe_keeps ?_ (List.Subset.trans ?_ hl); rotate_right; decide +kernel)
    | (with_reducible refine State.planUpdate_keeps ?_ (List.Subset.trans ?_ hl); rotate_right; decide +kernel)
    | intro x
    | split

theorem flashRefuse_keeps {l : List Part} {s : State} {a0 : State} (h : Keeps l s a0)
    (hl : ([.evLast, .sent, .hosts, .later, .hpn, .one O.thmFlags] : List Part) ⊆ l) : Keeps l s (@State.flashRefuse a0) := by
  unfold State.flashRefuse
  repeat' first
    | with_reducible assumption
    | (with_reducible refine State.raise_keeps ?_ (List.Subset.trans ?_ hl); rotate_right; decide +kernel)
    | (with_reducible refine State.orO_keeps ?_ ⟨_, inL hl ?_, O.thmFlags_has⟩; rotate_right; decide +kernel)

theorem commitCmd_keeps {l : List Part} {s : State} {a0 : _} {a1 : State} (h : Keeps l s a1)
    (hl : ([.evLast, .sent, .hosts, .disp, .later, .hpn, .one O.thmFlags] : List Part) ⊆ l) : KeepsP l s (@State.commitCmd a0 a1) := by
  unfold State.commitCmd
  repeat' first
    | with_reducible assumption
    | with_reducible refine KeepsP.ite ?_ ?_
    | (with_reducible refine State.flashRefuse_keeps ?_ (List.Subset.trans ?_ hl); rotate_right; decide +kernel)
    | (with_reducible refine KeepsP.fst (State.guarded_keeps ?_ ?_ (List.Subset.trans ?_ hl)); rotate_right; decide +kernel)
    | (with_reducible refine State.guarded_keeps ?_ ?_ (List.Subset.trans ?_ hl); rotate_right; decide +kernel)
    | (with_reducible refine State.hold_keeps ?_ (List.Subset.trans ?_ hl); rotate_right; decide +kernel)
    | intro x
    | lift_lets
    | with_reducible refine KeepsP.mk ?_

theorem flashL_keeps {l : List Part} {s : State} {a0 : State} {a1 : _} (h : Keeps l s a0)
    (hl : ([.flash, .dirty] : List Part) ⊆ l) : Keeps l s (@State.flashL a0 a1) := by
  unfold State.flashL
  repeat' first
    | with_reducible assumption
    | (with_reducible refine Keeps.set_flash_dirty ?_ (inL hl ?_) (inL hl ?_); rotate_right; decide +kernel; rotate_right; decide +kernel)

theorem commitDone_keeps {l : List Part} {s : State} {a0 : State} (h : Keeps l s a0)
    (hl : ([.flash, .dirty, .free, .evLast, .sent, .hosts, .disp, .later, .hpn, .thm, .one O.thmFlags] : List Part) ⊆ l) : Keeps l s (@State.commitDone a0) := by
  unfold State.commitDone
  repeat' first
    | with_reducible assumption
    | with_reducible refine Keeps.ite ?_ ?_
    | (with_reducible refine State.flashRefuse_keeps ?_ (List.Subset.trans ?_ hl); rotate_right; decide +kernel)
    | (with_reducible refine State.endAll_keeps ?_ (List.Subset.trans ?_ hl); rotate_right; decide +kernel)
    | (with_reducible refine State.flashL_keeps ?_ (List.Subset.trans ?_ hl); rotate_right; decide +kernel)
    | (with_reducible refine State.flashPause_keeps ?_ (List.Subset.trans ?_ hl); rotate_right; decide +kernel)
    | (with_reducible refine State.takeFree_keeps ?_ (List.Subset.trans ?_ hl); rotate_right; decide +kernel)

theorem commutate_keeps {l : List Part} {s : State} {a0 : State} {a1 : _} (h : Keeps l s a0)
    (hl : ([.evLast, .sent, .hosts, .disp, .later, .ctx, .amc, .hpn, .thm, .fam O.lpeStatus 64, .fam O.lpeTrState 4, .fam O.lpeTrCount 4, .fam O.amcSpeedReq 6, .fam O.amcState 6, .fam O.amcSpeed 6, .fam O.amcPosition 6, .fam O.amcFlags 6, .fam O.amcFault 6, .one O.amcParkState] : List Part) ⊆ l) : Keeps l s (@State.commutate a0 a1) := by
  unfold State.commutate
  repeat' first
    | with_reducible assumption
    | (intro x; have hx : Keeps l s x := ?_; clear_value x)
    | with_reducible refine Keeps.ite ?_ ?_
    | (with_reducible refine State.amcStartFail_keeps ?_ (List.Subset.trans ?_ hl); rotate_right; decide +kernel)
    | (with_reducible refine State.commStep_keeps ?_ (List.Subset.trans ?_ hl); rotate_right; decide +kernel)
    | (with_reducible refine State.commJob_keeps ?_ (List.Subset.trans ?_ hl); rotate_right; decide +kernel)
    | (with_reducible refine State.amcRelease_keeps ?_ (List.Subset.trans ?_ hl); rotate_right; decide +kernel)
    | (with_reducible refine State.setQ_keeps ?_ ⟨_, inL hl ?_, O.amcSpeed_has _ ?_⟩; rotate_right; (first | exact Fin.isLt _ | omega | (simp only [List.mem_range] at *; omega)); rotate_right; decide +kernel)
    | (with_reducible refine State.modAmc_keeps ?_ (List.Subset.trans ?_ hl); rotate_right; decide +kernel)
    | intro x
    | lift_lets
    | split

theorem ntcMeasure_keeps {l : List Part} {s : State} {a0 : State} {a1 : _} (h : Keeps l s a0)
    (hl : ([.fam O.thmT 72] : List Part) ⊆ l) : Keeps l s (@State.ntcMeasure a0 a1) := by
  unfold State.ntcMeasure
  repeat' first
    | with_reducible assumption
    | with_reducible refine Keeps.ite ?_ ?_
    | (with_reducible refine State.setO_keeps ?_ ⟨_, inL hl ?_, O.thmT_has _ ?_⟩; rotate_right; (first | exact Fin.isLt _ | omega | (simp only [List.mem_range] at *; omega)); rotate_right; decide +kernel)
    | (with_reducible refine State.setQ_keeps ?_ ⟨_, inL hl ?_, O.thmT_has _ ?_⟩; rotate_right; (first | exact Fin.isLt _ | omega | (simp only [List.mem_range] at *; omega)); rotate_right; decide +kernel)
    | with_reducible refine Keeps.foldl ?_ ?_
    | intro x

theorem rpkDone_keeps {l : List Part} {s : State} {a0 : State} {a1 : _} (h : Keeps l s a0)
    (hl : ([.evLast, .sent, .hosts, .later, .ctx, .rpk, .hpn, .fam O.lpeStatus 64, .fam O.lpeTrState 4, .fam O.lpeTrCount 4, .one O.rpkState, .one O.rpkFlags, .one O.rpkEnd] : List Part) ⊆ l) : Keeps l s (@State.rpkDone a0 a1) := by
  unfold State.rpkDone
  repeat' first
    | with_reducible assumption
    | (with_reducible refine State.rpkTo_keeps ?_ (List.Subset.trans ?_ hl); rotate_right; decide +kernel)
    | (with_reducible refine State.setO_keeps ?_ ⟨_, inL hl ?_, O.rpkEnd_has⟩; rotate_right; decide +kernel)
    | (with_reducible refine State.orO_keeps ?_ ⟨_, inL hl ?_, O.rpkFlags_has⟩; rotate_right; decide +kernel)

theorem packTemp_keeps {l : List Part} {s : State} {a0 : State} (h : Keeps l s a0)
    (hl : ([.evLast, .sent, .hosts, .later, .ctx, .rpk, .hpn, .fam O.lpeStatus 64, .fam O.lpeTrState 4, .fam O.lpeTrCount 4, .one O.rpkState, .one O.rpkFlags, .one O.rpkEnd, .one O.rpkTPack] : List Part) ⊆ l) : Keeps l s (@State.packTemp a0) := by
  unfold State.packTemp
  repeat' first
    | with_reducible assumption
    | with_reducible refine Keeps.ite ?_ ?_
    | (with_reducible refine State.rpkTo_keeps ?_ (List.Subset.trans ?_ hl); rotate_right; decide +kernel)
    | (with_reducible refine State.modRpk_keeps ?_ (List.Subset.trans ?_ hl); rotate_right; decide +kernel)
    | (with_reducible refine State.setQ_keeps ?_ ⟨_, inL hl ?_, O.rpkTPack_has⟩; rotate_right; decide +kernel)
    | (with_reducible refine State.rpkDone_keeps ?_ (List.Subset.trans ?_ hl); rotate_right; decide +kernel)
    | (with_reducible refine State.rpkPause_keeps ?_ (List.Subset.trans ?_ hl); rotate_right; decide +kernel)
    | (with_reducible refine State.clrO_keeps ?_ ⟨_, inL hl ?_, O.rpkFlags_has⟩; rotate_right; decide +kernel)
    | (with_reducible refine State.when_keeps ?_ ?_ (List.Subset.trans ?_ hl); rotate_right; decide +kernel)
    | (with_reducible refine State.orO_keeps ?_ ⟨_, inL hl ?_, O.rpkFlags_has⟩; rotate_right; decide +kernel)
    | intro x

theorem rpkMeasure_keeps {l : List Part} {s : State} {a0 : State} {a1 : _} (h : Keeps l s a0)
    (hl : ([.evLast, .sent, .hosts, .later, .ctx, .rpk, .hpn, .fam O.lpeStatus 64, .fam O.lpeTrState 4, .fam O.lpeTrCount 4, .one O.rpkState, .one O.rpkFlags, .one O.rpkEnd, .one O.rpkVPack, .one O.rpkIPack, .one O.rpkTPack] : List Part) ⊆ l) : Keeps l s (@State.rpkMeasure a0 a1) := by
  unfold State.rpkMeasure
  repeat' first
    | with_reducible assumption
    | with_reducible refine Keeps.ite ?_ ?_
    | (with_reducible refine State.modRpk_keeps ?_ (List.Subset.trans ?_ hl); rotate_right; decide +kernel)
    | (with_reducible refine State.setQ_keeps ?_ ⟨_, inL hl ?_, O.rpkIPack_has⟩; rotate_right; decide +kernel)
    | (with_reducible refine State.setQ_keeps ?_ ⟨_, inL hl ?_, O.rpkVPack_has⟩; rotate_right; decide +kernel)
    | (with_reducible refine State.packTemp_keeps ?_ (List.Subset.trans ?_ hl); rotate_right; decide +kernel)

theorem delivered_keeps {l : List Part} {s : State} {a0 : State} {a1 : _} {a2 : _} (h : Keeps l s a0)
    (hl : ([.evLast, .sent, .hosts, .disp, .later, .links, .ctx, .chg, .aux, .rpk, .hpn, .thm, .fam O.thmT 72, .fam O.lpeOut 64, .fam O.lpeInteg 64, .fam O.lpeStatus 64, .fam O.lpeTrState 4, .fam O.lpeTrCount 4, .one O.chgState, .one O.chgInput, .one O.chgFlags, .one O.chgCause, .one O.chgIInLim, .one O.chgPIn, .one O.chgVPvRef, .one O.chgVOc, .one O.auxState, .one O.auxFlags, .one O.auxVOut, .one O.auxIOut, .one O.auxPOut, .one O.rpkState, .one O.rpkFlags, .one O.rpkEnd, .one O.rpkVPack, .one O.rpkIPack, .one O.rpkTPack] : List Part) ⊆ l) : Keeps l s (@State.delivered a0 a1 a2) := by
  unfold State.delivered
  repeat' first
    | with_reducible assumption
    | with_reducible refine Keeps.ite ?_ ?_
    | (with_reducible refine State.ntcMeasure_keeps ?_ (List.Subset.trans ?_ hl); rotate_right; decide +kernel)
    | (with_reducible refine State.chgSample_keeps ?_ (List.Subset.trans ?_ hl); rotate_right; decide +kernel)
    | (with_reducible refine State.arrive_keeps ?_ (List.Subset.trans ?_ hl); rotate_right; decide +kernel)
    | (with_reducible refine State.rpkMeasure_keeps ?_ (List.Subset.trans ?_ hl); rotate_right; decide +kernel)
    | (with_reducible refine State.auxMeasure_keeps ?_ (List.Subset.trans ?_ hl); rotate_right; decide +kernel)

theorem deliver_keeps {l : List Part} {s : State} {a0 : State} {a1 : _} {a2 : _} {a3 : _} (h : Keeps l s a0)
    (hl : ([.sent, .xing, .hosts, .later, .adc, .hpn, .one O.sysXingDropFlags, .fam O.adcResValue 384] : List Part) ⊆ l) : Keeps l s (@State.deliver a0 a1 a2 a3) := by
  unfold State.deliver
  have h1 : Keeps l s (if a1 < 384 then a0.setO (O.adcResValue a1) (a2 + a3 * 2 ^ 32) else a0) := by
    split
    · exact setO_keeps h ⟨_, inL hl (by decide +kernel), O.adcResValue_has _ ‹_›⟩
    · exact h
  exact xingSend_keeps h1 (fun u hu => modAdc_keeps hu (List.Subset.trans (by decide +kernel) hl)) (List.Subset.trans (by decide +kernel) hl)

theorem gainUse_keeps {l : List Part} {s : State} {a0 : State} {a1 : _} {a2 : _} (h : Keeps l s a0)
    (hl : ([.adc] : List Part) ⊆ l) : Keeps l s (@State.gainUse a0 a1 a2) := by
  unfold State.gainUse
  repeat' first
    | with_reducible assumption
    | (with_reducible refine State.modAdc_keeps ?_ (List.Subset.trans ?_ hl); rotate_right; decide +kernel)

theorem convert_keeps {l : List Part} {s : State} {a0 : State} {a1 : _} {a2 : _} {a3 : _} {a4 : _} (h : Keeps l s a0)
    (hl : ([.evLast, .sent, .xing, .hosts, .later, .adc, .hpn, .one O.sysXingDropFlags, .fam O.adcStatus 12, .fam O.adcResValue 384] : List Part) ⊆ l) : Keeps l s (@State.convert a0 a1 a2 a3 a4) := by
  unfold State.convert
  repeat' first
    | with_reducible assumption
    | with_reducible refine Keeps.ite ?_ ?_
    | (with_reducible refine State.overrange_keeps ?_ (List.Subset.trans ?_ hl); rotate_right; decide +kernel)
    | (with_reducible refine State.deliver_keeps ?_ (List.Subset.trans ?_ hl); rotate_right; decide +kernel)
    | (with_reducible refine State.putRes_keeps ?_ (List.Subset.trans ?_ hl); rotate_right; decide +kernel)
    | (with_reducible refine State.gainUse_keeps ?_ (List.Subset.trans ?_ hl); rotate_right; decide +kernel)

theorem conversionDone_keeps {l : List Part} {s : State} {a0 : State} {a1 : _} {a2 : _} (h : Keeps l s a0)
    (hl : ([.evLast, .sent, .xing, .hosts, .slots, .disp, .later, .links, .ctx, .adc, .chg, .aux, .rpk, .hpn, .thm, .one O.sysXingDropFlags, .fam O.thmT 72, .fam O.lpeOut 64, .fam O.lpeInteg 64, .fam O.lpeStatus 64, .fam O.lpeTrState 4, .fam O.lpeTrCount 4, .fam O.adcStatus 12, .fam O.adcPasses 12, .fam O.adcInjFree 12, .one O.adcCalResult, .fam O.adcResValue 384, .one O.chgState, .one O.chgInput, .one O.chgFlags, .one O.chgCause, .one O.chgIInLim, .one O.chgPIn, .one O.chgVPvRef, .one O.chgVOc, .one O.auxState, .one O.auxFlags, .one O.auxVOut, .one O.auxIOut, .one O.auxPOut, .one O.rpkState, .one O.rpkFlags, .one O.rpkEnd, .one O.rpkVPack, .one O.rpkIPack, .one O.rpkTPack] : List Part) ⊆ l) : Keeps l s (@State.conversionDone a0 a1 a2) := by
  unfold State.conversionDone
  extract_lets a
  clear_value a
  split
  · exact h
  · have h1 : ∀ f c w t o r, Keeps l s (((a0.modConv a1 f).convert a1 c w t).delivered o r) := fun f c w t o r =>
      delivered_keeps (convert_keeps (modConv_keeps h (List.Subset.trans (by decide +kernel) hl)) (List.Subset.trans (by decide +kernel) hl)) (List.Subset.trans (by decide +kernel) hl)
    exact Keeps.ite h (Keeps.ite
      (coverTry_keeps (coverTry_keeps (adcRest_keeps (modConv_keeps (incMod_keeps (h1 _ _ _ _ _ _)
        ⟨_, (inL hl (by decide +kernel)), O.adcPasses_has _ (Fin.isLt _)⟩) (List.Subset.trans (by decide +kernel) hl)) (List.Subset.trans (by decide +kernel) hl)) (List.Subset.trans (by decide +kernel) hl)) (List.Subset.trans (by decide +kernel) hl))
      (Keeps.ite (h1 _ _ _ _ _ _) (adcRest_keeps (modConv_keeps (h1 _ _ _ _ _ _) (List.Subset.trans (by decide +kernel) hl)) (List.Subset.trans (by decide +kernel) hl))))

theorem portCrit_keeps {l : List Part} {s : State} {a0 : State} {a1 : _} {a2 : _} (h : Keeps l s a0)
    (hl : ([.pos] : List Part) ⊆ l) : Keeps l s (@State.portCrit a0 a1 a2) := by
  unfold State.portCrit
  repeat' first
    | with_reducible assumption
    | (with_reducible refine State.modPos_keeps ?_ (List.Subset.trans ?_ hl); rotate_right; decide +kernel)

theorem qerr_keeps {l : List Part} {s : State} {a0 : State} {a1 : _} (h : Keeps l s a0)
    (hl : ([.pos, .fam O.posQerr 4] : List Part) ⊆ l) : Keeps l s (@State.qerr a0 a1) := by
  unfold State.qerr
  repeat' first
    | with_reducible assumption
    | with_reducible refine Keeps.ite ?_ ?_
    | (with_reducible refine State.incSat_keeps ?_ ⟨_, inL hl ?_, O.posQerr_has _ ?_⟩; rotate_right; (first | exact Fin.isLt _ | omega | (simp only [List.mem_range] at *; omega)); rotate_right; decide +kernel)
    | (with_reducible refine State.portCrit_keeps ?_ (List.Subset.trans ?_ hl); rotate_right; decide +kernel)
    | (with_reducible refine State.modPos_keeps ?_ (List.Subset.trans ?_ hl); rotate_right; decide +kernel)

theorem countEdge_keeps {l : List Part} {s : State} {a0 : State} {a1 : _} {a2 : _} {a3 : _} (h : Keeps l s a0)
    (hl : ([.pos, .fam O.posQerr 4] : List Part) ⊆ l) : Keeps l s (@State.countEdge a0 a1 a2 a3) := by
  unfold State.countEdge
  repeat' first
    | with_reducible assumption
    | with_reducible refine Keeps.ite ?_ ?_
    | (with_reducible refine State.qerr_keeps ?_ (List.Subset.trans ?_ hl); rotate_right; decide +kernel)
    | (with_reducible refine State.modPos_keeps ?_ (List.Subset.trans ?_ hl); rotate_right; decide +kernel)

theorem ctle_keeps {l : List Part} {s : State} {a0 : State} {a1 : _} {a2 : _} {a3 : _} {a4 : _} (h : Keeps l s a0)
    (hl : ([.links, .fam O.glkRxCtle 40] : List Part) ⊆ l) : Keeps l s (@State.ctle a0 a1 a2 a3 a4) := by
  unfold State.ctle
  repeat' first
    | with_reducible assumption
    | with_reducible refine Keeps.ite ?_ ?_
    | (with_reducible refine State.modLink_keeps ?_ (List.Subset.trans ?_ hl); rotate_right; decide +kernel)
    | (with_reducible refine State.setO_keeps ?_ ⟨_, inL hl ?_, O.glkRxCtle_has _ ?_⟩; rotate_right; (first | exact Fin.isLt _ | omega | (simp only [List.mem_range] at *; omega)); rotate_right; decide +kernel)

theorem packRemoved_keeps {l : List Part} {s : State} {a0 : State} (h : Keeps l s a0)
    (hl : ([.evLast, .sent, .hosts, .later, .ctx, .rpk, .hpn, .fam O.lpeStatus 64, .fam O.lpeTrState 4, .fam O.lpeTrCount 4, .one O.rpkState, .one O.rpkFlags] : List Part) ⊆ l) : Keeps l s (@State.packRemoved a0) := by
  unfold State.packRemoved
  repeat' first
    | with_reducible assumption
    | with_reducible refine Keeps.ite ?_ ?_
    | (with_reducible refine State.rpkTo_keeps ?_ (List.Subset.trans ?_ hl); rotate_right; decide +kernel)
    | (with_reducible refine State.orO_keeps ?_ ⟨_, inL hl ?_, O.rpkFlags_has⟩; rotate_right; decide +kernel)

theorem currentLost_keeps {l : List Part} {s : State} {a0 : State} {a1 : _} {a2 : _} (h : Keeps l s a0)
    (hl : ([.evLast, .sent, .hosts, .later, .ctx, .rpk, .hpn, .fam O.lpeStatus 64, .fam O.lpeTrState 4, .fam O.lpeTrCount 4, .one O.rpkState, .one O.rpkFlags] : List Part) ⊆ l) : Keeps l s (@State.currentLost a0 a1 a2) := by
  unfold State.currentLost
  repeat' first
    | with_reducible assumption
    | with_reducible refine Keeps.ite ?_ ?_
    | (with_reducible refine State.packRemoved_keeps ?_ (List.Subset.trans ?_ hl); rotate_right; decide +kernel)

theorem putRefs_keeps {l : List Part} {s : State} {a0 : State} {a1 : _} {a2 : _} {a3 : _} {a4 : _} (h : Keeps l s a0)
    (hl : ([.trx] : List Part) ⊆ l) : Keeps l s (@State.putRefs a0 a1 a2 a3 a4) := by
  unfold State.putRefs
  repeat' first
    | with_reducible assumption
    | (with_reducible refine State.modSet_keeps ?_ (List.Subset.trans ?_ hl); rotate_right; decide +kernel)

theorem currentMode_keeps {l : List Part} {s : State} {a0 : State} {a1 : _} {a2 : _} {a3 : _} {a4 : _} (h : Keeps l s a0)
    (hl : ([.trx] : List Part) ⊆ l) : Keeps l s (@State.currentMode a0 a1 a2 a3 a4) := by
  unfold State.currentMode
  repeat' first
    | with_reducible assumption
    | (with_reducible refine State.modTrx_keeps ?_ (List.Subset.trans ?_ hl); rotate_right; decide +kernel)
    | (with_reducible refine State.putRefs_keeps ?_ (List.Subset.trans ?_ hl); rotate_right; decide +kernel)
    | with_reducible refine Keeps.foldl ?_ ?_
    | intro x

theorem curveTarget_keeps {l : List Part} {s : State} {a0 : State} {a1 : _} {a2 : _} (h : Keeps l s a0)
    (hl : ([.evLast, .sent, .hosts, .later, .ctx, .amc, .hpn, .fam O.lpeStatus 64, .fam O.lpeTrState 4, .fam O.lpeTrCount 4, .fam O.amcState 6, .fam O.amcSpeed 6] : List Part) ⊆ l) : Keeps l s (@State.curveTarget a0 a1 a2) := by
  unfold State.curveTarget
  repeat' first
    | with_reducible assumption
    | with_reducible refine Keeps.ite ?_ ?_
    | (with_reducible refine State.amcTarget_keeps ?_ (List.Subset.trans ?_ hl); rotate_right; decide +kernel)

theorem curveEval_keeps {l : List Part} {s : State} {a0 : State} {a1 : _} (h : Keeps l s a0)
    (hl : ([.evLast, .sent, .hosts, .later, .ctx, .amc, .hpn, .fam O.lpeStatus 64, .fam O.lpeTrState 4, .fam O.lpeTrCount 4, .fam O.amcState 6, .fam O.amcSpeed 6] : List Part) ⊆ l) : Keeps l s (@State.curveEval a0 a1) := by
  unfold State.curveEval
  repeat' first
    | with_reducible assumption
    | with_reducible refine Keeps.ite ?_ ?_
    | (with_reducible refine State.curveTarget_keeps ?_ (List.Subset.trans ?_ hl); rotate_right; decide +kernel)
    | (with_reducible refine State.modAmc_keeps ?_ (List.Subset.trans ?_ hl); rotate_right; decide +kernel)
    | intro x
    | lift_lets
    | split

theorem curveLost_keeps {l : List Part} {s : State} {a0 : State} {a1 : _} (h : Keeps l s a0)
    (hl : ([.evLast, .sent, .hosts, .later, .ctx, .amc, .hpn, .fam O.lpeStatus 64, .fam O.lpeTrState 4, .fam O.lpeTrCount 4, .fam O.amcState 6, .fam O.amcSpeed 6, .fam O.amcFlags 6] : List Part) ⊆ l) : Keeps l s (@State.curveLost a0 a1) := by
  unfold State.curveLost
  repeat' first
    | with_reducible assumption
    | with_reducible refine Keeps.ite ?_ ?_
    | (with_reducible refine State.curveTarget_keeps ?_ (List.Subset.trans ?_ hl); rotate_right; decide +kernel)
    | (with_reducible refine State.raise_keeps ?_ (List.Subset.trans ?_ hl); rotate_right; decide +kernel)
    | (with_reducible refine State.modAmc_keeps ?_ (List.Subset.trans ?_ hl); rotate_right; decide +kernel)
    | (with_reducible refine State.orO_keeps ?_ ⟨_, inL hl ?_, O.amcFlags_has _ ?_⟩; rotate_right; (first | exact Fin.isLt _ | omega | (simp only [List.mem_range] at *; omega)); rotate_right; decide +kernel)

theorem macFrees_keeps {l : List Part} {s : State} {a0 : State} {a1 : _} {a2 : _} {a3 : _} (h : Keeps l s a0)
    (hl : ([.net, .one O.netPartners, .one O.netEntries] : List Part) ⊆ l) : Keeps l s (@State.macFrees a0 a1 a2 a3) := by
  unfold State.macFrees
  repeat' first
    | with_reducible assumption
    | (intro x; have hx : Keeps l s x := ?_; clear_value x)
    | with_reducible refine Keeps.ite ?_ ?_
    | (with_reducible refine State.freeAlias_keeps ?_ (List.Subset.trans ?_ hl); rotate_right; decide +kernel)
    | (with_reducible refine State.partnerDrop_keeps ?_ (List.Subset.trans ?_ hl); rotate_right; decide +kernel)
    | lift_lets
    | split

theorem trackEth_keeps {l : List Part} {s : State} {a0 : State} {a1 : _} {a2 : _} {a3 : _} {a4 : _} {a5 : _} (h : Keeps l s a0)
    (hl : ([.evLast, .sent, .hosts, .later, .hpn, .net, .one O.netFlags, .one O.netPartners, .one O.netEntries] : List Part) ⊆ l) : Keeps l s (@State.trackEth a0 a1 a2 a3 a4 a5) := by
  unfold State.trackEth
  repeat' first
    | with_reducible assumption
    | (intro x; have hx : Keeps l s x := ?_; clear_value x)
    | (intro x; have hx : KeepsP l s x := ?_; clear_value x)
    | with_reducible exact KeepsP.fst (by with_reducible assumption)
    | (with_reducible refine KeepsP.fst (State.bindAlias_keeps ?_ (List.Subset.trans ?_ hl)); rotate_right; decide +kernel)
    | (with_reducible refine State.heard_keeps ?_ (List.Subset.trans ?_ hl); rotate_right; decide +kernel)
    | (with_reducible refine State.macFrees_keeps ?_ (List.Subset.trans ?_ hl); rotate_right; decide +kernel)
    | (with_reducible refine State.pMod_keeps ?_ (List.Subset.trans ?_ hl); rotate_right; decide +kernel)
    | (with_reducible refine KeepsP.fst (State.newPartner_keeps ?_ (List.Subset.trans ?_ hl)); rotate_right; decide +kernel)
    | intro x
    | lift_lets
    | split
    | with_reducible refine KeepsP.mk ?_

theorem datagramRx_keeps {l : List Part} {s : State} {a0 : State} {a1 : _} {a2 : _} {a3 : _} {a4 : _} {a5 : _} (h : Keeps l s a0)
    (hl : ([.dirty, .free, .evLast, .sent, .hosts, .disp, .later, .forceA, .forceB, .links, .trx, .ctx, .dcl, .ptg, .adc, .pos, .chg, .aux, .amc, .rpk, .hpn, .sec, .thm, .net, .allObjs, .one O.sysXingDropFlags, .one O.sysLateFlags, .fam O.thmT 72, .one O.logHead, .one O.logChain, .one O.logCount, .one O.logQueued, .one O.netFlags, .one O.netPartners, .one O.netEntries, .one O.netSessions, .one O.netCycSkipped, .one O.netRxDropped, .fam O.netCanAddr 4, .fam O.netCanStatus 4, .fam O.netEthStatus 4, .fam O.trxSpeedReq 4, .fam O.trxState 4, .fam O.trxRule 4, .fam O.trxAngleSrc 4, .fam O.trxSsState 4, .one O.dclState, .one O.dclVLink, .one O.dclVBat, .fam O.lpeUnits 64, .fam O.lpeStatus 64, .fam O.lpeTrState 4, .fam O.lpeTrCount 4, .fam O.adcStatus 12, .fam O.posAngle 4, .fam O.posCount 4, .fam O.posSpeed 4, .fam O.posStatus 4, .one O.chgState, .one O.chgInput, .one O.chgFlags, .one O.chgCause, .one O.chgIInLim, .one O.chgPIn, .one O.auxFlags, .fam O.amcState 6, .fam O.amcSpeed 6, .fam O.amcFlags 6, .one O.rpkState] : List Part) ⊆ l) : Keeps l s (@State.datagramRx a0 a1 a2 a3 a4 a5) := by
  unfold State.datagramRx
  repeat' first
    | with_reducible assumption
    | with_reducible refine Keeps.ite ?_ ?_
    | (with_reducible refine State.pgRx_keeps ?_ (List.Subset.trans ?_ hl); rotate_right; decide +kernel)
    | (with_reducible refine State.rxDrop_keeps ?_ (List.Subset.trans ?_ hl); rotate_right; decide +kernel)
    | (with_reducible refine State.trackEth_keeps ?_ (List.Subset.trans ?_ hl); rotate_right; decide +kernel)
    | (with_reducible refine KeepsP.fst (State.loadTake_keeps ?_ (List.Subset.trans ?_ hl)); rotate_right; decide +kernel)

theorem dclChopClearCmd_keeps {l : List Part} {s : State} {a0 : _} {a1 : State} (h : Keeps l s a1)
    (hl : ([.dcl, .one O.dclFlags] : List Part) ⊆ l) : KeepsP l s (@State.dclChopClearCmd a0 a1) := by
  unfold State.dclChopClearCmd
  repeat' first
    | with_reducible assumption
    | (with_reducible refine State.chopRise_keeps ?_ (List.Subset.trans ?_ hl); rotate_right; decide +kernel)
    | (with_reducible refine State.guarded_keeps ?_ ?_ (List.Subset.trans ?_ hl); rotate_right; decide +kernel)
    | (with_reducible refine State.clrO_keeps ?_ ⟨_, inL hl ?_, O.dclFlags_has⟩; rotate_right; decide +kernel)
    | intro x
    | with_reducible refine KeepsP.mk ?_

theorem dclCloseCmd_keeps {l : List Part} {s : State} {a0 : _} {a1 : State} (h : Keeps l s a1)
    (hl : ([.evLast, .sent, .hosts, .disp, .later, .dcl, .hpn, .one O.dclState, .one O.dclFlags] : List Part) ⊆ l) : KeepsP l s (@State.dclCloseCmd a0 a1) := by
  unfold State.dclCloseCmd
  repeat' first
    | with_reducible assumption
    | (intro x; have hx : Keeps l s x := ?_; clear_value x)
    | with_reducible refine Keeps.ite ?_ ?_
    | (with_reducible refine State.closeStart_keeps ?_ (List.Subset.trans ?_ hl); rotate_right; decide +kernel)
    | (with_reducible refine State.guarded_keeps ?_ ?_ (List.Subset.trans ?_ hl); rotate_right; decide +kernel)
    | (with_reducible refine State.closeDone_keeps ?_ (List.Subset.trans ?_ hl); rotate_right; decide +kernel)
    | (with_reducible refine State.hold_keeps ?_ (List.Subset.trans ?_ hl); rotate_right; decide +kernel)
    | intro x
    | lift_lets
    | with_reducible refine KeepsP.mk ?_

theorem safeEnds_keeps {l : List Part} {s : State} {a0 : State} {a1 : _} (h : Keeps l s a0)
    (hl : ([.evLast, .sent, .hosts, .later, .ptg, .hpn, .one O.sysXingDropFlags, .fam O.trxState 4] : List Part) ⊆ l) : Keeps l s (@State.safeEnds a0 a1) := by
  unfold State.safeEnds
  repeat' first
    | with_reducible assumption
    | with_reducible refine Keeps.ite ?_ ?_
    | (with_reducible refine State.trxSet_keeps ?_ (List.Subset.trans ?_ hl); rotate_right; decide +kernel)
    | with_reducible refine Keeps.foldl ?_ ?_
    | intro x

theorem dclHwovClearCmd_keeps {l : List Part} {s : State} {a0 : _} {a1 : State} (h : Keeps l s a1)
    (hl : ([.evLast, .sent, .hosts, .later, .forceA, .forceB, .links, .dcl, .ptg, .hpn, .one O.sysXingDropFlags, .fam O.trxState 4, .one O.dclFlags] : List Part) ⊆ l) : KeepsP l s (@State.dclHwovClearCmd a0 a1) := by
  unfold State.dclHwovClearCmd
  repeat' first
    | with_reducible assumption
    | (with_reducible refine State.applySc_keeps ?_ (List.Subset.trans ?_ hl); rotate_right; decide +kernel)
    | (with_reducible refine State.safeEnds_keeps ?_ (List.Subset.trans ?_ hl); rotate_right; decide +kernel)
    | (with_reducible refine State.guarded_keeps ?_ ?_ (List.Subset.trans ?_ hl); rotate_right; decide +kernel)
    | (with_reducible refine State.modDcl_keeps ?_ (List.Subset.trans ?_ hl); rotate_right; decide +kernel)
    | (with_reducible refine State.clrO_keeps ?_ ⟨_, inL hl ?_, O.dclFlags_has⟩; rotate_right; decide +kernel)
    | intro x
    | with_reducible refine KeepsP.mk ?_

theorem dclOpened_keeps {l : List Part} {s : State} {a0 : State} {a1 : _} (h : Keeps l s a0)
    (hl : ([.evLast, .sent, .hosts, .disp, .later, .links, .ctx, .aux, .hpn, .one O.dclState, .one O.dclBmsOpen, .fam O.lpeStatus 64, .fam O.lpeTrState 4, .fam O.lpeTrCount 4, .one O.auxState, .one O.auxFlags, .one O.auxCause, .one O.auxPhaseState] : List Part) ⊆ l) : Keeps l s (@State.dclOpened a0 a1) := by
  unfold State.dclOpened
  repeat' first
    | with_reducible assumption
    | (with_reducible refine State.auxEnd_keeps ?_ (List.Subset.trans ?_ hl); rotate_right; decide +kernel)
    | (with_reducible refine State.setO_keeps ?_ ⟨_, inL hl ?_, O.dclBmsOpen_has⟩; rotate_right; decide +kernel)
    | (with_reducible refine State.dclTo_keeps ?_ (List.Subset.trans ?_ hl); rotate_right; decide +kernel)

theorem dclOpenCmd_keeps {l : List Part} {s : State} {a0 : _} {a1 : State} (h : Keeps l s a1)
    (hl : ([.evLast, .sent, .hosts, .disp, .later, .links, .trx, .ctx, .dcl, .ptg, .chg, .aux, .hpn, .one O.sysXingDropFlags, .fam O.trxState 4, .fam O.trxAngleSrc 4, .one O.dclState, .one O.dclBmsOpen, .fam O.lpeStatus 64, .fam O.lpeTrState 4, .fam O.lpeTrCount 4, .one O.chgState, .one O.chgInput, .one O.chgFlags, .one O.chgCause, .one O.chgIInLim, .one O.chgPIn, .one O.auxState, .one O.auxFlags, .one O.auxCause, .one O.auxPhaseState] : List Part) ⊆ l) : KeepsP l s (@State.dclOpenCmd a0 a1) := by
  unfold State.dclOpenCmd
  repeat' first
    | with_reducible assumption
    | with_reducible refine KeepsP.ite ?_ ?_
    | (with_reducible refine State.dclLeave_keeps ?_ (List.Subset.trans ?_ hl); rotate_right; decide +kernel)
    | (with_reducible refine State.dclOpened_keeps ?_ (List.Subset.trans ?_ hl); rotate_right; decide +kernel)
    | (with_reducible refine State.guarded_keeps ?_ ?_ (List.Subset.trans ?_ hl); rotate_right; decide +kernel)
    | (with_reducible refine State.hold_keeps ?_ (List.Subset.trans ?_ hl); rotate_right; decide +kernel)
    | intro x
    | lift_lets
    | with_reducible refine KeepsP.mk ?_

theorem lateRun_keeps {l : List Part} {s : State} {a0 : State} {a1 : _} {a2 : _} (h : Keeps l s a0)
    (hl : ([.evLast, .sent, .hosts, .later, .ctx, .tb, .hpn, .one O.sysLateFlags, .fam O.lpeStatus 64, .fam O.lpeLateCount 64, .fam O.lpeTrState 4, .fam O.lpeTrTrigAxt 4, .fam O.lpeTrCount 4, .fam O.lpeTrTrigIndex 4] : List Part) ⊆ l) : Keeps l s (@State.lateRun a0 a1 a2) := by
  unfold State.lateRun
  repeat' first
    | with_reducible assumption
    | (with_reducible refine State.incSat_keeps ?_ ⟨_, inL hl ?_, O.lpeLateCount_has _ ?_⟩; rotate_right; (first | exact Fin.isLt _ | omega | (simp only [List.mem_range] at *; omega)); rotate_right; decide +kernel)
    | (with_reducible refine State.traceRun_keeps ?_ (List.Subset.trans ?_ hl); rotate_right; decide +kernel)
    | (with_reducible refine State.raise_keeps ?_ (List.Subset.trans ?_ hl); rotate_right; decide +kernel)
    | (with_reducible refine State.modCtx_keeps ?_ (List.Subset.trans ?_ hl); rotate_right; decide +kernel)
    | (with_reducible refine State.orO_keeps ?_ ⟨_, inL hl ?_, O.lpeStatus_has _ ?_⟩; rotate_right; (first | exact Fin.isLt _ | omega | (simp only [List.mem_range] at *; omega)); rotate_right; decide +kernel)
    | (with_reducible refine State.orO_keeps ?_ ⟨_, inL hl ?_, O.sysLateFlags_has⟩; rotate_right; decide +kernel)

theorem rpkLate_keeps {l : List Part} {s : State} {a0 : State} (h : Keeps l s a0)
    (hl : ([.evLast, .sent, .hosts, .later, .ctx, .rpk, .hpn, .fam O.lpeStatus 64, .fam O.lpeTrState 4, .fam O.lpeTrCount 4, .one O.rpkState, .one O.rpkFlags] : List Part) ⊆ l) : Keeps l s (@State.rpkLate a0) := by
  unfold State.rpkLate
  repeat' first
    | with_reducible assumption
    | with_reducible refine Keeps.ite ?_ ?_
    | (with_reducible refine State.modRpk_keeps ?_ (List.Subset.trans ?_ hl); rotate_right; decide +kernel)
    | (with_reducible refine State.rpkPause_keeps ?_ (List.Subset.trans ?_ hl); rotate_right; decide +kernel)
    | (with_reducible refine State.orO_keeps ?_ ⟨_, inL hl ?_, O.rpkFlags_has⟩; rotate_right; decide +kernel)

theorem lateHooks_keeps {l : List Part} {s : State} {a0 : State} {a1 : _} (h : Keeps l s a0)
    (hl : ([.evLast, .sent, .hosts, .disp, .later, .links, .trx, .ctx, .ptg, .chg, .aux, .amc, .rpk, .hpn, .one O.sysXingDropFlags, .fam O.trxState 4, .fam O.trxFlags 4, .fam O.trxFault 4, .fam O.trxAngleSrc 4, .fam O.trxSsState 4, .fam O.trxSsLosses 4, .fam O.lpeStatus 64, .fam O.lpeTrState 4, .fam O.lpeTrCount 4, .one O.chgState, .one O.chgInput, .one O.chgFlags, .one O.chgCause, .one O.chgIInLim, .one O.chgPIn, .one O.auxState, .one O.auxFlags, .one O.auxCause, .one O.auxPhaseState, .one O.auxRestarts, .fam O.amcState 6, .fam O.amcSpeed 6, .fam O.amcFlags 6, .fam O.amcFault 6, .one O.amcParkState, .one O.rpkState, .one O.rpkFlags] : List Part) ⊆ l) : Keeps l s (@State.lateHooks a0 a1) := by
  unfold State.lateHooks
  repeat' first
    | with_reducible assumption
    | with_reducible refine Keeps.ite ?_ ?_
    | with_reducible refine Keeps.dite ?_ ?_
    | (with_reducible refine State.chgLate_keeps ?_ (List.Subset.trans ?_ hl); rotate_right; decide +kernel)
    | (with_reducible refine State.auxLate_keeps ?_ (List.Subset.trans ?_ hl); rotate_right; decide +kernel)
    | (with_reducible refine State.amcLate_keeps ?_ (List.Subset.trans ?_ hl); rotate_right; decide +kernel)
    | (with_reducible refine State.setLost_keeps ?_ (List.Subset.trans ?_ hl); rotate_right; decide +kernel)
    | (with_reducible refine State.rpkLate_keeps ?_ (List.Subset.trans ?_ hl); rotate_right; decide +kernel)
    | intro x

theorem runLate_keeps {l : List Part} {s : State} {a0 : State} {a1 : _} (h : Keeps l s a0)
    (hl : ([.evLast, .sent, .hosts, .disp, .later, .links, .trx, .ctx, .tb, .ptg, .chg, .aux, .amc, .rpk, .hpn, .one O.sysXingDropFlags, .one O.sysLateFlags, .fam O.trxState 4, .fam O.trxFlags 4, .fam O.trxFault 4, .fam O.trxAngleSrc 4, .fam O.trxSsState 4, .fam O.trxSsLosses 4, .fam O.lpeStatus 64, .fam O.lpeLateCount 64, .fam O.lpeTrState 4, .fam O.lpeTrTrigAxt 4, .fam O.lpeTrCount 4, .fam O.lpeTrTrigIndex 4, .one O.chgState, .one O.chgInput, .one O.chgFlags, .one O.chgCause, .one O.chgIInLim, .one O.chgPIn, .one O.auxState, .one O.auxFlags, .one O.auxCause, .one O.auxPhaseState, .one O.auxRestarts, .fam O.amcState 6, .fam O.amcSpeed 6, .fam O.amcFlags 6, .fam O.amcFault 6, .one O.amcParkState, .one O.rpkState, .one O.rpkFlags] : List Part) ⊆ l) : Keeps l s (@State.runLate a0 a1) := by
  unfold State.runLate
  repeat' first
    | with_reducible assumption
    | (with_reducible refine State.lateRun_keeps ?_ (List.Subset.trans ?_ hl); rotate_right; decide +kernel)
    | (with_reducible refine State.lateHooks_keeps ?_ (List.Subset.trans ?_ hl); rotate_right; decide +kernel)
    | split

theorem deadlineMiss_keeps {l : List Part} {s : State} {a0 : State} {a1 : _} (h : Keeps l s a0)
    (hl : ([.evLast, .sent, .hosts, .disp, .later, .links, .trx, .ctx, .tb, .ptg, .chg, .aux, .amc, .rpk, .hpn, .one O.sysXingDropFlags, .one O.sysLateFlags, .fam O.trxState 4, .fam O.trxFlags 4, .fam O.trxFault 4, .fam O.trxAngleSrc 4, .fam O.trxSsState 4, .fam O.trxSsLosses 4, .fam O.lpeStatus 64, .fam O.lpeLateCount 64, .fam O.lpeTrState 4, .fam O.lpeTrTrigAxt 4, .fam O.lpeTrCount 4, .fam O.lpeTrTrigIndex 4, .one O.chgState, .one O.chgInput, .one O.chgFlags, .one O.chgCause, .one O.chgIInLim, .one O.chgPIn, .one O.auxState, .one O.auxFlags, .one O.auxCause, .one O.auxPhaseState, .one O.auxRestarts, .fam O.amcState 6, .fam O.amcSpeed 6, .fam O.amcFlags 6, .fam O.amcFault 6, .one O.amcParkState, .one O.rpkState, .one O.rpkFlags] : List Part) ⊆ l) : Keeps l s (@State.deadlineMiss a0 a1) := by
  unfold State.deadlineMiss
  repeat' first
    | with_reducible assumption
    | with_reducible refine Keeps.ite ?_ ?_
    | (with_reducible refine State.runLate_keeps ?_ (List.Subset.trans ?_ hl); rotate_right; decide +kernel)
    | split

theorem returnK_keeps {l : List Part} {s : State} {a0 : State} {a1 : _} (h : Keeps l s a0)
    (hl : ([.allObjs] : List Part) ⊆ l) : Keeps l s (@State.returnK a0 a1) := by
  unfold State.returnK
  repeat' first
    | with_reducible assumption
    | (with_reducible refine Keeps.set_objs ?_ (inL hl ?_); rotate_right; decide +kernel)

theorem returnN_keeps {l : List Part} {s : State} {a0 : State} (h : Keeps l s a0)
    (hl : ([.dirty, .allObjs] : List Part) ⊆ l) : Keeps l s (@State.returnN a0) := by
  unfold State.returnN
  exact Keeps.set_dirty (Keeps.foldl h fun u _ _ hu => setO_keeps hu ⟨.allObjs, (inL hl (by decide +kernel)), trivial⟩) (inL hl (by decide +kernel))

theorem wholeReset_keeps {l : List Part} {s : State} {a0 : State} {a1 : _} (h : Keeps l s a0)
    (hl : ([.axt, .flash, .dirty, .free, .evLast, .sent, .follow, .xing, .clk, .hosts, .slots, .disp, .later, .xmem, .forceA, .forceB, .links, .cgs, .trx, .ctx, .tb, .traceReads, .dcl, .ptg, .adc, .pos, .prb, .chg, .aux, .amc, .rpk, .hpn, .sec, .upd, .thm, .bst, .patina, .pwr, .net, .allObjs, .one O.sysClkStatus, .one O.secAttEpoch, .one O.secAttNext, .one O.secIdNext, .fam O.pwmDriveTable 40, .fam O.trxRule 4, .fam O.trxSsState 4, .fam O.lpeUnits 64, .fam O.lpeBankB 64, .fam O.adcStatus 12, .fam O.posAngle 4, .fam O.posCount 4, .fam O.posSpeed 4, .fam O.posStatus 4] : List Part) ⊆ l) : Keeps l s (@State.wholeReset a0 a1) := by
  unfold State.wholeReset
  lift_lets
  intro k s1 s2 s3 s4
  have h1 : Keeps l s s1 := Keeps.foldl h fun u _ _ hu => cancelEdges_keeps hu (List.Subset.trans (by decide +kernel) hl)
  have h2 : Keeps l s s2 := returnObjs_keeps h1 (List.Subset.trans (by decide +kernel) hl)
  have h3 : Keeps l s s3 := Keeps.ite (returnN_keeps (returnK_keeps h2 (List.Subset.trans (by decide +kernel) hl)) (List.Subset.trans (by decide +kernel) hl)) h2
  have h4 : Keeps l s s4 := undefX_keeps (secKept_keeps h3 (List.Subset.trans (by decide +kernel) hl)) (List.Subset.trans (by decide +kernel) hl)
  clear_value s4
  lift_lets
  intro z x1 x2 t
  have ht : Keeps l s t := Keeps.of_pending h4 rfl (fun p h1 h2 => hl (by cases p <;> first | decide +kernel | exact absurd rfl h1 | exact absurd rfl (h2 _ _ _)))
  clear_value t
  exact portsStart_keeps (redefault_keeps (showClk_keeps (setO_keeps (setO_keeps (scLost_keeps ht (List.Subset.trans (by decide +kernel) hl)) ⟨_, (inL hl (by decide +kernel)), O.secAttNext_has⟩) ⟨_, (inL hl (by decide +kernel)), O.secIdNext_has⟩) (List.Subset.trans (by decide +kernel) hl)) (List.Subset.trans (by decide +kernel) hl)) (List.Subset.trans (by decide +kernel) hl)

theorem wakeUp_keeps {l : List Part} {s : State} {a0 : State} {a1 : _} (h : Keeps l s a0)
    (hl : ([.axt, .follow, .pwr, .one O.pwrState, .one O.pwrTarget, .one O.pwrWakeCause] : List Part) ⊆ l) : Keeps l s (@State.wakeUp a0 a1) := by
  unfold State.wakeUp
  repeat' first
    | with_reducible assumption
    | (with_reducible refine State.bootBegin_keeps ?_ (List.Subset.trans ?_ hl); rotate_right; decide +kernel)
    | (with_reducible refine State.modPwr_keeps ?_ (List.Subset.trans ?_ hl); rotate_right; decide +kernel)
    | (with_reducible refine State.resumeAxt_keeps ?_ (List.Subset.trans ?_ hl); rotate_right; decide +kernel)
    | (with_reducible refine State.setO_keeps ?_ ⟨_, inL hl ?_, O.pwrState_has⟩; rotate_right; decide +kernel)
    | (with_reducible refine State.setO_keeps ?_ ⟨_, inL hl ?_, O.pwrTarget_has⟩; rotate_right; decide +kernel)
    | (with_reducible refine State.setO_keeps ?_ ⟨_, inL hl ?_, O.pwrWakeCause_has⟩; rotate_right; decide +kernel)

theorem deepDone_keeps {l : List Part} {s : State} {a0 : State} (h : Keeps l s a0)
    (hl : ([.axt, .flash, .dirty, .free, .evLast, .sent, .follow, .xing, .clk, .hosts, .slots, .disp, .later, .xmem, .forceA, .forceB, .links, .cgs, .trx, .ctx, .tb, .traceReads, .dcl, .ptg, .adc, .pos, .prb, .chg, .aux, .amc, .rpk, .hpn, .sec, .upd, .thm, .bst, .patina, .pwr, .net, .allObjs, .one O.sysClkStatus, .one O.pwrState, .one O.pwrTarget, .one O.pwrWakeCause, .one O.secAttEpoch, .one O.secAttNext, .one O.secIdNext, .fam O.pwmDriveTable 40, .fam O.trxRule 4, .fam O.trxSsState 4, .fam O.lpeUnits 64, .fam O.lpeBankB 64, .fam O.adcStatus 12, .fam O.posAngle 4, .fam O.posCount 4, .fam O.posSpeed 4, .fam O.posStatus 4] : List Part) ⊆ l) : Keeps l s (@State.deepDone a0) := by
  unfold State.deepDone
  repeat' first
    | with_reducible assumption
    | (intro x; have hx : Keeps l s x := ?_; clear_value x)
    | (with_reducible refine State.modPwr_keeps ?_ (List.Subset.trans ?_ hl); rotate_right; decide +kernel)
    | (with_reducible refine State.wholeReset_keeps ?_ (List.Subset.trans ?_ hl); rotate_right; decide +kernel)
    | (with_reducible refine State.wakeUp_keeps ?_ (List.Subset.trans ?_ hl); rotate_right; decide +kernel)
    | (with_reducible refine State.setO_keeps ?_ ⟨.allObjs, inL hl ?_, allObjs_has _⟩; rotate_right; decide +kernel)
    | (intro x; clear_value x)
    | lift_lets
    | split

theorem dirClamp_keeps {l : List Part} {s : State} {a0 : State} {a1 : _} {a2 : _} {a3 : _} (h : Keeps l s a0)
    (hl : ([.evLast, .sent, .hosts, .later, .hpn, .fam O.trxFlags 4] : List Part) ⊆ l) : Keeps l s (@State.dirClamp a0 a1 a2 a3) := by
  unfold State.dirClamp
  repeat' first
    | with_reducible assumption
    | with_reducible refine Keeps.ite ?_ ?_
    | (with_reducible refine State.raise_keeps ?_ (List.Subset.trans ?_ hl); rotate_right; decide +kernel)
    | (with_reducible refine State.orO_keeps ?_ ⟨_, inL hl ?_, O.trxFlags_has _ ?_⟩; rotate_right; (first | exact Fin.isLt _ | omega | (simp only [List.mem_range] at *; omega)); rotate_right; decide +kernel)

theorem dispatch_keeps {l : List Part} {s : State} {a0 : State} (h : Keeps l s a0)
    (hl : ([.ctx] : List Part) ⊆ l) : Keeps l s (@State.dispatch a0) := by
  unfold State.dispatch
  repeat' first
    | with_reducible assumption
    | with_reducible refine Keeps.ite ?_ ?_
    | (with_reducible refine State.modCtx_keeps ?_ (List.Subset.trans ?_ hl); rotate_right; decide +kernel)
    | split

theorem driverBad_keeps {l : List Part} {s : State} {a0 : State} {a1 : _} {a2 : _} (h : Keeps l s a0)
    (hl : ([.evLast, .sent, .hosts, .disp, .later, .links, .trx, .hpn, .fam O.thmT 72] : List Part) ⊆ l) : Keeps l s (@State.driverBad a0 a1 a2) := by
  unfold State.driverBad
  repeat' first
    | with_reducible assumption
    | (with_reducible refine State.modLink_keeps ?_ (List.Subset.trans ?_ hl); rotate_right; decide +kernel)
    | (with_reducible refine State.linkOff_keeps ?_ (List.Subset.trans ?_ hl); rotate_right; decide +kernel)
    | (with_reducible refine State.raise_keeps ?_ (List.Subset.trans ?_ hl); rotate_right; decide +kernel)
    | (with_reducible refine State.trainEnds_keeps ?_ (List.Subset.trans ?_ hl); rotate_right; decide +kernel)

theorem dtdtCheck_keeps {l : List Part} {s : State} {a0 : State} (h : Keeps l s a0)
    (hl : ([.evLast, .sent, .hosts, .later, .ctx, .rpk, .hpn, .fam O.lpeStatus 64, .fam O.lpeTrState 4, .fam O.lpeTrCount 4, .one O.rpkState, .one O.rpkFlags, .one O.rpkEnd] : List Part) ⊆ l) : Keeps l s (@State.dtdtCheck a0) := by
  unfold State.dtdtCheck
  repeat' first
    | with_reducible assumption
    | (intro x; have hx : Keeps l s x := ?_; clear_value x)
    | with_reducible refine Keeps.ite ?_ ?_
    | (with_reducible refine State.modRpk_keeps ?_ (List.Subset.trans ?_ hl); rotate_right; decide +kernel)
    | (with_reducible refine State.rpkDone_keeps ?_ (List.Subset.trans ?_ hl); rotate_right; decide +kernel)
    | lift_lets
    | split

theorem modPilot_keeps {l : List Part} {s : State} {a0 : State} {a1 : _} (h : Keeps l s a0)
    (hl : ([.chg] : List Part) ⊆ l) : Keeps l s (@State.modPilot a0 a1) := by
  unfold State.modPilot
  repeat' first
    | with_reducible assumption
    | (with_reducible refine State.modChg_keeps ?_ (List.Subset.trans ?_ hl); rotate_right; decide +kernel)

theorem pilotChanged_keeps {l : List Part} {s : State} {a0 : State} (h : Keeps l s a0)
    (hl : ([.evLast, .sent, .hosts, .disp, .later, .links, .ctx, .chg, .hpn, .fam O.lpeStatus 64, .fam O.lpeTrState 4, .fam O.lpeTrCount 4, .one O.chgState, .one O.chgInput, .one O.chgFlags, .one O.chgCause, .one O.chgIInLim, .one O.chgPIn] : List Part) ⊆ l) : Keeps l s (@State.pilotChanged a0) := by
  unfold State.pilotChanged
  repeat' first
    | with_reducible assumption
    | with_reducible refine Keeps.ite ?_ ?_
    | (with_reducible refine State.chgOkStep_keeps ?_ (List.Subset.trans ?_ hl); rotate_right; decide +kernel)
    | (with_reducible refine State.raise_keeps ?_ (List.Subset.trans ?_ hl); rotate_right; decide +kernel)
    | (with_reducible refine State.s2Close_keeps ?_ (List.Subset.trans ?_ hl); rotate_right; decide +kernel)
    | (with_reducible refine State.when_keeps ?_ ?_ (List.Subset.trans ?_ hl); rotate_right; decide +kernel)
    | (with_reducible refine State.chgStopFor_keeps ?_ (List.Subset.trans ?_ hl); rotate_right; decide +kernel)
    | (with_reducible refine State.orO_keeps ?_ ⟨_, inL hl ?_, O.chgFlags_has⟩; rotate_right; decide +kernel)
    | intro x

theorem dutyAccept_keeps {l : List Part} {s : State} {a0 : State} {a1 : _} (h : Keeps l s a0)
    (hl : ([.evLast, .sent, .hosts, .disp, .later, .links, .ctx, .chg, .hpn, .fam O.lpeStatus 64, .fam O.lpeTrState 4, .fam O.lpeTrCount 4, .one O.chgState, .one O.chgInput, .one O.chgFlags, .one O.chgCause, .one O.chgCpDuty, .one O.chgIPilot, .one O.chgIInLim, .one O.chgPIn] : List Part) ⊆ l) : Keeps l s (@State.dutyAccept a0 a1) := by
  unfold State.dutyAccept
  repeat' first
    | with_reducible assumption
    | with_reducible refine Keeps.ite ?_ ?_
    | (with_reducible refine State.setO_keeps ?_ ⟨_, inL hl ?_, O.chgCpDuty_has⟩; rotate_right; decide +kernel)
    | (with_reducible refine State.modPilot_keeps ?_ (List.Subset.trans ?_ hl); rotate_right; decide +kernel)
    | (with_reducible refine State.setQ_keeps ?_ ⟨_, inL hl ?_, O.chgIPilot_has⟩; rotate_right; decide +kernel)
    | (with_reducible refine State.pilotChanged_keeps ?_ (List.Subset.trans ?_ hl); rotate_right; decide +kernel)
    | (with_reducible refine State.when_keeps ?_ ?_ (List.Subset.trans ?_ hl); rotate_right; decide +kernel)
    | (with_reducible refine State.orO_keeps ?_ ⟨_, inL hl ?_, O.chgFlags_has⟩; rotate_right; decide +kernel)
    | intro x

theorem dwellExpiry_keeps {l : List Part} {s : State} {a0 : State} (h : Keeps l s a0)
    (hl : ([.evLast, .sent, .hosts, .later, .ctx, .rpk, .hpn, .pwr, .fam O.lpeStatus 64, .fam O.lpeTrState 4, .fam O.lpeTrCount 4, .one O.rpkState] : List Part) ⊆ l) : Keeps l s (@State.dwellExpiry a0) := by
  unfold State.dwellExpiry
  repeat' first
    | with_reducible assumption
    | with_reducible refine Keeps.ite ?_ ?_
    | (with_reducible refine State.modPwr_keeps ?_ (List.Subset.trans ?_ hl); rotate_right; decide +kernel)
    | (with_reducible refine State.rpkPower_keeps ?_ (List.Subset.trans ?_ hl); rotate_right; decide +kernel)
    | split

theorem echoValue_keeps {l : List Part} {s : State} {a0 : State} {a1 : _} {a2 : _} (h : Keeps l s a0)
    (hl : ([.evLast, .sent, .hosts, .later, .links, .trx, .hpn, .fam O.glkStatus 40, .fam O.glkLatency 40] : List Part) ⊆ l) : Keeps l s (@State.echoValue a0 a1 a2) := by
  unfold State.echoValue
  repeat' first
    | with_reducible assumption
    | with_reducible refine Keeps.ite ?_ ?_
    | (with_reducible refine State.modLink_keeps ?_ (List.Subset.trans ?_ hl); rotate_right; decide +kernel)
    | (with_reducible refine State.setO_keeps ?_ ⟨_, inL hl ?_, O.glkLatency_has _ ?_⟩; rotate_right; (first | exact Fin.isLt _ | omega | (simp only [List.mem_range] at *; omega)); rotate_right; decide +kernel)
    | (with_reducible refine State.raise_keeps ?_ (List.Subset.trans ?_ hl); rotate_right; decide +kernel)
    | (with_reducible refine State.eligLink_keeps ?_ (List.Subset.trans ?_ hl); rotate_right; decide +kernel)
    | (with_reducible refine State.orO_keeps ?_ ⟨_, inL hl ?_, O.glkStatus_has _ ?_⟩; rotate_right; (first | exact Fin.isLt _ | omega | (simp only [List.mem_range] at *; omega)); rotate_right; decide +kernel)

theorem echoReply_keeps {l : List Part} {s : State} {a0 : State} {a1 : _} {a2 : _} {a3 : _} (h : Keeps l s a0)
    (hl : ([.evLast, .sent, .hosts, .later, .links, .trx, .hpn, .fam O.glkStatus 40, .fam O.glkLatency 40] : List Part) ⊆ l) : Keeps l s (@State.echoReply a0 a1 a2 a3) := by
  unfold State.echoReply
  repeat' first
    | with_reducible assumption
    | with_reducible refine Keeps.ite ?_ ?_
    | (with_reducible refine State.modLink_keeps ?_ (List.Subset.trans ?_ hl); rotate_right; decide +kernel)
    | (with_reducible refine State.echoValue_keeps ?_ (List.Subset.trans ?_ hl); rotate_right; decide +kernel)

theorem echoSend_keeps {l : List Part} {s : State} {a0 : State} {a1 : _} (h : Keeps l s a0)
    (hl : ([.sent, .links] : List Part) ⊆ l) : Keeps l s (@State.echoSend a0 a1) := by
  unfold State.echoSend
  repeat' first
    | with_reducible assumption
    | with_reducible refine Keeps.ite ?_ ?_
    | (with_reducible refine State.modLink_keeps ?_ (List.Subset.trans ?_ hl); rotate_right; decide +kernel)
    | (with_reducible refine State.sendLink_keeps ?_ (List.Subset.trans ?_ hl); rotate_right; decide +kernel)

theorem trimUpdate_keeps {l : List Part} {s : State} {a0 : State} {a1 : _} {a2 : _} {a3 : _} {a4 : _} (h : Keeps l s a0)
    (hl : ([.evLast, .sent, .hosts, .later, .hpn, .fam O.glkStatus 40, .fam O.pwmDtTrimPos 40, .fam O.pwmDtTrimNeg 40] : List Part) ⊆ l) : Keeps l s (@State.trimUpdate a0 a1 a2 a3 a4) := by
  unfold State.trimUpdate
  repeat' first
    | with_reducible assumption
    | with_reducible refine Keeps.ite ?_ ?_
    | (with_reducible refine State.setO_keeps ?_ ⟨_, inL hl ?_, O.pwmDtTrimNeg_has _ ?_⟩; rotate_right; (first | exact Fin.isLt _ | omega | (simp only [List.mem_range] at *; omega)); rotate_right; decide +kernel)
    | (with_reducible refine State.setO_keeps ?_ ⟨_, inL hl ?_, O.pwmDtTrimPos_has _ ?_⟩; rotate_right; (first | exact Fin.isLt _ | omega | (simp only [List.mem_range] at *; omega)); rotate_right; decide +kernel)
    | (with_reducible refine State.raise_keeps ?_ (List.Subset.trans ?_ hl); rotate_right; decide +kernel)
    | (with_reducible refine State.orO_keeps ?_ ⟨_, inL hl ?_, O.glkStatus_has _ ?_⟩; rotate_right; (first | exact Fin.isLt _ | omega | (simp only [List.mem_range] at *; omega)); rotate_right; decide +kernel)
    | intro x
    | lift_lets
    | split

theorem telToHf_keeps {l : List Part} {s : State} {a0 : State} {a1 : _} {a2 : _} {a3 : _} {a4 : _} (h : Keeps l s a0) (hf : ∀ u, Keeps l s u → Keeps l s (a4 u))
    (hl : ([.sent, .xing, .hosts, .later, .links, .hpn, .one O.sysXingDropFlags] : List Part) ⊆ l) : Keeps l s (@State.telToHf a0 a1 a2 a3 a4) := by
  unfold State.telToHf
  repeat' first
    | with_reducible assumption
    | with_reducible refine hf _ ?_
    | (with_reducible refine State.modLink_keeps ?_ (List.Subset.trans ?_ hl); rotate_right; decide +kernel)
    | (with_reducible refine State.xingSend_keeps ?_ ?_ (List.Subset.trans ?_ hl); rotate_right; decide +kernel)
    | intro x

theorem slewUpdate_keeps {l : List Part} {s : State} {a0 : State} {a1 : _} {a2 : _} {a3 : _} (h : Keeps l s a0)
    (hl : ([.evLast, .sent, .hosts, .later, .links, .hpn, .fam O.glkStatus 40, .fam O.pwmDriveTable 40] : List Part) ⊆ l) : Keeps l s (@State.slewUpdate a0 a1 a2 a3) := by
  unfold State.slewUpdate
  repeat' first
    | with_reducible assumption
    | with_reducible refine Keeps.ite ?_ ?_
    | (with_reducible refine State.modLink_keeps ?_ (List.Subset.trans ?_ hl); rotate_right; decide +kernel)
    | (with_reducible refine State.setO_keeps ?_ ⟨_, inL hl ?_, O.pwmDriveTable_has _ ?_⟩; rotate_right; (first | exact Fin.isLt _ | omega | (simp only [List.mem_range] at *; omega)); rotate_right; decide +kernel)
    | (with_reducible refine State.raise_keeps ?_ (List.Subset.trans ?_ hl); rotate_right; decide +kernel)
    | (with_reducible refine State.orO_keeps ?_ ⟨_, inL hl ?_, O.glkStatus_has _ ?_⟩; rotate_right; (first | exact Fin.isLt _ | omega | (simp only [List.mem_range] at *; omega)); rotate_right; decide +kernel)

theorem edgeTel_keeps {l : List Part} {s : State} {a0 : State} {a1 : _} {a2 : _} (h : Keeps l s a0)
    (hl : ([.evLast, .sent, .xing, .hosts, .later, .links, .dcl, .hpn, .one O.sysXingDropFlags, .fam O.glkStatus 40, .fam O.pwmDtTrimPos 40, .fam O.pwmDtTrimNeg 40, .fam O.pwmDriveTable 40, .one O.dclFlags] : List Part) ⊆ l) : Keeps l s (@State.edgeTel a0 a1 a2) := by
  unfold State.edgeTel
  repeat' first
    | with_reducible assumption
    | with_reducible refine Keeps.ite ?_ ?_
    | (with_reducible refine State.modLink_keeps ?_ (List.Subset.trans ?_ hl); rotate_right; decide +kernel)
    | (with_reducible refine State.trimUpdate_keeps ?_ (List.Subset.trans ?_ hl); rotate_right; decide +kernel)
    | (with_reducible refine State.chopFault_keeps ?_ (List.Subset.trans ?_ hl); rotate_right; decide +kernel)
    | exact (by assumption : Keeps l s _)
    | (with_reducible refine State.telToHf_keeps ?_ ?_ (List.Subset.trans ?_ hl); rotate_right; decide +kernel)
    | (with_reducible refine State.slewUpdate_keeps ?_ (List.Subset.trans ?_ hl); rotate_right; decide +kernel)
    | intro x
    | lift_lets
    | split

theorem linkGone_keeps {l : List Part} {s : State} {a0 : State} {a1 : _} (h : Keeps l s a0)
    (hl : ([.evLast, .sent, .hosts, .disp, .later, .links, .trx, .ctx, .dcl, .ptg, .chg, .aux, .hpn, .one O.sysXingDropFlags, .fam O.trxState 4, .fam O.trxFlags 4, .fam O.trxFault 4, .fam O.trxAngleSrc 4, .fam O.trxSsState 4, .fam O.trxSsLosses 4, .one O.dclFlags, .fam O.lpeStatus 64, .fam O.lpeTrState 4, .fam O.lpeTrCount 4, .one O.chgState, .one O.chgInput, .one O.chgFlags, .one O.chgCause, .one O.chgIInLim, .one O.chgPIn, .one O.auxState, .one O.auxFlags, .one O.auxCause, .one O.auxPhaseState] : List Part) ⊆ l) : Keeps l s (@State.linkGone a0 a1) := by
  unfold State.linkGone
  repeat' first
    | with_reducible assumption
    | with_reducible refine Keeps.ite ?_ ?_
    | (with_reducible refine State.chopFault_keeps ?_ (List.Subset.trans ?_ hl); rotate_right; decide +kernel)
    | (with_reducible refine State.auxLost_keeps ?_ (List.Subset.trans ?_ hl); rotate_right; decide +kernel)
    | (with_reducible refine State.setLostByLink_keeps ?_ (List.Subset.trans ?_ hl); rotate_right; decide +kernel)
    | (with_reducible refine State.chgStopFor_keeps ?_ (List.Subset.trans ?_ hl); rotate_right; decide +kernel)

theorem linkLossBase_keeps {l : List Part} {s : State} {a0 : State} {a1 : _} {a2 : _} (h : Keeps l s a0)
    (hl : ([.evLast, .sent, .hosts, .later, .links, .hpn, .fam O.glkStatus 40] : List Part) ⊆ l) : Keeps l s (@State.linkLossBase a0 a1 a2) := by
  unfold State.linkLossBase
  repeat' first
    | with_reducible assumption
    | (with_reducible refine State.modLink_keeps ?_ (List.Subset.trans ?_ hl); rotate_right; decide +kernel)
    | (with_reducible refine State.sendForce_keeps ?_ (List.Subset.trans ?_ hl); rotate_right; decide +kernel)
    | (with_reducible refine State.cancelEdges_keeps ?_ (List.Subset.trans ?_ hl); rotate_right; decide +kernel)
    | (with_reducible refine State.raise_keeps ?_ (List.Subset.trans ?_ hl); rotate_right; decide +kernel)
    | (with_reducible refine State.orO_keeps ?_ ⟨_, inL hl ?_, O.glkStatus_has _ ?_⟩; rotate_right; (first | exact Fin.isLt _ | omega | (simp only [List.mem_range] at *; omega)); rotate_right; decide +kernel)

theorem linkLoss_keeps {l : List Part} {s : State} {a0 : State} {a1 : _} {a2 : _} (h : Keeps l s a0)
    (hl : ([.evLast, .sent, .hosts, .disp, .later, .links, .trx, .ctx, .dcl, .ptg, .chg, .aux, .hpn, .one O.sysXingDropFlags, .fam O.thmT 72, .fam O.glkStatus 40, .fam O.trxState 4, .fam O.trxFlags 4, .fam O.trxFault 4, .fam O.trxAngleSrc 4, .fam O.trxSsState 4, .fam O.trxSsLosses 4, .one O.dclFlags, .fam O.lpeStatus 64, .fam O.lpeTrState 4, .fam O.lpeTrCount 4, .one O.chgState, .one O.chgInput, .one O.chgFlags, .one O.chgCause, .one O.chgIInLim, .one O.chgPIn, .one O.auxState, .one O.auxFlags, .one O.auxCause, .one O.auxPhaseState] : List Part) ⊆ l) : Keeps l s (@State.linkLoss a0 a1 a2) := by
  unfold State.linkLoss
  repeat' first
    | with_reducible assumption
    | with_reducible refine Keeps.ite ?_ ?_
    | (with_reducible refine State.drvTempGone_keeps ?_ (List.Subset.trans ?_ hl); rotate_right; decide +kernel)
    | (with_reducible refine State.linkGone_keeps ?_ (List.Subset.trans ?_ hl); rotate_right; decide +kernel)
    | (with_reducible refine State.eligLink_keeps ?_ (List.Subset.trans ?_ hl); rotate_right; decide +kernel)
    | (with_reducible refine State.linkLossBase_keeps ?_ (List.Subset.trans ?_ hl); rotate_right; decide +kernel)

theorem edgeTelMissed_keeps {l : List Part} {s : State} {a0 : State} {a1 : _} (h : Keeps l s a0)
    (hl : ([.evLast, .sent, .hosts, .disp, .later, .links, .trx, .ctx, .dcl, .ptg, .chg, .aux, .hpn, .one O.sysXingDropFlags, .fam O.thmT 72, .fam O.glkStatus 40, .fam O.trxState 4, .fam O.trxFlags 4, .fam O.trxFault 4, .fam O.trxAngleSrc 4, .fam O.trxSsState 4, .fam O.trxSsLosses 4, .one O.dclFlags, .fam O.lpeStatus 64, .fam O.lpeTrState 4, .fam O.lpeTrCount 4, .one O.chgState, .one O.chgInput, .one O.chgFlags, .one O.chgCause, .one O.chgIInLim, .one O.chgPIn, .one O.auxState, .one O.auxFlags, .one O.auxCause, .one O.auxPhaseState] : List Part) ⊆ l) : Keeps l s (@State.edgeTelMissed a0 a1) := by
  unfold State.edgeTelMissed
  repeat' first
    | with_reducible assumption
    | with_reducible refine Keeps.ite ?_ ?_
    | (with_reducible refine State.modLink_keeps ?_ (List.Subset.trans ?_ hl); rotate_right; decide +kernel)
    | (with_reducible refine State.linkLoss_keeps ?_ (List.Subset.trans ?_ hl); rotate_right; decide +kernel)
    | lift_lets
    | split

theorem presetCtx_keeps {l : List Part} {s : State} {a0 : State} {a1 : _} {a2 : _} (h : Keeps l s a0)
    (hl : ([.ctx, .fam O.lpeOut 64, .fam O.lpeInteg 64] : List Part) ⊆ l) : Keeps l s (@State.presetCtx a0 a1 a2) := by
  unfold State.presetCtx
  repeat' first
    | with_reducible assumption
    | (with_reducible refine State.showOut_keeps ?_ (List.Subset.trans ?_ hl); rotate_right; decide +kernel)
    | (with_reducible refine State.modCtx_keeps ?_ (List.Subset.trans ?_ hl); rotate_right; decide +kernel)

theorem loadCtxs_keeps {l : List Part} {s : State} {a0 : State} {a1 : _} (h : Keeps l s a0)
    (hl : ([.ctx, .fam O.lpeUnits 64, .fam O.lpeOut 64, .fam O.lpeInteg 64, .fam O.lpeStatus 64] : List Part) ⊆ l) : Keeps l s (@State.loadCtxs a0 a1) := by
  unfold State.loadCtxs
  repeat' first
    | with_reducible assumption
    | (with_reducible refine State.showOut_keeps ?_ (List.Subset.trans ?_ hl); rotate_right; decide +kernel)
    | (with_reducible refine State.setO_keeps ?_ ⟨_, inL hl ?_, O.lpeUnits_has _ ?_⟩; rotate_right; (first | exact Fin.isLt _ | omega | (simp only [List.mem_range] at *; omega)); rotate_right; decide +kernel)
    | (with_reducible refine State.modCtx_keeps ?_ (List.Subset.trans ?_ hl); rotate_right; decide +kernel)
    | (with_reducible refine State.clrO_keeps ?_ ⟨_, inL hl ?_, O.lpeStatus_has _ ?_⟩; rotate_right; (first | exact Fin.isLt _ | omega | (simp only [List.mem_range] at *; omega)); rotate_right; decide +kernel)
    | with_reducible refine Keeps.foldl ?_ ?_
    | intro x

theorem enableBegin_keeps {l : List Part} {s : State} {a0 : State} {a1 : _} (h : Keeps l s a0)
    (hl : ([.evLast, .sent, .hosts, .disp, .later, .links, .trx, .ctx, .ptg, .chg, .amc, .hpn, .one O.sysXingDropFlags, .fam O.trxState 4, .fam O.trxSpeed 4, .fam O.lpeUnits 64, .fam O.lpeOut 64, .fam O.lpeInteg 64, .fam O.lpeStatus 64, .fam O.lpeTrState 4, .fam O.lpeTrCount 4, .one O.chgState, .one O.chgInput, .one O.chgFlags, .one O.chgCause, .one O.chgIInLim, .one O.chgPIn] : List Part) ⊆ l) : Keeps l s (@State.enableBegin a0 a1) := by
  unfold State.enableBegin
  repeat' first
    | with_reducible assumption
    | (with_reducible refine State.chgDrive_keeps ?_ (List.Subset.trans ?_ hl); rotate_right; decide +kernel)
    | (with_reducible refine State.modTrx_keeps ?_ (List.Subset.trans ?_ hl); rotate_right; decide +kernel)
    | (with_reducible refine State.trxSet_keeps ?_ (List.Subset.trans ?_ hl); rotate_right; decide +kernel)
    | (with_reducible refine State.takeSpeed_keeps ?_ (List.Subset.trans ?_ hl); rotate_right; decide +kernel)
    | (with_reducible refine State.presetCtx_keeps ?_ (List.Subset.trans ?_ hl); rotate_right; decide +kernel)
    | (with_reducible refine State.loadCtxs_keeps ?_ (List.Subset.trans ?_ hl); rotate_right; decide +kernel)
    | with_reducible refine Keeps.foldl ?_ ?_
    | intro x

theorem enterEnabled_keeps {l : List Part} {s : State} {a0 : State} {a1 : _} (h : Keeps l s a0)
    (hl : ([.evLast, .sent, .hosts, .later, .trx, .ptg, .hpn, .one O.sysXingDropFlags, .fam O.trxTorqueReq 4, .fam O.trxIdReq 4, .fam O.trxIqReq 4, .fam O.trxSpeedReq 4, .fam O.trxState 4, .fam O.trxTorqueOut 4] : List Part) ⊆ l) : Keeps l s (@State.enterEnabled a0 a1) := by
  unfold State.enterEnabled
  repeat' first
    | with_reducible assumption
    | dsimp only [List.foldl_cons, List.foldl_nil]
    | (with_reducible refine State.setO_keeps ?_ ⟨_, inL hl ?_, O.trxIdReq_has _ ?_⟩; rotate_right; (first | exact Fin.isLt _ | omega | (simp only [List.mem_range] at *; omega)); rotate_right; decide +kernel)
    | (with_reducible refine State.setO_keeps ?_ ⟨_, inL hl ?_, O.trxIqReq_has _ ?_⟩; rotate_right; (first | exact Fin.isLt _ | omega | (simp only [List.mem_range] at *; omega)); rotate_right; decide +kernel)
    | (with_reducible refine State.setO_keeps ?_ ⟨_, inL hl ?_, O.trxSpeedReq_has _ ?_⟩; rotate_right; (first | exact Fin.isLt _ | omega | (simp only [List.mem_range] at *; omega)); rotate_right; decide +kernel)
    | (with_reducible refine State.setO_keeps ?_ ⟨_, inL hl ?_, O.trxTorqueOut_has _ ?_⟩; rotate_right; (first | exact Fin.isLt _ | omega | (simp only [List.mem_range] at *; omega)); rotate_right; decide +kernel)
    | (with_reducible refine State.setO_keeps ?_ ⟨_, inL hl ?_, O.trxTorqueReq_has _ ?_⟩; rotate_right; (first | exact Fin.isLt _ | omega | (simp only [List.mem_range] at *; omega)); rotate_right; decide +kernel)
    | (with_reducible refine State.modTrx_keeps ?_ (List.Subset.trans ?_ hl); rotate_right; decide +kernel)
    | (with_reducible refine State.trxSet_keeps ?_ (List.Subset.trans ?_ hl); rotate_right; decide +kernel)

theorem enableEnd_keeps {l : List Part} {s : State} {a0 : State} {a1 : _} (h : Keeps l s a0)
    (hl : ([.evLast, .sent, .hosts, .disp, .later, .links, .trx, .ctx, .ptg, .hpn, .one O.sysXingDropFlags, .fam O.trxTorqueReq 4, .fam O.trxIdReq 4, .fam O.trxIqReq 4, .fam O.trxSpeedReq 4, .fam O.trxState 4, .fam O.trxTorqueOut 4, .fam O.trxFlags 4, .fam O.trxFault 4, .fam O.trxAngleSrc 4, .fam O.trxSsState 4, .fam O.trxSsLosses 4, .fam O.lpeStatus 64, .fam O.lpeTrState 4, .fam O.lpeTrCount 4] : List Part) ⊆ l) : Keeps l s (@State.enableEnd a0 a1) := by
  unfold State.enableEnd
  repeat' first
    | with_reducible assumption
    | with_reducible refine Keeps.ite ?_ ?_
    | (with_reducible refine State.putSetSt_keeps ?_ (List.Subset.trans ?_ hl); rotate_right; decide +kernel)
    | (with_reducible refine State.endTrx_keeps ?_ (List.Subset.trans ?_ hl); rotate_right; decide +kernel)
    | (with_reducible refine State.ctxStart_keeps ?_ (List.Subset.trans ?_ hl); rotate_right; decide +kernel)
    | (with_reducible refine State.ctxStop_keeps ?_ (List.Subset.trans ?_ hl); rotate_right; decide +kernel)
    | (with_reducible refine State.modTrx_keeps ?_ (List.Subset.trans ?_ hl); rotate_right; decide +kernel)
    | (with_reducible refine State.trxSet_keeps ?_ (List.Subset.trans ?_ hl); rotate_right; decide +kernel)
    | (with_reducible refine State.recordLoss_keeps ?_ (List.Subset.trans ?_ hl); rotate_right; decide +kernel)
    | (with_reducible refine State.forceLegs_keeps ?_ (List.Subset.trans ?_ hl); rotate_right; decide +kernel)
    | (with_reducible refine State.enterEnabled_keeps ?_ (List.Subset.trans ?_ hl); rotate_right; decide +kernel)
    | (with_reducible refine State.sendSafe_keeps ?_ (List.Subset.trans ?_ hl); rotate_right; decide +kernel)
    | (with_reducible refine State.setLost_keeps ?_ (List.Subset.trans ?_ hl); rotate_right; decide +kernel)
    | with_reducible refine Keeps.foldl ?_ ?_
    | intro x
    | lift_lets
    | split

theorem ethLink_keeps {l : List Part} {s : State} {a0 : State} {a1 : _} {a2 : _} (h : Keeps l s a0)
    (hl : ([.evLast, .sent, .hosts, .disp, .later, .hpn, .net, .one O.sysLateFlags, .one O.netSessions, .one O.netCycSkipped, .fam O.netEthStatus 4] : List Part) ⊆ l) : Keeps l s (@State.ethLink a0 a1 a2) := by
  unfold State.ethLink
  repeat' first
    | with_reducible assumption
    | with_reducible refine Keeps.ite ?_ ?_
    | (with_reducible refine State.portFlush_keeps ?_ (List.Subset.trans ?_ hl); rotate_right; decide +kernel)
    | (with_reducible refine State.raise_keeps ?_ (List.Subset.trans ?_ hl); rotate_right; decide +kernel)
    | (with_reducible refine State.clrO_keeps ?_ ⟨_, inL hl ?_, O.netEthStatus_has _ ?_⟩; rotate_right; (first | exact Fin.isLt _ | omega | (simp only [List.mem_range] at *; omega)); rotate_right; decide +kernel)
    | (with_reducible refine State.orO_keeps ?_ ⟨_, inL hl ?_, O.netEthStatus_has _ ?_⟩; rotate_right; (first | exact Fin.isLt _ | omega | (simp only [List.mem_range] at *; omega)); rotate_right; decide +kernel)

theorem rampStart_keeps {l : List Part} {s : State} {a0 : State} {a1 : _} {a2 : _} (h : Keeps l s a0)
    (hl : ([.trx, .ctx, .fam O.lpeStatus 64] : List Part) ⊆ l) : Keeps l s (@State.rampStart a0 a1 a2) := by
  unfold State.rampStart
  repeat' first
    | with_reducible assumption
    | (with_reducible refine State.ctxStart_keeps ?_ (List.Subset.trans ?_ hl); rotate_right; decide +kernel)
    | (with_reducible refine State.modSet_keeps ?_ (List.Subset.trans ?_ hl); rotate_right; decide +kernel)

theorem firstPlanned_keeps {l : List Part} {s : State} {a0 : State} {a1 : _} (h : Keeps l s a0)
    (hl : ([.evLast, .sent, .hosts, .disp, .later, .links, .trx, .ctx, .ptg, .hpn, .one O.sysXingDropFlags, .fam O.trxTorqueReq 4, .fam O.trxIdReq 4, .fam O.trxIqReq 4, .fam O.trxSpeedReq 4, .fam O.trxState 4, .fam O.trxTorqueOut 4, .fam O.trxFlags 4, .fam O.trxFault 4, .fam O.trxAngleSrc 4, .fam O.trxSsState 4, .fam O.trxSsLosses 4, .fam O.lpeStatus 64, .fam O.lpeTrState 4, .fam O.lpeTrCount 4] : List Part) ⊆ l) : Keeps l s (@State.firstPlanned a0 a1) := by
  unfold State.firstPlanned
  repeat' first
    | with_reducible assumption
    | with_reducible refine Keeps.ite ?_ ?_
    | (with_reducible refine State.enableEnd_keeps ?_ (List.Subset.trans ?_ hl); rotate_right; decide +kernel)
    | (with_reducible refine State.rampStart_keeps ?_ (List.Subset.trans ?_ hl); rotate_right; decide +kernel)
    | (with_reducible refine State.setO_keeps ?_ ⟨_, inL hl ?_, O.trxTorqueOut_has _ ?_⟩; rotate_right; (first | exact Fin.isLt _ | omega | (simp only [List.mem_range] at *; omega)); rotate_right; decide +kernel)
    | (with_reducible refine State.modTrx_keeps ?_ (List.Subset.trans ?_ hl); rotate_right; decide +kernel)
    | with_reducible refine Keeps.foldl ?_ ?_
    | intro x

theorem flowAngle_keeps {l : List Part} {s : State} {a0 : State} {a1 : _} (h : Keeps l s a0)
    (hl : ([.trx] : List Part) ⊆ l) : Keeps l s (@State.flowAngle a0 a1) := by
  unfold State.flowAngle
  repeat' first
    | with_reducible assumption
    | with_reducible refine Keeps.ite ?_ ?_
    | (with_reducible refine State.modTrx_keeps ?_ (List.Subset.trans ?_ hl); rotate_right; decide +kernel)

theorem forceAgain_keeps {l : List Part} {s : State} {a0 : State} {a1 : _} (h : Keeps l s a0)
    (hl : ([.sent, .links] : List Part) ⊆ l) : Keeps l s (@State.forceAgain a0 a1) := by
  unfold State.forceAgain
  repeat' first
    | with_reducible assumption
    | with_reducible refine Keeps.ite ?_ ?_
    | (with_reducible refine State.modLink_keeps ?_ (List.Subset.trans ?_ hl); rotate_right; decide +kernel)
    | (with_reducible refine State.forceAtB_keeps ?_ (List.Subset.trans ?_ hl); rotate_right; decide +kernel)
    | (with_reducible refine State.sendLink_keeps ?_ (List.Subset.trans ?_ hl); rotate_right; decide +kernel)

theorem frameBad_keeps {l : List Part} {s : State} {a0 : State} {a1 : _} (h : Keeps l s a0)
    (hl : ([.pos] : List Part) ⊆ l) : Keeps l s (@State.frameBad a0 a1) := by
  unfold State.frameBad
  repeat' first
    | with_reducible assumption
    | with_reducible refine Keeps.ite ?_ ?_
    | (with_reducible refine State.portCrit_keeps ?_ (List.Subset.trans ?_ hl); rotate_right; decide +kernel)
    | (with_reducible refine State.modPos_keeps ?_ (List.Subset.trans ?_ hl); rotate_right; decide +kernel)

theorem frameErr_keeps {l : List Part} {s : State} {a0 : State} {a1 : _} {a2 : _} (h : Keeps l s a0)
    (hl : ([.fam O.glkStatus 40] : List Part) ⊆ l) : Keeps l s (@State.frameErr a0 a1 a2) := by
  unfold State.frameErr
  repeat' first
    | with_reducible assumption
    | with_reducible refine Keeps.ite ?_ ?_
    | (with_reducible refine State.orO_keeps ?_ ⟨_, inL hl ?_, O.glkStatus_has _ ?_⟩; rotate_right; (first | exact Fin.isLt _ | omega | (simp only [List.mem_range] at *; omega)); rotate_right; decide +kernel)

theorem frameGood_keeps {l : List Part} {s : State} {a0 : State} {a1 : _} {a2 : _} {a3 : _} (h : Keeps l s a0)
    (hl : ([.pos] : List Part) ⊆ l) : Keeps l s (@State.frameGood a0 a1 a2 a3) := by
  unfold State.frameGood
  repeat' first
    | with_reducible assumption
    | (with_reducible refine State.modPos_keeps ?_ (List.Subset.trans ?_ hl); rotate_right; decide +kernel)

theorem fwEngage_keeps {l : List Part} {s : State} {a0 : State} {a1 : _} (h : Keeps l s a0)
    (hl : ([.evLast, .sent, .hosts, .later, .trx, .hpn, .fam O.trxFlags 4] : List Part) ⊆ l) : Keeps l s (@State.fwEngage a0 a1) := by
  unfold State.fwEngage
  repeat' first
    | with_reducible assumption
    | with_reducible refine Keeps.ite ?_ ?_
    | (with_reducible refine State.modTrx_keeps ?_ (List.Subset.trans ?_ hl); rotate_right; decide +kernel)
    | (with_reducible refine State.raise_keeps ?_ (List.Subset.trans ?_ hl); rotate_right; decide +kernel)
    | (with_reducible refine State.orO_keeps ?_ ⟨_, inL hl ?_, O.trxFlags_has _ ?_⟩; rotate_right; (first | exact Fin.isLt _ | omega | (simp only [List.mem_range] at *; omega)); rotate_right; decide +kernel)
    | intro x
    | lift_lets
    | split

theorem fwRelease_keeps {l : List Part} {s : State} {a0 : State} {a1 : _} (h : Keeps l s a0)
    (hl : ([.trx] : List Part) ⊆ l) : Keeps l s (@State.fwRelease a0 a1) := by
  unfold State.fwRelease
  repeat' first
    | with_reducible assumption
    | with_reducible refine Keeps.ite ?_ ?_
    | (with_reducible refine State.modTrx_keeps ?_ (List.Subset.trans ?_ hl); rotate_right; decide +kernel)
    | split

theorem fwWatch_keeps {l : List Part} {s : State} {a0 : State} {a1 : _} (h : Keeps l s a0)
    (hl : ([.trx] : List Part) ⊆ l) : Keeps l s (@State.fwWatch a0 a1) := by
  unfold State.fwWatch
  repeat' first
    | with_reducible assumption
    | (with_reducible refine State.modTrx_keeps ?_ (List.Subset.trans ?_ hl); rotate_right; decide +kernel)

theorem getBlock_keeps {l : List Part} {s : State} {a0 : _} {a1 : State} (h : Keeps l s a1)
    (hl : ([] : List Part) ⊆ l) : KeepsP l s (@State.getBlock a0 a1) := by
  unfold State.getBlock
  repeat' first
    | with_reducible assumption
    | (with_reducible refine State.guarded_keeps ?_ ?_ (List.Subset.trans ?_ hl); rotate_right; decide +kernel)
    | intro x
    | lift_lets
    | with_reducible refine KeepsP.mk ?_

theorem getObj_keeps {l : List Part} {s : State} {a0 : _} {a1 : State} (h : Keeps l s a1)
    (hl : ([] : List Part) ⊆ l) : KeepsP l s (@State.getObj a0 a1) := by
  unfold State.getObj
  repeat' first
    | with_reducible assumption
    | (with_reducible refine State.guarded_keeps ?_ ?_ (List.Subset.trans ?_ hl); rotate_right; decide +kernel)
    | intro x
    | lift_lets
    | split
    | with_reducible refine KeepsP.mk ?_

theorem glkClearCmd_keeps {l : List Part} {s : State} {a0 : _} {a1 : State} (h : Keeps l s a1)
    (hl : ([.sent, .links] : List Part) ⊆ l) : KeepsP l s (@State.glkClearCmd a0 a1) := by
  unfold State.glkClearCmd
  repeat' first
    | with_reducible assumption
    | (with_reducible refine State.regSend_keeps ?_ (List.Subset.trans ?_ hl); rotate_right; decide +kernel)
    | (with_reducible refine State.guarded_keeps ?_ ?_ (List.Subset.trans ?_ hl); rotate_right; decide +kernel)
    | with_reducible refine Keeps.foldl ?_ ?_
    | intro x
    | lift_lets
    | with_reducible refine KeepsP.mk ?_

theorem glkTrainCmd_keeps {l : List Part} {s : State} {a0 : _} {a1 : State} (h : Keeps l s a1)
    (hl : ([.sent, .disp, .links, .trx, .fam O.thmT 72] : List Part) ⊆ l) : KeepsP l s (@State.glkTrainCmd a0 a1) := by
  unfold State.glkTrainCmd
  repeat' first
    | with_reducible assumption
    | (with_reducible refine State.trainStart_keeps ?_ (List.Subset.trans ?_ hl); rotate_right; decide +kernel)
    | (with_reducible refine State.guarded_keeps ?_ ?_ (List.Subset.trans ?_ hl); rotate_right; decide +kernel)
    | (with_reducible refine State.hold_keeps ?_ (List.Subset.trans ?_ hl); rotate_right; decide +kernel)
    | with_reducible refine Keeps.foldl ?_ ?_
    | intro x
    | lift_lets
    | with_reducible refine KeepsP.mk ?_

theorem hallChange_keeps {l : List Part} {s : State} {a0 : State} {a1 : _} {a2 : _} (h : Keeps l s a0)
    (hl : ([.pos, .fam O.posQerr 4] : List Part) ⊆ l) : Keeps l s (@State.hallChange a0 a1 a2) := by
  unfold State.hallChange
  repeat' first
    | with_reducible assumption
    | with_reducible refine Keeps.ite ?_ ?_
    | (with_reducible refine State.qerr_keeps ?_ (List.Subset.trans ?_ hl); rotate_right; decide +kernel)
    | (with_reducible refine State.countEdge_keeps ?_ (List.Subset.trans ?_ hl); rotate_right; decide +kernel)
    | (with_reducible refine State.modPos_keeps ?_ (List.Subset.trans ?_ hl); rotate_right; decide +kernel)
    | lift_lets
    | split

theorem pathTo_keeps {l : List Part} {s : State} {a0 : State} {a1 : _} (h : Keeps l s a0)
    (hl : ([.rpk, .one O.rpkPath] : List Part) ⊆ l) : Keeps l s (@State.pathTo a0 a1) := by
  unfold State.pathTo
  repeat' first
    | with_reducible assumption
    | (with_reducible refine State.modRpk_keeps ?_ (List.Subset.trans ?_ hl); rotate_right; decide +kernel)
    | (with_reducible refine State.setO_keeps ?_ ⟨_, inL hl ?_, O.rpkPath_has⟩; rotate_right; decide +kernel)

theorem handover_keeps {l : List Part} {s : State} {a0 : State} {a1 : _} {a2 : _} (h : Keeps l s a0)
    (hl : ([.evLast, .sent, .hosts, .later, .ctx, .rpk, .hpn, .fam O.lpeStatus 64, .fam O.lpeTrState 4, .fam O.lpeTrCount 4, .one O.rpkState, .one O.rpkPath] : List Part) ⊆ l) : Keeps l s (@State.handover a0 a1 a2) := by
  unfold State.handover
  repeat' first
    | with_reducible assumption
    | with_reducible refine Keeps.ite ?_ ?_
    | (with_reducible refine State.modRpk_keeps ?_ (List.Subset.trans ?_ hl); rotate_right; decide +kernel)
    | (with_reducible refine State.pathTo_keeps ?_ (List.Subset.trans ?_ hl); rotate_right; decide +kernel)
    | (with_reducible refine State.rpkPause_keeps ?_ (List.Subset.trans ?_ hl); rotate_right; decide +kernel)

theorem holdEnd_keeps {l : List Part} {s : State} {a0 : State} (h : Keeps l s a0)
    (hl : ([.evLast, .sent, .hosts, .later, .cgs, .ctx, .rpk, .hpn, .pwr, .one O.pwrState, .one O.pwrTarget, .one O.pwrLimit, .fam O.lpeStatus 64, .fam O.lpeTrState 4, .fam O.lpeTrCount 4, .one O.rpkState, .one O.bstState] : List Part) ⊆ l) : Keeps l s (@State.holdEnd a0) := by
  unfold State.holdEnd
  repeat' first
    | with_reducible assumption
    | (with_reducible refine State.modPwr_keeps ?_ (List.Subset.trans ?_ hl); rotate_right; decide +kernel)
    | (with_reducible refine State.powerChoice_keeps ?_ (List.Subset.trans ?_ hl); rotate_right; decide +kernel)

theorem holdReversal_keeps {l : List Part} {s : State} {a0 : State} {a1 : _} {a2 : _} {a3 : _} (h : Keeps l s a0)
    (hl : ([.disp, .amc, .fam O.amcFlags 6] : List Part) ⊆ l) : KeepsP l s (@State.holdReversal a0 a1 a2 a3) := by
  unfold State.holdReversal
  repeat' first
    | with_reducible assumption
    | (intro x; have hx : Keeps l s x := ?_; clear_value x)
    | (with_reducible refine State.modAmc_keeps ?_ (List.Subset.trans ?_ hl); rotate_right; decide +kernel)
    | (with_reducible refine State.hold_keeps ?_ (List.Subset.trans ?_ hl); rotate_right; decide +kernel)
    | (with_reducible refine State.amcDropHeld_keeps ?_ (List.Subset.trans ?_ hl); rotate_right; decide +kernel)
    | (with_reducible refine State.orO_keeps ?_ ⟨_, inL hl ?_, O.amcFlags_has _ ?_⟩; rotate_right; (first | exact Fin.isLt _ | omega | (simp only [List.mem_range] at *; omega)); rotate_right; decide +kernel)
    | lift_lets
    | with_reducible refine KeepsP.mk ?_

theorem hpnAgain_keeps {l : List Part} {s : State} {a0 : State} {a1 : _} (h : Keeps l s a0)
    (hl : ([.sent, .hpn] : List Part) ⊆ l) : Keeps l s (@State.hpnAgain a0 a1) := by
  unfold State.hpnAgain
  repeat' first
    | with_reducible assumption
    | with_reducible refine Keeps.ite ?_ ?_
    | with_reducible refine Keeps.dite ?_ ?_
    | (with_reducible refine State.hpnEvent_keeps ?_ (List.Subset.trans ?_ hl); rotate_right; decide +kernel)
    | intro x

theorem hpnPost_keeps {l : List Part} {s : State} {a0 : State} {a1 : _} {a2 : _} (h : Keeps l s a0)
    (hl : ([.sent, .hosts, .slots, .hpn] : List Part) ⊆ l) : Keeps l s (@State.hpnPost a0 a1 a2) := by
  unfold State.hpnPost
  repeat' first
    | with_reducible assumption
    | with_reducible refine Keeps.ite ?_ ?_
    | with_reducible refine Keeps.dite ?_ ?_
    | (with_reducible refine State.doorbell_keeps ?_ (List.Subset.trans ?_ hl); rotate_right; decide +kernel)
    | (with_reducible refine State.modSlot_keeps ?_ (List.Subset.trans ?_ hl); rotate_right; decide +kernel)
    | (with_reducible refine State.sendHpn_keeps ?_ (List.Subset.trans ?_ hl); rotate_right; decide +kernel)
    | (with_reducible refine State.when_keeps ?_ ?_ (List.Subset.trans ?_ hl); rotate_right; decide +kernel)
    | (with_reducible refine State.modHost_keeps ?_ (List.Subset.trans ?_ hl); rotate_right; decide +kernel)
    | intro x

theorem hpnTake_keeps {l : List Part} {s : State} {a0 : State} {a1 : _} (h : Keeps l s a0)
    (hl : ([.hosts, .hpn] : List Part) ⊆ l) : Keeps l s (@State.hpnTake a0 a1) := by
  unfold State.hpnTake
  repeat' first
    | with_reducible assumption
    | (with_reducible refine State.touch_keeps ?_ (List.Subset.trans ?_ hl); rotate_right; decide +kernel)
    | intro x
    | lift_lets
    | (with_reducible refine Keeps.set_hpn ?_ (inL hl ?_); rotate_right; decide +kernel)

theorem hvilCloses_keeps {l : List Part} {s : State} {a0 : State} (h : Keeps l s a0)
    (hl : ([.evLast, .sent, .hosts, .later, .dcl, .hpn] : List Part) ⊆ l) : Keeps l s (@State.hvilCloses a0) := by
  unfold State.hvilCloses
  repeat' first
    | with_reducible assumption
    | with_reducible refine Keeps.ite ?_ ?_
    | (with_reducible refine State.raise_keeps ?_ (List.Subset.trans ?_ hl); rotate_right; decide +kernel)
    | (with_reducible refine State.modDcl_keeps ?_ (List.Subset.trans ?_ hl); rotate_right; decide +kernel)

theorem hvilOpens_keeps {l : List Part} {s : State} {a0 : State} (h : Keeps l s a0)
    (hl : ([.evLast, .sent, .hosts, .disp, .later, .links, .trx, .ctx, .dcl, .ptg, .chg, .hpn, .one O.sysXingDropFlags, .fam O.trxState 4, .fam O.trxAngleSrc 4, .one O.dclState, .one O.dclFlags, .fam O.lpeStatus 64, .fam O.lpeTrState 4, .fam O.lpeTrCount 4, .one O.chgState, .one O.chgInput, .one O.chgFlags, .one O.chgCause, .one O.chgIInLim, .one O.chgPIn] : List Part) ⊆ l) : Keeps l s (@State.hvilOpens a0) := by
  unfold State.hvilOpens
  repeat' first
    | with_reducible assumption
    | with_reducible refine Keeps.ite ?_ ?_
    | (with_reducible refine State.dclLeave_keeps ?_ (List.Subset.trans ?_ hl); rotate_right; decide +kernel)
    | (with_reducible refine State.raise_keeps ?_ (List.Subset.trans ?_ hl); rotate_right; decide +kernel)
    | (with_reducible refine State.modDcl_keeps ?_ (List.Subset.trans ?_ hl); rotate_right; decide +kernel)
    | (with_reducible refine State.orO_keeps ?_ ⟨_, inL hl ?_, O.dclFlags_has⟩; rotate_right; decide +kernel)

theorem hwAscStep_keeps {l : List Part} {s : State} {a0 : State} (h : Keeps l s a0)
    (hl : ([.sent, .forceA, .forceB, .links, .dcl] : List Part) ⊆ l) : Keeps l s (@State.hwAscStep a0) := by
  unfold State.hwAscStep
  repeat' first
    | with_reducible assumption
    | with_reducible refine Keeps.ite ?_ ?_
    | (with_reducible refine State.applySc_keeps ?_ (List.Subset.trans ?_ hl); rotate_right; decide +kernel)
    | (with_reducible refine State.modDcl_keeps ?_ (List.Subset.trans ?_ hl); rotate_right; decide +kernel)

theorem hwTrip_keeps {l : List Part} {s : State} {a0 : State} (h : Keeps l s a0)
    (hl : ([.evLast, .sent, .hosts, .disp, .later, .forceA, .forceB, .links, .trx, .ctx, .dcl, .ptg, .hpn, .one O.sysXingDropFlags, .fam O.trxState 4, .fam O.trxFault 4, .fam O.trxAngleSrc 4, .one O.dclFlags, .fam O.lpeStatus 64, .fam O.lpeTrState 4, .fam O.lpeTrCount 4] : List Part) ⊆ l) : Keeps l s (@State.hwTrip a0) := by
  unfold State.hwTrip
  repeat' first
    | with_reducible assumption
    | with_reducible refine Keeps.ite ?_ ?_
    | (with_reducible refine State.applySc_keeps ?_ (List.Subset.trans ?_ hl); rotate_right; decide +kernel)
    | (with_reducible refine State.safeSwitching_keeps ?_ (List.Subset.trans ?_ hl); rotate_right; decide +kernel)
    | (with_reducible refine State.raise_keeps ?_ (List.Subset.trans ?_ hl); rotate_right; decide +kernel)
    | (with_reducible refine State.modDcl_keeps ?_ (List.Subset.trans ?_ hl); rotate_right; decide +kernel)
    | (with_reducible refine State.orO_keeps ?_ ⟨_, inL hl ?_, O.dclFlags_has⟩; rotate_right; decide +kernel)

theorem inLimStep_keeps {l : List Part} {s : State} {a0 : State} {a1 : _} (h : Keeps l s a0)
    (hl : ([.chg, .one O.chgIInLim] : List Part) ⊆ l) : Keeps l s (@State.inLimStep a0 a1) := by
  unfold State.inLimStep
  repeat' first
    | with_reducible assumption
    | (intro x; have hx : Keeps l s x := ?_; clear_value x)
    | with_reducible refine Keeps.ite ?_ ?_
    | (with_reducible refine State.modChg_keeps ?_ (List.Subset.trans ?_ hl); rotate_right; decide +kernel)
    | (with_reducible refine State.setQ_keeps ?_ ⟨_, inL hl ?_, O.chgIInLim_has⟩; rotate_right; decide +kernel)
    | intro x
    | lift_lets
    | split

theorem indexEdge_keeps {l : List Part} {s : State} {a0 : State} {a1 : _} (h : Keeps l s a0)
    (hl : ([.pos] : List Part) ⊆ l) : Keeps l s (@State.indexEdge a0 a1) := by
  unfold State.indexEdge
  repeat' first
    | with_reducible assumption
    | with_reducible refine Keeps.ite ?_ ?_
    | (with_reducible refine State.portCrit_keeps ?_ (List.Subset.trans ?_ hl); rotate_right; decide +kernel)
    | (with_reducible refine State.modPos_keeps ?_ (List.Subset.trans ?_ hl); rotate_right; decide +kernel)

theorem proximityLevel_keeps {l : List Part} {s : State} {a0 : State} {a1 : _} (h : Keeps l s a0)
    (hl : ([.evLast, .sent, .hosts, .disp, .later, .links, .ctx, .chg, .hpn, .fam O.lpeStatus 64, .fam O.lpeTrState 4, .fam O.lpeTrCount 4, .one O.chgState, .one O.chgInput, .one O.chgFlags, .one O.chgCause, .one O.chgICable, .one O.chgIInLim, .one O.chgPIn] : List Part) ⊆ l) : Keeps l s (@State.proximityLevel a0 a1) := by
  unfold State.proximityLevel
  repeat' first
    | with_reducible assumption
    | with_reducible refine Keeps.ite ?_ ?_
    | (with_reducible refine State.modChg_keeps ?_ (List.Subset.trans ?_ hl); rotate_right; decide +kernel)
    | (with_reducible refine State.setQ_keeps ?_ ⟨_, inL hl ?_, O.chgICable_has⟩; rotate_right; decide +kernel)
    | (with_reducible refine State.clrO_keeps ?_ ⟨_, inL hl ?_, O.chgFlags_has⟩; rotate_right; decide +kernel)
    | (with_reducible refine State.when_keeps ?_ ?_ (List.Subset.trans ?_ hl); rotate_right; decide +kernel)
    | (with_reducible refine State.chgStopFor_keeps ?_ (List.Subset.trans ?_ hl); rotate_right; decide +kernel)
    | (with_reducible refine State.orO_keeps ?_ ⟨_, inL hl ?_, O.chgFlags_has⟩; rotate_right; decide +kernel)
    | intro x

theorem pilotPeriod_keeps {l : List Part} {s : State} {a0 : State} {a1 : _} (h : Keeps l s a0)
    (hl : ([.evLast, .sent, .hosts, .disp, .later, .links, .ctx, .chg, .hpn, .fam O.lpeStatus 64, .fam O.lpeTrState 4, .fam O.lpeTrCount 4, .one O.chgState, .one O.chgInput, .one O.chgFlags, .one O.chgCause, .one O.chgCpState, .one O.chgIInLim, .one O.chgPIn] : List Part) ⊆ l) : Keeps l s (@State.pilotPeriod a0 a1) := by
  unfold State.pilotPeriod
  repeat' first
    | with_reducible assumption
    | with_reducible refine Keeps.ite ?_ ?_
    | (with_reducible refine State.setO_keeps ?_ ⟨_, inL hl ?_, O.chgCpState_has⟩; rotate_right; decide +kernel)
    | (with_reducible refine State.modPilot_keeps ?_ (List.Subset.trans ?_ hl); rotate_right; decide +kernel)
    | (with_reducible refine State.pilotChanged_keeps ?_ (List.Subset.trans ?_ hl); rotate_right; decide +kernel)

theorem pilotLevel_keeps {l : List Part} {s : State} {a0 : State} {a1 : _} {a2 : _} (h : Keeps l s a0)
    (hl : ([.evLast, .sent, .hosts, .disp, .later, .links, .ctx, .chg, .hpn, .fam O.lpeStatus 64, .fam O.lpeTrState 4, .fam O.lpeTrCount 4, .one O.chgState, .one O.chgInput, .one O.chgFlags, .one O.chgCause, .one O.chgCpState, .one O.chgCpDuty, .one O.chgIPilot, .one O.chgIInLim, .one O.chgPIn] : List Part) ⊆ l) : Keeps l s (@State.pilotLevel a0 a1 a2) := by
  unfold State.pilotLevel
  repeat' first
    | with_reducible assumption
    | with_reducible refine Keeps.ite ?_ ?_
    | (with_reducible refine State.pilotPeriod_keeps ?_ (List.Subset.trans ?_ hl); rotate_right; decide +kernel)
    | (with_reducible refine State.modPilot_keeps ?_ (List.Subset.trans ?_ hl); rotate_right; decide +kernel)
    | (with_reducible refine State.dutyAccept_keeps ?_ (List.Subset.trans ?_ hl); rotate_right; decide +kernel)
    | lift_lets
    | split

theorem injTell_keeps {l : List Part} {s : State} {a0 : State} {a1 : _} {a2 : _} {a3 : _} (h : Keeps l s a0)
    (hl : ([.evLast, .sent, .hosts, .slots, .disp, .later, .links, .ctx, .dcl, .chg, .hpn, .thm, .one O.dclFlags, .fam O.lpeStatus 64, .fam O.lpeTrState 4, .fam O.lpeTrCount 4, .one O.chgState, .one O.chgInput, .one O.chgFlags, .one O.chgCause, .one O.chgCpState, .one O.chgCpDuty, .one O.chgIPilot, .one O.chgICable, .one O.chgIInLim, .one O.chgPIn] : List Part) ⊆ l) : Keeps l s (@State.injTell a0 a1 a2 a3) := by
  unfold State.injTell
  repeat' first
    | with_reducible assumption
    | (with_reducible refine State.proximityLevel_keeps ?_ (List.Subset.trans ?_ hl); rotate_right; decide +kernel)
    | (with_reducible refine State.pilotLevel_keeps ?_ (List.Subset.trans ?_ hl); rotate_right; decide +kernel)
    | (with_reducible refine State.respond_keeps ?_ (List.Subset.trans ?_ hl); rotate_right; decide +kernel)
    | (with_reducible refine State.chopCurrent_keeps ?_ (List.Subset.trans ?_ hl); rotate_right; decide +kernel)
    | split

theorem injSend_keeps {l : List Part} {s : State} {a0 : State} {a1 : _} {a2 : _} {a3 : _} (h : Keeps l s a0)
    (hl : ([.evLast, .sent, .xing, .hosts, .slots, .disp, .later, .links, .ctx, .dcl, .chg, .hpn, .thm, .one O.sysXingDropFlags, .one O.dclFlags, .fam O.lpeStatus 64, .fam O.lpeTrState 4, .fam O.lpeTrCount 4, .one O.chgState, .one O.chgInput, .one O.chgFlags, .one O.chgCause, .one O.chgCpState, .one O.chgCpDuty, .one O.chgIPilot, .one O.chgICable, .one O.chgIInLim, .one O.chgPIn] : List Part) ⊆ l) : Keeps l s (@State.injSend a0 a1 a2 a3) := by
  unfold State.injSend
  repeat' first
    | with_reducible assumption
    | (intro x; have hx : Keeps l s x := ?_; clear_value x)
    | with_reducible refine Keeps.ite ?_ ?_
    | (with_reducible refine State.injTell_keeps ?_ (List.Subset.trans ?_ hl); rotate_right; decide +kernel)
    | (with_reducible refine State.xingSend_keeps ?_ ?_ (List.Subset.trans ?_ hl); rotate_right; decide +kernel)
    | (with_reducible refine State.xingDrop_keeps ?_ (List.Subset.trans ?_ hl); rotate_right; decide +kernel)
    | (with_reducible refine State.respond_keeps ?_ (List.Subset.trans ?_ hl); rotate_right; decide +kernel)
    | intro x
    | lift_lets
    | split

theorem injectDone_keeps {l : List Part} {s : State} {a0 : State} {a1 : _} {a2 : _} (h : Keeps l s a0)
    (hl : ([.evLast, .sent, .xing, .hosts, .slots, .disp, .later, .links, .ctx, .dcl, .adc, .chg, .hpn, .thm, .one O.sysXingDropFlags, .one O.dclFlags, .fam O.lpeStatus 64, .fam O.lpeTrState 4, .fam O.lpeTrCount 4, .fam O.adcStatus 12, .fam O.adcInjFree 12, .one O.adcCalResult, .one O.chgState, .one O.chgInput, .one O.chgFlags, .one O.chgCause, .one O.chgCpState, .one O.chgCpDuty, .one O.chgIPilot, .one O.chgICable, .one O.chgIInLim, .one O.chgPIn] : List Part) ⊆ l) : Keeps l s (@State.injectDone a0 a1 a2) := by
  unfold State.injectDone
  repeat' first
    | with_reducible assumption
    | with_reducible refine Keeps.ite ?_ ?_
    | (with_reducible refine State.showFree_keeps ?_ (List.Subset.trans ?_ hl); rotate_right; decide +kernel)
    | (with_reducible refine State.modConv_keeps ?_ (List.Subset.trans ?_ hl); rotate_right; decide +kernel)
    | (with_reducible refine State.injSend_keeps ?_ (List.Subset.trans ?_ hl); rotate_right; decide +kernel)
    | (with_reducible refine State.coverTry_keeps ?_ (List.Subset.trans ?_ hl); rotate_right; decide +kernel)
    | (with_reducible refine State.overrange_keeps ?_ (List.Subset.trans ?_ hl); rotate_right; decide +kernel)
    | (with_reducible refine State.adcRest_keeps ?_ (List.Subset.trans ?_ hl); rotate_right; decide +kernel)
    | (with_reducible refine State.gainUse_keeps ?_ (List.Subset.trans ?_ hl); rotate_right; decide +kernel)
    | split

theorem ipAnswer_keeps {l : List Part} {s : State} {a0 : State} {a1 : _} {a2 : _} {a3 : _} {a4 : _} {a5 : _} {a6 : _} (h : Keeps l s a0)
    (hl : ([.sent] : List Part) ⊆ l) : Keeps l s (@State.ipAnswer a0 a1 a2 a3 a4 a5 a6) := by
  unfold State.ipAnswer
  repeat' first
    | with_reducible assumption
    | with_reducible refine Keeps.ite ?_ ?_
    | (with_reducible refine State.send_keeps ?_ (List.Subset.trans ?_ hl); rotate_right; decide +kernel)

theorem noteReset_keeps {l : List Part} {s : State} {a0 : State} {a1 : _} {a2 : _} (h : Keeps l s a0)
    (hl : ([.one O.pwrResetCause] : List Part) ⊆ l) : Keeps l s (@State.noteReset a0 a1 a2) := by
  unfold State.noteReset
  repeat' first
    | with_reducible assumption
    | (with_reducible refine State.setO_keeps ?_ ⟨_, inL hl ?_, O.pwrResetCause_has⟩; rotate_right; decide +kernel)

theorem islandReset_keeps {l : List Part} {s : State} {a0 : State} {a1 : _} {a2 : _} {a3 : _} (h : Keeps l s a0)
    (hl : ([.free, .evLast, .sent, .clk, .hosts, .slots, .disp, .later, .xmem, .forceA, .forceB, .links, .cgs, .trx, .ctx, .tb, .traceReads, .dcl, .ptg, .adc, .pos, .prb, .chg, .aux, .amc, .hpn, .sec, .upd, .thm, .bst, .pwr, .net, .allObjs, .one O.sysClkStatus, .one O.sysXingDropFlags, .one O.pwrResetCause, .fam O.thmT 72, .one O.secAttEpoch, .one O.secAttNext, .one O.secIdNext, .fam O.pwmDriveTable 40, .fam O.trxState 4, .fam O.trxRule 4, .fam O.trxFault 4, .fam O.trxAngleSrc 4, .fam O.trxSsState 4, .fam O.lpeUnits 64, .fam O.lpeBankB 64, .fam O.lpeStatus 64, .fam O.lpeTrState 4, .fam O.lpeTrCount 4, .fam O.adcStatus 12, .fam O.posAngle 4, .fam O.posCount 4, .fam O.posSpeed 4, .fam O.posStatus 4, .one O.chgState, .one O.chgInput, .one O.chgFlags, .one O.chgCause, .one O.chgIInLim, .one O.chgPIn, .one O.auxState, .one O.auxFlags, .one O.auxCause, .one O.auxPhaseState, .fam O.amcState 6, .fam O.amcSpeed 6, .fam O.amcFlags 6, .fam O.amcFault 6, .one O.amcParkState, .one O.bstState, .one O.bstLast] : List Part) ⊆ l) : Keeps l s (@State.islandReset a0 a1 a2 a3) := by
  unfold State.islandReset
  repeat' first
    | with_reducible assumption
    | with_reducible refine Keeps.ite ?_ ?_
    | (with_reducible refine State.amcFlagsBack_keeps ?_ (List.Subset.trans ?_ hl); rotate_right; decide +kernel)
    | (with_reducible refine State.bootBegin_keeps ?_ (List.Subset.trans ?_ hl); rotate_right; decide +kernel)
    | (with_reducible refine State.clockLost_keeps ?_ (List.Subset.trans ?_ hl); rotate_right; decide +kernel)
    | (with_reducible refine State.showClk_keeps ?_ (List.Subset.trans ?_ hl); rotate_right; decide +kernel)
    | (with_reducible refine State.undefX_keeps ?_ (List.Subset.trans ?_ hl); rotate_right; decide +kernel)
    | (with_reducible refine State.modDcl_keeps ?_ (List.Subset.trans ?_ hl); rotate_right; decide +kernel)
    | (with_reducible refine State.islandLost_keeps ?_ (List.Subset.trans ?_ hl); rotate_right; decide +kernel)
    | (with_reducible refine State.when_keeps ?_ ?_ (List.Subset.trans ?_ hl); rotate_right; decide +kernel)
    | (with_reducible refine State.noteReset_keeps ?_ (List.Subset.trans ?_ hl); rotate_right; decide +kernel)
    | (with_reducible refine State.returnObjs_keeps ?_ (List.Subset.trans ?_ hl); rotate_right; decide +kernel)
    | (with_reducible refine State.redefault_keeps ?_ (List.Subset.trans ?_ hl); rotate_right; decide +kernel)
    | intro x
    | lift_lets
    | (with_reducible refine Keeps.set_hosts_disp ?_ (inL hl ?_) (inL hl ?_) (inL hl ?_); rotate_right; decide +kernel; rotate_right; decide +kernel; rotate_right; decide +kernel)

theorem keepAliveCtr_keeps {l : List Part} {s : State} {a0 : State} {a1 : _} (h : Keeps l s a0)
    (hl : ([.dcl] : List Part) ⊆ l) : Keeps l s (@State.keepAliveCtr a0 a1) := by
  unfold State.keepAliveCtr
  repeat' first
    | with_reducible assumption
    | with_reducible refine Keeps.ite ?_ ?_
    | (with_reducible refine State.modDcl_keeps ?_ (List.Subset.trans ?_ hl); rotate_right; decide +kernel)
    | lift_lets
    | split

theorem keyDerived_keeps {l : List Part} {s : State} {a0 : State} (h : Keeps l s a0)
    (hl : ([.evLast, .sent, .hosts, .later, .hpn, .sec, .thm, .one O.secAttPub, .one O.secAttNext, .one O.secIdNext, .one O.logHead, .one O.logChain, .one O.logCount, .one O.logQueued] : List Part) ⊆ l) : Keeps l s (@State.keyDerived a0) := by
  unfold State.keyDerived
  repeat' first
    | with_reducible assumption
    | with_reducible refine Keeps.ite ?_ ?_
    | (with_reducible refine State.modSec_keeps ?_ (List.Subset.trans ?_ hl); rotate_right; decide +kernel)
    | (with_reducible refine State.setO_keeps ?_ ⟨_, inL hl ?_, O.secAttNext_has⟩; rotate_right; decide +kernel)
    | (with_reducible refine State.setO_keeps ?_ ⟨_, inL hl ?_, O.secAttPub_has⟩; rotate_right; decide +kernel)
    | (with_reducible refine State.setO_keeps ?_ ⟨_, inL hl ?_, O.secIdNext_has⟩; rotate_right; decide +kernel)
    | (with_reducible refine State.keyEvent_keeps ?_ (List.Subset.trans ?_ hl); rotate_right; decide +kernel)
    | (with_reducible refine State.when_keeps ?_ ?_ (List.Subset.trans ?_ hl); rotate_right; decide +kernel)
    | intro x

theorem thermalTrip_keeps {l : List Part} {s : State} {a0 : State} {a1 : _} {a2 : _} (h : Keeps l s a0)
    (hl : ([.evLast, .sent, .hosts, .disp, .later, .forceA, .forceB, .links, .trx, .ctx, .ptg, .adc, .chg, .aux, .amc, .hpn, .thm, .bst, .pwr, .one O.sysXingDropFlags, .one O.thmFlags, .one O.thmTripLatch, .fam O.trxState 4, .fam O.trxFault 4, .fam O.trxAngleSrc 4, .fam O.lpeStatus 64, .fam O.lpeTrState 4, .fam O.lpeTrCount 4, .fam O.adcStatus 12, .one O.chgState, .one O.chgInput, .one O.chgFlags, .one O.chgCause, .one O.chgIInLim, .one O.chgPIn, .one O.auxState, .one O.auxFlags, .one O.auxCause, .one O.auxPhaseState, .fam O.amcState 6, .fam O.amcSpeed 6, .fam O.amcFlags 6, .fam O.amcFault 6, .one O.amcParkState, .one O.bstState, .one O.bstLast] : List Part) ⊆ l) : Keeps l s (@State.thermalTrip a0 a1 a2) := by
  unfold State.thermalTrip
  repeat' first
    | with_reducible assumption
    | (with_reducible refine State.modPwr_keeps ?_ (List.Subset.trans ?_ hl); rotate_right; decide +kernel)
    | (with_reducible refine State.applySc_keeps ?_ (List.Subset.trans ?_ hl); rotate_right; decide +kernel)
    | (with_reducible refine State.auxEnd_keeps ?_ (List.Subset.trans ?_ hl); rotate_right; decide +kernel)
    | (with_reducible refine State.setPins_keeps ?_ (List.Subset.trans ?_ hl); rotate_right; decide +kernel)
    | (with_reducible refine State.safeSwitching_keeps ?_ (List.Subset.trans ?_ hl); rotate_right; decide +kernel)
    | (with_reducible refine State.setO_keeps ?_ ⟨_, inL hl ?_, O.thmTripLatch_has⟩; rotate_right; decide +kernel)
    | (with_reducible refine State.amcSafe_keeps ?_ (List.Subset.trans ?_ hl); rotate_right; decide +kernel)
    | (with_reducible refine State.raise_keeps ?_ (List.Subset.trans ?_ hl); rotate_right; decide +kernel)
    | (with_reducible refine State.chgStopFor_keeps ?_ (List.Subset.trans ?_ hl); rotate_right; decide +kernel)
    | (with_reducible refine State.bstAbort_keeps ?_ (List.Subset.trans ?_ hl); rotate_right; decide +kernel)
    | (with_reducible refine State.orO_keeps ?_ ⟨_, inL hl ?_, O.thmFlags_has⟩; rotate_right; decide +kernel)

theorem latchReturn_keeps {l : List Part} {s : State} {a0 : State} {a1 : _} (h : Keeps l s a0)
    (hl : ([.evLast, .sent, .hosts, .disp, .later, .forceA, .forceB, .links, .trx, .ctx, .ptg, .adc, .chg, .aux, .amc, .hpn, .thm, .bst, .pwr, .one O.sysXingDropFlags, .one O.thmFlags, .one O.thmTripLatch, .fam O.trxState 4, .fam O.trxFault 4, .fam O.trxAngleSrc 4, .fam O.lpeStatus 64, .fam O.lpeTrState 4, .fam O.lpeTrCount 4, .fam O.adcStatus 12, .one O.chgState, .one O.chgInput, .one O.chgFlags, .one O.chgCause, .one O.chgIInLim, .one O.chgPIn, .one O.auxState, .one O.auxFlags, .one O.auxCause, .one O.auxPhaseState, .fam O.amcState 6, .fam O.amcSpeed 6, .fam O.amcFlags 6, .fam O.amcFault 6, .one O.amcParkState, .one O.bstState, .one O.bstLast] : List Part) ⊆ l) : Keeps l s (@State.latchReturn a0 a1) := by
  unfold State.latchReturn
  repeat' first
    | with_reducible assumption
    | with_reducible refine Keeps.ite ?_ ?_
    | (with_reducible refine State.setO_keeps ?_ ⟨_, inL hl ?_, O.thmTripLatch_has⟩; rotate_right; decide +kernel)
    | (with_reducible refine State.thermalTrip_keeps ?_ (List.Subset.trans ?_ hl); rotate_right; decide +kernel)

theorem lcStepDone_keeps {l : List Part} {s : State} {a0 : State} (h : Keeps l s a0)
    (hl : ([.flash, .dirty, .evLast, .sent, .hosts, .disp, .later, .hpn, .sec, .allObjs, .one O.secLc, .one O.secAttEpoch, .one O.secAttNext] : List Part) ⊆ l) : Keeps l s (@State.lcStepDone a0) := by
  unfold State.lcStepDone
  repeat' first
    | with_reducible assumption
    | (intro x; have hx : Keeps l s x := ?_; clear_value x)
    | (with_reducible refine State.clearN_keeps ?_ (List.Subset.trans ?_ hl); rotate_right; decide +kernel)
    | (with_reducible refine State.modSec_keeps ?_ (List.Subset.trans ?_ hl); rotate_right; decide +kernel)
    | (with_reducible refine State.setO_keeps ?_ ⟨.allObjs, inL hl ?_, allObjs_has _⟩; rotate_right; decide +kernel)
    | (with_reducible refine State.endAll_keeps ?_ (List.Subset.trans ?_ hl); rotate_right; decide +kernel)
    | (with_reducible refine State.raise_keeps ?_ (List.Subset.trans ?_ hl); rotate_right; decide +kernel)
    | (with_reducible refine State.attRenew_keeps ?_ (List.Subset.trans ?_ hl); rotate_right; decide +kernel)
    | (with_reducible refine State.when_keeps ?_ ?_ (List.Subset.trans ?_ hl); rotate_right; decide +kernel)
    | intro x
    | lift_lets
    | split

theorem leaseLapse_keeps {l : List Part} {s : State} {a0 : State} {a1 : _} (h : Keeps l s a0)
    (hl : ([.sent, .hosts, .slots, .disp, .hpn, .one O.sysHostPresent, .one O.sysHostLeaseOwner] : List Part) ⊆ l) : Keeps l s (@State.leaseLapse a0 a1) := by
  unfold State.leaseLapse
  repeat' first
    | with_reducible assumption
    | with_reducible refine Keeps.ite ?_ ?_
    | (with_reducible refine State.endLease_keeps ?_ (List.Subset.trans ?_ hl); rotate_right; decide +kernel)
    | (with_reducible refine State.postActive_keeps ?_ (List.Subset.trans ?_ hl); rotate_right; decide +kernel)
    | (with_reducible refine State.clrO_keeps ?_ ⟨_, inL hl ?_, O.sysHostPresent_has⟩; rotate_right; decide +kernel)
    | (with_reducible refine State.modHost_keeps ?_ (List.Subset.trans ?_ hl); rotate_right; decide +kernel)
    | with_reducible refine Keeps.foldl ?_ ?_
    | intro x

theorem levelTo_keeps {l : List Part} {s : State} {a0 : State} {a1 : _} {a2 : _} (h : Keeps l s a0)
    (hl : ([.evLast, .sent, .hosts, .later, .hpn, .one O.thmState, .one O.thmFlags] : List Part) ⊆ l) : Keeps l s (@State.levelTo a0 a1 a2) := by
  unfold State.levelTo
  repeat' first
    | with_reducible assumption
    | with_reducible refine Keeps.ite ?_ ?_
    | (with_reducible refine State.setO_keeps ?_ ⟨_, inL hl ?_, O.thmState_has⟩; rotate_right; decide +kernel)
    | (with_reducible refine State.raise_keeps ?_ (List.Subset.trans ?_ hl); rotate_right; decide +kernel)
    | (with_reducible refine State.orO_keeps ?_ ⟨_, inL hl ?_, O.thmFlags_has⟩; rotate_right; decide +kernel)

theorem lineQualify_keeps {l : List Part} {s : State} {a0 : State} {a1 : _} {a2 : _} (h : Keeps l s a0)
    (hl : ([.evLast, .sent, .hosts, .disp, .later, .links, .ctx, .chg, .hpn, .fam O.lpeStatus 64, .fam O.lpeTrState 4, .fam O.lpeTrCount 4, .one O.chgState, .one O.chgInput, .one O.chgFlags, .one O.chgCause, .one O.chgIInLim, .one O.chgPIn] : List Part) ⊆ l) : Keeps l s (@State.lineQualify a0 a1 a2) := by
  unfold State.lineQualify
  repeat' first
    | with_reducible assumption
    | with_reducible refine Keeps.ite ?_ ?_
    | (with_reducible refine State.modChg_keeps ?_ (List.Subset.trans ?_ hl); rotate_right; decide +kernel)
    | (with_reducible refine State.chgStopFor_keeps ?_ (List.Subset.trans ?_ hl); rotate_right; decide +kernel)

theorem lineTake_keeps {l : List Part} {s : State} {a0 : State} (h : Keeps l s a0)
    (hl : ([.chg] : List Part) ⊆ l) : Keeps l s (@State.lineTake a0) := by
  unfold State.lineTake
  repeat' first
    | with_reducible assumption
    | (with_reducible refine State.modChg_keeps ?_ (List.Subset.trans ?_ hl); rotate_right; decide +kernel)

theorem lineCycle_keeps {l : List Part} {s : State} {a0 : State} (h : Keeps l s a0)
    (hl : ([.evLast, .sent, .hosts, .disp, .later, .links, .ctx, .chg, .hpn, .fam O.lpeStatus 64, .fam O.lpeTrState 4, .fam O.lpeTrCount 4, .one O.chgState, .one O.chgInput, .one O.chgFlags, .one O.chgCause, .one O.chgIInLim, .one O.chgPIn] : List Part) ⊆ l) : Keeps l s (@State.lineCycle a0) := by
  unfold State.lineCycle
  repeat' first
    | with_reducible assumption
    | (intro x; have hx : Keeps l s x := ?_; clear_value x)
    | with_reducible refine Keeps.ite ?_ ?_
    | (with_reducible refine State.inLimStep_keeps ?_ (List.Subset.trans ?_ hl); rotate_right; decide +kernel)
    | (with_reducible refine State.chgOkStep_keeps ?_ (List.Subset.trans ?_ hl); rotate_right; decide +kernel)
    | (with_reducible refine State.chgShowInput_keeps ?_ (List.Subset.trans ?_ hl); rotate_right; decide +kernel)
    | (with_reducible refine State.lineQualify_keeps ?_ (List.Subset.trans ?_ hl); rotate_right; decide +kernel)
    | (with_reducible refine State.modChg_keeps ?_ (List.Subset.trans ?_ hl); rotate_right; decide +kernel)
    | (with_reducible refine State.setQ_keeps ?_ ⟨_, inL hl ?_, O.chgPIn_has⟩; rotate_right; decide +kernel)
    | (with_reducible refine State.lineTake_keeps ?_ (List.Subset.trans ?_ hl); rotate_right; decide +kernel)
    | (with_reducible refine State.chgStopFor_keeps ?_ (List.Subset.trans ?_ hl); rotate_right; decide +kernel)
    | intro x
    | lift_lets
    | split

theorem linkMismatch_keeps {l : List Part} {s : State} {a0 : State} (h : Keeps l s a0)
    (hl : ([.evLast, .sent, .hosts, .later, .dcl, .hpn, .one O.dclFlags] : List Part) ⊆ l) : Keeps l s (@State.linkMismatch a0) := by
  unfold State.linkMismatch
  repeat' first
    | with_reducible assumption
    | with_reducible refine Keeps.ite ?_ ?_
    | (with_reducible refine State.raise_keeps ?_ (List.Subset.trans ?_ hl); rotate_right; decide +kernel)
    | (with_reducible refine State.modDcl_keeps ?_ (List.Subset.trans ?_ hl); rotate_right; decide +kernel)
    | (with_reducible refine State.orO_keeps ?_ ⟨_, inL hl ?_, O.dclFlags_has⟩; rotate_right; decide +kernel)
    | split

theorem linkPeriod_keeps {l : List Part} {s : State} {a0 : State} {a1 : _} (h : Keeps l s a0)
    (hl : ([.sent, .links] : List Part) ⊆ l) : Keeps l s (@State.linkPeriod a0 a1) := by
  unfold State.linkPeriod
  repeat' first
    | with_reducible assumption
    | with_reducible refine Keeps.ite ?_ ?_
    | (with_reducible refine State.modLink_keeps ?_ (List.Subset.trans ?_ hl); rotate_right; decide +kernel)
    | (with_reducible refine State.sendForce_keeps ?_ (List.Subset.trans ?_ hl); rotate_right; decide +kernel)

theorem ovaDeclare_keeps {l : List Part} {s : State} {a0 : State} (h : Keeps l s a0)
    (hl : ([.evLast, .sent, .hosts, .later, .links, .trx, .ptg, .hpn, .one O.sysXingDropFlags, .fam O.trxTorqueOut 4, .one O.dclFlags] : List Part) ⊆ l) : Keeps l s (@State.ovaDeclare a0) := by
  unfold State.ovaDeclare
  repeat' first
    | with_reducible assumption
    | with_reducible refine Keeps.ite ?_ ?_
    | (with_reducible refine State.setO_keeps ?_ ⟨_, inL hl ?_, O.trxTorqueOut_has _ ?_⟩; rotate_right; (first | exact Fin.isLt _ | omega | (simp only [List.mem_range] at *; omega)); rotate_right; decide +kernel)
    | (with_reducible refine State.modTrx_keeps ?_ (List.Subset.trans ?_ hl); rotate_right; decide +kernel)
    | (with_reducible refine State.raise_keeps ?_ (List.Subset.trans ?_ hl); rotate_right; decide +kernel)
    | (with_reducible refine State.forceLegs_keeps ?_ (List.Subset.trans ?_ hl); rotate_right; decide +kernel)
    | (with_reducible refine State.sendSafe_keeps ?_ (List.Subset.trans ?_ hl); rotate_right; decide +kernel)
    | (with_reducible refine State.orO_keeps ?_ ⟨_, inL hl ?_, O.dclFlags_has⟩; rotate_right; decide +kernel)
    | with_reducible refine Keeps.foldl ?_ ?_
    | intro x

theorem ovaSample_keeps {l : List Part} {s : State} {a0 : State} (h : Keeps l s a0)
    (hl : ([.evLast, .sent, .hosts, .later, .links, .trx, .dcl, .ptg, .hpn, .one O.sysXingDropFlags, .fam O.trxTorqueOut 4, .one O.dclFlags] : List Part) ⊆ l) : Keeps l s (@State.ovaSample a0) := by
  unfold State.ovaSample
  repeat' first
    | with_reducible assumption
    | with_reducible refine Keeps.ite ?_ ?_
    | (with_reducible refine State.ovaDeclare_keeps ?_ (List.Subset.trans ?_ hl); rotate_right; decide +kernel)
    | (with_reducible refine State.modDcl_keeps ?_ (List.Subset.trans ?_ hl); rotate_right; decide +kernel)

theorem linkSample_keeps {l : List Part} {s : State} {a0 : State} (h : Keeps l s a0)
    (hl : ([.evLast, .sent, .hosts, .later, .links, .trx, .dcl, .ptg, .aux, .hpn, .one O.sysXingDropFlags, .fam O.trxTorqueOut 4, .one O.dclFlags, .one O.dclVLink, .one O.dclVBat] : List Part) ⊆ l) : Keeps l s (@State.linkSample a0) := by
  unfold State.linkSample
  repeat' first
    | with_reducible assumption
    | with_reducible refine Keeps.ite ?_ ?_
    | (with_reducible refine State.linkGovern_keeps ?_ (List.Subset.trans ?_ hl); rotate_right; decide +kernel)
    | (with_reducible refine State.auxLinkVolt_keeps ?_ (List.Subset.trans ?_ hl); rotate_right; decide +kernel)
    | (with_reducible refine State.linkTake_keeps ?_ (List.Subset.trans ?_ hl); rotate_right; decide +kernel)
    | (with_reducible refine State.preCheck_keeps ?_ (List.Subset.trans ?_ hl); rotate_right; decide +kernel)
    | (with_reducible refine State.ovaSample_keeps ?_ (List.Subset.trans ?_ hl); rotate_right; decide +kernel)
    | (with_reducible refine State.chopSample_keeps ?_ (List.Subset.trans ?_ hl); rotate_right; decide +kernel)

theorem linkTimeout_keeps {l : List Part} {s : State} {a0 : State} {a1 : _} (h : Keeps l s a0)
    (hl : ([.evLast, .sent, .hosts, .later, .dcl, .hpn, .one O.dclFlags, .one O.dclVLink] : List Part) ⊆ l) : Keeps l s (@State.linkTimeout a0 a1) := by
  unfold State.linkTimeout
  repeat' first
    | with_reducible assumption
    | with_reducible refine Keeps.ite ?_ ?_
    | (with_reducible refine State.linkGovern_keeps ?_ (List.Subset.trans ?_ hl); rotate_right; decide +kernel)
    | (with_reducible refine State.raise_keeps ?_ (List.Subset.trans ?_ hl); rotate_right; decide +kernel)
    | (with_reducible refine State.modDcl_keeps ?_ (List.Subset.trans ?_ hl); rotate_right; decide +kernel)
    | (with_reducible refine State.orO_keeps ?_ ⟨_, inL hl ?_, O.dclFlags_has⟩; rotate_right; decide +kernel)

theorem listenEnd_keeps {l : List Part} {s : State} {a0 : State} {a1 : _} (h : Keeps l s a0)
    (hl : ([.evLast, .sent, .hosts, .disp, .later, .ctx, .amc, .hpn, .thm, .fam O.lpeOut 64, .fam O.lpeInteg 64, .fam O.lpeStatus 64, .fam O.lpeTrState 4, .fam O.lpeTrCount 4, .fam O.amcSpeedReq 6, .fam O.amcState 6, .fam O.amcSpeed 6, .fam O.amcPosition 6, .fam O.amcFlags 6, .fam O.amcFault 6, .one O.amcParkState] : List Part) ⊆ l) : Keeps l s (@State.listenEnd a0 a1) := by
  unfold State.listenEnd
  repeat' first
    | with_reducible assumption
    | with_reducible refine Keeps.ite ?_ ?_
    | (with_reducible refine State.amcHeard_keeps ?_ (List.Subset.trans ?_ hl); rotate_right; decide +kernel)
    | (with_reducible refine State.amcRelease_keeps ?_ (List.Subset.trans ?_ hl); rotate_right; decide +kernel)

theorem logFlush_keeps {l : List Part} {s : State} {a0 : State} (h : Keeps l s a0)
    (hl : ([.sec, .thm, .one O.logHead, .one O.logChain, .one O.logCount, .one O.logQueued] : List Part) ⊆ l) : Keeps l s (@State.logFlush a0) := by
  unfold State.logFlush
  repeat' first
    | with_reducible assumption
    | with_reducible refine Keeps.ite ?_ ?_
    | (with_reducible refine State.logWrite_keeps ?_ (List.Subset.trans ?_ hl); rotate_right; decide +kernel)
    | (with_reducible refine State.modSec_keeps ?_ (List.Subset.trans ?_ hl); rotate_right; decide +kernel)
    | (with_reducible refine State.setO_keeps ?_ ⟨_, inL hl ?_, O.logQueued_has⟩; rotate_right; decide +kernel)
    | (with_reducible refine State.flashPause_keeps ?_ (List.Subset.trans ?_ hl); rotate_right; decide +kernel)
    | (with_reducible refine State.when_keeps ?_ ?_ (List.Subset.trans ?_ hl); rotate_right; decide +kernel)
    | with_reducible refine Keeps.foldl ?_ ?_
    | intro x

theorem logRead_keeps {l : List Part} {s : State} {a0 : _} {a1 : State} (h : Keeps l s a1)
    (hl : ([] : List Part) ⊆ l) : KeepsP l s (@State.logRead a0 a1) := by
  unfold State.logRead
  repeat' first
    | with_reducible assumption
    | (with_reducible refine State.guarded_keeps ?_ ?_ (List.Subset.trans ?_ hl); rotate_right; decide +kernel)
    | intro x
    | lift_lets
    | with_reducible refine KeepsP.mk ?_

theorem lossDeclared_keeps {l : List Part} {s : State} {a0 : State} (h : Keeps l s a0)
    (hl : ([.clk, .one O.sysClkStatus] : List Part) ⊆ l) : Keeps l s (@State.lossDeclared a0) := by
  unfold State.lossDeclared
  repeat' first
    | with_reducible assumption
    | (with_reducible refine State.modClk_keeps ?_ (List.Subset.trans ?_ hl); rotate_right; decide +kernel)
    | (with_reducible refine State.showClk_keeps ?_ (List.Subset.trans ?_ hl); rotate_right; decide +kernel)
    | (with_reducible refine State.orO_keeps ?_ ⟨_, inL hl ?_, O.sysClkStatus_has⟩; rotate_right; decide +kernel)

theorem lpeDisable_keeps {l : List Part} {s : State} {a0 : _} {a1 : State} (h : Keeps l s a1)
    (hl : ([.ctx] : List Part) ⊆ l) : KeepsP l s (@State.lpeDisable a0 a1) := by
  unfold State.lpeDisable
  repeat' first
    | with_reducible assumption
    | (with_reducible refine State.guarded_keeps ?_ ?_ (List.Subset.trans ?_ hl); rotate_right; decide +kernel)
    | (with_reducible refine State.modCtx_keeps ?_ (List.Subset.trans ?_ hl); rotate_right; decide +kernel)
    | with_reducible refine Keeps.foldl ?_ ?_
    | intro x
    | lift_lets
    | with_reducible refine KeepsP.mk ?_

theorem lpeEnable_keeps {l : List Part} {s : State} {a0 : _} {a1 : State} (h : Keeps l s a1)
    (hl : ([.ctx] : List Part) ⊆ l) : KeepsP l s (@State.lpeEnable a0 a1) := by
  unfold State.lpeEnable
  repeat' first
    | with_reducible assumption
    | (with_reducible refine State.guarded_keeps ?_ ?_ (List.Subset.trans ?_ hl); rotate_right; decide +kernel)
    | (with_reducible refine State.modCtx_keeps ?_ (List.Subset.trans ?_ hl); rotate_right; decide +kernel)
    | with_reducible refine Keeps.foldl ?_ ?_
    | intro x
    | lift_lets
    | with_reducible refine KeepsP.mk ?_

theorem lpePreset_keeps {l : List Part} {s : State} {a0 : _} {a1 : State} (h : Keeps l s a1)
    (hl : ([.ctx, .fam O.lpeOut 64, .fam O.lpeInteg 64] : List Part) ⊆ l) : KeepsP l s (@State.lpePreset a0 a1) := by
  unfold State.lpePreset
  repeat' first
    | with_reducible assumption
    | with_reducible refine KeepsP.dite ?_ ?_
    | (with_reducible refine State.showOut_keeps ?_ (List.Subset.trans ?_ hl); rotate_right; decide +kernel)
    | (with_reducible refine State.guarded_keeps ?_ ?_ (List.Subset.trans ?_ hl); rotate_right; decide +kernel)
    | (with_reducible refine State.modCtx_keeps ?_ (List.Subset.trans ?_ hl); rotate_right; decide +kernel)
    | intro x
    | lift_lets
    | with_reducible refine KeepsP.mk ?_

theorem lpeSwap_keeps {l : List Part} {s : State} {a0 : _} {a1 : State} (h : Keeps l s a1)
    (hl : ([.evLast, .sent, .hosts, .disp, .later, .ctx, .hpn, .one O.sysLateFlags, .fam O.lpeOut 64, .fam O.lpeInteg 64, .fam O.lpeStatus 64] : List Part) ⊆ l) : KeepsP l s (@State.lpeSwap a0 a1) := by
  unfold State.lpeSwap
  repeat' first
    | with_reducible assumption
    | (intro x; have hx : Keeps l s x := ?_; clear_value x)
    | with_reducible refine KeepsP.ite ?_ ?_
    | (with_reducible refine State.doSwap_keeps ?_ (List.Subset.trans ?_ hl); rotate_right; decide +kernel)
    | (with_reducible refine State.raiseLate_keeps ?_ (List.Subset.trans ?_ hl); rotate_right; decide +kernel)
    | (with_reducible refine State.guarded_keeps ?_ ?_ (List.Subset.trans ?_ hl); rotate_right; decide +kernel)
    | (with_reducible refine State.modCtx_keeps ?_ (List.Subset.trans ?_ hl); rotate_right; decide +kernel)
    | (with_reducible refine State.hold_keeps ?_ (List.Subset.trans ?_ hl); rotate_right; decide +kernel)
    | (with_reducible refine State.orO_keeps ?_ ⟨_, inL hl ?_, O.lpeStatus_has _ ?_⟩; rotate_right; (first | exact Fin.isLt _ | omega | (simp only [List.mem_range] at *; omega)); rotate_right; decide +kernel)
    | with_reducible refine Keeps.foldl ?_ ?_
    | intro x
    | lift_lets
    | split
    | with_reducible refine KeepsP.mk ?_

theorem magnetised_keeps {l : List Part} {s : State} {a0 : State} {a1 : _} (h : Keeps l s a0)
    (hl : ([.evLast, .sent, .hosts, .later, .trx, .ptg, .hpn, .one O.sysXingDropFlags, .fam O.trxTorqueReq 4, .fam O.trxIdReq 4, .fam O.trxIqReq 4, .fam O.trxSpeedReq 4, .fam O.trxState 4, .fam O.trxTorqueOut 4] : List Part) ⊆ l) : Keeps l s (@State.magnetised a0 a1) := by
  unfold State.magnetised
  repeat' first
    | with_reducible assumption
    | with_reducible refine Keeps.ite ?_ ?_
    | (with_reducible refine State.enterEnabled_keeps ?_ (List.Subset.trans ?_ hl); rotate_right; decide +kernel)

theorem txWithdraw_keeps {l : List Part} {s : State} {a0 : State} {a1 : _} (h : Keeps l s a0)
    (hl : ([.net, .one O.sysLateFlags, .one O.netSessions, .one O.netCycSkipped] : List Part) ⊆ l) : Keeps l s (@State.txWithdraw a0 a1) := by
  unfold State.txWithdraw
  repeat' first
    | with_reducible assumption
    | (with_reducible refine State.showSess_keeps ?_ (List.Subset.trans ?_ hl); rotate_right; decide +kernel)
    | (with_reducible refine State.cycSkip_keeps ?_ (List.Subset.trans ?_ hl); rotate_right; decide +kernel)
    | (with_reducible refine State.modNet_keeps ?_ (List.Subset.trans ?_ hl); rotate_right; decide +kernel)
    | (with_reducible refine State.tpWaiting_keeps ?_ (List.Subset.trans ?_ hl); rotate_right; decide +kernel)
    | with_reducible refine Keeps.foldl ?_ ?_
    | intro x

theorem mapCycle_keeps {l : List Part} {s : State} {a0 : State} {a1 : _} (h : Keeps l s a0)
    (hl : ([.free, .disp, .net, .one O.sysLateFlags, .one O.netSessions, .one O.netCycSkipped] : List Part) ⊆ l) : Keeps l s (@State.mapCycle a0 a1) := by
  unfold State.mapCycle
  repeat' first
    | with_reducible assumption
    | with_reducible refine Keeps.ite ?_ ?_
    | (with_reducible refine State.mapSend_keeps ?_ (List.Subset.trans ?_ hl); rotate_right; decide +kernel)
    | (with_reducible refine State.txWithdraw_keeps ?_ (List.Subset.trans ?_ hl); rotate_right; decide +kernel)
    | (with_reducible refine State.modNet_keeps ?_ (List.Subset.trans ?_ hl); rotate_right; decide +kernel)
    | with_reducible refine Keeps.foldl ?_ ?_
    | intro x

theorem modPatina_keeps {l : List Part} {s : State} {a0 : State} {a1 : _} {a2 : _} (h : Keeps l s a0)
    (hl : ([.patina] : List Part) ⊆ l) : Keeps l s (@State.modPatina a0 a1 a2) := by
  unfold State.modPatina
  repeat' first
    | with_reducible assumption
    | (with_reducible refine Keeps.set_patina ?_ (inL hl ?_); rotate_right; decide +kernel)

theorem memCorrected_keeps {l : List Part} {s : State} {a0 : State} {a1 : _} (h : Keeps l s a0)
    (hl : ([.sent, .hosts, .later, .hpn, .patina, .fam O.memStatus 4] : List Part) ⊆ l) : Keeps l s (@State.memCorrected a0 a1) := by
  unfold State.memCorrected
  repeat' first
    | with_reducible assumption
    | with_reducible refine Keeps.ite ?_ ?_
    | (with_reducible refine State.setO_keeps ?_ ⟨_, inL hl ?_, O.memStatus_has _ ?_⟩; rotate_right; (first | exact Fin.isLt _ | omega | (simp only [List.mem_range] at *; omega)); rotate_right; decide +kernel)
    | (with_reducible refine State.postMasked_keeps ?_ (List.Subset.trans ?_ hl); rotate_right; decide +kernel)
    | (with_reducible refine State.modPatina_keeps ?_ (List.Subset.trans ?_ hl); rotate_right; decide +kernel)

theorem memFault_keeps {l : List Part} {s : State} {a0 : State} {a1 : _} {a2 : _} {a3 : _} (h : Keeps l s a0)
    (hl : ([.evLast, .sent, .hosts, .later, .hpn] : List Part) ⊆ l) : Keeps l s (@State.memFault a0 a1 a2 a3) := by
  unfold State.memFault
  repeat' first
    | with_reducible assumption
    | (with_reducible refine State.raise_keeps ?_ (List.Subset.trans ?_ hl); rotate_right; decide +kernel)

theorem memParity_keeps {l : List Part} {s : State} {a0 : State} {a1 : _} {a2 : _} (h : Keeps l s a0)
    (hl : ([.evLast, .sent, .hosts, .later, .hpn, .fam O.memStatus 4] : List Part) ⊆ l) : Keeps l s (@State.memParity a0 a1 a2) := by
  unfold State.memParity
  repeat' first
    | with_reducible assumption
    | with_reducible refine Keeps.ite ?_ ?_
    | (with_reducible refine State.memFault_keeps ?_ (List.Subset.trans ?_ hl); rotate_right; decide +kernel)
    | (with_reducible refine State.orO_keeps ?_ ⟨_, inL hl ?_, O.memStatus_has _ ?_⟩; rotate_right; (first | exact Fin.isLt _ | omega | (simp only [List.mem_range] at *; omega)); rotate_right; decide +kernel)

theorem memUncorrectable_keeps {l : List Part} {s : State} {a0 : State} {a1 : _} {a2 : _} (h : Keeps l s a0)
    (hl : ([.free, .evLast, .sent, .clk, .hosts, .slots, .disp, .later, .xmem, .forceA, .forceB, .links, .cgs, .trx, .ctx, .tb, .traceReads, .dcl, .ptg, .adc, .pos, .prb, .chg, .aux, .amc, .hpn, .sec, .upd, .thm, .bst, .pwr, .net, .allObjs, .one O.sysClkStatus, .one O.sysXingDropFlags, .one O.pwrResetCause, .fam O.thmT 72, .one O.secAttEpoch, .one O.secAttNext, .one O.secIdNext, .one O.logHead, .one O.logChain, .one O.logCount, .one O.logQueued, .fam O.pwmDriveTable 40, .fam O.trxState 4, .fam O.trxRule 4, .fam O.trxFault 4, .fam O.trxAngleSrc 4, .fam O.trxSsState 4, .fam O.lpeUnits 64, .fam O.lpeBankB 64, .fam O.lpeStatus 64, .fam O.lpeTrState 4, .fam O.lpeTrCount 4, .fam O.adcStatus 12, .fam O.posAngle 4, .fam O.posCount 4, .fam O.posSpeed 4, .fam O.posStatus 4, .one O.chgState, .one O.chgInput, .one O.chgFlags, .one O.chgCause, .one O.chgIInLim, .one O.chgPIn, .one O.auxState, .one O.auxFlags, .one O.auxCause, .one O.auxPhaseState, .fam O.amcState 6, .fam O.amcSpeed 6, .fam O.amcFlags 6, .fam O.amcFault 6, .one O.amcParkState, .one O.bstState, .one O.bstLast, .fam O.memStatus 4, .one O.memLastUe, .one O.memWipeCause] : List Part) ⊆ l) : Keeps l s (@State.memUncorrectable a0 a1 a2) := by
  unfold State.memUncorrectable
  repeat' first
    | with_reducible assumption
    | with_reducible refine Keeps.ite ?_ ?_
    | (with_reducible refine State.mordantWipe_keeps ?_ (List.Subset.trans ?_ hl); rotate_right; decide +kernel)
    | (with_reducible refine State.memFault_keeps ?_ (List.Subset.trans ?_ hl); rotate_right; decide +kernel)
    | (with_reducible refine State.setO_keeps ?_ ⟨.allObjs, inL hl ?_, allObjs_has _⟩; rotate_right; decide +kernel)
    | (with_reducible refine State.islandReset_keeps ?_ (List.Subset.trans ?_ hl); rotate_right; decide +kernel)
    | (with_reducible refine State.orO_keeps ?_ ⟨.allObjs, inL hl ?_, allObjs_has _⟩; rotate_right; decide +kernel)

theorem ruleCt_keeps {l : List Part} {s : State} {a0 : State} {a1 : _} (h : Keeps l s a0)
    (hl : ([.evLast, .sent, .hosts, .later, .links, .hpn, .fam O.trxRule 4] : List Part) ⊆ l) : Keeps l s (@State.ruleCt a0 a1) := by
  unfold State.ruleCt
  repeat' first
    | with_reducible assumption
    | with_reducible refine Keeps.ite ?_ ?_
    | (with_reducible refine State.bySpeed_keeps ?_ (List.Subset.trans ?_ hl); rotate_right; decide +kernel)
    | (with_reducible refine State.setO_keeps ?_ ⟨_, inL hl ?_, O.trxRule_has _ ?_⟩; rotate_right; (first | exact Fin.isLt _ | omega | (simp only [List.mem_range] at *; omega)); rotate_right; decide +kernel)
    | (with_reducible refine State.raise_keeps ?_ (List.Subset.trans ?_ hl); rotate_right; decide +kernel)

theorem napSample_keeps {l : List Part} {s : State} {a0 : State} {a1 : _} (h : Keeps l s a0)
    (hl : ([.evLast, .sent, .hosts, .later, .links, .cgs, .trx, .ctx, .amc, .rpk, .hpn, .pwr, .one O.pwrState, .one O.pwrTarget, .one O.pwrLimit, .one O.pwrWakeCause, .fam O.trxSpeed 4, .fam O.trxRule 4, .fam O.lpeStatus 64, .fam O.lpeTrState 4, .fam O.lpeTrCount 4, .one O.rpkState, .one O.bstState] : List Part) ⊆ l) : Keeps l s (@State.napSample a0 a1) := by
  unfold State.napSample
  repeat' first
    | with_reducible assumption
    | with_reducible refine Keeps.ite ?_ ?_
    | (with_reducible refine State.ruleCt_keeps ?_ (List.Subset.trans ?_ hl); rotate_right; decide +kernel)
    | (with_reducible refine State.powerChoice_keeps ?_ (List.Subset.trans ?_ hl); rotate_right; decide +kernel)
    | (with_reducible refine State.setO_keeps ?_ ⟨_, inL hl ?_, O.pwrWakeCause_has⟩; rotate_right; decide +kernel)
    | (with_reducible refine State.raise_keeps ?_ (List.Subset.trans ?_ hl); rotate_right; decide +kernel)
    | (with_reducible refine State.takeSpeed_keeps ?_ (List.Subset.trans ?_ hl); rotate_right; decide +kernel)

theorem ndvCheck_keeps {l : List Part} {s : State} {a0 : State} (h : Keeps l s a0)
    (hl : ([.evLast, .sent, .hosts, .later, .ctx, .rpk, .hpn, .fam O.lpeStatus 64, .fam O.lpeTrState 4, .fam O.lpeTrCount 4, .one O.rpkState, .one O.rpkFlags, .one O.rpkEnd, .one O.rpkChgTime] : List Part) ⊆ l) : Keeps l s (@State.ndvCheck a0) := by
  unfold State.ndvCheck
  repeat' first
    | with_reducible assumption
    | with_reducible refine Keeps.ite ?_ ?_
    | (with_reducible refine State.incSat_keeps ?_ ⟨_, inL hl ?_, O.rpkChgTime_has⟩; rotate_right; decide +kernel)
    | (with_reducible refine State.modRpk_keeps ?_ (List.Subset.trans ?_ hl); rotate_right; decide +kernel)
    | (with_reducible refine State.rpkDone_keeps ?_ (List.Subset.trans ?_ hl); rotate_right; decide +kernel)

theorem onCan_keeps {l : List Part} {s : State} {a0 : _} {a1 : State} {a2 : _} (h : Keeps l s a1) (hf : ∀ i, KeepsP l s (a2 i))
    (hl : ([] : List Part) ⊆ l) : KeepsP l s (@State.onCan a0 a1 a2) := by
  unfold State.onCan
  repeat' first
    | with_reducible assumption
    | with_reducible exact hf _
    | with_reducible refine KeepsP.dite ?_ ?_
    | intro x
    | with_reducible refine KeepsP.mk ?_

theorem netCanRestart_keeps {l : List Part} {s : State} {a0 : _} {a1 : State} (h : Keeps l s a1)
    (hl : ([.evLast, .sent, .hosts, .disp, .later, .hpn, .net, .one O.sysLateFlags, .one O.netSessions, .one O.netCycSkipped, .fam O.netCanAddr 4, .fam O.netCanStatus 4] : List Part) ⊆ l) : KeepsP l s (@State.netCanRestart a0 a1) := by
  unfold State.netCanRestart
  repeat' first
    | with_reducible assumption
    | (intro x; have hx : Keeps l s x := ?_; clear_value x)
    | with_reducible refine Keeps.ite ?_ ?_
    | (with_reducible refine State.setO_keeps ?_ ⟨_, inL hl ?_, O.netCanStatus_has _ ?_⟩; rotate_right; (first | exact Fin.isLt _ | omega | (simp only [List.mem_range] at *; omega)); rotate_right; decide +kernel)
    | (with_reducible refine State.onCan_keeps ?_ ?_ (List.Subset.trans ?_ hl); rotate_right; decide +kernel)
    | (with_reducible refine State.raise_keeps ?_ (List.Subset.trans ?_ hl); rotate_right; decide +kernel)
    | (with_reducible refine State.guarded_keeps ?_ ?_ (List.Subset.trans ?_ hl); rotate_right; decide +kernel)
    | (with_reducible refine State.canStart_keeps ?_ (List.Subset.trans ?_ hl); rotate_right; decide +kernel)
    | intro x
    | lift_lets
    | with_reducible refine KeepsP.mk ?_

theorem netClaim_keeps {l : List Part} {s : State} {a0 : _} {a1 : State} (h : Keeps l s a1)
    (hl : ([.disp, .net, .one O.sysLateFlags, .one O.netSessions, .one O.netCycSkipped, .fam O.netCanAddr 4, .fam O.netCanStatus 4] : List Part) ⊆ l) : KeepsP l s (@State.netClaim a0 a1) := by
  unfold State.netClaim
  repeat' first
    | with_reducible assumption
    | (intro x; have hx : Keeps l s x := ?_; clear_value x)
    | (with_reducible refine State.portFlush_keeps ?_ (List.Subset.trans ?_ hl); rotate_right; decide +kernel)
    | (with_reducible refine State.claimStart_keeps ?_ (List.Subset.trans ?_ hl); rotate_right; decide +kernel)
    | (with_reducible refine State.endAll_keeps ?_ (List.Subset.trans ?_ hl); rotate_right; decide +kernel)
    | (with_reducible refine State.onCan_keeps ?_ ?_ (List.Subset.trans ?_ hl); rotate_right; decide +kernel)
    | (with_reducible refine State.guarded_keeps ?_ ?_ (List.Subset.trans ?_ hl); rotate_right; decide +kernel)
    | (with_reducible refine State.hold_keeps ?_ (List.Subset.trans ?_ hl); rotate_right; decide +kernel)
    | intro x
    | lift_lets
    | with_reducible refine KeepsP.mk ?_

theorem netPartnerPin_keeps {l : List Part} {s : State} {a0 : _} {a1 : State} (h : Keeps l s a1)
    (hl : ([.net] : List Part) ⊆ l) : KeepsP l s (@State.netPartnerPin a0 a1) := by
  unfold State.netPartnerPin
  repeat' first
    | with_reducible assumption
    | (with_reducible refine State.guarded_keeps ?_ ?_ (List.Subset.trans ?_ hl); rotate_right; decide +kernel)
    | (with_reducible refine State.pMod_keeps ?_ (List.Subset.trans ?_ hl); rotate_right; decide +kernel)
    | intro x
    | lift_lets
    | with_reducible refine KeepsP.mk ?_

theorem netPartnerRead_keeps {l : List Part} {s : State} {a0 : _} {a1 : State} (h : Keeps l s a1)
    (hl : ([] : List Part) ⊆ l) : KeepsP l s (@State.netPartnerRead a0 a1) := by
  unfold State.netPartnerRead
  repeat' first
    | with_reducible assumption
    | (with_reducible refine State.guarded_keeps ?_ ?_ (List.Subset.trans ?_ hl); rotate_right; decide +kernel)
    | intro x
    | lift_lets
    | with_reducible refine KeepsP.mk ?_

theorem netSend_keeps {l : List Part} {s : State} {a0 : _} {a1 : State} (h : Keeps l s a1)
    (hl : ([.disp, .net, .one O.sysLateFlags, .one O.netSessions, .one O.netCycSkipped] : List Part) ⊆ l) : KeepsP l s (@State.netSend a0 a1) := by
  unfold State.netSend
  repeat' first
    | with_reducible assumption
    | (intro x; have hx : Keeps l s x := ?_; clear_value x)
    | (with_reducible refine State.sendPg_keeps ?_ (List.Subset.trans ?_ hl); rotate_right; decide +kernel)
    | (with_reducible refine State.guarded_keeps ?_ ?_ (List.Subset.trans ?_ hl); rotate_right; decide +kernel)
    | (with_reducible refine State.hold_keeps ?_ (List.Subset.trans ?_ hl); rotate_right; decide +kernel)
    | with_reducible refine Keeps.foldl ?_ ?_
    | intro x
    | lift_lets
    | with_reducible refine KeepsP.mk ?_

theorem obsSource_keeps {l : List Part} {s : State} {a0 : State} {a1 : _} (h : Keeps l s a0)
    (hl : ([.trx] : List Part) ⊆ l) : Keeps l s (@State.obsSource a0 a1) := by
  unfold State.obsSource
  repeat' first
    | with_reducible assumption
    | (with_reducible refine State.modTrx_keeps ?_ (List.Subset.trans ?_ hl); rotate_right; decide +kernel)

theorem observerReturn_keeps {l : List Part} {s : State} {a0 : State} {a1 : _} (h : Keeps l s a0)
    (hl : ([.evLast, .sent, .hosts, .later, .trx, .amc, .hpn, .fam O.trxSpeed 4, .fam O.trxAngleSrc 4] : List Part) ⊆ l) : Keeps l s (@State.observerReturn a0 a1) := by
  unfold State.observerReturn
  repeat' first
    | with_reducible assumption
    | with_reducible refine Keeps.ite ?_ ?_
    | (with_reducible refine State.setO_keeps ?_ ⟨_, inL hl ?_, O.trxAngleSrc_has _ ?_⟩; rotate_right; (first | exact Fin.isLt _ | omega | (simp only [List.mem_range] at *; omega)); rotate_right; decide +kernel)
    | (with_reducible refine State.raise_keeps ?_ (List.Subset.trans ?_ hl); rotate_right; decide +kernel)
    | (with_reducible refine State.takeSpeed_keeps ?_ (List.Subset.trans ?_ hl); rotate_right; decide +kernel)
    | split

theorem onBuf_keeps {l : List Part} {s : State} {a0 : _} {a1 : State} {a2 : _} (h : Keeps l s a1) (hf : ∀ i, KeepsP l s (a2 i))
    (hl : ([] : List Part) ⊆ l) : KeepsP l s (@State.onBuf a0 a1 a2) := by
  unfold State.onBuf
  repeat' first
    | with_reducible assumption
    | with_reducible exact hf _
    | with_reducible refine KeepsP.dite ?_ ?_
    | intro x
    | with_reducible refine KeepsP.mk ?_

theorem onFrame_keeps {l : List Part} {s : State} {a0 : State} {a1 : _} {a2 : _} {a3 : _} {a4 : _} {a5 : _} {a6 : _} (h : Keeps l s a0) (hf : ∀ u, Keeps l s u → Keeps l s (a5 u)) (hf2 : ∀ u, Keeps l s u → Keeps l s (a6 u))
    (hl : ([.fam O.glkStatus 40] : List Part) ⊆ l) : Keeps l s (@State.onFrame a0 a1 a2 a3 a4 a5 a6) := by
  unfold State.onFrame
  repeat' first
    | with_reducible assumption
    | with_reducible refine hf2 _ ?_
    | with_reducible refine hf _ ?_
    | with_reducible refine Keeps.ite ?_ ?_
    | (with_reducible refine State.frameErr_keeps ?_ (List.Subset.trans ?_ hl); rotate_right; decide +kernel)

theorem onIsl_keeps {l : List Part} {s : State} {a0 : _} {a1 : State} {a2 : _} (h : Keeps l s a1) (hf : ∀ i, KeepsP l s (a2 i))
    (hl : ([] : List Part) ⊆ l) : KeepsP l s (@State.onIsl a0 a1 a2) := by
  unfold State.onIsl
  repeat' first
    | with_reducible assumption
    | with_reducible exact hf _
    | with_reducible refine KeepsP.dite ?_ ?_
    | intro x
    | with_reducible refine KeepsP.mk ?_

theorem onRecord_keeps {l : List Part} {s : State} {a0 : State} {a1 : _} {a2 : _} {a3 : _} (h : Keeps l s a0) (hf : ∀ u n b, Keeps l s u → Keeps l s (a3 u n b))
    (hl : ([.hosts, .hpn] : List Part) ⊆ l) : Keeps l s (@State.onRecord a0 a1 a2 a3) := by
  unfold State.onRecord
  repeat' first
    | with_reducible assumption
    | with_reducible refine hf _ _ _ ?_
    | (with_reducible refine State.hpnTake_keeps ?_ (List.Subset.trans ?_ hl); rotate_right; decide +kernel)
    | split

theorem onTrx_keeps {l : List Part} {s : State} {a0 : _} {a1 : State} {a2 : _} (h : Keeps l s a1) (hf : ∀ i, KeepsP l s (a2 i))
    (hl : ([] : List Part) ⊆ l) : KeepsP l s (@State.onTrx a0 a1 a2) := by
  unfold State.onTrx
  repeat' first
    | with_reducible assumption
    | with_reducible exact hf _
    | with_reducible refine KeepsP.dite ?_ ?_
    | intro x
    | with_reducible refine KeepsP.mk ?_

theorem openSession_keeps {l : List Part} {s : State} {a0 : State} {a1 : _} {a2 : _} {a3 : _} (h : Keeps l s a0)
    (hl : ([.evLast, .sent, .hosts, .later, .hpn, .sec, .thm, .one O.secSession, .one O.logHead, .one O.logChain, .one O.logCount, .one O.logQueued] : List Part) ⊆ l) : Keeps l s (@State.openSession a0 a1 a2 a3) := by
  unfold State.openSession
  repeat' first
    | with_reducible assumption
    | (with_reducible refine State.setSession_keeps ?_ (List.Subset.trans ?_ hl); rotate_right; decide +kernel)
    | (with_reducible refine State.raise_keeps ?_ (List.Subset.trans ?_ hl); rotate_right; decide +kernel)
    | (with_reducible refine State.audit_keeps ?_ (List.Subset.trans ?_ hl); rotate_right; decide +kernel)

theorem openStep_keeps {l : List Part} {s : State} {a0 : State} (h : Keeps l s a0)
    (hl : ([.evLast, .sent, .hosts, .disp, .later, .links, .ctx, .dcl, .aux, .hpn, .one O.dclState, .one O.dclBmsOpen, .fam O.lpeStatus 64, .fam O.lpeTrState 4, .fam O.lpeTrCount 4, .one O.auxState, .one O.auxFlags, .one O.auxCause, .one O.auxPhaseState] : List Part) ⊆ l) : Keeps l s (@State.openStep a0) := by
  unfold State.openStep
  repeat' first
    | with_reducible assumption
    | with_reducible refine Keeps.ite ?_ ?_
    | (with_reducible refine State.dclOut_keeps ?_ (List.Subset.trans ?_ hl); rotate_right; decide +kernel)
    | (with_reducible refine State.dclOpened_keeps ?_ (List.Subset.trans ?_ hl); rotate_right; decide +kernel)
    | (with_reducible refine State.endAll_keeps ?_ (List.Subset.trans ?_ hl); rotate_right; decide +kernel)
    | (with_reducible refine State.modDcl_keeps ?_ (List.Subset.trans ?_ hl); rotate_right; decide +kernel)
    | split

theorem ovaFinish_keeps {l : List Part} {s : State} {a0 : State} (h : Keeps l s a0)
    (hl : ([.evLast, .sent, .hosts, .later, .links, .trx, .dcl, .hpn, .one O.dclFlags] : List Part) ⊆ l) : Keeps l s (@State.ovaFinish a0) := by
  unfold State.ovaFinish
  repeat' first
    | with_reducible assumption
    | (intro x; have hx : Keeps l s x := ?_; clear_value x)
    | with_reducible refine Keeps.ite ?_ ?_
    | (with_reducible refine State.modTrx_keeps ?_ (List.Subset.trans ?_ hl); rotate_right; decide +kernel)
    | (with_reducible refine State.raise_keeps ?_ (List.Subset.trans ?_ hl); rotate_right; decide +kernel)
    | (with_reducible refine State.chopAct_keeps ?_ (List.Subset.trans ?_ hl); rotate_right; decide +kernel)
    | (with_reducible refine State.clrO_keeps ?_ ⟨_, inL hl ?_, O.dclFlags_has⟩; rotate_right; decide +kernel)
    | with_reducible refine Keeps.foldl ?_ ?_
    | intro x
    | lift_lets
    | split

theorem setOverride_keeps {l : List Part} {s : State} {a0 : State} {a1 : _} {a2 : _} {a3 : _} (h : Keeps l s a0)
    (hl : ([.disp, .one O.sysHostOverride] : List Part) ⊆ l) : Keeps l s (@State.setOverride a0 a1 a2 a3) := by
  unfold State.setOverride
  repeat' first
    | with_reducible assumption
    | (with_reducible refine State.setO_keeps ?_ ⟨_, inL hl ?_, O.sysHostOverride_has⟩; rotate_right; decide +kernel)
    | (with_reducible refine State.modDisp_keeps ?_ (List.Subset.trans ?_ hl); rotate_right; decide +kernel)

theorem rpkOverride_keeps {l : List Part} {s : State} {a0 : State} (h : Keeps l s a0)
    (hl : ([.evLast, .sent, .hosts, .later, .ctx, .rpk, .hpn, .fam O.lpeStatus 64, .fam O.lpeTrState 4, .fam O.lpeTrCount 4, .one O.rpkState] : List Part) ⊆ l) : Keeps l s (@State.rpkOverride a0) := by
  unfold State.rpkOverride
  repeat' first
    | with_reducible assumption
    | with_reducible refine Keeps.ite ?_ ?_
    | (with_reducible refine State.rpkTo_keeps ?_ (List.Subset.trans ?_ hl); rotate_right; decide +kernel)

theorem overStop_keeps {l : List Part} {s : State} {a0 : State} {a1 : _} (h : Keeps l s a0)
    (hl : ([.evLast, .sent, .hosts, .disp, .later, .links, .trx, .ctx, .dcl, .ptg, .chg, .aux, .amc, .rpk, .hpn, .one O.sysXingDropFlags, .fam O.trxState 4, .fam O.trxAngleSrc 4, .fam O.lpeStatus 64, .fam O.lpeTrState 4, .fam O.lpeTrCount 4, .one O.chgState, .one O.chgInput, .one O.chgFlags, .one O.chgCause, .one O.chgIInLim, .one O.chgPIn, .one O.auxState, .one O.auxFlags, .one O.auxCause, .one O.auxPhaseState, .fam O.amcState 6, .fam O.amcSpeed 6, .fam O.amcFlags 6, .fam O.amcFault 6, .one O.amcParkState, .one O.rpkState] : List Part) ⊆ l) : Keeps l s (@State.overStop a0 a1) := by
  unfold State.overStop
  repeat' first
    | with_reducible assumption
    | with_reducible refine Keeps.ite ?_ ?_
    | with_reducible refine Keeps.dite ?_ ?_
    | (with_reducible refine State.auxEnd_keeps ?_ (List.Subset.trans ?_ hl); rotate_right; decide +kernel)
    | (with_reducible refine State.trxStopReq_keeps ?_ (List.Subset.trans ?_ hl); rotate_right; decide +kernel)
    | (with_reducible refine State.rpkOverride_keeps ?_ (List.Subset.trans ?_ hl); rotate_right; decide +kernel)
    | (with_reducible refine State.chgStopFor_keeps ?_ (List.Subset.trans ?_ hl); rotate_right; decide +kernel)
    | (with_reducible refine State.chopBar_keeps ?_ (List.Subset.trans ?_ hl); rotate_right; decide +kernel)
    | (with_reducible refine State.amcStopAll_keeps ?_ (List.Subset.trans ?_ hl); rotate_right; decide +kernel)
    | intro x

theorem overLift_keeps {l : List Part} {s : State} {a0 : State} {a1 : _} (h : Keeps l s a0)
    (hl : ([.evLast, .sent, .hosts, .later, .forceA, .forceB, .links, .trx, .ptg, .hpn, .one O.sysXingDropFlags, .fam O.trxState 4] : List Part) ⊆ l) : Keeps l s (@State.overLift a0 a1) := by
  unfold State.overLift
  repeat' first
    | with_reducible assumption
    | with_reducible refine Keeps.ite ?_ ?_
    | with_reducible refine Keeps.dite ?_ ?_
    | (with_reducible refine State.applySc_keeps ?_ (List.Subset.trans ?_ hl); rotate_right; decide +kernel)
    | (with_reducible refine State.modTrx_keeps ?_ (List.Subset.trans ?_ hl); rotate_right; decide +kernel)
    | (with_reducible refine State.trxSet_keeps ?_ (List.Subset.trans ?_ hl); rotate_right; decide +kernel)
    | intro x

theorem overSafeTrx_keeps {l : List Part} {s : State} {a0 : State} {a1 : _} (h : Keeps l s a0)
    (hl : ([.free, .evLast, .sent, .hosts, .disp, .later, .links, .trx, .ctx, .ptg, .hpn, .one O.sysXingDropFlags, .fam O.trxState 4, .fam O.trxFault 4, .fam O.trxAngleSrc 4, .fam O.lpeStatus 64, .fam O.lpeTrState 4, .fam O.lpeTrCount 4] : List Part) ⊆ l) : Keeps l s (@State.overSafeTrx a0 a1) := by
  unfold State.overSafeTrx
  repeat' first
    | with_reducible assumption
    | with_reducible refine Keeps.ite ?_ ?_
    | (with_reducible refine State.trxFail_keeps ?_ (List.Subset.trans ?_ hl); rotate_right; decide +kernel)
    | (with_reducible refine State.modTrx_keeps ?_ (List.Subset.trans ?_ hl); rotate_right; decide +kernel)
    | (with_reducible refine State.takeFree_keeps ?_ (List.Subset.trans ?_ hl); rotate_right; decide +kernel)

theorem overSafe_keeps {l : List Part} {s : State} {a0 : State} {a1 : _} (h : Keeps l s a0)
    (hl : ([.free, .evLast, .sent, .hosts, .disp, .later, .forceA, .forceB, .links, .trx, .ctx, .dcl, .ptg, .chg, .aux, .amc, .rpk, .hpn, .one O.sysXingDropFlags, .fam O.trxState 4, .fam O.trxFault 4, .fam O.trxAngleSrc 4, .fam O.lpeStatus 64, .fam O.lpeTrState 4, .fam O.lpeTrCount 4, .one O.chgState, .one O.chgInput, .one O.chgFlags, .one O.chgCause, .one O.chgIInLim, .one O.chgPIn, .one O.auxState, .one O.auxFlags, .one O.auxCause, .one O.auxPhaseState, .fam O.amcState 6, .fam O.amcSpeed 6, .fam O.amcFlags 6, .fam O.amcFault 6, .one O.amcParkState, .one O.rpkState] : List Part) ⊆ l) : Keeps l s (@State.overSafe a0 a1) := by
  unfold State.overSafe
  repeat' first
    | with_reducible assumption
    | with_reducible refine Keeps.ite ?_ ?_
    | with_reducible refine Keeps.dite ?_ ?_
    | (with_reducible refine State.applySc_keeps ?_ (List.Subset.trans ?_ hl); rotate_right; decide +kernel)
    | (with_reducible refine State.auxEnd_keeps ?_ (List.Subset.trans ?_ hl); rotate_right; decide +kernel)
    | (with_reducible refine State.amcSafe_keeps ?_ (List.Subset.trans ?_ hl); rotate_right; decide +kernel)
    | (with_reducible refine State.rpkOverride_keeps ?_ (List.Subset.trans ?_ hl); rotate_right; decide +kernel)
    | (with_reducible refine State.chgStopFor_keeps ?_ (List.Subset.trans ?_ hl); rotate_right; decide +kernel)
    | (with_reducible refine State.chopBar_keeps ?_ (List.Subset.trans ?_ hl); rotate_right; decide +kernel)
    | (with_reducible refine State.overSafeTrx_keeps ?_ (List.Subset.trans ?_ hl); rotate_right; decide +kernel)
    | intro x

theorem overApply_keeps {l : List Part} {s : State} {a0 : State} {a1 : _} {a2 : _} {a3 : _} (h : Keeps l s a0)
    (hl : ([.free, .evLast, .sent, .hosts, .slots, .disp, .later, .forceA, .forceB, .links, .trx, .ctx, .dcl, .ptg, .adc, .chg, .aux, .amc, .rpk, .hpn, .one O.sysXingDropFlags, .one O.sysHostLeaseOwner, .one O.sysHostOverride, .fam O.trxState 4, .fam O.trxFault 4, .fam O.trxAngleSrc 4, .fam O.lpeStatus 64, .fam O.lpeTrState 4, .fam O.lpeTrCount 4, .one O.chgState, .one O.chgInput, .one O.chgFlags, .one O.chgCause, .one O.chgIInLim, .one O.chgPIn, .one O.auxState, .one O.auxFlags, .one O.auxCause, .one O.auxPhaseState, .fam O.amcState 6, .fam O.amcSpeed 6, .fam O.amcFlags 6, .fam O.amcFault 6, .one O.amcParkState, .one O.rpkState] : List Part) ⊆ l) : Keeps l s (@State.overApply a0 a1 a2 a3) := by
  unfold State.overApply
  repeat' first
    | with_reducible assumption
    | with_reducible refine Keeps.ite ?_ ?_
    | (with_reducible refine State.applySc_keeps ?_ (List.Subset.trans ?_ hl); rotate_right; decide +kernel)
    | (with_reducible refine State.heldSync_keeps ?_ (List.Subset.trans ?_ hl); rotate_right; decide +kernel)
    | (with_reducible refine State.setOverride_keeps ?_ (List.Subset.trans ?_ hl); rotate_right; decide +kernel)
    | (with_reducible refine State.overStop_keeps ?_ (List.Subset.trans ?_ hl); rotate_right; decide +kernel)
    | (with_reducible refine State.endLease_keeps ?_ (List.Subset.trans ?_ hl); rotate_right; decide +kernel)
    | (with_reducible refine State.postActive_keeps ?_ (List.Subset.trans ?_ hl); rotate_right; decide +kernel)
    | (with_reducible refine State.overLift_keeps ?_ (List.Subset.trans ?_ hl); rotate_right; decide +kernel)
    | (with_reducible refine State.overSafe_keeps ?_ (List.Subset.trans ?_ hl); rotate_right; decide +kernel)

theorem overshoot_keeps {l : List Part} {s : State} {a0 : State} (h : Keeps l s a0)
    (hl : ([.evLast, .sent, .hosts, .later, .links, .ctx, .aux, .hpn, .one O.auxFlags] : List Part) ⊆ l) : Keeps l s (@State.overshoot a0) := by
  unfold State.overshoot
  repeat' first
    | with_reducible assumption
    | with_reducible refine Keeps.ite ?_ ?_
    | (with_reducible refine State.auxWindow_keeps ?_ (List.Subset.trans ?_ hl); rotate_right; decide +kernel)
    | (with_reducible refine State.raise_keeps ?_ (List.Subset.trans ?_ hl); rotate_right; decide +kernel)
    | (with_reducible refine State.auxKeepBack_keeps ?_ (List.Subset.trans ?_ hl); rotate_right; decide +kernel)
    | (with_reducible refine State.modAux_keeps ?_ (List.Subset.trans ?_ hl); rotate_right; decide +kernel)
    | (with_reducible refine State.orO_keeps ?_ ⟨_, inL hl ?_, O.auxFlags_has⟩; rotate_right; decide +kernel)
    | with_reducible refine Keeps.foldl ?_ ?_
    | intro x

theorem ownCarrier_keeps {l : List Part} {s : State} {a0 : State} (h : Keeps l s a0)
    (hl : ([.cgs] : List Part) ⊆ l) : Keeps l s (@State.ownCarrier a0) := by
  unfold State.ownCarrier
  repeat' first
    | with_reducible assumption
    | (with_reducible refine State.modCg_keeps ?_ (List.Subset.trans ?_ hl); rotate_right; decide +kernel)

theorem packCutoff_keeps {l : List Part} {s : State} {a0 : State} (h : Keeps l s a0)
    (hl : ([.evLast, .sent, .hosts, .later, .rpk, .hpn, .pwr, .one O.rpkFlags] : List Part) ⊆ l) : Keeps l s (@State.packCutoff a0) := by
  unfold State.packCutoff
  repeat' first
    | with_reducible assumption
    | with_reducible refine Keeps.ite ?_ ?_
    | (with_reducible refine State.modPwr_keeps ?_ (List.Subset.trans ?_ hl); rotate_right; decide +kernel)
    | (with_reducible refine State.modRpk_keeps ?_ (List.Subset.trans ?_ hl); rotate_right; decide +kernel)
    | (with_reducible refine State.raise_keeps ?_ (List.Subset.trans ?_ hl); rotate_right; decide +kernel)
    | (with_reducible refine State.orO_keeps ?_ ⟨_, inL hl ?_, O.rpkFlags_has⟩; rotate_right; decide +kernel)

theorem packOff_keeps {l : List Part} {s : State} {a0 : State} (h : Keeps l s a0)
    (hl : ([.rpk] : List Part) ⊆ l) : Keeps l s (@State.packOff a0) := by
  unfold State.packOff
  repeat' first
    | with_reducible assumption
    | with_reducible refine Keeps.ite ?_ ?_
    | (with_reducible refine State.modRpk_keeps ?_ (List.Subset.trans ?_ hl); rotate_right; decide +kernel)
    | split

theorem packOvervolt_keeps {l : List Part} {s : State} {a0 : State} {a1 : _} (h : Keeps l s a0)
    (hl : ([.evLast, .sent, .hosts, .later, .ctx, .rpk, .hpn, .fam O.lpeStatus 64, .fam O.lpeTrState 4, .fam O.lpeTrCount 4, .one O.rpkState, .one O.rpkFlags] : List Part) ⊆ l) : Keeps l s (@State.packOvervolt a0 a1) := by
  unfold State.packOvervolt
  repeat' first
    | with_reducible assumption
    | with_reducible refine Keeps.ite ?_ ?_
    | (with_reducible refine State.packRemoved_keeps ?_ (List.Subset.trans ?_ hl); rotate_right; decide +kernel)
    | (with_reducible refine State.modRpk_keeps ?_ (List.Subset.trans ?_ hl); rotate_right; decide +kernel)

theorem packQualified_keeps {l : List Part} {s : State} {a0 : State} (h : Keeps l s a0)
    (hl : ([.evLast, .sent, .hosts, .later, .ctx, .rpk, .hpn, .fam O.lpeStatus 64, .fam O.lpeTrState 4, .fam O.lpeTrCount 4, .one O.rpkState, .one O.rpkFlags] : List Part) ⊆ l) : Keeps l s (@State.packQualified a0) := by
  unfold State.packQualified
  repeat' first
    | with_reducible assumption
    | with_reducible refine Keeps.ite ?_ ?_
    | (with_reducible refine State.rpkTo_keeps ?_ (List.Subset.trans ?_ hl); rotate_right; decide +kernel)
    | (with_reducible refine State.orO_keeps ?_ ⟨_, inL hl ?_, O.rpkFlags_has⟩; rotate_right; decide +kernel)

theorem packSeen_keeps {l : List Part} {s : State} {a0 : State} (h : Keeps l s a0)
    (hl : ([.evLast, .sent, .hosts, .later, .ctx, .rpk, .hpn, .fam O.lpeStatus 64, .fam O.lpeTrState 4, .fam O.lpeTrCount 4, .one O.rpkState] : List Part) ⊆ l) : Keeps l s (@State.packSeen a0) := by
  unfold State.packSeen
  repeat' first
    | with_reducible assumption
    | with_reducible refine Keeps.ite ?_ ?_
    | (with_reducible refine State.rpkTo_keeps ?_ (List.Subset.trans ?_ hl); rotate_right; decide +kernel)
    | split

theorem parkCmd_keeps {l : List Part} {s : State} {a0 : State} {a1 : _} {a2 : _} (h : Keeps l s a0)
    (hl : ([.evLast, .sent, .hosts, .disp, .later, .ctx, .amc, .hpn, .fam O.lpeStatus 64, .fam O.lpeTrState 4, .fam O.lpeTrCount 4, .fam O.amcState 6, .fam O.amcSpeed 6, .fam O.amcFlags 6, .one O.amcParkState] : List Part) ⊆ l) : KeepsP l s (@State.parkCmd a0 a1 a2) := by
  unfold State.parkCmd
  repeat' first
    | with_reducible assumption
    | (intro x; have hx : Keeps l s x := ?_; clear_value x)
    | with_reducible refine KeepsP.ite ?_ ?_
    | (with_reducible refine State.parkRun_keeps ?_ (List.Subset.trans ?_ hl); rotate_right; decide +kernel)
    | (with_reducible refine State.amcEndCmds_keeps ?_ (List.Subset.trans ?_ hl); rotate_right; decide +kernel)
    | (with_reducible refine State.endAll_keeps ?_ (List.Subset.trans ?_ hl); rotate_right; decide +kernel)
    | (with_reducible refine State.modAmc_keeps ?_ (List.Subset.trans ?_ hl); rotate_right; decide +kernel)
    | (with_reducible refine State.hold_keeps ?_ (List.Subset.trans ?_ hl); rotate_right; decide +kernel)
    | (with_reducible refine State.orO_keeps ?_ ⟨_, inL hl ?_, O.amcFlags_has _ ?_⟩; rotate_right; (first | exact Fin.isLt _ | omega | (simp only [List.mem_range] at *; omega)); rotate_right; decide +kernel)
    | lift_lets
    | with_reducible refine KeepsP.mk ?_

theorem parkEngage_keeps {l : List Part} {s : State} {a0 : _} {a1 : State} (h : Keeps l s a1)
    (hl : ([.evLast, .sent, .hosts, .disp, .later, .ctx, .amc, .hpn, .fam O.lpeStatus 64, .fam O.lpeTrState 4, .fam O.lpeTrCount 4, .fam O.amcState 6, .fam O.amcSpeed 6, .fam O.amcFlags 6, .one O.amcParkState] : List Part) ⊆ l) : KeepsP l s (@State.parkEngage a0 a1) := by
  unfold State.parkEngage
  repeat' first
    | with_reducible assumption
    | (intro x; have hx : Keeps l s x := ?_; clear_value x)
    | (with_reducible refine State.endAll_keeps ?_ (List.Subset.trans ?_ hl); rotate_right; decide +kernel)
    | (with_reducible refine State.guarded_keeps ?_ ?_ (List.Subset.trans ?_ hl); rotate_right; decide +kernel)
    | (with_reducible refine State.parkCmd_keeps ?_ (List.Subset.trans ?_ hl); rotate_right; decide +kernel)
    | (with_reducible refine State.modAmc_keeps ?_ (List.Subset.trans ?_ hl); rotate_right; decide +kernel)
    | (with_reducible refine State.hold_keeps ?_ (List.Subset.trans ?_ hl); rotate_right; decide +kernel)
    | (with_reducible refine State.orO_keeps ?_ ⟨_, inL hl ?_, O.amcFlags_has _ ?_⟩; rotate_right; (first | exact Fin.isLt _ | omega | (simp only [List.mem_range] at *; omega)); rotate_right; decide +kernel)
    | intro x
    | lift_lets
    | split
    | with_reducible refine KeepsP.mk ?_

theorem parkEngageClear_keeps {l : List Part} {s : State} {a0 : State} (h : Keeps l s a0)
    (hl : ([.evLast, .sent, .hosts, .disp, .later, .ctx, .amc, .hpn, .fam O.lpeStatus 64, .fam O.lpeTrState 4, .fam O.lpeTrCount 4, .fam O.amcState 6, .fam O.amcSpeed 6, .fam O.amcFlags 6, .one O.amcParkState] : List Part) ⊆ l) : Keeps l s (@State.parkEngageClear a0) := by
  unfold State.parkEngageClear
  repeat' first
    | with_reducible assumption
    | (intro x; have hx : Keeps l s x := ?_; clear_value x)
    | with_reducible refine Keeps.ite ?_ ?_
    | (with_reducible refine State.amcUnderWay_keeps ?_ (List.Subset.trans ?_ hl); rotate_right; decide +kernel)
    | (with_reducible refine State.parkRun_keeps ?_ (List.Subset.trans ?_ hl); rotate_right; decide +kernel)
    | (with_reducible refine State.endAll_keeps ?_ (List.Subset.trans ?_ hl); rotate_right; decide +kernel)
    | (with_reducible refine State.modAmc_keeps ?_ (List.Subset.trans ?_ hl); rotate_right; decide +kernel)
    | (with_reducible refine State.clrO_keeps ?_ ⟨_, inL hl ?_, O.amcFlags_has _ ?_⟩; rotate_right; (first | exact Fin.isLt _ | omega | (simp only [List.mem_range] at *; omega)); rotate_right; decide +kernel)
    | intro x
    | lift_lets
    | split

theorem parkRelease_keeps {l : List Part} {s : State} {a0 : _} {a1 : State} (h : Keeps l s a1)
    (hl : ([.evLast, .sent, .hosts, .disp, .later, .ctx, .amc, .hpn, .fam O.lpeStatus 64, .fam O.lpeTrState 4, .fam O.lpeTrCount 4, .fam O.amcState 6, .fam O.amcSpeed 6, .fam O.amcFlags 6, .one O.amcParkState] : List Part) ⊆ l) : KeepsP l s (@State.parkRelease a0 a1) := by
  unfold State.parkRelease
  repeat' first
    | with_reducible assumption
    | (with_reducible refine State.guarded_keeps ?_ ?_ (List.Subset.trans ?_ hl); rotate_right; decide +kernel)
    | (with_reducible refine State.parkCmd_keeps ?_ (List.Subset.trans ?_ hl); rotate_right; decide +kernel)
    | intro x

theorem partnerLost_keeps {l : List Part} {s : State} {a0 : State} {a1 : _} (h : Keeps l s a0)
    (hl : ([.evLast, .sent, .hosts, .later, .hpn, .net] : List Part) ⊆ l) : Keeps l s (@State.partnerLost a0 a1) := by
  unfold State.partnerLost
  repeat' first
    | with_reducible assumption
    | (intro x; have hx : Keeps l s x := ?_; clear_value x)
    | with_reducible refine Keeps.ite ?_ ?_
    | (with_reducible refine State.raise_keeps ?_ (List.Subset.trans ?_ hl); rotate_right; decide +kernel)
    | (with_reducible refine State.pMod_keeps ?_ (List.Subset.trans ?_ hl); rotate_right; decide +kernel)
    | lift_lets
    | split

theorem pathEvent_keeps {l : List Part} {s : State} {a0 : State} (h : Keeps l s a0)
    (hl : ([.evLast, .sent, .hosts, .later, .hpn] : List Part) ⊆ l) : Keeps l s (@State.pathEvent a0) := by
  unfold State.pathEvent
  repeat' first
    | with_reducible assumption
    | (with_reducible refine State.raise_keeps ?_ (List.Subset.trans ?_ hl); rotate_right; decide +kernel)

theorem rpkStart_keeps {l : List Part} {s : State} {a0 : State} (h : Keeps l s a0)
    (hl : ([.evLast, .sent, .hosts, .later, .ctx, .rpk, .hpn, .fam O.lpeStatus 64, .fam O.lpeTrState 4, .fam O.lpeTrCount 4, .one O.rpkState, .one O.rpkEnd, .one O.rpkChgTime] : List Part) ⊆ l) : Keeps l s (@State.rpkStart a0) := by
  unfold State.rpkStart
  repeat' first
    | with_reducible assumption
    | with_reducible refine Keeps.ite ?_ ?_
    | (with_reducible refine State.rpkTo_keeps ?_ (List.Subset.trans ?_ hl); rotate_right; decide +kernel)
    | (with_reducible refine State.setO_keeps ?_ ⟨_, inL hl ?_, O.rpkChgTime_has⟩; rotate_right; decide +kernel)
    | (with_reducible refine State.setO_keeps ?_ ⟨_, inL hl ?_, O.rpkEnd_has⟩; rotate_right; decide +kernel)
    | (with_reducible refine State.rpkRun_keeps ?_ (List.Subset.trans ?_ hl); rotate_right; decide +kernel)

theorem rpkAuto_keeps {l : List Part} {s : State} {a0 : State} (h : Keeps l s a0)
    (hl : ([.evLast, .sent, .hosts, .later, .ctx, .rpk, .hpn, .fam O.lpeStatus 64, .fam O.lpeTrState 4, .fam O.lpeTrCount 4, .one O.rpkState, .one O.rpkEnd, .one O.rpkChgTime] : List Part) ⊆ l) : Keeps l s (@State.rpkAuto a0) := by
  unfold State.rpkAuto
  repeat' first
    | with_reducible assumption
    | with_reducible refine Keeps.ite ?_ ?_
    | (with_reducible refine State.rpkStart_keeps ?_ (List.Subset.trans ?_ hl); rotate_right; decide +kernel)

theorem pathHome_keeps {l : List Part} {s : State} {a0 : State} (h : Keeps l s a0)
    (hl : ([.evLast, .sent, .hosts, .later, .ctx, .rpk, .hpn, .fam O.lpeStatus 64, .fam O.lpeTrState 4, .fam O.lpeTrCount 4, .one O.rpkState, .one O.rpkPath, .one O.rpkEnd, .one O.rpkChgTime] : List Part) ⊆ l) : Keeps l s (@State.pathHome a0) := by
  unfold State.pathHome
  repeat' first
    | with_reducible assumption
    | (with_reducible refine State.rpkTryResume_keeps ?_ (List.Subset.trans ?_ hl); rotate_right; decide +kernel)
    | (with_reducible refine State.rpkAuto_keeps ?_ (List.Subset.trans ?_ hl); rotate_right; decide +kernel)
    | (with_reducible refine State.modRpk_keeps ?_ (List.Subset.trans ?_ hl); rotate_right; decide +kernel)
    | (with_reducible refine State.pathEvent_keeps ?_ (List.Subset.trans ?_ hl); rotate_right; decide +kernel)
    | (with_reducible refine State.pathTo_keeps ?_ (List.Subset.trans ?_ hl); rotate_right; decide +kernel)
    | (with_reducible refine State.when_keeps ?_ ?_ (List.Subset.trans ?_ hl); rotate_right; decide +kernel)
    | intro x

theorem pathTimer_keeps {l : List Part} {s : State} {a0 : State} (h : Keeps l s a0)
    (hl : ([.evLast, .sent, .hosts, .later, .ctx, .rpk, .hpn, .fam O.lpeStatus 64, .fam O.lpeTrState 4, .fam O.lpeTrCount 4, .one O.rpkState, .one O.rpkPath, .one O.rpkFlags, .one O.rpkEnd, .one O.rpkChgTime] : List Part) ⊆ l) : Keeps l s (@State.pathTimer a0) := by
  unfold State.pathTimer
  repeat' first
    | with_reducible assumption
    | with_reducible refine Keeps.ite ?_ ?_
    | (with_reducible refine State.modRpk_keeps ?_ (List.Subset.trans ?_ hl); rotate_right; decide +kernel)
    | (with_reducible refine State.pathEvent_keeps ?_ (List.Subset.trans ?_ hl); rotate_right; decide +kernel)
    | (with_reducible refine State.pathTo_keeps ?_ (List.Subset.trans ?_ hl); rotate_right; decide +kernel)
    | (with_reducible refine State.pathHome_keeps ?_ (List.Subset.trans ?_ hl); rotate_right; decide +kernel)
    | (with_reducible refine State.orO_keeps ?_ ⟨_, inL hl ?_, O.rpkFlags_has⟩; rotate_right; decide +kernel)

theorem patinaFail_keeps {l : List Part} {s : State} {a0 : State} {a1 : _} (h : Keeps l s a0)
    (hl : ([.free, .evLast, .sent, .hosts, .later, .hpn, .sec, .thm, .one O.logHead, .one O.logChain, .one O.logCount, .one O.logQueued, .fam O.memStatus 4, .one O.memSparesFree, .one O.memWipeCause] : List Part) ⊆ l) : Keeps l s (@State.patinaFail a0 a1) := by
  unfold State.patinaFail
  repeat' first
    | with_reducible assumption
    | with_reducible refine Keeps.ite ?_ ?_
    | (with_reducible refine State.mordantWipe_keeps ?_ (List.Subset.trans ?_ hl); rotate_right; decide +kernel)
    | (with_reducible refine State.memFault_keeps ?_ (List.Subset.trans ?_ hl); rotate_right; decide +kernel)
    | (with_reducible refine State.setO_keeps ?_ ⟨_, inL hl ?_, O.memSparesFree_has⟩; rotate_right; decide +kernel)
    | (with_reducible refine State.orO_keeps ?_ ⟨_, inL hl ?_, O.memStatus_has _ ?_⟩; rotate_right; (first | exact Fin.isLt _ | omega | (simp only [List.mem_range] at *; omega)); rotate_right; decide +kernel)

theorem patinaNext_keeps {l : List Part} {s : State} {a0 : State} {a1 : _} (h : Keeps l s a0)
    (hl : ([.patina, .fam O.memPasses 4] : List Part) ⊆ l) : Keeps l s (@State.patinaNext a0 a1) := by
  unfold State.patinaNext
  repeat' first
    | with_reducible assumption
    | with_reducible refine Keeps.ite ?_ ?_
    | (with_reducible refine State.incMod_keeps ?_ ⟨_, inL hl ?_, O.memPasses_has _ ?_⟩; rotate_right; (first | exact Fin.isLt _ | omega | (simp only [List.mem_range] at *; omega)); rotate_right; decide +kernel)
    | (with_reducible refine State.modPatina_keeps ?_ (List.Subset.trans ?_ hl); rotate_right; decide +kernel)

theorem patinaStep_keeps {l : List Part} {s : State} {a0 : State} {a1 : _} {a2 : _} {a3 : _} (h : Keeps l s a0)
    (hl : ([.free, .evLast, .sent, .hosts, .later, .hpn, .sec, .thm, .patina, .one O.logHead, .one O.logChain, .one O.logCount, .one O.logQueued, .fam O.memStatus 4, .fam O.memPasses 4, .one O.memSparesFree, .one O.memWipeCause] : List Part) ⊆ l) : Keeps l s (@State.patinaStep a0 a1 a2 a3) := by
  unfold State.patinaStep
  repeat' first
    | with_reducible assumption
    | with_reducible refine Keeps.ite ?_ ?_
    | (with_reducible refine State.patinaNext_keeps ?_ (List.Subset.trans ?_ hl); rotate_right; decide +kernel)
    | (with_reducible refine State.patinaFail_keeps ?_ (List.Subset.trans ?_ hl); rotate_right; decide +kernel)
    | (with_reducible refine State.modPatina_keeps ?_ (List.Subset.trans ?_ hl); rotate_right; decide +kernel)
    | (with_reducible refine State.orO_keeps ?_ ⟨_, inL hl ?_, O.memStatus_has _ ?_⟩; rotate_right; (first | exact Fin.isLt _ | omega | (simp only [List.mem_range] at *; omega)); rotate_right; decide +kernel)

theorem pauseOver_keeps {l : List Part} {s : State} {a0 : State} {a1 : _} (h : Keeps l s a0)
    (hl : ([.evLast, .sent, .hosts, .later, .ctx, .amc, .hpn, .thm, .fam O.lpeStatus 64, .fam O.lpeTrState 4, .fam O.lpeTrCount 4, .fam O.amcState 6, .fam O.amcSpeed 6] : List Part) ⊆ l) : Keeps l s (@State.pauseOver a0 a1) := by
  unfold State.pauseOver
  repeat' first
    | with_reducible assumption
    | (intro x; have hx : Keeps l s x := ?_; clear_value x)
    | with_reducible refine Keeps.ite ?_ ?_
    | (with_reducible refine State.modThm_keeps ?_ (List.Subset.trans ?_ hl); rotate_right; decide +kernel)
    | (with_reducible refine State.amcMoveBegin_keeps ?_ (List.Subset.trans ?_ hl); rotate_right; decide +kernel)
    | with_reducible refine Keeps.foldl ?_ ?_
    | intro x
    | lift_lets
    | split

theorem peakTrip_keeps {l : List Part} {s : State} {a0 : State} {a1 : _} (h : Keeps l s a0)
    (hl : ([.sent, .links, .ctx, .aux, .one O.auxFlags] : List Part) ⊆ l) : Keeps l s (@State.peakTrip a0 a1) := by
  unfold State.peakTrip
  repeat' first
    | with_reducible assumption
    | with_reducible refine Keeps.ite ?_ ?_
    | (with_reducible refine State.auxTruncate_keeps ?_ (List.Subset.trans ?_ hl); rotate_right; decide +kernel)
    | (with_reducible refine State.modAux_keeps ?_ (List.Subset.trans ?_ hl); rotate_right; decide +kernel)
    | (with_reducible refine State.orO_keeps ?_ ⟨_, inL hl ?_, O.auxFlags_has⟩; rotate_right; decide +kernel)

theorem periodStart_keeps {l : List Part} {s : State} {a0 : State} {a1 : _} (h : Keeps l s a0)
    (hl : ([.evLast, .sent, .hosts, .later, .links, .cgs, .dcl, .aux, .hpn, .one O.dclFlags, .one O.dclChopEnergy, .one O.auxPhaseState] : List Part) ⊆ l) : Keeps l s (@State.periodStart a0 a1) := by
  unfold State.periodStart
  repeat' first
    | with_reducible assumption
    | with_reducible refine Keeps.ite ?_ ?_
    | (with_reducible refine State.modCg_keeps ?_ (List.Subset.trans ?_ hl); rotate_right; decide +kernel)
    | (with_reducible refine State.auxPeriod_keeps ?_ (List.Subset.trans ?_ hl); rotate_right; decide +kernel)
    | (with_reducible refine State.linkPeriod_keeps ?_ (List.Subset.trans ?_ hl); rotate_right; decide +kernel)
    | (with_reducible refine State.chopPeriod_keeps ?_ (List.Subset.trans ?_ hl); rotate_right; decide +kernel)
    | with_reducible refine Keeps.foldl ?_ ?_
    | intro x

theorem phaseRejoin_keeps {l : List Part} {s : State} {a0 : State} {a1 : _} (h : Keeps l s a0)
    (hl : ([.evLast, .sent, .hosts, .later, .links, .aux, .hpn, .one O.auxPhaseState] : List Part) ⊆ l) : Keeps l s (@State.phaseRejoin a0 a1) := by
  unfold State.phaseRejoin
  repeat' first
    | with_reducible assumption
    | with_reducible refine Keeps.ite ?_ ?_
    | (with_reducible refine State.raise_keeps ?_ (List.Subset.trans ?_ hl); rotate_right; decide +kernel)
    | (with_reducible refine State.modAux_keeps ?_ (List.Subset.trans ?_ hl); rotate_right; decide +kernel)
    | (with_reducible refine State.putPh_keeps ?_ (List.Subset.trans ?_ hl); rotate_right; decide +kernel)
    | (with_reducible refine State.releaseLegs_keeps ?_ (List.Subset.trans ?_ hl); rotate_right; decide +kernel)

theorem pilotEdge_keeps {l : List Part} {s : State} {a0 : State} {a1 : _} {a2 : _} (h : Keeps l s a0)
    (hl : ([.evLast, .sent, .hosts, .disp, .later, .links, .ctx, .adc, .chg, .hpn, .fam O.lpeStatus 64, .fam O.lpeTrState 4, .fam O.lpeTrCount 4, .one O.chgState, .one O.chgInput, .one O.chgFlags, .one O.chgCause, .one O.chgCpDuty, .one O.chgIPilot, .one O.chgIInLim, .one O.chgPIn] : List Part) ⊆ l) : Keeps l s (@State.pilotEdge a0 a1 a2) := by
  unfold State.pilotEdge
  repeat' first
    | with_reducible assumption
    | (intro x; have hx : Keeps l s x := ?_; clear_value x)
    | with_reducible refine Keeps.ite ?_ ?_
    | (with_reducible refine State.modPilot_keeps ?_ (List.Subset.trans ?_ hl); rotate_right; decide +kernel)
    | (with_reducible refine State.injAsk_keeps ?_ (List.Subset.trans ?_ hl); rotate_right; decide +kernel)
    | (with_reducible refine State.dutyAccept_keeps ?_ (List.Subset.trans ?_ hl); rotate_right; decide +kernel)
    | intro x
    | lift_lets
    | split

theorem pinReset_keeps {l : List Part} {s : State} {a0 : State} (h : Keeps l s a0)
    (hl : ([.axt, .flash, .dirty, .free, .evLast, .sent, .follow, .xing, .clk, .hosts, .slots, .disp, .later, .xmem, .forceA, .forceB, .links, .cgs, .trx, .ctx, .tb, .traceReads, .dcl, .ptg, .adc, .pos, .prb, .chg, .aux, .amc, .rpk, .hpn, .sec, .upd, .thm, .bst, .patina, .pwr, .net, .allObjs, .one O.sysClkStatus, .one O.pwrResetCause, .one O.secAttEpoch, .one O.secAttNext, .one O.secIdNext, .fam O.pwmDriveTable 40, .fam O.trxRule 4, .fam O.trxSsState 4, .fam O.lpeUnits 64, .fam O.lpeBankB 64, .fam O.adcStatus 12, .fam O.posAngle 4, .fam O.posCount 4, .fam O.posSpeed 4, .fam O.posStatus 4] : List Part) ⊆ l) : Keeps l s (@State.pinReset a0) := by
  unfold State.pinReset
  repeat' first
    | with_reducible assumption
    | with_reducible refine Keeps.ite ?_ ?_
    | (with_reducible refine State.bootBegin_keeps ?_ (List.Subset.trans ?_ hl); rotate_right; decide +kernel)
    | (with_reducible refine State.resumeAxt_keeps ?_ (List.Subset.trans ?_ hl); rotate_right; decide +kernel)
    | (with_reducible refine State.wholeReset_keeps ?_ (List.Subset.trans ?_ hl); rotate_right; decide +kernel)
    | (with_reducible refine State.noteReset_keeps ?_ (List.Subset.trans ?_ hl); rotate_right; decide +kernel)

theorem pinsUp_keeps {l : List Part} {s : State} {a0 : State} (h : Keeps l s a0)
    (hl : ([.ptg] : List Part) ⊆ l) : Keeps l s (@State.pinsUp a0) := by
  unfold State.pinsUp
  repeat' first
    | with_reducible assumption
    | with_reducible refine Keeps.ite ?_ ?_
    | (with_reducible refine State.setPins_keeps ?_ (List.Subset.trans ?_ hl); rotate_right; decide +kernel)

theorem placeTrs_keeps {l : List Part} {s : State} {a0 : State} {a1 : _} {a2 : _} {a3 : _} (h : Keeps l s a0)
    (hl : ([.sent, .links] : List Part) ⊆ l) : Keeps l s (@State.placeTrs a0 a1 a2 a3) := by
  induction a2 generalizing a3 with
  | zero => simpa only [State.placeTrs] using h
  | succ n ih =>
    simp only [State.placeTrs]
    split
    · exact commitEdges_keeps h (List.Subset.trans (by decide +kernel) hl)
    · split
      · exact ih
      · exact h

theorem planCtx_keeps {l : List Part} {s : State} {a0 : State} {a1 : _} {a2 : _} {a3 : _} {a4 : _} {a5 : _} {a6 : _} (h : Keeps l s a0)
    (hl : ([.ctx] : List Part) ⊆ l) : Keeps l s (@State.planCtx a0 a1 a2 a3 a4 a5 a6) := by
  unfold State.planCtx
  repeat' first
    | with_reducible assumption
    | (with_reducible refine State.modCtx_keeps ?_ (List.Subset.trans ?_ hl); rotate_right; decide +kernel)

theorem planLeg_keeps {l : List Part} {s : State} {a0 : State} {a1 : _} {a2 : _} {a3 : _} {a4 : _} {a5 : _} {a6 : _} (h : Keeps l s a0)
    (hl : ([.sent, .links] : List Part) ⊆ l) : Keeps l s (@State.planLeg a0 a1 a2 a3 a4 a5 a6) := by
  unfold State.planLeg
  repeat' first
    | with_reducible assumption
    | (with_reducible refine State.placeTrs_keeps ?_ (List.Subset.trans ?_ hl); rotate_right; decide +kernel)
    | (with_reducible refine State.pruneEdges_keeps ?_ (List.Subset.trans ?_ hl); rotate_right; decide +kernel)

theorem planOne_keeps {l : List Part} {s : State} {a0 : State} {a1 : _} {a2 : _} {a3 : _} {a4 : _} (h : Keeps l s a0)
    (hl : ([.sent, .links] : List Part) ⊆ l) : KeepsP l s (@State.planOne a0 a1 a2 a3 a4) := by
  unfold State.planOne
  repeat' first
    | with_reducible assumption
    | (intro x; have hx : Keeps l s x := ?_; clear_value x)
    | with_reducible refine KeepsP.ite ?_ ?_
    | with_reducible refine KeepsP.dite ?_ ?_
    | (with_reducible refine State.planLeg_keeps ?_ (List.Subset.trans ?_ hl); rotate_right; decide +kernel)
    | (with_reducible refine State.pruneEdges_keeps ?_ (List.Subset.trans ?_ hl); rotate_right; decide +kernel)
    | intro x
    | lift_lets
    | with_reducible refine KeepsP.mk ?_

theorem planCutoff_keeps {l : List Part} {s : State} {a0 : State} {a1 : _} (h : Keeps l s a0)
    (hl : ([.evLast, .sent, .hosts, .later, .links, .cgs, .ctx, .adc, .hpn, .one O.sysLateFlags] : List Part) ⊆ l) : Keeps l s (@State.planCutoff a0 a1) := by
  unfold State.planCutoff
  repeat' first
    | with_reducible assumption
    | with_reducible exact KeepsP.fst (by with_reducible assumption)
    | with_reducible refine Keeps.ite ?_ ?_
    | (with_reducible refine State.modCg_keeps ?_ (List.Subset.trans ?_ hl); rotate_right; decide +kernel)
    | (with_reducible refine State.planCtx_keeps ?_ (List.Subset.trans ?_ hl); rotate_right; decide +kernel)
    | (with_reducible refine State.raiseLate_keeps ?_ (List.Subset.trans ?_ hl); rotate_right; decide +kernel)
    | (with_reducible refine State.planOne_keeps ?_ (List.Subset.trans ?_ hl); rotate_right; decide +kernel)
    | (with_reducible refine State.chopAsk_keeps ?_ (List.Subset.trans ?_ hl); rotate_right; decide +kernel)
    | with_reducible refine Keeps.foldl ?_ ?_
    | with_reducible refine KeepsP.fst (KeepsP.foldl ?_ ?_)
    | intro x
    | lift_lets
    | with_reducible refine KeepsP.mk ?_

theorem plcaBack_keeps {l : List Part} {s : State} {a0 : State} {a1 : _} (h : Keeps l s a0)
    (hl : ([.evLast, .sent, .hosts, .later, .hpn, .net] : List Part) ⊆ l) : Keeps l s (@State.plcaBack a0 a1) := by
  unfold State.plcaBack
  repeat' first
    | with_reducible assumption
    | with_reducible refine Keeps.ite ?_ ?_
    | (with_reducible refine State.raise_keeps ?_ (List.Subset.trans ?_ hl); rotate_right; decide +kernel)
    | (with_reducible refine State.modNet_keeps ?_ (List.Subset.trans ?_ hl); rotate_right; decide +kernel)

theorem plcaLost_keeps {l : List Part} {s : State} {a0 : State} {a1 : _} (h : Keeps l s a0)
    (hl : ([.evLast, .sent, .hosts, .later, .hpn, .net, .fam O.netEthStatus 4] : List Part) ⊆ l) : Keeps l s (@State.plcaLost a0 a1) := by
  unfold State.plcaLost
  repeat' first
    | with_reducible assumption
    | with_reducible refine Keeps.ite ?_ ?_
    | (with_reducible refine State.raise_keeps ?_ (List.Subset.trans ?_ hl); rotate_right; decide +kernel)
    | (with_reducible refine State.modNet_keeps ?_ (List.Subset.trans ?_ hl); rotate_right; decide +kernel)
    | (with_reducible refine State.orO_keeps ?_ ⟨_, inL hl ?_, O.netEthStatus_has _ ?_⟩; rotate_right; (first | exact Fin.isLt _ | omega | (simp only [List.mem_range] at *; omega)); rotate_right; decide +kernel)

theorem plinthPack_keeps {l : List Part} {s : State} {a0 : State} {a1 : _} (h : Keeps l s a0)
    (hl : ([.axt, .follow, .rpk, .pwr, .one O.pwrState, .one O.pwrTarget, .one O.pwrWakeCause, .one O.rpkPath] : List Part) ⊆ l) : Keeps l s (@State.plinthPack a0 a1) := by
  unfold State.plinthPack
  repeat' first
    | with_reducible assumption
    | with_reducible refine Keeps.ite ?_ ?_
    | (with_reducible refine State.wakeUp_keeps ?_ (List.Subset.trans ?_ hl); rotate_right; decide +kernel)
    | (with_reducible refine State.pathTo_keeps ?_ (List.Subset.trans ?_ hl); rotate_right; decide +kernel)

theorem pllRelock_keeps {l : List Part} {s : State} {a0 : State} {a1 : _} (h : Keeps l s a0)
    (hl : ([.clk, .one O.sysClkStatus] : List Part) ⊆ l) : Keeps l s (@State.pllRelock a0 a1) := by
  unfold State.pllRelock
  repeat' first
    | with_reducible assumption
    | with_reducible refine Keeps.ite ?_ ?_
    | (with_reducible refine State.modClk_keeps ?_ (List.Subset.trans ?_ hl); rotate_right; decide +kernel)
    | (with_reducible refine State.showClk_keeps ?_ (List.Subset.trans ?_ hl); rotate_right; decide +kernel)

theorem pllUnlock_keeps {l : List Part} {s : State} {a0 : State} {a1 : _} (h : Keeps l s a0)
    (hl : ([.free, .evLast, .sent, .clk, .hosts, .slots, .disp, .later, .xmem, .forceA, .forceB, .links, .cgs, .trx, .ctx, .tb, .traceReads, .dcl, .ptg, .adc, .pos, .prb, .chg, .aux, .amc, .hpn, .sec, .upd, .thm, .bst, .pwr, .net, .allObjs, .one O.sysClkStatus, .one O.sysXingDropFlags, .one O.pwrResetCause, .fam O.thmT 72, .one O.secAttEpoch, .one O.secAttNext, .one O.secIdNext, .fam O.pwmDriveTable 40, .fam O.trxState 4, .fam O.trxRule 4, .fam O.trxFault 4, .fam O.trxAngleSrc 4, .fam O.trxSsState 4, .fam O.lpeUnits 64, .fam O.lpeBankB 64, .fam O.lpeStatus 64, .fam O.lpeTrState 4, .fam O.lpeTrCount 4, .fam O.adcStatus 12, .fam O.posAngle 4, .fam O.posCount 4, .fam O.posSpeed 4, .fam O.posStatus 4, .one O.chgState, .one O.chgInput, .one O.chgFlags, .one O.chgCause, .one O.chgIInLim, .one O.chgPIn, .one O.auxState, .one O.auxFlags, .one O.auxCause, .one O.auxPhaseState, .fam O.amcState 6, .fam O.amcSpeed 6, .fam O.amcFlags 6, .fam O.amcFault 6, .one O.amcParkState, .one O.bstState, .one O.bstLast] : List Part) ⊆ l) : Keeps l s (@State.pllUnlock a0 a1) := by
  unfold State.pllUnlock
  repeat' first
    | with_reducible assumption
    | with_reducible refine Keeps.ite ?_ ?_
    | (with_reducible refine State.modClk_keeps ?_ (List.Subset.trans ?_ hl); rotate_right; decide +kernel)
    | (with_reducible refine State.showClk_keeps ?_ (List.Subset.trans ?_ hl); rotate_right; decide +kernel)
    | (with_reducible refine State.lossDeclared_keeps ?_ (List.Subset.trans ?_ hl); rotate_right; decide +kernel)
    | (with_reducible refine State.islandReset_keeps ?_ (List.Subset.trans ?_ hl); rotate_right; decide +kernel)
    | (with_reducible refine State.postMasked_keeps ?_ (List.Subset.trans ?_ hl); rotate_right; decide +kernel)
    | (with_reducible refine State.orO_keeps ?_ ⟨.allObjs, inL hl ?_, allObjs_has _⟩; rotate_right; decide +kernel)

theorem popCmd_keeps {l : List Part} {s : State} {a0 : State} (h : Keeps l s a0)
    (hl : ([.disp] : List Part) ⊆ l) : Keeps l s (@State.popCmd a0) := by
  unfold State.popCmd
  repeat' first
    | with_reducible assumption
    | intro x
    | lift_lets
    | (with_reducible refine Keeps.set_disp ?_ (inL hl ?_); rotate_right; decide +kernel)

theorem portFault_keeps {l : List Part} {s : State} {a0 : State} {a1 : _} (h : Keeps l s a0)
    (hl : ([.evLast, .sent, .hosts, .later, .pos, .hpn] : List Part) ⊆ l) : Keeps l s (@State.portFault a0 a1) := by
  unfold State.portFault
  repeat' first
    | with_reducible assumption
    | (with_reducible refine State.raise_keeps ?_ (List.Subset.trans ?_ hl); rotate_right; decide +kernel)
    | (with_reducible refine State.modPos_keeps ?_ (List.Subset.trans ?_ hl); rotate_right; decide +kernel)
    | split

theorem portRecover_keeps {l : List Part} {s : State} {a0 : State} {a1 : _} (h : Keeps l s a0)
    (hl : ([.evLast, .sent, .hosts, .later, .pos, .hpn] : List Part) ⊆ l) : Keeps l s (@State.portRecover a0 a1) := by
  unfold State.portRecover
  repeat' first
    | with_reducible assumption
    | with_reducible refine Keeps.ite ?_ ?_
    | (with_reducible refine State.raise_keeps ?_ (List.Subset.trans ?_ hl); rotate_right; decide +kernel)
    | (with_reducible refine State.modPos_keeps ?_ (List.Subset.trans ?_ hl); rotate_right; decide +kernel)

theorem portWrite_keeps {l : List Part} {s : State} {a0 : State} {a1 : _} {a2 : _} {a3 : _} {a4 : _} (h : Keeps l s a0)
    (hl : ([.evLast, .sent, .hosts, .slots, .disp, .later, .ctx, .ptg, .adc, .amc, .hpn, .sec, .thm, .one O.sysHostPresent, .one O.sysHostLeaseOwner, .one O.secSession, .one O.logHead, .one O.logChain, .one O.logCount, .one O.logQueued, .fam O.lpeStatus 64, .fam O.amcFlags 6] : List Part) ⊆ l) : Keeps l s (@State.portWrite a0 a1 a2 a3 a4) := by
  unfold State.portWrite
  repeat' first
    | with_reducible assumption
    | with_reducible refine Keeps.ite ?_ ?_
    | (with_reducible refine State.busWrite_keeps ?_ (List.Subset.trans ?_ hl); rotate_right; decide +kernel)

theorem posClear_keeps {l : List Part} {s : State} {a0 : _} {a1 : State} (h : Keeps l s a1)
    (hl : ([.pos] : List Part) ⊆ l) : KeepsP l s (@State.posClear a0 a1) := by
  unfold State.posClear
  repeat' first
    | with_reducible assumption
    | with_reducible refine KeepsP.ite ?_ ?_
    | with_reducible refine KeepsP.dite ?_ ?_
    | (with_reducible refine State.guarded_keeps ?_ ?_ (List.Subset.trans ?_ hl); rotate_right; decide +kernel)
    | (with_reducible refine State.modPos_keeps ?_ (List.Subset.trans ?_ hl); rotate_right; decide +kernel)
    | intro x
    | lift_lets
    | with_reducible refine KeepsP.mk ?_

theorem rdcSample_keeps {l : List Part} {s : State} {a0 : State} {a1 : _} (h : Keeps l s a0)
    (hl : ([.pos] : List Part) ⊆ l) : Keeps l s (@State.rdcSample a0 a1) := by
  unfold State.rdcSample
  repeat' first
    | with_reducible assumption
    | (with_reducible refine State.modPos_keeps ?_ (List.Subset.trans ?_ hl); rotate_right; decide +kernel)

theorem sendPos_keeps {l : List Part} {s : State} {a0 : State} {a1 : _} {a2 : _} (h : Keeps l s a0)
    (hl : ([.sent, .xing, .hosts, .later, .pos, .hpn, .one O.sysXingDropFlags, .fam O.posAngle 4, .fam O.posCount 4, .fam O.posSpeed 4, .fam O.posStatus 4] : List Part) ⊆ l) : Keeps l s (@State.sendPos a0 a1 a2) := by
  unfold State.sendPos
  repeat' first
    | with_reducible assumption
    | (with_reducible refine State.xingSend_keeps ?_ ?_ (List.Subset.trans ?_ hl); rotate_right; decide +kernel)
    | (with_reducible refine State.setO_keeps ?_ ⟨_, inL hl ?_, O.posAngle_has _ ?_⟩; rotate_right; (first | exact Fin.isLt _ | omega | (simp only [List.mem_range] at *; omega)); rotate_right; decide +kernel)
    | (with_reducible refine State.setO_keeps ?_ ⟨_, inL hl ?_, O.posCount_has _ ?_⟩; rotate_right; (first | exact Fin.isLt _ | omega | (simp only [List.mem_range] at *; omega)); rotate_right; decide +kernel)
    | (with_reducible refine State.setO_keeps ?_ ⟨_, inL hl ?_, O.posStatus_has _ ?_⟩; rotate_right; (first | exact Fin.isLt _ | omega | (simp only [List.mem_range] at *; omega)); rotate_right; decide +kernel)
    | (with_reducible refine State.setQ_keeps ?_ ⟨_, inL hl ?_, O.posSpeed_has _ ?_⟩; rotate_right; (first | exact Fin.isLt _ | omega | (simp only [List.mem_range] at *; omega)); rotate_right; decide +kernel)
    | (with_reducible refine State.modPos_keeps ?_ (List.Subset.trans ?_ hl); rotate_right; decide +kernel)
    | intro x

theorem posFire_keeps {l : List Part} {s : State} {a0 : State} {a1 : _} (h : Keeps l s a0)
    (hl : ([.evLast, .sent, .xing, .hosts, .later, .ctx, .pos, .hpn, .one O.sysXingDropFlags, .fam O.posAngle 4, .fam O.posCount 4, .fam O.posSpeed 4, .fam O.posStatus 4] : List Part) ⊆ l) : Keeps l s (@State.posFire a0 a1) := by
  unfold State.posFire
  repeat' first
    | with_reducible assumption
    | with_reducible refine Keeps.ite ?_ ?_
    | (with_reducible refine State.rdcSample_keeps ?_ (List.Subset.trans ?_ hl); rotate_right; decide +kernel)
    | (with_reducible refine State.arrive_keeps ?_ (List.Subset.trans ?_ hl); rotate_right; decide +kernel)
    | (with_reducible refine State.modPos_keeps ?_ (List.Subset.trans ?_ hl); rotate_right; decide +kernel)
    | (with_reducible refine State.sendPos_keeps ?_ (List.Subset.trans ?_ hl); rotate_right; decide +kernel)
    | (with_reducible refine State.portFault_keeps ?_ (List.Subset.trans ?_ hl); rotate_right; decide +kernel)

theorem posProbeArm_keeps {l : List Part} {s : State} {a0 : _} {a1 : State} (h : Keeps l s a1)
    (hl : ([.fam O.posPrbStatus 4] : List Part) ⊆ l) : KeepsP l s (@State.posProbeArm a0 a1) := by
  unfold State.posProbeArm
  refine guarded_keeps h (fun u hu => ?_) (List.Subset.trans (by decide +kernel) hl)
  split
  · exact KeepsP.mk (orO_keeps hu ⟨_, inL hl (by decide +kernel), O.posPrbStatus_has _ ‹_›⟩)
  · exact KeepsP.mk hu

theorem posProbeRead_keeps {l : List Part} {s : State} {a0 : _} {a1 : State} (h : Keeps l s a1)
    (hl : ([.prb, .fam O.posPrbStatus 4] : List Part) ⊆ l) : KeepsP l s (@State.posProbeRead a0 a1) := by
  unfold State.posProbeRead
  repeat' first
    | with_reducible assumption
    | (intro x; have hx : Keeps l s x := ?_; clear_value x)
    | with_reducible refine KeepsP.dite ?_ ?_
    | (with_reducible refine State.guarded_keeps ?_ ?_ (List.Subset.trans ?_ hl); rotate_right; decide +kernel)
    | (with_reducible refine State.clrO_keeps ?_ ⟨_, inL hl ?_, O.posPrbStatus_has _ ?_⟩; rotate_right; (first | exact Fin.isLt _ | omega | (simp only [List.mem_range] at *; omega)); rotate_right; decide +kernel)
    | intro x
    | lift_lets
    | with_reducible refine KeepsP.mk ?_
    | (with_reducible refine Keeps.set_prb ?_ (inL hl ?_); rotate_right; decide +kernel)

theorem posSample_keeps {l : List Part} {s : State} {a0 : State} {a1 : _} (h : Keeps l s a0)
    (hl : ([.evLast, .sent, .xing, .hosts, .later, .ctx, .pos, .hpn, .one O.sysXingDropFlags, .fam O.posAngle 4, .fam O.posCount 4, .fam O.posSpeed 4, .fam O.posStatus 4] : List Part) ⊆ l) : Keeps l s (@State.posSample a0 a1) := by
  unfold State.posSample
  repeat' first
    | with_reducible assumption
    | with_reducible refine Keeps.ite ?_ ?_
    | (with_reducible refine State.posFire_keeps ?_ (List.Subset.trans ?_ hl); rotate_right; decide +kernel)
    | (with_reducible refine State.modPos_keeps ?_ (List.Subset.trans ?_ hl); rotate_right; decide +kernel)
    | lift_lets
    | split

theorem powerTick_keeps {l : List Part} {s : State} {a0 : State} {a1 : _} {a2 : _} (h : Keeps l s a0)
    (hl : ([.evLast, .sent, .hosts, .later, .cgs, .ctx, .rpk, .hpn, .pwr, .one O.pwrState, .one O.pwrTarget, .one O.pwrLimit, .one O.pwrVmain, .one O.pwrVstby, .fam O.lpeStatus 64, .fam O.lpeTrState 4, .fam O.lpeTrCount 4, .one O.rpkState, .one O.bstState] : List Part) ⊆ l) : Keeps l s (@State.powerTick a0 a1 a2) := by
  unfold State.powerTick
  repeat' first
    | with_reducible assumption
    | with_reducible refine Keeps.ite ?_ ?_
    | (with_reducible refine State.powerChoice_keeps ?_ (List.Subset.trans ?_ hl); rotate_right; decide +kernel)
    | (with_reducible refine State.setQ_keeps ?_ ⟨_, inL hl ?_, O.pwrVmain_has⟩; rotate_right; decide +kernel)
    | (with_reducible refine State.setQ_keeps ?_ ⟨_, inL hl ?_, O.pwrVstby_has⟩; rotate_right; decide +kernel)

theorem presetAtCt_keeps {l : List Part} {s : State} {a0 : State} {a1 : _} (h : Keeps l s a0)
    (hl : ([.links, .cgs, .trx, .ctx, .fam O.lpeOut 64, .fam O.lpeInteg 64] : List Part) ⊆ l) : Keeps l s (@State.presetAtCt a0 a1) := by
  unfold State.presetAtCt
  repeat' first
    | with_reducible assumption
    | with_reducible refine Keeps.ite ?_ ?_
    | (with_reducible refine State.modLink_keeps ?_ (List.Subset.trans ?_ hl); rotate_right; decide +kernel)
    | (with_reducible refine State.trxUpdate_keeps ?_ (List.Subset.trans ?_ hl); rotate_right; decide +kernel)
    | (with_reducible refine State.modSet_keeps ?_ (List.Subset.trans ?_ hl); rotate_right; decide +kernel)
    | (with_reducible refine State.modTrx_keeps ?_ (List.Subset.trans ?_ hl); rotate_right; decide +kernel)
    | (with_reducible refine State.presetCtx_keeps ?_ (List.Subset.trans ?_ hl); rotate_right; decide +kernel)
    | (with_reducible refine State.releaseLegs_keeps ?_ (List.Subset.trans ?_ hl); rotate_right; decide +kernel)
    | with_reducible refine Keeps.foldl ?_ ?_
    | intro x

theorem probeLatch_keeps {l : List Part} {s : State} {a0 : State} {a1 : _} {a2 : _} (h : Keeps l s a0)
    (hl : ([.evLast, .sent, .hosts, .later, .prb, .hpn, .fam O.posPrbStatus 4] : List Part) ⊆ l) : Keeps l s (@State.probeLatch a0 a1 a2) := by
  unfold State.probeLatch
  repeat' first
    | with_reducible assumption
    | (with_reducible refine State.setO_keeps ?_ ⟨_, inL hl ?_, O.posPrbStatus_has _ ?_⟩; rotate_right; (first | exact Fin.isLt _ | omega | (simp only [List.mem_range] at *; omega)); rotate_right; decide +kernel)
    | (with_reducible refine State.raise_keeps ?_ (List.Subset.trans ?_ hl); rotate_right; decide +kernel)
    | lift_lets
    | (with_reducible refine Keeps.set_prb ?_ (inL hl ?_); rotate_right; decide +kernel)

theorem probeEdge_keeps {l : List Part} {s : State} {a0 : State} {a1 : _} {a2 : _} (h : Keeps l s a0)
    (hl : ([.evLast, .sent, .hosts, .later, .prb, .hpn, .fam O.posPrbStatus 4] : List Part) ⊆ l) : Keeps l s (@State.probeEdge a0 a1 a2) := by
  unfold State.probeEdge
  repeat' first
    | with_reducible assumption
    | with_reducible refine Keeps.ite ?_ ?_
    | (with_reducible refine State.probeLatch_keeps ?_ (List.Subset.trans ?_ hl); rotate_right; decide +kernel)

theorem ptgClearCmd_keeps {l : List Part} {s : State} {a0 : _} {a1 : State} (h : Keeps l s a1)
    (hl : ([.evLast, .sent, .hosts, .later, .forceA, .forceB, .links, .ptg, .hpn, .one O.sysXingDropFlags, .fam O.trxState 4, .one O.ptgFaultCause] : List Part) ⊆ l) : KeepsP l s (@State.ptgClearCmd a0 a1) := by
  unfold State.ptgClearCmd
  repeat' first
    | with_reducible assumption
    | (with_reducible refine State.applySc_keeps ?_ (List.Subset.trans ?_ hl); rotate_right; decide +kernel)
    | (with_reducible refine State.setO_keeps ?_ ⟨_, inL hl ?_, O.ptgFaultCause_has⟩; rotate_right; decide +kernel)
    | (with_reducible refine State.safeEnds_keeps ?_ (List.Subset.trans ?_ hl); rotate_right; decide +kernel)
    | (with_reducible refine State.guarded_keeps ?_ ?_ (List.Subset.trans ?_ hl); rotate_right; decide +kernel)
    | intro x
    | with_reducible refine KeepsP.mk ?_

theorem ptgJoinCmd_keeps {l : List Part} {s : State} {a0 : _} {a1 : State} (h : Keeps l s a1)
    (hl : ([.disp, .ptg] : List Part) ⊆ l) : KeepsP l s (@State.ptgJoinCmd a0 a1) := by
  unfold State.ptgJoinCmd
  repeat' first
    | with_reducible assumption
    | (with_reducible refine State.guarded_keeps ?_ ?_ (List.Subset.trans ?_ hl); rotate_right; decide +kernel)
    | (with_reducible refine State.hold_keeps ?_ (List.Subset.trans ?_ hl); rotate_right; decide +kernel)
    | (with_reducible refine State.modPtg_keeps ?_ (List.Subset.trans ?_ hl); rotate_right; decide +kernel)
    | intro x
    | with_reducible refine KeepsP.mk ?_

theorem ptgSplitCmd_keeps {l : List Part} {s : State} {a0 : _} {a1 : State} (h : Keeps l s a1)
    (hl : ([.disp, .ptg] : List Part) ⊆ l) : KeepsP l s (@State.ptgSplitCmd a0 a1) := by
  unfold State.ptgSplitCmd
  repeat' first
    | with_reducible assumption
    | (with_reducible refine State.guarded_keeps ?_ ?_ (List.Subset.trans ?_ hl); rotate_right; decide +kernel)
    | (with_reducible refine State.hold_keeps ?_ (List.Subset.trans ?_ hl); rotate_right; decide +kernel)
    | (with_reducible refine State.modPtg_keeps ?_ (List.Subset.trans ?_ hl); rotate_right; decide +kernel)
    | intro x
    | lift_lets
    | with_reducible refine KeepsP.mk ?_

theorem pvLimitExit_keeps {l : List Part} {s : State} {a0 : State} (h : Keeps l s a0)
    (hl : ([.evLast, .sent, .hosts, .later, .chg, .hpn] : List Part) ⊆ l) : Keeps l s (@State.pvLimitExit a0) := by
  unfold State.pvLimitExit
  repeat' first
    | with_reducible assumption
    | with_reducible refine Keeps.ite ?_ ?_
    | (with_reducible refine State.raise_keeps ?_ (List.Subset.trans ?_ hl); rotate_right; decide +kernel)
    | (with_reducible refine State.modChg_keeps ?_ (List.Subset.trans ?_ hl); rotate_right; decide +kernel)

theorem pvSweepEnd_keeps {l : List Part} {s : State} {a0 : State} (h : Keeps l s a0)
    (hl : ([.evLast, .sent, .hosts, .disp, .later, .chg, .hpn, .one O.chgVPvRef] : List Part) ⊆ l) : Keeps l s (@State.pvSweepEnd a0) := by
  unfold State.pvSweepEnd
  repeat' first
    | with_reducible assumption
    | with_reducible refine Keeps.ite ?_ ?_
    | (with_reducible refine State.endAll_keeps ?_ (List.Subset.trans ?_ hl); rotate_right; decide +kernel)
    | (with_reducible refine State.raise_keeps ?_ (List.Subset.trans ?_ hl); rotate_right; decide +kernel)
    | (with_reducible refine State.modChg_keeps ?_ (List.Subset.trans ?_ hl); rotate_right; decide +kernel)
    | (with_reducible refine State.setQ_keeps ?_ ⟨_, inL hl ?_, O.chgVPvRef_has⟩; rotate_right; decide +kernel)

theorem pvSweepStart_keeps {l : List Part} {s : State} {a0 : State} (h : Keeps l s a0)
    (hl : ([.chg] : List Part) ⊆ l) : Keeps l s (@State.pvSweepStart a0) := by
  unfold State.pvSweepStart
  repeat' first
    | with_reducible assumption
    | with_reducible refine Keeps.ite ?_ ?_
    | (with_reducible refine State.modChg_keeps ?_ (List.Subset.trans ?_ hl); rotate_right; decide +kernel)

theorem pvTick_keeps {l : List Part} {s : State} {a0 : State} (h : Keeps l s a0)
    (hl : ([.chg, .one O.chgPIn, .one O.chgVPvRef] : List Part) ⊆ l) : Keeps l s (@State.pvTick a0) := by
  unfold State.pvTick
  repeat' first
    | with_reducible assumption
    | with_reducible refine Keeps.ite ?_ ?_
    | (with_reducible refine State.modChg_keeps ?_ (List.Subset.trans ?_ hl); rotate_right; decide +kernel)
    | (with_reducible refine State.setQ_keeps ?_ ⟨_, inL hl ?_, O.chgPIn_has⟩; rotate_right; decide +kernel)
    | (with_reducible refine State.setQ_keeps ?_ ⟨_, inL hl ?_, O.chgVPvRef_has⟩; rotate_right; decide +kernel)

theorem pwrEndHold_keeps {l : List Part} {s : State} {a0 : _} {a1 : State} (h : Keeps l s a1)
    (hl : ([.evLast, .sent, .hosts, .later, .cgs, .ctx, .rpk, .hpn, .pwr, .one O.pwrState, .one O.pwrTarget, .one O.pwrLimit, .fam O.lpeStatus 64, .fam O.lpeTrState 4, .fam O.lpeTrCount 4, .one O.rpkState, .one O.bstState] : List Part) ⊆ l) : KeepsP l s (@State.pwrEndHold a0 a1) := by
  unfold State.pwrEndHold
  repeat' first
    | with_reducible assumption
    | (with_reducible refine State.holdEnd_keeps ?_ (List.Subset.trans ?_ hl); rotate_right; decide +kernel)
    | (with_reducible refine State.guarded_keeps ?_ ?_ (List.Subset.trans ?_ hl); rotate_right; decide +kernel)
    | intro x
    | with_reducible refine KeepsP.mk ?_

theorem quadChange_keeps {l : List Part} {s : State} {a0 : State} {a1 : _} {a2 : _} {a3 : _} (h : Keeps l s a0)
    (hl : ([.pos, .fam O.posQerr 4] : List Part) ⊆ l) : Keeps l s (@State.quadChange a0 a1 a2 a3) := by
  unfold State.quadChange
  repeat' first
    | with_reducible assumption
    | with_reducible refine Keeps.ite ?_ ?_
    | (with_reducible refine State.countEdge_keeps ?_ (List.Subset.trans ?_ hl); rotate_right; decide +kernel)
    | (with_reducible refine State.modPos_keeps ?_ (List.Subset.trans ?_ hl); rotate_right; decide +kernel)

theorem qualifyEnd_keeps {l : List Part} {s : State} {a0 : State} (h : Keeps l s a0)
    (hl : ([.evLast, .sent, .hosts, .disp, .later, .links, .ctx, .chg, .hpn, .fam O.lpeInputs 64, .fam O.lpeUnits 64, .fam O.lpeOut 64, .fam O.lpeInteg 64, .fam O.lpeStatus 64, .fam O.lpeTrState 4, .fam O.lpeTrCount 4, .one O.chgState, .one O.chgInput, .one O.chgFlags, .one O.chgCause, .one O.chgIInLim, .one O.chgV0, .one O.chgF0, .one O.chgPIn, .one O.chgVPvRef, .one O.chgVOc] : List Part) ⊆ l) : Keeps l s (@State.qualifyEnd a0) := by
  unfold State.qualifyEnd
  repeat' first
    | with_reducible assumption
    | with_reducible refine Keeps.ite ?_ ?_
    | (with_reducible refine State.chgBegin_keeps ?_ (List.Subset.trans ?_ hl); rotate_right; decide +kernel)
    | (with_reducible refine State.setQ_keeps ?_ ⟨_, inL hl ?_, O.chgF0_has⟩; rotate_right; decide +kernel)
    | (with_reducible refine State.setQ_keeps ?_ ⟨_, inL hl ?_, O.chgV0_has⟩; rotate_right; decide +kernel)
    | (with_reducible refine State.setQ_keeps ?_ ⟨_, inL hl ?_, O.chgVOc_has⟩; rotate_right; decide +kernel)
    | (with_reducible refine State.setQ_keeps ?_ ⟨_, inL hl ?_, O.chgVPvRef_has⟩; rotate_right; decide +kernel)
    | (with_reducible refine State.chgStopFor_keeps ?_ (List.Subset.trans ?_ hl); rotate_right; decide +kernel)

theorem rampEnd_keeps {l : List Part} {s : State} {a0 : State} {a1 : _} {a2 : _} (h : Keeps l s a0)
    (hl : ([.evLast, .sent, .hosts, .disp, .later, .trx, .hpn, .fam O.trxSsState 4] : List Part) ⊆ l) : Keeps l s (@State.rampEnd a0 a1 a2) := by
  unfold State.rampEnd
  repeat' first
    | with_reducible assumption
    | (intro x; have hx : Keeps l s x := ?_; clear_value x)
    | with_reducible refine Keeps.ite ?_ ?_
    | (with_reducible refine State.putSetSt_keeps ?_ (List.Subset.trans ?_ hl); rotate_right; decide +kernel)
    | (with_reducible refine State.modSet_keeps ?_ (List.Subset.trans ?_ hl); rotate_right; decide +kernel)
    | (with_reducible refine State.endAll_keeps ?_ (List.Subset.trans ?_ hl); rotate_right; decide +kernel)
    | (with_reducible refine State.raise_keeps ?_ (List.Subset.trans ?_ hl); rotate_right; decide +kernel)
    | lift_lets
    | split

theorem rateRelax_keeps {l : List Part} {s : State} {a0 : State} {a1 : _} (h : Keeps l s a0)
    (hl : ([.thm] : List Part) ⊆ l) : Keeps l s (@State.rateRelax a0 a1) := by
  unfold State.rateRelax
  repeat' first
    | with_reducible assumption
    | with_reducible refine Keeps.ite ?_ ?_
    | (with_reducible refine State.modThm_keeps ?_ (List.Subset.trans ?_ hl); rotate_right; decide +kernel)
    | intro x
    | lift_lets
    | split

theorem rechargeCheck_keeps {l : List Part} {s : State} {a0 : State} (h : Keeps l s a0)
    (hl : ([.evLast, .sent, .hosts, .later, .ctx, .rpk, .hpn, .fam O.lpeStatus 64, .fam O.lpeTrState 4, .fam O.lpeTrCount 4, .one O.rpkState, .one O.rpkEnd, .one O.rpkChgTime] : List Part) ⊆ l) : Keeps l s (@State.rechargeCheck a0) := by
  unfold State.rechargeCheck
  repeat' first
    | with_reducible assumption
    | with_reducible refine Keeps.ite ?_ ?_
    | (with_reducible refine State.rpkAuto_keeps ?_ (List.Subset.trans ?_ hl); rotate_right; decide +kernel)
    | (with_reducible refine State.modRpk_keeps ?_ (List.Subset.trans ?_ hl); rotate_right; decide +kernel)

theorem recover_keeps {l : List Part} {s : State} {a0 : State} (h : Keeps l s a0)
    (hl : ([.evLast, .sent, .clk, .hosts, .later, .forceA, .forceB, .links, .ptg, .hpn, .one O.sysXingDropFlags, .fam O.trxState 4] : List Part) ⊆ l) : Keeps l s (@State.recover a0) := by
  unfold State.recover
  repeat' first
    | with_reducible assumption
    | with_reducible refine Keeps.ite ?_ ?_
    | (with_reducible refine State.applySc_keeps ?_ (List.Subset.trans ?_ hl); rotate_right; decide +kernel)
    | (with_reducible refine State.modClk_keeps ?_ (List.Subset.trans ?_ hl); rotate_right; decide +kernel)
    | (with_reducible refine State.pinsUp_keeps ?_ (List.Subset.trans ?_ hl); rotate_right; decide +kernel)
    | (with_reducible refine State.safeEnds_keeps ?_ (List.Subset.trans ?_ hl); rotate_right; decide +kernel)

theorem refCheck_keeps {l : List Part} {s : State} {a0 : State} {a1 : _} {a2 : _} {a3 : _} (h : Keeps l s a0)
    (hl : ([.evLast, .sent, .hosts, .later, .adc, .hpn] : List Part) ⊆ l) : Keeps l s (@State.refCheck a0 a1 a2 a3) := by
  unfold State.refCheck
  repeat' first
    | with_reducible assumption
    | with_reducible refine Keeps.ite ?_ ?_
    | (with_reducible refine State.raise_keeps ?_ (List.Subset.trans ?_ hl); rotate_right; decide +kernel)
    | (with_reducible refine State.modPair_keeps ?_ (List.Subset.trans ?_ hl); rotate_right; decide +kernel)
    | lift_lets
    | split

theorem refTrim_keeps {l : List Part} {s : State} {a0 : State} {a1 : _} (h : Keeps l s a0)
    (hl : ([.clk] : List Part) ⊆ l) : Keeps l s (@State.refTrim a0 a1) := by
  unfold State.refTrim
  repeat' first
    | with_reducible assumption
    | with_reducible refine Keeps.ite ?_ ?_
    | (with_reducible refine State.modClk_keeps ?_ (List.Subset.trans ?_ hl); rotate_right; decide +kernel)
    | split

theorem refsFromTorque_keeps {l : List Part} {s : State} {a0 : State} {a1 : _} (h : Keeps l s a0)
    (hl : ([.trx, .fam O.trxFlags 4] : List Part) ⊆ l) : Keeps l s (@State.refsFromTorque a0 a1) := by
  unfold State.refsFromTorque
  repeat' first
    | with_reducible assumption
    | with_reducible refine Keeps.ite ?_ ?_
    | (with_reducible refine State.putRefs_keeps ?_ (List.Subset.trans ?_ hl); rotate_right; decide +kernel)
    | (with_reducible refine State.when_keeps ?_ ?_ (List.Subset.trans ?_ hl); rotate_right; decide +kernel)
    | (with_reducible refine State.orO_keeps ?_ ⟨_, inL hl ?_, O.trxFlags_has _ ?_⟩; rotate_right; (first | exact Fin.isLt _ | omega | (simp only [List.mem_range] at *; omega)); rotate_right; decide +kernel)
    | with_reducible refine Keeps.foldl ?_ ?_
    | intro x

theorem regMissed_keeps {l : List Part} {s : State} {a0 : State} {a1 : _} (h : Keeps l s a0)
    (hl : ([.evLast, .sent, .hosts, .disp, .later, .links, .trx, .ctx, .dcl, .ptg, .chg, .aux, .hpn, .one O.sysXingDropFlags, .fam O.thmT 72, .fam O.glkStatus 40, .fam O.trxState 4, .fam O.trxFlags 4, .fam O.trxFault 4, .fam O.trxAngleSrc 4, .fam O.trxSsState 4, .fam O.trxSsLosses 4, .one O.dclFlags, .fam O.lpeStatus 64, .fam O.lpeTrState 4, .fam O.lpeTrCount 4, .one O.chgState, .one O.chgInput, .one O.chgFlags, .one O.chgCause, .one O.chgIInLim, .one O.chgPIn, .one O.auxState, .one O.auxFlags, .one O.auxCause, .one O.auxPhaseState] : List Part) ⊆ l) : Keeps l s (@State.regMissed a0 a1) := by
  unfold State.regMissed
  repeat' first
    | with_reducible assumption
    | with_reducible refine Keeps.ite ?_ ?_
    | (with_reducible refine State.modLink_keeps ?_ (List.Subset.trans ?_ hl); rotate_right; decide +kernel)
    | (with_reducible refine State.linkLoss_keeps ?_ (List.Subset.trans ?_ hl); rotate_right; decide +kernel)
    | (with_reducible refine State.sendLink_keeps ?_ (List.Subset.trans ?_ hl); rotate_right; decide +kernel)
    | split

theorem regNext_keeps {l : List Part} {s : State} {a0 : State} {a1 : _} (h : Keeps l s a0)
    (hl : ([.sent, .links] : List Part) ⊆ l) : Keeps l s (@State.regNext a0 a1) := by
  unfold State.regNext
  repeat' first
    | with_reducible assumption
    | (with_reducible refine State.modLink_keeps ?_ (List.Subset.trans ?_ hl); rotate_right; decide +kernel)
    | (with_reducible refine State.regSend_keeps ?_ (List.Subset.trans ?_ hl); rotate_right; decide +kernel)
    | split

theorem regReply_keeps {l : List Part} {s : State} {a0 : State} {a1 : _} {a2 : _} {a3 : _} (h : Keeps l s a0)
    (hl : ([.sent, .links] : List Part) ⊆ l) : Keeps l s (@State.regReply a0 a1 a2 a3) := by
  unfold State.regReply
  repeat' first
    | with_reducible assumption
    | with_reducible refine Keeps.ite ?_ ?_
    | (with_reducible refine State.modLink_keeps ?_ (List.Subset.trans ?_ hl); rotate_right; decide +kernel)
    | (with_reducible refine State.regNext_keeps ?_ (List.Subset.trans ?_ hl); rotate_right; decide +kernel)
    | intro x
    | split

theorem releaseGroup_keeps {l : List Part} {s : State} {a0 : _} {a1 : State} (h : Keeps l s a1)
    (hl : ([.sent, .hosts, .slots, .disp, .hpn, .one O.sysHostLeaseOwner] : List Part) ⊆ l) : KeepsP l s (@State.releaseGroup a0 a1) := by
  unfold State.releaseGroup
  repeat' first
    | with_reducible assumption
    | (with_reducible refine State.endLease_keeps ?_ (List.Subset.trans ?_ hl); rotate_right; decide +kernel)
    | (with_reducible refine State.guarded_keeps ?_ ?_ (List.Subset.trans ?_ hl); rotate_right; decide +kernel)
    | intro x
    | lift_lets
    | with_reducible refine KeepsP.mk ?_

theorem releaseSc_keeps {l : List Part} {s : State} {a0 : State} (h : Keeps l s a0)
    (hl : ([.sent, .forceA, .forceB, .links] : List Part) ⊆ l) : Keeps l s (@State.releaseSc a0) := by
  unfold State.releaseSc
  repeat' first
    | with_reducible assumption
    | with_reducible refine Keeps.ite ?_ ?_
    | (with_reducible refine State.applySc_keeps ?_ (List.Subset.trans ?_ hl); rotate_right; decide +kernel)

theorem resolverPeriod_keeps {l : List Part} {s : State} {a0 : State} {a1 : _} {a2 : _} {a3 : _} (h : Keeps l s a0)
    (hl : ([.pos] : List Part) ⊆ l) : Keeps l s (@State.resolverPeriod a0 a1 a2 a3) := by
  unfold State.resolverPeriod
  repeat' first
    | with_reducible assumption
    | with_reducible refine Keeps.ite ?_ ?_
    | (with_reducible refine State.portCrit_keeps ?_ (List.Subset.trans ?_ hl); rotate_right; decide +kernel)
    | (with_reducible refine State.modPos_keeps ?_ (List.Subset.trans ?_ hl); rotate_right; decide +kernel)

theorem restartBegin_keeps {l : List Part} {s : State} {a0 : State} {a1 : _} {a2 : _} (h : Keeps l s a0)
    (hl : ([.evLast, .sent, .hosts, .disp, .later, .forceA, .forceB, .links, .hpn, .upd, .net, .one O.updBusy, .fam O.updState 6] : List Part) ⊆ l) : Keeps l s (@State.restartBegin a0 a1 a2) := by
  unfold State.restartBegin
  repeat' first
    | with_reducible assumption
    | (intro x; have hx : Keeps l s x := ?_; clear_value x)
    | with_reducible refine Keeps.ite ?_ ?_
    | (with_reducible refine State.applySc_keeps ?_ (List.Subset.trans ?_ hl); rotate_right; decide +kernel)
    | (with_reducible refine State.setO_keeps ?_ ⟨_, inL hl ?_, O.updBusy_has⟩; rotate_right; decide +kernel)
    | (with_reducible refine State.setO_keeps ?_ ⟨_, inL hl ?_, O.updState_has _ ?_⟩; rotate_right; (first | exact Fin.isLt _ | omega | (simp only [List.mem_range] at *; omega)); rotate_right; decide +kernel)
    | (with_reducible refine State.postAll_keeps ?_ (List.Subset.trans ?_ hl); rotate_right; decide +kernel)
    | (with_reducible refine State.modDisp_keeps ?_ (List.Subset.trans ?_ hl); rotate_right; decide +kernel)
    | (with_reducible refine State.modUpd_keeps ?_ (List.Subset.trans ?_ hl); rotate_right; decide +kernel)
    | (with_reducible refine State.updEvent_keeps ?_ (List.Subset.trans ?_ hl); rotate_right; decide +kernel)
    | (with_reducible refine State.modNet_keeps ?_ (List.Subset.trans ?_ hl); rotate_right; decide +kernel)
    | lift_lets
    | split

theorem rpkCharge_keeps {l : List Part} {s : State} {a0 : _} {a1 : State} (h : Keeps l s a1)
    (hl : ([.evLast, .sent, .hosts, .later, .ctx, .rpk, .hpn, .fam O.lpeStatus 64, .fam O.lpeTrState 4, .fam O.lpeTrCount 4, .one O.rpkState, .one O.rpkEnd, .one O.rpkChgTime] : List Part) ⊆ l) : KeepsP l s (@State.rpkCharge a0 a1) := by
  unfold State.rpkCharge
  repeat' first
    | with_reducible assumption
    | with_reducible refine KeepsP.ite ?_ ?_
    | (with_reducible refine State.rpkTo_keeps ?_ (List.Subset.trans ?_ hl); rotate_right; decide +kernel)
    | (with_reducible refine State.guarded_keeps ?_ ?_ (List.Subset.trans ?_ hl); rotate_right; decide +kernel)
    | (with_reducible refine State.rpkStart_keeps ?_ (List.Subset.trans ?_ hl); rotate_right; decide +kernel)
    | intro x
    | with_reducible refine KeepsP.mk ?_

theorem rpkLateEnd_keeps {l : List Part} {s : State} {a0 : State} (h : Keeps l s a0)
    (hl : ([.evLast, .sent, .hosts, .later, .ctx, .rpk, .hpn, .fam O.lpeStatus 64, .fam O.lpeTrState 4, .fam O.lpeTrCount 4, .one O.rpkState] : List Part) ⊆ l) : Keeps l s (@State.rpkLateEnd a0) := by
  unfold State.rpkLateEnd
  repeat' first
    | with_reducible assumption
    | with_reducible refine Keeps.ite ?_ ?_
    | (with_reducible refine State.rpkTryResume_keeps ?_ (List.Subset.trans ?_ hl); rotate_right; decide +kernel)
    | (with_reducible refine State.modRpk_keeps ?_ (List.Subset.trans ?_ hl); rotate_right; decide +kernel)
    | split

theorem rpkResume_keeps {l : List Part} {s : State} {a0 : State} (h : Keeps l s a0)
    (hl : ([.evLast, .sent, .hosts, .later, .ctx, .rpk, .hpn, .fam O.lpeStatus 64, .fam O.lpeTrState 4, .fam O.lpeTrCount 4, .one O.rpkState] : List Part) ⊆ l) : Keeps l s (@State.rpkResume a0) := by
  unfold State.rpkResume
  repeat' first
    | with_reducible assumption
    | with_reducible refine Keeps.ite ?_ ?_
    | (with_reducible refine State.rpkTryResume_keeps ?_ (List.Subset.trans ?_ hl); rotate_right; decide +kernel)
    | (with_reducible refine State.modRpk_keeps ?_ (List.Subset.trans ?_ hl); rotate_right; decide +kernel)
    | split

theorem runCmd_keeps {l : List Part} {s : State} {a0 : State} {a1 : _} {a2 : _} (h : Keeps l s a0) (hf : ∀ c u, Keeps l s u → KeepsP l s (a2 c u))
    (hl : ([.sent, .hosts, .slots, .disp, .hpn, .thm] : List Part) ⊆ l) : Keeps l s (@State.runCmd a0 a1 a2) := by
  unfold State.runCmd
  repeat' first
    | with_reducible assumption
    | with_reducible refine KeepsP.fst (hf _ _ ?_)
    | (with_reducible refine State.popCmd_keeps ?_ (List.Subset.trans ?_ hl); rotate_right; decide +kernel)
    | (with_reducible refine State.respond_keeps ?_ (List.Subset.trans ?_ hl); rotate_right; decide +kernel)
    | split

theorem rxTimeout_keeps {l : List Part} {s : State} {a0 : State} {a1 : _} (h : Keeps l s a0)
    (hl : ([.evLast, .sent, .hosts, .later, .hpn, .net, .one O.netFlags, .one O.netRxTimeouts] : List Part) ⊆ l) : Keeps l s (@State.rxTimeout a0 a1) := by
  unfold State.rxTimeout
  repeat' first
    | with_reducible assumption
    | with_reducible refine Keeps.ite ?_ ?_
    | (with_reducible refine State.incSat_keeps ?_ ⟨_, inL hl ?_, O.netRxTimeouts_has⟩; rotate_right; decide +kernel)
    | (with_reducible refine State.raise_keeps ?_ (List.Subset.trans ?_ hl); rotate_right; decide +kernel)
    | (with_reducible refine State.modNet_keeps ?_ (List.Subset.trans ?_ hl); rotate_right; decide +kernel)
    | (with_reducible refine State.orO_keeps ?_ ⟨_, inL hl ?_, O.netFlags_has⟩; rotate_right; decide +kernel)

theorem safetyLapse_keeps {l : List Part} {s : State} {a0 : State} {a1 : _} (h : Keeps l s a0)
    (hl : ([.free, .evLast, .sent, .hosts, .slots, .disp, .later, .forceA, .forceB, .links, .trx, .ctx, .dcl, .ptg, .adc, .chg, .aux, .amc, .rpk, .hpn, .one O.sysXingDropFlags, .one O.sysHostPresent, .one O.sysHostLeaseOwner, .one O.sysHostOverride, .fam O.trxState 4, .fam O.trxFault 4, .fam O.trxAngleSrc 4, .fam O.lpeStatus 64, .fam O.lpeTrState 4, .fam O.lpeTrCount 4, .one O.chgState, .one O.chgInput, .one O.chgFlags, .one O.chgCause, .one O.chgIInLim, .one O.chgPIn, .one O.auxState, .one O.auxFlags, .one O.auxCause, .one O.auxPhaseState, .fam O.amcState 6, .fam O.amcSpeed 6, .fam O.amcFlags 6, .fam O.amcFault 6, .one O.amcParkState, .one O.rpkState] : List Part) ⊆ l) : Keeps l s (@State.safetyLapse a0 a1) := by
  unfold State.safetyLapse
  repeat' first
    | with_reducible assumption
    | with_reducible refine Keeps.ite ?_ ?_
    | (with_reducible refine State.leaseLapse_keeps ?_ (List.Subset.trans ?_ hl); rotate_right; decide +kernel)
    | (with_reducible refine State.overApply_keeps ?_ (List.Subset.trans ?_ hl); rotate_right; decide +kernel)
    | (with_reducible refine State.postActive_keeps ?_ (List.Subset.trans ?_ hl); rotate_right; decide +kernel)
    | (with_reducible refine State.modDisp_keeps ?_ (List.Subset.trans ?_ hl); rotate_right; decide +kernel)
    | (with_reducible refine State.modHost_keeps ?_ (List.Subset.trans ?_ hl); rotate_right; decide +kernel)
    | with_reducible refine Keeps.foldl ?_ ?_
    | intro x

theorem safetyOverride_keeps {l : List Part} {s : State} {a0 : _} {a1 : State} (h : Keeps l s a1)
    (hl : ([.free, .evLast, .sent, .hosts, .slots, .disp, .later, .forceA, .forceB, .links, .trx, .ctx, .dcl, .ptg, .adc, .chg, .aux, .amc, .rpk, .hpn, .one O.sysXingDropFlags, .one O.sysHostLeaseOwner, .one O.sysHostOverride, .fam O.trxState 4, .fam O.trxFault 4, .fam O.trxAngleSrc 4, .fam O.lpeStatus 64, .fam O.lpeTrState 4, .fam O.lpeTrCount 4, .one O.chgState, .one O.chgInput, .one O.chgFlags, .one O.chgCause, .one O.chgIInLim, .one O.chgPIn, .one O.auxState, .one O.auxFlags, .one O.auxCause, .one O.auxPhaseState, .fam O.amcState 6, .fam O.amcSpeed 6, .fam O.amcFlags 6, .fam O.amcFault 6, .one O.amcParkState, .one O.rpkState] : List Part) ⊆ l) : KeepsP l s (@State.safetyOverride a0 a1) := by
  unfold State.safetyOverride
  repeat' first
    | with_reducible assumption
    | (with_reducible refine State.overApply_keeps ?_ (List.Subset.trans ?_ hl); rotate_right; decide +kernel)
    | (with_reducible refine State.guarded_keeps ?_ ?_ (List.Subset.trans ?_ hl); rotate_right; decide +kernel)
    | intro x
    | lift_lets
    | with_reducible refine KeepsP.mk ?_

theorem sampleHooks_keeps {l : List Part} {s : State} {a0 : State} {a1 : _} (h : Keeps l s a0)
    (hl : ([.evLast, .sent, .hosts, .disp, .later, .links, .ctx, .chg, .aux, .amc, .hpn, .fam O.lpeStatus 64, .fam O.lpeTrState 4, .fam O.lpeTrCount 4, .one O.chgFlags, .one O.auxState, .one O.auxFlags, .one O.auxVRef, .one O.auxPhaseState, .fam O.amcSpeedReq 6, .fam O.amcState 6, .fam O.amcSpeed 6, .fam O.amcFlags 6, .fam O.amcFault 6, .one O.amcParkState] : List Part) ⊆ l) : Keeps l s (@State.sampleHooks a0 a1) := by
  unfold State.sampleHooks
  repeat' first
    | with_reducible assumption
    | with_reducible refine Keeps.ite ?_ ?_
    | with_reducible refine Keeps.dite ?_ ?_
    | (with_reducible refine State.amcSample_keeps ?_ (List.Subset.trans ?_ hl); rotate_right; decide +kernel)
    | (with_reducible refine State.auxSample_keeps ?_ (List.Subset.trans ?_ hl); rotate_right; decide +kernel)
    | (with_reducible refine State.chgCtxSample_keeps ?_ (List.Subset.trans ?_ hl); rotate_right; decide +kernel)
    | intro x

theorem sensorTake_keeps {l : List Part} {s : State} {a0 : State} {a1 : _} {a2 : _} (h : Keeps l s a0)
    (hl : ([.evLast, .sent, .hosts, .later, .hpn, .thm, .one O.thmFlags, .fam O.thmT 72] : List Part) ⊆ l) : Keeps l s (@State.sensorTake a0 a1 a2) := by
  unfold State.sensorTake
  repeat' first
    | with_reducible assumption
    | with_reducible refine Keeps.ite ?_ ?_
    | (with_reducible refine State.modThm_keeps ?_ (List.Subset.trans ?_ hl); rotate_right; decide +kernel)
    | (with_reducible refine State.setO_keeps ?_ ⟨_, inL hl ?_, O.thmT_has _ ?_⟩; rotate_right; (first | exact Fin.isLt _ | omega | (simp only [List.mem_range] at *; omega)); rotate_right; decide +kernel)
    | (with_reducible refine State.raise_keeps ?_ (List.Subset.trans ?_ hl); rotate_right; decide +kernel)
    | (with_reducible refine State.setQ_keeps ?_ ⟨_, inL hl ?_, O.thmT_has _ ?_⟩; rotate_right; (first | exact Fin.isLt _ | omega | (simp only [List.mem_range] at *; omega)); rotate_right; decide +kernel)
    | (with_reducible refine State.orO_keeps ?_ ⟨_, inL hl ?_, O.thmFlags_has⟩; rotate_right; decide +kernel)

theorem sampleTake_keeps {l : List Part} {s : State} {a0 : State} {a1 : _} {a2 : _} (h : Keeps l s a0)
    (hl : ([.evLast, .sent, .hosts, .disp, .later, .forceA, .forceB, .links, .trx, .ctx, .ptg, .adc, .chg, .aux, .amc, .hpn, .thm, .bst, .pwr, .one O.sysXingDropFlags, .one O.thmState, .one O.thmFlags, .one O.thmJunction, .one O.thmTripLatch, .fam O.thmT 72, .fam O.trxState 4, .fam O.trxFault 4, .fam O.trxAngleSrc 4, .fam O.lpeStatus 64, .fam O.lpeTrState 4, .fam O.lpeTrCount 4, .fam O.adcStatus 12, .one O.chgState, .one O.chgInput, .one O.chgFlags, .one O.chgCause, .one O.chgIInLim, .one O.chgPIn, .one O.auxState, .one O.auxFlags, .one O.auxCause, .one O.auxPhaseState, .fam O.amcState 6, .fam O.amcSpeed 6, .fam O.amcFlags 6, .fam O.amcFault 6, .one O.amcParkState, .one O.bstState, .one O.bstLast] : List Part) ⊆ l) : Keeps l s (@State.sampleTake a0 a1 a2) := by
  unfold State.sampleTake
  repeat' first
    | with_reducible assumption
    | (intro x; have hx : Keeps l s x := ?_; clear_value x)
    | with_reducible refine Keeps.ite ?_ ?_
    | (with_reducible refine State.thermalTrip_keeps ?_ (List.Subset.trans ?_ hl); rotate_right; decide +kernel)
    | (with_reducible refine State.setQ_keeps ?_ ⟨_, inL hl ?_, O.thmJunction_has⟩; rotate_right; decide +kernel)
    | (with_reducible refine State.sensorTake_keeps ?_ (List.Subset.trans ?_ hl); rotate_right; decide +kernel)
    | (with_reducible refine State.clrO_keeps ?_ ⟨_, inL hl ?_, O.thmFlags_has⟩; rotate_right; decide +kernel)
    | (with_reducible refine State.levelTo_keeps ?_ (List.Subset.trans ?_ hl); rotate_right; decide +kernel)
    | (with_reducible refine State.orO_keeps ?_ ⟨_, inL hl ?_, O.thmFlags_has⟩; rotate_right; decide +kernel)
    | lift_lets
    | split

theorem samplingTrigger_keeps {l : List Part} {s : State} {a0 : State} {a1 : _} (h : Keeps l s a0)
    (hl : ([.evLast, .sent, .hosts, .slots, .disp, .later, .adc, .hpn, .thm, .one O.sysLateFlags, .fam O.adcStatus 12, .fam O.adcAbandons 12, .fam O.adcInjFree 12, .one O.adcCalResult] : List Part) ⊆ l) : Keeps l s (@State.samplingTrigger a0 a1) := by
  unfold State.samplingTrigger
  repeat' first
    | with_reducible assumption
    | with_reducible refine Keeps.ite ?_ ?_
    | (with_reducible refine State.modConv_keeps ?_ (List.Subset.trans ?_ hl); rotate_right; decide +kernel)
    | (with_reducible refine State.adcLate_keeps ?_ (List.Subset.trans ?_ hl); rotate_right; decide +kernel)
    | (with_reducible refine State.adcFire_keeps ?_ (List.Subset.trans ?_ hl); rotate_right; decide +kernel)
    | (with_reducible refine State.coverStep_keeps ?_ (List.Subset.trans ?_ hl); rotate_right; decide +kernel)
    | (with_reducible refine State.orO_keeps ?_ ⟨_, inL hl ?_, O.adcStatus_has _ ?_⟩; rotate_right; (first | exact Fin.isLt _ | omega | (simp only [List.mem_range] at *; omega)); rotate_right; decide +kernel)
    | lift_lets
    | split

theorem scImageJoined_keeps {l : List Part} {s : State} {a0 : State} (h : Keeps l s a0)
    (hl : ([.evLast, .sent, .hosts, .later, .ptg, .hpn, .upd, .one O.updIl, .one O.updBusy, .fam O.updRunning 6, .fam O.updSpare 6, .fam O.updState 6] : List Part) ⊆ l) : Keeps l s (@State.scImageJoined a0) := by
  unfold State.scImageJoined
  repeat' first
    | with_reducible assumption
    | with_reducible refine Keeps.ite ?_ ?_
    | (with_reducible refine State.trialBegin_keeps ?_ (List.Subset.trans ?_ hl); rotate_right; decide +kernel)
    | (with_reducible refine State.trialBack_keeps ?_ (List.Subset.trans ?_ hl); rotate_right; decide +kernel)
    | intro x
    | lift_lets
    | (with_reducible refine Keeps.set_ptg ?_ (inL hl ?_); rotate_right; decide +kernel)

theorem searchFinish_keeps {l : List Part} {s : State} {a0 : State} {a1 : _} {a2 : _} (h : Keeps l s a0)
    (hl : ([.evLast, .sent, .hosts, .disp, .later, .links, .ctx, .chg, .hpn, .fam O.lpeStatus 64, .fam O.lpeTrState 4, .fam O.lpeTrCount 4, .one O.chgState, .one O.chgInput, .one O.chgFlags, .one O.chgCause, .one O.chgIInLim, .one O.chgPIn] : List Part) ⊆ l) : Keeps l s (@State.searchFinish a0 a1 a2) := by
  unfold State.searchFinish
  repeat' first
    | with_reducible assumption
    | with_reducible refine Keeps.ite ?_ ?_
    | (with_reducible refine State.endAll_keeps ?_ (List.Subset.trans ?_ hl); rotate_right; decide +kernel)
    | (with_reducible refine State.chgCharging_keeps ?_ (List.Subset.trans ?_ hl); rotate_right; decide +kernel)
    | (with_reducible refine State.raise_keeps ?_ (List.Subset.trans ?_ hl); rotate_right; decide +kernel)
    | (with_reducible refine State.modChg_keeps ?_ (List.Subset.trans ?_ hl); rotate_right; decide +kernel)
    | (with_reducible refine State.setQ_keeps ?_ ⟨_, inL hl ?_, O.chgIInLim_has⟩; rotate_right; decide +kernel)
    | (with_reducible refine State.chgStopFor_keeps ?_ (List.Subset.trans ?_ hl); rotate_right; decide +kernel)

theorem searchStepEnd_keeps {l : List Part} {s : State} {a0 : State} (h : Keeps l s a0)
    (hl : ([.evLast, .sent, .hosts, .disp, .later, .links, .ctx, .chg, .hpn, .fam O.lpeStatus 64, .fam O.lpeTrState 4, .fam O.lpeTrCount 4, .one O.chgState, .one O.chgInput, .one O.chgFlags, .one O.chgCause, .one O.chgIInLim, .one O.chgPIn] : List Part) ⊆ l) : Keeps l s (@State.searchStepEnd a0) := by
  unfold State.searchStepEnd
  repeat' first
    | with_reducible assumption
    | with_reducible refine Keeps.ite ?_ ?_
    | (with_reducible refine State.searchFinish_keeps ?_ (List.Subset.trans ?_ hl); rotate_right; decide +kernel)
    | (with_reducible refine State.modChg_keeps ?_ (List.Subset.trans ?_ hl); rotate_right; decide +kernel)
    | intro x
    | lift_lets
    | split

theorem secAttest_keeps {l : List Part} {s : State} {a0 : _} {a1 : State} (h : Keeps l s a1)
    (hl : ([.disp, .sec] : List Part) ⊆ l) : KeepsP l s (@State.secAttest a0 a1) := by
  unfold State.secAttest
  repeat' first
    | with_reducible assumption
    | (with_reducible refine State.modSec_keeps ?_ (List.Subset.trans ?_ hl); rotate_right; decide +kernel)
    | (with_reducible refine State.guarded_keeps ?_ ?_ (List.Subset.trans ?_ hl); rotate_right; decide +kernel)
    | (with_reducible refine State.hold_keeps ?_ (List.Subset.trans ?_ hl); rotate_right; decide +kernel)
    | intro x
    | with_reducible refine KeepsP.mk ?_

theorem secGetCert_keeps {l : List Part} {s : State} {a0 : _} {a1 : State} (h : Keeps l s a1)
    (hl : ([] : List Part) ⊆ l) : KeepsP l s (@State.secGetCert a0 a1) := by
  unfold State.secGetCert
  repeat' first
    | with_reducible assumption
    | (with_reducible refine State.guarded_keeps ?_ ?_ (List.Subset.trans ?_ hl); rotate_right; decide +kernel)
    | intro x
    | lift_lets
    | with_reducible refine KeepsP.mk ?_

theorem secLcStep_keeps {l : List Part} {s : State} {a0 : _} {a1 : State} (h : Keeps l s a1)
    (hl : ([.free, .evLast, .sent, .hosts, .disp, .later, .hpn, .sec, .thm, .one O.secSession, .one O.logHead, .one O.logChain, .one O.logCount, .one O.logQueued, .fam O.memStatus 4, .one O.memWipeCause] : List Part) ⊆ l) : KeepsP l s (@State.secLcStep a0 a1) := by
  unfold State.secLcStep
  repeat' first
    | with_reducible assumption
    | (intro x; have hx : Keeps l s x := ?_; clear_value x)
    | (with_reducible refine State.mordantWipe_keeps ?_ (List.Subset.trans ?_ hl); rotate_right; decide +kernel)
    | (with_reducible refine State.modSec_keeps ?_ (List.Subset.trans ?_ hl); rotate_right; decide +kernel)
    | (with_reducible refine State.guarded_keeps ?_ ?_ (List.Subset.trans ?_ hl); rotate_right; decide +kernel)
    | (with_reducible refine State.audit_keeps ?_ (List.Subset.trans ?_ hl); rotate_right; decide +kernel)
    | (with_reducible refine State.hold_keeps ?_ (List.Subset.trans ?_ hl); rotate_right; decide +kernel)
    | (with_reducible refine State.endSession_keeps ?_ (List.Subset.trans ?_ hl); rotate_right; decide +kernel)
    | with_reducible refine Keeps.foldl ?_ ?_
    | intro x
    | lift_lets
    | with_reducible refine KeepsP.mk ?_

theorem secMakerKey_keeps {l : List Part} {s : State} {a0 : _} {a1 : State} (h : Keeps l s a1)
    (hl : ([.evLast, .sent, .hosts, .later, .hpn, .sec, .thm, .one O.logHead, .one O.logChain, .one O.logCount, .one O.logQueued] : List Part) ⊆ l) : KeepsP l s (@State.secMakerKey a0 a1) := by
  unfold State.secMakerKey
  repeat' first
    | with_reducible assumption
    | (with_reducible refine State.modSec_keeps ?_ (List.Subset.trans ?_ hl); rotate_right; decide +kernel)
    | (with_reducible refine State.guarded_keeps ?_ ?_ (List.Subset.trans ?_ hl); rotate_right; decide +kernel)
    | (with_reducible refine State.audit_keeps ?_ (List.Subset.trans ?_ hl); rotate_right; decide +kernel)
    | intro x
    | with_reducible refine KeepsP.mk ?_

theorem sendRun_keeps {l : List Part} {s : State} {a0 : State} {a1 : _} {a2 : _} {a3 : _} {a4 : _} (h : Keeps l s a0)
    (hl : ([.sent, .links] : List Part) ⊆ l) : Keeps l s (@State.sendRun a0 a1 a2 a3 a4) := by
  unfold State.sendRun
  repeat' first
    | with_reducible assumption
    | (with_reducible refine State.putFrame_keeps ?_ (List.Subset.trans ?_ hl); rotate_right; decide +kernel)
    | with_reducible refine Keeps.foldl ?_ ?_
    | intro x

theorem sentFrame_keeps {l : List Part} {s : State} {a0 : State} {a1 : _} {a2 : _} {a3 : _} {a4 : _} {a5 : _} {a6 : _} (h : Keeps l s a0)
    (hl : ([.pos, .fam O.posSlow 4] : List Part) ⊆ l) : Keeps l s (@State.sentFrame a0 a1 a2 a3 a4 a5 a6) := by
  unfold State.sentFrame
  repeat' first
    | with_reducible assumption
    | (intro x; have hx : Keeps l s x := ?_; clear_value x)
    | with_reducible refine Keeps.ite ?_ ?_
    | (with_reducible refine State.frameBad_keeps ?_ (List.Subset.trans ?_ hl); rotate_right; decide +kernel)
    | (with_reducible refine State.setO_keeps ?_ ⟨_, inL hl ?_, O.posSlow_has _ ?_⟩; rotate_right; (first | exact Fin.isLt _ | omega | (simp only [List.mem_range] at *; omega)); rotate_right; decide +kernel)
    | (with_reducible refine State.frameGood_keeps ?_ (List.Subset.trans ?_ hl); rotate_right; decide +kernel)
    | (with_reducible refine State.modPos_keeps ?_ (List.Subset.trans ?_ hl); rotate_right; decide +kernel)
    | intro x
    | lift_lets
    | split

theorem sentStale_keeps {l : List Part} {s : State} {a0 : State} {a1 : _} (h : Keeps l s a0)
    (hl : ([.pos] : List Part) ⊆ l) : Keeps l s (@State.sentStale a0 a1) := by
  unfold State.sentStale
  repeat' first
    | with_reducible assumption
    | with_reducible refine Keeps.ite ?_ ?_
    | (with_reducible refine State.portCrit_keeps ?_ (List.Subset.trans ?_ hl); rotate_right; decide +kernel)
    | (with_reducible refine State.modPos_keeps ?_ (List.Subset.trans ?_ hl); rotate_right; decide +kernel)

theorem sessionClose_keeps {l : List Part} {s : State} {a0 : _} {a1 : State} (h : Keeps l s a1)
    (hl : ([.evLast, .sent, .hosts, .later, .hpn, .sec, .thm, .one O.secSession, .one O.logHead, .one O.logChain, .one O.logCount, .one O.logQueued] : List Part) ⊆ l) : KeepsP l s (@State.sessionClose a0 a1) := by
  unfold State.sessionClose
  repeat' first
    | with_reducible assumption
    | (with_reducible refine State.guarded_keeps ?_ ?_ (List.Subset.trans ?_ hl); rotate_right; decide +kernel)
    | (with_reducible refine State.endSession_keeps ?_ (List.Subset.trans ?_ hl); rotate_right; decide +kernel)
    | intro x
    | with_reducible refine KeepsP.mk ?_

theorem sessionOpen_keeps {l : List Part} {s : State} {a0 : _} {a1 : State} (h : Keeps l s a1)
    (hl : ([.evLast, .sent, .hosts, .disp, .later, .hpn, .sec, .thm, .one O.secSession, .one O.logHead, .one O.logChain, .one O.logCount, .one O.logQueued] : List Part) ⊆ l) : KeepsP l s (@State.sessionOpen a0 a1) := by
  unfold State.sessionOpen
  repeat' first
    | with_reducible assumption
    | with_reducible refine KeepsP.ite ?_ ?_
    | (with_reducible refine State.openSession_keeps ?_ (List.Subset.trans ?_ hl); rotate_right; decide +kernel)
    | (with_reducible refine State.modSec_keeps ?_ (List.Subset.trans ?_ hl); rotate_right; decide +kernel)
    | (with_reducible refine State.guarded_keeps ?_ ?_ (List.Subset.trans ?_ hl); rotate_right; decide +kernel)
    | (with_reducible refine State.hold_keeps ?_ (List.Subset.trans ?_ hl); rotate_right; decide +kernel)
    | intro x
    | lift_lets
    | with_reducible refine KeepsP.mk ?_

theorem writeL_keeps {l : List Part} {s : State} {a0 : State} {a1 : _} {a2 : _} (h : Keeps l s a0)
    (hl : ([.dirty, .evLast, .sent, .hosts, .disp, .later, .forceA, .forceB, .links, .trx, .ctx, .dcl, .ptg, .adc, .pos, .chg, .aux, .amc, .rpk, .hpn, .sec, .thm, .net, .allObjs, .one O.sysXingDropFlags, .one O.sysLateFlags, .fam O.thmT 72, .one O.logHead, .one O.logChain, .one O.logCount, .one O.logQueued, .one O.netSessions, .one O.netCycSkipped, .fam O.netCanAddr 4, .fam O.netCanStatus 4, .fam O.netEthStatus 4, .fam O.trxSpeedReq 4, .fam O.trxState 4, .fam O.trxRule 4, .fam O.trxAngleSrc 4, .fam O.trxSsState 4, .one O.dclState, .one O.dclVLink, .one O.dclVBat, .fam O.lpeUnits 64, .fam O.lpeStatus 64, .fam O.lpeTrState 4, .fam O.lpeTrCount 4, .fam O.adcStatus 12, .fam O.posAngle 4, .fam O.posCount 4, .fam O.posSpeed 4, .fam O.posStatus 4, .one O.chgState, .one O.chgInput, .one O.chgFlags, .one O.chgCause, .one O.chgIInLim, .one O.chgPIn, .one O.auxFlags, .fam O.amcState 6, .fam O.amcSpeed 6, .fam O.amcFlags 6, .one O.rpkState] : List Part) ⊆ l) : Keeps l s (@State.writeL a0 a1 a2) := by
  unfold State.writeL
  repeat' first
    | with_reducible assumption
    | (with_reducible refine State.write1_keeps ?_ (List.Subset.trans ?_ hl); rotate_right; decide +kernel)
    | with_reducible refine Keeps.foldl ?_ ?_
    | intro x

theorem storeL_keeps {l : List Part} {s : State} {a0 : State} {a1 : _} (h : Keeps l s a0)
    (hl : ([.allObjs] : List Part) ⊆ l) : Keeps l s (@State.storeL a0 a1) := by
  unfold State.storeL
  repeat' first
    | with_reducible assumption
    | (with_reducible refine State.store_keeps ?_ (List.Subset.trans ?_ hl); rotate_right; decide +kernel)
    | with_reducible refine Keeps.foldl ?_ ?_
    | intro x

theorem setBatch_keeps {l : List Part} {s : State} {a0 : _} {a1 : State} (h : Keeps l s a1)
    (hl : ([.dirty, .evLast, .sent, .hosts, .disp, .later, .forceA, .forceB, .links, .trx, .ctx, .dcl, .ptg, .adc, .pos, .chg, .aux, .amc, .rpk, .hpn, .sec, .thm, .net, .allObjs, .one O.sysXingDropFlags, .one O.sysLateFlags, .fam O.thmT 72, .one O.logHead, .one O.logChain, .one O.logCount, .one O.logQueued, .one O.netSessions, .one O.netCycSkipped, .fam O.netCanAddr 4, .fam O.netCanStatus 4, .fam O.netEthStatus 4, .fam O.trxSpeedReq 4, .fam O.trxState 4, .fam O.trxRule 4, .fam O.trxAngleSrc 4, .fam O.trxSsState 4, .one O.dclState, .one O.dclVLink, .one O.dclVBat, .fam O.lpeUnits 64, .fam O.lpeStatus 64, .fam O.lpeTrState 4, .fam O.lpeTrCount 4, .fam O.adcStatus 12, .fam O.posAngle 4, .fam O.posCount 4, .fam O.posSpeed 4, .fam O.posStatus 4, .one O.chgState, .one O.chgInput, .one O.chgFlags, .one O.chgCause, .one O.chgIInLim, .one O.chgPIn, .one O.auxFlags, .fam O.amcState 6, .fam O.amcSpeed 6, .fam O.amcFlags 6, .one O.rpkState] : List Part) ⊆ l) : KeepsP l s (@State.setBatch a0 a1) := by
  unfold State.setBatch
  repeat' first
    | with_reducible assumption
    | (with_reducible refine State.writeL_keeps ?_ (List.Subset.trans ?_ hl); rotate_right; decide +kernel)
    | (with_reducible refine State.guarded_keeps ?_ ?_ (List.Subset.trans ?_ hl); rotate_right; decide +kernel)
    | intro x
    | lift_lets
    | split
    | with_reducible refine KeepsP.mk ?_

theorem setObj_keeps {l : List Part} {s : State} {a0 : _} {a1 : State} (h : Keeps l s a1)
    (hl : ([.dirty, .evLast, .sent, .hosts, .disp, .later, .forceA, .forceB, .links, .trx, .ctx, .dcl, .ptg, .adc, .pos, .chg, .aux, .amc, .rpk, .hpn, .sec, .thm, .net, .allObjs, .one O.sysXingDropFlags, .one O.sysLateFlags, .fam O.thmT 72, .one O.logHead, .one O.logChain, .one O.logCount, .one O.logQueued, .one O.netSessions, .one O.netCycSkipped, .fam O.netCanAddr 4, .fam O.netCanStatus 4, .fam O.netEthStatus 4, .fam O.trxSpeedReq 4, .fam O.trxState 4, .fam O.trxRule 4, .fam O.trxAngleSrc 4, .fam O.trxSsState 4, .one O.dclState, .one O.dclVLink, .one O.dclVBat, .fam O.lpeUnits 64, .fam O.lpeStatus 64, .fam O.lpeTrState 4, .fam O.lpeTrCount 4, .fam O.adcStatus 12, .fam O.posAngle 4, .fam O.posCount 4, .fam O.posSpeed 4, .fam O.posStatus 4, .one O.chgState, .one O.chgInput, .one O.chgFlags, .one O.chgCause, .one O.chgIInLim, .one O.chgPIn, .one O.auxFlags, .fam O.amcState 6, .fam O.amcSpeed 6, .fam O.amcFlags 6, .one O.rpkState] : List Part) ⊆ l) : KeepsP l s (@State.setObj a0 a1) := by
  unfold State.setObj
  repeat' first
    | with_reducible assumption
    | (with_reducible refine State.holdReversal_keeps ?_ (List.Subset.trans ?_ hl); rotate_right; decide +kernel)
    | (with_reducible refine State.write1_keeps ?_ (List.Subset.trans ?_ hl); rotate_right; decide +kernel)
    | (with_reducible refine State.guarded_keeps ?_ ?_ (List.Subset.trans ?_ hl); rotate_right; decide +kernel)
    | intro x
    | lift_lets
    | split
    | with_reducible refine KeepsP.mk ?_

theorem setReturn_keeps {l : List Part} {s : State} {a0 : _} {a1 : State} (h : Keeps l s a1)
    (hl : ([.evLast, .sent, .hosts, .disp, .later, .trx, .hpn, .fam O.trxSsState 4] : List Part) ⊆ l) : KeepsP l s (@State.setReturn a0 a1) := by
  unfold State.setReturn
  repeat' first
    | with_reducible assumption
    | (with_reducible refine State.onTrx_keeps ?_ ?_ (List.Subset.trans ?_ hl); rotate_right; decide +kernel)
    | (with_reducible refine State.guarded_keeps ?_ ?_ (List.Subset.trans ?_ hl); rotate_right; decide +kernel)
    | (with_reducible refine State.returnStart_keeps ?_ (List.Subset.trans ?_ hl); rotate_right; decide +kernel)
    | (with_reducible refine State.hold_keeps ?_ (List.Subset.trans ?_ hl); rotate_right; decide +kernel)
    | intro x
    | lift_lets
    | with_reducible refine KeepsP.mk ?_

theorem setTorqueAt_keeps {l : List Part} {s : State} {a0 : _} {a1 : State} (h : Keeps l s a1)
    (hl : ([.disp, .trx] : List Part) ⊆ l) : KeepsP l s (@State.setTorqueAt a0 a1) := by
  unfold State.setTorqueAt
  repeat' first
    | with_reducible assumption
    | with_reducible refine KeepsP.ite ?_ ?_
    | (with_reducible refine State.onTrx_keeps ?_ ?_ (List.Subset.trans ?_ hl); rotate_right; decide +kernel)
    | (with_reducible refine State.guarded_keeps ?_ ?_ (List.Subset.trans ?_ hl); rotate_right; decide +kernel)
    | (with_reducible refine State.newRequest_keeps ?_ (List.Subset.trans ?_ hl); rotate_right; decide +kernel)
    | (with_reducible refine State.hold_keeps ?_ (List.Subset.trans ?_ hl); rotate_right; decide +kernel)
    | intro x
    | lift_lets
    | with_reducible refine KeepsP.mk ?_

theorem setpointAged_keeps {l : List Part} {s : State} {a0 : State} {a1 : _} (h : Keeps l s a0)
    (hl : ([.evLast, .sent, .hosts, .later, .trx, .hpn, .fam O.trxFlags 4] : List Part) ⊆ l) : Keeps l s (@State.setpointAged a0 a1) := by
  unfold State.setpointAged
  repeat' first
    | with_reducible assumption
    | with_reducible refine Keeps.ite ?_ ?_
    | (with_reducible refine State.modTrx_keeps ?_ (List.Subset.trans ?_ hl); rotate_right; decide +kernel)
    | (with_reducible refine State.raise_keeps ?_ (List.Subset.trans ?_ hl); rotate_right; decide +kernel)
    | (with_reducible refine State.orO_keeps ?_ ⟨_, inL hl ?_, O.trxFlags_has _ ?_⟩; rotate_right; (first | exact Fin.isLt _ | omega | (simp only [List.mem_range] at *; omega)); rotate_right; decide +kernel)

theorem shedExpiry_keeps {l : List Part} {s : State} {a0 : State} (h : Keeps l s a0)
    (hl : ([.aux, .one O.auxPhaseState] : List Part) ⊆ l) : Keeps l s (@State.shedExpiry a0) := by
  unfold State.shedExpiry
  repeat' first
    | with_reducible assumption
    | with_reducible refine Keeps.ite ?_ ?_
    | (with_reducible refine State.modAux_keeps ?_ (List.Subset.trans ?_ hl); rotate_right; decide +kernel)
    | (with_reducible refine State.putPh_keeps ?_ (List.Subset.trans ?_ hl); rotate_right; decide +kernel)
    | split

theorem showEnv_keeps {l : List Part} {s : State} {a0 : State} {a1 : _} {a2 : _} {a3 : _} (h : Keeps l s a0)
    (hl : ([.trx, .fam O.trxEnvPos 4, .fam O.trxEnvNeg 4, .fam O.trxEnvSrc 4] : List Part) ⊆ l) : Keeps l s (@State.showEnv a0 a1 a2 a3) := by
  unfold State.showEnv
  repeat' first
    | with_reducible assumption
    | (with_reducible refine State.setO_keeps ?_ ⟨_, inL hl ?_, O.trxEnvSrc_has _ ?_⟩; rotate_right; (first | exact Fin.isLt _ | omega | (simp only [List.mem_range] at *; omega)); rotate_right; decide +kernel)
    | (with_reducible refine State.modTrx_keeps ?_ (List.Subset.trans ?_ hl); rotate_right; decide +kernel)
    | (with_reducible refine State.setQ_keeps ?_ ⟨_, inL hl ?_, O.trxEnvNeg_has _ ?_⟩; rotate_right; (first | exact Fin.isLt _ | omega | (simp only [List.mem_range] at *; omega)); rotate_right; decide +kernel)
    | (with_reducible refine State.setQ_keeps ?_ ⟨_, inL hl ?_, O.trxEnvPos_has _ ?_⟩; rotate_right; (first | exact Fin.isLt _ | omega | (simp only [List.mem_range] at *; omega)); rotate_right; decide +kernel)

theorem sourceCut_keeps {l : List Part} {s : State} {a0 : State} (h : Keeps l s a0)
    (hl : ([.evLast, .sent, .hosts, .later, .links, .ctx, .chg, .hpn, .fam O.lpeStatus 64, .fam O.lpeTrState 4, .fam O.lpeTrCount 4, .one O.chgState, .one O.chgInput, .one O.chgFlags, .one O.chgIInLim] : List Part) ⊆ l) : Keeps l s (@State.sourceCut a0) := by
  unfold State.sourceCut
  repeat' first
    | with_reducible assumption
    | with_reducible refine Keeps.ite ?_ ?_
    | (with_reducible refine State.raise_keeps ?_ (List.Subset.trans ?_ hl); rotate_right; decide +kernel)
    | (with_reducible refine State.modChg_keeps ?_ (List.Subset.trans ?_ hl); rotate_right; decide +kernel)
    | (with_reducible refine State.chgReSearch_keeps ?_ (List.Subset.trans ?_ hl); rotate_right; decide +kernel)
    | (with_reducible refine State.setQ_keeps ?_ ⟨_, inL hl ?_, O.chgIInLim_has⟩; rotate_right; decide +kernel)
    | (with_reducible refine State.orO_keeps ?_ ⟨_, inL hl ?_, O.chgFlags_has⟩; rotate_right; decide +kernel)

theorem sourceProbe_keeps {l : List Part} {s : State} {a0 : State} (h : Keeps l s a0)
    (hl : ([.chg] : List Part) ⊆ l) : Keeps l s (@State.sourceProbe a0) := by
  unfold State.sourceProbe
  repeat' first
    | with_reducible assumption
    | with_reducible refine Keeps.ite ?_ ?_
    | (with_reducible refine State.searchStart_keeps ?_ (List.Subset.trans ?_ hl); rotate_right; decide +kernel)

theorem srcAbsent_keeps {l : List Part} {s : State} {a0 : State} {a1 : _} (h : Keeps l s a0)
    (hl : ([.rpk, .one O.rpkPath] : List Part) ⊆ l) : Keeps l s (@State.srcAbsent a0 a1) := by
  unfold State.srcAbsent
  repeat' first
    | with_reducible assumption
    | with_reducible refine Keeps.ite ?_ ?_
    | (with_reducible refine State.pathTo_keeps ?_ (List.Subset.trans ?_ hl); rotate_right; decide +kernel)

theorem srcDebounced_keeps {l : List Part} {s : State} {a0 : State} {a1 : _} {a2 : _} (h : Keeps l s a0)
    (hl : ([.rpk, .one O.rpkPath] : List Part) ⊆ l) : Keeps l s (@State.srcDebounced a0 a1 a2) := by
  unfold State.srcDebounced
  repeat' first
    | with_reducible assumption
    | with_reducible refine Keeps.ite ?_ ?_
    | (with_reducible refine State.pathTo_keeps ?_ (List.Subset.trans ?_ hl); rotate_right; decide +kernel)

theorem srcQualified_keeps {l : List Part} {s : State} {a0 : State} {a1 : _} {a2 : _} (h : Keeps l s a0)
    (hl : ([.evLast, .sent, .hosts, .later, .ctx, .rpk, .hpn, .fam O.lpeStatus 64, .fam O.lpeTrState 4, .fam O.lpeTrCount 4, .one O.rpkState, .one O.rpkPath, .one O.rpkEnd, .one O.rpkChgTime] : List Part) ⊆ l) : Keeps l s (@State.srcQualified a0 a1 a2) := by
  unfold State.srcQualified
  repeat' first
    | with_reducible assumption
    | with_reducible refine Keeps.ite ?_ ?_
    | (with_reducible refine State.pathTo_keeps ?_ (List.Subset.trans ?_ hl); rotate_right; decide +kernel)
    | (with_reducible refine State.pathHome_keeps ?_ (List.Subset.trans ?_ hl); rotate_right; decide +kernel)

theorem ssTimeout_keeps {l : List Part} {s : State} {a0 : State} (h : Keeps l s a0)
    (hl : ([.evLast, .sent, .hosts, .disp, .later, .links, .ctx, .aux, .hpn, .fam O.lpeStatus 64, .fam O.lpeTrState 4, .fam O.lpeTrCount 4, .one O.auxState, .one O.auxFlags, .one O.auxCause, .one O.auxPhaseState, .one O.auxRestarts] : List Part) ⊆ l) : Keeps l s (@State.ssTimeout a0) := by
  unfold State.ssTimeout
  repeat' first
    | with_reducible assumption
    | with_reducible refine Keeps.ite ?_ ?_
    | (with_reducible refine State.auxHiccup_keeps ?_ (List.Subset.trans ?_ hl); rotate_right; decide +kernel)
    | (with_reducible refine State.modAux_keeps ?_ (List.Subset.trans ?_ hl); rotate_right; decide +kernel)
    | (with_reducible refine State.orO_keeps ?_ ⟨_, inL hl ?_, O.auxFlags_has⟩; rotate_right; decide +kernel)

theorem ssiDone_keeps {l : List Part} {s : State} {a0 : State} {a1 : _} {a2 : _} {a3 : _} (h : Keeps l s a0)
    (hl : ([.sent, .xing, .hosts, .later, .ctx, .pos, .hpn, .one O.sysXingDropFlags, .fam O.posAngle 4, .fam O.posCount 4, .fam O.posSpeed 4, .fam O.posStatus 4] : List Part) ⊆ l) : Keeps l s (@State.ssiDone a0 a1 a2 a3) := by
  unfold State.ssiDone
  repeat' first
    | with_reducible assumption
    | (intro x; have hx : Keeps l s x := ?_; clear_value x)
    | with_reducible refine Keeps.ite ?_ ?_
    | (with_reducible refine State.frameBad_keeps ?_ (List.Subset.trans ?_ hl); rotate_right; decide +kernel)
    | (with_reducible refine State.arrive_keeps ?_ (List.Subset.trans ?_ hl); rotate_right; decide +kernel)
    | (with_reducible refine State.frameGood_keeps ?_ (List.Subset.trans ?_ hl); rotate_right; decide +kernel)
    | (with_reducible refine State.modPos_keeps ?_ (List.Subset.trans ?_ hl); rotate_right; decide +kernel)
    | (with_reducible refine State.sendPos_keeps ?_ (List.Subset.trans ?_ hl); rotate_right; decide +kernel)
    | intro x
    | lift_lets
    | split

theorem stat_keeps {l : List Part} {s : State} {a0 : State} {a1 : _} {a2 : _} (h : Keeps l s a0)
    (hl : ([.evLast, .sent, .xing, .hosts, .disp, .later, .links, .trx, .ctx, .dcl, .ptg, .chg, .aux, .hpn, .one O.sysXingDropFlags, .fam O.thmT 72, .fam O.glkStatus 40, .fam O.trxState 4, .fam O.trxFlags 4, .fam O.trxFault 4, .fam O.trxAngleSrc 4, .fam O.trxSsState 4, .fam O.trxSsLosses 4, .one O.dclFlags, .fam O.lpeStatus 64, .fam O.lpeTrState 4, .fam O.lpeTrCount 4, .one O.chgState, .one O.chgInput, .one O.chgFlags, .one O.chgCause, .one O.chgIInLim, .one O.chgPIn, .one O.auxState, .one O.auxFlags, .one O.auxCause, .one O.auxPhaseState] : List Part) ⊆ l) : Keeps l s (@State.stat a0 a1 a2) := by
  unfold State.stat
  repeat' first
    | with_reducible assumption
    | with_reducible refine Keeps.ite ?_ ?_
    | (with_reducible refine State.modLink_keeps ?_ (List.Subset.trans ?_ hl); rotate_right; decide +kernel)
    | (with_reducible refine State.linkFault_keeps ?_ (List.Subset.trans ?_ hl); rotate_right; decide +kernel)
    | (with_reducible refine State.eligLink_keeps ?_ (List.Subset.trans ?_ hl); rotate_right; decide +kernel)
    | (with_reducible refine State.setQ_keeps ?_ ⟨_, inL hl ?_, O.thmT_has _ ?_⟩; rotate_right; (first | exact Fin.isLt _ | omega | (simp only [List.mem_range] at *; omega)); rotate_right; decide +kernel)
    | (with_reducible refine State.telToHf_keeps ?_ ?_ (List.Subset.trans ?_ hl); rotate_right; decide +kernel)
    | (with_reducible refine State.orO_keeps ?_ ⟨_, inL hl ?_, O.glkStatus_has _ ?_⟩; rotate_right; (first | exact Fin.isLt _ | omega | (simp only [List.mem_range] at *; omega)); rotate_right; decide +kernel)
    | (with_reducible refine State.auxMark_keeps ?_ (List.Subset.trans ?_ hl); rotate_right; decide +kernel)
    | intro x

theorem statSeen_keeps {l : List Part} {s : State} {a0 : State} {a1 : _} {a2 : _} (h : Keeps l s a0)
    (hl : ([.links, .trx, .fam O.glkStatus 40] : List Part) ⊆ l) : Keeps l s (@State.statSeen a0 a1 a2) := by
  unfold State.statSeen
  repeat' first
    | with_reducible assumption
    | with_reducible refine Keeps.ite ?_ ?_
    | (with_reducible refine State.modLink_keeps ?_ (List.Subset.trans ?_ hl); rotate_right; decide +kernel)
    | (with_reducible refine State.eligLink_keeps ?_ (List.Subset.trans ?_ hl); rotate_right; decide +kernel)
    | (with_reducible refine State.orO_keeps ?_ ⟨_, inL hl ?_, O.glkStatus_has _ ?_⟩; rotate_right; (first | exact Fin.isLt _ | omega | (simp only [List.mem_range] at *; omega)); rotate_right; decide +kernel)

theorem trainEchoes_keeps {l : List Part} {s : State} {a0 : State} {a1 : _} (h : Keeps l s a0)
    (hl : ([.sent, .links] : List Part) ⊆ l) : Keeps l s (@State.trainEchoes a0 a1) := by
  unfold State.trainEchoes
  repeat' first
    | with_reducible assumption
    | (with_reducible refine State.modLink_keeps ?_ (List.Subset.trans ?_ hl); rotate_right; decide +kernel)
    | (with_reducible refine State.sendRun_keeps ?_ (List.Subset.trans ?_ hl); rotate_right; decide +kernel)

theorem trainFail_keeps {l : List Part} {s : State} {a0 : State} {a1 : _} (h : Keeps l s a0)
    (hl : ([.sent, .disp, .links, .fam O.glkStatus 40] : List Part) ⊆ l) : Keeps l s (@State.trainFail a0 a1) := by
  unfold State.trainFail
  repeat' first
    | with_reducible assumption
    | (with_reducible refine State.modLink_keeps ?_ (List.Subset.trans ?_ hl); rotate_right; decide +kernel)
    | (with_reducible refine State.clearLine_keeps ?_ (List.Subset.trans ?_ hl); rotate_right; decide +kernel)
    | (with_reducible refine State.trainEnds_keeps ?_ (List.Subset.trans ?_ hl); rotate_right; decide +kernel)
    | (with_reducible refine State.orO_keeps ?_ ⟨_, inL hl ?_, O.glkStatus_has _ ?_⟩; rotate_right; (first | exact Fin.isLt _ | omega | (simp only [List.mem_range] at *; omega)); rotate_right; decide +kernel)

theorem trainStep4_keeps {l : List Part} {s : State} {a0 : State} {a1 : _} (h : Keeps l s a0)
    (hl : ([.sent, .disp, .links, .fam O.glkStatus 40] : List Part) ⊆ l) : Keeps l s (@State.trainStep4 a0 a1) := by
  unfold State.trainStep4
  repeat' first
    | with_reducible assumption
    | with_reducible refine Keeps.ite ?_ ?_
    | (with_reducible refine State.modLink_keeps ?_ (List.Subset.trans ?_ hl); rotate_right; decide +kernel)
    | (with_reducible refine State.sendRun_keeps ?_ (List.Subset.trans ?_ hl); rotate_right; decide +kernel)
    | (with_reducible refine State.trainFail_keeps ?_ (List.Subset.trans ?_ hl); rotate_right; decide +kernel)

theorem trainIdent_keeps {l : List Part} {s : State} {a0 : State} {a1 : _} {a2 : _} {a3 : _} {a4 : _} {a5 : _} {a6 : _} (h : Keeps l s a0)
    (hl : ([.evLast, .sent, .hosts, .disp, .later, .links, .trx, .hpn, .fam O.thmT 72, .fam O.glkStatus 40, .fam O.glkDriver 40, .fam O.glkLDrv 40] : List Part) ⊆ l) : Keeps l s (@State.trainIdent a0 a1 a2 a3 a4 a5 a6) := by
  unfold State.trainIdent
  repeat' first
    | with_reducible assumption
    | with_reducible refine Keeps.ite ?_ ?_
    | (with_reducible refine State.modLink_keeps ?_ (List.Subset.trans ?_ hl); rotate_right; decide +kernel)
    | (with_reducible refine State.trainStep4_keeps ?_ (List.Subset.trans ?_ hl); rotate_right; decide +kernel)
    | (with_reducible refine State.setO_keeps ?_ ⟨_, inL hl ?_, O.glkDriver_has _ ?_⟩; rotate_right; (first | exact Fin.isLt _ | omega | (simp only [List.mem_range] at *; omega)); rotate_right; decide +kernel)
    | (with_reducible refine State.setO_keeps ?_ ⟨_, inL hl ?_, O.glkLDrv_has _ ?_⟩; rotate_right; (first | exact Fin.isLt _ | omega | (simp only [List.mem_range] at *; omega)); rotate_right; decide +kernel)
    | (with_reducible refine State.driverBad_keeps ?_ (List.Subset.trans ?_ hl); rotate_right; decide +kernel)

theorem trainReads_keeps {l : List Part} {s : State} {a0 : State} {a1 : _} (h : Keeps l s a0)
    (hl : ([.sent, .links] : List Part) ⊆ l) : Keeps l s (@State.trainReads a0 a1) := by
  unfold State.trainReads
  repeat' first
    | with_reducible assumption
    | (with_reducible refine State.sendRun_keeps ?_ (List.Subset.trans ?_ hl); rotate_right; decide +kernel)

theorem trainReady_keeps {l : List Part} {s : State} {a0 : State} {a1 : _} {a2 : _} (h : Keeps l s a0)
    (hl : ([.evLast, .sent, .hosts, .disp, .later, .links, .aux, .hpn, .fam O.glkStatus 40, .fam O.glkLatency 40] : List Part) ⊆ l) : Keeps l s (@State.trainReady a0 a1 a2) := by
  unfold State.trainReady
  repeat' first
    | with_reducible assumption
    | with_reducible refine Keeps.ite ?_ ?_
    | (with_reducible refine State.modLink_keeps ?_ (List.Subset.trans ?_ hl); rotate_right; decide +kernel)
    | (with_reducible refine State.sendForce_keeps ?_ (List.Subset.trans ?_ hl); rotate_right; decide +kernel)
    | (with_reducible refine State.regSend_keeps ?_ (List.Subset.trans ?_ hl); rotate_right; decide +kernel)
    | (with_reducible refine State.trainFail_keeps ?_ (List.Subset.trans ?_ hl); rotate_right; decide +kernel)
    | (with_reducible refine State.setO_keeps ?_ ⟨_, inL hl ?_, O.glkLatency_has _ ?_⟩; rotate_right; (first | exact Fin.isLt _ | omega | (simp only [List.mem_range] at *; omega)); rotate_right; decide +kernel)
    | (with_reducible refine State.raise_keeps ?_ (List.Subset.trans ?_ hl); rotate_right; decide +kernel)
    | (with_reducible refine State.trainEnds_keeps ?_ (List.Subset.trans ?_ hl); rotate_right; decide +kernel)
    | (with_reducible refine State.auxMark_keeps ?_ (List.Subset.trans ?_ hl); rotate_right; decide +kernel)

theorem stepEnd_keeps {l : List Part} {s : State} {a0 : State} {a1 : _} {a2 : _} (h : Keeps l s a0)
    (hl : ([.evLast, .sent, .hosts, .disp, .later, .links, .trx, .aux, .hpn, .fam O.thmT 72, .fam O.glkStatus 40, .fam O.glkLatency 40, .fam O.glkRxCtle 40, .fam O.glkDriver 40, .fam O.glkLDrv 40] : List Part) ⊆ l) : Keeps l s (@State.stepEnd a0 a1 a2) := by
  unfold State.stepEnd
  repeat' first
    | with_reducible assumption
    | with_reducible refine Keeps.ite ?_ ?_
    | (with_reducible refine State.modLink_keeps ?_ (List.Subset.trans ?_ hl); rotate_right; decide +kernel)
    | (with_reducible refine State.trainEchoes_keeps ?_ (List.Subset.trans ?_ hl); rotate_right; decide +kernel)
    | (with_reducible refine State.trainIdent_keeps ?_ (List.Subset.trans ?_ hl); rotate_right; decide +kernel)
    | (with_reducible refine State.trainFail_keeps ?_ (List.Subset.trans ?_ hl); rotate_right; decide +kernel)
    | (with_reducible refine State.setO_keeps ?_ ⟨_, inL hl ?_, O.glkRxCtle_has _ ?_⟩; rotate_right; (first | exact Fin.isLt _ | omega | (simp only [List.mem_range] at *; omega)); rotate_right; decide +kernel)
    | (with_reducible refine State.trainReads_keeps ?_ (List.Subset.trans ?_ hl); rotate_right; decide +kernel)
    | (with_reducible refine State.trainReady_keeps ?_ (List.Subset.trans ?_ hl); rotate_right; decide +kernel)
    | intro x
    | lift_lets
    | split

theorem syncTake_keeps {l : List Part} {s : State} {a0 : State} {a1 : _} (h : Keeps l s a0)
    (hl : ([.aux, .one O.auxSyncFreq] : List Part) ⊆ l) : Keeps l s (@State.syncTake a0 a1) := by
  unfold State.syncTake
  repeat' first
    | with_reducible assumption
    | (with_reducible refine State.modAux_keeps ?_ (List.Subset.trans ?_ hl); rotate_right; decide +kernel)
    | (with_reducible refine State.setQ_keeps ?_ ⟨_, inL hl ?_, O.auxSyncFreq_has⟩; rotate_right; decide +kernel)

theorem syncEdge_keeps {l : List Part} {s : State} {a0 : State} {a1 : _} (h : Keeps l s a0)
    (hl : ([.evLast, .sent, .hosts, .later, .aux, .hpn, .one O.auxFlags, .one O.auxSyncFreq] : List Part) ⊆ l) : Keeps l s (@State.syncEdge a0 a1) := by
  unfold State.syncEdge
  repeat' first
    | with_reducible assumption
    | (intro x; have hx : Keeps l s x := ?_; clear_value x)
    | with_reducible refine Keeps.ite ?_ ?_
    | (with_reducible refine State.syncTake_keeps ?_ (List.Subset.trans ?_ hl); rotate_right; decide +kernel)
    | (with_reducible refine State.raise_keeps ?_ (List.Subset.trans ?_ hl); rotate_right; decide +kernel)
    | (with_reducible refine State.auxSyncLost_keeps ?_ (List.Subset.trans ?_ hl); rotate_right; decide +kernel)
    | (with_reducible refine State.modAux_keeps ?_ (List.Subset.trans ?_ hl); rotate_right; decide +kernel)
    | (with_reducible refine State.orO_keeps ?_ ⟨_, inL hl ?_, O.auxFlags_has⟩; rotate_right; decide +kernel)
    | (intro x; clear_value x)
    | split
    | lift_lets

theorem syncHoldEnd_keeps {l : List Part} {s : State} {a0 : State} (h : Keeps l s a0)
    (hl : ([.cgs, .aux] : List Part) ⊆ l) : Keeps l s (@State.syncHoldEnd a0) := by
  unfold State.syncHoldEnd
  repeat' first
    | with_reducible assumption
    | with_reducible refine Keeps.ite ?_ ?_
    | (with_reducible refine State.ownCarrier_keeps ?_ (List.Subset.trans ?_ hl); rotate_right; decide +kernel)
    | (with_reducible refine State.modAux_keeps ?_ (List.Subset.trans ?_ hl); rotate_right; decide +kernel)
    | split

theorem syncTimeout_keeps {l : List Part} {s : State} {a0 : State} (h : Keeps l s a0)
    (hl : ([.evLast, .sent, .hosts, .later, .aux, .hpn, .one O.auxFlags, .one O.auxSyncFreq] : List Part) ⊆ l) : Keeps l s (@State.syncTimeout a0) := by
  unfold State.syncTimeout
  repeat' first
    | with_reducible assumption
    | with_reducible refine Keeps.ite ?_ ?_
    | (with_reducible refine State.auxSyncLost_keeps ?_ (List.Subset.trans ?_ hl); rotate_right; decide +kernel)
    | (with_reducible refine State.modAux_keeps ?_ (List.Subset.trans ?_ hl); rotate_right; decide +kernel)
    | split

theorem takeApplied_keeps {l : List Part} {s : State} {a0 : State} {a1 : _} (h : Keeps l s a0)
    (hl : ([.ctx] : List Part) ⊆ l) : Keeps l s (@State.takeApplied a0 a1) := by
  unfold State.takeApplied
  repeat' first
    | with_reducible assumption
    | with_reducible refine Keeps.ite ?_ ?_
    | (with_reducible refine State.modCtx_keeps ?_ (List.Subset.trans ?_ hl); rotate_right; decide +kernel)

theorem tamper_keeps {l : List Part} {s : State} {a0 : State} {a1 : _} (h : Keeps l s a0)
    (hl : ([.axt, .flash, .dirty, .free, .evLast, .sent, .follow, .xing, .clk, .hosts, .slots, .disp, .later, .xmem, .forceA, .forceB, .links, .cgs, .trx, .ctx, .tb, .traceReads, .dcl, .ptg, .adc, .pos, .prb, .chg, .aux, .amc, .rpk, .hpn, .sec, .upd, .thm, .bst, .patina, .pwr, .net, .allObjs, .one O.sysClkStatus, .one O.pwrResetCause, .one O.secAttEpoch, .one O.secAttNext, .one O.secIdNext, .one O.logHead, .one O.logChain, .one O.logCount, .one O.logQueued, .fam O.pwmDriveTable 40, .fam O.trxRule 4, .fam O.trxSsState 4, .fam O.lpeUnits 64, .fam O.lpeBankB 64, .fam O.adcStatus 12, .fam O.posAngle 4, .fam O.posCount 4, .fam O.posSpeed 4, .fam O.posStatus 4, .fam O.memStatus 4, .one O.memWipeCause] : List Part) ⊆ l) : Keeps l s (@State.tamper a0 a1) := by
  unfold State.tamper
  repeat' first
    | with_reducible assumption
    | with_reducible refine Keeps.ite ?_ ?_
    | (with_reducible refine State.bootBegin_keeps ?_ (List.Subset.trans ?_ hl); rotate_right; decide +kernel)
    | (with_reducible refine State.mordantWipe_keeps ?_ (List.Subset.trans ?_ hl); rotate_right; decide +kernel)
    | (with_reducible refine State.wholeReset_keeps ?_ (List.Subset.trans ?_ hl); rotate_right; decide +kernel)
    | (with_reducible refine State.noteReset_keeps ?_ (List.Subset.trans ?_ hl); rotate_right; decide +kernel)
    | intro x
    | lift_lets
    | (with_reducible refine Keeps.set_sec ?_ (inL hl ?_); rotate_right; decide +kernel)

theorem withDefs_keeps {l : List Part} {s : State} {a0 : State} {a1 : _} (h : Keeps l s a0)
    (hl : ([.flash, .dirty, .sec, .allObjs] : List Part) ⊆ l) : Keeps l s (@State.withDefs a0 a1) := by
  unfold State.withDefs
  exact Keeps.foldl (Keeps.set_objs_flash_dirty_sec h (inL hl (by decide +kernel)) (inL hl (by decide +kernel)) (inL hl (by decide +kernel)) (inL hl (by decide +kernel))) fun u _ _ hu => setO_keeps hu ⟨.allObjs, (inL hl (by decide +kernel)), trivial⟩

theorem tetasApply_keeps {l : List Part} {s : State} {a0 : State} {a1 : _} {a2 : _} {a3 : _} (h : Keeps l s a0)
    (hl : ([.flash, .dirty, .evLast, .sent, .hosts, .disp, .later, .forceA, .forceB, .links, .trx, .ctx, .dcl, .ptg, .adc, .pos, .chg, .aux, .amc, .rpk, .hpn, .sec, .thm, .net, .allObjs, .one O.sysXingDropFlags, .one O.sysLateFlags, .fam O.thmT 72, .one O.secTetasSerial, .one O.logHead, .one O.logChain, .one O.logCount, .one O.logQueued, .one O.netSessions, .one O.netCycSkipped, .fam O.netCanAddr 4, .fam O.netCanStatus 4, .fam O.netEthStatus 4, .fam O.trxSpeedReq 4, .fam O.trxState 4, .fam O.trxRule 4, .fam O.trxAngleSrc 4, .fam O.trxSsState 4, .one O.dclState, .one O.dclVLink, .one O.dclVBat, .fam O.lpeUnits 64, .fam O.lpeStatus 64, .fam O.lpeTrState 4, .fam O.lpeTrCount 4, .fam O.adcStatus 12, .fam O.posAngle 4, .fam O.posCount 4, .fam O.posSpeed 4, .fam O.posStatus 4, .one O.chgState, .one O.chgInput, .one O.chgFlags, .one O.chgCause, .one O.chgIInLim, .one O.chgPIn, .one O.auxFlags, .fam O.amcState 6, .fam O.amcSpeed 6, .fam O.amcFlags 6, .one O.rpkState] : List Part) ⊆ l) : Keeps l s (@State.tetasApply a0 a1 a2 a3) := by
  unfold State.tetasApply
  repeat' first
    | with_reducible assumption
    | (with_reducible refine State.withDefs_keeps ?_ (List.Subset.trans ?_ hl); rotate_right; decide +kernel)
    | (with_reducible refine State.writeL_keeps ?_ (List.Subset.trans ?_ hl); rotate_right; decide +kernel)
    | (with_reducible refine State.modSec_keeps ?_ (List.Subset.trans ?_ hl); rotate_right; decide +kernel)
    | (with_reducible refine State.setO_keeps ?_ ⟨.allObjs, inL hl ?_, allObjs_has _⟩; rotate_right; decide +kernel)
    | (with_reducible refine State.flashL_keeps ?_ (List.Subset.trans ?_ hl); rotate_right; decide +kernel)
    | (with_reducible refine State.raise_keeps ?_ (List.Subset.trans ?_ hl); rotate_right; decide +kernel)
    | (with_reducible refine State.audit_keeps ?_ (List.Subset.trans ?_ hl); rotate_right; decide +kernel)

theorem tetasRefused_keeps {l : List Part} {s : State} {a0 : State} {a1 : _} {a2 : _} (h : Keeps l s a0)
    (hl : ([.evLast, .sent, .hosts, .disp, .later, .hpn, .one O.thmFlags] : List Part) ⊆ l) : Keeps l s (@State.tetasRefused a0 a1 a2) := by
  unfold State.tetasRefused
  repeat' first
    | with_reducible assumption
    | with_reducible refine Keeps.ite ?_ ?_
    | (with_reducible refine State.flashRefuse_keeps ?_ (List.Subset.trans ?_ hl); rotate_right; decide +kernel)
    | (with_reducible refine State.endAll_keeps ?_ (List.Subset.trans ?_ hl); rotate_right; decide +kernel)
    | (with_reducible refine State.raise_keeps ?_ (List.Subset.trans ?_ hl); rotate_right; decide +kernel)

theorem tetasDone_keeps {l : List Part} {s : State} {a0 : State} (h : Keeps l s a0)
    (hl : ([.flash, .dirty, .evLast, .sent, .hosts, .disp, .later, .forceA, .forceB, .links, .trx, .ctx, .dcl, .ptg, .adc, .pos, .chg, .aux, .amc, .rpk, .hpn, .sec, .thm, .net, .allObjs, .one O.sysXingDropFlags, .one O.sysLateFlags, .one O.thmFlags, .fam O.thmT 72, .one O.secSession, .one O.secTetasSerial, .one O.logHead, .one O.logChain, .one O.logCount, .one O.logQueued, .one O.netSessions, .one O.netCycSkipped, .fam O.netCanAddr 4, .fam O.netCanStatus 4, .fam O.netEthStatus 4, .fam O.trxSpeedReq 4, .fam O.trxState 4, .fam O.trxRule 4, .fam O.trxAngleSrc 4, .fam O.trxSsState 4, .one O.dclState, .one O.dclVLink, .one O.dclVBat, .fam O.lpeUnits 64, .fam O.lpeStatus 64, .fam O.lpeTrState 4, .fam O.lpeTrCount 4, .fam O.adcStatus 12, .fam O.posAngle 4, .fam O.posCount 4, .fam O.posSpeed 4, .fam O.posStatus 4, .one O.chgState, .one O.chgInput, .one O.chgFlags, .one O.chgCause, .one O.chgIInLim, .one O.chgPIn, .one O.auxFlags, .fam O.amcState 6, .fam O.amcSpeed 6, .fam O.amcFlags 6, .one O.rpkState] : List Part) ⊆ l) : Keeps l s (@State.tetasDone a0) := by
  unfold State.tetasDone
  repeat' first
    | with_reducible assumption
    | (intro x; have hx : Keeps l s x := ?_; clear_value x)
    | with_reducible refine Keeps.ite ?_ ?_
    | (with_reducible refine State.heldSync_keeps ?_ (List.Subset.trans ?_ hl); rotate_right; decide +kernel)
    | (with_reducible refine State.modSec_keeps ?_ (List.Subset.trans ?_ hl); rotate_right; decide +kernel)
    | (with_reducible refine State.endAll_keeps ?_ (List.Subset.trans ?_ hl); rotate_right; decide +kernel)
    | (with_reducible refine State.tetasApply_keeps ?_ (List.Subset.trans ?_ hl); rotate_right; decide +kernel)
    | (with_reducible refine State.flashPause_keeps ?_ (List.Subset.trans ?_ hl); rotate_right; decide +kernel)
    | (with_reducible refine State.tetasRefused_keeps ?_ (List.Subset.trans ?_ hl); rotate_right; decide +kernel)
    | intro x
    | lift_lets
    | split

theorem tetasInstall_keeps {l : List Part} {s : State} {a0 : _} {a1 : State} (h : Keeps l s a1)
    (hl : ([.disp, .sec] : List Part) ⊆ l) : KeepsP l s (@State.tetasInstall a0 a1) := by
  unfold State.tetasInstall
  repeat' first
    | with_reducible assumption
    | (with_reducible refine State.modSec_keeps ?_ (List.Subset.trans ?_ hl); rotate_right; decide +kernel)
    | (with_reducible refine State.guarded_keeps ?_ ?_ (List.Subset.trans ?_ hl); rotate_right; decide +kernel)
    | (with_reducible refine State.hold_keeps ?_ (List.Subset.trans ?_ hl); rotate_right; decide +kernel)
    | intro x
    | lift_lets
    | with_reducible refine KeepsP.mk ?_

theorem tetasStage_keeps {l : List Part} {s : State} {a0 : _} {a1 : State} (h : Keeps l s a1)
    (hl : ([.sec] : List Part) ⊆ l) : KeepsP l s (@State.tetasStage a0 a1) := by
  unfold State.tetasStage
  repeat' first
    | with_reducible assumption
    | (with_reducible refine State.modSec_keeps ?_ (List.Subset.trans ?_ hl); rotate_right; decide +kernel)
    | (with_reducible refine State.guarded_keeps ?_ ?_ (List.Subset.trans ?_ hl); rotate_right; decide +kernel)
    | intro x
    | lift_lets
    | with_reducible refine KeepsP.mk ?_

theorem thermalFactors_keeps {l : List Part} {s : State} {a0 : State} (h : Keeps l s a0)
    (hl : ([.one O.thmFactor] : List Part) ⊆ l) : Keeps l s (@State.thermalFactors a0) := by
  unfold State.thermalFactors
  repeat' first
    | with_reducible assumption
    | (with_reducible refine State.setO_keeps ?_ ⟨_, inL hl ?_, O.thmFactor_has⟩; rotate_right; decide +kernel)

theorem thermalReply_keeps {l : List Part} {s : State} {r : State × Reply} (h : KeepsP l s r)
    (hl : ([.evLast, .sent, .hosts, .later, .hpn, .one O.thmFlags] : List Part) ⊆ l) : KeepsP l s (thermalReply r) := by
  unfold thermalReply
  exact KeepsP.ite (KeepsP.mk (flashRefuse_keeps (KeepsP.fst h) (List.Subset.trans (by decide +kernel) hl))) h

theorem thermalSample_keeps {l : List Part} {s : State} {a0 : State} {a1 : _} {a2 : _} (h : Keeps l s a0)
    (hl : ([.evLast, .sent, .hosts, .disp, .later, .forceA, .forceB, .links, .trx, .ctx, .ptg, .adc, .chg, .aux, .amc, .hpn, .thm, .bst, .pwr, .one O.sysXingDropFlags, .one O.thmState, .one O.thmFlags, .one O.thmJunction, .one O.thmTripLatch, .fam O.thmT 72, .fam O.trxState 4, .fam O.trxFault 4, .fam O.trxAngleSrc 4, .fam O.lpeStatus 64, .fam O.lpeTrState 4, .fam O.lpeTrCount 4, .fam O.adcStatus 12, .one O.chgState, .one O.chgInput, .one O.chgFlags, .one O.chgCause, .one O.chgIInLim, .one O.chgPIn, .one O.auxState, .one O.auxFlags, .one O.auxCause, .one O.auxPhaseState, .fam O.amcState 6, .fam O.amcSpeed 6, .fam O.amcFlags 6, .fam O.amcFault 6, .one O.amcParkState, .one O.bstState, .one O.bstLast] : List Part) ⊆ l) : Keeps l s (@State.thermalSample a0 a1 a2) := by
  unfold State.thermalSample
  repeat' first
    | with_reducible assumption
    | with_reducible refine Keeps.ite ?_ ?_
    | (with_reducible refine State.sampleTake_keeps ?_ (List.Subset.trans ?_ hl); rotate_right; decide +kernel)

theorem tick_keeps {l : List Part} {s : State} {a0 : State} (h : Keeps l s a0)
    (hl : ([.axt, .follow, .pwr] : List Part) ⊆ l) : Keeps l s (@State.tick a0) := by
  unfold State.tick
  repeat' first
    | with_reducible assumption
    | with_reducible refine Keeps.ite ?_ ?_
    | intro x
    | lift_lets
    | (with_reducible refine Keeps.set_axt_follow ?_ (inL hl ?_) (inL hl ?_); rotate_right; decide +kernel; rotate_right; decide +kernel)
    | (with_reducible refine Keeps.set_pwr ?_ (inL hl ?_); rotate_right; decide +kernel)

theorem tickMachine_keeps {l : List Part} {s : State} {a0 : State} {a1 : _} (h : Keeps l s a0)
    (hl : ([.evLast, .sent, .hosts, .later, .trx, .hpn, .fam O.trxFlags 4] : List Part) ⊆ l) : Keeps l s (@State.tickMachine a0 a1) := by
  unfold State.tickMachine
  repeat' first
    | with_reducible assumption
    | (with_reducible refine State.dirClamp_keeps ?_ (List.Subset.trans ?_ hl); rotate_right; decide +kernel)
    | (with_reducible refine State.modTrx_keeps ?_ (List.Subset.trans ?_ hl); rotate_right; decide +kernel)
    | (with_reducible refine State.eligStep_keeps ?_ (List.Subset.trans ?_ hl); rotate_right; decide +kernel)

theorem timedApply_keeps {l : List Part} {s : State} {a0 : State} {a1 : _} (h : Keeps l s a0)
    (hl : ([.disp, .trx, .fam O.trxTorqueReq 4] : List Part) ⊆ l) : Keeps l s (@State.timedApply a0 a1) := by
  unfold State.timedApply
  repeat' first
    | with_reducible assumption
    | with_reducible refine Keeps.ite ?_ ?_
    | (with_reducible refine State.endHeld_keeps ?_ (List.Subset.trans ?_ hl); rotate_right; decide +kernel)
    | (with_reducible refine State.setO_keeps ?_ ⟨_, inL hl ?_, O.trxTorqueReq_has _ ?_⟩; rotate_right; (first | exact Fin.isLt _ | omega | (simp only [List.mem_range] at *; omega)); rotate_right; decide +kernel)
    | (with_reducible refine State.modTrx_keeps ?_ (List.Subset.trans ?_ hl); rotate_right; decide +kernel)
    | (with_reducible refine State.modDisp_keeps ?_ (List.Subset.trans ?_ hl); rotate_right; decide +kernel)
    | with_reducible refine Keeps.foldl ?_ ?_
    | intro x
    | split

theorem timedAtCt_keeps {l : List Part} {s : State} {a0 : State} (h : Keeps l s a0)
    (hl : ([.evLast, .sent, .hosts, .disp, .later, .hpn, .one O.sysLateFlags] : List Part) ⊆ l) : Keeps l s (@State.timedAtCt a0) := by
  unfold State.timedAtCt
  repeat' first
    | with_reducible assumption
    | with_reducible refine Keeps.ite ?_ ?_
    | (with_reducible refine State.endHeld_keeps ?_ (List.Subset.trans ?_ hl); rotate_right; decide +kernel)
    | (with_reducible refine State.raiseLate_keeps ?_ (List.Subset.trans ?_ hl); rotate_right; decide +kernel)
    | (with_reducible refine State.modDisp_keeps ?_ (List.Subset.trans ?_ hl); rotate_right; decide +kernel)
    | split

theorem tokenDone_keeps {l : List Part} {s : State} {a0 : State} {a1 : _} (h : Keeps l s a0)
    (hl : ([.evLast, .sent, .hosts, .disp, .later, .hpn, .sec, .thm, .one O.secSession, .one O.logHead, .one O.logChain, .one O.logCount, .one O.logQueued] : List Part) ⊆ l) : Keeps l s (@State.tokenDone a0 a1) := by
  unfold State.tokenDone
  repeat' first
    | with_reducible assumption
    | (intro x; have hx : Keeps l s x := ?_; clear_value x)
    | (with_reducible refine State.openSession_keeps ?_ (List.Subset.trans ?_ hl); rotate_right; decide +kernel)
    | (with_reducible refine State.modSec_keeps ?_ (List.Subset.trans ?_ hl); rotate_right; decide +kernel)
    | (with_reducible refine State.endAll_keeps ?_ (List.Subset.trans ?_ hl); rotate_right; decide +kernel)
    | (with_reducible refine State.raise_keeps ?_ (List.Subset.trans ?_ hl); rotate_right; decide +kernel)
    | (with_reducible refine State.audit_keeps ?_ (List.Subset.trans ?_ hl); rotate_right; decide +kernel)
    | intro x
    | split
    | lift_lets

theorem torqueStage_keeps {l : List Part} {s : State} {a0 : State} {a1 : _} (h : Keeps l s a0)
    (hl : ([.evLast, .sent, .hosts, .disp, .later, .links, .trx, .ctx, .ptg, .hpn, .one O.sysXingDropFlags, .fam O.trxState 4, .fam O.trxEnvPos 4, .fam O.trxEnvNeg 4, .fam O.trxEnvSrc 4, .fam O.trxTorqueOut 4, .fam O.trxTorqueEst 4, .fam O.trxFlags 4, .fam O.trxAngleSrc 4, .fam O.lpeStatus 64, .fam O.lpeTrState 4, .fam O.lpeTrCount 4] : List Part) ⊆ l) : Keeps l s (@State.torqueStage a0 a1) := by
  unfold State.torqueStage
  repeat' first
    | with_reducible assumption
    | with_reducible refine Keeps.ite ?_ ?_
    | (with_reducible refine State.trxDisable_keeps ?_ (List.Subset.trans ?_ hl); rotate_right; decide +kernel)
    | (with_reducible refine State.fwWatch_keeps ?_ (List.Subset.trans ?_ hl); rotate_right; decide +kernel)
    | (with_reducible refine State.showEnv_keeps ?_ (List.Subset.trans ?_ hl); rotate_right; decide +kernel)
    | (with_reducible refine State.modTrx_keeps ?_ (List.Subset.trans ?_ hl); rotate_right; decide +kernel)
    | (with_reducible refine State.setQ_keeps ?_ ⟨_, inL hl ?_, O.trxTorqueEst_has _ ?_⟩; rotate_right; (first | exact Fin.isLt _ | omega | (simp only [List.mem_range] at *; omega)); rotate_right; decide +kernel)
    | (with_reducible refine State.setQ_keeps ?_ ⟨_, inL hl ?_, O.trxTorqueOut_has _ ?_⟩; rotate_right; (first | exact Fin.isLt _ | omega | (simp only [List.mem_range] at *; omega)); rotate_right; decide +kernel)
    | (with_reducible refine State.currentMode_keeps ?_ (List.Subset.trans ?_ hl); rotate_right; decide +kernel)
    | (with_reducible refine State.refsFromTorque_keeps ?_ (List.Subset.trans ?_ hl); rotate_right; decide +kernel)

theorem torqueTick_keeps {l : List Part} {s : State} {a0 : State} (h : Keeps l s a0)
    (hl : ([.evLast, .sent, .hosts, .later, .trx, .chg, .hpn, .one O.thmFactor, .fam O.trxFlags 4] : List Part) ⊆ l) : Keeps l s (@State.torqueTick a0) := by
  unfold State.torqueTick
  repeat' first
    | with_reducible assumption
    | (with_reducible refine State.tickMachine_keeps ?_ (List.Subset.trans ?_ hl); rotate_right; decide +kernel)
    | (with_reducible refine State.chgTorqueTick_keeps ?_ (List.Subset.trans ?_ hl); rotate_right; decide +kernel)
    | (with_reducible refine State.thermalFactors_keeps ?_ (List.Subset.trans ?_ hl); rotate_right; decide +kernel)
    | with_reducible refine Keeps.foldl ?_ ?_
    | intro x

theorem tpSent_keeps {l : List Part} {s : State} {a0 : State} {a1 : _} (h : Keeps l s a0)
    (hl : ([.disp, .net, .one O.sysLateFlags, .one O.netSessions, .one O.netCycSkipped] : List Part) ⊆ l) : Keeps l s (@State.tpSent a0 a1) := by
  unfold State.tpSent
  repeat' first
    | with_reducible assumption
    | (intro x; have hx : Keeps l s x := ?_; clear_value x)
    | with_reducible refine Keeps.ite ?_ ?_
    | (with_reducible refine State.modSess_keeps ?_ (List.Subset.trans ?_ hl); rotate_right; decide +kernel)
    | (with_reducible refine State.tpClose_keeps ?_ (List.Subset.trans ?_ hl); rotate_right; decide +kernel)
    | lift_lets
    | split

theorem tpTimeout_keeps {l : List Part} {s : State} {a0 : State} {a1 : _} (h : Keeps l s a0)
    (hl : ([.disp, .net, .one O.sysLateFlags, .one O.netSessions, .one O.netCycSkipped] : List Part) ⊆ l) : Keeps l s (@State.tpTimeout a0 a1) := by
  unfold State.tpTimeout
  repeat' first
    | with_reducible assumption
    | with_reducible refine Keeps.ite ?_ ?_
    | (with_reducible refine State.tpAbort_keeps ?_ (List.Subset.trans ?_ hl); rotate_right; decide +kernel)
    | (with_reducible refine State.tpFail_keeps ?_ (List.Subset.trans ?_ hl); rotate_right; decide +kernel)
    | split

theorem traceArm_keeps {l : List Part} {s : State} {a0 : _} {a1 : State} (h : Keeps l s a1)
    (hl : ([.tb, .fam O.lpeTrState 4, .fam O.lpeTrTrigAxt 4, .fam O.lpeTrCount 4, .fam O.lpeTrTrigIndex 4] : List Part) ⊆ l) : KeepsP l s (@State.traceArm a0 a1) := by
  unfold State.traceArm
  repeat' first
    | with_reducible assumption
    | dsimp only [List.foldl_cons, List.foldl_nil]
    | (with_reducible refine State.setO_keeps ?_ ⟨_, inL hl ?_, O.lpeTrCount_has _ ?_⟩; rotate_right; (first | exact Fin.isLt _ | omega | (simp only [List.mem_range] at *; omega)); rotate_right; decide +kernel)
    | (with_reducible refine State.setO_keeps ?_ ⟨_, inL hl ?_, O.lpeTrState_has _ ?_⟩; rotate_right; (first | exact Fin.isLt _ | omega | (simp only [List.mem_range] at *; omega)); rotate_right; decide +kernel)
    | (with_reducible refine State.setO_keeps ?_ ⟨_, inL hl ?_, O.lpeTrTrigAxt_has _ ?_⟩; rotate_right; (first | exact Fin.isLt _ | omega | (simp only [List.mem_range] at *; omega)); rotate_right; decide +kernel)
    | (with_reducible refine State.setO_keeps ?_ ⟨_, inL hl ?_, O.lpeTrTrigIndex_has _ ?_⟩; rotate_right; (first | exact Fin.isLt _ | omega | (simp only [List.mem_range] at *; omega)); rotate_right; decide +kernel)
    | (with_reducible refine State.guarded_keeps ?_ ?_ (List.Subset.trans ?_ hl); rotate_right; decide +kernel)
    | (with_reducible refine State.onBuf_keeps ?_ ?_ (List.Subset.trans ?_ hl); rotate_right; decide +kernel)
    | intro x
    | lift_lets
    | with_reducible refine KeepsP.mk ?_
    | (with_reducible refine Keeps.set_tb ?_ (inL hl ?_); rotate_right; decide +kernel)

theorem traceInline_keeps {l : List Part} {s : State} {a0 : State} {a1 : _} {a2 : _} {a3 : _} (h : Keeps l s a0)
    (hl : ([.sent, .xing, .hosts, .later, .hpn, .one O.sysXingDropFlags] : List Part) ⊆ l) : KeepsP l s (@State.traceInline a0 a1 a2 a3) := by
  unfold State.traceInline
  repeat' first
    | with_reducible assumption
    | with_reducible refine KeepsP.ite ?_ ?_
    | (with_reducible refine State.xingSend_keeps ?_ ?_ (List.Subset.trans ?_ hl); rotate_right; decide +kernel)
    | (with_reducible refine State.xingDrop_keeps ?_ (List.Subset.trans ?_ hl); rotate_right; decide +kernel)
    | intro x
    | with_reducible refine KeepsP.mk ?_

theorem traceRead_keeps {l : List Part} {s : State} {a0 : _} {a1 : State} (h : Keeps l s a1)
    (hl : ([.sent, .xing, .hosts, .disp, .later, .traceReads, .hpn, .one O.sysXingDropFlags] : List Part) ⊆ l) : KeepsP l s (@State.traceRead a0 a1) := by
  unfold State.traceRead
  repeat' first
    | with_reducible assumption
    | (intro x; have hx : Keeps l s x := ?_; clear_value x)
    | with_reducible refine KeepsP.ite ?_ ?_
    | (with_reducible refine State.guarded_keeps ?_ ?_ (List.Subset.trans ?_ hl); rotate_right; decide +kernel)
    | (with_reducible refine State.traceInline_keeps ?_ (List.Subset.trans ?_ hl); rotate_right; decide +kernel)
    | (with_reducible refine State.hold_keeps ?_ (List.Subset.trans ?_ hl); rotate_right; decide +kernel)
    | (with_reducible refine State.onBuf_keeps ?_ ?_ (List.Subset.trans ?_ hl); rotate_right; decide +kernel)
    | intro x
    | lift_lets
    | with_reducible refine KeepsP.mk ?_
    | (with_reducible refine Keeps.set_traceReads ?_ (inL hl ?_); rotate_right; decide +kernel)

theorem traceReadDone_keeps {l : List Part} {s : State} {a0 : State} {a1 : _} (h : Keeps l s a0)
    (hl : ([.sent, .xing, .hosts, .disp, .later, .xmem, .traceReads, .hpn, .one O.sysXingDropFlags] : List Part) ⊆ l) : Keeps l s (@State.traceReadDone a0 a1) := by
  unfold State.traceReadDone
  repeat' first
    | with_reducible assumption
    | (intro x; have hx : Keeps l s x := ?_; clear_value x)
    | (with_reducible refine State.endHeld_keeps ?_ (List.Subset.trans ?_ hl); rotate_right; decide +kernel)
    | (with_reducible refine State.xingSend_keeps ?_ ?_ (List.Subset.trans ?_ hl); rotate_right; decide +kernel)
    | (with_reducible refine State.modDisp_keeps ?_ (List.Subset.trans ?_ hl); rotate_right; decide +kernel)
    | intro x
    | lift_lets
    | split
    | (with_reducible refine Keeps.set_traceReads ?_ (inL hl ?_); rotate_right; decide +kernel)
    | (with_reducible refine Keeps.set_xmem ?_ (inL hl ?_); rotate_right; decide +kernel)

theorem traceStop_keeps {l : List Part} {s : State} {a0 : _} {a1 : State} (h : Keeps l s a1)
    (hl : ([.evLast, .sent, .hosts, .later, .hpn, .fam O.lpeTrState 4, .fam O.lpeTrCount 4] : List Part) ⊆ l) : KeepsP l s (@State.traceStop a0 a1) := by
  unfold State.traceStop
  repeat' first
    | with_reducible assumption
    | (with_reducible refine State.guarded_keeps ?_ ?_ (List.Subset.trans ?_ hl); rotate_right; decide +kernel)
    | (with_reducible refine State.traceEnd_keeps ?_ (List.Subset.trans ?_ hl); rotate_right; decide +kernel)
    | (with_reducible refine State.onBuf_keeps ?_ ?_ (List.Subset.trans ?_ hl); rotate_right; decide +kernel)
    | intro x
    | lift_lets
    | with_reducible refine KeepsP.mk ?_

theorem watchAngle_keeps {l : List Part} {s : State} {a0 : State} {a1 : _} (h : Keeps l s a0)
    (hl : ([.trx] : List Part) ⊆ l) : Keeps l s (@State.watchAngle a0 a1) := by
  unfold State.watchAngle
  repeat' first
    | with_reducible assumption
    | (with_reducible refine State.modTrx_keeps ?_ (List.Subset.trans ?_ hl); rotate_right; decide +kernel)

theorem tractionSample_keeps {l : List Part} {s : State} {a0 : State} {a1 : _} (h : Keeps l s a0)
    (hl : ([.evLast, .sent, .hosts, .disp, .later, .links, .trx, .ctx, .ptg, .amc, .hpn, .one O.sysXingDropFlags, .fam O.trxTorqueReq 4, .fam O.trxState 4, .fam O.trxEnvPos 4, .fam O.trxEnvNeg 4, .fam O.trxEnvSrc 4, .fam O.trxTorqueOut 4, .fam O.trxTorqueEst 4, .fam O.trxSpeed 4, .fam O.trxRule 4, .fam O.trxFlags 4, .fam O.trxFault 4, .fam O.trxAngleSrc 4, .fam O.lpeStatus 64, .fam O.lpeTrState 4, .fam O.lpeTrCount 4] : List Part) ⊆ l) : Keeps l s (@State.tractionSample a0 a1) := by
  unfold State.tractionSample
  repeat' first
    | with_reducible assumption
    | with_reducible refine Keeps.ite ?_ ?_
    | (with_reducible refine State.ruleCt_keeps ?_ (List.Subset.trans ?_ hl); rotate_right; decide +kernel)
    | (with_reducible refine State.watchAngle_keeps ?_ (List.Subset.trans ?_ hl); rotate_right; decide +kernel)
    | (with_reducible refine State.obsSource_keeps ?_ (List.Subset.trans ?_ hl); rotate_right; decide +kernel)
    | (with_reducible refine State.flowAngle_keeps ?_ (List.Subset.trans ?_ hl); rotate_right; decide +kernel)
    | (with_reducible refine State.torqueStage_keeps ?_ (List.Subset.trans ?_ hl); rotate_right; decide +kernel)
    | (with_reducible refine State.modTrx_keeps ?_ (List.Subset.trans ?_ hl); rotate_right; decide +kernel)
    | (with_reducible refine State.timedApply_keeps ?_ (List.Subset.trans ?_ hl); rotate_right; decide +kernel)
    | (with_reducible refine State.eligStep_keeps ?_ (List.Subset.trans ?_ hl); rotate_right; decide +kernel)
    | (with_reducible refine State.angleWatch_keeps ?_ (List.Subset.trans ?_ hl); rotate_right; decide +kernel)
    | (with_reducible refine State.takeSpeed_keeps ?_ (List.Subset.trans ?_ hl); rotate_right; decide +kernel)
    | (with_reducible refine State.setQ_keeps ?_ ⟨_, inL hl ?_, O.trxTorqueEst_has _ ?_⟩; rotate_right; (first | exact Fin.isLt _ | omega | (simp only [List.mem_range] at *; omega)); rotate_right; decide +kernel)
    | (with_reducible refine State.setQ_keeps ?_ ⟨_, inL hl ?_, O.trxTorqueOut_has _ ?_⟩; rotate_right; (first | exact Fin.isLt _ | omega | (simp only [List.mem_range] at *; omega)); rotate_right; decide +kernel)
    | (with_reducible refine State.sendSafe_keeps ?_ (List.Subset.trans ?_ hl); rotate_right; decide +kernel)

theorem trigger_keeps {l : List Part} {s : State} {a0 : State} {a1 : _} (h : Keeps l s a0)
    (hl : ([.evLast, .sent, .hosts, .disp, .later, .links, .cgs, .trx, .ctx, .tb, .ptg, .chg, .aux, .amc, .rpk, .hpn, .one O.sysXingDropFlags, .one O.sysLateFlags, .fam O.trxState 4, .fam O.trxFlags 4, .fam O.trxFault 4, .fam O.trxAngleSrc 4, .fam O.trxSsState 4, .fam O.trxSsLosses 4, .fam O.lpeOut 64, .fam O.lpeInteg 64, .fam O.lpeStatus 64, .fam O.lpeLateCount 64, .fam O.lpeTrState 4, .fam O.lpeTrTrigAxt 4, .fam O.lpeTrCount 4, .fam O.lpeTrTrigIndex 4, .one O.chgState, .one O.chgInput, .one O.chgFlags, .one O.chgCause, .one O.chgIInLim, .one O.chgPIn, .one O.auxState, .one O.auxFlags, .one O.auxCause, .one O.auxVRef, .one O.auxPhaseState, .one O.auxRestarts, .fam O.amcSpeedReq 6, .fam O.amcState 6, .fam O.amcSpeed 6, .fam O.amcFlags 6, .fam O.amcFault 6, .one O.amcParkState, .one O.rpkState, .one O.rpkFlags] : List Part) ⊆ l) : Keeps l s (@State.trigger a0 a1) := by
  unfold State.trigger
  repeat' first
    | with_reducible assumption
    | with_reducible refine Keeps.ite ?_ ?_
    | (with_reducible refine State.ctxStart_keeps ?_ (List.Subset.trans ?_ hl); rotate_right; decide +kernel)
    | (with_reducible refine State.modCg_keeps ?_ (List.Subset.trans ?_ hl); rotate_right; decide +kernel)
    | (with_reducible refine State.takeApplied_keeps ?_ (List.Subset.trans ?_ hl); rotate_right; decide +kernel)
    | (with_reducible refine State.runLate_keeps ?_ (List.Subset.trans ?_ hl); rotate_right; decide +kernel)
    | (with_reducible refine State.ctxStop_keeps ?_ (List.Subset.trans ?_ hl); rotate_right; decide +kernel)
    | (with_reducible refine State.doSwap_keeps ?_ (List.Subset.trans ?_ hl); rotate_right; decide +kernel)
    | (with_reducible refine State.modCtx_keeps ?_ (List.Subset.trans ?_ hl); rotate_right; decide +kernel)
    | (with_reducible refine State.when_keeps ?_ ?_ (List.Subset.trans ?_ hl); rotate_right; decide +kernel)
    | (with_reducible refine State.sampleHooks_keeps ?_ (List.Subset.trans ?_ hl); rotate_right; decide +kernel)
    | intro x
    | lift_lets
    | split

theorem trimEngage_keeps {l : List Part} {s : State} {a0 : State} (h : Keeps l s a0)
    (hl : ([.evLast, .sent, .hosts, .later, .ctx, .hpn, .fam O.lpeStatus 64, .one O.auxFlags] : List Part) ⊆ l) : Keeps l s (@State.trimEngage a0) := by
  unfold State.trimEngage
  repeat' first
    | with_reducible assumption
    | (intro x; have hx : Keeps l s x := ?_; clear_value x)
    | with_reducible refine Keeps.ite ?_ ?_
    | (with_reducible refine State.ctxStart_keeps ?_ (List.Subset.trans ?_ hl); rotate_right; decide +kernel)
    | (with_reducible refine State.raise_keeps ?_ (List.Subset.trans ?_ hl); rotate_right; decide +kernel)
    | (with_reducible refine State.modCtx_keeps ?_ (List.Subset.trans ?_ hl); rotate_right; decide +kernel)
    | (with_reducible refine State.orO_keeps ?_ ⟨_, inL hl ?_, O.auxFlags_has⟩; rotate_right; decide +kernel)
    | with_reducible refine Keeps.foldl ?_ ?_
    | intro x
    | lift_lets
    | split

theorem trxDisableCmd_keeps {l : List Part} {s : State} {a0 : _} {a1 : State} (h : Keeps l s a1)
    (hl : ([.evLast, .sent, .hosts, .disp, .later, .links, .trx, .ctx, .ptg, .hpn, .one O.sysXingDropFlags, .fam O.trxState 4, .fam O.trxFault 4, .fam O.trxAngleSrc 4, .fam O.lpeStatus 64, .fam O.lpeTrState 4, .fam O.lpeTrCount 4] : List Part) ⊆ l) : KeepsP l s (@State.trxDisableCmd a0 a1) := by
  unfold State.trxDisableCmd
  repeat' first
    | with_reducible assumption
    | (intro x; have hx : Keeps l s x := ?_; clear_value x)
    | with_reducible refine Keeps.ite ?_ ?_
    | with_reducible refine KeepsP.ite ?_ ?_
    | (with_reducible refine State.trxDisable_keeps ?_ (List.Subset.trans ?_ hl); rotate_right; decide +kernel)
    | (with_reducible refine State.setO_keeps ?_ ⟨_, inL hl ?_, O.trxFault_has _ ?_⟩; rotate_right; (first | exact Fin.isLt _ | omega | (simp only [List.mem_range] at *; omega)); rotate_right; decide +kernel)
    | (with_reducible refine State.trxStopReq_keeps ?_ (List.Subset.trans ?_ hl); rotate_right; decide +kernel)
    | (with_reducible refine State.modTrx_keeps ?_ (List.Subset.trans ?_ hl); rotate_right; decide +kernel)
    | (with_reducible refine State.trxSet_keeps ?_ (List.Subset.trans ?_ hl); rotate_right; decide +kernel)
    | (with_reducible refine State.onTrx_keeps ?_ ?_ (List.Subset.trans ?_ hl); rotate_right; decide +kernel)
    | (with_reducible refine State.guarded_keeps ?_ ?_ (List.Subset.trans ?_ hl); rotate_right; decide +kernel)
    | intro x
    | lift_lets
    | with_reducible refine KeepsP.mk ?_

theorem trxEnable_keeps {l : List Part} {s : State} {a0 : _} {a1 : State} (h : Keeps l s a1)
    (hl : ([.evLast, .sent, .hosts, .disp, .later, .links, .trx, .ctx, .ptg, .chg, .amc, .hpn, .one O.sysXingDropFlags, .fam O.trxState 4, .fam O.trxSpeed 4, .fam O.lpeUnits 64, .fam O.lpeOut 64, .fam O.lpeInteg 64, .fam O.lpeStatus 64, .fam O.lpeTrState 4, .fam O.lpeTrCount 4, .one O.chgState, .one O.chgInput, .one O.chgFlags, .one O.chgCause, .one O.chgIInLim, .one O.chgPIn] : List Part) ⊆ l) : KeepsP l s (@State.trxEnable a0 a1) := by
  unfold State.trxEnable
  repeat' first
    | with_reducible assumption
    | (with_reducible refine State.enableBegin_keeps ?_ (List.Subset.trans ?_ hl); rotate_right; decide +kernel)
    | (with_reducible refine State.onTrx_keeps ?_ ?_ (List.Subset.trans ?_ hl); rotate_right; decide +kernel)
    | (with_reducible refine State.guarded_keeps ?_ ?_ (List.Subset.trans ?_ hl); rotate_right; decide +kernel)
    | (with_reducible refine State.hold_keeps ?_ (List.Subset.trans ?_ hl); rotate_right; decide +kernel)
    | intro x
    | lift_lets
    | with_reducible refine KeepsP.mk ?_

theorem txWire_keeps {l : List Part} {s : State} {a0 : State} {a1 : _} (h : Keeps l s a0)
    (hl : ([.sent] : List Part) ⊆ l) : Keeps l s (@State.txWire a0 a1) := by
  unfold State.txWire
  repeat' first
    | with_reducible assumption
    | (with_reducible refine State.send_keeps ?_ (List.Subset.trans ?_ hl); rotate_right; decide +kernel)
    | intro x
    | lift_lets
    | split

theorem txDone_keeps {l : List Part} {s : State} {a0 : State} {a1 : _} {a2 : _} (h : Keeps l s a0)
    (hl : ([.sent, .disp, .thm, .net, .one O.sysLateFlags, .one O.netSessions, .one O.netCycSkipped] : List Part) ⊆ l) : Keeps l s (@State.txDone a0 a1 a2) := by
  unfold State.txDone
  repeat' first
    | with_reducible assumption
    | (intro x; have hx : Keeps l s x := ?_; clear_value x)
    | with_reducible refine Keeps.ite ?_ ?_
    | (with_reducible refine State.txOutcome_keeps ?_ (List.Subset.trans ?_ hl); rotate_right; decide +kernel)
    | (with_reducible refine State.tpSent_keeps ?_ (List.Subset.trans ?_ hl); rotate_right; decide +kernel)
    | (with_reducible refine State.tpFail_keeps ?_ (List.Subset.trans ?_ hl); rotate_right; decide +kernel)
    | (with_reducible refine State.txWire_keeps ?_ (List.Subset.trans ?_ hl); rotate_right; decide +kernel)
    | (with_reducible refine State.txWithdraw_keeps ?_ (List.Subset.trans ?_ hl); rotate_right; decide +kernel)
    | (with_reducible refine State.modNet_keeps ?_ (List.Subset.trans ?_ hl); rotate_right; decide +kernel)
    | intro x
    | lift_lets
    | split
    | (with_reducible refine Keeps.set_thm ?_ (inL hl ?_); rotate_right; decide +kernel)

theorem updAbort_keeps {l : List Part} {s : State} {a0 : _} {a1 : State} (h : Keeps l s a1)
    (hl : ([.disp, .upd, .one O.updIl, .fam O.updRunning 6, .fam O.updSpare 6, .fam O.updState 6, .fam O.updReceived 6] : List Part) ⊆ l) : KeepsP l s (@State.updAbort a0 a1) := by
  unfold State.updAbort
  repeat' first
    | with_reducible assumption
    | (intro x; have hx : Keeps l s x := ?_; clear_value x)
    | (with_reducible refine State.updShow_keeps ?_ (List.Subset.trans ?_ hl); rotate_right; decide +kernel)
    | (with_reducible refine State.onIsl_keeps ?_ ?_ (List.Subset.trans ?_ hl); rotate_right; decide +kernel)
    | (with_reducible refine State.setO_keeps ?_ ⟨_, inL hl ?_, O.updReceived_has _ ?_⟩; rotate_right; (first | exact Fin.isLt _ | omega | (simp only [List.mem_range] at *; omega)); rotate_right; decide +kernel)
    | (with_reducible refine State.setO_keeps ?_ ⟨_, inL hl ?_, O.updState_has _ ?_⟩; rotate_right; (first | exact Fin.isLt _ | omega | (simp only [List.mem_range] at *; omega)); rotate_right; decide +kernel)
    | (with_reducible refine State.endAll_keeps ?_ (List.Subset.trans ?_ hl); rotate_right; decide +kernel)
    | (with_reducible refine State.guarded_keeps ?_ ?_ (List.Subset.trans ?_ hl); rotate_right; decide +kernel)
    | (with_reducible refine State.modUpd_keeps ?_ (List.Subset.trans ?_ hl); rotate_right; decide +kernel)
    | intro x
    | lift_lets
    | with_reducible refine KeepsP.mk ?_

theorem updActivate_keeps {l : List Part} {s : State} {a0 : _} {a1 : State} (h : Keeps l s a1)
    (hl : ([.evLast, .sent, .hosts, .disp, .later, .forceA, .forceB, .links, .hpn, .upd, .net, .one O.updBusy, .fam O.updState 6] : List Part) ⊆ l) : KeepsP l s (@State.updActivate a0 a1) := by
  unfold State.updActivate
  repeat' first
    | with_reducible assumption
    | (with_reducible refine State.onIsl_keeps ?_ ?_ (List.Subset.trans ?_ hl); rotate_right; decide +kernel)
    | (with_reducible refine State.restartBegin_keeps ?_ (List.Subset.trans ?_ hl); rotate_right; decide +kernel)
    | (with_reducible refine State.guarded_keeps ?_ ?_ (List.Subset.trans ?_ hl); rotate_right; decide +kernel)
    | (with_reducible refine State.hold_keeps ?_ (List.Subset.trans ?_ hl); rotate_right; decide +kernel)
    | intro x
    | lift_lets
    | with_reducible refine KeepsP.mk ?_

theorem updBegin_keeps {l : List Part} {s : State} {a0 : _} {a1 : State} (h : Keeps l s a1)
    (hl : ([.evLast, .sent, .hosts, .disp, .later, .hpn, .upd, .one O.thmFlags, .one O.updIl, .fam O.updRunning 6, .fam O.updSpare 6, .fam O.updState 6] : List Part) ⊆ l) : KeepsP l s (@State.updBegin a0 a1) := by
  unfold State.updBegin
  repeat' first
    | with_reducible assumption
    | (with_reducible refine State.thermalReply_keeps ?_ (List.Subset.trans ?_ hl); rotate_right; decide +kernel)
    | (intro x; have hx : Keeps l s x := ?_; clear_value x)
    | (with_reducible refine State.updShow_keeps ?_ (List.Subset.trans ?_ hl); rotate_right; decide +kernel)
    | (with_reducible refine State.onIsl_keeps ?_ ?_ (List.Subset.trans ?_ hl); rotate_right; decide +kernel)
    | (with_reducible refine State.setO_keeps ?_ ⟨_, inL hl ?_, O.updState_has _ ?_⟩; rotate_right; (first | exact Fin.isLt _ | omega | (simp only [List.mem_range] at *; omega)); rotate_right; decide +kernel)
    | (with_reducible refine State.guarded_keeps ?_ ?_ (List.Subset.trans ?_ hl); rotate_right; decide +kernel)
    | (with_reducible refine State.modUpd_keeps ?_ (List.Subset.trans ?_ hl); rotate_right; decide +kernel)
    | (with_reducible refine State.hold_keeps ?_ (List.Subset.trans ?_ hl); rotate_right; decide +kernel)
    | intro x
    | lift_lets
    | with_reducible refine KeepsP.mk ?_

theorem updCommit_keeps {l : List Part} {s : State} {a0 : _} {a1 : State} (h : Keeps l s a1)
    (hl : ([.flash, .evLast, .sent, .hosts, .disp, .later, .hpn, .sec, .upd, .thm, .one O.thmFlags, .one O.logHead, .one O.logChain, .one O.logCount, .one O.logQueued, .one O.updIl, .one O.updBusy, .fam O.updRunning 6, .fam O.updSpare 6, .fam O.updState 6, .fam O.updReceived 6, .fam O.updSecFloor 6] : List Part) ⊆ l) : KeepsP l s (@State.updCommit a0 a1) := by
  unfold State.updCommit
  refine thermalReply_keeps (guarded_keeps h (fun u hu => onIsl_keeps hu (fun i => ?_) (List.Subset.trans (by decide +kernel) hl)) (List.Subset.trans (by decide +kernel) hl)) (List.Subset.trans (by decide +kernel) hl)
  lift_lets
  intro s1 s2 s3 id v s4
  have h1 : Keeps l s s1 := hold_keeps hu (List.Subset.trans (by decide +kernel) hl)
  have h2 : Keeps l s s2 := modUpd_keeps h1 (List.Subset.trans (by decide +kernel) hl)
  have h3 : Keeps l s s3 := setO_keeps (setO_keeps (setO_keeps h2 ⟨_, (inL hl (by decide +kernel)), O.updState_has _ i.isLt⟩) ⟨_, (inL hl (by decide +kernel)), O.updReceived_has _ i.isLt⟩) ⟨_, (inL hl (by decide +kernel)), O.updBusy_has⟩
  clear_value s3
  have h4 : Keeps l s s4 := audit_keeps h3 (List.Subset.trans (by decide +kernel) hl)
  clear_value s4
  lift_lets
  intro t s5
  have ht : Keeps l s t := auditObj_keeps h4 (List.Subset.trans (by decide +kernel) hl)
  have h5 : Keeps l s s5 := Keeps.ite (setO_keeps (Keeps.set_flash ht (inL hl (by decide +kernel))) ⟨_, (inL hl (by decide +kernel)), O.updSecFloor_has _ i.isLt⟩) h4
  clear_value s5
  exact KeepsP.mk (endAll_keeps (updEvent_keeps (updShow_keeps h5 (List.Subset.trans (by decide +kernel) hl)) (List.Subset.trans (by decide +kernel) hl)) (List.Subset.trans (by decide +kernel) hl))

theorem updPut_keeps {l : List Part} {s : State} {a0 : State} {a1 : _} {a2 : _} (h : Keeps l s a0)
    (hl : ([.upd, .one O.updIl, .fam O.updRunning 6, .fam O.updSpare 6, .fam O.updReceived 6] : List Part) ⊆ l) : Keeps l s (@State.updPut a0 a1 a2) := by
  unfold State.updPut
  repeat' first
    | with_reducible assumption
    | (with_reducible refine State.updShow_keeps ?_ (List.Subset.trans ?_ hl); rotate_right; decide +kernel)
    | (with_reducible refine State.setO_keeps ?_ ⟨_, inL hl ?_, O.updReceived_has _ ?_⟩; rotate_right; (first | exact Fin.isLt _ | omega | (simp only [List.mem_range] at *; omega)); rotate_right; decide +kernel)
    | (with_reducible refine State.modUpd_keeps ?_ (List.Subset.trans ?_ hl); rotate_right; decide +kernel)

theorem updFlashDone_keeps {l : List Part} {s : State} {a0 : State} {a1 : _} (h : Keeps l s a0)
    (hl : ([.free, .evLast, .sent, .hosts, .disp, .later, .hpn, .upd, .thm, .one O.thmFlags, .one O.updIl, .fam O.updRunning 6, .fam O.updSpare 6, .fam O.updState 6, .fam O.updReceived 6] : List Part) ⊆ l) : Keeps l s (@State.updFlashDone a0 a1) := by
  unfold State.updFlashDone
  repeat' first
    | with_reducible assumption
    | (intro x; have hx : Keeps l s x := ?_; clear_value x)
    | with_reducible refine Keeps.ite ?_ ?_
    | (with_reducible refine State.updShow_keeps ?_ (List.Subset.trans ?_ hl); rotate_right; decide +kernel)
    | (with_reducible refine State.flashRefuse_keeps ?_ (List.Subset.trans ?_ hl); rotate_right; decide +kernel)
    | (with_reducible refine State.updPut_keeps ?_ (List.Subset.trans ?_ hl); rotate_right; decide +kernel)
    | (with_reducible refine State.setO_keeps ?_ ⟨_, inL hl ?_, O.updReceived_has _ ?_⟩; rotate_right; (first | exact Fin.isLt _ | omega | (simp only [List.mem_range] at *; omega)); rotate_right; decide +kernel)
    | (with_reducible refine State.setO_keeps ?_ ⟨_, inL hl ?_, O.updState_has _ ?_⟩; rotate_right; (first | exact Fin.isLt _ | omega | (simp only [List.mem_range] at *; omega)); rotate_right; decide +kernel)
    | (with_reducible refine State.endAll_keeps ?_ (List.Subset.trans ?_ hl); rotate_right; decide +kernel)
    | (with_reducible refine State.flashPause_keeps ?_ (List.Subset.trans ?_ hl); rotate_right; decide +kernel)
    | (with_reducible refine State.modUpd_keeps ?_ (List.Subset.trans ?_ hl); rotate_right; decide +kernel)
    | (with_reducible refine State.takeFree_keeps ?_ (List.Subset.trans ?_ hl); rotate_right; decide +kernel)
    | (with_reducible refine State.updEvent_keeps ?_ (List.Subset.trans ?_ hl); rotate_right; decide +kernel)
    | lift_lets
    | split

theorem updRollback_keeps {l : List Part} {s : State} {a0 : _} {a1 : State} (h : Keeps l s a1)
    (hl : ([.evLast, .sent, .hosts, .disp, .later, .forceA, .forceB, .links, .hpn, .upd, .net, .one O.updBusy, .fam O.updState 6] : List Part) ⊆ l) : KeepsP l s (@State.updRollback a0 a1) := by
  unfold State.updRollback
  repeat' first
    | with_reducible assumption
    | (with_reducible refine State.onIsl_keeps ?_ ?_ (List.Subset.trans ?_ hl); rotate_right; decide +kernel)
    | (with_reducible refine State.restartBegin_keeps ?_ (List.Subset.trans ?_ hl); rotate_right; decide +kernel)
    | (with_reducible refine State.guarded_keeps ?_ ?_ (List.Subset.trans ?_ hl); rotate_right; decide +kernel)
    | (with_reducible refine State.hold_keeps ?_ (List.Subset.trans ?_ hl); rotate_right; decide +kernel)
    | intro x
    | with_reducible refine KeepsP.mk ?_

theorem updVerify_keeps {l : List Part} {s : State} {a0 : _} {a1 : State} (h : Keeps l s a1)
    (hl : ([.disp, .upd] : List Part) ⊆ l) : KeepsP l s (@State.updVerify a0 a1) := by
  unfold State.updVerify
  repeat' first
    | with_reducible assumption
    | (with_reducible refine State.onIsl_keeps ?_ ?_ (List.Subset.trans ?_ hl); rotate_right; decide +kernel)
    | (with_reducible refine State.guarded_keeps ?_ ?_ (List.Subset.trans ?_ hl); rotate_right; decide +kernel)
    | (with_reducible refine State.modUpd_keeps ?_ (List.Subset.trans ?_ hl); rotate_right; decide +kernel)
    | (with_reducible refine State.hold_keeps ?_ (List.Subset.trans ?_ hl); rotate_right; decide +kernel)
    | intro x
    | with_reducible refine KeepsP.mk ?_

theorem updWrite_keeps {l : List Part} {s : State} {a0 : _} {a1 : State} (h : Keeps l s a1)
    (hl : ([.evLast, .sent, .hosts, .disp, .later, .hpn, .upd, .thm, .one O.thmFlags, .one O.updIl, .fam O.updRunning 6, .fam O.updSpare 6, .fam O.updReceived 6] : List Part) ⊆ l) : KeepsP l s (@State.updWrite a0 a1) := by
  unfold State.updWrite
  repeat' first
    | with_reducible assumption
    | (with_reducible refine State.thermalReply_keeps ?_ (List.Subset.trans ?_ hl); rotate_right; decide +kernel)
    | with_reducible refine KeepsP.ite ?_ ?_
    | (with_reducible refine State.onIsl_keeps ?_ ?_ (List.Subset.trans ?_ hl); rotate_right; decide +kernel)
    | (with_reducible refine State.updPut_keeps ?_ (List.Subset.trans ?_ hl); rotate_right; decide +kernel)
    | (with_reducible refine State.guarded_keeps ?_ ?_ (List.Subset.trans ?_ hl); rotate_right; decide +kernel)
    | (with_reducible refine State.flashPause_keeps ?_ (List.Subset.trans ?_ hl); rotate_right; decide +kernel)
    | (with_reducible refine State.modUpd_keeps ?_ (List.Subset.trans ?_ hl); rotate_right; decide +kernel)
    | (with_reducible refine State.hold_keeps ?_ (List.Subset.trans ?_ hl); rotate_right; decide +kernel)
    | intro x
    | lift_lets
    | with_reducible refine KeepsP.mk ?_

theorem vioLoss_keeps {l : List Part} {s : State} {a0 : State} {a1 : _} (h : Keeps l s a0)
    (hl : ([.evLast, .sent, .hosts, .slots, .disp, .later, .ctx, .ptg, .adc, .amc, .hpn, .sec, .thm, .pwr, .one O.sysHostPresent, .one O.sysHostLeaseOwner, .one O.secSession, .one O.logHead, .one O.logChain, .one O.logCount, .one O.logQueued, .fam O.lpeStatus 64, .fam O.amcFlags 6] : List Part) ⊆ l) : Keeps l s (@State.vioLoss a0 a1) := by
  unfold State.vioLoss
  repeat' first
    | with_reducible assumption
    | with_reducible refine Keeps.ite ?_ ?_
    | (with_reducible refine State.modPwr_keeps ?_ (List.Subset.trans ?_ hl); rotate_right; decide +kernel)
    | (with_reducible refine State.heldSync_keeps ?_ (List.Subset.trans ?_ hl); rotate_right; decide +kernel)
    | (with_reducible refine State.hostReset_keeps ?_ (List.Subset.trans ?_ hl); rotate_right; decide +kernel)

theorem vioReturn_keeps {l : List Part} {s : State} {a0 : State} {a1 : _} (h : Keeps l s a0)
    (hl : ([.pwr] : List Part) ⊆ l) : Keeps l s (@State.vioReturn a0 a1) := by
  unfold State.vioReturn
  repeat' first
    | with_reducible assumption
    | (with_reducible refine State.modPwr_keeps ?_ (List.Subset.trans ?_ hl); rotate_right; decide +kernel)

theorem vmainReset_keeps {l : List Part} {s : State} {a0 : State} {a1 : _} (h : Keeps l s a0)
    (hl : ([.evLast, .sent, .hosts, .slots, .disp, .later, .forceA, .forceB, .links, .trx, .ctx, .ptg, .adc, .chg, .aux, .amc, .hpn, .thm, .bst, .pwr, .allObjs, .one O.sysClkStatus, .one O.sysXingDropFlags, .one O.pwrResetCause, .one O.thmFlags, .one O.thmTripLatch, .fam O.pwmDriveTable 40, .fam O.trxState 4, .fam O.trxRule 4, .fam O.trxFault 4, .fam O.trxAngleSrc 4, .fam O.trxSsState 4, .fam O.lpeUnits 64, .fam O.lpeBankB 64, .fam O.lpeStatus 64, .fam O.lpeTrState 4, .fam O.lpeTrCount 4, .fam O.adcStatus 12, .one O.chgState, .one O.chgInput, .one O.chgFlags, .one O.chgCause, .one O.chgIInLim, .one O.chgPIn, .one O.auxState, .one O.auxFlags, .one O.auxCause, .one O.auxPhaseState, .fam O.amcState 6, .fam O.amcSpeed 6, .fam O.amcFlags 6, .fam O.amcFault 6, .one O.amcParkState, .one O.bstState, .one O.bstLast] : List Part) ⊆ l) : Keeps l s (@State.vmainReset a0 a1) := by
  unfold State.vmainReset
  repeat' first
    | with_reducible assumption
    | with_reducible refine Keeps.ite ?_ ?_
    | (with_reducible refine State.amcFlagsBack_keeps ?_ (List.Subset.trans ?_ hl); rotate_right; decide +kernel)
    | (with_reducible refine State.bootBegin_keeps ?_ (List.Subset.trans ?_ hl); rotate_right; decide +kernel)
    | (with_reducible refine State.modPwr_keeps ?_ (List.Subset.trans ?_ hl); rotate_right; decide +kernel)
    | (with_reducible refine State.heldSync_keeps ?_ (List.Subset.trans ?_ hl); rotate_right; decide +kernel)
    | (with_reducible refine State.latchReturn_keeps ?_ (List.Subset.trans ?_ hl); rotate_right; decide +kernel)
    | (with_reducible refine State.showClk_keeps ?_ (List.Subset.trans ?_ hl); rotate_right; decide +kernel)
    | (with_reducible refine State.noteReset_keeps ?_ (List.Subset.trans ?_ hl); rotate_right; decide +kernel)
    | (with_reducible refine State.returnObjs_keeps ?_ (List.Subset.trans ?_ hl); rotate_right; decide +kernel)
    | (with_reducible refine State.redefault_keeps ?_ (List.Subset.trans ?_ hl); rotate_right; decide +kernel)
    | lift_lets
    | (with_reducible refine Keeps.set_hosts_disp_later ?_ (inL hl ?_) (inL hl ?_) (inL hl ?_) (inL hl ?_); rotate_right; decide +kernel; rotate_right; decide +kernel; rotate_right; decide +kernel; rotate_right; decide +kernel)

theorem vmainReturn_keeps {l : List Part} {s : State} {a0 : State} {a1 : _} (h : Keeps l s a0)
    (hl : ([.axt, .evLast, .sent, .follow, .hosts, .slots, .disp, .later, .forceA, .forceB, .links, .trx, .ctx, .ptg, .adc, .chg, .aux, .amc, .hpn, .thm, .bst, .pwr, .allObjs, .one O.sysClkStatus, .one O.sysXingDropFlags, .one O.pwrState, .one O.pwrTarget, .one O.pwrResetCause, .one O.pwrWakeCause, .one O.thmFlags, .one O.thmTripLatch, .fam O.pwmDriveTable 40, .fam O.trxState 4, .fam O.trxRule 4, .fam O.trxFault 4, .fam O.trxAngleSrc 4, .fam O.trxSsState 4, .fam O.lpeUnits 64, .fam O.lpeBankB 64, .fam O.lpeStatus 64, .fam O.lpeTrState 4, .fam O.lpeTrCount 4, .fam O.adcStatus 12, .one O.chgState, .one O.chgInput, .one O.chgFlags, .one O.chgCause, .one O.chgIInLim, .one O.chgPIn, .one O.auxState, .one O.auxFlags, .one O.auxCause, .one O.auxPhaseState, .fam O.amcState 6, .fam O.amcSpeed 6, .fam O.amcFlags 6, .fam O.amcFault 6, .one O.amcParkState, .one O.bstState, .one O.bstLast] : List Part) ⊆ l) : Keeps l s (@State.vmainReturn a0 a1) := by
  unfold State.vmainReturn
  repeat' first
    | with_reducible assumption
    | with_reducible refine Keeps.ite ?_ ?_
    | (with_reducible refine State.modPwr_keeps ?_ (List.Subset.trans ?_ hl); rotate_right; decide +kernel)
    | (with_reducible refine State.wakeUp_keeps ?_ (List.Subset.trans ?_ hl); rotate_right; decide +kernel)
    | (with_reducible refine State.latchReturn_keeps ?_ (List.Subset.trans ?_ hl); rotate_right; decide +kernel)
    | (with_reducible refine State.vmainReset_keeps ?_ (List.Subset.trans ?_ hl); rotate_right; decide +kernel)

theorem vstbyLoss_keeps {l : List Part} {s : State} {a0 : State} (h : Keeps l s a0)
    (hl : ([.axt, .flash, .dirty, .free, .evLast, .sent, .follow, .xing, .clk, .hosts, .slots, .disp, .later, .xmem, .forceA, .forceB, .links, .cgs, .trx, .ctx, .tb, .traceReads, .dcl, .ptg, .adc, .pos, .prb, .chg, .aux, .amc, .rpk, .hpn, .sec, .upd, .thm, .bst, .patina, .pwr, .net, .allObjs, .one O.sysClkStatus, .one O.secLc, .one O.secAttEpoch, .one O.secAttNext, .one O.secIdNext, .fam O.pwmDriveTable 40, .fam O.trxRule 4, .fam O.trxSsState 4, .fam O.lpeUnits 64, .fam O.lpeBankB 64, .fam O.adcStatus 12, .fam O.posAngle 4, .fam O.posCount 4, .fam O.posSpeed 4, .fam O.posStatus 4] : List Part) ⊆ l) : Keeps l s (@State.vstbyLoss a0) := by
  unfold State.vstbyLoss
  repeat' first
    | with_reducible assumption
    | with_reducible refine Keeps.ite ?_ ?_
    | (with_reducible refine State.modPwr_keeps ?_ (List.Subset.trans ?_ hl); rotate_right; decide +kernel)
    | (with_reducible refine State.wholeReset_keeps ?_ (List.Subset.trans ?_ hl); rotate_right; decide +kernel)
    | (with_reducible refine State.setO_keeps ?_ ⟨.allObjs, inL hl ?_, allObjs_has _⟩; rotate_right; decide +kernel)
    | intro x
    | lift_lets
    | (with_reducible refine Keeps.set_sec ?_ (inL hl ?_); rotate_right; decide +kernel)

theorem wakeEvent_keeps {l : List Part} {s : State} {a0 : State} {a1 : _} (h : Keeps l s a0)
    (hl : ([.axt, .evLast, .sent, .follow, .hosts, .later, .hpn, .pwr, .one O.pwrState, .one O.pwrTarget, .one O.pwrWakeCause] : List Part) ⊆ l) : Keeps l s (@State.wakeEvent a0 a1) := by
  unfold State.wakeEvent
  repeat' first
    | with_reducible assumption
    | with_reducible refine Keeps.ite ?_ ?_
    | (with_reducible refine State.modPwr_keeps ?_ (List.Subset.trans ?_ hl); rotate_right; decide +kernel)
    | (with_reducible refine State.wakeUp_keeps ?_ (List.Subset.trans ?_ hl); rotate_right; decide +kernel)
    | (with_reducible refine State.setO_keeps ?_ ⟨_, inL hl ?_, O.pwrWakeCause_has⟩; rotate_right; decide +kernel)
    | (with_reducible refine State.raise_keeps ?_ (List.Subset.trans ?_ hl); rotate_right; decide +kernel)

theorem wakeHoldEnd_keeps {l : List Part} {s : State} {a0 : State} (h : Keeps l s a0)
    (hl : ([.evLast, .sent, .hosts, .later, .cgs, .ctx, .rpk, .hpn, .pwr, .one O.pwrState, .one O.pwrTarget, .one O.pwrLimit, .fam O.lpeStatus 64, .fam O.lpeTrState 4, .fam O.lpeTrCount 4, .one O.rpkState, .one O.bstState] : List Part) ⊆ l) : Keeps l s (@State.wakeHoldEnd a0) := by
  unfold State.wakeHoldEnd
  repeat' first
    | with_reducible assumption
    | with_reducible refine Keeps.ite ?_ ?_
    | (with_reducible refine State.holdEnd_keeps ?_ (List.Subset.trans ?_ hl); rotate_right; decide +kernel)
    | intro x
    | split

theorem wakeTimer_keeps {l : List Part} {s : State} {a0 : State} (h : Keeps l s a0)
    (hl : ([.axt, .follow, .pwr, .one O.pwrState, .one O.pwrTarget, .one O.pwrWakeCause] : List Part) ⊆ l) : Keeps l s (@State.wakeTimer a0) := by
  unfold State.wakeTimer
  repeat' first
    | with_reducible assumption
    | with_reducible refine Keeps.ite ?_ ?_
    | (with_reducible refine State.wakeUp_keeps ?_ (List.Subset.trans ?_ hl); rotate_right; decide +kernel)

theorem watchdog_keeps {l : List Part} {s : State} {a0 : State} {a1 : _} {a2 : _} (h : Keeps l s a0)
    (hl : ([.free, .evLast, .sent, .clk, .hosts, .slots, .disp, .later, .xmem, .forceA, .forceB, .links, .cgs, .trx, .ctx, .tb, .traceReads, .dcl, .ptg, .adc, .pos, .prb, .chg, .aux, .amc, .hpn, .sec, .upd, .thm, .bst, .pwr, .net, .allObjs, .one O.sysClkStatus, .one O.sysXingDropFlags, .one O.pwrResetCause, .fam O.thmT 72, .one O.secAttEpoch, .one O.secAttNext, .one O.secIdNext, .fam O.pwmDriveTable 40, .fam O.trxState 4, .fam O.trxRule 4, .fam O.trxFault 4, .fam O.trxAngleSrc 4, .fam O.trxSsState 4, .fam O.lpeUnits 64, .fam O.lpeBankB 64, .fam O.lpeStatus 64, .fam O.lpeTrState 4, .fam O.lpeTrCount 4, .fam O.adcStatus 12, .fam O.posAngle 4, .fam O.posCount 4, .fam O.posSpeed 4, .fam O.posStatus 4, .one O.chgState, .one O.chgInput, .one O.chgFlags, .one O.chgCause, .one O.chgIInLim, .one O.chgPIn, .one O.auxState, .one O.auxFlags, .one O.auxCause, .one O.auxPhaseState, .fam O.amcState 6, .fam O.amcSpeed 6, .fam O.amcFlags 6, .fam O.amcFault 6, .one O.amcParkState, .one O.bstState, .one O.bstLast] : List Part) ⊆ l) : Keeps l s (@State.watchdog a0 a1 a2) := by
  unfold State.watchdog
  repeat' first
    | with_reducible assumption
    | with_reducible refine Keeps.ite ?_ ?_
    | (with_reducible refine State.islandReset_keeps ?_ (List.Subset.trans ?_ hl); rotate_right; decide +kernel)

theorem windowMatch_keeps {l : List Part} {s : State} {a0 : State} (h : Keeps l s a0)
    (hl : ([.evLast, .sent, .hosts, .disp, .later, .ptg, .hpn, .upd, .one O.updIl, .one O.updBusy, .fam O.updRunning 6, .fam O.updSpare 6, .fam O.updState 6, .one O.ptgState, .one O.ptgSplitCopy] : List Part) ⊆ l) : Keeps l s (@State.windowMatch a0) := by
  unfold State.windowMatch
  repeat' first
    | with_reducible assumption
    | (intro x; have hx : Keeps l s x := ?_; clear_value x)
    | with_reducible refine Keeps.ite ?_ ?_
    | (with_reducible refine State.pinsUp_keeps ?_ (List.Subset.trans ?_ hl); rotate_right; decide +kernel)
    | (with_reducible refine State.scImageJoined_keeps ?_ (List.Subset.trans ?_ hl); rotate_right; decide +kernel)
    | (with_reducible refine State.setO_keeps ?_ ⟨_, inL hl ?_, O.ptgSplitCopy_has⟩; rotate_right; decide +kernel)
    | (with_reducible refine State.setO_keeps ?_ ⟨_, inL hl ?_, O.ptgState_has⟩; rotate_right; decide +kernel)
    | (with_reducible refine State.endAll_keeps ?_ (List.Subset.trans ?_ hl); rotate_right; decide +kernel)
    | (with_reducible refine State.raise_keeps ?_ (List.Subset.trans ?_ hl); rotate_right; decide +kernel)
    | (with_reducible refine State.modPtg_keeps ?_ (List.Subset.trans ?_ hl); rotate_right; decide +kernel)
    | intro x
    | lift_lets
    | split

theorem windowCompared_keeps {l : List Part} {s : State} {a0 : State} (h : Keeps l s a0)
    (hl : ([.evLast, .sent, .hosts, .disp, .later, .forceA, .forceB, .links, .trx, .ctx, .ptg, .adc, .chg, .hpn, .upd, .thm, .bst, .pwr, .one O.sysXingDropFlags, .one O.updIl, .one O.updBusy, .fam O.updRunning 6, .fam O.updSpare 6, .fam O.updState 6, .fam O.trxState 4, .fam O.trxFault 4, .fam O.trxAngleSrc 4, .fam O.lpeStatus 64, .fam O.lpeTrState 4, .fam O.lpeTrCount 4, .fam O.adcStatus 12, .one O.chgState, .one O.chgInput, .one O.chgFlags, .one O.chgCause, .one O.chgIInLim, .one O.chgPIn, .one O.ptgState, .one O.ptgFlags, .one O.ptgFaultCause, .one O.ptgSoftCount, .one O.ptgWindows, .one O.ptgLastSig, .one O.ptgSplitCopy, .one O.bstState, .one O.bstLast] : List Part) ⊆ l) : Keeps l s (@State.windowCompared a0) := by
  unfold State.windowCompared
  repeat' first
    | with_reducible assumption
    | (intro x; have hx : Keeps l s x := ?_; clear_value x)
    | with_reducible refine Keeps.ite ?_ ?_
    | (with_reducible refine State.incSat_keeps ?_ ⟨_, inL hl ?_, O.ptgSoftCount_has⟩; rotate_right; decide +kernel)
    | (with_reducible refine State.incMod_keeps ?_ ⟨_, inL hl ?_, O.ptgWindows_has⟩; rotate_right; decide +kernel)
    | (with_reducible refine State.ptgFault_keeps ?_ (List.Subset.trans ?_ hl); rotate_right; decide +kernel)
    | (with_reducible refine State.setO_keeps ?_ ⟨_, inL hl ?_, O.ptgLastSig_has⟩; rotate_right; decide +kernel)
    | (with_reducible refine State.windowMatch_keeps ?_ (List.Subset.trans ?_ hl); rotate_right; decide +kernel)
    | (with_reducible refine State.raise_keeps ?_ (List.Subset.trans ?_ hl); rotate_right; decide +kernel)
    | (with_reducible refine State.modPtg_keeps ?_ (List.Subset.trans ?_ hl); rotate_right; decide +kernel)
    | (with_reducible refine State.orO_keeps ?_ ⟨_, inL hl ?_, O.ptgFlags_has⟩; rotate_right; decide +kernel)
    | lift_lets
    | split

theorem withdraw_keeps {l : List Part} {s : State} {a0 : State} {a1 : _} (h : Keeps l s a0)
    (hl : ([.sent, .hosts, .slots, .disp, .hpn, .thm] : List Part) ⊆ l) : Keeps l s (@State.withdraw a0 a1) := by
  unfold State.withdraw
  repeat' first
    | with_reducible assumption
    | (with_reducible refine State.endAll_keeps ?_ (List.Subset.trans ?_ hl); rotate_right; decide +kernel)
    | (with_reducible refine State.respond_keeps ?_ (List.Subset.trans ?_ hl); rotate_right; decide +kernel)

theorem xmemSpoil_keeps {l : List Part} {s : State} {a0 : State} {a1 : _} (h : Keeps l s a0)
    (hl : ([.free, .sent] : List Part) ⊆ l) : Keeps l s (@State.xmemSpoil a0 a1) := by
  unfold State.xmemSpoil
  repeat' first
    | with_reducible assumption
    | (with_reducible refine State.takeFree_keeps ?_ (List.Subset.trans ?_ hl); rotate_right; decide +kernel)
    | (with_reducible refine State.send_keeps ?_ (List.Subset.trans ?_ hl); rotate_right; decide +kernel)

theorem xmemRespoil_keeps {l : List Part} {s : State} {a0 : State} {a1 : _} (h : Keeps l s a0)
    (hl : ([.free, .sent] : List Part) ⊆ l) : Keeps l s (@State.xmemRespoil a0 a1) := by
  unfold State.xmemRespoil
  repeat' first
    | with_reducible assumption
    | (with_reducible refine State.xmemSpoil_keeps ?_ (List.Subset.trans ?_ hl); rotate_right; decide +kernel)
    | (with_reducible refine Keeps.set_sent ?_ (inL hl ?_); rotate_right; decide +kernel)

theorem xmemCollide_keeps {l : List Part} {s : State} {a0 : State} {a1 : _} {a2 : _} {a3 : _} {a4 : _} (h : Keeps l s a0)
    (hl : ([.free, .sent, .hosts, .xmem] : List Part) ⊆ l) : Keeps l s (@State.xmemCollide a0 a1 a2 a3 a4) := by
  unfold State.xmemCollide
  repeat' first
    | with_reducible assumption
    | (intro x; have hx : Keeps l s x := ?_; clear_value x)
    | with_reducible refine Keeps.ite ?_ ?_
    | (with_reducible refine State.xmemRespoil_keeps ?_ (List.Subset.trans ?_ hl); rotate_right; decide +kernel)
    | ((with_reducible refine State.modHost_keepsR ?_ ?_ (List.Subset.trans ?_ hl)); rotate_right; decide +kernel; rotate_right; (intro p; first | rfl | exact hf _ | exact HostPort.post_slots _ _ | exact HostPort.post2_slots _ _ _ | exact HostPort.settle_slots _ _ | (split <;> first | rfl | exact hf _ | exact HostPort.post_slots _ _ | exact HostPort.post2_slots _ _ _ | exact HostPort.settle_slots _ _)))
    | (with_reducible refine State.xmemSpoil_keeps ?_ (List.Subset.trans ?_ hl); rotate_right; decide +kernel)
    | intro x
    | lift_lets
    | (with_reducible refine Keeps.set_xmem ?_ (inL hl ?_); rotate_right; decide +kernel)

theorem xmemNote_keeps {l : List Part} {s : State} {a0 : State} {a1 : _} {a2 : _} {a3 : _} (h : Keeps l s a0)
    (hl : ([.xmem] : List Part) ⊆ l) : Keeps l s (@State.xmemNote a0 a1 a2 a3) := by
  unfold State.xmemNote
  repeat' first
    | with_reducible assumption
    | intro x
    | lift_lets
    | (with_reducible refine Keeps.set_xmem ?_ (inL hl ?_); rotate_right; decide +kernel)

theorem xmemAccess_keeps {l : List Part} {s : State} {a0 : State} {a1 : _} {a2 : _} {a3 : _} (h : Keeps l s a0)
    (hl : ([.free, .sent, .hosts, .xmem] : List Part) ⊆ l) : Keeps l s (@State.xmemAccess a0 a1 a2 a3) := by
  unfold State.xmemAccess
  repeat' first
    | with_reducible assumption
    | (intro x; have hx : Keeps l s x := ?_; clear_value x)
    | with_reducible refine Keeps.ite ?_ ?_
    | (with_reducible refine State.touch_keeps ?_ (List.Subset.trans ?_ hl); rotate_right; decide +kernel)
    | (with_reducible refine State.xmemCollide_keeps ?_ (List.Subset.trans ?_ hl); rotate_right; decide +kernel)
    | (with_reducible refine State.send_keeps ?_ (List.Subset.trans ?_ hl); rotate_right; decide +kernel)
    | (with_reducible refine State.xmemNote_keeps ?_ (List.Subset.trans ?_ hl); rotate_right; decide +kernel)
    | intro x
    | lift_lets
    | split

theorem xtalLoss_keeps {l : List Part} {s : State} {a0 : State} (h : Keeps l s a0)
    (hl : ([.evLast, .sent, .clk, .hosts, .disp, .later, .forceA, .forceB, .links, .cgs, .trx, .ctx, .dcl, .ptg, .adc, .chg, .aux, .amc, .hpn, .thm, .bst, .one O.sysClkStatus, .one O.sysXingDropFlags, .fam O.thmT 72, .fam O.trxState 4, .fam O.trxFault 4, .fam O.trxAngleSrc 4, .fam O.lpeStatus 64, .fam O.lpeTrState 4, .fam O.lpeTrCount 4, .fam O.adcStatus 12, .one O.chgState, .one O.chgInput, .one O.chgFlags, .one O.chgCause, .one O.chgIInLim, .one O.chgPIn, .one O.auxState, .one O.auxFlags, .one O.auxCause, .one O.auxPhaseState, .fam O.amcState 6, .fam O.amcSpeed 6, .fam O.amcFlags 6, .fam O.amcFault 6, .one O.amcParkState, .one O.bstState, .one O.bstLast] : List Part) ⊆ l) : Keeps l s (@State.xtalLoss a0) := by
  unfold State.xtalLoss
  repeat' first
    | with_reducible assumption
    | with_reducible refine Keeps.ite ?_ ?_
    | (with_reducible refine State.clockLost_keeps ?_ (List.Subset.trans ?_ hl); rotate_right; decide +kernel)
    | (with_reducible refine State.modClk_keeps ?_ (List.Subset.trans ?_ hl); rotate_right; decide +kernel)
    | (with_reducible refine State.lossDeclared_keeps ?_ (List.Subset.trans ?_ hl); rotate_right; decide +kernel)
    | (with_reducible refine State.postMasked_keeps ?_ (List.Subset.trans ?_ hl); rotate_right; decide +kernel)

theorem xtalReturn_keeps {l : List Part} {s : State} {a0 : State} (h : Keeps l s a0)
    (hl : ([.clk, .one O.sysClkStatus] : List Part) ⊆ l) : Keeps l s (@State.xtalReturn a0) := by
  unfold State.xtalReturn
  repeat' first
    | with_reducible assumption
    | with_reducible refine Keeps.ite ?_ ?_
    | (with_reducible refine State.modClk_keeps ?_ (List.Subset.trans ?_ hl); rotate_right; decide +kernel)
    | (with_reducible refine State.showClk_keeps ?_ (List.Subset.trans ?_ hl); rotate_right; decide +kernel)

end State

end Sys2Proof.Machine
end

