-- ==== Sys2Proof/Laws/Run.lean ====
section
/-! SUPPORT. What running a mailbox command comes to: its body, its response in the slot, and nothing else; and the small
laws of what the bodies are made of. -/

namespace Sys2Proof.Machine

/-! ### Reading a frame lemma -/

/-- A part that is not listed is equal. -/
theorem Keeps.part {l : List Part} {s t : State} (h : Keeps l s t) (p : Part) (hp : p ∉ l := by decide) : p.same s t := h.1 p hp

/-- No part of the list holds the object. -/
def lacks (l : List Part) (id : Nat) : Bool :=
  l.all fun p => match p with
    | .objs b k n => (List.range n).all fun i => id != b + k * i
    | .allObjs => false
    | _ => true

/-- An object that no listed part holds reads as before. -/
theorem Keeps.obj {l : List Part} {s t : State} (h : Keeps l s t) (id : Nat) (hn : lacks l id = true) : t.getO id = s.getO id := by
  refine h.2 id fun p hp hh => ?_
  have h1 := List.all_eq_true.mp hn p hp
  cases p with
  | objs b k n =>
    obtain ⟨i, hi, e⟩ := hh
    simp only [List.all_eq_true, List.mem_range, bne_iff_ne, ne_eq] at h1
    exact h1 i hi e
  | allObjs => simp at h1
  | _ => exact hh

namespace State

/-! ### The list of checks -/

/-- No check fails: no error is answered. -/
theorem firstBad_none {l : List Chk} (h : ∀ k ∈ l, k.bad = false) : firstBad l = none := by
  have : l.find? (fun c => c.bad) = none := List.find?_eq_none.mpr fun k hk => by simp [h k hk]
  simp [firstBad, this]

/-- A body whose checks all pass has its effect. -/
theorem guarded_pass {s : State} {l : List Chk} {eff : State → State × Reply} (h : ∀ k ∈ l, k.bad = false) :
    s.guarded l eff = eff s := by
  simp [guarded, firstBad_none h]

/-- The first check that fails answers, and the state stays. -/
theorem guarded_fail {s : State} {l : List Chk} {eff : State → State × Reply} {r : Reply} (h : firstBad l = some r) :
    s.guarded l eff = (s, r) := by
  simp [guarded, h]

/-! ### The response -/

theorem modSlot_slot (s : State) (h : Fin 4) (k : Fin 8) (f : Slot → Slot) :
    ((s.modSlot h k f).hosts[h]).slots[k] = f (s.hosts[h]).slots[k] := by simp [modSlot, modHost]

/-- A response writes the slot: DONE, with its frame. -/
theorem respond_answered (s : State) (c : Cmd) (r : Reply) (ho : c.orphan = false) : Answered (s.respond c r) c r := by
  have hw : ∀ (u : State) (fr : List Byte), Keeps [.sent, .hpn] (u.modSlot c.host c.slot fun x =>
      { x with st := .done, mem := x.mem.writeL 0 fr, doneAxt := u.followerStamp .hf }) (u.writeResponse c.host c.slot fr) := fun u fr => by
    unfold writeResponse
    exact when_keeps (Keeps.refl _ _) (fun v hv => sendHpn_keeps hv (by decide)) (by decide)
  have h2 : Keeps [.sent, .hosts, .hpn, .thm] (s.writeResponse c.host c.slot (respFrame c.code c.tag r)) (s.respond c r) := by
    unfold respond
    rw [if_neg (by simp [ho])]
    exact cmdPause_keeps (when_keeps (Keeps.refl _ _) (fun v hv => postDone_keeps hv (by decide)) (by decide)) (by decide)
  have hs := h2.part .slots (by decide) c.host
  have h1 := (hw s (respFrame c.code c.tag r)).part .slots (by decide) c.host
  have h0 := modSlot_slot s c.host c.slot fun x =>
      { x with st := .done, mem := x.mem.writeL 0 (respFrame c.code c.tag r), doneAxt := s.followerStamp .hf }
  unfold Answered
  rw [hs, h1, h0]
  exact ⟨rfl, Mem.readN_writeL _ 0 _⟩

end State

/-- A response stays in its slot while no slot changes. -/
theorem Answered.keeps {l : List Part} {s t : State} {c : Cmd} {r : Reply} (h : Answered s c r) (hk : Keeps l s t)
    (hp : Part.slots ∉ l := by decide) : Answered t c r := by
  have := hk.1 .slots hp c.host
  unfold Answered at h ⊢
  rwa [this]

namespace State

theorem frontCmd_some {s : State} {code : Nat} {c : Cmd} (h : s.frontCmd code = some c) :
    c.code = code ∧ c.flags.testBit 1 = false ∧ s.nextCmd = some c := by
  unfold frontCmd at h
  split at h
  · rename_i c' hl
    split at h
    · obtain rfl := Option.some.inj h
      exact ⟨by simp_all, by simp_all, hl⟩
    · simp at h
  · simp at h

/-- A mailbox command runs its body and answers it: the response stands in the slot, and beside what the body changed only
the slot, the ring of the host and the pause of R438 change. -/
theorem runCmd_spec {s : State} {code : Nat} {c : Cmd} {body : Cmd → State → State × Reply} (hf : Front s code c) :
    Answered (s.runCmd code body) c (body c s.popCmd).2 ∧
      Keeps [.sent, .hosts, .slots, .hpn, .thm] (body c s.popCmd).1 (s.runCmd code body) := by
  have h1 : s.runCmd code body = (body c s.popCmd).1.respond c (body c s.popCmd).2 := by simp [runCmd, hf.1]
  rw [h1]
  exact ⟨respond_answered _ c _ hf.2, respond_keeps (Keeps.refl _ _) (by decide)⟩

/-- A command whose row does not stand at the front changes nothing. -/
theorem runCmd_none {s : State} {code : Nat} {body : Cmd → State → State × Reply} (h : s.frontCmd code = none) :
    s.runCmd code body = s := by simp [runCmd, h]

/-- A request held is among the held. -/
theorem hold_isHeld (s : State) (c : Cmd) (g : Option Nat) (arg : List Nat) (w : Bool) (o : List Nat) : IsHeld (s.hold c g arg w o) c :=
  ⟨_, by simp only [hold]; exact List.mem_append_right _ (List.mem_singleton.mpr rfl), rfl, rfl, rfl⟩

end State

/-- The lowest bit of a number with the bits of a mask cleared, and the rest of it. -/
theorem clear_low (v m : Nat) :
    (v - (v &&& m)) % 2 = v % 2 * (1 - m % 2) ∧ (v - (v &&& m)) / 2 = v / 2 - (v / 2 &&& m / 2) := by
  have half : (v &&& m) / 2 = v / 2 &&& m / 2 := Nat.and_div_two
  have within : v / 2 &&& m / 2 ≤ v / 2 := Nat.and_le_left
  have low : ∀ a b : Fin 2, a.val &&& b.val = a.val * b.val ∧ a.val - a.val * b.val = a.val * (1 - b.val) ∧ a.val * b.val ≤ a.val := by decide
  have ⟨l1, l2, l3⟩ := low ⟨v % 2, Nat.mod_lt _ Nat.two_pos⟩ ⟨m % 2, Nat.mod_lt _ Nat.two_pos⟩
  have rest : (v &&& m) % 2 = v % 2 * (m % 2) := (Nat.and_mod_two_pow (n := 1)).trans (by simpa using l1)
  dsimp only at l2 l3
  omega

/-- Bits of an object after bits of it were cleared. -/
theorem testBit_clear (v m k : Nat) : (v - (v &&& m)).testBit k = (v.testBit k && !m.testBit k) := by
  induction k generalizing v m with
  | zero =>
    simp only [Nat.testBit_zero, (clear_low v m).1]
    have : ∀ a b : Fin 2, decide (a.val * (1 - b.val) = 1) = (decide (a.val = 1) && !decide (b.val = 1)) := by decide
    exact this ⟨v % 2, Nat.mod_lt _ Nat.two_pos⟩ ⟨m % 2, Nat.mod_lt _ Nat.two_pos⟩
  | succ k ih => simp only [Nat.testBit_succ, (clear_low v m).2, ih]

theorem State.bitO_clrO (s : State) (id m k : Nat) : (s.clrO id m).bitO id k = (s.bitO id k && !m.testBit k) := by
  simp only [State.bitO, State.clrO, State.getO_setO_same, testBit_clear]

theorem State.bitO_orO (s : State) (id m k : Nat) : (s.orO id m).bitO id k = (s.bitO id k || m.testBit k) := by
  simp only [State.bitO, State.orO, State.getO_setO_same, Nat.testBit_or]

/-- A bit of an object that no listed part holds. -/
theorem Keeps.bit {l : List Part} {s t : State} (h : Keeps l s t) (id k : Nat) (hn : lacks l id = true) : t.bitO id k = s.bitO id k := by
  simp only [State.bitO, h.obj id hn]

theorem IsHeld.keeps {l : List Part} {s t : State} {c : Cmd} (h : IsHeld s c) (hk : Keeps l s t) (hp : Part.disp ∉ l := by decide) :
    IsHeld t c := by
  have h0 : t.disp = s.disp := hk.1 .disp hp
  unfold IsHeld
  rwa [h0]

end Sys2Proof.Machine
end

