-- ==== Sys2Proof/Tests/Slice0.lean ====
section
/-! SUPPORT. Small tests: well-formedness refuses what no bus carries, and for every statement a named witness of its hypotheses, clause by clause. The states are
those of `base`, a device that runs, with the fields that a clause speaks of set. -/

open Sys2Proof.Machine

namespace Sys2Proof.Tests

/-- R460: an 11-bit identifier of 2,048 does not exist. -/
theorem test_wellFormed_refuses_id : (Instr.canFrameReceived 0 false .classic 2048 []).wellFormed = false := by decide

/-- R460: nine bytes do not fit a classic frame. -/
theorem test_wellFormed_refuses_length : (Instr.canFrameReceived 0 true .classic 1 (List.replicate 9 0)).wellFormed = false := by decide

/-- A device that runs: booted, in life-cycle state 2, at axle time 10¹⁵, host 0 with the role MAKER, safety host and owner of every group. -/
def obs (l : List (Nat × Nat)) (s : State) : State := l.foldl (fun s p => s.setO p.1 p.2) s
def base : State :=
  obs [(O.sysHostLeaseOwner, 0), (O.secSession, 3), (O.secLc, 2), (O.sysHostSafetyHost, 0)]
    { State.reset with
      axt := 10 ^ 15, disp := { Disp.reset with ready := true, booting := false }, pwr := { Pwr.reset with boot := [] } }
def with_ (l : List (Nat × Nat)) : State := obs l base
def cmdOf (code : Nat) (payload : List Byte) : Cmd :=
  { host := 0, slot := 0, code, tag := 5, flags := 0, payload, stamp := 0, kept := 0, lost := 0, orphan := false, role := none }
def mail (code : Nat) (payload : List Byte) (s : State) : State :=
  s.modDisp fun d => { d with accepted := [cmdOf code payload] }
def heldOf (code : Nat) (arg : List Nat) : Held := { host := 0, code, tag := 5, group := none, others := [], arg, waiting := true, orphan := false }
/-- 1.0, 10.0, 100.0 and 1000.0 as F32 patterns. -/
def f1 := 0x3F800000
def f10 := 0x41200000
def f100 := 0x42C80000
def f1000 := 0x447A0000
def hpnUp : State := { base with hpn := { base.hpn with up := true, key := [], rxSeq := 0 } }
def posted (b : List Byte) : State :=
  (base.modSlot 0 2 fun x => { x with st := .posted, mem := x.mem.writeL 0 b }).modHost 0 fun x => { x with bells := [2] }
theorem bytesOf_length (n v : Nat) : (bytesOf n v).length = n := by simp [bytesOf]
theorem hpn_ok (s : State) (kind slot seq n : Nat) (b body : List Byte) (h : b.length = 8 + n) (hup : s.hpn.up = true) (hk : s.hpn.key = [])
    (hs : s.hpn.rxSeq < seq) (h0 : fieldAt b 0 1 = kind) (h1 : fieldAt b 1 1 = slot) (h2 : fieldAt b 2 2 = n) (h4 : fieldAt b 4 4 = seq)
    (hb : (b.drop 8).take n = body) : s.hpnBody kind (b ++ Config.kmac256 [] b 32 "EZ HPN REC") = some (seq, slot, body) := by
  have e (x y) (h' : x + y ≤ 8) : fieldAt (b ++ Config.kmac256 [] b 32 "EZ HPN REC") x y = fieldAt b x y := by
    unfold fieldAt; rw [List.drop_append_of_le_length (by omega), List.take_append_of_le_length (by simp; omega)]
  have l : (Config.kmac256 [] b 32 "EZ HPN REC").length = 32 := bytesOf_length _ _
  have t : (b ++ Config.kmac256 [] b 32 "EZ HPN REC").take (8 + n) = b := by rw [← h]; simp
  have d : (b ++ Config.kmac256 [] b 32 "EZ HPN REC").drop (8 + n) = Config.kmac256 [] b 32 "EZ HPN REC" := by rw [← h]; simp
  simp only [State.hpnBody, e 2 2 (by omega), e 0 1 (by omega), e 4 4 (by omega), e 1 1 (by omega), h2, h0, h4, h1, t, d, hk]
  rw [if_pos ⟨hup, by simp [l, h]; omega, trivial, hs, trivial⟩, List.drop_append_of_le_length (by omega), List.take_append_of_le_length (by simp; omega), hb]
def tb : List Byte := [0x7A, 0x7E, 1] ++ List.replicate 21 0 ++ [32, 0, 0, 0, 0, 0, 0, 0]
def rec0 : AuditRec :=
  { seq := 0, boot := 0, stamp := 0, kind := 1, host := 0, role := 1, lc := 2, obj := 0, status := 0, old := 0, new := 0, ref := 0, chain := [] }
def rowA : ObjRow := match base.rowOf O.secLc with
  | some r => r.1
  | none => { base := 0, num := 1, stride := 1, ty := .f32, acc := .ro, roles := 0, ret := .n, rng := .any, grp := .none, dflt := fun _ => 0 }
def rowB : ObjRow := match base.rowOf (O.sysHostLeaseTimeout 0) with
  | some r => r.1
  | none => { base := 0, num := 1, stride := 1, ty := .f32, acc := .ro, roles := 0, ret := .n, rng := .any, grp := .none, dflt := fun _ => 0 }
def linksUp (s : State) : State := { s with links := s.links.map fun l => { l with st := .ready, caps := 7 }, forceA := Vector.replicate 40 .hold, forceB := Vector.replicate 40 .hold }
def trxOk : State :=
  obs [(O.trxType 0, 1), (O.trxPsi 0, f1), (O.trxLd 0, f1), (O.trxLq 0, f1), (O.trxRs 0, f1), (O.trxIMax 0, f100), (O.trxDirAllow 0, 0), (O.trxSpeedTrip 0, f1000),
       (O.trxSpeedMaxFwd 0, f100), (O.trxSpeedMaxRev 0, f100), (O.trxSpeedTaper 0, f10),
       (O.trxAscSpeed 0, f100), (O.trxAscHyst 0, f10), (O.trxObsSpeed 0, f100), (O.trxObsHyst 0, f10), (O.dclState, 4), (O.trxPosPort 0, 0), (O.posStatus 0, 0xC000),
       (O.ptgState, 1)] (linksUp base)
def frameOf (code : BitVec 8) (bytes : List Byte) : UpFrame := { code, bytes, crc := crc8 bytes, codeError := false }
def edge0 : Edge :=
  { target := 8 * 10 ^ 15, sw := 0, drive := 0, seq := 0, meas := true, frameEnd := 0, delay := 0, fine := 0, natural := none, dt := 0, entry := 0 }
def run0 : Run :=
  { at_ := 10 ^ 15, deadline := 10 ^ 15, sp := Vector.replicate 4 0, fb := Vector.replicate 4 0, ff := Vector.replicate 4 0, aux := Vector.replicate 4 0,
    missing := [], laneAt := none, swapped := false }
def up39 : State := linksUp base
def conv0 : Conv := { res := 383, hold := false, cover := false, entry := 0, filter := 0, cal := 256 * 2 ^ 0 }
def inj0 : InjReq := { res := 383, who := .host, at_ := 0, cmd := some (cmdOf 0x0501 [0x7F, 1, 0, 0]) }
def cal0 : CalRun := { host := 0, role := 3, res := 0, point := 0, value := 0, zero := none, restarts := 0 }
def chgOk : State :=
  ((obs [(O.chgILegTrip, f100), (O.dclBattery, 1), (O.dclState, 4), (O.chgBatTemp, f10), (O.dclBmsIChg, f100), (O.chgCause, 12)] (linksUp base)).modChg fun x =>
    { x with batAt := some (10 ^ 15), live := 1 }).modDcl fun x => { x with bmsStale := false }
def auxOk : State := (obs [(O.auxRatio, f1), (O.lpeDeadline 22, 60000), (O.auxVTarget, f100), (O.auxPhases, 8)] (linksUp base)).modDcl fun x => { x with vLink := 2000 }
def amcOk (k : Fin 6) (l : List (Nat × Nat)) (f : Amc → Amc) : State := (with_ ((O.lpeDeadline (31 + k.val), 60000) :: l)).modAmc k f
def word0 : SafeWord :=
  { stamp := 10 ^ 15 - 25000, speed := Vector.replicate 4 0, speedOk := Vector.replicate 4 true, out := Vector.replicate 4 0, est := Vector.replicate 4 0,
    envPos := Vector.replicate 4 0, envNeg := Vector.replicate 4 0, st := Vector.replicate 4 0, ova := Vector.replicate 4 false, sets := Vector.replicate 4 0 }
def inp0 : CheckInputs := { hvilA := true, hvilB := true, contactors := 0, upsetA := 0, upsetB := 0 }
def msg0 : TxMsg :=
  { port := 3, fmt := .classic, prio := 6, pgn := pgnClaim, sa := 1, da := 0xFF, data := [1, 2], who := .own, critical := true, stamp := 0, built := 0, period := 0 }
def sess0 : Session :=
  { key := 4, port := 2, src := 1, dst := 2, out := true, bam := false, ext := false, pgn := 0xEF00, prio := 6, size := 20, data := [], next := 1, upTo := 0, base := 0,
    limit := 255, wait := .cts, due := 0, who := .own, critical := true, stamp := 0, built := 0, period := 0, begun := true }
def part0 : Partner := { State.blankPartner 7 with link := 1 }
def alias0 : Partner := { State.blankPartner 9 with kind := 2, port := 7, link := 0 }
def netOk (l : List (Nat × Nat)) (f : Net → Net) : State := (obs [(O.netCanMode 3, 3), (O.netName, 9)] (with_ l)).modNet f
def can3 (c : CanPort) (x : Net) : Net := { x with can := x.can.set 3 c }
def claim0 : CanPort := { claim := .claimed, addr := 0x80, at_ := 0, offs := [], busOff := false, heldOff := false }
theorem track_ok (x : Pos) (t : Nat) (v : Rat) (h : x.rdc = v) (hv : x.vel = 0) : absQ (x.trackError v t) ≤ 5 / 360 := by
  have e : x.trackError v t = 0 := by
    have z : v - (v + 0) = 0 := by simp [Rat.add_zero, Rat.sub_eq_add_neg, Rat.add_neg_cancel]
    simp only [Pos.trackError, h, hv, Rat.zero_mul, z]; decide +kernel
  rw [e]; decide +kernel

/-- Idle steps: a device that runs, one without VSTBY, one asleep. -/
theorem witness_IdleStepPassesTime :
    (∃ s : State, s.pending = [] ∧ s.pwr.asleep = false ∧ s.pwr.vstby = true) ∧
    (∃ s : State, s.pending = [] ∧ s.pwr.asleep = false ∧ s.pwr.vstby = false) ∧
    (∃ s : State, s.pending = [] ∧ s.pwr.asleep = true) :=
  ⟨⟨base, by and_intros <;> decide +kernel⟩,
   ⟨{ base with pwr := { base.pwr with vstby := false } }, by and_intros <;> decide +kernel⟩,
   ⟨{ base with pwr := { base.pwr with asleep := true } }, by decide +kernel, by decide +kernel⟩⟩

/-- R26: the tick to a multiple of 1,024 brings a follower to CT's count. -/
theorem test_idle_follow :
    ∃ t, step { base with axt := 1023 } = .next t ∧ t.axt = 1024 ∧ t.follow[(0 : Fin 5)] = 1024 :=
  ⟨_, rfl, by decide +kernel, by decide +kernel⟩

/-- A step from a state whose memories are canonical. -/
theorem witness_StepKeepsMemories : ∃ s t : State, MemoriesWf s ∧ step s = .next t :=
  ⟨{ State.reset with pending := [.chiselRelease] }, _, ⟨by decide +kernel, by decide +kernel⟩, rfl⟩

/-- A command that the buses carry, and one that they cannot. -/
theorem witness_EveryCommandRuns : (∃ i : Instr, i.wellFormed = true) ∧ ∃ i : Instr, i.wellFormed = false :=
  ⟨⟨.xtalLoss, rfl⟩, ⟨.canFrameReceived 0 false .classic 2048 [], by decide⟩⟩

/-- A command that runs. -/
theorem witness_CommandsKeepQueue : ∃ (i : Instr) (s t : State), exec i s = .next t := ⟨.xtalLoss, State.reset, _, rfl⟩

/-- A DCL_CLOSE at the front. -/
theorem witness_MailboxCommandsAnswer : ∃ (i : Instr) (code : Nat) (s : State) (c : Cmd), rowCode i = some code ∧ Front s code c :=
  ⟨.dclClose, 0x0320, mail 0x0320 [] base, cmdOf 0x0320 [], rfl, by decide +kernel⟩

/-- No DCL_CLOSE at the front. -/
theorem witness_MailboxRowsWait : ∃ (i : Instr) (code : Nat) (s : State), rowCode i = some code ∧ s.frontCmd code = none :=
  ⟨.dclClose, 0x0320, base, rfl, by decide +kernel⟩

/-- A command of each group of chapters that runs. -/
theorem witness_Frames :
    (∃ (i : Instr) (s t : State), chapterOf i ∈ [.clocks, .hosts, .gateLinks] ∧ exec i s = .next t) ∧
    (∃ (i : Instr) (s t : State), chapterOf i ∈ [.traction, .loop, .converters] ∧ exec i s = .next t) ∧
    (∃ (i : Instr) (s t : State), chapterOf i ∈ [.position, .dcLink, .charger] ∧ exec i s = .next t) ∧
    (∃ (i : Instr) (s t : State), chapterOf i ∈ [.auxiliary, .motors, .pack] ∧ exec i s = .next t) ∧
    (∃ (i : Instr) (s t : State), chapterOf i ∈ [.pointing, .thermal, .memories, .power] ∧ exec i s = .next t) ∧
    ∃ (i : Instr) (s t : State), chapterOf i ∈ [.security, .update, .network] ∧ exec i s = .next t :=
  ⟨⟨.xtalLoss, base, _, by decide, rfl⟩, ⟨.torqueTick, base, _, by decide, rfl⟩, ⟨.dclClose, mail 0x0320 [] base, _, by decide, rfl⟩,
   ⟨.chiselRelease, base, _, by decide, rfl⟩, ⟨.ptgSplit, base, _, by decide, rfl⟩, ⟨.updAbort, mail 0x0733 [] base, _, by decide, rfl⟩⟩

/-- A ring with no free entry, one with free entries, one with a single one; and a host whose ring has dropped an event and whose EVT_TAIL moves on. -/
theorem witness_RingOverflow :
    (∃ p : HostPort, p.full = true) ∧ (∃ p : HostPort, p.full = false) ∧ (∃ p : HostPort, p.room = 1) ∧
    ∃ (s : State) (h : Fin 4) (tail : Nat), (s.hosts[h]).dropped ≠ 0 ∧
      (tail % 128 + 128 - (s.hosts[h]).tail) % 128 ≤ ((s.hosts[h]).head + 128 - (s.hosts[h]).tail) % 128 ∧ ((s.hosts[h]).head + 128 - tail % 128) % 128 ≠ 64 :=
  ⟨⟨{ HostPort.reset with head := 64, tail := 0 }, by decide +kernel⟩, ⟨HostPort.reset, by decide +kernel⟩,
   ⟨{ HostPort.reset with head := 63, tail := 0 }, by decide +kernel⟩,
   ⟨base.modHost 0 fun p => { p with head := 64, tail := 0, dropped := 1 }, 0, 1, by and_intros <;> decide +kernel⟩⟩

/-- A POSTED slot, and a write of 1 to its COMPL bit. -/
theorem witness_ComplOfOtherSlotIgnored : ∃ (s : State) (h : Fin 3) (data : List (BitVec 8)) (k : Fin 8),
    data.length ≤ 0xFFF0 ∧ ((s.hosts[State.spiHost h]).slots[k]).st ≠ .done := ⟨posted [], 0, [4, 0, 0, 0], 2, by decide, by decide +kernel⟩

/-- Two bytes of the last register below the slots. -/
theorem witness_ShortRegisterWriteIgnored : ∃ (data : List (BitVec 8)) (off : Nat), data.length < 4 ∧ off + data.length ≤ 0x10000 :=
  ⟨[1, 2], 0xFFFC, by decide, by decide⟩

/-- Another channel than the one whose word is dropped. -/
theorem witness_CrossingDropFlags : ∃ n k : Nat, k ≠ n := ⟨9, 0, by decide⟩

/-- The group claimed while free, by its owner, and of another owner: NORMAL, and TAKEOVER with the higher and with the lower rank. -/
theorem witness_ClaimRules :
    (∃ (s : State) (c : Cmd) (g : Nat) (mode : Fin 2), Front s 0x0110 c ∧ g ≤ 13 ∧ c.payload = [BitVec.ofNat 8 g, BitVec.ofNat 8 mode, 0, 0] ∧
      (if g ≤ 9 then 1 else 2) ≤ s.roleFor c ∧ s.lc ≠ 4 ∧ s.owner g = none ∧ s.ilShort (some g) false = none) ∧
    (∃ (s : State) (c : Cmd) (g : Nat) (mode : Fin 2) (o : Fin 4), Front s 0x0110 c ∧ g ≤ 13 ∧ c.payload = [BitVec.ofNat 8 g, BitVec.ofNat 8 mode, 0, 0] ∧
      (if g ≤ 9 then 1 else 2) ≤ s.roleFor c ∧ s.lc ≠ 4 ∧ s.owner g = some o ∧ o = c.host ∧ s.ilShort (some g) false = none) ∧
    (∃ (s : State) (c : Cmd) (g : Nat) (mode : Fin 2) (o : Fin 4), Front s 0x0110 c ∧ g ≤ 13 ∧ c.payload = [BitVec.ofNat 8 g, BitVec.ofNat 8 mode, 0, 0] ∧
      (if g ≤ 9 then 1 else 2) ≤ s.roleFor c ∧ s.lc ≠ 4 ∧ s.owner g = some o ∧ o ≠ c.host ∧ mode = 0) ∧
    (∃ (s : State) (c : Cmd) (g : Nat) (mode : Fin 2) (o : Fin 4), Front s 0x0110 c ∧ g ≤ 13 ∧ c.payload = [BitVec.ofNat 8 g, BitVec.ofNat 8 mode, 0, 0] ∧
      (if g ≤ 9 then 1 else 2) ≤ s.roleFor c ∧ s.lc ≠ 4 ∧ s.owner g = some o ∧ o ≠ c.host ∧ mode = 1 ∧ s.claimRank g o < s.claimRank g c.host ∧
      s.ilShort (some g) false = none) ∧
    ∃ (s : State) (c : Cmd) (g : Nat) (mode : Fin 2) (o : Fin 4), Front s 0x0110 c ∧ g ≤ 13 ∧ c.payload = [BitVec.ofNat 8 g, BitVec.ofNat 8 mode, 0, 0] ∧
      (if g ≤ 9 then 1 else 2) ≤ s.roleFor c ∧ s.lc ≠ 4 ∧ s.owner g = some o ∧ o ≠ c.host ∧ mode = 1 ∧ s.claimRank g c.host ≤ s.claimRank g o :=
  ⟨⟨mail 0x0110 [13, 0, 0, 0] (with_ [(O.sysHostLeaseOwner, 0xFFFFFFFFFFFFFFFF)]), cmdOf 0x0110 [13, 0, 0, 0], 13, 0, by and_intros <;> decide +kernel⟩,
   ⟨mail 0x0110 [0, 1, 0, 0] base, cmdOf 0x0110 [0, 1, 0, 0], 0, 1, 0, by and_intros <;> decide +kernel⟩,
   ⟨mail 0x0110 [9, 0, 0, 0] (with_ [(O.sysHostLeaseOwner, 0x1111111111111111)]), cmdOf 0x0110 [9, 0, 0, 0], 9, 0, 1, by and_intros <;> decide +kernel⟩,
   ⟨mail 0x0110 [10, 1, 0, 0] (with_ [(O.sysHostLeaseOwner, 0x1111111111111111), (O.sysHostClaimRank, 2 ^ 320)]), cmdOf 0x0110 [10, 1, 0, 0], 10, 1, 1,
      by and_intros <;> decide +kernel⟩,
   ⟨mail 0x0110 [4, 1, 0, 0] (with_ [(O.sysHostLeaseOwner, 0x1111111111111111), (O.sysHostClaimRank, 0)]), cmdOf 0x0110 [4, 1, 0, 0], 4, 1, 1,
      by and_intros <;> decide +kernel⟩⟩

/-- Another host's DC link. -/
theorem witness_DcLinkNeedsOwner : ∃ (s : State) (c : Cmd) (i : Instr) (code n : Nat),
    (i, code, n) ∈ [(Instr.dclClose, 0x0320, 0), (.dclOpen, 0x0321, 4), (.dclChopClear, 0x0322, 0), (.dclHwovClear, 0x0323, 0)] ∧
    Front s code c ∧ c.payload = List.replicate n 0 ∧ s.lc ≠ 0 ∧ s.lc ≠ 4 ∧ 2 ≤ s.roleFor c ∧ s.owns c 4 = false :=
  ⟨mail 0x0321 [0, 0, 0, 0] (with_ [(O.sysHostLeaseOwner, 0x1111111111111111)]), cmdOf 0x0321 [0, 0, 0, 0], .dclOpen, 0x0321, 4, by decide, by and_intros <;> decide +kernel⟩

/-- Four bytes of HP_STATUS at a port that writes. -/
theorem witness_StatusRegisterShows : ∃ (s : State) (h : Fin 3) (op : BitVec 8) (data : List (BitVec 8)), s.portWrites h op = true ∧ data.length = 4 :=
  ⟨base, 0, 0x02, [0, 1, 0, 0], by decide +kernel, by decide⟩

/-- HF not READY, and HF READY with one host that has posted. -/
theorem witness_PostedWaitForReady :
    (∃ (s : State) (h : Fin 4) (k : Fin 8), s.pwr.keepAlive = false ∧ s.disp.ready = false ∧ (s.hosts[h].slots[k]).st = .posted) ∧
    ∃ (s : State) (h : Fin 4) (k : Fin 8) (rest : List (Fin 8)), s.pwr.keepAlive = false ∧ s.disp.ready = true ∧ s.pwr.entering = none ∧ s.pwr.asleep = false ∧
      s.paused h = false ∧ s.hosts[h].bells = k :: rest ∧ ∀ g : Fin 4, g ≠ h → s.hosts[g].bells = [] :=
  ⟨⟨(posted []).modDisp fun d => { d with ready := false }, 0, 2, by and_intros <;> decide +kernel⟩,
   ⟨posted [], 0, 2, [], by and_intros <;> decide +kernel⟩⟩

/-- A second miss in the millisecond, at its last tick, and one at its end. -/
theorem witness_LateEventLimited :
    (∃ (s s2 : State) (bit src deadline who : Nat), s.evFresh (0x0043, src, bit + 8 * who) = true ∧ s2.evLast = (s.raiseLate bit src deadline who).evLast ∧
      s.now ≤ s2.now ∧ s2.now < s.now + msTicks) ∧
    ∃ (s s2 : State) (bit src deadline who : Nat), s.evFresh (0x0043, src, bit + 8 * who) = true ∧ s2.evLast = (s.raiseLate bit src deadline who).evLast ∧
      s.now + msTicks ≤ s2.now :=
  ⟨⟨base, { base.raiseLate 2 0 0 1 with axt := 10 ^ 15 + msTicks - 1 }, 2, 0, 0, 1, by decide +kernel, rfl, by decide +kernel, by decide +kernel⟩,
   ⟨base, { base.raiseLate 2 0 0 1 with axt := 10 ^ 15 + msTicks }, 2, 0, 0, 1, by decide +kernel, rfl, by decide +kernel⟩⟩

def edgeAt (target : Nat) : PlanEdge := { target, sw := 0, drive := 0, meas := false, natural := none, dt := 0, entry := 0 }
/-- An edge that a boundary reaches, one that none reaches, and two edges of one link placed one behind the other. -/
theorem witness_EdgePlacement :
    (∃ e target lim : Nat, e ≤ target ∧ ∀ b, b % 10 = 0 → 8 * b + e ≤ target → b ≤ lim) ∧ (∃ e target : Nat, target < e) ∧
    ∃ (e lim : Nat) (l : List PlanEdge) (p : List (PlanEdge × Nat × Nat)) (x y : PlanEdge × Nat × Nat), placeDesc e lim l [] = .inl p ∧ [x, y] <:+: p ∧ 50 < y.2.1 :=
  ⟨⟨80, 80, 0, by decide, by omega⟩, ⟨80, 79, by decide⟩,
   ⟨80, 10 ^ 6, [edgeAt 8000, edgeAt 4000], _, _, _, rfl, ⟨[], [], rfl⟩, by decide +kernel⟩⟩

/-- States and operands that meet the hypotheses of each clause of `ClockCommandsComplete`. -/
theorem witness_ClockCommandsComplete :
    (∃ (s : State), s.clk.xtal = true) ∧
    (∃ (s : State), s.clk.xtal = false) ∧
    (∃ (s : State), s.clk.lossActive = true ∧ s.ctLocked = true ∧ s.clk.xtalAt + 10 * msTicks ≤ s.now ∧ s.ctRestarts = false ∧ s.linksTrained = true) ∧
    (∃ (s : State) (i : Island), i ≠ .pl ∧ s.clk.heldIslands.getLsbD (lockBit i) = false) ∧
    (∃ (s : State) (i : Island), i ≠ .pl ∧ s.clk.heldIslands.getLsbD (lockBit i) = true) ∧
    (∃ (s : State) (i : Island) (k : Fin 4), refIndex i = some k ∧ s.clk.xtal = true ∧ s.clk.trimAt[k] + msTicks ≤ s.now) ∧
    (∃ (n : Fin 10), (n = 1 ∨ n = 6 ∨ n = 9)) :=
  ⟨⟨base, by decide +kernel⟩,
   ⟨((with_ [(O.sysClkStatus, 63)]).modClk fun x => { x with xtal := false }), by decide +kernel⟩,
   ⟨(base.modClk fun x => { x with lossActive := true }), by and_intros <;> decide +kernel⟩,
   ⟨base, .cv, by and_intros <;> decide +kernel⟩,
   ⟨((with_ [(O.sysClkStatus, 128)]).modClk fun x => { x with heldIslands := 63 }), .hf, by and_intros <;> decide +kernel⟩,
   ⟨base, .nw, 2, by and_intros <;> decide +kernel⟩,
   ⟨9, by decide +kernel⟩⟩

/-- States and operands that meet the hypotheses of each clause of `SelfTestCommandsComplete`. -/
theorem witness_SelfTestCommandsComplete :
    (∃ (s : State), s.disp.ready = true ∧ s.getO O.bstState ≠ 2 ∧ s.bst.cycleAt = none) ∧
    (∃ (s : State) (sl : Nat) (i : Nat), sl ≠ 3 ∧ s.bst.run = some (sl, i) ∧ s.getO O.bstState ≠ 2 ∧ (sl = 4 → s.ptg.splitReq = none) ∧ (sl = 1 → s.frontGap (bstConv i) = true ∨ s.adcSt (bstConv i) = 5) ∧ s.bst.second = false) ∧
    (∃ (s : State) (sl : Nat) (i : Nat), sl ≠ 3 ∧ s.bst.run = some (sl, i) ∧ s.getO O.bstState ≠ 2 ∧ (sl = 4 → s.ptg.splitReq = none) ∧ (sl = 1 → s.frontGap (bstConv i) = true ∨ s.adcSt (bstConv i) = 5) ∧ s.bst.second = true) ∧
    (∃ (s : State) (sl : Nat) (i : Nat), sl ≠ 3 ∧ s.bst.run = some (sl, i) ∧ s.getO O.bstState ≠ 2 ∧ (sl = 4 → s.ptg.splitReq = none) ∧ (sl = 1 → s.frontGap (bstConv i) = true ∨ s.adcSt (bstConv i) = 5) ∧ s.bst.byCmd = false ∧ s.bst.todo = []) ∧
    (∃ (s : State) (i : Nat), s.bst.run = some (3, i) ∧ s.getO O.bstState ≠ 2 ∧ s.tsensBad = 0 ∧ s.bst.byCmd = false ∧ s.bst.todo = []) ∧
    (∃ (s : State) (i : Nat), s.bst.run = some (3, i) ∧ s.getO O.bstState ≠ 2 ∧ s.tsensBad ≠ 0 ∧ s.bst.second = false) ∧
    (∃ (s : State) (c : Cmd) (sl : Nat) (i : Nat), Front s 0x0810 c ∧ c.payload = [BitVec.ofNat 8 sl, BitVec.ofNat 8 i, 0, 0] ∧ sl < 4 ∧ i < sliceCount sl ∧ Permits s c (some 13) 2 ∧ s.bst.run = none ∧ s.bstRuns sl i = true) ∧
    (∃ (s : State) (m : Fin 4), s.patinaRuns m = true ∧ s.patina[m].again = false ∧ s.patina[m].at_ + 50 * usTicks ≤ s.now) ∧
    (∃ (s : State) (m : Fin 4), s.patinaRuns m = true ∧ s.patina[m].again = false ∧ s.patina[m].at_ + 50 * usTicks ≤ s.now) ∧
    (∃ (m : Fin 4), (m = 0 ∨ m = 3)) ∧
    (∃ (m : Fin 4), (m = 1 ∨ m = 2)) :=
  ⟨⟨base, by and_intros <;> decide +kernel⟩,
   ⟨((with_ [(O.adcStatus 3, 1280)]).modBst fun x => { x with run := some (1, 3), second := false }), 1, 3, by and_intros <;> decide +kernel⟩,
   ⟨((with_ [(O.adcStatus 3, 1280)]).modBst fun x => { x with run := some (1, 3), second := true }), 1, 3, by and_intros <;> decide +kernel⟩,
   ⟨(base.modBst fun x => { x with run := some (4, 1), todo := [], byCmd := false }), 4, 1, by and_intros <;> decide +kernel⟩,
   ⟨((base.modBst fun x => { x with run := some (3, 15), todo := [], byCmd := false, second := false })), 15, by and_intros <;> decide +kernel⟩,
   ⟨((base.modBst fun x => { x with run := some (3, 15), second := false }).modThm fun t => { t with sensors := Vector.ofFn fun n : Fin 16 => { t.sensors[n] with read := true, valid := true, tenths := if n = 3 then 900 else 300 } }), 15, by and_intros <;> decide +kernel⟩,
   ⟨(mail 0x0810 ([3, 0, 0, 0]) (base)), (cmdOf 0x0810 [3, 0, 0, 0]), 3, 0, by and_intros <;> decide +kernel⟩,
   ⟨base, 3, by and_intros <;> decide +kernel⟩,
   ⟨base, 0, by and_intros <;> decide +kernel⟩,
   ⟨3, by decide +kernel⟩,
   ⟨2, by decide +kernel⟩⟩

/-- States and operands that meet the hypotheses of each clause of `HostRegisterCommandsComplete`. -/
theorem witness_HostRegisterCommandsComplete :
    (∃ (s : State) (h : Fin 3) (op : BitVec 8) (data : List (BitVec 8)) (k : Fin 8), s.portWrites h op = true ∧ data.length = 4 ∧ (fieldAt data 0 1).testBit k = true ∧ (s.hosts[State.spiHost h].slots[k]).st = .free) ∧
    (∃ (s : State) (h : Fin 3) (op : BitVec 8) (data : List (BitVec 8)) (k : Fin 8), s.portWrites h op = true ∧ data.length = 4 ∧ (fieldAt data 0 1).testBit k = true ∧ (s.hosts[State.spiHost h].slots[k]).st ≠ .free) ∧
    (∃ (s : State) (h : Fin 3) (op : BitVec 8) (data : List (BitVec 8)) (k : Fin 8), s.portWrites h op = true ∧ data.length = 4 ∧ (fieldAt data 0 1).testBit k = true ∧ (s.hosts[State.spiHost h].slots[k]).st = .done) ∧
    (∃ (s : State) (h : Fin 3) (op : BitVec 8) (k : Fin 8), s.portLive h = true ∧ op = 0x02#8 ∧ (s.hosts[State.spiHost h].slots[k]).st = .free) ∧
    (∃ (s : State) (h : Fin 3) (op : BitVec 8) (data : List (BitVec 8)) (k : Fin 8) (off : Nat), s.portLive h = true ∧ op = 0x02#8 ∧ off < 0x1200 ∧ data ≠ [] ∧ (s.hosts[State.spiHost h].slots[k]).st ≠ .free) ∧
    (∃ (s : State) (h : Fin 3) (op : BitVec 8) (data : List (BitVec 8)), s.portWrites h op = true ∧ data.length = 4 ∧ (fieldAt data 0 1 % 128 + 128 - s.hosts[State.spiHost h].tail) % 128 ≤ (s.hosts[State.spiHost h].head + 128 - s.hosts[State.spiHost h].tail) % 128) ∧
    (∃ (s : State) (h : Fin 3) (op : BitVec 8) (data : List (BitVec 8)), s.portWrites h op = true ∧ data.length = 4 ∧ (s.hosts[State.spiHost h].head + 128 - s.hosts[State.spiHost h].tail) % 128 < (fieldAt data 0 1 % 128 + 128 - s.hosts[State.spiHost h].tail) % 128) ∧
    (∃ (s : State) (h : Fin 3) (op : BitVec 8) (data : List (BitVec 8)), s.portWrites h op = true ∧ data.length = 4) ∧
    (∃ (s : State) (h : Fin 3) (op : BitVec 8) (data : List (BitVec 8)), s.portWrites h op = true ∧ data.length = 4) ∧
    (∃ (s : State) (h : Fin 3) (op : BitVec 8) (data : List (BitVec 8)), s.portWrites h op = true ∧ data.length = 4 ∧ (fieldAt data 0 4).testBit 8 = true) ∧
    (∃ (s : State) (h : Fin 3) (op : BitVec 8), s.portLive h = true ∧ op = 0x0B#8) ∧
    (∃ (s : State) (h : Fin 3) (op : BitVec 8) (data : List (BitVec 8)), s.portWrites h op = true ∧ data.length = 4) ∧
    (∃ (s : State) (h : Fin 3) (op : BitVec 8) (data : List (BitVec 8)), s.portWrites h op = true ∧ data.length = 4) ∧
    (∃ (s : State) (h : Fin 3) (op : BitVec 8) (data : List (BitVec 8)), s.portWrites h op = true ∧ data.length = 4 ∧ h ≠ 2) ∧
    (∃ (s : State) (h : Fin 3) (op : BitVec 8) (data : List (BitVec 8)), s.portWrites h op = true ∧ data.length = 4) ∧
    (∃ (s : State) (p : Fin 2) (w : Fin 32768) (clk : Nat), s.portLive ⟨p.val, by omega⟩ = true ∧ (s.xmem.last[(1 - p : Fin 2)]).any (State.meets ⟨w, true, clk⟩) = false) ∧
    (∃ (s : State) (p : Fin 2) (w : Fin 32768) (clk : Nat), s.portLive ⟨p.val, by omega⟩ = true ∧ (s.xmem.last[(1 - p : Fin 2)]).any (State.meets ⟨w, false, clk⟩) = false) ∧
    (∃ (s : State) (p : Fin 2) (wr : Bool) (w : Fin 32768) (clk : Nat) (b : XAccess), s.portLive ⟨p.val, by omega⟩ = true ∧ s.xmem.last[(1 - p : Fin 2)] = some b ∧ State.meets ⟨w, wr, clk⟩ b = true) :=
  ⟨⟨base, 2, 0x02, ([1, 0, 0, 0]), 0, by and_intros <;> decide +kernel⟩,
   ⟨(base.modSlot 2 0 fun x => { x with st := .posted }), 2, 0x02, ([1, 0, 0, 0]), 0, by and_intros <;> decide +kernel⟩,
   ⟨(base.modSlot 2 0 fun x => { x with st := .done }), 2, 0x02, ([1, 0, 0, 0]), 0, by and_intros <;> decide +kernel⟩,
   ⟨base, 2, 0x02, 7, by and_intros <;> decide +kernel⟩,
   ⟨(base.modSlot 2 0 fun x => { x with st := .accepted }), 2, 0x02, ([1, 0, 0, 0]), 0, 0, by and_intros <;> decide +kernel⟩,
   ⟨(base.modHost 2 fun x => { x with head := 1, tail := 0 }), 2, 0x02, ([1, 0, 0, 0]), by and_intros <;> decide +kernel⟩,
   ⟨(base.modHost 2 fun x => { x with head := 1, tail := 0 }), 2, 0x02, ([2, 0, 0, 0]), by and_intros <;> decide +kernel⟩,
   ⟨(base.modHost 2 fun x => { x with lost := 3 }), 2, 0x02, ([1, 0, 0, 0]), by and_intros <;> decide +kernel⟩,
   ⟨base, 2, 0x02, ([1, 0, 0, 0]), by and_intros <;> decide +kernel⟩,
   ⟨base, 2, 0x02, ([0, 1, 0, 0]), by and_intros <;> decide +kernel⟩,
   ⟨base, 2, 0x0B, by and_intros <;> decide +kernel⟩,
   ⟨base, 2, 0x02, ([1, 0, 0, 0]), by and_intros <;> decide +kernel⟩,
   ⟨base, 2, 0x02, ([1, 0, 0, 0]), by and_intros <;> decide +kernel⟩,
   ⟨base, 1, 0x02, ([1, 0, 0, 0]), by and_intros <;> decide +kernel⟩,
   ⟨base, 2, 0x02, ([0, 0, 0, 0xFF]), by and_intros <;> decide +kernel⟩,
   ⟨base, 1, 32767, 0, by and_intros <;> decide +kernel⟩,
   ⟨base, 0, 0, 0, by and_intros <;> decide +kernel⟩,
   ⟨({ base with xmem := { base.xmem with last := base.xmem.last.set 0 (some { word := 5, wr := false, clk := 10 }) } }), 1, true, 5, 12, ({ word := 5, wr := false, clk := 10 }), by and_intros <;> decide +kernel⟩⟩

/-- States and operands that meet the hypotheses of each clause of `DispatcherCommandsComplete`. -/
theorem witness_DispatcherCommandsComplete :
    (∃ (s : State) (h : Fin 4) (k : Fin 8) (rest : List (Fin 8)), s.nextHost = some h ∧ s.hosts[h].bells = k :: rest ∧ fieldAt ((s.hosts[h].slots[k]).mem.readN 4 2) 0 2 ≤ 4096 ∧ crc32c ((s.hosts[h].slots[k]).mem.readN 0 (8 + fieldAt ((s.hosts[h].slots[k]).mem.readN 4 2) 0 2)) ≠ fieldAt ((s.hosts[h].slots[k]).mem.readN (8 + fieldAt ((s.hosts[h].slots[k]).mem.readN 4 2) 0 2) 4) 0 4) ∧
    (∃ (s : State) (h : Fin 4) (k : Fin 8) (rest : List (Fin 8)) (n : Nat), s.nextHost = some h ∧ s.hosts[h].bells = k :: rest ∧ n = fieldAt ((s.hosts[h].slots[k]).mem.readN 0 8) 4 2 ∧ n ≤ 4096 ∧ crc32c ((s.hosts[h].slots[k]).mem.readN 0 (8 + n)) = fieldAt ((s.hosts[h].slots[k]).mem.readN (8 + n) 4) 0 4 ∧ fieldAt ((s.hosts[h].slots[k]).mem.readN 0 8) 6 2 = 0 ∧ fieldAt ((s.hosts[h].slots[k]).mem.readN 0 8) 3 1 ≤ 3 ∧ State.knownCodes.contains (fieldAt ((s.hosts[h].slots[k]).mem.readN 0 8) 0 2) = true ∧ s.pwr.keepAlive = false) ∧
    (∃ (s : State) (e : Ended) (rest : List Ended), s.disp.ended = e :: rest) ∧
    (∃ (s : State) (c : Cmd) (g : Nat), Front s 0x0110 c ∧ g ≤ 13 ∧ (∃ m : Fin 2, c.payload = [BitVec.ofNat 8 g, BitVec.ofNat 8 m, 0, 0]) ∧ (if g ≤ 9 then 1 else 2) ≤ s.roleFor c ∧ s.lc ≠ 4 ∧ s.ilShort (some g) false = none ∧ s.owner g = none) ∧
    (∃ (s : State) (c : Cmd) (g : Nat), Front s 0x0111 c ∧ g ≤ 13 ∧ c.payload = [BitVec.ofNat 8 g, 0, 0, 0] ∧ s.lc ≠ 4 ∧ s.ilShort (some g) false = none ∧ s.owner g = some c.host) ∧
    (∃ (s : State) (c : Cmd) (p : Held), s.nextCmd = some c ∧ c.flags.testBit 1 = true ∧ c.orphan = false ∧ p ∈ s.disp.held ∧ p.waiting = true ∧ p.host = c.host ∧ p.code = c.code ∧ p.tag = c.tag ∧ p.orphan = false) ∧
    (∃ (s : State) (h : Fin 4), s.bitO O.sysHostPresent h = true ∧ s.hosts[h].renewedAt + s.getO (O.sysHostLeaseTimeout h) * msTicks ≤ s.now) :=
  ⟨⟨(posted [0, 0, 0, 0, 0, 0, 0, 0, 1, 2, 3, 4]), 0, 2, [], by and_intros <;> decide +kernel⟩,
   ⟨(posted ([1, 1, 0, 0, 2, 0, 0, 0, 0, 0] ++ toLe 4 (crc32c [1, 1, 0, 0, 2, 0, 0, 0, 0, 0]))), 0, 2, [], 2, by and_intros <;> decide +kernel⟩,
   ⟨(base.modDisp fun x => { x with ended := [{ host := 1, code := 0x0310, tag := 0, status := 0, reason := none }] }), ({ host := 1, code := 0x0310, tag := 0, status := 0, reason := none }), [], by decide +kernel⟩,
   ⟨(mail 0x0110 ([13, 1, 0, 0]) (with_ [(O.sysHostLeaseOwner, 2 ^ 64 - 1)])), (cmdOf 0x0110 ([13, 1, 0, 0])), 13, by and_intros <;> decide +kernel⟩,
   ⟨(mail 0x0111 ([0, 0, 0, 0]) (base)), (cmdOf 0x0111 ([0, 0, 0, 0])), 0, by and_intros <;> decide +kernel⟩,
   ⟨(base.modDisp fun x => { x with accepted := [{ cmdOf 0x0310 [0, 0, 0, 0] with flags := 2 }], held := [heldOf 0x0310 [0]] }), ({ cmdOf 0x0310 [0, 0, 0, 0] with flags := 2 }), (heldOf 0x0310 [0]), by and_intros <;> decide +kernel⟩,
   ⟨(with_ [(O.sysHostPresent, 8)]), 3, by and_intros <;> decide +kernel⟩⟩

/-- States and operands that meet the hypotheses of each clause of `HpnCommandsComplete`. -/
theorem witness_HpnCommandsComplete :
    (∃ (s : State) (pkt : List (BitVec 8)) (seq : Nat) (body : List Byte) (k : Fin 8), s.hpnBody 1 pkt = some (seq, k.val, body) ∧ (s.hosts[(3 : Fin 4)].slots[k]).st = .free) ∧
    (∃ (s : State) (pkt : List (BitVec 8)) (seq : Nat) (body : List Byte) (k : Fin 8), s.hpnBody 1 pkt = some (seq, k.val, body) ∧ (s.hosts[(3 : Fin 4)].slots[k]).st ≠ .free ∧ (s.hosts[(3 : Fin 4)].slots[k]).cmd ≠ body) ∧
    (∃ (s : State) (pkt : List (BitVec 8)) (seq : Nat) (body : List Byte) (k : Fin 8), s.hpnBody 3 pkt = some (seq, k.val, body) ∧ (s.hosts[(3 : Fin 4)].slots[k]).st = .done) ∧
    (∃ (s : State) (pkt : List (BitVec 8)) (seq : Nat) (slot : Nat) (body : List Byte), s.hpnBody 5 pkt = some (seq, slot, body) ∧ (fieldAt body 0 1 % 128 + 128 - s.hosts[(3 : Fin 4)].tail) % 128 ≤ (s.hosts[(3 : Fin 4)].head + 128 - s.hosts[(3 : Fin 4)].tail) % 128) ∧
    (∃ (s : State) (pkt : List (BitVec 8)) (seq : Nat) (slot : Nat) (body : List Byte), s.hpnBody 6 pkt = some (seq, slot, body)) ∧
    (∃ (s : State) (pkt : List (BitVec 8)) (seq : Nat) (slot : Nat) (body : List Byte), s.hpnBody 9 pkt = some (seq, slot, body)) ∧
    (∃ (s : State) (pkt : List (BitVec 8)) (key : List Byte), s.sec.hpnKey = some key ∧ fieldAt pkt 0 1 = 7 ∧ fieldAt pkt 2 2 = 32 ∧ 40 ≤ pkt.length) ∧
    (∃ (s : State), s.hpn.up = true) ∧
    (∃ (s : State), s.hpn.up = true ∧ s.hpn.lastAt + 3 * s.getO (O.sysHostLeaseTimeout 3) * msTicks ≤ s.now) :=
  ⟨⟨hpnUp, (([1, 7, 1, 0, 1, 0, 0, 0, 5] ++ Config.kmac256 [] [1, 7, 1, 0, 1, 0, 0, 0, 5] 32 "EZ HPN REC")), 1, [5], 7, (hpn_ok _ _ _ _ 1 _ _ (by decide) (by decide +kernel) (by decide +kernel) (by decide +kernel) (by decide) (by decide) (by decide) (by decide) (by decide)), by decide +kernel⟩,
   ⟨(hpnUp.modSlot 3 0 fun x => { x with st := .posted }), (([1, 0, 1, 0, 1, 0, 0, 0, 5] ++ Config.kmac256 [] [1, 0, 1, 0, 1, 0, 0, 0, 5] 32 "EZ HPN REC")), 1, [5], 0, (hpn_ok _ _ _ _ 1 _ _ (by decide) (by decide +kernel) (by decide +kernel) (by decide +kernel) (by decide) (by decide) (by decide) (by decide) (by decide)), by and_intros <;> decide +kernel⟩,
   ⟨(hpnUp.modSlot 3 0 fun x => { x with st := .done }), (([3, 0, 0, 0, 1, 0, 0, 0] ++ Config.kmac256 [] [3, 0, 0, 0, 1, 0, 0, 0] 32 "EZ HPN REC")), 1, [], 0, (hpn_ok _ _ _ _ 0 _ _ (by decide) (by decide +kernel) (by decide +kernel) (by decide +kernel) (by decide) (by decide) (by decide) (by decide) (by decide)), by decide +kernel⟩,
   ⟨hpnUp, (([5, 0, 1, 0, 1, 0, 0, 0, 0] ++ Config.kmac256 [] [5, 0, 1, 0, 1, 0, 0, 0, 0] 32 "EZ HPN REC")), 1, 0, [0], (hpn_ok _ _ _ _ 1 _ _ (by decide) (by decide +kernel) (by decide +kernel) (by decide +kernel) (by decide) (by decide) (by decide) (by decide) (by decide)), by decide +kernel⟩,
   ⟨hpnUp, (([6, 0, 0, 0, 1, 0, 0, 0] ++ Config.kmac256 [] [6, 0, 0, 0, 1, 0, 0, 0] 32 "EZ HPN REC")), 1, 0, [], (hpn_ok _ _ _ _ 0 _ _ (by decide) (by decide +kernel) (by decide +kernel) (by decide +kernel) (by decide) (by decide) (by decide) (by decide) (by decide))⟩,
   ⟨hpnUp, (([9, 0, 0, 0, 1, 0, 0, 0] ++ Config.kmac256 [] [9, 0, 0, 0, 1, 0, 0, 0] 32 "EZ HPN REC")), 1, 0, [], (hpn_ok _ _ _ _ 0 _ _ (by decide) (by decide +kernel) (by decide +kernel) (by decide +kernel) (by decide) (by decide) (by decide) (by decide) (by decide))⟩,
   ⟨(base.modSec fun x => { x with hpnKey := some [] }), ([7, 0, 32, 0] ++ List.replicate 36 0), [], by and_intros <;> decide +kernel⟩,
   ⟨hpnUp, by decide +kernel⟩,
   ⟨hpnUp, by and_intros <;> decide +kernel⟩⟩

/-- States and operands that meet the hypotheses of each clause of `GateLinkCommandsComplete`. -/
theorem witness_GateLinkCommandsComplete :
    (∃ (s : State) (l : Fin 40), s.linkEnabled l = true ∧ s.ctLocked = true ∧ (s.links[l]).st = .off ∧ (s.links[l]).barred = false) ∧
    (∃ (s : State) (l : Fin 40), (s.links[l]).st = .training) ∧
    (∃ (s : State) (l : Fin 40), (s.links[l]).st = .training ∧ (s.links[l]).step = 1) ∧
    (∃ (s : State) (l : Fin 40), (s.links[l]).st = .training ∧ (s.links[l]).step = 2) ∧
    (∃ (s : State) (l : Fin 40) (g : BitVec 8) (d : BitVec 16) (c : BitVec 16), (s.links[l]).st = .training ∧ (s.links[l]).step = 3 ∧ g = 1 ∧ 64 ≤ d.toNat ∧ d.toNat ≤ 960 ∧ c.toNat % 4 = 3 ∧ (s.lossWanted l = 2 → c.toNat.testBit 2 = true)) ∧
    (∃ (s : State) (l : Fin 40) (g : BitVec 8) (d : BitVec 16) (c : BitVec 16), (s.links[l]).st = .training ∧ (s.links[l]).step = 3 ∧ (g ≠ 1 ∨ d.toNat < 64 ∨ 960 < d.toNat ∨ c.toNat % 4 ≠ 3)) ∧
    (∃ (s : State) (l : Fin 40) (e : List (Nat × Nat)), (s.links[l]).st = .training ∧ (s.links[l]).step = 5 ∧ 48 ≤ e.length ∧ s.mayWrite l = true) ∧
    (∃ (s : State) (l : Fin 40) (e : List (Nat × Nat)), (s.links[l]).st = .training ∧ (s.links[l]).step = 5 ∧ (e.length < 48 ∨ s.mayWrite l = false)) ∧
    (∃ (s : State) (l : Fin 40), s.linkEnabled l = true ∧ s.ctLocked = true ∧ (s.links[l]).st = .lost ∧ (s.links[l]).lostAt + 10 * msTicks ≤ s.now) ∧
    (∃ (s : State) (l : Fin 40), s.linkUp l = true ∧ (s.links[l]).ctleAt + msTicks ≤ s.now) ∧
    (∃ (s : State) (l : Fin 40) (f : UpFrame), s.linkUp l = true ∧ State.frameOk f kEcho 3 = true ∧ (s.links[l]).echo = some (fieldAt f.bytes 0 1)) ∧
    (∃ (s : State) (l : Fin 40) (f : UpFrame) (e : Edge), s.linkUp l = true ∧ State.frameOk f kTel 4 = true ∧ ((s.links[l]).edges.find? fun (e : Edge) => e.meas && e.seq == bitsOf (leNat f.bytes) 31 28) = some e ∧ 8 * (s.now : Int) ≤ s.telDue l e ∧ (l ≠ 31 ∨ e.sw ≠ 1 ∨ bitOf (leNat f.bytes) 13 = true)) ∧
    (∃ (s : State) (l : Fin 40) (f : UpFrame), s.linkUp l = true ∧ State.frameOk f kStat 4 = true ∧ bitsOf (leNat f.bytes) 15 8 / 4 = 0) ∧
    (∃ (s : State) (l : Fin 40) (f : UpFrame), ((s.links[l]).st = .training ∨ (s.links[l]).st = .lost) ∧ State.frameOk f kStat 4 = true) ∧
    (∃ (s : State) (l : Fin 40) (f : UpFrame), (s.links[l]).st ≠ .off ∧ State.frameOk f kAlarm 1 = true) ∧
    (∃ (s : State) (l : Fin 40) (f : UpFrame) (r : RegReq), s.linkUp l = true ∧ State.frameOk f kReg 3 = true ∧ (s.links[l]).reg = some r ∧ r.addr = fieldAt f.bytes 0 1 ∧ (s.links[l]).regQueue = []) ∧
    (∃ (s : State) (l : Fin 40) (r : RegReq), s.linkUp l = true ∧ (s.links[l]).reg = some r ∧ r.sentAt + 2 * usTicks ≤ s.now ∧ r.tries < 3) ∧
    (∃ (s : State) (l : Fin 40), s.linkUp l = true ∧ (s.links[l]).statAt + 25 * usTicks ≤ s.now) ∧
    (∃ (s : State) (l : Fin 40) (e : Edge), s.linkUp l = true ∧ ((s.links[l]).edges.find? fun (e : Edge) => e.meas) = some e ∧ s.telDue l e < 8 * (s.now : Int) ∧ (s.links[l]).telMiss < 2) ∧
    (∃ (s : State) (l : Fin 40), s.linkUp l = true) ∧
    (∃ (s : State) (c : Cmd) (m : Nat), Front s 0x0301 c ∧ c.payload.length = 8 ∧ fieldAt c.payload 0 8 = m ∧ m ≠ 0 ∧ m < 2 ^ 40 ∧ Permits s c none 2 ∧ (∀ k : Fin 40, m.testBit k = true → s.owns c (linkGroup k) = true ∧ s.ilShort (some (linkGroup k)) false = none ∧ s.stage137 k = false ∧ s.linkEnabled k = true)) ∧
    (∃ (s : State) (c : Cmd) (m : Nat), Front s 0x0302 c ∧ c.payload.length = 8 ∧ fieldAt c.payload 0 8 = m ∧ m ≠ 0 ∧ m < 2 ^ 40 ∧ Permits s c none 2 ∧ (∀ k : Fin 40, m.testBit k = true → s.owns c (linkGroup k) = true ∧ s.ilShort (some (linkGroup k)) false = none ∧ s.stage137 k = false ∧ s.linkState k = 5)) :=
  ⟨⟨((with_ [(O.glkEnable, 2 ^ 39)]).modLink 39 fun x => { x with st := .off }), 39, by and_intros <;> decide +kernel⟩,
   ⟨((base).modLink 39 fun x => { x with st := .training }), 39, by decide +kernel⟩,
   ⟨((base).modLink 39 fun x => { x with st := .training, step := 1 }), 39, by and_intros <;> decide +kernel⟩,
   ⟨((base).modLink 39 fun x => { x with st := .training, step := 2 }), 39, by and_intros <;> decide +kernel⟩,
   ⟨((base).modLink 39 fun x => { x with st := .training, step := 3 }), 39, 1, 960, 7, by and_intros <;> decide +kernel⟩,
   ⟨((base).modLink 39 fun x => { x with st := .training, step := 3 }), 39, 2, 960, 7, by and_intros <;> decide +kernel⟩,
   ⟨((base).modLink 39 fun x => { x with st := .training, step := 5, mode := 3, fault := 4 }), 39, (List.replicate 48 (100, 0)), by and_intros <;> decide +kernel⟩,
   ⟨((base).modLink 39 fun x => { x with st := .training, step := 5 }), 39, (List.replicate 47 (100, 0)), by and_intros <;> decide +kernel⟩,
   ⟨((with_ [(O.glkEnable, 2 ^ 39)]).modLink 39 fun x => { x with st := .lost, lostAt := 0 }), 39, by and_intros <;> decide +kernel⟩,
   ⟨((base).modLink 39 fun x => { x with st := .ready }), 39, by and_intros <;> decide +kernel⟩,
   ⟨((base).modLink 39 fun x => { x with st := .ready, echo := some 7 }), 39, (frameOf 0x1C [7, 0, 0]), by and_intros <;> decide +kernel⟩,
   ⟨((base).modLink 39 fun x => { x with st := .ready, edges := [edge0] }), 39, (frameOf 0x5C [0, 0, 0, 0]), edge0, by and_intros <;> decide +kernel⟩,
   ⟨((base).modLink 39 fun x => { x with st := .ready }), 39, (frameOf 0x7C [0, 0, 0, 0]), by and_intros <;> decide +kernel⟩,
   ⟨((base).modLink 39 fun x => { x with st := .lost }), 39, (frameOf 0x7C [0x30, 5, 0, 0]), by and_intros <;> decide +kernel⟩,
   ⟨((base).modLink 39 fun x => { x with st := .lost }), 39, (frameOf 0x9C [0x40]), by and_intros <;> decide +kernel⟩,
   ⟨((base).modLink 39 fun x => { x with st := .ready, reg := some { addr := 5, data := 0, sentAt := 0, tries := 0 }, regQueue := [] }), 39, (frameOf 0xFB [5, 0, 0]), ({ addr := 5, data := 0, sentAt := 0, tries := 0 }), by and_intros <;> decide +kernel⟩,
   ⟨((base).modLink 39 fun x => { x with st := .ready, reg := some { addr := 5, data := 0, sentAt := 0, tries := 2 } }), 39, ({ addr := 5, data := 0, sentAt := 0, tries := 2 }), by and_intros <;> decide +kernel⟩,
   ⟨((base).modLink 39 fun x => { x with st := .ready, statAt := 0 }), 39, by and_intros <;> decide +kernel⟩,
   ⟨((base).modLink 39 fun x => { x with st := .ready, edges := [{ edge0 with target := 0 }], telMiss := 1 }), 39, ({ edge0 with target := 0 }), by and_intros <;> decide +kernel⟩,
   ⟨((base).modLink 39 fun x => { x with st := .ready }), 39, by decide +kernel⟩,
   ⟨(mail 0x0301 (toLe 8 (2 ^ 39)) (up39.setO O.glkEnable (2 ^ 39))), (cmdOf 0x0301 (toLe 8 (2 ^ 39))), (2 ^ 39), by and_intros <;> decide +kernel⟩,
   ⟨(mail 0x0302 (toLe 8 (2 ^ 39)) (up39.modLink 39 fun x => { x with mode := 3 })), (cmdOf 0x0302 (toLe 8 (2 ^ 39))), (2 ^ 39), by and_intros <;> decide +kernel⟩⟩

/-- States and operands that meet the hypotheses of each clause of `PlannerCommandsComplete`. -/
theorem witness_PlannerCommandsComplete :
    (∃ (s : State) (g : Fin 8), (s.cgs[g]).running = false) ∧
    (∃ (s : State) (g : Fin 8), (s.cgs[g]).running = true ∧ (s.cgs[g]).start + (s.cgs[g]).cur ≤ s.now) ∧
    (∃ (s : State) (g : Fin 8), (s.cgs[g]).running = true ∧ (State.planWindow s.cgs[g]).1 - s.getO O.pwmPlanLead ≤ s.now ∧ (s.cgs[g]).planned ≤ (State.planWindow s.cgs[g]).1) :=
  ⟨⟨base, 7, by decide +kernel⟩,
   ⟨(base.modCg 0 fun x => { x with running := true, cur := 80000, next := 80000 }), 0, by and_intros <;> decide +kernel⟩,
   ⟨(base.modCg 6 fun x => { x with running := true, cur := 80000, next := 80000 }), 6, by and_intros <;> decide +kernel⟩⟩

/-- States and operands that meet the hypotheses of each clause of `TractionCommandsComplete`. -/
theorem witness_TractionCommandsComplete :
    (∃ (s : State) (c : Cmd) (m : Fin 4), Front s 0x0310 c ∧ c.payload = [BitVec.ofNat 8 m, 0, 0, 0] ∧ Permits s c (some m.val) 1 true ∧ s.getO (O.trxType m) ≠ 0 ∧ (∀ k ∈ s.enableChecks m, k.bad = false)) ∧
    (∃ (s : State) (c : Cmd) (m : Fin 4), Front s 0x0311 c ∧ c.payload = [BitVec.ofNat 8 m, 0, 0, 0] ∧ Permits s c (some m.val) 1 ∧ s.getO (O.trxType m) ≠ 0 ∧ s.trxSt m = 3) ∧
    (∃ (s : State) (c : Cmd) (m : Fin 4), Front s 0x0311 c ∧ c.payload = [BitVec.ofNat 8 m, 2, 0, 0] ∧ Permits s c (some m.val) 1 ∧ s.getO (O.trxType m) ≠ 0 ∧ 1 ≤ s.trxSt m ∧ s.trxSt m ≤ 4) ∧
    (∃ (s : State) (c : Cmd) (m : Fin 4), Front s 0x0311 c ∧ c.payload = [BitVec.ofNat 8 m, 0, 0, 0] ∧ Permits s c (some m.val) 1 ∧ s.getO (O.trxType m) ≠ 0 ∧ s.trxSt m = 6) ∧
    (∃ (s : State) (c : Cmd) (m : Fin 4), Front s 0x0312 c ∧ c.payload.length = 16 ∧ fieldAt c.payload 0 1 = m.val ∧ fieldAt c.payload 1 3 = 0 ∧ Permits s c (some m.val) 1 ∧ s.getO (O.trxType m) ≠ 0 ∧ f32Refused (fieldAt c.payload 4 4) = false ∧ fieldAt c.payload 8 8 ≤ s.now + 2 ^ 32 ∧ s.trxSt m = 3 ∧ s.getO (O.trxMode m) = 0 ∧ s.override m ≠ 1) ∧
    (∃ (s : State) (c : Cmd) (m : Fin 4) (k : Fin 2), Front s 0x0313 c ∧ c.payload = [BitVec.ofNat 8 m, BitVec.ofNat 8 k, 0, 0] ∧ Permits s c (some m.val) 1 ∧ s.getO (O.trxType m) ≠ 0 ∧ s.trxSt m = 3 ∧ s.setSt m k = 1 ∧ s.returnBar m k = none) :=
  ⟨⟨(mail 0x0310 ([0, 0, 0, 0]) (trxOk)), (cmdOf 0x0310 ([0, 0, 0, 0])), 0, by and_intros <;> decide +kernel⟩,
   ⟨(mail 0x0311 ([0, 0, 0, 0]) ((trxOk).setO (O.trxState 0) 3)), (cmdOf 0x0311 ([0, 0, 0, 0])), 0, by and_intros <;> decide +kernel⟩,
   ⟨(mail 0x0311 ([0, 2, 0, 0]) ((trxOk).setO (O.trxState 0) 4)), (cmdOf 0x0311 ([0, 2, 0, 0])), 0, by and_intros <;> decide +kernel⟩,
   ⟨(mail 0x0311 ([0, 0, 0, 0]) ((trxOk).setO (O.trxState 0) 6)), (cmdOf 0x0311 ([0, 0, 0, 0])), 0, by and_intros <;> decide +kernel⟩,
   ⟨(mail 0x0312 ([0, 0, 0, 0] ++ toLe 4 f10 ++ toLe 8 (10 ^ 15 + 2 ^ 32)) ((trxOk).setO (O.trxState 0) 3)), (cmdOf 0x0312 ([0, 0, 0, 0] ++ toLe 4 f10 ++ toLe 8 (10 ^ 15 + 2 ^ 32))), 0, by and_intros <;> decide +kernel⟩,
   ⟨(mail 0x0313 ([0, 1, 0, 0]) (((trxOk.setO (O.trxSsState 0) (2 ^ 4)).modTrx 0 fun x => { x with speedOk := true }).setO (O.trxState 0) 3)), (cmdOf 0x0313 ([0, 1, 0, 0])), 0, 1, by and_intros <;> decide +kernel⟩⟩

/-- States and operands that meet the hypotheses of each clause of `TractionEventsComplete`. -/
theorem witness_TractionEventsComplete :
    (∃ (s : State) (m : Fin 4) (a : Nat), (s.trx[m]).agree = some a ∧ s.onObserver m = true ∧ a + 100 * msTicks ≤ s.now) ∧
    (∃ (s : State) (m : Fin 4), s.trxSt m = 3 ∧ (s.trx[m]).aged = false ∧ s.getO (O.trxSpAge m) * msTicks < s.now - (s.trx[m]).reqAt) ∧
    (∃ (s : State) (m : Fin 4) (a : Nat), (s.trx[m]).fwAt = some a ∧ s.switching m = true ∧ (s.trx[m]).fwBound = none ∧ a + 10 * msTicks ≤ s.now) ∧
    (∃ (s : State) (m : Fin 4) (a : Nat) (b : Rat), (s.trx[m]).fwOff = some a ∧ (s.trx[m]).fwBound = some b ∧ a + 10 * msTicks ≤ s.now) ∧
    (∃ (s : State) (m : Fin 4) (p : Held) (v : Nat) (at_ : Nat), (s.disp.held.find? fun (p : Held) => p.code == 0x0312 && p.arg.getLast? == some 0) = some p ∧ p.arg = [m.val, v, at_, 0] ∧ p.orphan = false) ∧
    (∃ (s : State) (m : Fin 4), (s.trx[m]).preset ≠ 0) ∧
    (∃ (s : State) (m : Fin 4) (p : Nat), (s.trx[m]).period = some p ∧ p ≤ s.now ∧ s.trxSt m = 1 ∧ (∀ k ∈ s.confSets m, (s.trx[m]).starts.testBit k.val = true) ∧ (∀ l ∈ State.machineLinks m, (s.links[l]).st ≠ .lost)) ∧
    (∃ (s : State) (m : Fin 4) (p : Nat), (s.trx[m]).period = some p ∧ p ≤ s.now ∧ s.trxSt m ≠ 1) ∧
    (∃ (s : State) (m : Fin 4), s.trxSt m = 2 ∧ 3 * s.getQ (O.trxLr m) * sTicks ≤ s.getQ (O.trxRr m) * (s.now - (s.trx[m]).magAt : Nat)) ∧
    (∃ (s : State) (m : Fin 4) (k : Fin 2) (a : Nat), ((s.trx[m]).sets[k]).eligible = some a ∧ s.setSt m k = 1 ∧ s.getO (O.trxSsAutoReturn m) = 1 ∧ s.returnBar m k = none ∧ bitsOf (s.getO (O.trxSsState m)) (11 + 4 * k) (8 + 4 * k) = 2 ∧ ((s.trx[m]).sets[k]).lossAt.length < 3 ∧ a + s.getO (O.trxSsReturnHold m) * msTicks ≤ s.now) ∧
    (∃ (s : State) (m : Fin 4) (k : Fin 2) (a : Nat), ((s.trx[m]).sets[k]).rampAt = some a ∧ s.setSt m k = 2 ∧ a + s.getO (O.trxSsReturnRamp m) * msTicks ≤ s.now) :=
  ⟨⟨((trxOk.setO (O.trxAngleSrc 0) 1).modTrx 0 fun x => { x with agree := some 0 }), 0, 0, by and_intros <;> decide +kernel⟩,
   ⟨((trxOk.setO (O.trxState 0) 3).modTrx 0 fun x => { x with aged := false, reqAt := 0 }), 0, by and_intros <;> decide +kernel⟩,
   ⟨((trxOk.setO (O.trxState 0) 3).modTrx 0 fun x => { x with fwAt := some 0, fwBound := none }), 0, 0, by and_intros <;> decide +kernel⟩,
   ⟨(trxOk.modTrx 0 fun x => { x with fwOff := some 0, fwBound := some 1 }), 0, 0, 1, by and_intros <;> decide +kernel⟩,
   ⟨((trxOk.setO (O.trxState 0) 3).modDisp fun x => { x with held := [heldOf 0x0312 [0, f10, 7, 0]] }), 0, (heldOf 0x0312 [0, f10, 7, 0]), f10, 7, by and_intros <;> decide +kernel⟩,
   ⟨(trxOk.modTrx 0 fun x => { x with preset := 1 }), 0, by decide +kernel⟩,
   ⟨((trxOk.setO (O.trxState 0) 1).modTrx 0 fun x => { x with period := some 0, starts := 1 }), 0, 0, by and_intros <;> decide +kernel⟩,
   ⟨((trxOk.setO (O.trxState 0) 3).modTrx 0 fun x => { x with period := some 0 }), 0, 0, by and_intros <;> decide +kernel⟩,
   ⟨((obs [(O.trxState 0, 2), (O.trxLr 0, f1), (O.trxRr 0, f1)] trxOk).modTrx 0 fun x => { x with magAt := 0 }), 0, by and_intros <;> decide +kernel⟩,
   ⟨(((obs [(O.trxState 0, 3), (O.trxSsState 0, 2 ^ 4 + 2 * 2 ^ 12), (O.trxSsAutoReturn 0, 1)] trxOk).modTrx 0 fun x => { x with speedOk := true }).modSet 0 1 fun x => { x with eligible := some 0, lossAt := [] }), 0, 1, 0, by and_intros <;> decide +kernel⟩,
   ⟨((trxOk.setO (O.trxSsState 0) (2 * 2 ^ 4)).modSet 0 1 fun x => { x with rampAt := some 0 }), 0, 1, 0, by and_intros <;> decide +kernel⟩⟩

/-- States and operands that meet the hypotheses of each clause of `LoopCommandsComplete`. -/
theorem witness_LoopCommandsComplete :
    (∃ (s : State) (c : Cmd) (m : Nat), Front s 0x0401 c ∧ c.payload.length = 8 ∧ fieldAt c.payload 0 8 = m ∧ m ≠ 0 ∧ Permits s c none 2 ∧ (∀ x : Fin 64, m.testBit x = true → 38 ≤ x.val ∧ s.owns c 12 = true ∧ s.ilShort (some 12) false = none ∧ bitsOf (s.getO (O.lpeTrigger x)) 31 30 ≠ 0 ∧ 2000 ≤ s.trigShortest (s.ctxTrigger x)) ∧ (∀ k ∈ s.chkAdmit (((State.maskCtxs m).filter fun x => !s.ctxOn x.val && s.ctx[x].startAt.isNone).map (·.val)), k.bad = false)) ∧
    (∃ (s : State) (c : Cmd) (m : Nat), Front s 0x0402 c ∧ c.payload.length = 8 ∧ fieldAt c.payload 0 8 = m ∧ m ≠ 0 ∧ Permits s c none 2 ∧ (∀ x : Fin 64, m.testBit x = true → 38 ≤ x.val ∧ s.owns c 12 = true ∧ s.ilShort (some 12) false = none)) ∧
    (∃ (s : State) (c : Cmd) (m : Nat) (at_ : Nat), Front s 0x0403 c ∧ c.payload.length = 16 ∧ fieldAt c.payload 0 8 = m ∧ fieldAt c.payload 8 8 = at_ ∧ m ≠ 0 ∧ Permits s c none 2 ∧ (at_ = 0 ∨ (s.now ≤ at_ ∧ at_ ≤ s.now + 2 ^ 32)) ∧ (∀ x : Fin 64, m.testBit x = true → s.owns c (ctxGroup x) = true ∧ s.ilShort (some (ctxGroup x)) false = none ∧ s.bitO (O.lpeStatus x) 13 = false)) ∧
    (∃ (s : State) (c : Cmd) (x : Fin 64) (mask : Nat), Front s 0x0404 c ∧ c.payload.length = 36 ∧ fieldAt c.payload 0 1 = x.val ∧ fieldAt c.payload 1 1 = mask ∧ fieldAt c.payload 2 2 = 0 ∧ mask ≠ 0 ∧ mask ≤ 15 ∧ (∀ k < 8, State.s20Bad (fieldAt c.payload (4 + 4 * k) 4) = false) ∧ Permits s c (some 12) 2 ∧ 38 ≤ x.val ∧ s.ctxOn x = false) ∧
    (∃ (s : State) (c : Cmd) (b : Fin 4), Front s 0x0410 c ∧ c.payload = [BitVec.ofNat 8 b, 0, 0, 0] ∧ Permits s c (some (s.bufGroup b)) 2 ∧ s.bufSt b ≠ 1 ∧ s.bufSt b ≠ 2) ∧
    (∃ (s : State) (c : Cmd) (b : Fin 4), Front s 0x0411 c ∧ c.payload = [BitVec.ofNat 8 b, 0, 0, 0] ∧ Permits s c (some (s.bufGroup b)) 2 ∧ (s.bufSt b = 1 ∨ s.bufSt b = 2)) ∧
    (∃ (s : State) (c : Cmd) (b : Fin 4) (first : Nat) (count : Nat), Front s 0x0412 c ∧ c.payload.length = 12 ∧ fieldAt c.payload 0 1 = b.val ∧ fieldAt c.payload 1 1 = 0 ∧ fieldAt c.payload 2 2 = 0 ∧ fieldAt c.payload 4 2 = first ∧ fieldAt c.payload 6 2 = count ∧ fieldAt c.payload 8 4 = 0 ∧ count ≠ 0 ∧ first + count ≤ s.getO (O.lpeTrCount b) ∧ count * s.recSize b ≤ 4096 ∧ Permits s c none 2 ∧ s.ilShort (some (s.bufGroup b)) false = none ∧ s.bufSt b = 3) ∧
    (∃ (s : State) (c : Cmd) (b : Fin 4) (first : Nat) (count : Nat) (xoff : Nat), Front s 0x0412 c ∧ c.payload.length = 12 ∧ fieldAt c.payload 0 1 = b.val ∧ fieldAt c.payload 1 1 = 1 ∧ fieldAt c.payload 2 2 = 0 ∧ fieldAt c.payload 4 2 = first ∧ fieldAt c.payload 6 2 = count ∧ fieldAt c.payload 8 4 = xoff ∧ count ≠ 0 ∧ first + count ≤ s.getO (O.lpeTrCount b) ∧ xoff + count * s.recSize b ≤ 131072 ∧ Permits s c none 2 ∧ s.ilShort (some (s.bufGroup b)) false = none ∧ s.bufSt b = 3 ∧ c.host.val < 2) :=
  ⟨⟨(mail 0x0401 (toLe 8 (2 ^ 63)) (with_ [(O.lpeTrigger 63, 2 ^ 31 + 10000), (O.lpeDeadline 63, 60000)])), (cmdOf 0x0401 (toLe 8 (2 ^ 63))), (2 ^ 63), by and_intros <;> decide +kernel⟩,
   ⟨(mail 0x0402 (toLe 8 (2 ^ 38)) (with_ [(O.lpeStatus 38, 2 ^ 15)])), (cmdOf 0x0402 (toLe 8 (2 ^ 38))), (2 ^ 38), by and_intros <;> decide +kernel⟩,
   ⟨(mail 0x0403 (toLe 8 (2 ^ 63) ++ toLe 8 (10 ^ 15 + 2 ^ 32)) (with_ [(O.lpeStatus 63, 2 ^ 15)])), (cmdOf 0x0403 (toLe 8 (2 ^ 63) ++ toLe 8 (10 ^ 15 + 2 ^ 32))), (2 ^ 63), (10 ^ 15 + 2 ^ 32), by and_intros <;> decide +kernel⟩,
   ⟨(mail 0x0404 ([38, 15, 0, 0] ++ toLe 32 0) (base)), (cmdOf 0x0404 ([38, 15, 0, 0] ++ toLe 32 0)), 38, 15, by and_intros <;> decide +kernel⟩,
   ⟨(mail 0x0410 ([3, 0, 0, 0]) (base)), (cmdOf 0x0410 ([3, 0, 0, 0])), 3, by and_intros <;> decide +kernel⟩,
   ⟨(mail 0x0411 ([3, 0, 0, 0]) (with_ [(O.lpeTrState 3, 2)])), (cmdOf 0x0411 ([3, 0, 0, 0])), 3, by and_intros <;> decide +kernel⟩,
   ⟨(mail 0x0412 ([0, 0, 0, 0, 1, 0, 1, 0, 0, 0, 0, 0]) (with_ [(O.lpeTrState 0, 3), (O.lpeTrCount 0, 2)])), (cmdOf 0x0412 ([0, 0, 0, 0, 1, 0, 1, 0, 0, 0, 0, 0])), 0, 1, 1, by and_intros <;> decide +kernel⟩,
   ⟨(mail 0x0412 ([0, 1, 0, 0, 1, 0, 1, 0, 0, 0, 0, 0]) (with_ [(O.lpeTrState 0, 3), (O.lpeTrCount 0, 2)])), (cmdOf 0x0412 ([0, 1, 0, 0, 1, 0, 1, 0, 0, 0, 0, 0])), 0, 1, 1, 0, by and_intros <;> decide +kernel⟩⟩

/-- States and operands that meet the hypotheses of each clause of `LoopEventsComplete`. -/
theorem witness_LoopEventsComplete :
    (∃ (s : State) (c : Fin 64), c.val ≠ 22 ∧ (c.val < 31 ∨ 37 ≤ c.val) ∧ s.shedTrim c = false ∧ s.samplesNow c = true ∧ s.ctxOn c = true ∧ (s.ctx[c]).run = none ∧ (s.ctx[c]).stopping = false ∧ (s.ctx[c]).startAt = none ∧ (s.ctx[c]).swapAt = none) ∧
    (∃ (s : State) (c : Fin 64) (r : Run), s.onLane < 4 ∧ State.firstRun s.readyRuns = some (c, r)) ∧
    (∃ (s : State) (c : Fin 64) (r : Run), (s.ctx[c]).run = some r ∧ r.laneAt.isSome = true ∧ s.now ≤ r.deadline ∧ s.ctxModel c = 0) ∧
    (∃ (s : State) (c : Fin 64) (r : Run), ((8 ≤ c.val ∧ c.val < 16) ∨ (23 ≤ c.val ∧ c.val < 31) ∨ 38 ≤ c.val) ∧ (s.ctx[c]).run = some r ∧ r.deadline ≤ s.now) ∧
    (∃ (s : State) (b : Fin 4) (x : TraceRead), (s.traceReads.find? fun (t : TraceRead) => t.buf == b.val) = some x) :=
  ⟨⟨(with_ [(O.lpeTrigger 63, 2 ^ 31 + 10000), (O.lpeStatus 63, 2 ^ 15)]), 63, by and_intros <;> decide +kernel⟩,
   ⟨(base.modCtx 63 fun x => { x with run := some run0 }), 63, run0, by and_intros <;> decide +kernel⟩,
   ⟨(base.modCtx 63 fun x => { x with run := some { run0 with laneAt := some 0 } }), 63, ({ run0 with laneAt := some 0 }), by and_intros <;> decide +kernel⟩,
   ⟨(base.modCtx 63 fun x => { x with run := some run0 }), 63, run0, by and_intros <;> decide +kernel⟩,
   ⟨({ base with traceReads := [{ buf := 3, first := 0, count := 1, xoff := 0 }] }), 3, ({ buf := 3, first := 0, count := 1, xoff := 0 }), by decide +kernel⟩⟩

/-- States and operands that meet the hypotheses of each clause of `ConverterCommandsComplete`. -/
theorem witness_ConverterCommandsComplete :
    (∃ (s : State) (k : Fin 12) (g : Nat), s.gridLast (s.getO (O.adcTrigger k)) = some g ∧ (s.adc.conv[k]).trigNext ≤ g ∧ s.now = cvAt g ∧ s.adcSt k = 1 ∧ (s.adc.conv[k]).queue = [] ∧ (s.adc.conv[k]).offReq = false ∧ (s.adc.conv[k]).backReq = false ∧ (s.adc.conv[State.partner k]).offReq = false ∧ (s.adc.conv[State.partner k]).backReq = false ∧ s.passItems k ≠ []) ∧
    (∃ (s : State) (k : Fin 12) (g : Nat), s.gridLast (s.getO (O.adcTrigger k)) = some g ∧ (s.adc.conv[k]).trigNext ≤ g ∧ cvAt g < s.now ∧ s.adcSt k ≠ 4 ∧ s.adcSt k ≠ 5 ∧ (s.adc.conv[k]).offReq = false ∧ (s.adc.conv[k]).backReq = false ∧ (s.adc.conv[State.partner k]).offReq = false ∧ (s.adc.conv[State.partner k]).backReq = false ∧ s.passItems k ≠ []) ∧
    (∃ (s : State) (k : Fin 12) (r : InjReq), s.injDue k = some r ∧ (s.adc.conv[k]).queue.length < 4 ∧ s.adcSt k ≤ 3) ∧
    (∃ (s : State) (k : Fin 12) (c : Conv) (rest : List Conv) (uV : Int) (at_ : Nat) (code : Nat), (s.adc.conv[k]).todo = c :: rest ∧ s.adcSt k = 2 ∧ (s.adc.conv[k]).convEnds c ≤ s.now ∧ at_ = (s.adc.conv[k]).sampledAt c ∧ code = rawCode (s.gainAt (16 * (k.val / 2) + bitsOf c.entry 3 0) at_) uV ∧ c.res < 384 ∧ c.res / 32 = k.val ∧ c.cover = false ∧ bitsOf c.entry 30 23 = 0 ∧ bitsOf c.filter 7 4 = 0 ∧ s.resSt c.res = ResSt.idle ∧ (s.adc.pair[State.pairOf k]).refBad = false ∧ s.gainBad (16 * (k.val / 2) + bitsOf c.entry 3 0) at_ = false ∧ 0 < code ∧ code < 16383) ∧
    (∃ (s : State) (k : Fin 12) (r : InjReq) (q : List InjReq) (c : Cmd) (at_ : Nat), (s.adc.conv[k]).queue = r :: q ∧ s.adcSt k = 3 ∧ r.who = .host ∧ r.cmd = some c ∧ c.orphan = false ∧ at_ = s.injSampled k r ∧ at_ + 128 ≤ s.now ∧ (s.adc.conv[k]).offReq = false ∧ (s.adc.conv[State.partner k]).offReq = false) ∧
    (∃ (s : State) (p : Fin 6) (c : CalRun) (even : List Int) (odd : List Int), (s.adc.pair[p]).cal = some c ∧ s.adcSt (State.convOf p false) = 4 ∧ s.calEnds p c ≤ s.now ∧ even.length = 64 ∧ odd.length = 64 ∧ State.calClip (s.calCodes p c even) = false ∧ State.calClip (s.calCodes p c odd) = false ∧ c.point = 0) ∧
    (∃ (s : State) (p : Fin 6) (c : CalRun) (even : List Int) (odd : List Int) (z : CalZero) (e : Rat × Rat) (o : Rat × Rat), (s.adc.pair[p]).cal = some c ∧ s.adcSt (State.convOf p false) = 4 ∧ s.calEnds p c ≤ s.now ∧ even.length = 64 ∧ odd.length = 64 ∧ State.calClip (s.calCodes p c even) = false ∧ State.calClip (s.calCodes p c odd) = false ∧ c.point = 1 ∧ c.zero = some z ∧ c.res < 384 ∧ State.calCompute z.even ((s.calCodes p c even).foldl (· + ·) 0) z.value c.value = .inl e ∧ State.calCompute z.odd ((s.calCodes p c odd).foldl (· + ·) 0) z.value c.value = .inl o) ∧
    (∃ (s : State) (c : Cmd) (j : Nat) (i : Fin 12), Front s 0x0501 c ∧ c.payload.length = 4 ∧ fieldAt c.payload 0 2 = j ∧ fieldAt c.payload 2 2 = 0 ∧ j < 384 ∧ j / 32 = i.val ∧ Permits s c (s.pairGroup (j / 64)) 1) ∧
    (∃ (s : State) (c : Cmd) (m : Nat), Front s 0x0502 c ∧ c.payload.length = 4 ∧ fieldAt c.payload 0 2 = m ∧ fieldAt c.payload 2 2 = 0 ∧ m ≠ 0 ∧ m ≤ 4095 ∧ Permits s c none 1 ∧ (∀ y : Fin 12, (s.adc.conv[y]).offReq = false ∧ (s.adc.conv[y]).backReq = false) ∧ (∀ x : Fin 12, m.testBit x = true → Permits s c (s.pairGroup (x.val / 2)) 1 ∧ bitsOf (s.getO (O.adcTrigger x)) 31 30 = 0 ∧ s.adcSt x = 1 ∧ (s.adc.conv[x]).queue = [] ∧ s.passItems x ≠ [])) ∧
    (∃ (s : State) (c : Cmd) (j : Nat) (p : Fin 6), Front s 0x0503 c ∧ c.payload.length = 8 ∧ fieldAt c.payload 0 2 = j ∧ fieldAt c.payload 2 1 = 0 ∧ fieldAt c.payload 3 1 = 0 ∧ State.s20Bad (fieldAt c.payload 4 4) = false ∧ j < 384 ∧ j / 64 = p.val ∧ Permits s c (s.pairGroup (j / 64)) 3 ∧ (∀ g, s.pairGroup (j / 64) = some g → s.stageOn g = false) ∧ (s.adc.pair[p]).cal = none ∧ (∀ b, s.adcSt (State.convOf p b) ≤ 1 ∧ (s.adc.conv[State.convOf p b]).queue = [])) ∧
    (∃ (r25 : Nat) (rMid : Nat), (r25 + 10000 < 2500000 ∨ 2510000 < r25 ∨ rMid + 5000 < 1250000 ∨ 1255000 < rMid)) ∧
    (∃ (s : State) (p : Fin 6) (r25 : Nat) (rMid : Nat) (a : Nat), 2490000 ≤ r25 ∧ r25 ≤ 2510000 ∧ 1245000 ≤ rMid ∧ rMid ≤ 1255000 ∧ (s.adc.pair[p]).refOkAt = some a ∧ a + 100 * usTicks ≤ s.now) :=
  ⟨⟨(with_ [(O.adcTrigger 11, 2 ^ 31 + 10000), (O.adcStatus 11, 256), (O.adcSeqLen 11, 1)]), 11, (10 ^ 15), by and_intros <;> decide +kernel⟩,
   ⟨(with_ [(O.adcTrigger 11, 2 ^ 31 + 10001), (O.adcStatus 11, 256), (O.adcSeqLen 11, 1)]), 11, (10 ^ 15 / 80008 * 80008), by and_intros <;> decide +kernel⟩,
   ⟨((with_ [(O.adcStatus 11, 256)]).modConv 11 fun x => { x with coming := [inj0], queue := [inj0, inj0, inj0] }), 11, inj0, by and_intros <;> decide +kernel⟩,
   ⟨(((with_ [(O.adcStatus 11, 512)]).modConv 11 fun x => { x with todo := [conv0], entryAt := 0 })), 11, conv0, [], 1250000, (((with_ [(O.adcStatus 11, 512)]).modConv 11 fun x => { x with todo := [conv0], entryAt := 0 }).adc.conv[(11 : Fin 12)].sampledAt conv0), 8192, by and_intros <;> decide +kernel⟩,
   ⟨(((with_ [(O.adcStatus 11, 768)]).modConv 11 fun x => { x with queue := [inj0], injAt := 0 })), 11, inj0, [], (cmdOf 0x0501 [0x7F, 1, 0, 0]), (((with_ [(O.adcStatus 11, 768)]).modConv 11 fun x => { x with queue := [inj0], injAt := 0 }).injSampled 11 inj0), by and_intros <;> decide +kernel⟩,
   ⟨(((with_ [(O.adcStatus 0, 1024)]).modPair 0 fun x => { x with cal := some cal0 })), 0, cal0, (List.replicate 64 1875000), (List.replicate 64 1875000), by and_intros <;> decide +kernel⟩,
   ⟨(((with_ [(O.adcStatus 0, 1024)]).modPair 0 fun x => { x with cal := some { cal0 with point := 1, value := 262144, zero := some { host := 0, res := 0, even := 64 * 8192, odd := 64 * 8192, value := 0 } } })), 0, ({ cal0 with point := 1, value := 262144, zero := some { host := 0, res := 0, even := 64 * 8192, odd := 64 * 8192, value := 0 } }), (List.replicate 64 1875000), (List.replicate 64 1875000), ({ host := 0, res := 0, even := 64 * 8192, odd := 64 * 8192, value := 0 }), ((64, 8192)), ((64, 8192)), by and_intros <;> decide +kernel⟩,
   ⟨(mail 0x0501 ([0x7F, 1, 0, 0]) (with_ [(O.adcStatus 11, 256)])), (cmdOf 0x0501 ([0x7F, 1, 0, 0])), 383, 11, by and_intros <;> decide +kernel⟩,
   ⟨(mail 0x0502 ([0, 8, 0, 0]) (with_ [(O.adcTrigger 11, 0), (O.adcStatus 11, 256), (O.adcSeqLen 11, 1)])), (cmdOf 0x0502 ([0, 8, 0, 0])), 2048, by and_intros <;> decide +kernel⟩,
   ⟨(mail 0x0503 ([0x7F, 1, 0, 0, 0, 0, 0, 0]) (with_ [(O.adcPGroup 5, 0xFF)])), (cmdOf 0x0503 ([0x7F, 1, 0, 0, 0, 0, 0, 0])), 383, 5, by decide +kernel, by decide +kernel, by decide +kernel, by decide +kernel, by decide +kernel, by decide +kernel, by decide +kernel, by decide +kernel, by decide +kernel, (fun g h => nomatch (show (none : Option Nat) = some g from h)), by and_intros <;> decide +kernel⟩,
   ⟨2489999, 1250000, by decide +kernel⟩,
   ⟨(base.modPair 5 fun x => { x with refBad := true, refOkAt := some 0 }), 5, 2510000, 1255000, 0, by and_intros <;> decide +kernel⟩⟩

/-- States and operands that meet the hypotheses of each clause of `PositionEventsComplete`. -/
theorem witness_PositionEventsComplete :
    (∃ (s : State) (p : Fin 4) (a : Bool), s.getO (O.posMode p) = 2 ∧ (s.pos[p]).a ≠ a ∧ (s.pos[p]).tEdge + 4 * s.getO (O.posMinEdge p) ≤ s.now) ∧
    (∃ (s : State) (p : Fin 4) (b : Bool), s.getO (O.posMode p) = 2 ∧ (s.pos[p]).b ≠ b ∧ (s.pos[p]).tEdge + 4 * s.getO (O.posMinEdge p) ≤ s.now) ∧
    (∃ (s : State) (p : Fin 4) (a : Bool) (b : Bool), s.getO (O.posMode p) = 2 ∧ (s.pos[p]).a ≠ a ∧ (s.pos[p]).b ≠ b) ∧
    (∃ (s : State) (p : Fin 4), s.getO (O.posMode p) = 2 ∧ s.bitO (O.posZcfg p) 0 = true ∧ (s.pos[p]).a = s.bitO (O.posZcfg p) 3 ∧ (s.pos[p]).b = s.bitO (O.posZcfg p) 2 ∧ (s.pos[p]).refd = false) ∧
    (∃ (s : State) (p : Fin 4), s.getO (O.posMode p) = 2 ∧ s.bitO (O.posZcfg p) 0 = true ∧ (s.pos[p]).a = s.bitO (O.posZcfg p) 3 ∧ (s.pos[p]).b = s.bitO (O.posZcfg p) 2 ∧ (s.pos[p]).refd = true ∧ 2 < (s.pos[p]).count % (s.posCpr p : Int) ∧ (s.pos[p]).count % (s.posCpr p : Int) + 2 < s.posCpr p) ∧
    (∃ (s : State) (p : Fin 4) (h : BitVec 3) (n : Nat), s.getO (O.posMode p) = 3 ∧ hallSector h = some n ∧ (s.pos[p]).sector = none) ∧
    (∃ (s : State) (p : Fin 4) (h : BitVec 3) (n : Nat) (o : Nat), s.getO (O.posMode p) = 3 ∧ hallSector h = some n ∧ (s.pos[p]).sector = some o ∧ o < 6 ∧ (n = (o + 1) % 6 ∨ o = (n + 1) % 6) ∧ (s.pos[p]).tEdge + 4 * s.getO (O.posMinEdge p) ≤ s.now) ∧
    (∃ (s : State) (p : Fin 4) (g : Nat), s.getO (O.posMode p) ∈ [1, 2, 3, 5] ∧ s.gridLast (s.getO (O.posTrigger p)) = some g ∧ (s.pos[p]).trigNext ≤ g ∧ s.now = cvAt g) ∧
    (∃ (s : State) (p : Fin 4) (g : Nat), s.getO (O.posMode p) = 4 ∧ s.gridLast (s.getO (O.posTrigger p)) = some g ∧ (s.pos[p]).trigNext ≤ g ∧ s.now = cvAt g) ∧
    (∃ (s : State) (p : Fin 4) (g : Nat), s.gridLast (s.getO (O.posTrigger p)) = some g ∧ (s.pos[p]).trigNext ≤ g ∧ cvAt g < s.now) ∧
    (∃ (s : State) (p : Fin 4), (s.getO (O.posMode p) = 2 ∨ s.getO (O.posMode p) = 3) ∧ (s.pos[p]).tEdge + 8000 * s.getO (O.posStandstill p) ≤ s.now) ∧
    (∃ (s : State) (p : Fin 4) (x : BitVec 16) (y : BitVec 16), s.getO (O.posMode p) = 1 ∧ (s.pos[p]).excAt + 800000000 / max 1 (s.pos[p]).exc.1 ≤ s.now ∧ 8192 * 8192 ≤ x.toInt * x.toInt + y.toInt * y.toInt ∧ 400 * (x.toInt * x.toInt + y.toInt * y.toInt) ≤ 361 * (32768 * 32768) ∧ absQ ((s.pos[p]).trackError (Config.resolverAngle x.toInt y.toInt) s.now) ≤ 5 / 360) ∧
    (∃ (s : State) (p : Fin 4) (x : BitVec 16) (y : BitVec 16), s.getO (O.posMode p) = 1 ∧ (s.pos[p]).excAt + 800000000 / max 1 (s.pos[p]).exc.1 ≤ s.now ∧ (x.toInt * x.toInt + y.toInt * y.toInt < 8192 * 8192 ∨ 361 * (32768 * 32768) < 400 * (x.toInt * x.toInt + y.toInt * y.toInt) ∨ 5 / 360 < absQ ((s.pos[p]).trackError (Config.resolverAngle x.toInt y.toInt) s.now))) ∧
    (∃ (s : State) (p : Fin 4) (at_ : Nat), (s.pos[p]).ssiAt = some at_ ∧ s.getO (O.posMode p) = 4 ∧ bitOf (s.getO (O.posSsiCfg p)) 6 = false) ∧
    (∃ (s : State) (p : Fin 4) (at_ : Nat), (s.pos[p]).ssiAt = some at_ ∧ s.getO (O.posMode p) = 4) ∧
    (∃ (s : State) (p : Fin 4) (sync : Nat) (nibbles : List (BitVec 4)), s.getO (O.posMode p) = 5 ∧ (s.pos[p]).sync = none ∧ 3 * (5600 * bitsOf (s.getO (O.posSentCfg p)) 31 24) ≤ 4 * sync ∧ 4 * sync ≤ 5 * (5600 * bitsOf (s.getO (O.posSentCfg p)) 31 24) ∧ nibbles.length = bitsOf (s.getO (O.posSentCfg p)) 23 20) ∧
    (∃ (s : State) (p : Fin 4) (pause : Bool) (nibbles : List (BitVec 4)) (crc : BitVec 4), s.getO (O.posMode p) = 5 ∧ (sentCrc (bitOf (s.getO (O.posSentCfg p)) 15) nibbles ≠ crc ∨ pause ≠ bitOf (s.getO (O.posSentCfg p)) 14)) ∧
    (∃ (s : State) (p : Fin 4) (f : Nat × Nat), s.getO (O.posMode p) = 5 ∧ (s.pos[p]).frame = some f ∧ f.2 + ((s.pos[p]).noFrameMs + 1) * msTicks ≤ s.now) ∧
    (∃ (s : State) (p : Fin 4), (s.pos[p]).st = 2 ∧ (s.pos[p]).metAt + s.getO (O.posRecover p) * msTicks ≤ s.now ∧ s.getO (O.posMode p) = 2) ∧
    (∃ (s : State) (p : Fin 4), (s.pos[p]).st = 2 ∧ (s.pos[p]).metAt + s.getO (O.posRecover p) * msTicks ≤ s.now ∧ s.getO (O.posMode p) ≠ 2 ∧ s.getO (O.posMode p) ≠ 0) :=
  ⟨⟨((with_ [(O.posMode 3, 2)]).modPos 3 fun x => { x with a := false, b := false, tEdge := 0 }), 3, true, by and_intros <;> decide +kernel⟩,
   ⟨((with_ [(O.posMode 3, 2)]).modPos 3 fun x => { x with a := false, b := false, tEdge := 0 }), 3, true, by and_intros <;> decide +kernel⟩,
   ⟨((with_ [(O.posMode 3, 2)]).modPos 3 fun x => { x with a := false, b := false }), 3, true, true, by and_intros <;> decide +kernel⟩,
   ⟨((with_ [(O.posMode 3, 2), (O.posZcfg 3, 1)]).modPos 3 fun x => { x with a := false, b := false, refd := false }), 3, by and_intros <;> decide +kernel⟩,
   ⟨((with_ [(O.posMode 3, 2), (O.posZcfg 3, 1), (O.posRes 3, 1000)]).modPos 3 fun x => { x with a := false, b := false, refd := true, count := 3 }), 3, by and_intros <;> decide +kernel⟩,
   ⟨((with_ [(O.posMode 3, 3)]).modPos 3 fun x => { x with sector := none }), 3, 5, 5, by and_intros <;> decide +kernel⟩,
   ⟨((with_ [(O.posMode 3, 3)]).modPos 3 fun x => { x with sector := some 0, tEdge := 0 }), 3, 5, 5, 0, by and_intros <;> decide +kernel⟩,
   ⟨((with_ [(O.posMode 3, 2), (O.posTrigger 3, 2 ^ 31 + 10000)]).modPos 3 fun x => { x with fault := none, trigNext := 0 }), 3, (10 ^ 15), by and_intros <;> decide +kernel⟩,
   ⟨((with_ [(O.posMode 3, 4), (O.posTrigger 3, 2 ^ 31 + 10000)]).modPos 3 fun x => { x with fault := none, trigNext := 0 }), 3, (10 ^ 15), by and_intros <;> decide +kernel⟩,
   ⟨((with_ [(O.posMode 3, 2), (O.posTrigger 3, 2 ^ 31 + 10001)]).modPos 3 fun x => { x with fault := none, trigNext := 0 }), 3, (10 ^ 15 / 80008 * 80008), by and_intros <;> decide +kernel⟩,
   ⟨((with_ [(O.posMode 3, 3)]).modPos 3 fun x => { x with tEdge := 0 }), 3, by and_intros <;> decide +kernel⟩,
   ⟨((with_ [(O.posMode 3, 1)]).modPos 3 fun x => { x with excAt := 0, vel := 0, rdc := Config.resolverAngle 0x2000 0 }), 3, 0x2000, 0, by decide +kernel, by decide +kernel, by decide +kernel, by decide +kernel, (track_ok _ _ _ rfl rfl)⟩,
   ⟨((with_ [(O.posMode 3, 1)]).modPos 3 fun x => { x with excAt := 0, vel := 0, rdc := 0 }), 3, 0x1FFF, 0, by and_intros <;> decide +kernel⟩,
   ⟨((with_ [(O.posMode 3, 4)]).modPos 3 fun x => { x with ssiAt := some 0 }), 3, 0, by and_intros <;> decide +kernel⟩,
   ⟨((with_ [(O.posMode 3, 4)]).modPos 3 fun x => { x with ssiAt := some 0 }), 3, 0, by and_intros <;> decide +kernel⟩,
   ⟨((with_ [(O.posMode 3, 5), (O.posSentCfg 3, 3 * 2 ^ 24 + 6 * 2 ^ 20)]).modPos 3 fun x => { x with sync := none }), 3, 16800, ([0, 0, 0, 0, 0, 0]), by and_intros <;> decide +kernel⟩,
   ⟨((with_ [(O.posMode 3, 5)])), 3, true, [], 0, by and_intros <;> decide +kernel⟩,
   ⟨((with_ [(O.posMode 3, 5)]).modPos 3 fun x => { x with frame := some (0, 0), noFrameMs := 0 }), 3, ((0, 0)), by and_intros <;> decide +kernel⟩,
   ⟨((with_ [(O.posMode 3, 2)]).modPos 3 fun x => { x with st := 2, metAt := 0 }), 3, by and_intros <;> decide +kernel⟩,
   ⟨((with_ [(O.posMode 3, 4)]).modPos 3 fun x => { x with st := 2, metAt := 0 }), 3, by and_intros <;> decide +kernel⟩⟩

/-- States and operands that meet the hypotheses of each clause of `PositionCommandsComplete`. -/
theorem witness_PositionCommandsComplete :
    (∃ (s : State) (c : Cmd) (p : Fin 4) (angle : Nat), Front s 0x0510 c ∧ c.payload.length = 4 ∧ fieldAt c.payload 0 1 = p.val ∧ fieldAt c.payload 1 1 = 0 ∧ fieldAt c.payload 2 2 = angle ∧ Permits s c (s.portGroup p) 2 ∧ s.getO (O.posMode p) = 2 ∧ ((s.pos[p]).st = 2 ∨ (s.pos[p]).st = 4) ∧ (∀ m < 4, s.getO (O.trxState m) ≠ 3 ∨ s.getO (O.trxPosPort m) ≠ p.val ∨ s.getO (O.trxAngleSrc m) ≠ 0)) ∧
    (∃ (s : State) (c : Cmd) (n : Fin 4), Front s 0x0511 c ∧ c.payload = [BitVec.ofNat 8 n, 0, 0, 0] ∧ Permits s c (s.portGroup (s.probePort n)) 1 ∧ bitsOf (s.getO (O.posPrbCfg n)) 7 6 ≠ 0) ∧
    (∃ (s : State) (c : Cmd) (n : Fin 4), Front s 0x0512 c ∧ c.payload = [BitVec.ofNat 8 n, 0, 0, 0] ∧ Permits s c (s.portGroup (s.probePort n)) 1) ∧
    (∃ (s : State) (n : Fin 4) (rising : Bool), s.bitO (O.posPrbStatus n) 7 = true ∧ s.bitO (O.posPrbCfg n) (if rising then 6 else 7) = true ∧ (s.prb[n]).length < 4) ∧
    (∃ (s : State) (n : Fin 4) (rising : Bool), s.bitO (O.posPrbStatus n) 7 = true ∧ s.bitO (O.posPrbCfg n) (if rising then 6 else 7) = true ∧ 4 ≤ (s.prb[n]).length) :=
  ⟨⟨(mail 0x0510 ([3, 0, 0xFF, 0xFF]) ((with_ [(O.posMode 3, 2)]).modPos 3 fun x => { x with st := 4 })), (cmdOf 0x0510 ([3, 0, 0xFF, 0xFF])), 3, 65535, by and_intros <;> decide +kernel⟩,
   ⟨(mail 0x0511 ([3, 0, 0, 0]) (with_ [(O.posPrbCfg 3, 64)])), (cmdOf 0x0511 ([3, 0, 0, 0])), 3, by and_intros <;> decide +kernel⟩,
   ⟨(mail 0x0512 ([0, 0, 0, 0]) (base)), (cmdOf 0x0512 ([0, 0, 0, 0])), 0, by and_intros <;> decide +kernel⟩,
   ⟨(with_ [(O.posPrbCfg 3, 64), (O.posPrbStatus 3, 128)]), 3, true, by and_intros <;> decide +kernel⟩,
   ⟨({ with_ [(O.posPrbCfg 3, 128), (O.posPrbStatus 3, 128)] with prb := base.prb.set 3 (List.replicate 4 { stamp := 0, count := 0, angle := 0, rising := true }) }), 3, false, by and_intros <;> decide +kernel⟩⟩

/-- States and operands that meet the hypotheses of each clause of `DcLinkCommandsComplete`. -/
theorem witness_DcLinkCommandsComplete :
    (∃ (s : State) (c : Cmd), Front s 0x0320 c ∧ c.payload = [] ∧ Permits s c (some 4) 1 true ∧ s.dclSt = 0 ∧ s.getO O.dclBattery = 0 ∧ (s.getO O.dclHvilEnable = 0 ∨ s.dcl.hvil = false) ∧ s.getO O.dclBmsOpen = 0 ∧ s.dcl.starts.length < 3 ∧ s.override 4 < 2) ∧
    (∃ (s : State) (c : Cmd), Front s 0x0320 c ∧ c.payload = [] ∧ Permits s c (some 4) 1 true ∧ s.dclSt = 0 ∧ s.getO O.dclBattery = 1 ∧ s.getO O.dclVbatSrc < 384 ∧ s.dcl.vLink - s.dcl.vBat ≤ s.getQ O.dclPreDv ∧ s.closePermit = true ∧ s.getQ O.dclWeldDv ≤ s.dcl.vBat - s.dcl.vLink ∧ (s.getO O.dclHvilEnable = 0 ∨ s.dcl.hvil = false) ∧ s.getO O.dclBmsOpen = 0 ∧ s.dcl.starts.length < 3 ∧ s.override 4 < 2) ∧
    (∃ (s : State) (c : Cmd), Front s 0x0321 c ∧ c.payload = [0, 0, 0, 0] ∧ Permits s c (some 4) 1 ∧ s.dclSt = 4) ∧
    (∃ (s : State) (c : Cmd), Front s 0x0321 c ∧ c.payload = [1, 0, 0, 0] ∧ Permits s c (some 4) 1 ∧ s.dclSt = 4) ∧
    (∃ (s : State) (c : Cmd), Front s 0x0322 c ∧ c.payload = [] ∧ Permits s c (some 4) 1 ∧ s.linkState 31 = 2 ∧ s.links[(31 : Fin 40)].fault = 0) ∧
    (∃ (s : State) (c : Cmd), Front s 0x0323 c ∧ c.payload = [] ∧ Permits s c (some 4) 2 ∧ s.dcl.vLink < s.getQ O.dclHwOvRel) :=
  ⟨⟨(mail 0x0320 ([]) (obs [(O.dclState, 0)] (with_ [(O.dclBattery, 0)]))), (cmdOf 0x0320 ([])), by and_intros <;> decide +kernel⟩,
   ⟨(mail 0x0320 ([]) (obs [(O.dclState, 0)] (obs [(O.dclBattery, 1), (O.dclVbatSrc, 0), (O.dclPreDv, f10), (O.dclWeldDv, f10)] ((base.modDcl fun x => { x with vBat := 400, vLink := 0 }).modPtg fun x => { x with a := { x.a with close := true }, b := { x.b with close := true } })))), (cmdOf 0x0320 ([])), by and_intros <;> decide +kernel⟩,
   ⟨(mail 0x0321 ([0, 0, 0, 0]) (obs [(O.dclState, 4)] (base))), (cmdOf 0x0321 ([0, 0, 0, 0])), by and_intros <;> decide +kernel⟩,
   ⟨(mail 0x0321 ([1, 0, 0, 0]) (obs [(O.dclState, 4)] (base))), (cmdOf 0x0321 ([1, 0, 0, 0])), by and_intros <;> decide +kernel⟩,
   ⟨(mail 0x0322 ([]) (up39)), (cmdOf 0x0322 ([])), by and_intros <;> decide +kernel⟩,
   ⟨(mail 0x0323 ([]) ((with_ [(O.dclHwOvRel, f1000)]).modDcl fun x => { x with vLink := 900 })), (cmdOf 0x0323 ([])), by and_intros <;> decide +kernel⟩⟩

/-- States and operands that meet the hypotheses of each clause of `DcLinkEventsComplete`. -/
theorem witness_DcLinkEventsComplete :
    (∃ (s : State), s.dclSt = 3 ∧ s.dcl.step = 4 ∧ s.closePermit = true ∧ s.dcl.stepAt + s.getO O.dclCloseTime * msTicks ≤ s.now) ∧
    (∃ (s : State), s.dclSt = 3 ∧ s.dcl.step = 3 ∧ s.dcl.stepAt + s.getO O.dclPreTimeout * msTicks ≤ s.now) ∧
    (∃ (s : State), s.dclSt = 5 ∧ s.dcl.posAt = none ∧ (∀ m : Fin 4, s.trxSt m = 0)) ∧
    (∃ (s : State) (a : Nat), s.dclSt = 5 ∧ s.dcl.posAt = some a ∧ a + s.getO O.dclCloseTime * msTicks ≤ s.now) ∧
    (∃ (s : State), s.linkFresh (s.linkSrc 0) = true ∧ s.linkSrc 1 = 0xFFFF ∧ s.dcl.v2At = none) ∧
    (∃ (s : State) (a : Nat), s.dcl.belowAt = some a ∧ s.bitO O.dclFlags 18 = true ∧ s.dcl.noSrc = false ∧ a + 10 * msTicks ≤ s.now) ∧
    (∃ (s : State) (a : Nat), s.linkSrc 0 < 384 ∧ s.dcl.v1At = some a ∧ a + msTicks ≤ s.now ∧ s.dcl.v2At = none ∧ s.dcl.noSrc = false) ∧
    (∃ (s : State) (a : Nat), s.linkSrc 1 < 384 ∧ s.dcl.v2At = some a ∧ a + msTicks ≤ s.now ∧ s.dcl.v1At ≠ none ∧ s.dcl.noSrc = false) ∧
    (∃ (s : State) (a : Nat), s.dcl.diffAt = some a ∧ a + 10 * msTicks ≤ s.now) ∧
    (∃ (s : State), s.dcl.hvil = false ∧ s.copyRuns 0 = true ∧ s.dcl.hvilOpen[0] = true ∧ s.dclSt = 4 ∧ s.getO O.dclHvilAct = 1) ∧
    (∃ (s : State), s.dcl.hvil = true ∧ s.dcl.hvilOpen[0] = false ∧ s.dcl.hvilOpen[1] = false) ∧
    (∃ (s : State), s.dcl.bmsStale = false ∧ s.dcl.bmsAt + s.getO O.dclBmsAge * msTicks < s.now) ∧
    (∃ (s : State), s.bitO O.dclFlags 16 = false) ∧
    (∃ (s : State), s.bitO O.dclFlags 16 = true ∧ s.dcl.hwAsc = false ∧ s.dcl.hwAt + s.getO O.dclHwOffTime * 80 ≤ s.now) :=
  ⟨⟨((obs [(O.dclState, 3)] ((base.modPtg fun x => { x with a := { x.a with close := true }, b := { x.b with close := true } }))).modDcl fun x => { x with step := 4, stepAt := 0 }), by and_intros <;> decide +kernel⟩,
   ⟨((obs [(O.dclState, 3)] (base)).modDcl fun x => { x with step := 3, stepAt := 0 }), by and_intros <;> decide +kernel⟩,
   ⟨((obs [(O.dclState, 5)] (base)).modDcl fun x => { x with posAt := none }), by and_intros <;> decide +kernel⟩,
   ⟨((obs [(O.dclState, 5)] (base)).modDcl fun x => { x with posAt := some 0 }), 0, by and_intros <;> decide +kernel⟩,
   ⟨(({ with_ [(O.dclVSrc, 5), (O.dclVSrc2, 0xFFFF)] with adc := { base.adc with ct := [(5, 2 ^ 31 + 10 ^ 15 * 2 ^ 32)] } }).modDcl fun x => { x with v2At := none }), by and_intros <;> decide +kernel⟩,
   ⟨((with_ [(O.dclFlags, 2 ^ 18)]).modDcl fun x => { x with belowAt := some 0 }), 0, by and_intros <;> decide +kernel⟩,
   ⟨((with_ [(O.dclVSrc, 383)]).modDcl fun x => { x with v1At := some 0, v2At := none, noSrc := false }), 0, by and_intros <;> decide +kernel⟩,
   ⟨((with_ [(O.dclVSrc2, 0)]).modDcl fun x => { x with v2At := some 0, v1At := some 5, noSrc := false }), 0, by and_intros <;> decide +kernel⟩,
   ⟨((base).modDcl fun x => { x with diffAt := some 0 }), 0, by and_intros <;> decide +kernel⟩,
   ⟨((obs [(O.dclState, 4)] (with_ [(O.dclHvilAct, 1)])).modDcl fun x => { x with hvil := false, hvilOpen := #v[true, false] }), by and_intros <;> decide +kernel⟩,
   ⟨((base).modDcl fun x => { x with hvil := true, hvilOpen := #v[false, false] }), by and_intros <;> decide +kernel⟩,
   ⟨((base).modDcl fun x => { x with bmsStale := false, bmsAt := 0 }), by and_intros <;> decide +kernel⟩,
   ⟨base, by decide +kernel⟩,
   ⟨((with_ [(O.dclFlags, 2 ^ 16)]).modDcl fun x => { x with hwAsc := false, hwAt := 0 }), by and_intros <;> decide +kernel⟩⟩

/-- States and operands that meet the hypotheses of each clause of `ChargerCommandsComplete`. -/
theorem witness_ChargerCommandsComplete :
    (∃ (s : State) (c : Cmd) (mode : Fin 4), Front s 0x0601 c ∧ c.payload = [BitVec.ofNat 8 mode, 0, 0, 0] ∧ Permits s c (some 5) 1 true ∧ s.chgSt = 0 ∧ (∀ k ∈ s.chgChecks, k.bad = false) ∧ s.chgSelect mode ≠ 0 ∧ (∀ k ∈ s.chkAdmit [16, 17, 18, 19, 20, 21], k.bad = false)) ∧
    (∃ (s : State) (c : Cmd), Front s 0x0602 c ∧ c.payload = [] ∧ Permits s c (some 5) 1 ∧ s.chgSt = 0) ∧
    (∃ (s : State) (c : Cmd), Front s 0x0602 c ∧ c.payload = [] ∧ Permits s c (some 5) 1 ∧ s.chgSt = 6) ∧
    (∃ (s : State) (c : Cmd), Front s 0x0602 c ∧ c.payload = [] ∧ Permits s c (some 5) 1 ∧ s.chgSt = 4) ∧
    (∃ (s : State) (c : Cmd), Front s 0x0602 c ∧ c.payload = [] ∧ Permits s c (some 5) 1 ∧ s.chgSt = 3) ∧
    (∃ (s : State) (c : Cmd), Front s 0x0603 c ∧ c.payload = [] ∧ Permits s c (some 5) 1 ∧ s.chgSt = 3 ∧ s.chgMode = 2) ∧
    (∃ (s : State) (c : Cmd), Front s 0x0603 c ∧ c.payload = [] ∧ Permits s c (some 5) 1 ∧ s.chgSt = 3 ∧ s.chgMode = 3) :=
  ⟨⟨(mail 0x0601 ([0, 0, 0, 0]) (chgOk)), (cmdOf 0x0601 ([0, 0, 0, 0])), 0, by and_intros <;> decide +kernel⟩,
   ⟨(mail 0x0602 ([]) (obs [(O.chgState, 0)] (base))), (cmdOf 0x0602 ([])), by and_intros <;> decide +kernel⟩,
   ⟨(mail 0x0602 ([]) (obs [(O.chgState, 6)] (base))), (cmdOf 0x0602 ([])), by and_intros <;> decide +kernel⟩,
   ⟨(mail 0x0602 ([]) (obs [(O.chgState, 4)] (base))), (cmdOf 0x0602 ([])), by and_intros <;> decide +kernel⟩,
   ⟨(mail 0x0602 ([]) (obs [(O.chgState, 3)] (base))), (cmdOf 0x0602 ([])), by and_intros <;> decide +kernel⟩,
   ⟨(mail 0x0603 ([]) (obs [(O.chgState, 3), (O.chgInput, 2)] (base))), (cmdOf 0x0603 ([])), by and_intros <;> decide +kernel⟩,
   ⟨(mail 0x0603 ([]) (obs [(O.chgState, 3), (O.chgInput, 3)] (base))), (cmdOf 0x0603 ([])), by and_intros <;> decide +kernel⟩⟩

/-- States and operands that meet the hypotheses of each clause of `ChargerEventsComplete`. -/
theorem witness_ChargerEventsComplete :
    (∃ (s : State), s.chg.pilot.rise = none) ∧
    (∃ (s : State) (a : Nat), s.chg.pilot.riseAt = some a ∧ a + sTicks ≤ s.now) ∧
    (∃ (s : State), s.chg.lineEnd = false) ∧
    (∃ (s : State), s.chg.lineEnd = true ∧ (s.chgMode = 0 ∨ s.chgMode = 3)) ∧
    (∃ (s : State) (l : Line), s.chg.lineEnd = true ∧ s.chgMode = 2 ∧ s.chgSt = 1 ∧ l = s.chg.lines[0] ∧ s.liveLines = [l] ∧ 85 ≤ l.rms ∧ l.rms ≤ 277 ∧ 45 ≤ l.freq ∧ l.freq ≤ 65 ∧ s.chg.hist = []) ∧
    (∃ (s : State), s.chgSt = 1 ∧ s.chg.selSettled = true ∧ s.chg.sel = s.chg.selWant ∧ s.batFresh = true ∧ s.batInside 0 = true ∧ s.bmsOk = true ∧ s.chgMode = 2 ∧ s.chg.qualAt + s.getO O.chgQualTime * msTicks ≤ s.now ∧ s.chg.live = 1 ∧ 81 / 50 * (s.chgV * s.chgV) ≤ s.chgBus * s.chgBus ∧ s.chg.limit = none) ∧
    (∃ (s : State), s.chgSt = 1 ∧ s.chg.selSettled = true ∧ s.chg.sel = s.chg.selWant ∧ s.batFresh = true ∧ s.batInside 0 = true ∧ s.bmsOk = true ∧ s.chgMode = 1 ∧ s.pilotDraws = true ∧ s.chg.qualAt + s.getO O.chgQualTime * msTicks ≤ s.now ∧ s.chg.live = 1 ∧ 81 / 50 * (s.chgV * s.chgV) ≤ s.chgBus * s.chgBus) ∧
    (∃ (s : State), s.chgSt = 1 ∧ s.chgMode = 1 ∧ s.chg.live = 0 ∧ s.chg.qualIn + 10 * sTicks ≤ s.now) ∧
    (∃ (s : State), s.chg.selAt + 50 * msTicks ≤ s.now) ∧
    (∃ (s : State) (x : Search) (a : Nat), s.chg.search = some x ∧ x.reachedAt = some a ∧ a + s.getO O.chgSrcTStep * msTicks ≤ s.now ∧ s.getQ O.chgV0 * (1 - (s.getO O.chgSrcSag : Nat) / 1000) ≤ meanQ (s.chg.hist.map fun y => y.2.1) ∧ s.getQ O.chgF0 - (s.getO O.chgSrcDroop : Nat) / 10 ≤ meanQ (s.chg.hist.map fun y => y.2.2) ∧ s.chg.rocof = false ∧ x.outLim = false ∧ x.i < x.cap) ∧
    (∃ (s : State) (x : Search) (a : Nat), s.chg.search = some x ∧ x.reachedAt = some a ∧ a + s.getO O.chgSrcTStep * msTicks ≤ s.now ∧ s.getQ O.chgV0 * (1 - (s.getO O.chgSrcSag : Nat) / 1000) ≤ meanQ (s.chg.hist.map fun y => y.2.1) ∧ s.getQ O.chgF0 - (s.getO O.chgSrcDroop : Nat) / 10 ≤ meanQ (s.chg.hist.map fun y => y.2.2) ∧ s.chg.rocof = false ∧ x.outLim = false ∧ x.cap ≤ x.i ∧ x.i ≠ 0 ∧ x.probe = none ∧ s.chgSt = 2) ∧
    (∃ (s : State), s.chgSt = 3 ∧ s.chgMode = 2 ∧ s.chg.search = none ∧ s.chg.rocof = true ∧ s.chg.cuts = []) ∧
    (∃ (s : State), s.chgSt = 3 ∧ s.chgMode = 2 ∧ s.chg.search = none ∧ s.chg.cutAt + s.getO O.chgSrcResearch * 60 * sTicks ≤ s.now) ∧
    (∃ (s : State) (p : Rat) (v : Rat), s.chgSt = 3 ∧ s.chgMode = 3 ∧ s.chg.poAt + s.getO O.chgPvInterval * msTicks ≤ s.now ∧ s.chg.sweeping = false ∧ s.chg.pvLimit = false ∧ p = (if s.chg.wN = 0 then 0 else s.chg.wSum / (s.chg.wN : Nat)) ∧ v = (if (if p < s.chg.pPrev then !s.chg.dirUp else s.chg.dirUp) = true then s.getQ O.chgVPvRef + s.getQ O.chgPvStep else s.getQ O.chgVPvRef - s.getQ O.chgPvStep)) ∧
    (∃ (s : State), s.chg.pvLimit = true ∧ s.chg.bindAt + sTicks ≤ s.now) ∧
    (∃ (s : State), s.chgSt = 3 ∧ s.chgMode = 3 ∧ s.chg.pvLimit = false ∧ s.chg.sweeping = false ∧ (s.chg.sweepAsk = true ∨ s.chg.sweepAt + s.getO O.chgPvSweep * sTicks ≤ s.now)) ∧
    (∃ (s : State), s.chg.sweeping = true ∧ s.chg.sweepUp = false ∧ s.getQ O.chgVPvRef ≤ maxQ (s.getQ O.chgPvVMin) (s.getQ O.chgVOc / 2)) ∧
    (∃ (s : State), s.chg.batAt.isSome = true ∧ s.batFresh = false ∧ s.chgSt = 3) ∧
    (∃ (s : State), s.chgSt = 5 ∧ s.chg.stopCut = true ∧ s.chgLegAmps < 1 ∧ (s.chg.ends = 0 ∨ s.chg.ends = 4 ∨ s.chg.ends = 6) ∧ s.chg.stopCause ≤ 17) ∧
    (∃ (s : State), s.chgSt = 5 ∧ s.chg.stopCut = false ∧ s.chg.stopAt + 30 * msTicks ≤ s.now ∧ 1 ≤ s.chgLegAmps) ∧
    (∃ (s : State), s.chgSt = 4 ∧ s.chg.stopBusy = false ∧ s.chgResumeOk = true ∧ (∀ k ∈ s.chgChecks, k.bad = false)) :=
  ⟨⟨((base).modChg fun x => { x with pilot := { x.pilot with rise := none } }), by decide +kernel⟩,
   ⟨((base).modChg fun x => { x with pilot := { x.pilot with riseAt := some 0 } }), 0, by and_intros <;> decide +kernel⟩,
   ⟨((base).modChg fun x => { x with lineEnd := false }), by decide +kernel⟩,
   ⟨((obs [(O.chgInput, 0)] (base)).modChg fun x => { x with lineEnd := true, lines := #v[{ Line.reset with rms := 230, freq := 50 }, Line.reset, Line.reset] }), by and_intros <;> decide +kernel⟩,
   ⟨((obs [(O.chgState, 1), (O.chgInput, 2)] (base)).modChg fun x => { x with lineEnd := true, lines := #v[{ Line.reset with rms := 85, freq := 50 }, Line.reset, Line.reset], hist := [] }), ({ Line.reset with rms := 85, freq := 50 }), by and_intros <;> decide +kernel⟩,
   ⟨((obs [(O.chgState, 1), (O.chgInput, 2)] (chgOk)).modChg fun x => { x with selSettled := true, qualAt := 0, live := 1, limit := none }), by and_intros <;> decide +kernel⟩,
   ⟨((obs [(O.chgState, 1), (O.chgInput, 1), (O.chgCpState, 3), (O.chgIPilot, f10)] (chgOk)).modChg fun x => { x with selSettled := true, qualAt := 0, live := 1 }), by and_intros <;> decide +kernel⟩,
   ⟨((obs [(O.chgState, 1), (O.chgInput, 1)] (base)).modChg fun x => { x with live := 0, qualIn := 0 }), by and_intros <;> decide +kernel⟩,
   ⟨((base).modChg fun x => { x with selAt := 0 }), by decide +kernel⟩,
   ⟨((base).modChg fun x => { x with search := some { i := 1, good := 0, cap := 5, steps := 0, reachedAt := some 0, outLim := false, probe := none }, rocof := false }), ({ i := 1, good := 0, cap := 5, steps := 0, reachedAt := some 0, outLim := false, probe := none }), 0, by and_intros <;> decide +kernel⟩,
   ⟨((obs [(O.chgState, 2)] (base)).modChg fun x => { x with search := some { i := 5, good := 0, cap := 5, steps := 0, reachedAt := some 0, outLim := false, probe := none }, rocof := false }), ({ i := 5, good := 0, cap := 5, steps := 0, reachedAt := some 0, outLim := false, probe := none }), 0, by and_intros <;> decide +kernel⟩,
   ⟨((obs [(O.chgState, 3), (O.chgInput, 2)] (base)).modChg fun x => { x with search := none, rocof := true, cuts := [] }), by and_intros <;> decide +kernel⟩,
   ⟨((obs [(O.chgState, 3), (O.chgInput, 2)] (base)).modChg fun x => { x with search := none, cutAt := 0 }), by and_intros <;> decide +kernel⟩,
   ⟨((obs [(O.chgState, 3), (O.chgInput, 3)] (base)).modChg fun x => { x with poAt := 0, sweeping := false, pvLimit := false, wN := 2, wSum := 10, pPrev := 4, dirUp := true }), 5, (base.getQ O.chgVPvRef + base.getQ O.chgPvStep), by and_intros <;> decide +kernel⟩,
   ⟨((base).modChg fun x => { x with pvLimit := true, bindAt := 0 }), by and_intros <;> decide +kernel⟩,
   ⟨((obs [(O.chgState, 3), (O.chgInput, 3)] (base)).modChg fun x => { x with pvLimit := false, sweeping := false, sweepAsk := true }), by and_intros <;> decide +kernel⟩,
   ⟨((base).modChg fun x => { x with sweeping := true, sweepUp := false }), by and_intros <;> decide +kernel⟩,
   ⟨((obs [(O.chgState, 3)] (base)).modChg fun x => { x with batAt := some 0 }), by and_intros <;> decide +kernel⟩,
   ⟨((obs [(O.chgState, 5)] (base)).modChg fun x => { x with ends := 6, stopCause := 17, stopCut := true }), by and_intros <;> decide +kernel⟩,
   ⟨((obs [(O.chgState, 5)] ({ obs [(O.lpeUnits 16, f10)] base with adc := { base.adc with ct := [(256, 2 ^ 31 + 2 ^ 18)] } })).modChg fun x => { x with stopCut := false, stopAt := 0 }), by and_intros <;> decide +kernel⟩,
   ⟨((obs [(O.chgState, 4)] (chgOk)).modChg fun x => { x with stopBusy := false, okAt := some 0, pauseFor := 12 }), by and_intros <;> decide +kernel⟩⟩

/-- States and operands that meet the hypotheses of each clause of `AuxiliaryCommandsComplete`. -/
theorem witness_AuxiliaryCommandsComplete :
    (∃ (s : State) (c : Cmd), Front s 0x0701 c ∧ c.payload = [] ∧ Permits s c (some 7) 1 true ∧ s.auxSt = 0 ∧ (∀ k ∈ s.auxChecks, k.bad = false) ∧ (∀ k ∈ s.chkAdmit [22], k.bad = false)) ∧
    (∃ (s : State) (c : Cmd), Front s 0x0702 c ∧ c.payload = [] ∧ Permits s c (some 7) 1 ∧ s.auxSt ≤ 4) ∧
    (∃ (s : State) (c : Cmd), Front s 0x0703 c ∧ c.payload = [] ∧ Permits s c (some 7) 2 ∧ (s.auxSt = 5 ∨ s.auxSt = 6)) ∧
    (∃ (s : State), s.auxSt = 1 ∧ s.aux.startAt + s.getO O.auxSsTimeout * msTicks ≤ s.now ∧ s.aux.slow = false ∧ s.getQ O.auxVOut < s.getQ O.auxVTarget / 5 ∧ s.getO O.auxRestarts < 7) ∧
    (∃ (s : State), s.auxSt = 1 ∧ s.aux.startAt + s.getO O.auxSsTimeout * msTicks ≤ s.now ∧ s.aux.slow = false ∧ s.getQ O.auxVTarget / 5 ≤ s.getQ O.auxVOut) ∧
    (∃ (s : State), s.auxSt = 4 ∧ s.aux.at_ + 64 * msTicks ≤ s.now) ∧
    (∃ (s : State), (s.auxSt = 2 ∨ s.auxSt = 3) ∧ s.aux.cleanAt + sTicks ≤ s.now) ∧
    (∃ (s : State) (a : Nat), s.aux.olAt = some a ∧ a + s.getO O.auxOlTime * msTicks ≤ s.now ∧ s.getO O.auxRestarts < 7) ∧
    (∃ (s : State) (k : Fin 8), s.auxOn = true ∧ s.phActive k = true ∧ s.legNow (auxLink k) = 2) ∧
    (∃ (s : State), s.auxOn = true) ∧
    (∃ (s : State), s.auxSt = 2 ∧ s.aux.fireEnd ≤ s.now) ∧
    (∃ (s : State) (a : Nat), s.aux.bandAt = some a ∧ a + s.getO O.auxShedHold * msTicks ≤ s.now) ∧
    (∃ (s : State) (a : Nat) (k : Fin 8) (j : Fin 8) (l : List (Fin 8)), s.aux.lightAt = some a ∧ s.auxActive.reverse = k :: j :: l ∧ s.auxSt = 2 ∧ s.aux.bandMet = true ∧ a + s.getO O.auxShedWait * msTicks ≤ s.now ∧ (∀ x ∈ s.auxConf, s.phSt x ≠ 2)) ∧
    (∃ (s : State) (a : Nat), s.aux.lowAt = some a ∧ s.auxSt = 2 ∧ s.getO O.auxBurstOn ≠ 0 ∧ s.auxActive.length = 1 ∧ a + 10 * msTicks ≤ s.now) ∧
    (∃ (s : State), s.getO O.auxSyncMode = 1 ∧ s.aux.edge = none) ∧
    (∃ (s : State) (at_ : Nat) (e : Nat), s.getO O.auxSyncMode = 1 ∧ s.aux.edge = some e ∧ s.bitO O.auxFlags 10 = false ∧ s.syncFits ((at_ / 4 * 4 - e) :: s.aux.periods) = true ∧ s.aux.periods.length < 7) ∧
    (∃ (s : State) (e : Nat), s.aux.edge = some e ∧ s.bitO O.auxFlags 10 = true ∧ 8 * e + 3 * s.aux.periods.foldl (· + ·) 0 < 8 * s.now) ∧
    (∃ (s : State) (a : Nat), s.aux.hold = some a ∧ a + s.getO O.auxSyncHold * msTicks ≤ s.now) ∧
    (∃ (s : State) (a : Nat), s.aux.spreadAt = some a ∧ s.auxSt = 2 ∧ s.bitO O.auxFlags 8 = false ∧ a + s.getO O.auxBalTime * msTicks ≤ s.now) ∧
    (∃ (s : State) (k : Fin 8), s.phSt k = 5 ∧ s.countsReady (auxLink k) = true ∧ (s.links[auxLink k]).fault = 0 ∧ s.aux.badAt[k] + sTicks ≤ s.now) ∧
    (∃ (s : State) (a : Nat), s.auxOn = true ∧ s.aux.lowInAt = some a ∧ a + msTicks ≤ s.now) ∧
    (∃ (s : State) (a : Nat), s.aux.okInAt = some a ∧ s.auxSt = 0 ∧ s.aux.restartFor ≠ 0 ∧ s.getO O.auxAutoRestart = 1 ∧ a + 100 * msTicks ≤ s.now ∧ (∀ k ∈ s.auxChecks, k.bad = false) ∧ (∀ k ∈ s.chkAdmit [22], k.bad = false)) :=
  ⟨⟨(mail 0x0701 ([]) (auxOk)), (cmdOf 0x0701 ([])), by and_intros <;> decide +kernel⟩,
   ⟨(mail 0x0702 ([]) (obs [(O.auxState, 4)] (auxOk))), (cmdOf 0x0702 ([])), by and_intros <;> decide +kernel⟩,
   ⟨(mail 0x0703 ([]) (obs [(O.auxState, 6)] (auxOk))), (cmdOf 0x0703 ([])), by and_intros <;> decide +kernel⟩,
   ⟨((obs [(O.auxState, 1), (O.auxRestarts, 6)] (auxOk)).modAux fun x => { x with startAt := 0, slow := false }), by and_intros <;> decide +kernel⟩,
   ⟨((obs [(O.auxState, 1), (O.auxVOut, f1000)] (auxOk)).modAux fun x => { x with startAt := 0, slow := false }), by and_intros <;> decide +kernel⟩,
   ⟨((obs [(O.auxState, 4)] (auxOk)).modAux fun x => { x with at_ := 0 }), by and_intros <;> decide +kernel⟩,
   ⟨((obs [(O.auxState, 3)] (auxOk)).modAux fun x => { x with cleanAt := 0 }), by and_intros <;> decide +kernel⟩,
   ⟨((obs [(O.auxRestarts, 6)] (auxOk)).modAux fun x => { x with olAt := some 0 }), 0, by and_intros <;> decide +kernel⟩,
   ⟨(obs [(O.auxState, 2), (O.auxPhaseState, 2 ^ 28)] (auxOk.modLink 39 fun x => { x with legSw := 2 })), 7, by and_intros <;> decide +kernel⟩,
   ⟨(obs [(O.auxState, 3)] (auxOk)), by decide +kernel⟩,
   ⟨((obs [(O.auxState, 2)] (auxOk)).modAux fun x => { x with fireEnd := 10 ^ 15 }), by and_intros <;> decide +kernel⟩,
   ⟨((auxOk).modAux fun x => { x with bandAt := some 0 }), 0, by and_intros <;> decide +kernel⟩,
   ⟨((obs [(O.auxState, 2), (O.auxPhaseState, 17)] (auxOk)).modAux fun x => { x with lightAt := some 0, bandMet := true }), 0, 1, 0, [], by and_intros <;> decide +kernel⟩,
   ⟨((obs [(O.auxState, 2), (O.auxPhaseState, 1), (O.auxBurstOn, 1)] (auxOk)).modAux fun x => { x with lowAt := some 0 }), 0, by and_intros <;> decide +kernel⟩,
   ⟨((obs [(O.auxSyncMode, 1)] (auxOk)).modAux fun x => { x with edge := none }), by and_intros <;> decide +kernel⟩,
   ⟨((obs [(O.auxSyncMode, 1)] (auxOk)).modAux fun x => { x with edge := some (10 ^ 15 - 4000), periods := [] }), (10 ^ 15 + 3), (10 ^ 15 - 4000), by and_intros <;> decide +kernel⟩,
   ⟨((obs [(O.auxFlags, 1024)] (auxOk)).modAux fun x => { x with edge := some 0, periods := [8000] }), 0, by and_intros <;> decide +kernel⟩,
   ⟨((auxOk).modAux fun x => { x with hold := some 0 }), 0, by and_intros <;> decide +kernel⟩,
   ⟨((obs [(O.auxState, 2)] (auxOk)).modAux fun x => { x with spreadAt := some 0 }), 0, by and_intros <;> decide +kernel⟩,
   ⟨((obs [(O.auxPhaseState, 5 * 2 ^ 28)] (auxOk)).modAux fun x => { x with badAt := Vector.replicate 8 0 }), 7, by and_intros <;> decide +kernel⟩,
   ⟨((obs [(O.auxState, 1)] (auxOk)).modAux fun x => { x with lowInAt := some 0 }), 0, by and_intros <;> decide +kernel⟩,
   ⟨((obs [(O.auxCause, 7), (O.auxAutoRestart, 1)] (auxOk)).modAux fun x => { x with okInAt := some 0, restartFor := 7 }), 0, by and_intros <;> decide +kernel⟩⟩

/-- States and operands that meet the hypotheses of each clause of `MotorCommandsComplete`. -/
theorem witness_MotorCommandsComplete :
    (∃ (s : State) (c : Cmd) (k : Fin 6), Front s 0x0710 c ∧ c.payload = [BitVec.ofNat 8 k, 0, 0, 0] ∧ Permits s c (some (amcGroup k)) 1 true ∧ s.amcRoleOf k ≠ 0 ∧ s.amcSt k = 0 ∧ s.override (amcGroup k) < 2 ∧ (∀ x ∈ s.chkAdmit [31 + k.val], x.bad = false)) ∧
    (∃ (s : State) (c : Cmd) (k : Fin 6), Front s 0x0711 c ∧ c.payload = [BitVec.ofNat 8 k, 0, 0, 0] ∧ Permits s c (some (amcGroup k)) 1 ∧ s.amcSt k ≠ 0 ∧ s.amcSt k ≠ 8) ∧
    (∃ (s : State) (c : Cmd) (k : Fin 6), Front s 0x0711 c ∧ c.payload = [BitVec.ofNat 8 k, 1, 0, 0] ∧ Permits s c (some (amcGroup k)) 1 ∧ s.amcSt k ≠ 0 ∧ s.amcSt k ≠ 1 ∧ s.amcSt k ≠ 8) ∧
    (∃ (s : State) (c : Cmd) (k : Fin 6), Front s 0x0716 c ∧ c.payload = [BitVec.ofNat 8 k, 0, 0, 0] ∧ Permits s c (some (amcGroup k)) 2 ∧ s.amcSt k = 8) ∧
    (∃ (s : State) (c : Cmd) (k : Fin 6) (goal : Int), Front s 0x0712 c ∧ c.payload.length = 8 ∧ fieldAt c.payload 0 1 = k.val ∧ fieldAt c.payload 1 3 = 0 ∧ toSigned 32 (fieldAt c.payload 4 4) = goal ∧ Permits s c (some (amcGroup k)) 1 ∧ s.amcRoleOf k = 2 ∧ s.amcSt k = 1 ∧ s.posValid k = true ∧ toSigned 32 (s.getO (O.amcPosMin k)) ≤ goal ∧ goal ≤ toSigned 32 (s.getO (O.amcPosMax k)) ∧ s.override (amcGroup k) < 2 ∧ (s.amc[k]).job = 0 ∧ s.throttled = false) ∧
    (∃ (s : State) (c : Cmd) (k : Fin 6), Front s 0x0713 c ∧ c.payload = [BitVec.ofNat 8 k, 0, 0, 0] ∧ Permits s c (some (amcGroup k)) 1 ∧ s.amcRoleOf k = 2 ∧ s.amcSt k = 1 ∧ (s.amc[k]).job = 0 ∧ (s.amc[k]).waiting = false ∧ s.override (amcGroup k) < 2) ∧
    (∃ (s : State) (c : Cmd), Front s 0x0714 c ∧ c.payload = [5, 0, 0, 0] ∧ Permits s c (some 9) 1 ∧ s.amcRoleOf 5 = 3 ∧ s.amcSt 5 = 1 ∧ s.override 9 < 2 ∧ s.parkBar = none ∧ s.getO O.amcParkState ≠ 3) ∧
    (∃ (s : State) (c : Cmd) (m : Fin 4), Front s 0x0714 c ∧ c.payload = [5, 0, 0, 0] ∧ Permits s c (some 9) 1 ∧ s.amcRoleOf 5 = 3 ∧ s.amcSt 5 = 1 ∧ s.override 9 < 2 ∧ s.parkBar = some m) ∧
    (∃ (s : State) (c : Cmd), Front s 0x0715 c ∧ c.payload = [5, 0, 0, 0] ∧ Permits s c (some 9) 1 ∧ s.amcRoleOf 5 = 3 ∧ s.amcSt 5 = 1 ∧ s.override 9 < 2 ∧ s.getO O.amcParkState ≠ 3) :=
  ⟨⟨(mail 0x0710 ([5, 0, 0, 0]) (amcOk 5 [(O.amcState 5, 0), (O.amcRole 5, 1)] fun x => { x with at_ := 0 })), (cmdOf 0x0710 ([5, 0, 0, 0])), 5, by and_intros <;> decide +kernel⟩,
   ⟨(mail 0x0711 ([5, 0, 0, 0]) (amcOk 5 [(O.amcState 5, 7), (O.amcRole 5, 1)] fun x => { x with at_ := 0 })), (cmdOf 0x0711 ([5, 0, 0, 0])), 5, by and_intros <;> decide +kernel⟩,
   ⟨(mail 0x0711 ([5, 1, 0, 0]) (amcOk 5 [(O.amcState 5, 7), (O.amcRole 5, 1)] fun x => { x with at_ := 0 })), (cmdOf 0x0711 ([5, 1, 0, 0])), 5, by and_intros <;> decide +kernel⟩,
   ⟨(mail 0x0716 ([5, 0, 0, 0]) (amcOk 5 [(O.amcState 5, 8), (O.amcRole 5, 1)] fun x => { x with at_ := 0 })), (cmdOf 0x0716 ([5, 0, 0, 0])), 5, by and_intros <;> decide +kernel⟩,
   ⟨(mail 0x0712 ([4, 0, 0, 0, 10, 0, 0, 0]) (amcOk 4 [(O.amcState 4, 1), (O.amcRole 4, 2), (O.amcFlags 4, 512), (O.amcPosMin 4, 0), (O.amcPosMax 4, 10)] fun x => { x with job := 0 })), (cmdOf 0x0712 ([4, 0, 0, 0, 10, 0, 0, 0])), 4, 10, by and_intros <;> decide +kernel⟩,
   ⟨(mail 0x0713 ([4, 0, 0, 0]) (amcOk 4 [(O.amcState 4, 1), (O.amcRole 4, 2)] fun x => { x with job := 0, waiting := false })), (cmdOf 0x0713 ([4, 0, 0, 0])), 4, by and_intros <;> decide +kernel⟩,
   ⟨(mail 0x0714 ([5, 0, 0, 0]) (amcOk 5 [(O.amcState 5, 1), (O.amcRole 5, 3)] fun x => { x with at_ := 0 })), (cmdOf 0x0714 ([5, 0, 0, 0])), by and_intros <;> decide +kernel⟩,
   ⟨(mail 0x0714 ([5, 0, 0, 0]) (((amcOk 5 [(O.amcState 5, 1), (O.amcRole 5, 3)] fun x => { x with at_ := 0 }).setO (O.trxType 3) 1).setO (O.trxState 3) 3)), (cmdOf 0x0714 ([5, 0, 0, 0])), 3, by and_intros <;> decide +kernel⟩,
   ⟨(mail 0x0715 ([5, 0, 0, 0]) (amcOk 5 [(O.amcState 5, 1), (O.amcRole 5, 3)] fun x => { x with at_ := 0 })), (cmdOf 0x0715 ([5, 0, 0, 0])), by and_intros <;> decide +kernel⟩⟩

/-- States and operands that meet the hypotheses of each clause of `MotorEventsComplete`. -/
theorem witness_MotorEventsComplete :
    (∃ (s : State) (k : Fin 6), s.amcSt k = 2 ∧ (s.amc[k]).seen = none) ∧
    (∃ (s : State) (k : Fin 6) (ph : Fin 3) (rising : Bool), s.amcSt k = 7 ∧ (s.amc[k]).nextAt = none ∧ (s.amcPairs k)[ph] = .off ∧ s.amcSamples k = true ∧ State.stepExpects (s.amc[k]).step (s.amc[k]).dir ph rising = true ∧ (s.amc[k]).commAt + (s.amc[k]).taus.headD 0 * s.getO (O.amcBlank k) / 600 ≤ s.now) ∧
    (∃ (s : State) (k : Fin 6) (a : Nat), s.amcSt k = 7 ∧ (s.amc[k]).nextAt = some a ∧ a ≤ s.now ∧ (s.amc[k]).job = 0) ∧
    (∃ (s : State) (k : Fin 6) (ns : Nat) (level : BitVec 8), (s.amcSt k = 5 ∨ s.amcSt k = 6 ∨ s.amcSt k = 7) ∧ s.amcCode k ≤ level.toNat ∧ 500 < ns) ∧
    (∃ (s : State) (k : Fin 6) (ns : Nat) (level : BitVec 8), (s.amcSt k = 5 ∨ s.amcSt k = 6 ∨ s.amcSt k = 7) ∧ s.amcCode k ≤ level.toNat ∧ 200 ≤ ns ∧ ns ≤ 500 ∧ (s.amc[k]).shorts = 0) ∧
    (∃ (s : State) (k : Fin 6) (ns : Nat) (level : BitVec 8), (level.toNat < s.amcCode k ∨ ns < 200)) ∧
    (∃ (s : State) (k : Fin 6), s.amcSt k = 2 ∧ (s.amc[k]).at_ + s.getO (O.amcListen k) * msTicks ≤ s.now ∧ (s.amc[k]).job ≠ 1 ∧ (s.amc[k]).held = none ∧ (s.amc[k]).heldGoal = none) ∧
    (∃ (s : State) (k : Fin 6), s.amcSt k = 3 ∧ (s.amc[k]).listening = false ∧ (s.amc[k]).at_ + 50 * msTicks ≤ s.now) ∧
    (∃ (s : State) (k : Fin 6), s.amcSt k = 3 ∧ (s.amc[k]).brakeAt + s.getO (O.amcBrakeMax k) * msTicks ≤ s.now) ∧
    (∃ (s : State) (k : Fin 6), s.amcSt k = 4 ∧ (s.amc[k]).at_ + s.getO (O.amcRevDelay k) * msTicks ≤ s.now) ∧
    (∃ (s : State) (k : Fin 6), s.amcSt k = 5 ∧ (s.amc[k]).at_ + s.getO (O.amcAlignTime k) * msTicks ≤ s.now) ∧
    (∃ (s : State) (k : Fin 6) (a : Nat), (s.amc[k]).retryAt = some a ∧ a + 200 * msTicks ≤ s.now) ∧
    (∃ (s : State) (k : Fin 6), s.amcSt k = 7 ∧ (s.amc[k]).crossAt + s.getO (O.amcStallTime k) * msTicks ≤ s.now ∧ (s.amc[k]).job = 0 ∧ (s.amc[k]).held = none ∧ (s.amc[k]).heldGoal = none ∧ (s.amc[k]).fails + 1 < s.getO (O.amcStartRetries k)) ∧
    (∃ (s : State) (k : Fin 6) (x : Rat), s.getO (O.amcCurveSrc k) ≠ 0 ∧ s.amcInput k = some x) ∧
    (∃ (s : State) (k : Fin 6), s.getO (O.amcCurveSrc k) ≠ 0 ∧ (s.amc[k]).failed = false ∧ (s.amc[k]).barred = false ∧ s.amcInput k = none ∧ (s.amc[k]).validAt + sTicks ≤ s.now) ∧
    (∃ (s : State) (a : Nat), (s.amc[(5 : Fin 6)]).parkHeld = some a ∧ s.amcAsked 5 = true ∧ a + 100 * msTicks ≤ s.now ∧ s.parkBar = none ∧ s.amcSt 5 = 1 ∧ s.getO O.amcParkState ≠ 3) ∧
    (∃ (s : State) (a : Nat), (s.amc[(5 : Fin 6)]).parkRetry = some a ∧ a + 200 * msTicks ≤ s.now ∧ s.amcSt 5 = 1) :=
  ⟨⟨(amcOk 4 [(O.amcState 4, 2), (O.amcRole 4, 1)] fun x => { x with seen := none }), 4, by and_intros <;> decide +kernel⟩,
   ⟨(amcOk 4 [(O.amcState 4, 7), (O.amcRole 4, 1)] fun x => { x with nextAt := none, step := 0, dir := 1, commAt := 0, dutyAt := 10 ^ 15, dutyWas := 1 / 2 }), 4, 0, true, by and_intros <;> decide +kernel⟩,
   ⟨(amcOk 4 [(O.amcState 4, 7), (O.amcRole 4, 1)] fun x => { x with nextAt := some 5, job := 0 }), 4, 5, by and_intros <;> decide +kernel⟩,
   ⟨(amcOk 4 [(O.amcState 4, 6), (O.amcRole 4, 1)] fun x => { x with at_ := 0 }), 4, 501, 255, by and_intros <;> decide +kernel⟩,
   ⟨(amcOk 4 [(O.amcState 4, 5), (O.amcRole 4, 1)] fun x => { x with shorts := 0 }), 4, 500, 255, by and_intros <;> decide +kernel⟩,
   ⟨(amcOk 4 [(O.amcState 4, 7), (O.amcRole 4, 1)] fun x => { x with at_ := 0 }), 4, 199, 255, by decide +kernel⟩,
   ⟨(amcOk 4 [(O.amcState 4, 2), (O.amcRole 4, 1)] fun x => { x with at_ := 0, job := 0, held := none, heldGoal := none }), 4, by and_intros <;> decide +kernel⟩,
   ⟨(amcOk 4 [(O.amcState 4, 3), (O.amcRole 4, 1)] fun x => { x with at_ := 0, listening := false }), 4, by and_intros <;> decide +kernel⟩,
   ⟨(amcOk 4 [(O.amcState 4, 3), (O.amcRole 4, 1)] fun x => { x with brakeAt := 0 }), 4, by and_intros <;> decide +kernel⟩,
   ⟨(amcOk 4 [(O.amcState 4, 4), (O.amcRole 4, 1)] fun x => { x with at_ := 0 }), 4, by and_intros <;> decide +kernel⟩,
   ⟨(amcOk 4 [(O.amcState 4, 5), (O.amcRole 4, 1)] fun x => { x with at_ := 0 }), 4, by and_intros <;> decide +kernel⟩,
   ⟨(amcOk 4 [(O.amcState 4, 1), (O.amcRole 4, 1)] fun x => { x with retryAt := some 0 }), 4, 0, by and_intros <;> decide +kernel⟩,
   ⟨(amcOk 4 [(O.amcState 4, 7), (O.amcRole 4, 1), (O.amcStartRetries 4, 5)] fun x => { x with crossAt := 0, job := 0, fails := 0 }), 4, by and_intros <;> decide +kernel⟩,
   ⟨((amcOk 4 [(O.amcState 4, 7), (O.amcRole 4, 1), (O.amcCurveSrc 4, 0x7000)] fun x => { x with at_ := 0 }).setO (O.thmT 0) f10), 4, 10, by and_intros <;> decide +kernel⟩,
   ⟨((amcOk 4 [(O.amcState 4, 7), (O.amcRole 4, 1), (O.amcCurveSrc 4, 0x7000)] fun x => { x with failed := false, validAt := 0 }).setO (O.thmT 0) 0x7FC00000), 4, by and_intros <;> decide +kernel⟩,
   ⟨((amcOk 5 [(O.amcState 5, 1), (O.amcRole 5, 3)] fun x => { x with parkHeld := some 0 }).modDisp fun x => { x with held := [heldOf 0x0714 [0x6800, 5]] }), 0, by and_intros <;> decide +kernel⟩,
   ⟨(amcOk 5 [(O.amcState 5, 1), (O.amcRole 5, 3)] fun x => { x with parkRetry := some 0 }), 0, by and_intros <;> decide +kernel⟩⟩

/-- States and operands that meet the hypotheses of each clause of `PackCommandsComplete`. -/
theorem witness_PackCommandsComplete :
    (∃ (s : State) (kab : Nat) (held : Nat), s.rpkPath = 0 ∧ kab < 100 * s.getO O.rpkSrcVLow ∧ 10 ≤ held) ∧
    (∃ (s : State) (kab : Nat) (held : Nat), (s.rpkPath = 3 ∨ s.rpkPath = 4) ∧ kab < 100 * s.getO O.rpkSrcVLow ∧ 10 ≤ held) ∧
    (∃ (s : State), s.rpkPath = 1 ∧ s.rpk.opened = false ∧ s.rpk.pathAt + 20 * usTicks ≤ s.now) ∧
    (∃ (s : State), s.rpkPath = 1 ∧ s.rpk.opened = true ∧ s.rpk.pathAt + 30 * usTicks ≤ s.now) ∧
    (∃ (s : State), s.rpkPath = 5 ∧ s.rpk.pathAt + 20 * usTicks ≤ s.now) ∧
    (∃ (s : State) (kab : Nat) (held : Nat), s.rpkPath = 2 ∧ s.srcInside kab = true ∧ s.getO O.rpkSrcDebounce * msTicks ≤ held * usTicks ∧ s.rpk.packAt + s.getO O.rpkSrcDebounce * msTicks ≤ s.now) ∧
    (∃ (s : State) (kab : Nat) (held : Nat), s.rpkPath = 4 ∧ s.srcInside kab = true ∧ s.getO O.rpkSrcQual * msTicks ≤ held * usTicks ∧ s.rpk.pathAt + s.getO O.rpkSrcQual * msTicks ≤ s.now) ∧
    (∃ (s : State) (kab : Nat), (s.rpkPath = 3 ∨ s.rpkPath = 4) ∧ s.srcInside kab = false) ∧
    (∃ (s : State) (a : Nat), s.rpkPath = 2 ∧ s.rpk.lowAt = some a ∧ a + sTicks ≤ s.now ∧ s.rpk.cutAt = none ∧ s.rpk.cut = false) ∧
    (∃ (s : State) (a : Nat), s.rpk.cutAt = some a ∧ a + 100 * msTicks ≤ s.now) ∧
    (∃ (s : State) (a : Nat), s.rpk.seenAt = some a ∧ s.rpkSt = 1 ∧ a + 2 * sTicks ≤ s.now ∧ s.rpk.at_ + 2 * sTicks ≤ s.now) ∧
    (∃ (s : State), s.rpkSt = 2 ∧ s.rpk.at_ + sTicks ≤ s.now) ∧
    (∃ (s : State), s.rpkSt = 3 ∧ s.rpk.restAt + 600 * sTicks ≤ s.now ∧ (s.getO O.rpkVRechg * s.getO O.rpkCells : Nat) ≤ s.getQ O.rpkVPack * 1000) ∧
    (∃ (s : State), s.rpkSt = 3 ∧ s.rpk.restAt + 600 * sTicks ≤ s.now ∧ s.getQ O.rpkVPack * 1000 < (s.getO O.rpkVRechg * s.getO O.rpkCells : Nat) ∧ s.packInside 0 = true ∧ s.override 6 < 2 ∧ (∀ k ∈ s.chkAdmit [37], k.bad = false) ∧ s.rpkMay = true) ∧
    (∃ (s : State) (a : Nat), s.rpk.insideAt = some a ∧ s.rpkSt = 5 ∧ s.rpk.window = true ∧ a + 10 * sTicks ≤ s.now ∧ s.rpkMay = true ∧ s.rpk.lateAt = none) ∧
    (∃ (s : State) (a : Nat), s.rpk.lateAt = some a ∧ s.rpkSt = 5 ∧ a + sTicks ≤ s.now ∧ s.rpkMay = true ∧ s.rpk.window = false) ∧
    (∃ (s : State), s.rpkSt = 4 ∧ s.rpk.secAt + sTicks ≤ s.now) ∧
    (∃ (s : State), s.rpkSt = 4 ∧ s.rpk.tenAt + 10 * sTicks ≤ s.now) ∧
    (∃ (s : State) (mv : Nat), s.getO O.rpkVCellMax * s.getO O.rpkCells < mv ∧ s.rpkSt = 4) ∧
    (∃ (s : State) (ns : Nat) (ma : Nat), 1000 ≤ ns ∧ (ma : Rat) < 50 * s.getQ O.rpkIChg ∧ s.rpkSt = 4) ∧
    (∃ (s : State) (c : Cmd), Front s 0x0610 c ∧ c.payload = [] ∧ Permits s c (some 6) 1 ∧ s.rpkSt = 3 ∧ s.packInside 0 = true ∧ s.override 6 < 2 ∧ (∀ k ∈ s.chkAdmit [37], k.bad = false) ∧ s.rpkMay = true) ∧
    (∃ (s : State) (c : Cmd), Front s 0x0610 c ∧ c.payload = [] ∧ Permits s c (some 6) 1 ∧ s.rpkSt = 6 ∧ s.packInside 0 = true ∧ s.override 6 < 2) :=
  ⟨⟨(obs [(O.rpkPath, 0)] (base)), 8999, 10, by and_intros <;> decide +kernel⟩,
   ⟨(obs [(O.rpkPath, 4)] (base)), 8999, 10, by and_intros <;> decide +kernel⟩,
   ⟨((obs [(O.rpkPath, 1)] (base)).modRpk fun x => { x with opened := false, pathAt := 0 }), by and_intros <;> decide +kernel⟩,
   ⟨((obs [(O.rpkPath, 1)] (base)).modRpk fun x => { x with opened := true, pathAt := 0 }), by and_intros <;> decide +kernel⟩,
   ⟨((obs [(O.rpkPath, 5)] (base)).modRpk fun x => { x with pathAt := 0 }), by and_intros <;> decide +kernel⟩,
   ⟨((obs [(O.rpkPath, 2)] (base)).modRpk fun x => { x with packAt := 0 }), 10000, 1000000, by and_intros <;> decide +kernel⟩,
   ⟨((obs [(O.rpkPath, 4)] (base)).modRpk fun x => { x with pathAt := 0 }), 32000, 5000000, by and_intros <;> decide +kernel⟩,
   ⟨(obs [(O.rpkPath, 3)] (base)), 9999, by and_intros <;> decide +kernel⟩,
   ⟨((obs [(O.rpkPath, 2)] (base)).modRpk fun x => { x with lowAt := some 0, cutAt := none, cut := false }), 0, by and_intros <;> decide +kernel⟩,
   ⟨((obs [] (base)).modRpk fun x => { x with cutAt := some 0 }), 0, by and_intros <;> decide +kernel⟩,
   ⟨((obs [(O.rpkPath, 0), (O.rpkState, 1)] (base)).modRpk fun x => { x with seenAt := some 0, at_ := 0 }), 0, by and_intros <;> decide +kernel⟩,
   ⟨((obs [(O.rpkPath, 0), (O.rpkState, 2)] (base)).modRpk fun x => { x with at_ := 0 }), by and_intros <;> decide +kernel⟩,
   ⟨((obs [(O.rpkPath, 0), (O.rpkState, 3), (O.rpkVPack, f100)] (base)).modRpk fun x => { x with restAt := 0 }), by and_intros <;> decide +kernel⟩,
   ⟨((obs [(O.rpkPath, 0), (O.rpkState, 3), (O.lpeDeadline 37, 60000), (O.rpkTPack, f10)] (base)).modRpk fun x => { x with restAt := 0 }), by and_intros <;> decide +kernel⟩,
   ⟨((obs [(O.rpkPath, 0), (O.rpkState, 5), (O.lpeDeadline 37, 60000)] (base)).modRpk fun x => { x with insideAt := some 0, window := true, lateAt := none }), 0, by and_intros <;> decide +kernel⟩,
   ⟨((obs [(O.rpkPath, 0), (O.rpkState, 5)] (base)).modRpk fun x => { x with lateAt := some 0, window := false }), 0, by and_intros <;> decide +kernel⟩,
   ⟨((obs [(O.rpkPath, 0), (O.rpkState, 4)] (base)).modRpk fun x => { x with secAt := 0 }), by and_intros <;> decide +kernel⟩,
   ⟨((obs [(O.rpkPath, 0), (O.rpkState, 4)] (base)).modRpk fun x => { x with tenAt := 0 }), by and_intros <;> decide +kernel⟩,
   ⟨(obs [(O.rpkPath, 0), (O.rpkState, 4), (O.rpkVCellMax, 1700), (O.rpkCells, 20)] (base)), 34001, by and_intros <;> decide +kernel⟩,
   ⟨(obs [(O.rpkPath, 0), (O.rpkState, 4), (O.rpkIChg, f10)] (base)), 1000, 499, by and_intros <;> decide +kernel⟩,
   ⟨(mail 0x0610 ([]) (obs [(O.rpkPath, 0), (O.rpkState, 3), (O.lpeDeadline 37, 60000), (O.rpkTPack, f10)] (base))), (cmdOf 0x0610 ([])), by and_intros <;> decide +kernel⟩,
   ⟨(mail 0x0610 ([]) (obs [(O.rpkPath, 0), (O.rpkState, 6), (O.rpkTPack, f10)] (base))), (cmdOf 0x0610 ([])), by and_intros <;> decide +kernel⟩⟩

/-- States and operands that meet the hypotheses of each clause of `PointingCommandsComplete`. -/
theorem witness_PointingCommandsComplete :
    (∃ (s : State) (n : Nat), s.atCheckpoint = true ∧ s.checkInstant / 12500 % 64 = n) ∧
    (∃ (s : State) (w : SafeWord), s.atCheckpoint = true ∧ 0 < s.checkInstant / 12500 % 64 ∧ s.checkInstant / 12500 % 64 < 63 ∧ s.copyAway .a = false ∧ s.ptg.a.missed = false ∧ s.wordFor .a = some w) ∧
    (∃ (s : State), s.atCheckpoint = true ∧ 0 < s.checkInstant / 12500 % 64 ∧ s.checkInstant / 12500 % 64 < 63 ∧ s.copyAway .a = false ∧ s.ptg.a.missed = false ∧ s.wordFor .a = none ∧ s.ptg.a.missRun < 3) ∧
    (∃ (s : State) (x : Copy) (w : SafeWord), s.ctAway = false ∧ s.wordFor x = some w) ∧
    (∃ (s : State), s.copyAway .a = false ∧ s.ptg.a.missed = false ∧ s.ptg.a.missRun < 3) ∧
    (∃ (s : State), s.copyAway .b = false ∧ s.ptg.b.missed = false ∧ s.ptg.b.missRun = 3 ∧ s.ptgLatched = false) ∧
    (∃ (s : State) (x : BitVec 64), s.ptg.ended = some (x, x) ∧ s.getO O.ptgState = 1) ∧
    (∃ (s : State) (x : BitVec 64) (y : BitVec 64), s.ptg.ended = some (x, y) ∧ x ≠ y ∧ s.ptg.lastBad = false) ∧
    (∃ (s : State) (x : BitVec 64) (y : BitVec 64), s.ptg.ended = some (x, y) ∧ x ≠ y ∧ s.ptg.lastBad = true ∧ s.ptgLatched = false) ∧
    (∃ (s : State) (c : Cmd) (k : Fin 2), Front s 0x0801 c ∧ c.payload = [BitVec.ofNat 8 k, 0, 0, 0] ∧ Permits s c (some 13) 2 ∧ (s.getO O.sysHostSafetyHost = c.host ∨ s.getO O.sysHostSafetyHost = 0xFF) ∧ s.getO O.ptgState = 1 ∧ s.ptg.cfg[2] ≠ 0) ∧
    (∃ (s : State) (c : Cmd), Front s 0x0802 c ∧ c.payload = [] ∧ Permits s c (some 13) 2 ∧ s.getO O.ptgState = 2) ∧
    (∃ (s : State) (c : Cmd), Front s 0x0803 c ∧ c.payload = [] ∧ Permits s c none 1 ∧ s.ilShort (some 13) false = none ∧ s.getO O.sysHostSafetyHost = c.host ∧ 16 ≤ s.ptg.matches_) ∧
    (∃ (s : State), s.getO O.ptgState = 2 ∧ s.ptg.splitAt + s.ptg.cfg[1] * msTicks ≤ s.now) :=
  ⟨⟨({ (with_ []).modPtg fun x => { x with a := { x.a with missed := true }, b := { x.b with missed := true } } with axt := BitVec.ofNat 64 (10 ^ 15 - 25000) }), 62, by and_intros <;> decide +kernel⟩,
   ⟨({ (with_ []).modPtg fun x => { x with cfg := #v[0, 0, 0, 0, 0], a := { x.a with missed := false, words := [{ word0 with stamp := 10 ^ 15 - 12500 }] } } with axt := BitVec.ofNat 64 (10 ^ 15 + 12500) }), ({ word0 with stamp := 10 ^ 15 - 12500 }), by and_intros <;> decide +kernel⟩,
   ⟨({ (with_ []).modPtg fun x => { x with a := { x.a with missed := false, words := [], missRun := 2 } } with axt := BitVec.ofNat 64 (10 ^ 15 - 24984) }), by and_intros <;> decide +kernel⟩,
   ⟨((with_ []).modPtg fun x => { x with cfg := #v[0, 0, 0, 0, 0], a := { x.a with words := [word0] } }), .a, word0, by and_intros <;> decide +kernel⟩,
   ⟨((with_ []).modPtg fun x => { x with a := { x.a with missed := false, missRun := 2 } }), by and_intros <;> decide +kernel⟩,
   ⟨((with_ []).modPtg fun x => { x with b := { x.b with missed := false, missRun := 3 } }), by and_intros <;> decide +kernel⟩,
   ⟨((with_ [(O.ptgState, 1)]).modPtg fun x => { x with ended := some (5, 5) }), 5, by and_intros <;> decide +kernel⟩,
   ⟨((with_ []).modPtg fun x => { x with ended := some (5, 6), lastBad := false }), 5, 6, by and_intros <;> decide +kernel⟩,
   ⟨((with_ []).modPtg fun x => { x with ended := some (5, 6), lastBad := true }), 5, 6, by and_intros <;> decide +kernel⟩,
   ⟨(mail 0x0801 ([1, 0, 0, 0]) ((with_ [(O.ptgState, 1)]).modPtg fun x => { x with cfg := #v[0, 0, 1, 0, 0] })), (cmdOf 0x0801 ([1, 0, 0, 0])), 1, by and_intros <;> decide +kernel⟩,
   ⟨(mail 0x0802 ([]) ((with_ [(O.ptgState, 2)]))), (cmdOf 0x0802 ([])), by and_intros <;> decide +kernel⟩,
   ⟨(mail 0x0803 ([]) ((with_ []).modPtg fun x => { x with matches_ := 16 })), (cmdOf 0x0803 ([])), by and_intros <;> decide +kernel⟩,
   ⟨((with_ [(O.ptgState, 2)]).modPtg fun x => { x with splitAt := 0, cfg := #v[0, 1, 0, 0, 0] }), by and_intros <;> decide +kernel⟩⟩

/-- States and operands that meet the hypotheses of each clause of `ObjectCommandsComplete`. -/
theorem witness_ObjectCommandsComplete :
    (∃ (s : State) (c : Cmd) (r : ObjRow) (i : Nat), Front s 0x0101 c ∧ c.payload.length = 2 ∧ s.rowOf (fieldAt c.payload 0 2) = some (r, i) ∧ r.acc ≠ .wo ∧ (s.objIl r i (fieldAt c.payload 0 2)).bad = false) ∧
    (∃ (s : State) (c : Cmd) (l : List State.Entry), Front s 0x0103 c ∧ 4 ≤ c.payload.length ∧ State.entries (fieldAt c.payload 0 2) (c.payload.drop 4) = some l ∧ fieldAt c.payload 0 2 ≠ 0 ∧ fieldAt c.payload 2 2 = 0 ∧ s.lc ≠ 4 ∧ s.batchBad (s.storeL (l.filterMap s.entryWr)) (s.cmdWriter c) l = none) ∧
    (∃ (s : State) (c : Cmd) (l : List State.Entry) (st : Nat) (i : Nat), Front s 0x0103 c ∧ 4 ≤ c.payload.length ∧ State.entries (fieldAt c.payload 0 2) (c.payload.drop 4) = some l ∧ fieldAt c.payload 0 2 ≠ 0 ∧ fieldAt c.payload 2 2 = 0 ∧ s.lc ≠ 4 ∧ s.batchBad (s.storeL (l.filterMap s.entryWr)) (s.cmdWriter c) l = some (st, i)) ∧
    (∃ (s : State) (c : Cmd), Front s 0x0104 c ∧ c.payload.length = 4 ∧ fieldAt c.payload 2 2 ≠ 0) ∧
    (∃ (s : State) (c : Cmd), Front s 0x0105 c ∧ c.payload = [] ∧ Permits s c none 2 ∧ s.flashOk = true ∧ s.seBusy = false ∧ (∀ p ∈ s.disp.held, p.code ≠ 0x0105)) ∧
    (∃ (s : State) (p : Held), p ∈ s.disp.held ∧ p.code = 0x0105 ∧ p.orphan = false ∧ s.flashPaused = false ∧ s.flashOk = true) :=
  ⟨⟨(mail 0x0101 (toLe 2 O.secLc) (base)), (cmdOf 0x0101 (toLe 2 O.secLc)), rowA, 0, by decide +kernel, by decide +kernel, (rfl), by and_intros <;> decide +kernel⟩,
   ⟨(mail 0x0103 (toLe 2 1 ++ [0, 0] ++ toLe 2 O.sysHostSafetyWatch ++ toLe 2 1 ++ [1, 0, 0, 0]) (base)), (cmdOf 0x0103 (toLe 2 1 ++ [0, 0] ++ toLe 2 O.sysHostSafetyWatch ++ toLe 2 1 ++ [1, 0, 0, 0])), ([{ id := O.sysHostSafetyWatch, size := 1, bytes := [1], pad := [0, 0, 0] }]), by decide +kernel, by decide +kernel, (rfl), by and_intros <;> decide +kernel⟩,
   ⟨(mail 0x0103 (toLe 2 1 ++ [0, 0] ++ toLe 2 O.sysHostSafetyWatch ++ toLe 2 1 ++ [7, 0, 0, 0]) (base)), (cmdOf 0x0103 (toLe 2 1 ++ [0, 0] ++ toLe 2 O.sysHostSafetyWatch ++ toLe 2 1 ++ [7, 0, 0, 0])), ([{ id := O.sysHostSafetyWatch, size := 1, bytes := [7], pad := [0, 0, 0] }]), St.range, 0, by decide +kernel, by decide +kernel, (rfl), by and_intros <;> decide +kernel⟩,
   ⟨(mail 0x0104 (toLe 2 O.secLc ++ [1, 0]) (base)), (cmdOf 0x0104 (toLe 2 O.secLc ++ [1, 0])), by and_intros <;> decide +kernel⟩,
   ⟨(mail 0x0105 ([]) (base)), (cmdOf 0x0105 ([])), by and_intros <;> decide +kernel⟩,
   ⟨(base.modDisp fun x => { x with held := [heldOf 0x0105 []] }), (heldOf 0x0105 []), by and_intros <;> decide +kernel⟩⟩

/-- States and operands that meet the hypotheses of each clause of `OverrideCommandsComplete`. -/
theorem witness_OverrideCommandsComplete :
    (∃ (s : State) (c : Cmd) (g : Nat) (a : Nat), (a = 2 ∨ a = 3) ∧ g < 10 ∧ Front s 0x0130 c ∧ c.payload.length = 8 ∧ fieldAt c.payload 0 1 = a ∧ fieldAt c.payload 1 1 = g ∧ fieldAt c.payload 2 2 = 0 ∧ fieldAt c.payload 4 4 = 0 ∧ s.lc ≠ 4 ∧ 1 ≤ s.roleFor c ∧ s.getO O.sysHostSafetyHost = c.host.val) ∧
    (∃ (s : State) (c : Cmd) (g : Nat) (v : Nat), g < 4 ∧ v < 2 ^ 19 ∧ Front s 0x0130 c ∧ c.payload.length = 8 ∧ fieldAt c.payload 0 1 = 1 ∧ fieldAt c.payload 1 1 = g ∧ fieldAt c.payload 2 2 = 0 ∧ fieldAt c.payload 4 4 = v ∧ s.lc ≠ 4 ∧ 1 ≤ s.roleFor c ∧ s.getO O.sysHostSafetyHost = c.host.val) ∧
    (∃ (s : State) (c : Cmd) (g : Nat), g < 10 ∧ Front s 0x0130 c ∧ c.payload.length = 8 ∧ fieldAt c.payload 0 1 = 5 ∧ fieldAt c.payload 1 1 = g ∧ fieldAt c.payload 2 2 = 0 ∧ fieldAt c.payload 4 4 = 0 ∧ s.lc ≠ 4 ∧ 1 ≤ s.roleFor c ∧ s.getO O.sysHostSafetyHost = c.host.val) ∧
    (∃ (s : State) (c : Cmd) (g : Nat), g < 14 ∧ Front s 0x0130 c ∧ c.payload.length = 8 ∧ fieldAt c.payload 0 1 = 4 ∧ fieldAt c.payload 1 1 = g ∧ fieldAt c.payload 2 2 = 0 ∧ fieldAt c.payload 4 4 = 0 ∧ s.lc ≠ 4 ∧ 1 ≤ s.roleFor c ∧ s.getO O.sysHostSafetyHost = c.host.val) ∧
    (∃ (s : State) (h : Fin 4), s.safetyHost = some h ∧ s.disp.ready = true ∧ s.disp.safetyActed = false ∧ s.disp.safetyAt + s.getO (O.sysHostLeaseTimeout h) * msTicks ≤ s.now ∧ s.getO O.sysHostSafetyWatch ≠ 2) :=
  ⟨⟨(mail 0x0130 ([3, 9, 0, 0] ++ toLe 4 0) (base)), (cmdOf 0x0130 ([3, 9, 0, 0] ++ toLe 4 0)), 9, 3, by and_intros <;> decide +kernel⟩,
   ⟨(mail 0x0130 ([1, 3, 0, 0] ++ toLe 4 524287) (base)), (cmdOf 0x0130 ([1, 3, 0, 0] ++ toLe 4 524287)), 3, 524287, by and_intros <;> decide +kernel⟩,
   ⟨(mail 0x0130 ([5, 0, 0, 0] ++ toLe 4 0) (base)), (cmdOf 0x0130 ([5, 0, 0, 0] ++ toLe 4 0)), 0, by and_intros <;> decide +kernel⟩,
   ⟨(mail 0x0130 ([4, 13, 0, 0] ++ toLe 4 0) (base)), (cmdOf 0x0130 ([4, 13, 0, 0] ++ toLe 4 0)), 13, by and_intros <;> decide +kernel⟩,
   ⟨base, 0, by and_intros <;> decide +kernel⟩⟩

/-- States and operands that meet the hypotheses of each clause of `SecurityCommandsComplete`. -/
theorem witness_SecurityCommandsComplete :
    (∃ (s : State) (c : Cmd), Front s 0x0120 c ∧ c.payload = [1, 0, 0, 0] ∧ s.ilShort none false = none ∧ s.auditFull = false ∧ s.sessionLocked c.host = false) ∧
    (∃ (s : State) (c : Cmd) (role : Nat), (role = 2 ∨ role = 3) ∧ Front s 0x0120 c ∧ c.payload.length = 2860 ∧ fieldAt c.payload 0 1 = role ∧ fieldAt c.payload 1 3 = 0 ∧ s.lc ≠ 0 ∧ s.lc ≠ 4 ∧ s.ilShort none false = none ∧ s.auditFull = false ∧ s.sessionLocked c.host = false ∧ s.seBusy = false ∧ s.sec.verify[c.host] = none) ∧
    (∃ (s : State) (h : Fin 4) (role : Nat) (tok : List Byte), s.sec.verify[h] = some (role, tok) ∧ role < 4) ∧
    (∃ (s : State) (c : Cmd), Front s 0x0121 c ∧ c.payload = [] ∧ s.ilShort none false = none ∧ s.auditFull = false) ∧
    (∃ (s : State) (h : Fin 4), 2 ≤ s.session h ∧ s.sec.cmdAt[h] + s.getO O.secSessionIdle * 60 * sTicks ≤ s.now) ∧
    (∃ (s : State) (c : Cmd) (n : Nat), Front s 0x0A01 c ∧ c.payload = [BitVec.ofNat 8 n, 0, 0, 0] ∧ State.lcAllowed s.lc n = true ∧ s.lc ≠ 0 ∧ State.lcRole s.lc n ≤ s.roleFor c ∧ s.ilShort none true = none ∧ s.atRest = true ∧ s.auditFull = false ∧ s.sec.lcStep = none ∧ s.seBusy = false) ∧
    (∃ (s : State) (st : LcStep), s.sec.lcStep = some st) ∧
    (∃ (s : State) (c : Cmd), Front s 0x0A07 c ∧ c.payload.length = 68 ∧ s.lc ≠ 4 ∧ 3 ≤ s.roleFor c ∧ s.ilShort none true = none ∧ s.auditFull = false ∧ s.seBusy = false ∧ s.sec.makerKeys.length < 4) ∧
    (∃ (s : State) (c : Cmd), Front s 0x0A02 c ∧ c.payload.length = 32 ∧ s.ilShort none true = none ∧ s.flashOk = true ∧ s.getO O.secAttNext < 2 ^ 20 ∧ s.mordantFailed = false ∧ s.sec.keysReady = true ∧ s.sec.attest = none ∧ s.seBusy = false) ∧
    (∃ (s : State) (nonce : List Byte), s.sec.attest = some nonce ∧ s.flashOk = true ∧ s.getO O.secAttNext + 1 < 2 ^ 20) ∧
    (∃ (s : State) (c : Cmd), Front s 0x0A03 c ∧ c.payload = [] ∧ s.ilShort none true = none ∧ s.mordantFailed = false ∧ s.sec.keysReady = true ∧ s.seBusy = false) ∧
    (∃ (s : State), s.sec.keysReady = false ∧ s.sec.deriveBlocked = false ∧ s.mordantFailed = false ∧ s.pwr.boot = [] ∧ s.sec.keyNew = false) ∧
    (∃ (s : State) (c : Cmd) (off : Nat), Front s 0x0A04 c ∧ off = fieldAt c.payload 0 4 ∧ 5 ≤ c.payload.length ∧ c.payload.length ≤ 4092 ∧ off + (c.payload.length - 4) ≤ 65536 ∧ s.lc ≠ 4 ∧ s.lc ≠ 0 ∧ 2 ≤ s.roleFor c ∧ s.ilShort none true = none ∧ s.sec.install = none ∧ s.seBusy = false) ∧
    (∃ (s : State) (c : Cmd), Front s 0x0A05 c ∧ c.payload.length = 8 ∧ fieldAt c.payload 0 1 = 0 ∧ fieldAt c.payload 1 3 = 0 ∧ fieldAt c.payload 4 4 < 65536 ∧ s.lc ≠ 4 ∧ s.lc ≠ 0 ∧ 2 ≤ s.roleFor c ∧ s.ilShort none true = none ∧ s.flashOk = true ∧ s.sec.install = none ∧ s.seBusy = false) ∧
    (∃ (s : State) (b : List Byte) (p : Held), s.sec.install = some b ∧ s.disp.held.find? (fun p => p.code == 0x0A05) = some p ∧ s.flashPaused = false ∧ s.seBusy = false ∧ (bundleParts (b.take (b.length - 2820))).isSome = true) ∧
    (∃ (s : State) (c : Cmd) (n : Nat) (m : Nat), Front s 0x0A06 c ∧ c.payload.length = 8 ∧ n = fieldAt c.payload 0 4 ∧ m = fieldAt c.payload 4 2 ∧ 1 ≤ m ∧ m ≤ 63 ∧ fieldAt c.payload 6 2 = 0 ∧ s.ilShort none true = none ∧ s.sec.log = []) ∧
    (∃ (s : State) (r : AuditRec), s.flashOk = true ∧ s.flashPaused = false ∧ s.seBusy = false ∧ s.sec.queue = [r]) :=
  ⟨⟨(mail 0x0120 ([1, 0, 0, 0]) (base)), (cmdOf 0x0120 ([1, 0, 0, 0])), by and_intros <;> decide +kernel⟩,
   ⟨(mail 0x0120 ([3, 0, 0, 0] ++ List.replicate 2856 0) (base)), (cmdOf 0x0120 ([3, 0, 0, 0] ++ List.replicate 2856 0)), 3, by and_intros <;> decide +kernel⟩,
   ⟨(base.modSec fun x => { x with verify := x.verify.set 3 (some (2, [])) }), 3, 2, [], by and_intros <;> decide +kernel⟩,
   ⟨(mail 0x0121 ([]) (base)), (cmdOf 0x0121 ([])), by and_intros <;> decide +kernel⟩,
   ⟨(with_ [(O.secSession, 2 * 64)]), 3, by and_intros <;> decide +kernel⟩,
   ⟨(mail 0x0A01 ([3, 0, 0, 0]) (base)), (cmdOf 0x0A01 ([3, 0, 0, 0])), 3, by and_intros <;> decide +kernel⟩,
   ⟨(base.modSec fun x => { x with lcStep := some { target := 3, key := [] } }), ({ target := 3, key := [] }), by decide +kernel⟩,
   ⟨(mail 0x0A07 (List.replicate 68 1) (base)), (cmdOf 0x0A07 (List.replicate 68 1)), by and_intros <;> decide +kernel⟩,
   ⟨(mail 0x0A02 (List.replicate 32 0) (base.modSec fun x => { x with keysReady := true })), (cmdOf 0x0A02 (List.replicate 32 0)), by and_intros <;> decide +kernel⟩,
   ⟨(base.modSec fun x => { x with attest := some [] }), [], by and_intros <;> decide +kernel⟩,
   ⟨(mail 0x0A03 ([]) (base.modSec fun x => { x with keysReady := true })), (cmdOf 0x0A03 ([])), by and_intros <;> decide +kernel⟩,
   ⟨(base.modSec fun x => { x with keysReady := false, deriveBlocked := false, keyNew := false }), by and_intros <;> decide +kernel⟩,
   ⟨(mail 0x0A04 (toLe 4 65535 ++ [9]) (base)), (cmdOf 0x0A04 (toLe 4 65535 ++ [9])), 65535, by and_intros <;> decide +kernel⟩,
   ⟨(mail 0x0A05 ([0, 0, 0, 0] ++ toLe 4 65535) (base)), (cmdOf 0x0A05 ([0, 0, 0, 0] ++ toLe 4 65535)), by and_intros <;> decide +kernel⟩,
   ⟨((base.modSec fun x => { x with install := some (tb ++ List.replicate 2820 0) }).modDisp fun x => { x with held := [heldOf 0x0A05 []] }), (tb ++ List.replicate 2820 0), (heldOf 0x0A05 []), by and_intros <;> decide +kernel⟩,
   ⟨(mail 0x0A06 (toLe 4 9 ++ toLe 2 63 ++ [0, 0]) (base)), (cmdOf 0x0A06 (toLe 4 9 ++ toLe 2 63 ++ [0, 0])), 9, 63, by and_intros <;> decide +kernel⟩,
   ⟨(base.modSec fun x => { x with queue := [rec0] }), rec0, by and_intros <;> decide +kernel⟩⟩

/-- States and operands that meet the hypotheses of each clause of `UpdateCommandsComplete`. -/
theorem witness_UpdateCommandsComplete :
    (∃ (s : State) (c : Cmd) (i : Fin 6), Front s 0x0A10 c ∧ OnIsland s c i ∧ s.updSt i ∈ [0, 1, 2, 5] ∧ s.flashOk = true ∧ s.seBusy = false ∧ s.upd[i].op = none) ∧
    (∃ (s : State) (c : Cmd) (i : Fin 6), Front s 0x0A11 c ∧ 9 ≤ c.payload.length ∧ c.payload.length ≤ 4092 ∧ fieldAt c.payload 0 1 = i.val ∧ fieldAt c.payload 1 1 = 0 ∧ fieldAt c.payload 2 2 = 0 ∧ fieldAt c.payload 4 4 = s.getO (O.updReceived i) ∧ fieldAt c.payload 4 4 + (c.payload.length - 8) ≤ slotSize i ∧ Permits s c (some 11) 2 ∧ s.updSt i = 1 ∧ s.flashOk = true ∧ s.flashPaused = false ∧ s.seBusy = false ∧ s.upd[i].op = none) ∧
    (∃ (s : State) (c : Cmd) (i : Fin 6), Front s 0x0A12 c ∧ OnIsland s c i ∧ s.updSt i = 1 ∧ s.seBusy = false ∧ s.upd[i].op = none) ∧
    (∃ (s : State) (c : Cmd) (i : Fin 6), Front s 0x0A13 c ∧ OnIsland s c i ∧ i ≠ 1 ∧ s.updSt i = 2 ∧ (∀ j < 6, s.updSt j ≠ 3 ∧ s.updSt j ≠ 4) ∧ s.ownCondition i = none ∧ (∀ m, s.upd[i].spareImg = some m → s.ilClash i m = none)) ∧
    (∃ (s : State) (c : Cmd) (i : Fin 6), Front s 0x0A14 c ∧ OnIsland s c i ∧ s.updSt i = 4 ∧ s.flashOk = true ∧ s.flashPaused = false ∧ s.auditFull = false ∧ s.seBusy = false ∧ s.upd[i].op = none) ∧
    (∃ (s : State) (c : Cmd) (i : Fin 6), Front s 0x0A15 c ∧ OnIsland s c i ∧ i ≠ 1 ∧ s.updSt i = 4 ∧ s.ownCondition i = none) ∧
    (∃ (s : State) (c : Cmd) (i : Fin 6), Front s 0x0A16 c ∧ OnIsland s c i ∧ s.updSt i ∈ [1, 2, 5]) ∧
    (∃ (s : State) (i : Fin 6), s.upd[i].op = some .erase ∧ s.seBusy = false ∧ s.flashPaused = false ∧ s.flashOk = true) ∧
    (∃ (s : State) (i : Fin 6) (b : List Byte), s.upd[i].op = some (.write b) ∧ s.seBusy = false ∧ s.flashPaused = false ∧ s.flashOk = true) ∧
    (∃ (s : State) (i : Fin 6), s.upd[i].op = some .verify ∧ s.seBusy = false ∧ s.flashPaused = false) ∧
    (∃ (s : State) (i : Fin 6), i ≠ 0 ∧ s.updSt i = 3 ∧ s.upd[i].rollback = false) ∧
    (∃ (s : State) (i : Fin 6), i ≠ 0 ∧ s.updSt i = 3 ∧ s.upd[i].rollback = true) :=
  ⟨⟨(mail 0x0A10 ([5, 0, 0, 0]) ((with_ [(O.updState 5, 5)]).modUpd 5 fun u => { u with op := none })), (cmdOf 0x0A10 ([5, 0, 0, 0])), 5, by and_intros <;> decide +kernel⟩,
   ⟨(mail 0x0A11 ([5, 0, 0, 0] ++ toLe 4 16 ++ [1]) ((with_ [(O.updState 5, 1), (O.updReceived 5, 16)]).modUpd 5 fun u => { u with op := none })), (cmdOf 0x0A11 ([5, 0, 0, 0] ++ toLe 4 16 ++ [1])), 5, by and_intros <;> decide +kernel⟩,
   ⟨(mail 0x0A12 ([5, 0, 0, 0]) ((with_ [(O.updState 5, 1)]).modUpd 5 fun u => { u with op := none })), (cmdOf 0x0A12 ([5, 0, 0, 0])), 5, by and_intros <;> decide +kernel⟩,
   ⟨(mail 0x0A13 ([5, 0, 0, 0]) ((with_ [(O.updState 5, 2)]).modUpd 5 fun u => { u with op := none })), (cmdOf 0x0A13 ([5, 0, 0, 0])), 5, by decide +kernel, by decide +kernel, by decide +kernel, by decide +kernel, by decide +kernel, by decide +kernel, (fun m h => nomatch ((by decide +kernel : (mail 0x0A13 ([5, 0, 0, 0]) ((with_ [(O.updState 5, 2)]).modUpd 5 fun u => { u with op := none })).upd[(5 : Fin 6)].spareImg = none).symm.trans h))⟩,
   ⟨(mail 0x0A14 ([5, 0, 0, 0]) ((with_ [(O.updState 5, 4)]).modUpd 5 fun u => { u with op := none })), (cmdOf 0x0A14 ([5, 0, 0, 0])), 5, by and_intros <;> decide +kernel⟩,
   ⟨(mail 0x0A15 ([5, 0, 0, 0]) ((with_ [(O.updState 5, 4)]).modUpd 5 fun u => { u with op := none, rollback := false })), (cmdOf 0x0A15 ([5, 0, 0, 0])), 5, by and_intros <;> decide +kernel⟩,
   ⟨(mail 0x0A16 ([5, 0, 0, 0]) ((with_ [(O.updState 5, 5)]).modUpd 5 fun u => { u with op := none })), (cmdOf 0x0A16 ([5, 0, 0, 0])), 5, by and_intros <;> decide +kernel⟩,
   ⟨((with_ [(O.updState 5, 0)]).modUpd 5 fun u => { u with op := some .erase }), 5, by and_intros <;> decide +kernel⟩,
   ⟨((with_ [(O.updState 5, 1)]).modUpd 5 fun u => { u with op := some (.write [1]) }), 5, [1], by and_intros <;> decide +kernel⟩,
   ⟨((with_ [(O.updState 5, 1)]).modUpd 5 fun u => { u with op := some .verify }), 5, by and_intros <;> decide +kernel⟩,
   ⟨((with_ [(O.updState 2, 3)]).modUpd 2 fun u => { u with op := none, rollback := false }), 2, by and_intros <;> decide +kernel⟩,
   ⟨((with_ [(O.updState 2, 3)]).modUpd 2 fun u => { u with op := none, rollback := true }), 2, by and_intros <;> decide +kernel⟩⟩

/-- States and operands that meet the hypotheses of each clause of `SupplyCommandsComplete`. -/
theorem witness_SupplyCommandsComplete :
    (∃ (s : State), s.pwr.vstby = false) ∧
    (∃ (s : State), s.pwr.vstby = true) ∧
    (∃ (s : State), s.pwr.vmain = true ∧ s.pwr.asleep = false) ∧
    (∃ (s : State), s.pwr.keepAlive = true) ∧
    (∃ (s : State), s.pwr.keepAlive = true ∧ s.dcl.ctrPos = true) ∧
    (∃ (s : State), s.pwr.keepAlive = true ∧ s.dcl.ctrPos = false ∧ s.dcl.posAt.getD 0 + (kGet s.flash O.dclCloseTime).getD (objDefault O.dclCloseTime) * msTicks ≤ s.now) ∧
    (∃ (s : State), s.pwr.vmain = false ∧ s.pwr.asleep = false ∧ s.pwr.boot = [] ∧ s.tripLatched = false) ∧
    (∃ (s : State), s.pwr.vstby = true) ∧
    (∃ (s : State) (i : Island), i ≠ .pl ∧ s.pwr.asleep = false ∧ s.pwr.vmain = true ∧ s.pwr.boot = []) ∧
    (∃ (s : State) (b : Fin 3), s.pwr.vio[b] = true) ∧
    (∃ (s : State) (b : Boot), s.bootReady = true ∧ s.pwr.boot = [b] ∧ b.cause = 2 ∧ b.islands.testBit 4 = true) ∧
    (∃ (s : State) (n : Fin 6), s.pwr.vstby = true ∧ s.bitO O.secTamperEnable n = true) :=
  ⟨⟨((base).modPwr fun x => { x with vstby := false }), by decide +kernel⟩,
   ⟨((base).modPwr fun x => { x with vstby := true }), by decide +kernel⟩,
   ⟨((base).modPwr fun x => { x with vmain := true }), by and_intros <;> decide +kernel⟩,
   ⟨((base).modPwr fun x => { x with keepAlive := true }), by decide +kernel⟩,
   ⟨(((base.modDcl fun x => { x with ctrPos := true })).modPwr fun x => { x with keepAlive := true }), by and_intros <;> decide +kernel⟩,
   ⟨(((base.modDcl fun x => { x with ctrPos := false, posAt := some 0 })).modPwr fun x => { x with keepAlive := true }), by and_intros <;> decide +kernel⟩,
   ⟨((base).modPwr fun x => { x with vmain := false, boot := [] }), by and_intros <;> decide +kernel⟩,
   ⟨base, by decide +kernel⟩,
   ⟨((base).modPwr fun x => { x with boot := [] }), .ct, by and_intros <;> decide +kernel⟩,
   ⟨((base).modPwr fun x => { x with vio := #v[true, true, true] }), 2, by decide +kernel⟩,
   ⟨((base).modPwr fun x => { x with boot := [{ cause := 2, islands := 0x3D, classes := 3 }] }), ({ cause := 2, islands := 0x3D, classes := 3 }), by and_intros <;> decide +kernel⟩,
   ⟨(obs [(O.secTamperEnable, 63)] (base)), 5, by and_intros <;> decide +kernel⟩⟩

/-- States and operands that meet the hypotheses of each clause of `PowerAndThermalCommandsComplete`. -/
theorem witness_PowerAndThermalCommandsComplete :
    (∃ (s : State), s.pwrRuns = true ∧ s.pwr.entering = none) ∧
    (∃ (s : State) (a : Nat), s.pwrRuns = true ∧ s.pwr.entering = none ∧ s.pwr.dwellAt = some a ∧ 4 ≤ s.getO O.pwrTarget ∧ a + s.getO O.pwrDwell * msTicks ≤ s.now) ∧
    (∃ (s : State) (st : Nat), s.pwr.entering = some st ∧ s.pwr.wakePend = none ∧ 4 ≤ s.pwrChoose.1) ∧
    (∃ (s : State), s.pwr.asleep = true ∧ s.getO O.pwrState = 4 ∧ s.wakeMask 1 = true ∧ s.pwr.boot = []) ∧
    (∃ (s : State), s.pwr.asleep = true ∧ s.getO O.pwrState = 5 ∧ s.wakeMask 10 = true ∧ s.getO O.pwrWakeAfter * 32768 ≤ s.pwr.cycles ∧ s.pwr.boot = []) ∧
    (∃ (s : State) (a : Nat), s.pwr.holdUntil = some a ∧ a ≤ s.now) ∧
    (∃ (s : State) (c : Cmd) (a : Nat), Front s 0x0201 c ∧ c.payload = [] ∧ Permits s c none 1 ∧ s.pwr.holdUntil = some a) ∧
    (∃ (s : State) (kab : Nat), s.pwr.asleep = true ∧ s.rpkPath = 0 ∧ kab < s.getO O.rpkSrcVLow * 100) ∧
    (∃ (s : State) (m : Fin 4), s.getO O.pwrState = 3 ∧ s.pwr.asleep = false ∧ s.onObserver m = false ∧ s.portSpeedOk m = true) ∧
    (∃ (s : State) (n : Fin 16) (v : Int), s.sampleDue n = true ∧ -500 ≤ v ∧ v ≤ 2000 ∧ s.bst.suspect.getLsbD n = false) ∧
    (∃ (s : State) (n : Fin 16) (v : Int), s.sampleDue n = true ∧ 2000 < v) ∧
    (∃ (s : State) (n : Fin 16) (a : Nat), s.thm.sensors[n].farAt = some a ∧ a + 10 * msTicks ≤ s.now) ∧
    (∃ (s : State), s.thm.pause[0] ≤ s.now) ∧
    (∃ (s : State), s.thm.pause[1] ≤ s.now) ∧
    (∃ (s : State), s.thm.pause[2] ≤ s.now) ∧
    (∃ (s : State), s.thm.pause[3] ≤ s.now) ∧
    (∃ (s : State) (p : Fin 8), s.thm.pauseNet[p] ≤ s.now) :=
  ⟨⟨base, by and_intros <;> decide +kernel⟩,
   ⟨((obs [(O.pwrTarget, 4)] (base)).modPwr fun x => { x with dwellAt := some 0, entering := none }), 0, by and_intros <;> decide +kernel⟩,
   ⟨((obs [(O.pwrDeepest, 5), (O.pwrTolerance 0, 0xFFFFFFFF)] (base.modDcl fun x => x)).modPwr fun x => { x with entering := some 4, wakePend := none }), 4, by and_intros <;> decide +kernel⟩,
   ⟨((obs [(O.pwrState, 4), (O.pwrWakeMask, 2)] (base)).modPwr fun x => { x with asleep := true, boot := [], cycles := 3 }), by and_intros <;> decide +kernel⟩,
   ⟨((obs [(O.pwrState, 5), (O.pwrWakeMask, 1024)] (base)).modPwr fun x => { x with asleep := true, boot := [], cycles := 10 ^ 12 }), by and_intros <;> decide +kernel⟩,
   ⟨((base).modPwr fun x => { x with holdUntil := some 5 }), 5, by and_intros <;> decide +kernel⟩,
   ⟨(mail 0x0201 ([]) ((base).modPwr fun x => { x with holdUntil := some 5 })), (cmdOf 0x0201 ([])), 5, by and_intros <;> decide +kernel⟩,
   ⟨((obs [(O.rpkPath, 0), (O.rpkSrcVLow, 90)] (base)).modPwr fun x => { x with asleep := true }), 8999, by and_intros <;> decide +kernel⟩,
   ⟨((obs [(O.pwrState, 3), (O.trxPosPort 3, 0), (O.posMode 0, 2), (O.posStatus 0, 0xC000)] (base.modPos 0 fun x => { x with st := 1 })).modPwr fun x => { x with asleep := false }), 3, by and_intros <;> decide +kernel⟩,
   ⟨base, 15, 2000, by and_intros <;> decide +kernel⟩,
   ⟨base, 0, 2001, by and_intros <;> decide +kernel⟩,
   ⟨({ base with thm := { base.thm with sensors := base.thm.sensors.set 15 { base.thm.sensors[(15 : Fin 16)] with farAt := some 0 } } }), 15, 0, by and_intros <;> decide +kernel⟩,
   ⟨base, by decide +kernel⟩,
   ⟨base, by decide +kernel⟩,
   ⟨base, by decide +kernel⟩,
   ⟨base, by decide +kernel⟩,
   ⟨base, 7, by decide +kernel⟩⟩

/-- States and operands that meet the hypotheses of each clause of `NetworkEventsComplete`. -/
theorem witness_NetworkEventsComplete :
    (∃ (s : State) (n : Fin 4) (id : BitVec 29), s.nwUp = true ∧ s.canMode n ≠ 0 ∧ s.net.can[n].busOff = false ∧ s.net.can[n].claim = .claimed ∧ idPgn id.toNat = pgnRequest ∧ idDest id.toNat = 0xFF ∧ (∀ e ∈ s.mapEntries, e.pgn ≠ pgnRequest) ∧ (s.net.loadAt + sTicks ≤ s.now ∨ s.net.loadN < 60000)) ∧
    (∃ (s : State) (n : Fin 4) (id : BitVec 29) (data : List (BitVec 8)), s.nwUp = true ∧ s.canMode n ≠ 0 ∧ s.net.can[n].busOff = false ∧ id.toNat < 2048 ∧ data.length ≤ 8) ∧
    (∃ (s : State) (e : Fin 4) (mac : BitVec 48) (name : Nat) (a : Nat) (al : Partner) (q : Partner), s.nwUp = true ∧ s.ethReady e = true ∧ s.mapEntries = [] ∧ (s.net.loadAt + sTicks ≤ s.now ∨ s.net.loadN < 60000) ∧ name ≠ 0 ∧ name < 2 ^ 64 ∧ s.aliasMac (ethPort e) mac.toNat = some a ∧ s.pGet a = some al ∧ al.link ≠ a ∧ s.pGet al.link = some q ∧ q.id = name) ∧
    (∃ (s : State) (e : Fin 4) (data : List (BitVec 8)), s.nwUp = true ∧ s.ethReady e = true ∧ data.length < 16) ∧
    (∃ (s : State) (n : Fin 4) (tec : BitVec 8) (rxc : BitVec 8), s.nwUp = true ∧ s.canMode n ≠ 0 ∧ s.net.can[n].busOff = false ∧ (128 ≤ tec.toNat ∨ 128 ≤ rxc.toNat)) ∧
    (∃ (s : State) (n : Fin 4), s.nwUp = true ∧ s.canMode n ≠ 0 ∧ s.net.can[n].busOff = false) ∧
    (∃ (s : State) (n : Fin 4), s.nwUp = true ∧ s.canMode n ≠ 0 ∧ s.getO O.netName ≠ 0 ∧ s.net.can[n].busOff = true ∧ s.net.can[n].heldOff = false) ∧
    (∃ (s : State) (n : Fin 4), s.nwUp = true ∧ s.net.can[n].claim = .waiting ∧ s.net.can[n].at_ + 250 * msTicks ≤ s.now) ∧
    (∃ (s : State) (n : Fin 4), s.nwUp = true ∧ s.net.can[n].claim = .delay) ∧
    (∃ (s : State) (p : Fin 8), s.nwUp = true ∧ s.portReady p = true ∧ s.net.annAt[p] + 5 * sTicks ≤ s.now ∧ s.mismatched p 0xFF = false) ∧
    (∃ (s : State) (e : Fin 4), s.nwUp = true ∧ s.bitO (O.netEthCfg e) 0 = true ∧ s.bitO (O.netEthStatus e) 0 = false) ∧
    (∃ (s : State) (e : Fin 4), s.nwUp = true ∧ s.bitO (O.netEthCfg e) 0 = true ∧ s.bitO (O.netEthStatus e) 0 = true) ∧
    (∃ (s : State) (e : Fin 2), s.nwUp = true ∧ s.plcaFollower e = true ∧ s.net.csma[e] = false) ∧
    (∃ (s : State) (e : Fin 2), s.nwUp = true ∧ s.plcaFollower e = true ∧ s.net.csma[e] = true) ∧
    (∃ (s : State) (i : Nat) (al : Partner), s.nwUp = true ∧ s.pGet i = some al ∧ al.kind = 2 ∧ al.flags.testBit 4 = false ∧ al.last + s.getO O.netPartnerTimeout * msTicks ≤ s.now) ∧
    (∃ (s : State) (k : Nat) (x : Session), s.nwUp = true ∧ s.net.sess.find? (fun (y : Session) => y.key == k) = some x ∧ x.due ≤ s.now ∧ x.wait ≠ .sending ∧ k < s.net.nextKey) ∧
    (∃ (s : State) (i : Fin 256), s.nwUp = true ∧ (s.mapEntry i).on = true ∧ (s.mapEntry i).tx = true ∧ (s.mapEntry i).period ≠ 0 ∧ s.txLeads (s.mapEntry i) = true ∧ (kGet s.net.mapAt i).getD s.net.startAt + (s.mapEntry i).period * msTicks ≤ s.now) ∧
    (∃ (s : State), s.nwUp = true) ∧
    (∃ (s : State) (i : Fin 256), s.nwUp = true ∧ (s.mapEntry i).on = true ∧ (s.mapEntry i).tx = false ∧ (s.mapEntry i).period ≠ 0 ∧ s.net.rxDead.contains i.val = false ∧ (kGet s.net.mapAt i).getD s.net.startAt + (s.mapEntry i).period * msTicks ≤ s.now) ∧
    (∃ (s : State) (p : Fin 8) (n : Fin 4) (m : TxMsg), s.nwUp = true ∧ portCan p = some n ∧ (s.txWithdraw fun x => x.port == p).txNext p = some m ∧ m.who = .own) ∧
    (∃ (s : State) (e : Fin 4) (target : BitVec 32), s.nwUp = true ∧ s.ethReady e = true ∧ target.toNat = s.getO (O.netEthIpv4 e)) :=
  ⟨⟨(netOk [] (can3 claim0)), 3, 0x18EAFF01, by and_intros <;> decide +kernel⟩,
   ⟨(netOk [] (can3 claim0)), 3, 2047, [], by and_intros <;> decide +kernel⟩,
   ⟨(netOk [(O.netEthCfg 3, 1), (O.netEthStatus 3, 1)] (fun x => can3 claim0 { x with table := [(0, part0), (1, alias0)] })), 3, 9, 7, 1, alias0, part0, by and_intros <;> decide +kernel⟩,
   ⟨(netOk [(O.netEthCfg 3, 1), (O.netEthStatus 3, 1)] (can3 claim0)), 3, [], by and_intros <;> decide +kernel⟩,
   ⟨(netOk [] (can3 claim0)), 3, 128, 0, by and_intros <;> decide +kernel⟩,
   ⟨(netOk [] (can3 claim0)), 3, by and_intros <;> decide +kernel⟩,
   ⟨(netOk [(O.netCanStatus 3, 4)] (can3 { claim0 with busOff := true, heldOff := false, claim := .off })), 3, by and_intros <;> decide +kernel⟩,
   ⟨(netOk [] (can3 { claim0 with claim := .waiting, at_ := 0 })), 3, by and_intros <;> decide +kernel⟩,
   ⟨(netOk [] (can3 { claim0 with claim := .delay })), 3, by and_intros <;> decide +kernel⟩,
   ⟨(netOk [] (fun x => can3 claim0 { x with annAt := Vector.replicate 8 0 })), 3, by and_intros <;> decide +kernel⟩,
   ⟨(netOk [(O.netEthCfg 3, 1), (O.netEthStatus 3, 0)] (can3 claim0)), 3, by and_intros <;> decide +kernel⟩,
   ⟨(netOk [(O.netEthCfg 3, 1), (O.netEthStatus 3, 1)] (can3 claim0)), 3, by and_intros <;> decide +kernel⟩,
   ⟨(netOk [(O.netEthCfg 3, 0x103)] (fun x => { x with csma := #v[false, false] })), 1, by and_intros <;> decide +kernel⟩,
   ⟨(netOk [(O.netEthCfg 3, 0x103)] (fun x => { x with csma := #v[true, true] })), 1, by and_intros <;> decide +kernel⟩,
   ⟨(netOk [] (fun x => { x with table := [(0, part0), (1, alias0)] })), 1, alias0, by and_intros <;> decide +kernel⟩,
   ⟨(netOk [] (fun x => can3 claim0 { x with sess := [sess0], nextKey := 5 })), 4, sess0, by and_intros <;> decide +kernel⟩,
   ⟨(netOk [(O.netMap 255, 9 + 8 * 256 + 0xEF00 * 2 ^ 32 + 10 * 2 ^ 112 + 8 * 2 ^ 96 + 255 * 2 ^ 24)] (can3 claim0)), 255, by and_intros <;> decide +kernel⟩,
   ⟨(netOk [] (fun x => can3 claim0 { x with tx := [{ msg0 with who := .map 0, period := 10 }, msg0] })), by decide +kernel⟩,
   ⟨(netOk [(O.netMap 255, 8 + 8 * 256 + 0xEF00 * 2 ^ 32 + 10 * 2 ^ 112 + 8 * 2 ^ 96 + 255 * 2 ^ 24)] (can3 claim0)), 255, by and_intros <;> decide +kernel⟩,
   ⟨(netOk [] (fun x => can3 claim0 { x with tx := [msg0] })), 3, 3, msg0, by and_intros <;> decide +kernel⟩,
   ⟨(netOk [(O.netEthCfg 3, 1), (O.netEthStatus 3, 1), (O.netEthIpv4 3, 77)] (can3 claim0)), 3, 77, by and_intros <;> decide +kernel⟩⟩

/-- States and operands that meet the hypotheses of each clause of `NetworkCommandsComplete`. -/
theorem witness_NetworkCommandsComplete :
    (∃ (s : State) (c : Cmd) (n : Fin 4), Front s 0x0901 c ∧ c.payload = [BitVec.ofNat 8 n, 0, 0, 0] ∧ Permits s c (some 10) 2 ∧ s.canMode n ≠ 0 ∧ s.getO O.netName ≠ 0) ∧
    (∃ (s : State) (c : Cmd) (n : Fin 4) (a : Fin 254), Front s 0x0902 c ∧ c.payload = [BitVec.ofNat 8 n, BitVec.ofNat 8 a, 0, 0] ∧ Permits s c (some 10) 2 ∧ s.canMode n ≠ 0 ∧ s.getO O.netName ≠ 0 ∧ s.net.can[n].busOff = false) ∧
    (∃ (s : State) (c : Cmd) (a : Nat) (n : Nat), Front s 0x0903 c ∧ c.payload = toLe 2 a ++ toLe 2 n ∧ 0 < n ∧ n ≤ 127 ∧ a + n ≤ 6144 ∧ s.lc ≠ 4 ∧ s.ilShort (some 10) false = none) ∧
    (∃ (s : State) (c : Cmd) (i : Nat) (p : Partner) (pin : Fin 2), Front s 0x0904 c ∧ c.payload = toLe 2 i ++ [BitVec.ofNat 8 pin, 0] ∧ i < 6144 ∧ Permits s c (some 10) 2 ∧ s.pGet i = some p ∧ p.kind = 1) ∧
    (∃ (s : State) (c : Cmd) (n : Fin 4) (prio : Fin 8) (da : BitVec 8) (pgn : BitVec 18) (data : List (BitVec 8)), Front s 0x0905 c ∧ c.payload = [BitVec.ofNat 8 (2 ^ n.val), BitVec.ofNat 8 prio, da, 0] ++ toLe 4 pgn.toNat ++ data ∧ 1 ≤ data.length ∧ data.length ≤ 8 ∧ Permits s c (some 10) 2 ∧ s.canReady n = true ∧ isEzdal pgn.toNat = false) :=
  ⟨⟨(mail 0x0901 ([3, 0, 0, 0]) (netOk [] (can3 claim0))), (cmdOf 0x0901 ([3, 0, 0, 0])), 3, by and_intros <;> decide +kernel⟩,
   ⟨(mail 0x0902 ([3, 253, 0, 0]) (netOk [] (can3 claim0))), (cmdOf 0x0902 ([3, 253, 0, 0])), 3, 253, by and_intros <;> decide +kernel⟩,
   ⟨(mail 0x0903 (toLe 2 6017 ++ toLe 2 127) (netOk [] (can3 claim0))), (cmdOf 0x0903 (toLe 2 6017 ++ toLe 2 127)), 6017, 127, by and_intros <;> decide +kernel⟩,
   ⟨(mail 0x0904 (toLe 2 6143 ++ [1, 0]) (netOk [] (fun x => { x with table := [(6143, part0)] }))), (cmdOf 0x0904 (toLe 2 6143 ++ [1, 0])), 6143, part0, 1, by and_intros <;> decide +kernel⟩,
   ⟨(mail 0x0905 ([8, 7, 255, 0] ++ toLe 4 0x3EF00 ++ [1, 2, 3, 4, 5, 6, 7, 8]) (netOk [] (can3 claim0))), (cmdOf 0x0905 ([8, 7, 255, 0] ++ toLe 4 0x3EF00 ++ [1, 2, 3, 4, 5, 6, 7, 8])), 3, 7, 255, 0x3EF00, ([1, 2, 3, 4, 5, 6, 7, 8]), by and_intros <;> decide +kernel⟩⟩

end Sys2Proof.Tests
end

section
/-! SUPPORT. The event rings (R70, R71): what posting, dropping and settling do to a ring, what an event leaves of a port, and what a new
EVT_TAIL does. -/

-- One declaration at a time: side by side, their threads take the compile of the whole text past its memory limit.
set_option Elab.async false

namespace Sys2Proof.Machine

namespace HostPort

/-! ### One ring -/

theorem post_full {p : HostPort} (h : p.full = true) (e : Evt) : p.post e = p.drop 1 := if_pos h

theorem post_notFull {p : HostPort} (h : p.full = false) (e : Evt) : p.post e = p.write e := if_neg (by simp [h])

/-- The entry written stands where EVT_HEAD stood. -/
theorem write_ring_head (p : HostPort) (e : Evt) : (p.write e).ring[p.head % 64]'(Nat.mod_lt _ (by decide)) = e :=
  Vector.getElem_set_self _

/-- A write at EVT_HEAD leaves every other entry. -/
theorem write_ring_other (p : HostPort) (e : Evt) {k : Fin 64} (h : k.val ≠ p.head % 64) : (p.write e).ring[k] = p.ring[k] :=
  Vector.getElem_set_ne (Nat.mod_lt _ (by decide)) k.isLt h.symm

theorem settle_notFull {p : HostPort} (hf : p.full = false) (hd : p.dropped ≠ 0) (stamp : Axt) :
    p.settle stamp = { p.write { code := 0x0056, source := 0, stamp, data := p.dropped } with dropped := 0 } := if_pos ⟨hd, hf⟩

/-- One free entry is a ring that is not full. -/
theorem full_of_room_one {p : HostPort} (h : p.room = 1) : p.full = false := by
  simp only [room, full, beq_eq_false_iff_ne] at h ⊢
  omega

/-- Two events before one free entry: both are dropped, and EV_EVT_OVERFLOW takes the entry (R71). -/
theorem post2_room_one {p : HostPort} (h : p.room = 1) (e f : Evt) :
    p.post2 e f = { (p.drop 2).write { code := 0x0056, source := 0, stamp := e.stamp, data := p.dropped + 2 } with dropped := 0 } := by
  have hf : (p.drop 2).full = false := full_of_room_one h
  rw [post2, if_pos (by omega), settle_notFull hf (by simp [drop])]
  rfl

/-! ### What an event leaves of a port -/

theorem post_bells (p : HostPort) (e : Evt) : (p.post e).bells = p.bells := by
  unfold post
  split <;> rfl

theorem settle_bells (p : HostPort) (t : Axt) : (p.settle t).bells = p.bells := by
  unfold settle
  split <;> rfl

theorem post2_bells (p : HostPort) (e f : Evt) : (p.post2 e f).bells = p.bells := by
  unfold post2
  split
  · exact settle_bells _ _
  · rfl

end HostPort

namespace State

/-! ### The ports of a state -/

/-- EVENT records of HPN change no port. -/
@[simp] theorem hpnNew_hosts (s : State) (old : Nat) : (s.hpnNew old).hosts = s.hosts :=
  (hpnNew_keeps (Keeps.refl [.sent, .hpn] s) (List.Subset.refl _)).part .hosts

theorem modHost_same (s : State) (h : Fin 4) (f : HostPort → HostPort) : (s.modHost h f).hosts[h] = f s.hosts[h] := by simp

/-- A step under a condition that changes no port changes none where it does not apply either. -/
theorem when_hosts {s : State} {c : Bool} {f : State → State} (hf : (f s).hosts = s.hosts) : (s.when c f).hosts = s.hosts := by
  cases c
  · rfl
  · exact hf

/-- A new EVT_TAIL inside the span up to EVT_HEAD: the port takes it and settles (R70, R71). -/
theorem setTail_host (s : State) (h : Fin 4) (t : Nat)
    (hin : (t % 128 + 128 - (s.hosts[h]).tail) % 128 ≤ ((s.hosts[h]).head + 128 - (s.hosts[h]).tail) % 128) :
    (s.setTail h t).hosts[h] = ({ s.hosts[h] with tail := t % 128 } : HostPort).settle (s.followerStamp .hf) := by
  rw [setTail, if_pos hin, when_hosts (hpnNew_hosts _ _), modHost_same]

end State

/-- Settles O16: a full ring drops the event, any other takes it at EVT_HEAD, and the entry that a new EVT_TAIL frees, or that two dropped
events leave, takes EV_EVT_OVERFLOW. -/
theorem ringOverflow : Obligations.RingOverflow := by
  unfold Obligations.RingOverflow
  refine ⟨fun p e => ⟨fun hf => ?full, fun hf => ?room⟩, fun p e f h1 => ?two, fun s h tail hd hin hf => ?freed⟩
  case full =>
    rw [HostPort.post_full hf]
    exact ⟨rfl, rfl, rfl, rfl, rfl, rfl⟩
  case room =>
    rw [HostPort.post_notFull hf]
    exact ⟨p.write_ring_head e, rfl, rfl, rfl, fun k hk => p.write_ring_other e hk⟩
  case two =>
    rw [HostPort.post2_room_one h1]
    exact ⟨(p.drop 2).write_ring_head _, rfl, rfl, rfl⟩
  case freed =>
    have hroom : ({ s.hosts[h] with tail := tail % 128 } : HostPort).full = false := beq_eq_false_iff_ne.mpr hf
    rw [State.setTail_host s h tail hin, HostPort.settle_notFull hroom hd]
    exact ⟨HostPort.write_ring_head _ _, rfl, rfl⟩

end Sys2Proof.Machine
end

section
/-! SUPPORT. HP_STATUS (R56): its value as a sum of fields, what each of its bits shows, and what a write of it does. -/

-- One declaration at a time: side by side, their threads take the compile of the whole text past its memory limit.
set_option Elab.async false

namespace Sys2Proof.Machine

namespace State

/-! ### The fields of HP_STATUS -/

/-- The field of bits [23:16]: SC's interface level while BOOTING is 0. -/
def statusLevel (s : State) : Nat := if s.disp.booting then 0 else s.ilOf 4 % 256

theorem statusLevel_lt (s : State) : s.statusLevel < 256 := by
  unfold statusLevel
  split <;> omega

/-- A sum of powers of two raised from 0, one for each place of a list that a condition picks, is not 0 where a place is picked. -/
theorem foldl_pick_ne_zero {n : Nat} (c : Fin n → Prop) [DecidablePred c] (l : List (Fin n)) (a : Nat) :
    l.foldl (fun a k => if c k then a + 2 ^ k.val else a) a ≠ 0 ↔ a ≠ 0 ∨ ∃ k ∈ l, c k := by
  induction l generalizing a with
  | nil => simp
  | cons k l ih =>
    have hpos : 0 < 2 ^ k.val := Nat.two_pow_pos _
    rw [List.foldl_cons, ih]
    by_cases hk : c k <;> simp [hk]

/-- COMPL is not 0 where a slot is DONE (R55). -/
theorem complReg_ne_zero (s : State) (h : Fin 4) : s.complReg h ≠ 0 ↔ ∃ k : Fin 8, ((s.hosts[h]).slots[k]).st = .done := by
  unfold complReg
  rw [foldl_pick_ne_zero]
  simp

/-- HP_STATUS as the sum of its fields. -/
theorem statusReg_eq (s : State) (h : Fin 4) :
    s.statusReg h = 2 ^ 31 * s.disp.ready.toNat + 2 ^ 30 * s.disp.booting.toNat + 2 ^ 29 * s.safeNow.toNat +
      2 ^ 24 * (s.hosts[h]).sticky.ringErr.toNat + 2 ^ 16 * s.statusLevel + 2 ^ 15 * ((s.hosts[h]).head != (s.hosts[h]).tail).toNat +
      2 ^ 14 * (s.complReg h != 0).toNat + 2 ^ 13 * (s.hosts[h]).sticky.coll.toNat + 2 ^ 12 * (s.hosts[h]).sticky.wrIgn.toNat +
      2 ^ 11 * (s.hosts[h]).sticky.dbErr.toNat + 2 ^ 10 * (s.hosts[h]).sticky.leaseLost.toNat +
      2 ^ 9 * (s.hosts[h]).sticky.hbLapsed.toNat + 2 ^ 8 * (s.hosts[h]).sticky.evtOvf.toNat := by
  have hb : ∀ (v : Bool) (n : Nat), (if v then 2 ^ n else 0) = 2 ^ n * v.toNat := fun v n => by cases v <;> simp
  have hl : (if s.disp.booting then 0 else s.ilOf 4 % 256 * 2 ^ 16) = 2 ^ 16 * s.statusLevel := by
    unfold statusLevel
    split <;> omega
  simp only [statusReg, hb, hl]

/-- Twelve bits and a byte at their places in a word: each is read back, and the places between them read 0. -/
theorem status_fields (b31 b30 b29 b24 b15 b14 b13 b12 b11 b10 b9 b8 : Bool) (f v : Nat) (hf : f < 256)
    (hv : v = 2 ^ 31 * b31.toNat + 2 ^ 30 * b30.toNat + 2 ^ 29 * b29.toNat + 2 ^ 24 * b24.toNat + 2 ^ 16 * f + 2 ^ 15 * b15.toNat +
      2 ^ 14 * b14.toNat + 2 ^ 13 * b13.toNat + 2 ^ 12 * b12.toNat + 2 ^ 11 * b11.toNat + 2 ^ 10 * b10.toNat + 2 ^ 9 * b9.toNat +
      2 ^ 8 * b8.toNat) :
    (v.testBit 31 = b31 ∧ v.testBit 30 = b30 ∧ v.testBit 29 = b29 ∧ v.testBit 24 = b24 ∧ v.testBit 15 = b15 ∧ v.testBit 14 = b14 ∧
      v.testBit 13 = b13 ∧ v.testBit 12 = b12 ∧ v.testBit 11 = b11 ∧ v.testBit 10 = b10 ∧ v.testBit 9 = b9 ∧ v.testBit 8 = b8) ∧
    bitsOf v 28 25 = 0 ∧ bitsOf v 23 16 = f ∧ bitsOf v 7 0 = 0 := by
  have le : ∀ b : Bool, b.toNat ≤ 1 := Bool.toNat_le
  have bit : ∀ (n : Nat) (b : Bool), v / 2 ^ n % 2 = b.toNat → v.testBit n = b := fun n b h => by
    rw [Nat.testBit_eq_decide_div_mod_eq, h]
    cases b <;> rfl
  have := le b31; have := le b30; have := le b29; have := le b24; have := le b15; have := le b14
  have := le b13; have := le b12; have := le b11; have := le b10; have := le b9; have := le b8
  refine ⟨⟨?_, ?_, ?_, ?_, ?_, ?_, ?_, ?_, ?_, ?_, ?_, ?_⟩, ?_, ?_, ?_⟩
  iterate 12
    · apply bit
      omega
  all_goals
    simp only [bitsOf]
    omega

/-- What each bit of HP_STATUS shows. -/
theorem statusReg_fields (s : State) (h : Fin 4) :
    ((s.statusReg h).testBit 31 = s.disp.ready ∧ (s.statusReg h).testBit 30 = s.disp.booting ∧ (s.statusReg h).testBit 29 = s.safeNow ∧
      (s.statusReg h).testBit 24 = (s.hosts[h]).sticky.ringErr ∧ (s.statusReg h).testBit 15 = ((s.hosts[h]).head != (s.hosts[h]).tail) ∧
      (s.statusReg h).testBit 14 = (s.complReg h != 0) ∧ (s.statusReg h).testBit 13 = (s.hosts[h]).sticky.coll ∧
      (s.statusReg h).testBit 12 = (s.hosts[h]).sticky.wrIgn ∧ (s.statusReg h).testBit 11 = (s.hosts[h]).sticky.dbErr ∧
      (s.statusReg h).testBit 10 = (s.hosts[h]).sticky.leaseLost ∧ (s.statusReg h).testBit 9 = (s.hosts[h]).sticky.hbLapsed ∧
      (s.statusReg h).testBit 8 = (s.hosts[h]).sticky.evtOvf) ∧
    bitsOf (s.statusReg h) 28 25 = 0 ∧ bitsOf (s.statusReg h) 23 16 = s.statusLevel ∧ bitsOf (s.statusReg h) 7 0 = 0 :=
  status_fields _ _ _ _ _ _ _ _ _ _ _ _ _ _ s.statusLevel_lt (s.statusReg_eq h)

/-! ### A write of HP_STATUS -/

/-- A transaction of four bytes at 0x04 writes HP_STATUS and no other register (R52, R54). -/
theorem regSpan_status : regSpan 0x04 4 = [0x04] := by decide

/-- A write transaction that ends below the slots reaches no slot. -/
theorem busWrite_below (s : State) (h : Fin 3) {addr : Nat} {data : List Byte} (hd : addr + data.length ≤ 0x10000) :
    s.busWrite h addr data =
      (regSpan addr data.length).foldl (fun (s : State) o => s.regSet h o (fieldAt data (o - addr) 4)) (s.touch (spiHost h)) := by
  have hnone : ∀ k : Fin 8, data.drop (0x10000 + k.val * 0x1200 - addr) = [] := fun k => List.drop_eq_nil_of_le (by omega)
  have hfold : ∀ (l : List (Fin 8)) (u : State), l.foldl (fun (s : State) (_ : Fin 8) => s) u = u := fun l u => by
    induction l with
    | nil => rfl
    | cons _ _ ih => exact ih
  unfold busWrite
  simp only [hnone, List.take_nil, List.isEmpty_nil, if_true, hfold]

/-- The state after a write of HP_STATUS: the sticky bits written 1 are clear, and the port counts as active (R56, R72). -/
def statusCleared (s : State) (h : Fin 4) (w : Nat) : State :=
  (s.touch h).modHost h fun p => { p with sticky := clearSticky p.sticky w }

theorem portWrite_status (s : State) (h : Fin 3) {op : Byte} {data : List Byte} (hw : s.portWrites h op = true) (hd : data.length = 4) :
    s.portWrite h op 0x04 data = s.statusCleared (spiHost h) (fieldAt data 0 4) := by
  rw [portWrite, if_pos hw, busWrite_below s h (by omega), hd, regSpan_status]
  rfl

section Cleared
variable (s : State) (h : Fin 4) (w : Nat)

theorem statusCleared_host :
    (s.statusCleared h w).hosts[h] = { s.hosts[h] with active := true, sticky := clearSticky s.hosts[h].sticky w } := by
  simp [statusCleared, touch]

theorem statusCleared_complReg : (s.statusCleared h w).complReg h = s.complReg h := by
  simp only [complReg, statusCleared_host]

/-- A sticky bit of HP_STATUS after a write: clear where it was written 1, else as it was. -/
theorem statusCleared_sticky {b : Nat} (hb : b ∈ [24, 13, 12, 11, 10, 9, 8]) :
    ((s.statusCleared h w).statusReg h).testBit b = ((s.statusReg h).testBit b && !w.testBit b) := by
  have old := (s.statusReg_fields h).1
  have new := ((s.statusCleared h w).statusReg_fields h).1
  simp only [statusCleared_host] at new
  revert b
  simp [old, new, clearSticky]

/-- The bits of HP_STATUS that no write clears. -/
theorem statusCleared_other {b : Nat} (hb : b ∈ [31, 30, 29, 15, 14]) :
    ((s.statusCleared h w).statusReg h).testBit b = (s.statusReg h).testBit b := by
  have old := (s.statusReg_fields h).1
  have new := ((s.statusCleared h w).statusReg_fields h).1
  have hsafe : (s.statusCleared h w).safeNow = s.safeNow := rfl
  have hdisp : (s.statusCleared h w).disp = s.disp := rfl
  simp only [statusCleared_host, statusCleared_complReg, hsafe, hdisp] at new
  revert b
  simp [old, new]

end Cleared

end State

/-- Settles O23: each field of the sum read at its place, the sticky bits under a write, and the sum at reset. -/
theorem statusRegisterShows : Obligations.StatusRegisterShows := by
  unfold Obligations.StatusRegisterShows
  refine ⟨fun s h => ?shows, fun s h op data hw hd => ⟨_, rfl, ?write⟩, fun h => ?reset⟩
  case shows =>
    obtain ⟨⟨h31, h30, h29, h24, h15, h14, h13, h12, h11, h10, h9, h8⟩, hres, hlev, hlow⟩ := s.statusReg_fields h
    refine ⟨h31, h30, h29, hres, h24, fun hb => ?_, h15, ?_, h13, h12, h11, h10, h9, h8, hlow⟩
    · rw [hlev, State.statusLevel, hb]
      rfl
    · rw [h14, bne_iff_ne, State.complReg_ne_zero]
  case write =>
    rw [State.portWrite_status s h hw hd]
    exact ⟨fun b => s.statusCleared_sticky _ _, fun b => s.statusCleared_other _ _⟩
  case reset =>
    revert h
    decide +kernel

end Sys2Proof.Machine
end

section
/-! SUPPORT. Acceptance of posted commands (R61, R65 to R67): which host's turn it is, the state as it takes a slot, and what a response
leaves of the slots that still wait. -/

-- One declaration at a time: side by side, their threads take the compile of the whole text past its memory limit.
set_option Elab.async false

namespace Sys2Proof.Machine

namespace State

/-! ### Whose turn it is -/

/-- While HF is not READY no host's posted slots can be accepted (R67). -/
theorem acceptable_notReady {s : State} (hk : s.pwr.keepAlive = false) (hr : s.disp.ready = false) (h : Fin 4) : s.acceptable h = false := by
  simp [acceptable, hk, hr]

theorem acceptable_noBells {s : State} {h : Fin 4} (hb : s.hosts[h].bells = []) : s.acceptable h = false := by
  simp only [acceptable, hb]
  rfl

/-- A host that has posted, before a device that is READY and neither enters SLEEP nor pauses it (R67, R438). -/
theorem acceptable_posted {s : State} {h : Fin 4} {k : Fin 8} {rest : List (Fin 8)} (hk : s.pwr.keepAlive = false) (hr : s.disp.ready = true)
    (he : s.pwr.entering = none) (ha : s.pwr.asleep = false) (hp : s.paused h = false) (hb : s.hosts[h].bells = k :: rest) :
    s.acceptable h = true := by
  simp only [acceptable, hk, hr, he, ha, hp, hb]
  rfl

theorem nextHost_none {s : State} (h : ∀ j, s.acceptable j = false) : s.nextHost = none :=
  List.find?_eq_none.mpr fun j _ => by simp [h j]

/-- The round over the hosts leaves none out (R66). -/
theorem mem_round (l h : Fin 4) : h ∈ [1, 2, 3, 0].map fun d : Fin 4 => l + d := by
  revert l h
  decide

/-- The one host whose posted slots can be accepted is served next. -/
theorem nextHost_only {s : State} {h : Fin 4} (hh : s.acceptable h = true) (ho : ∀ g, g ≠ h → s.acceptable g = false) :
    s.nextHost = some h := by
  obtain ⟨j, hj⟩ : ∃ j, s.nextHost = some j :=
    Option.isSome_iff_exists.mp (List.find?_isSome.mpr ⟨h, mem_round _ h, hh⟩)
  have hja : s.acceptable j = true := List.find?_some hj
  have : j = h := Decidable.byContradiction fun hne => by simp [ho j hne] at hja
  rw [hj, this]

/-! ### The slot taken -/

/-- The state as the dispatcher takes the oldest posted slot of a host: the slot is ACCEPTED, its stamp noted, and the host's leases are
renewed (R65, R66, R80). -/
def taken (s : State) (h : Fin 4) (k : Fin 8) (rest : List (Fin 8)) : State :=
  let u := (s.modHost h fun p => { p with bells := rest }).modSlot h k fun x => { x with st := .accepted, acceptAxt := s.followerStamp .hf }
  ({ u with disp := { u.disp with last := h }, sec := { u.sec with cmdAt := u.sec.cmdAt.set h u.now } } : State).renew h

/-- Accepting the oldest posted slot of the host whose turn it is: a frame that fails its check is answered in the slot, any other joins
the accepted commands. -/
theorem accept_taken {s : State} {h : Fin 4} {k : Fin 8} {rest : List (Fin 8)} (hn : s.nextHost = some h) (hb : s.hosts[h].bells = k :: rest) :
    (∃ c r, c.host = h ∧ c.slot = k ∧ c.orphan = false ∧ s.accept = (s.taken h k rest).respond c r) ∨
      ∃ c, s.accept = (s.taken h k rest).modDisp fun d => { d with accepted := d.accepted ++ [c] } := by
  unfold accept
  rw [hn]
  dsimp only
  rw [hb]
  dsimp only
  split
  · exact .inl ⟨_, _, rfl, rfl, rfl, rfl⟩
  · exact .inr ⟨_, rfl⟩

theorem renew_last (s : State) (h : Fin 4) : (s.renew h).disp.last = s.disp.last := by
  unfold renew
  dsimp only
  split <;> rfl

theorem renew_host (s : State) (h : Fin 4) : (s.renew h).hosts[h] = { s.hosts[h] with renewedAt := s.now, lostSent := false } := by
  unfold renew
  dsimp only
  split <;> simp [orO]

theorem taken_last (s : State) (h : Fin 4) (k : Fin 8) (rest : List (Fin 8)) : (s.taken h k rest).disp.last = h := renew_last _ _

theorem taken_bells (s : State) (h : Fin 4) (k : Fin 8) (rest : List (Fin 8)) : (s.taken h k rest).hosts[h].bells = rest := by
  simp only [taken, renew_host]
  simp

theorem taken_slot (s : State) (h : Fin 4) (k : Fin 8) (rest : List (Fin 8)) : ((s.taken h k rest).hosts[h].slots[k]).st = .accepted := by
  simp only [taken, renew_host]
  simp

/-! ### What a response leaves -/

theorem onPorts_host (s : State) (f : Fin 4 → HostPort → HostPort) (h : Fin 4) : (s.onPorts f).hosts[h] = f h s.hosts[h] := by
  simp [onPorts]

theorem postDone_bells (s : State) (j : Fin 4) (code tag status : Nat) (reason : Option (Nat × Nat)) (h : Fin 4) :
    (s.postDone j code tag status reason).hosts[h].bells = s.hosts[h].bells := by
  cases reason with
  | none =>
    simp only [postDone, postTo, onPorts_host]
    split
    · exact HostPort.post_bells _ _
    · rfl
  | some ra =>
    simp only [postDone, onPorts_host]
    split
    · exact HostPort.post2_bells _ _ _
    · rfl

theorem modSlot_bells (s : State) (j : Fin 4) (k : Fin 8) (f : Slot → Slot) (h : Fin 4) :
    (s.modSlot j k f).hosts[h].bells = s.hosts[h].bells := by
  rw [modSlot_hosts]
  simp only [Fin.getElem_fin, Vector.getElem_set]
  split
  case isTrue hj => simp [hj]
  case isFalse => rfl

theorem sendHpn_hosts (s : State) (kind slot : Nat) (body : List Byte) : (s.sendHpn kind slot body).hosts = s.hosts :=
  (sendHpn_keeps (Keeps.refl [.sent, .hpn] s) (List.Subset.refl _)).part .hosts

theorem writeResponse_bells (s : State) (j : Fin 4) (k : Fin 8) (frame : List Byte) (h : Fin 4) :
    (s.writeResponse j k frame).hosts[h].bells = s.hosts[h].bells := by
  rw [writeResponse, when_hosts, modSlot_bells]
  exact sendHpn_hosts _ _ _ _

theorem cmdPause_hosts (s : State) (c : Cmd) : (s.cmdPause c).hosts = s.hosts :=
  (cmdPause_keeps (Keeps.refl [.thm] s) (List.Subset.refl _)).part .hosts

theorem respond_disp (s : State) (c : Cmd) (r : Reply) : (s.respond c r).disp = s.disp :=
  (respond_keeps (Keeps.refl [.sent, .hosts, .slots, .hpn, .thm] s) (List.Subset.refl _)).part .disp

/-- A response leaves the posted slots of every host waiting. -/
theorem respond_bells (s : State) (c : Cmd) (r : Reply) (h : Fin 4) : (s.respond c r).hosts[h].bells = s.hosts[h].bells := by
  rw [respond, cmdPause_hosts]
  split
  · rfl
  · rw [← writeResponse_bells s c.host c.slot (respFrame c.code c.tag r) h]
    dsimp only [when]
    split
    · exact postDone_bells _ _ _ _ _ _ _
    · rfl

end State

/-- Settles O55: no host is served while READY is 0; once it is 1 the only host that has posted is served, its oldest slot first. -/
theorem postedWaitForReady : Obligations.PostedWaitForReady := by
  unfold Obligations.PostedWaitForReady
  refine fun s hk => ⟨fun hr => ⟨_, rfl, ?wait⟩, fun h k rest hr he ha hp hb ho => ⟨_, rfl, ?serve⟩⟩
  case wait =>
    have hn : s.nextHost = none := State.nextHost_none (State.acceptable_notReady hk hr)
    have hs : s.accept = s := by simp only [State.accept, hn]
    rw [hs]
    exact fun _ _ h => h
  case serve =>
    have hn : s.nextHost = some h :=
      State.nextHost_only (State.acceptable_posted hk hr he ha hp hb) fun g hg => State.acceptable_noBells (ho g hg)
    obtain ⟨c, r, rfl, rfl, hc, hs⟩ | ⟨c, hs⟩ := State.accept_taken hn hb
    · rw [hs]
      exact ⟨(State.respond_bells _ _ _ _).trans (s.taken_bells _ _ _),
        (congrArg Disp.last (State.respond_disp _ _ _)).trans (s.taken_last _ _ _), .inr (State.respond_answered _ c r hc).1⟩
    · rw [hs]
      exact ⟨s.taken_bells _ _ _, s.taken_last _ _ _, .inl (s.taken_slot _ _ _)⟩

end Sys2Proof.Machine
end

section
/-! SUPPORT. Claims of a group (R19, R79): the owner field, the checks a claim passes, and what a claim answers and leaves. -/

-- One declaration at a time: side by side, their threads take the compile of the whole text past its memory limit.
set_option Elab.async false

namespace Sys2Proof.Machine

/-- The bits of a field after it was replaced. -/
theorem bitsOf_putBits (v hi lo x : Nat) : bitsOf (putBits v hi lo x) hi lo = x % 2 ^ (hi + 1 - lo) := by
  unfold putBits bitsOf
  generalize hq : v / 2 ^ lo = q
  generalize hw : 2 ^ (hi + 1 - lo) = w
  have hlo : 0 < 2 ^ lo := Nat.two_pow_pos lo
  have hwpos : 0 < w := hw ▸ Nat.two_pow_pos _
  have hv : v = w * (q / w) * 2 ^ lo + q % w * 2 ^ lo + v % 2 ^ lo := by
    rw [← Nat.add_mul, Nat.div_add_mod, ← hq, Nat.div_add_mod']
  have hput : v - q % w * 2 ^ lo + x % w * 2 ^ lo = v % 2 ^ lo + (w * (q / w) + x % w) * 2 ^ lo := by
    rw [Nat.add_mul]
    omega
  rw [hput, Nat.add_mul_div_right _ _ hlo, Nat.div_eq_of_lt (Nat.mod_lt _ hlo), Nat.zero_add, Nat.mul_add_mod, Nat.mod_mod]

namespace State

/-! ### The owner of a group -/

/-- The owner of a group is what its field names. -/
theorem ownerField_of_owner {s : State} {g : Nat} {o : Fin 4} (h : s.owner g = some o) :
    bitsOf (s.getO O.sysHostLeaseOwner) (4 * g + 3) (4 * g) = o.val := by
  unfold owner at h
  dsimp only at h
  split at h
  · exact congrArg Fin.val (Option.some.inj h)
  · contradiction

theorem owner_of_ownerField {s : State} {g : Nat} {o : Fin 4} (h : bitsOf (s.getO O.sysHostLeaseOwner) (4 * g + 3) (4 * g) = o.val) :
    s.owner g = some o := by
  simp [owner, h]

/-- The owner field read by two states alike names the same owner. -/
theorem owner_keeps {l : List Part} {s t : State} (h : Keeps l s t) (hl : lacks l O.sysHostLeaseOwner = true) (g : Nat) :
    t.owner g = s.owner g := by
  simp only [owner, h.obj _ hl]

/-- A grant makes the host the owner (R79). -/
theorem owner_grant (s : State) (g : Nat) (h : Fin 4) : (s.grant g h).owner g = some h := by
  have hk : Keeps [.sent, .hosts, .later, .hpn] (s.setOwner g h) (s.grant g h) := postMasked_keeps (Keeps.refl _ _) (List.Subset.refl _)
  rw [owner_keeps hk (by decide)]
  apply owner_of_ownerField
  rw [setOwner, getO_setO_same, bitsOf_putBits]
  have : 4 * g + 3 + 1 - 4 * g = 4 := by omega
  rw [this]
  omega

/-! ### The checks of a claim -/

/-- The first check that fails answers, whatever stands behind it (R19). -/
theorem firstBad_behind {l : List Chk} {k : Chk} (rest : List Chk) (h : ∀ x ∈ l, x.bad = false) (hk : k.bad = true) :
    firstBad (l ++ k :: rest) = some k.reply := by
  have hl : l.find? (fun c => c.bad) = none := List.find?_eq_none.mpr fun x hx => by simp [h x hx]
  simp [firstBad, List.find?_append, hl, hk]

section Claim
variable {s : State} {c : Cmd} {g : Nat} {mode : Fin 2} (hg : g ≤ 13) (hp : c.payload = [BitVec.ofNat 8 g, BitVec.ofNat 8 mode, 0, 0])

include hg hp in
/-- The fields of a claim's payload (R79). -/
theorem claim_fields : fieldAt c.payload 0 1 = g ∧ fieldAt c.payload 1 1 = mode.val := by
  have hm := mode.isLt
  simp only [hp, fieldAt, leNat, List.drop_zero, List.drop_succ_cons, List.take_succ_cons, List.take_zero, BitVec.toNat_ofNat]
  omega

variable (hr : (if g ≤ 9 then 1 else 2) ≤ s.roleFor c) (hl : s.lc ≠ 4)

include hg hp hr hl in
/-- The checks that precede the look at the owner in the order of R19 let the claim pass. -/
theorem claim_passes : ∀ k ∈ [chkLen c 4, chk (13 < g || 1 < mode.val) St.range, chkZero c 2 2, chkLc s false false,
    chkRole s c (if g ≤ 9 then 1 else 2)], k.bad = false := by
  have hz : fieldAt c.payload 2 2 = 0 := by rw [hp]; rfl
  have hm := mode.isLt
  have hlen : c.payload.length = 4 := by rw [hp]; rfl
  simp only [List.forall_mem_cons, chkLen, chk, chkR, chkZero, chkLc, chkRole, hz, hlen]
  have hrange : (decide (13 < g) || decide (1 < mode.val)) = false :=
    Bool.or_eq_false_iff.mpr ⟨decide_eq_false (by omega), decide_eq_false (by omega)⟩
  exact ⟨rfl, hrange, rfl, by simp [hl], by simpa using hr, by simp⟩

include hg hp hr hl in
/-- A claim that the owner bars is refused, before the interface levels are looked at (R19). -/
theorem claimGroup_barred (hb : s.claimBarred c g mode.val = true) : claimGroup c s = (s, s.claimRefused g) := by
  obtain ⟨h0, h1⟩ := claim_fields hg hp
  unfold claimGroup
  rw [h0, h1]
  exact guarded_fail (firstBad_behind _ (claim_passes hg hp hr hl) hb)

variable (hi : s.ilShort (some g) false = none)

include hg hp hr hl hi in
/-- All the checks let a claim pass that the owner does not bar. -/
theorem claim_unbarred (hb : s.claimBarred c g mode.val = false) : ∀ k ∈ [chkLen c 4, chk (13 < g || 1 < mode.val) St.range, chkZero c 2 2,
    chkLc s false false, chkRole s c (if g ≤ 9 then 1 else 2), ⟨s.claimBarred c g mode.val, s.claimRefused g⟩, chkIl s (some g)],
    k.bad = false := by
  have hil : (chkIl s (some g)).bad = false := by simp only [chkIl, hi]; rfl
  exact List.forall_mem_append.mpr ⟨claim_passes hg hp hr hl, by simp [hb, hil]⟩

include hg hp hr hl hi in
/-- A claim of a free group grants it (R79). -/
theorem claimGroup_free (ho : s.owner g = none) : claimGroup c s = (s.grant g c.host, .ok [0xFF, 0, 0, 0]) := by
  obtain ⟨h0, h1⟩ := claim_fields hg hp
  have hb : s.claimBarred c g mode.val = false := by simp only [claimBarred, ho]
  unfold claimGroup
  rw [h0, h1, guarded_pass (claim_unbarred hg hp hr hl hi hb), ho]
  rfl

include hg hp hr hl hi in
/-- A claim by the present owner changes nothing (R79). -/
theorem claimGroup_own (ho : s.owner g = some c.host) : claimGroup c s = (s, .ok (toLe 1 c.host.val ++ [0, 0, 0])) := by
  obtain ⟨h0, h1⟩ := claim_fields hg hp
  have hb : s.claimBarred c g mode.val = false := by simp [claimBarred, ho]
  unfold claimGroup
  rw [h0, h1, guarded_pass (claim_unbarred hg hp hr hl hi hb), ho]
  exact if_pos rfl

include hg hp hr hl hi in
/-- A TAKEOVER claim of a higher rank ends the owner's lease and grants the group (R79). -/
theorem claimGroup_takeover {o : Fin 4} (ho : s.owner g = some o) (hne : o ≠ c.host) (hm : mode = 1)
    (hrank : s.claimRank g o < s.claimRank g c.host) :
    claimGroup c s = ((s.endLease g 2).grant g c.host, .ok (toLe 1 o.val ++ [0, 0, 0])) := by
  obtain ⟨h0, h1⟩ := claim_fields hg hp
  have hb : s.claimBarred c g mode.val = false := by simp [claimBarred, ho, hm, hrank]
  unfold claimGroup
  rw [h0, h1, guarded_pass (claim_unbarred hg hp hr hl hi hb), ho]
  exact if_neg hne

end Claim

theorem claimBarred_normal {s : State} {c : Cmd} {g : Nat} {o : Fin 4} (ho : s.owner g = some o) (hne : o ≠ c.host) :
    s.claimBarred c g 0 = true := by
  simp [claimBarred, ho, hne]

theorem claimBarred_lowRank {s : State} {c : Cmd} {g : Nat} {o : Fin 4} (mode : Nat) (ho : s.owner g = some o) (hne : o ≠ c.host)
    (hrank : s.claimRank g c.host ≤ s.claimRank g o) : s.claimBarred c g mode = true := by
  simp [claimBarred, ho, hne, hrank]

/-! ### The row -/

/-- CLAIM_GROUP answers what its body answers, and leaves each group the owner that its body leaves it. -/
theorem claimGroup_run {s : State} {c : Cmd} {u : State} {r : Reply} (hf : Front s 0x0110 c) (hu : claimGroup c s.popCmd = (u, r)) :
    Answered (s.runCmd 0x0110 claimGroup).heldSync c r ∧ ∀ g, (s.runCmd 0x0110 claimGroup).heldSync.owner g = u.owner g := by
  obtain ⟨ha, hk⟩ := runCmd_spec (body := claimGroup) hf
  rw [hu] at ha hk
  have hsync : Keeps [.ctx, .ptg, .adc, .amc, .fam O.lpeStatus 64, .fam O.amcFlags 6] (s.runCmd 0x0110 claimGroup)
      (s.runCmd 0x0110 claimGroup).heldSync := heldSync_keeps (Keeps.refl _ _) (List.Subset.refl _)
  exact ⟨ha.keeps hsync, fun g => (owner_keeps hsync (by decide) g).trans (owner_keeps hk (by decide) g)⟩

/-- A barred claim answers ST_NOT_OWNER with the group and its owner, who keeps it (R63, R79). -/
theorem claimGroup_run_barred {s : State} {c : Cmd} {g : Nat} {mode : Fin 2} {o : Fin 4} (hf : Front s 0x0110 c) (hg : g ≤ 13)
    (hp : c.payload = [BitVec.ofNat 8 g, BitVec.ofNat 8 mode, 0, 0]) (hr : (if g ≤ 9 then 1 else 2) ≤ s.roleFor c) (hl : s.lc ≠ 4)
    (ho : s.owner g = some o) (hb : s.claimBarred c g mode.val = true) :
    Answered (s.runCmd 0x0110 claimGroup).heldSync c (.err St.notOwner 0x0001 (g + 256 * o.val)) ∧
      (s.runCmd 0x0110 claimGroup).heldSync.owner g = some o := by
  obtain ⟨ha, hown⟩ := claimGroup_run hf (claimGroup_barred (s := s.popCmd) hg hp hr hl hb)
  have hrefused : s.popCmd.claimRefused g = .err St.notOwner 0x0001 (g + 256 * o.val) := by
    rw [claimRefused, ownerField_of_owner (s := s.popCmd) ho]
  rw [hrefused] at ha
  exact ⟨ha, (hown g).trans ho⟩

end State

/-- Settles O20: a claim that its owner bars fails the one check whose answer names the owner; any other passes all checks, and its effect
stands under the response. -/
theorem claimRules : Obligations.ClaimRules := by
  unfold Obligations.ClaimRules
  refine fun s c g mode hf hg hp hr hl => ⟨fun ho hi => ⟨_, rfl, ?free⟩, fun o ho => ⟨_, rfl, ?own, ?normal, ?takeover, ?lowRank⟩⟩
  case free =>
    obtain ⟨ha, hown⟩ := State.claimGroup_run hf (State.claimGroup_free (s := s.popCmd) hg hp hr hl hi ho)
    exact ⟨ha, (hown g).trans (State.owner_grant _ _ _)⟩
  case own =>
    rintro rfl hi
    obtain ⟨ha, hown⟩ := State.claimGroup_run hf (State.claimGroup_own (s := s.popCmd) hg hp hr hl hi ho)
    exact ⟨ha, (hown g).trans ho⟩
  case takeover =>
    intro hne hm hrank hi
    obtain ⟨ha, hown⟩ := State.claimGroup_run hf (State.claimGroup_takeover (s := s.popCmd) hg hp hr hl hi ho hne hm hrank)
    exact ⟨ha, (hown g).trans (State.owner_grant _ _ _)⟩
  case normal =>
    rintro hne rfl
    exact State.claimGroup_run_barred hf hg hp hr hl ho (State.claimBarred_normal ho hne)
  case lowRank =>
    intro hne _ hrank
    exact State.claimGroup_run_barred hf hg hp hr hl ho (State.claimBarred_lowRank _ ho hne hrank)

end Sys2Proof.Machine
end
